-- ==== Sys2Proof/Word.lean ====
section
/-!
DEFINITION. Word.lean: the 32-bit register word and its plainest arithmetic.
-/

namespace Sys2Proof

/-- One register word (R37): every access is one aligned 32-bit word. -/
abbrev Word := BitVec 32

/-- The field of `len` bits whose lowest bit is `lo`, as a number. -/
def Word.field (w : Word) (lo len : Nat) : Nat := (w.toNat >>> lo) % 2 ^ len

/-- Bit `i` of a word. -/
def Word.bit (w : Word) (i : Nat) : Bool := w.getLsbD i

/-- A number placed in the field that starts at bit `lo`. -/
def Word.place (n lo : Nat) : Word := BitVec.ofNat 32 (n <<< lo)

/-- A flag placed at bit `lo`. -/
def Word.flag (b : Bool) (lo : Nat) : Word := if b then BitVec.ofNat 32 (1 <<< lo) else 0

/-- Two words joined: the first is the upper half. -/
def Word.join (hi lo : Word) : BitVec 64 := hi ++ lo

/-- The `k`-th 32-bit part of a number, counted from the least significant. -/
def Word.part (n k : Nat) : Word := BitVec.ofNat 32 (n >>> (32 * k))

/-- The bits of `old` outside `mask` and of `new` inside it. -/
def Word.merge (old new mask : Word) : Word := (old &&& ~~~mask) ||| (new &&& mask)

end Sys2Proof
end

