-- ==== Sys2Proof/Syntax.lean ====
section
/-!
DEFINITION. Syntax.lean: the commands the block takes, one constructor per row of the table of
operations and events. A register-write row carries the master that writes and, where the row takes
data, the word written; an event of a lane, thread, tap or other numbered unit carries its number.
-/

namespace Sys2Proof

/-- The register masters (R44): the host port, controller firmware and remote management over each
plane, in the order of their MASTER code in GLB_ACCFAULT. -/
inductive Master where
  | host | firmware | remoteA | remoteB
deriving DecidableEq, Repr

/-- A register page number (R37). -/
abbrev Page := Fin 64
/-- A lane port (R38): 0 and 1 in the die role, 0 to 65 in the hub role. -/
abbrev Port := Fin 66
/-- A remote-register-access tag (R127). -/
abbrev Tag := Fin 16
/-- A servo channel (R38). -/
abbrev Channel := Fin 2
/-- A reference input, REF0 to REF7. -/
abbrev RefIn := Fin 8
/-- A pulse output, PO0 to PO7. -/
abbrev OutPin := Fin 8
/-- A region tap (R7). -/
abbrev Tap := Fin 256
/-- A trigger line (R7). -/
abbrev Line := Fin 1024
/-- A watched engine (R7). -/
abbrev Engine := Fin 1024
/-- A deterministic crossing (R7). -/
abbrev Crossing := Fin 1024
/-- A sequencer thread (R7). -/
abbrev Thread := Fin 32
/-- A MAC timestamp tap (R7). -/
abbrev MacTap := Fin 64
/-- A core slot of the semaphore request channel (R7). -/
abbrev Slot := Fin 1024
/-- A semaphore number as the request channel carries it: 16 bits, of which those above 49,151 name none (R249, R368). -/
abbrev Sem := BitVec 16
/-- A semaphore (R7). -/
abbrev SemIdx := Fin 49152
/-- A gate-table entry (R7). -/
abbrev GateIdx := Fin 4096
/-- A pending-buffer entry (R7). -/
abbrev PendIdx := Fin 512
/-- A group-table entry index (R7). -/
abbrev GIdx := Fin 4096

/-- A die's group-table entry index (R270). -/
abbrev DieGIdx := Fin 256
/-- An agent (R246): core slots 0 to 1,023, then threads 0 to 31. -/
abbrev Agent := Fin 1056

/-- What chain calibration measured on one hop (R156): the mean round trip and the spread of the
round trips, in 1/64 tick. -/
structure HopMeas where
  trip : Nat
  spread : Nat
deriving DecidableEq, Repr

/-- The three declared PMA latencies of a port (R80). -/
inductive LatReg where
  | tx | rx | lb
deriving DecidableEq, Repr

/-- The Guard's six limit registers (R299). -/
inductive GuardLimit where
  | rateWin | rateSlew | stepLim | trigLim | poLim | wdCfg
deriving DecidableEq, Repr

/-- The three configuration registers of a histogram unit (R356). -/
inductive HsReg where
  | ucfg | ubase | uwidth
deriving DecidableEq, Repr

/-- The supply rails (R358). -/
inductive Rail where
  | vddAon | vddLys | vddioT | vddaTclk
deriving DecidableEq, Repr

/-- One lane cell: its twenty 32-bit words W0 to W19 (R87). -/
abbrev Cell := List Word

/-- A codeword on a lane (R79, R83): the header and the cells that its sender put into it, what the line has added to
its 544 symbols on the way, and the interpolator phase of its receive stamp. -/
structure Codeword where
  header : BitVec 20
  cells : List Cell
  errors : List (Fin 544 × BitVec 10)
  phase : Fin 64
deriving DecidableEq, Repr

/-- The kinds of PTP message (R149): Sync, Follow_Up, another event message, another general one. -/
inductive PtpKind where
  | sync | followUp | event | general
deriving DecidableEq, Repr

/-- A PTP message offered to its MAC tap's stamping point (R149, R179): the tap, the domain, the clock
that sent it, its kind, its sequence number, whether a Sync announces a Follow_Up, and
whether the tap has stamped it. -/
structure PtpMsg where
  tap : MacTap
  domain : BitVec 8
  src : Nat
  kind : PtpKind
  seq : BitVec 16
  twoStep : Bool
  stamped : Bool
deriving DecidableEq, Repr

/-- An edge of an engine's input at its tap: the engine, and the interpolator phase at which the tap samples it, in
1/64 tick (R166). -/
structure EngEdge where
  eng : Engine
  phase : Fin 64
deriving DecidableEq, Repr

/-- An edge at a region tap, of the region clock or of the region's reset acknowledge: the tap, and the interpolator
phase at which the tap stamps it, in 1/64 tick (R163, R166). -/
structure TapEdge where
  tap : Tap
  phase : Fin 64
deriving DecidableEq, Repr


/-- A command: one row of the table of operations and events. -/
inductive Instr where
  /-- REGISTER_WRITE (R46). A master writes a register that has no row of its own; the write takes effect as its access code, write rights, lock and Guard bounds allow. -/
  | registerWrite (m : Master) (a : BitVec 18) (w : Word)
  /-- PAGE_SOFT_RESET (R42). A write of 1 to CTRL.SRST returns the page's RW and RWL fields, HIST and state machines to reset, or is refused as ACC_SRST. -/
  | pageSoftReset (m : Master) (page : Page)
  /-- SOFT_RESET_HOLD_END (R42). The 16 to 64 cycle hold after a page soft reset ends, and the accesses held during it execute in arrival order. -/
  | softResetHoldEnd (page : Page)
  /-- CHSEL_WRITE (R45). A master writes its banked CHSEL; a channel number at or above ID.INST is refused as ACC_CHSEL. -/
  | chselWrite (m : Master) (page : Page) (w : Word)
  /-- LOCK_SET (R52). A master with write rights writes LOCK.LOCKED = 1, freezing the page's RWL fields and CTRL.SRST. -/
  | lockSet (m : Master) (page : Page)
  /-- LOCK_CLEAR (R52). The host port writes LOCKED = 0 with KEY 0xA55A to unlock the page; other clearing writes while locked are refused as ACC_LOCKED. -/
  | lockClear (m : Master) (page : Page) (w : Word)
  /-- RATE_STAGE (R66). A write to TK_RATE_HI stages the new RATE with the master's banked low word, after the Guard's window and slew bounds. -/
  | rateStage (m : Master) (w : Word)
  /-- STEP_ARM (R68). A write to TK_STEP2 arms a signed step, or is refused as STEP_BUSY when a step is already armed. -/
  | stepArm (m : Master) (w : Word)
  /-- ANCHOR_BOUNDARY (R64). Every 1,024 ticks the timekeeper re-anchors T, applies any armed step and takes any staged RATE. -/
  | anchorBoundary (faults : List Tap)
  /-- TIME_READ (R72). A read of TK_TIME_FRAC returns T[31:0] and latches the rest of T, the FRC and the qualifier for the reading master. -/
  | timeRead (m : Master)
  /-- TB_CAPTURE (R77). TB_CAPT.GO latches all four legacy time bases and native T on one tick. -/
  | tbCapture (m : Master)
  /-- TB_LOAD (R77). A write to TB_LOAD_NSHI replaces the time base's value at the next tick. -/
  | tbLoad (m : Master) (w : Word)
  /-- TB_ADJUST (R77). A write to TB_ADJ_NSHI adds a signed adjustment to the time base at the next tick. -/
  | tbAdjust (m : Master) (w : Word)
  /-- CAL (R81). A write of 1 to LN_PCTRL.CAL takes the port down if it is UP and starts its loopback check. -/
  | cal (m : Master)
  /-- LOOPBACK_CHECK_DONE (R81). The loopback check ends, writes LN_PMA_MEAS and sets or clears PMA_LAT_OK. -/
  | loopbackCheckDone (port : Port) (meas : BitVec 24)
  /-- PMA_LAT_WRITE (R81). A write to an LN_PMA_LAT register clears PMA_LAT_OK until the next loopback check. -/
  | pmaLatWrite (m : Master) (which : LatReg) (w : Word)
  /-- FORCE_DOWN (R107). A write that sets LN_PCTRL.FORCE_DOWN takes the port down and holds it DOWN. -/
  | forceDown (m : Master) (w : Word)
  /-- PORT_DISABLE (R107). A write that clears LN_PCTRL.PEN takes the port down. -/
  | portDisable (m : Master) (w : Word)
  /-- PORT_START (R104). A DOWN port whose conditions hold leaves, within 4 LCLK cycles, into CAL or TRAIN. -/
  | portStart (port : Port)
  /-- PMA_READY (R104). LN_PMA_RDY asserts and a port in TRAIN moves to LOCKING. -/
  | pmaReady (port : Port)
  /-- PMA_READY_LOSS (R107). LN_PMA_RDY deasserts and the lane goes down with reason 1. -/
  | pmaReadyLoss (port : Port)
  /-- CODEWORD_RECEIVE (R96). A codeword is decoded: each cell is checked for parity, sequence and buffer room, then accepted, NAKed or discarded, and its ACK and credit return are applied. -/
  | codewordReceive (port : Port) (cw : Codeword)
  /-- CODEWORD_LOCK (R84). After 4 good consecutive codewords, in either polarity, the receiver gains lock and the port moves to IDENT. -/
  | codewordLock (port : Port)
  /-- LOCK_LOSS (R84). After 8 consecutive bad codewords the receiver loses lock and the lane goes down. -/
  | lockLoss (port : Port)
  /-- CELL_SLOT (R93). At each cell slot the transmit scheduler sends a timing cell, a replay, an aged cell, a weighted round-robin choice or IDLE. -/
  | cellSlot (port : Port) (phase : Fin 64)
  /-- NAK_RECEIVE (R97). A received NAK frees the acknowledged cells and starts a replay, or counts as a spurious NAK. -/
  | nakReceive (port : Port)
  /-- REPLAY_TIMEOUT (R97). The replay timer expires and the unacknowledged cells are resent, or the lane goes down as REPLAY_EXH. -/
  | replayTimeout (port : Port)
  /-- TICK_SEND (R100). Every 40th codeword a Lyspen sends a TICK from its own time on each lane that is UP. -/
  | tickSend (port : Port)
  /-- TICK_RECEIVE (R100). A received TICK is paired with the stamp of the previous TICK to form a servo offset sample, and it carries T3 and the crown's flags. -/
  | tickReceive (port : Port)
  /-- PREQ_SEND (R101). Every LN_PROBE.INT each end of a lane sends a probe request. -/
  | preqSend (port : Port)
  /-- PREQ_RECEIVE (R101). A probe request is answered with a PRSP carrying its receive time T2. -/
  | preqReceive (port : Port)
  /-- PRSP_RECEIVE (R101). A probe response is taken and held until its T3 arrives. -/
  | prspReceive (port : Port)
  /-- PROBE_ABANDON (R101). A probe whose PRSP or T3 has not arrived 82 µs after T1 is abandoned. -/
  | probeAbandon (port : Port)
  /-- MKR_TIMEOUT (R102). A lane with no valid TICK for 4.096 µs loses TQUAL and restarts qualification. -/
  | mkrTimeout (port : Port)
  /-- IDENT_SEND (R104). A port sends IDENT at least every 1 µs in IDENT, every 1 ms while UP, and within 1 µs of a change to a field it carries. -/
  | identSend (port : Port)
  /-- IDENT_RECEIVE (R105). A peer IDENT is recorded, acknowledged and checked for version and wiring faults. -/
  | identReceive (port : Port)
  /-- IDENT_ACK_RECEIVE (R104). An IDENT_ACK of the port's own IDENT is received. -/
  | identAckReceive (port : Port)
  /-- LANE_RESET (R364). LN_RST_N goes low and resets the port's LLF state, queues and replay buffer. -/
  | laneReset (port : Port)
  /-- TRACE_RECEIVE (R119). A TRACE is forwarded up with MAXUID and HOPS updated, dropped, or, on a cycle, the hub with the highest UID refuses its upstream. -/
  | traceReceive (port : Port)
  /-- ROOT_TIMER_EXPIRY (R114). A hub's root timer reaches ROOTWAIT and the hub enters CROWN or CROWNLESS. -/
  | rootTimerExpiry
  /-- REFLECT_RECEIVE (R116). A REFLECT gives a Lyspen its crown, epoch, address and level, and the Lyspen sends its own REFLECT downward; stale ones are discarded. -/
  | reflectReceive (port : Port)
  /-- SUMMARY_SEND (R120). A hub sends a SUMMARY of its subtree up its active upstream, no more than once per TR_PACE. -/
  | summarySend
  /-- SUMMARY_RECEIVE (R120). A SUMMARY from a child updates the hub's subtree totals, and the crown's tree census. -/
  | summaryReceive (port : Port)
  /-- CLAIM (R118). TR_CTRL.CLAIM makes an ORPHAN or CONFLICT hub a crown. -/
  | claim (m : Master)
  /-- YIELD (R117). TR_CTRL.YIELD makes a CONFLICT hub join the crown above it. -/
  | yield (m : Master)
  /-- REVERT_NOW (R126). TR_CTRL.REVERT_NOW returns a hub to its primary upstream. -/
  | revertNow (m : Master)
  /-- START_SLOW (R123). A Lyspen that is not LOCKED 1 s after its first lane went UP sets START_SLOW. -/
  | startSlow
  /-- MLOSS_RECEIVE (R125). A hub applies a received MLOSS to its tree census and group entries, queues a copy, and forwards it within 100 ns. -/
  | mlossReceive (port : Port)
  /-- RRA_GO (R127). A write of TR_RRA_GO issues a remote register request, or queues a NOROUTE or BUSY response. -/
  | rraGo (m : Master) (w : Word)
  /-- RREQ_RECEIVE (R127). A hub routes an RREQ by the target address, or discards it with a NOROUTE response. -/
  | rreqReceive (port : Port)
  /-- RREQ_EXECUTE (R128). The target die executes an RREQ as a remote-management access and returns an RRSP. -/
  | rreqExecute (port : Port)
  /-- RRSP_RECEIVE (R129). An RRSP is routed up, or at the issuer frees its tag and is queued; a late response is discarded. -/
  | rrspReceive (port : Port)
  /-- RRA_TMO (R129). A tag outstanding for TR_RRA_TMO is freed and a TIMEOUT response is queued. -/
  | rraTmo (tag : Tag)
  /-- RRSP_POP (R129). A read of TR_RRSP0 pops one response and latches its data. -/
  | rrspPop (m : Master)
  /-- INOTE_RECEIVE (R130). An interrupt notice rises to the first hub with MGMT_NOTE set, which queues it, merges it or discards it. -/
  | inoteReceive (port : Port)
  /-- INQ_POP (R130). A read of TR_INQ0 pops one interrupt notice. -/
  | inqPop (m : Master)
  /-- MLQ_POP (R125). A read of TR_MLQ0 pops one member-loss entry. -/
  | mlqPop (m : Master)
  /-- OFFSET_WINDOW_END (R133). At the end of each 64-tick-period window SV_OFFSET is updated from the valid samples, or OFFVALID is cleared. -/
  | offsetWindowEnd
  /-- HOLDOVER_TIMER_EXPIRY (R143). SV_HOTIMER reaches 0 and the state becomes HOLD_EXPIRED. -/
  | holdoverTimerExpiry
  /-- HORDY (R139). After HORDY_S seconds of continuous LOCKED, HOLDOVER_READY is set. -/
  | hordy
  /-- FREQ_LOCK (R140). The PLL phase error stays within ±50 ps for 1 ms and FREQ_LOCKED is set. -/
  | freqLock
  /-- FLOCK_LOST (R140). The PLL loses frequency lock, which is reported. -/
  | flockLost
  /-- SV_SWITCH (R141). SV_CMD.SWITCH requests a switch to the other channel, which is taken only if that channel is good. -/
  | svSwitch (m : Master)
  /-- FORCE_ACQ (R137). SV_CMD.FORCE_ACQ forces the servo out of LOCKED into ACQUIRE. -/
  | forceAcq (m : Master)
  /-- BUILD_OUT_DECAY (R142). Every 1 µs the build-out moves towards 0 at its slew. -/
  | buildOutDecay
  /-- PLANE_REVERT (R141). With PREVERT set, a die returns to channel 0 after it has been good for 10 s. -/
  | planeRevert
  /-- RELEARN (R134). SV_CCMD.RELEARN discards SV_MPDREF, so delay learning restarts. -/
  | relearn (m : Master)
  /-- ASYM_OK (R136). SV_CCMD.ASYM_OK clears ASYM_UNCAL. -/
  | asymOk (m : Master)
  /-- ASYM_WRITE (R136). A write to LN_ASYM sets ASYM_UNCAL on that port's channel. -/
  | asymWrite (m : Master) (w : Word)
  /-- REF_SIGNAL_LOSS (R145). A reference's signal is lost and the reference is disqualified at once. -/
  | refSignalLoss (ref : RefIn)
  /-- REF_QUAL (R146). A reference whose conditions have held for the hold-off is qualified. -/
  | refQual (ref : RefIn)
  /-- REF_DISQ (R146). A frequency or phase excursion disqualifies a reference within 1 s. -/
  | refDisq (ref : RefIn)
  /-- WTR_EXPIRY (R146). The wait-to-restore of a re-qualified reference ends and it becomes eligible. -/
  | wtrExpiry (ref : RefIn)
  /-- RF_RCFG_WRITE (R145). A reference configuration write is taken, or refused as CFG_BAD and held disabled. -/
  | rfRcfgWrite (m : Master) (w : Word)
  /-- RF_FORCE_WRITE (R147). A write to RF_FORCE forces the named reference while it is qualified. -/
  | rfForceWrite (m : Master) (w : Word)
  /-- REF_EDGE (R191). A REFn_IN rising edge is stamped at 1/64 tick. -/
  | refEdge (pin : OutPin) (phase : Fin 64)
  /-- TOD_SENTENCE (R149). A time-of-day sentence is stamped and paired with its pulse, or discarded as TOD_BAD. -/
  | todSentence (uart : Fin 2) (ok : Bool) (utc : BitVec 40)
  /-- PTP_MESSAGE (R149). A PTP message reaches the crown's slave stack and is used or discarded as PTP_DISC. -/
  | ptpMessage (msg : PtpMsg)
  /-- HO_TRACE (R150). Crown holdover reaches RF_HOTRACE seconds and TRACEABLE is cleared. -/
  | hoTrace
  /-- CHAIN_CAL (R156). RT_CMD.CAL, or bring-up, starts calibration of the tap chain. -/
  | chainCal (m : Master)
  /-- CHAIN_CAL_DONE (R156). Chain calibration completes, setting TRIM, HOP_TICKS and CAL_OK, or TAP_UNCAL. -/
  | chainCalDone (hops : List HopMeas)
  /-- DRIFT_CHECK (R157). Every 64 µs a tap compares its echo round trip with calibration and moves TRIM, or loses CAL_OK. -/
  | driftCheck (tap : Tap) (trip : BitVec 16)
  /-- ARM_ARRIVE (R206). A trigger arm reaches its tap and is placed, refused as TRIG_BUSY or by a Guard bound, or marked tardy. -/
  | armArrive (line : Line)
  /-- TAP_MOMENT (R160). At the tick holding a trigger's tap moment the tap tests launch authority and either proceeds, withholds or discards the trigger. -/
  | tapMoment (line : Line)
  /-- FIRE_EDGE (R159). The trigger line asserts for one region cycle on the first region edge at or after the tap moment, and ΔT_fire is recorded. -/
  | fireEdge (line : Line) (phase : Fin 64)
  /-- REGION_PERIOD_END (R164). A region period ends; a stretched period adds to RT_ACC and the report counters. -/
  | regionPeriodEnd (edge : TapEdge) (period : BitVec 24)
  /-- XC_STROBE (R169). A source write strobe on a crossing computes its release boundary. -/
  | xcStrobe (xc : Crossing) (phase : Fin 64)
  /-- XC_RELEASE (R169). The crossing's release is driven on the target destination edge, or is retaken later as a slip. -/
  | xcRelease (xc : Crossing) (phase : Fin 64) (retaken : Bool)
  /-- XCAL (R168). RT_TCMD.XCAL, or an uncalibrated operating-point pair, starts calibration of the tap's crossings. -/
  | xcal (m : Master)
  /-- XCAL_DONE (R168). Crossing calibration stores L_path, or reports XCAL_FAIL. -/
  | xcalDone (tap : Tap) (lat0 : BitVec 8) (lat1 : BitVec 8) (lat2 : BitVec 8) (lat3 : BitVec 8)
  /-- STOPREQ (R172). The host raises RT_STOPREQ and the tap answers STOPACK within 4 region cycles. -/
  | stopreq (tap : Tap)
  /-- REGION_RUN (R172). The host raises RT_RUN with a new operating point; the stop is recorded and the region is anchored. -/
  | regionRun (edge : TapEdge) (op : Fin 4)
  /-- OPCAL_DONE (R174). After 4,096 edges at an operating point its nominal period is stored in RT_OPCALn. -/
  | opcalDone (tap : Tap) (period : BitVec 24)
  /-- HEARTBEAT (R320). An engine heartbeat edge restarts its heartbeat timer. -/
  | heartbeat (edge : EngEdge)
  /-- ENGINE_DONE (R320). An engine's done input rises, restarting its timer and ending a solo wait. -/
  | engineDone (edge : EngEdge)
  /-- ENG_START (R332). An engine presents ENG_START with its context word, which the tap logs. -/
  | engStart (edge : EngEdge) (ctx : Word)
  /-- ENG_RACK (R327). An engine acknowledges its reset, ending its escalation episode as recovered. -/
  | engRack (edge : EngEdge)
  /-- RGN_RACK (R327). A region acknowledges its reset, ending the episodes of its engines. -/
  | rgnRack (edge : TapEdge)
  /-- ENG_STATUS (R324). An engine returns its 64 status words into the capsule. -/
  | engStatus (eng : Engine) (words : List Word)
  /-- TX_SOF (R180). A transmit start-of-frame strobe is stamped and enters the tap's transmit queue, or is dropped when the queue is full. -/
  | txSof (tap : MacTap) (fid : BitVec 16) (cls : BitVec 2) (phase : Fin 64)
  /-- RX_SOF (R179). A receive start-of-frame strobe is stamped and returned on RXTS in strobe order. -/
  | rxSof (tap : MacTap) (cls : BitVec 2) (phase : Fin 64)
  /-- PLUMB_SEND (R182). Every TS_PLINT.INT the tap raises PL_REQ and offers its plumb payload. -/
  | plumbSend (tap : MacTap)
  /-- PLUMB_RECEIVE (R183). A plumb payload forms an exchange of θ and delay, and a window may enter or leave alarm or set SUSPECT. -/
  | plumbReceive (tap : MacTap) (pay : List Word)
  /-- PLUMB_TIMEOUT (R182). A plumb payload not delivered within 2 µs of its strobe is discarded as PL_DISC. -/
  | plumbTimeout (tap : MacTap)
  /-- TXQ_POP (R180). A read of TS_TXQ0 pops the oldest transmit stamp for every master. -/
  | txqPop (m : Master)
  /-- SWEVT (R181). A SWEVT rising edge is stamped by firmware into the software queue, or is lost. -/
  | swevt (input : Fin 4)
  /-- SWQ_POP (R181). A read of TS_SWQ0 pops one software stamp. -/
  | swqPop (m : Master)
  /-- PULSE_ARM (R187). PO_CTRL.ARM arms the output with its mode and timing, or the arm is refused while the output is armed or by a Guard bound. -/
  | pulseArm (m : Master) (w : Word)
  /-- PULSE_DISARM (R187). PO_CTRL.DISARM disarms the output, and a pulse that is high completes its width. -/
  | pulseDisarm (m : Master)
  /-- PULSE_EDGE (R186). A pulse output's rising or falling edge falls due in Lyspen time and is driven. -/
  | pulseEdge (out : OutPin)
  /-- SHORT (R192). An output over its current limit for 10 µs is disabled and reported. -/
  | short (out : OutPin)
  /-- SHORT_RETRY (R192). Every 100 ms a disabled output is retried for 10 µs. -/
  | shortRetry (out : OutPin) (still : Bool)
  /-- OPEN_LOAD (R192). An open load on a terminated output is detected after 1 µs. -/
  | openLoad (out : OutPin)
  /-- OPEN_IN (R192). Bias sensing detects an open input after 1 ms. -/
  | openIn (pin : OutPin)
  /-- PPS_INV (R192). An inverted 1PPS is detected after 3 s and is corrected or held as signal lost. -/
  | ppsInv (pin : OutPin)
  /-- UART_INV (R192). A UART line idle low for 100 ms with activity is detected as inverted. -/
  | uartInv (uart : Fin 2)
  /-- THREAD_START (R195). SQ_TCTRL.START latches a thread's group, PC, course and base and puts it in CWAIT or RUN. -/
  | threadStart (m : Master)
  /-- THREAD_HALT (R196). SQ_TCTRL.HALT stops a thread in HALTED and withdraws its wait. -/
  | threadHalt (m : Master)
  /-- THREAD_RESUME (R196). SQ_TCTRL.RESUME fires a withheld trigger and returns the thread to WAIT_F. -/
  | threadResume (m : Master)
  /-- THREAD_CANCEL (R196). SQ_TCTRL.CANCEL disarms every unfired trigger line the thread armed. -/
  | threadCancel (m : Master)
  /-- MAILBOX_COMMIT (R197). A write to SQ_MBn_HI commits both halves of a 64-bit mailbox. -/
  | mailboxCommit (m : Master) (n : Fin 64) (w : Word)
  /-- THREAD_AGED (R199). A thread in RUN that has not issued for AGE has its effective priority raised one level. -/
  | threadAged (t : Thread)
  /-- NOP (R201). The thread issues NOP, which does nothing. -/
  | nop (t : Thread)
  /-- HALT (R201). The thread issues HALT and enters HALTED. -/
  | halt (t : Thread)
  /-- JMP (R201). The thread jumps to the target. -/
  | jmp (t : Thread)
  /-- LOOP (R201). The thread decrements a non-zero mailbox and branches. -/
  | loop (t : Thread)
  /-- BRF (R215). The thread branches when a result flag equals SENSE. -/
  | brf (t : Thread)
  /-- WAITT (R203). The thread sets its cursor and waits until T reaches the wake time. -/
  | waitt (t : Thread)
  /-- WAITT_WAKE (R203). T reaches the wake time of a WAITT and the thread returns to RUN. -/
  | waittWake (t : Thread)
  /-- SETB (R204). The thread sets its course base in REL, ADD, CAD or ABS mode. -/
  | setb (t : Thread)
  /-- FIRE (R205). The thread arms every line of a trigger set at the cursor and waits for the set to fire. -/
  | fire (t : Thread)
  /-- FIREAT (R205). The thread sets its cursor to a time, then fires a set as FIRE does. -/
  | fireat (t : Thread)
  /-- FIRE_RETIRE (R207). Every line of the set has fired, been refused or been lost, and the thread leaves WAIT_F. -/
  | fireRetire (t : Thread)
  /-- ARM (R210). The thread records how many contributions it will make to its current course. -/
  | arm (t : Thread)
  /-- CONTRIB (R211). The thread adds a mailbox value to a lane of a course, or the value is discarded as PRE_N0, LATE_CONTRIB or CONTRIB_EXCESS. -/
  | contrib (t : Thread)
  /-- SYNC (R214). The thread arrives at barrier C and waits for its release, takes a release already held, or skips releases. -/
  | sync (t : Thread)
  /-- SIG (R248). The thread signals a local semaphore, directed or not. -/
  | sig (t : Thread)
  /-- SIG_EVT (R248). The thread issues SIG with EVT, a SETEVENT that grants every waiter registered before it. -/
  | sigEvt (t : Thread)
  /-- SIGR (R255). The thread sends a remote signal through a gate-table entry into the staging queue, or the signal is refused as GT_BAD. -/
  | sigr (t : Thread)
  /-- WAITS (R248). The thread registers a wait on a semaphore. -/
  | waits (t : Thread)
  /-- FENCE (R217). The thread requests delivery of a course tag's posted writes on FC_FREQ and waits. -/
  | fence (t : Thread)
  /-- FENCE_DONE (R217). FC_FDONE with the tag arrives and the fencing thread returns to RUN. -/
  | fenceDone (tag : Fin 16)
  /-- FENCE_STALL (R217). A FENCE unreported after SQ_FTMO is reported once and goes on waiting. -/
  | fenceStall (t : Thread)
  /-- SNAP (R349). The thread requests a monitor snapshot at once. -/
  | snap (t : Thread)
  /-- SNAP_AT (R350). The thread arms a monitor snapshot at its cursor. -/
  | snapAt (t : Thread)
  /-- MARK (R219). The thread writes an event record with a program code. -/
  | mark (t : Thread)
  /-- BAD_OP (R201). An unknown opcode, or a reserved bit set, stops the thread in FAULT. -/
  | badOp (t : Thread)
  /-- PARITY (R219). A parity error on an instruction or trigger-set fetch stops the thread in FAULT. -/
  | parity (t : Thread) (word : BitVec 15)
  /-- DIE_ARRIVAL (R212). Once the arrival conditions hold, the die sends its combined arrival for barrier C on the working-plane port. -/
  | dieArrival (gidx : DieGIdx)
  /-- SQM_COMMIT (R193). A write to SQM_WHI commits a program-memory word, or is refused as WPROT or RANGE. -/
  | sqmCommit (m : Master) (w : Word)
  /-- SQM_READ (R193). A read of SQM_RLO returns a program word, latches SQM_RHI and advances WORD with AUTOINC. -/
  | sqmRead (m : Master)
  /-- ARRIVE_RECEIVE (R223). A hub accepts or discards an ARRIVE message and combines when every expected arrival is in. -/
  | arriveReceive (port : Port)
  /-- RELEASE_RECEIVE (R225). A hub takes a RELEASE, forwards it on its member ports and closes its barrier, or discards it as stray. -/
  | releaseReceive (port : Port)
  /-- RELEASE_DELIVER (R225). A die takes a RELEASE as its latest release and its SYNC-waiting threads load results and leave. -/
  | releaseDeliver (port : Port)
  /-- HELD_SEND (R226). A held arrival or release leaves when its queue has room or its port is UP. -/
  | heldSend
  /-- LEVEL_SAT (R242). A combiner backlog above DEPTH for TIME sets LEVEL_SAT. -/
  | levelSat
  /-- SIGNAL (R248). A core request signals a semaphore, raising its count or a directed credit. -/
  | signal (slot : Slot) (sem : Sem) (n : BitVec 16) (dir : Bool) (tag : BitVec 8)
  /-- SETEVENT (R248). A core request grants every waiter registered on the semaphore before this cycle. -/
  | setevent (slot : Slot) (sem : Sem)
  /-- WAIT (R253). A core request registers a wait, or is refused as WAIT_BUSY. -/
  | wait (slot : Slot) (sem : Sem) (n : BitVec 16) (dir : Bool) (ord : Bool) (rank : BitVec 8) (tag : BitVec 8)
  /-- CORE_SIGR (R262). A core request sends a remote signal, or is answered BUSY when staging is full. -/
  | coreSigr (slot : Slot) (gte : GateIdx) (n : BitVec 16) (dir : Bool) (tag : BitVec 8)
  /-- CANCEL (R248). A core request withdraws the core slot's outstanding wait. -/
  | cancel (slot : Slot)
  /-- SSIG (R247). A master write to SG_SSIG signals the selected semaphore on the shared port. -/
  | ssig (m : Master) (w : Word)
  /-- SCMD_SETEVENT (R247). SG_SCMD.SETEVENT runs SETEVENT on the selected semaphore. -/
  | scmdSetevent (m : Master)
  /-- RSTNEXT (R247). SG_SCMD.RSTNEXT sets the semaphore's next rank to 0. -/
  | rstnext (m : Master)
  /-- SG_SCFG_WRITE (R254). A semaphore configuration write is taken, or refused as MODE while waiters exist. -/
  | sgScfgWrite (m : Master) (w : Word)
  /-- SG_SEL_WRITE (R245). A write of SG_SEL or SG_WSEL beyond range is refused as SEM_RANGE. -/
  | sgSelWrite (m : Master) (which : Bool) (w : Word)
  /-- GRANT (R250). In the cycle after registration or signal, SG grants one eligible waiter by rotating, ordered or directed rule. -/
  | grant (sem : SemIdx)
  /-- STAGING_QUERY (R255). The head of the staging queue queries the channel's transmit count. -/
  | stagingQuery
  /-- FC_ANSWER (R255). The fabric's count answer gives the gate value and the RSIG is queued on the working plane. -/
  | fcAnswer (count : Word)
  /-- FCTR_TMO (R256). A count query unanswered after 64 cycles is reported and repeated. -/
  | fctrTmo
  /-- RSIG_FORWARD (R258). A hub routes a class S cell by DEST, or discards it. -/
  | rsigForward (port : Port)
  /-- RSIG_RECEIVE (R258). A die checks a received RSIG for destination, port and generation and keeps it in the S buffer or discards it. -/
  | rsigReceive (port : Port)
  /-- PENDING_ENTRY (R259). An RSIG leaves the S receive buffer into a free pending entry and its received count is queried. -/
  | pendingEntry (port : Port)
  /-- FC_UPDATE (R260). A received-count update rechecks pending gates and releases those met. -/
  | fcUpdate (src : BitVec 24) (chan : BitVec 12) (count : Word)
  /-- REMOTE_SIGNAL_EXECUTE (R260). A released remote signal executes on the shared port as a SIGNAL. -/
  | remoteSignalExecute
  /-- GATE_STALL (R263). A pending signal whose gate is unmet after GT_CFG.STALL is reported once. -/
  | gateStall (idx : PendIdx)
  /-- DEADLOCK_SAMPLE (R265). Every LPER a die samples each group's local condition and declares a local deadlock where it holds. -/
  | deadlockSample (gidx : DieGIdx)
  /-- QPROBE_SEND (R266). At each round time T_e each member sends a QPROBE up its working plane. -/
  | qprobeSend (gidx : DieGIdx)
  /-- QPROBE_RECEIVE (R267). A hub combines quiet probes and sends them up, or at the apex sends the verdict down. -/
  | qprobeReceive (port : Port)
  /-- QPROBE_VERDICT (R268). A member receiving a DEADLOCK verdict declares a global deadlock if its local condition still holds. -/
  | qprobeVerdict (port : Port)
  /-- GR_GKEY_WRITE (R278). A write to GR_GKEY sets up, changes or frees an entry, subject to the generation test and quarantine. -/
  | grGkeyWrite (m : Master) (w : Word)
  /-- FIND_GID (R270). A write of GR_FINDGID looks up the entry holding that group ID. -/
  | findGid (m : Master) (w : Word)
  /-- SEAL (R273). GR_GCMD SEAL at the apex seals the entry and sends SEAL down. -/
  | sealCmd (m : Master) (w : Word)
  /-- DISSOLVE (R277). GR_GCMD DISSOLVE puts the entry in quarantine, discards its held items, and at the apex sends DISSOLVE down. -/
  | dissolve (m : Master) (w : Word)
  /-- ADMIT (R280). GR_GCMD ADMIT at the apex adds a pending membership change for course N, or is refused. -/
  | admitCmd (m : Master) (w : Word)
  /-- EXPEL (R280). GR_GCMD EXPEL at the apex removes members from course N, or is refused. -/
  | expel (m : Master) (w : Word)
  /-- SEAL_RECEIVE (R273). A received SEAL seals the entry, is forwarded, and at a die triggers CENSUS. -/
  | sealReceive (port : Port)
  /-- DISSOLVE_RECEIVE (R277). A received DISSOLVE with matching generation dissolves and forwards. -/
  | dissolveReceive (port : Port)
  /-- ADMIT_RECEIVE (R282). A received ADMIT is routed, lists ports, and at a die seals the entry and sets ADMITTED. -/
  | admitReceive (port : Port)
  /-- EXPEL_RECEIVE (R283). A received EXPEL is routed, unlists ports, and at a die sets EXPELLED. -/
  | expelReceive (port : Port)
  /-- HUB_CENSUS_SEND (R274). A hub sends merged census sums upward at most once per µs per entry. -/
  | hubCensusSend (gidx : GIdx)
  /-- CENSUS_RECEIVE (R274). An upward CENSUS updates the port's COUNT, FSUP and DP, and at the apex GR_GCOUNT and completion. -/
  | censusReceive (port : Port)
  /-- CENSUS_DOWN_RECEIVE (R275). A downward CENSUS sets CENSUS_OK, FEN and the entry state, and is forwarded. -/
  | censusDownReceive (port : Port)
  /-- QUARANTINE_END (R278). 64 µs after dissolve the entry becomes FREE and its fields return to reset. -/
  | quarantineEnd (gidx : GIdx)
  /-- GD_LIMIT_WRITE (R299). A write to a Guard limit is taken if it tightens, or is loosened only by the host port while unlocked. -/
  | gdLimitWrite (m : Master) (which : GuardLimit) (w : Word)
  /-- BARRIER_OVERRIDE (R303). The host port's GD_OVR write closes an open barrier without a complete census, or is refused as OVR_BAD. -/
  | barrierOverride (m : Master) (w : Word)
  /-- WATCHDOG_KICK (R312). Firmware kicks the watchdog through GD_WDKICK. -/
  | watchdogKick (m : Master)
  /-- WATCHDOG_EXPIRY (R312). The watchdog expires and the controller resets, reverts, or is held at WD_MAX. -/
  | watchdogExpiry
  /-- EXPIRY_CLEAR (R312). EXPIRIES clears after 60 s without an expiry. -/
  | expiryClear
  /-- SRAM_PAR (R312). An SRAM parity error resets the controller. -/
  | sramPar
  /-- NVM_PROT (R306). A firmware NOR command touching a Guard-only range is refused. -/
  | nvmProt (addr : BitVec 24)
  /-- IMAGE_LOAD (R310). At boot or handover the Guard loads and starts verifying an image. -/
  | imageLoad
  /-- IMAGE_VERIFIED (R310). Verification ends: the controller runs, falls back, or is held with NOIMAGE. -/
  | imageVerified (ok : Bool)
  /-- STAGING_ERASE (R311). A write of FW_STGADDR with WORD = 0 erases the inactive bank. -/
  | stagingErase (m : Master) (w : Word)
  /-- STAGING_ERASE_DONE (R311). The bank erase completes and BUSY clears. -/
  | stagingEraseDone
  /-- STAGING_WRITE (R311). A write of FW_STGDATA enters the staging buffer, or is discarded as STG_ERR. -/
  | stagingWrite (m : Master) (w : Word)
  /-- VERIFY (R311). FW_CMD.VERIFY checks the inactive bank and sets its status. -/
  | verify (m : Master)
  /-- HOLD (R311). FW_CMD.HOLD holds the controller in reset for SRAM staging. -/
  | hold (m : Master)
  /-- FW_RELEASE (R312). FW_CMD.RELEASE releases a held controller, verifying SRAM-staged contents. -/
  | fwRelease (m : Master)
  /-- FW_SWITCH (R314). FW_CMD.SWITCH requests a firmware handover. -/
  | fwSwitch (m : Master)
  /-- HANDOVER (R314). FW_CMD.HANDOVER protects the handover block, enters trial and boots the other bank. -/
  | handover (m : Master)
  /-- COMMIT (R314). FW_CMD.COMMIT ends the trial and writes the boot record. -/
  | commit (m : Master)
  /-- SWREQ_TMO (R314). HANDOVER absent HOTMO after SWITCH makes the Guard hand over with no block. -/
  | swreqTmo
  /-- TRIAL_TIMEOUT (R315). No COMMIT 500 ms after HANDOVER reverts to the previous bank. -/
  | trialTimeout
  /-- MW_ERR (R369). A memory-write beat answered with MW_ERR is reported and not retried. -/
  | mwErr (addr : BitVec 64)
  /-- HB_TMO (R320). An engine shows no heartbeat for HBTMO, and the detector's action is taken. -/
  | hbTmo (eng : Engine)
  /-- OVERRUN (R321). A course has not reached SYNC by its deadline. -/
  | overrun (t : Thread)
  /-- WAIT_TMO (R322). A blocked wait older than HG_WAITTMO is reported. -/
  | waitTmo (agent : Agent)
  /-- SQ_WDOG (R323). A thread in RUN without issuing for HG_SQWD stops in FAULT. -/
  | sqWdog (t : Thread)
  /-- CP_TAKE (R324). CP_CMD.TAKE requests a capsule. -/
  | cpTake (m : Master)
  /-- CAPTURE_PAUSE_END (R324). The 4 µs pause ends and engine status reads begin. -/
  | capturePauseEnd
  /-- ESTAT_TMO (R324). An engine that has not returned status within 8 µs is marked STAT_TMO. -/
  | estatTmo (eng : Engine)
  /-- CAPSULE_COMPLETE (R324). Capture completes and escalation may start. -/
  | capsuleComplete
  /-- CP_RELEASE (R324). CP_CMD.RELEASE frees the capsule store. -/
  | cpRelease (m : Master)
  /-- CAPSULE_MIRRORED (R326). The capsule has been mirrored to host memory. -/
  | capsuleMirrored
  /-- CAPSULE_READ (R326). A read of CP_RDATA returns a capsule word and advances with AUTOINC. -/
  | capsuleRead (m : Master)
  /-- ENG_RESET_TIMEOUT (R327). No engine acknowledge within ETMO, so the region reset is issued. -/
  | engResetTimeout (eng : Engine)
  /-- RGN_RESET_TIMEOUT (R327). No region acknowledge within RTMO, so the die is fenced. -/
  | rgnResetTimeout (tap : Tap)
  /-- ERESET (R327). HG_CMD.ERESET starts escalation of the selected engine. -/
  | ereset (m : Master)
  /-- UNFENCE (R330). HG_CMD.UNFENCE lifts the fence and resends CENSUS. -/
  | unfence (m : Master)
  /-- SOLO (R334). HG_CMD.SOLO starts solo replay of suspects, or is refused. -/
  | solo (m : Master)
  /-- SOLO_ABORT (R334). HG_CMD.SOLO_ABORT ends solo replay. -/
  | soloAbort (m : Master)
  /-- SOLO_FIRE (R334). 1 µs after the prologue a suspect's line is fired alone. -/
  | soloFire
  /-- SOLO_TMO (R334). A suspect not done within the solo time-out is a hang and is escalated. -/
  | soloTmo
  /-- RECORD_WRITE (R337). The writer queue writes one record to the ring every 4 LCLK cycles. -/
  | recordWrite
  /-- RESTORE (R338). A write of EV_RSTPC restores operating time and the power-cycle count once. -/
  | restore (m : Master) (w : Word)
  /-- EVUP_RECEIVE (R341). An uploaded record is queued at the first management hub, or is discarded. -/
  | evupReceive (port : Port)
  /-- UPLOAD_POP (R341). A read of EV_UQ0 pops one uploaded record. -/
  | uploadPop (m : Master)
  /-- SEVERITY_QUERY (R336). A write of EV_SEVQ returns the severity of the code written. -/
  | severityQuery (m : Master) (w : Word)
  /-- COUNTER_BIND (R343). A write of MN_CCFG binds a counter to an event and zeros it. -/
  | counterBind (m : Master) (w : Word)
  /-- CLR (R346). MN_CCMD.CLR zeros the selected counter. -/
  | clr (m : Master)
  /-- CLRALL (R346). MN_CCMD.CLRALL zeros all event counters. -/
  | clrall (m : Master)
  /-- FREEZE (R347). A write of MN_FREEZE freezes or unfreezes all monitors. -/
  | freeze (m : Master) (w : Word)
  /-- SNAP_NOW (R349). MN_SNAPCTL.NOW takes a snapshot in the next cycle. -/
  | snapNow (m : Master)
  /-- SNAP_ARM (R350). MN_SNAPCTL.ARM arms a snapshot at MN_SNAPT, replacing any pending arm. -/
  | snapArm (m : Master)
  /-- SNAP_CANCEL (R350). MN_SNAPCTL.CANCEL removes a pending snapshot arm. -/
  | snapCancel (m : Master)
  /-- SNAPSHOT_DUE (R350). An armed snapshot falls due and is taken, or is withheld while time is invalid. -/
  | snapshotDue
  /-- PIN_BIND (R348). A write of MN_PCFG sets a pin counter's source and mode, or is refused. -/
  | pinBind (m : Master) (w : Word)
  /-- PIN_CLR (R348). MN_PCMD.CLR zeros the selected pin counter. -/
  | pinClr (m : Master)
  /-- HS_CONFIG (R356). A write of HS_UCFG, HS_UBASE or HS_UWIDTH configures and empties a histogram unit. -/
  | hsConfig (m : Master) (which : HsReg) (w : Word)
  /-- HS_CLEAR (R356). HS_UCMD.CLEAR empties a histogram unit. -/
  | hsClear (m : Master)
  /-- HS_RESTART (R356). HS_UCMD.RESTART clears a unit's snapshot stop. -/
  | hsRestart (m : Master)
  /-- RAIL_GOOD (R358). A supply rail rises through its good threshold; order violations are logged. -/
  | railGood (rail : Rail) (slow : Bool)
  /-- RAIL_FAIL (R361). A supply rail falls through its fail threshold, with the effects of its row. -/
  | railFail (rail : Rail)
  /-- TCLK_RAIL (R358). VDDA_TCLK is out of limits or too noisy and is reported. -/
  | tclkRail
  /-- TEMP_SAMPLE (R363). Every 1 ms junction temperature is sampled and checked against PW_TEMPLIM. -/
  | tempSample (temp : BitVec 16)
  /-- MAIN_RESET (R364). LYS_RST_N low, or another cause, asserts main reset. -/
  | mainReset
  /-- MAIN_RESET_RELEASE (R365). Main reset is released; chain calibration and controller boot begin. -/
  | mainResetRelease
  /-- HOST_RESET (R366). HOST_RST_N asserts, either coupling into main reset or stopping the host interfaces. -/
  | hostReset
  /-- HOST_RESET_RELEASE (R366). HOST_RST_N rises and the host interfaces resume. -/
  | hostResetRelease
  /-- LANEGO (R374). PW_BOOT.LANEGO releases the lane ports into loopback check and training. -/
  | lanego (m : Master)
  /-- FREQ_OK (R33). A lane's LN_RCLK moves into or out of ±250 ppm of LN_REFCLK, so LN_PSTAT.FREQ_OK changes and TQUAL is lost or may be regained. -/
  | freqOk (port : Port) (ok : Bool)
  /-- AGEING_READY (R150). After 24 h of learning while a time reference is selected, RF_HOSTAT.AGEING_READY is set at a crown. -/
  | ageingReady
  /-- STAGING_PROGRAM (R311). The Guard finishes programming staged bytes from the 1 KiB buffer into the NOR, which frees buffer room in FW_STGSTAT.FREE. -/
  | stagingProgram (n : BitVec 11)
  /-- DEBUG_RESET (R364). A RISC-V debug reset through the test access port resets the controller domain only. -/
  | debugReset
deriving DecidableEq, Repr

end Sys2Proof
end

