-- ==== Sys2Proof/WellFormed.lean ====
section
/-!
DEFINITION. WellFormed.lean: what a sender must get right about a command beyond the types of its
operands: the sizes of what it carries. The meanings are total on every command; a claim that needs a
size takes it from here.
-/

namespace Sys2Proof

/-- A codeword carries eight cells of twenty words (R83, R87), and an error of the line names each symbol once. -/
def Codeword.wf (cw : Codeword) : Bool :=
  decide (cw.cells.length = 8) && cw.cells.all (fun x => decide (x.length = 20))
    && decide ((cw.errors.map fun e => e.1).Nodup)

/-- A command's operands have the sizes the spec gives them: engine status is 64 words (R324), a plumb payload eight (R182), a chain has at most 256
taps (R7), the taps named at an anchor boundary are distinct, and the staging buffer holds 1,024 bytes
(R311). -/
def Instr.wf (i : Instr) : Bool :=
  match i with
  | .anchorBoundary faults => decide faults.Nodup
  | .codewordReceive _ cw => cw.wf
  | .chainCalDone hops => decide (hops.length ≤ 256)
  | .engStatus _ words => decide (words.length = 64)
  | .plumbReceive _ pay => decide (pay.length = 8)
  | .stagingProgram n => decide (n.toNat ≤ 1024)
  | .registerWrite .. | .pageSoftReset .. | .softResetHoldEnd .. | .chselWrite .. | .lockSet ..
  | .lockClear .. | .rateStage .. | .stepArm .. | .timeRead .. | .tbCapture .. | .tbLoad .. | .tbAdjust ..
  | .cal .. | .loopbackCheckDone .. | .pmaLatWrite .. | .forceDown .. | .portDisable .. | .portStart ..
  | .pmaReady .. | .pmaReadyLoss .. | .codewordLock .. | .lockLoss .. | .cellSlot .. | .nakReceive ..
  | .replayTimeout .. | .tickSend .. | .tickReceive .. | .preqSend .. | .preqReceive .. | .prspReceive ..
  | .probeAbandon .. | .mkrTimeout .. | .identSend .. | .identReceive .. | .identAckReceive ..
  | .laneReset .. | .traceReceive .. | .rootTimerExpiry | .reflectReceive .. | .summarySend
  | .summaryReceive .. | .claim .. | .yield .. | .revertNow .. | .startSlow | .mlossReceive .. | .rraGo ..
  | .rreqReceive .. | .rreqExecute .. | .rrspReceive .. | .rraTmo .. | .rrspPop .. | .inoteReceive ..
  | .inqPop .. | .mlqPop .. | .offsetWindowEnd | .holdoverTimerExpiry | .hordy | .freqLock | .flockLost
  | .svSwitch .. | .forceAcq .. | .buildOutDecay | .planeRevert | .relearn .. | .asymOk .. | .asymWrite ..
  | .refSignalLoss .. | .refQual .. | .refDisq .. | .wtrExpiry .. | .rfRcfgWrite .. | .rfForceWrite ..
  | .refEdge .. | .todSentence .. | .ptpMessage .. | .hoTrace | .chainCal .. | .driftCheck ..
  | .armArrive .. | .tapMoment .. | .fireEdge .. | .regionPeriodEnd .. | .xcStrobe .. | .xcRelease ..
  | .xcal .. | .xcalDone .. | .stopreq .. | .regionRun .. | .opcalDone .. | .heartbeat .. | .engineDone ..
  | .engStart .. | .engRack .. | .rgnRack .. | .txSof .. | .rxSof .. | .plumbSend .. | .plumbTimeout ..
  | .txqPop .. | .swevt .. | .swqPop .. | .pulseArm .. | .pulseDisarm .. | .pulseEdge .. | .short ..
  | .shortRetry .. | .openLoad .. | .openIn .. | .ppsInv .. | .uartInv .. | .threadStart ..
  | .threadHalt .. | .threadResume .. | .threadCancel .. | .mailboxCommit .. | .threadAged .. | .nop ..
  | .halt .. | .jmp .. | .loop .. | .brf .. | .waitt .. | .waittWake .. | .setb .. | .fire .. | .fireat ..
  | .fireRetire .. | .arm .. | .contrib .. | .sync .. | .sig .. | .sigEvt .. | .sigr .. | .waits ..
  | .fence .. | .fenceDone .. | .fenceStall .. | .snap .. | .snapAt .. | .mark .. | .badOp .. | .parity ..
  | .dieArrival .. | .sqmCommit .. | .sqmRead .. | .arriveReceive .. | .releaseReceive ..
  | .releaseDeliver .. | .heldSend | .levelSat | .signal .. | .setevent .. | .wait .. | .coreSigr ..
  | .cancel .. | .ssig .. | .scmdSetevent .. | .rstnext .. | .sgScfgWrite .. | .sgSelWrite .. | .grant ..
  | .stagingQuery | .fcAnswer .. | .fctrTmo | .rsigForward .. | .rsigReceive .. | .pendingEntry ..
  | .fcUpdate .. | .remoteSignalExecute | .gateStall .. | .deadlockSample .. | .qprobeSend ..
  | .qprobeReceive .. | .qprobeVerdict .. | .grGkeyWrite .. | .findGid .. | .sealCmd .. | .dissolve ..
  | .admitCmd .. | .expel .. | .sealReceive .. | .dissolveReceive .. | .admitReceive .. | .expelReceive ..
  | .hubCensusSend .. | .censusReceive .. | .censusDownReceive .. | .quarantineEnd .. | .gdLimitWrite ..
  | .barrierOverride .. | .watchdogKick .. | .watchdogExpiry | .expiryClear | .sramPar | .nvmProt ..
  | .imageLoad | .imageVerified .. | .stagingErase .. | .stagingEraseDone | .stagingWrite .. | .verify ..
  | .hold .. | .fwRelease .. | .fwSwitch .. | .handover .. | .commit .. | .swreqTmo | .trialTimeout
  | .mwErr .. | .hbTmo .. | .overrun .. | .waitTmo .. | .sqWdog .. | .cpTake .. | .capturePauseEnd
  | .estatTmo .. | .capsuleComplete | .cpRelease .. | .capsuleMirrored | .capsuleRead ..
  | .engResetTimeout .. | .rgnResetTimeout .. | .ereset .. | .unfence .. | .solo .. | .soloAbort ..
  | .soloFire | .soloTmo | .recordWrite | .restore .. | .evupReceive .. | .uploadPop .. | .severityQuery ..
  | .counterBind .. | .clr .. | .clrall .. | .freeze .. | .snapNow .. | .snapArm .. | .snapCancel ..
  | .snapshotDue | .pinBind .. | .pinClr .. | .hsConfig .. | .hsClear .. | .hsRestart .. | .railGood ..
  | .railFail .. | .tclkRail | .tempSample .. | .mainReset | .mainResetRelease | .hostReset
  | .hostResetRelease | .lanego .. | .freqOk .. | .ageingReady | .debugReset => true

end Sys2Proof
end

