-- ==== Sys2Proof/Decode.lean ====
section
/-!
DEFINITION. Decode.lean: commands from table words. The table of operations and events gives no row
any bits: a command reaches the block as a register access, a cell or a pin event, each a constructor of
`Instr` with its operands, so there is no word to read a command from.
-/

namespace Sys2Proof

/-- The command that a word spells by the table's bits: none, since no row of the table has bits. -/
def decodeTableWord (nbits w : Nat) : Option Instr :=
  match nbits, w with
  | _, _ => none

end Sys2Proof
end

