-- ==== Sys2Proof/Machine/State.lean ====
section
/-!
DEFINITION. Machine/State.lean: the state of the block as plain data, every register, buffer, queue,
counter and mode the spec gives it, and the state right after reset. Stored registers (those that a
write or a count changes) lie in one sparse map; the structures hold everything else.
-/

namespace Sys2Proof.Machine

/-! ### Sparse maps -/

/-- A sparse map from numbers: entries in strictly rising key order, none equal to the default its
reader uses. -/
abbrev SMap (α : Type) := List (Nat × α)

/-! ### Faults and refusals -/

/-- Why the model stops with a fault. -/
inductive Fault where
  /-- Raised by a command of a unit that this part does not have: a hub-role event at a die-role
  Lyspen or the reverse (R12), a port, tap or group entry beyond those of the role (R7), a remote
  master at a hub (R49). Safe: the hardware has no such event. -/
  | notPresent
deriving DecidableEq, Repr

/-- Why the model refuses a command. -/
inductive Refusal where
  /-- Raised by an arm of the dispatch table whose command has no meaning yet. Safe. -/
  | notModelled (mnemonic : String)
deriving DecidableEq, Repr

/-! ### Register accesses held during a page soft reset (R42) -/

/-- An access that waits for the end of a soft-reset hold: a write carries its word, and an access made for
a remote register request carries the request, which is answered when it executes (R42, R128). -/
structure HeldAccess where
  master : Master
  addr : Nat
  data : Option Word
  req : Option Cell
deriving DecidableEq, Repr

/-! ### Timekeeper and time bases -/

/-- The timekeeper (R58 to R75). -/
structure TkState where
  /-- FRC, 64 bits (R58). -/
  frc : Nat
  /-- Whether TCLK runs (R59, R36). -/
  tclk : Bool
  /-- T_ANCHOR in units of 2^-56 ns (R64). -/
  tAnchor : Nat
  /-- FRC_ANCHOR (R64). -/
  frcAnchor : Nat
  /-- The active RATE, Q8.56 ns per tick (R63). -/
  rate : Nat
  /-- The previous anchor, its FRC and its RATE, kept for stamps under way (R73). -/
  prevAnchor : Nat
  prevFrc : Nat
  prevRate : Nat
  /-- The staged RATE (R66). -/
  rateStage : Option Nat
  /-- The armed step, signed, in units of 2^-32 ns (R68). -/
  step : Option Int
  /-- VALID of TK_TIME_QUAL (R75). -/
  valid : Bool
  /-- UNTRACEABLE of TK_TIME_QUAL (R74). -/
  untraceable : Bool
  /-- Steps applied since AON power-on, modulo 2^32. -/
  stepCnt : Nat
  /-- UTC offset carried down by class T at a Lyspen that is not a crown (R62). -/
  utcMirror : Word
  /-- RATE values with the FRC at which each stopped being active, newest first, as far back as
  the preceding 1 ms (R300). -/
  rateHist : List (Nat × Nat)
  /-- TCLK was lost and its record is still to be written (R75). -/
  lostPending : Bool
  /-- A recorded loss of TCLK still to be counted: the counters are held in main reset (R75, R364). -/
  lostUncounted : Bool
deriving DecidableEq, Repr

/-- One legacy time base (R76, R77). -/
structure TbChan where
  /-- Value in units of 2^-56 ns. -/
  value : Nat
  /-- A load waiting for the next tick, in units of 2^-32 ns. -/
  load : Option Nat
  /-- An adjustment waiting for the next tick, signed, in units of 2^-32 ns. -/
  adj : Option Int
  /-- The value at the last capture, in units of 2^-32 ns. -/
  cap : Nat
deriving DecidableEq, Repr

/-- The legacy time bases. -/
structure TbState where
  chans : SMap TbChan
  /-- Native T at the last capture. -/
  captT : Nat
deriving DecidableEq, Repr

/-! ### Servo and references -/

/-- The servo states, in their SVSTATE order (R137). -/
inductive SvMode where
  | freerun | acquire | locked | holdover | holdExpired
deriving DecidableEq, Repr

/-- One servo channel (R133, R135, R136). -/
structure SvChan where
  /-- Valid samples of the current window, in units of 2^-32 ns, newest first. -/
  window : List Int
  /-- SV_OFFSET and SV_OFFRAW, in units of 2^-32 ns. -/
  offset : Int
  offRaw : Int
  /-- OFFVALID of SV_CSTAT: the last window had 32 samples or more (R133). -/
  offValid : Bool
  /-- SV_OFFSET has been measured: PHASE_OK compares what it keeps (R140). -/
  offKnown : Bool
  /-- ASYM_UNCAL of SV_CSTAT (R151). -/
  asymUncal : Bool
  /-- The parent's SVSTATE and VALID from its latest TICK. -/
  psv : Nat
  pvalid : Bool
deriving DecidableEq, Repr

/-- The servo (R132 to R144). -/
structure SvState where
  mode : SvMode
  /-- The active channel. -/
  chan : Nat
  /-- HOLDOVER_READY (R151). -/
  horeadyFlag : Bool
  /-- FREQ_LOCKED (R140). -/
  freqLocked : Bool
  /-- SV_PLLSEL.input and its reference index (R147). -/
  pllIn : Nat
  pllRef : Nat
  /-- The holdover timer: the FRC at its start and H in µs, while it runs (R143). -/
  hoTimer : Option (Nat × Nat)
  /-- SV_BO in units of 10^-9 × 2^-32 ns (R142). -/
  bo : Int
  /-- SV_PBO and SV_DCO. -/
  pbo : Word
  dco : Nat
  /-- The last valid SV_OFFSET of the last good channel, in units of 2^-32 ns (R143). -/
  xe : Int
  /-- An entry into ACQUIRE with reason 3 still asks for requalification (R301). -/
  requal : Bool
  /-- Consecutive offset windows within SV_LWIN at a crown since then, and whether the window under way
  began before the entry and so does not count (R301). -/
  crownWins : Nat
  winOld : Bool
  /-- The state at the start of the tick of the latest change, with that tick's FRC (R23, R137). -/
  tickStart : Option (Nat × SvMode)
  /-- A boundary whose step forces ACQUIRE from the next tick, with the state until then (R70). -/
  stepFrom : Option (Nat × SvMode)
  /-- FRC at which FREQ_LOCKED was last reached, while it lasts, and whether it has ever lasted a second
  (R140, R151). -/
  flockAt : Option Nat
  /-- SV_DCO is no longer the fused trim: FREQ_LOCKED has lasted 1 s (R140, R151). -/
  dcoLearnt : Bool
  /-- The offset window of the peer-crown lane at a crown, and its last filtered offset (R133, R145). -/
  peerWin : List Int
  peerOff : Int
  peerOk : Bool
  /-- The two servo channels. -/
  ch0 : SvChan
  ch1 : SvChan
deriving DecidableEq, Repr

/-- One reference input (R145, R146). -/
structure RefState where
  signal : Bool
  qualified : Bool
  eligible : Bool
  /-- FRC at the start of the wait-to-restore, while it runs. -/
  wtrStart : Option Nat
  /-- REFUSED of RF_RSTAT: the enabled configuration is not one the reference can have (R145). -/
  refused : Bool
  /-- It has been disqualified and must wait to restore. -/
  wasDisq : Bool
  /-- RF_RFREQ, RF_RPH and RF_RWANDER as last measured. -/
  freq : Word
  phase : BitVec 64
  wander : Word
  /-- Stamp of the last edge. -/
  lastEdge : Option Nat
  /-- The master of a PTP domain, and the latest Sync with its FRC (R149). -/
  ptpSrc : Option Nat
  ptpSync : Option (Nat × Nat)
deriving DecidableEq, Repr

/-- Reference selection and crown holdover (R147 to R150). -/
structure RfState where
  refs : SMap RefState
  selected : Option Nat
  standby : Option Nat
  fsrc : Option Nat
  forced : Bool
  holdover : Bool
  /-- RF_BO in units of 10^-9 × 2^-32 ns, and the filtered offset of the last input, kept while there is
  none (R142). -/
  bo : Int
  lastOff : Int
  /-- The filtered offset of a selected reference whose entry a write has changed, until the switch that follows
  (R142). -/
  oldOff : Option Int
  /-- FRC at the start of crown holdover. -/
  hoStart : Option Nat
  /-- The 100 ms trace of a crown holdover has been written (R150). -/
  hoTraceDone : Bool
  /-- AGEING_READY (R151). -/
  ageingReady : Bool
deriving DecidableEq, Repr

/-! ### Lane ports -/

/-- The port states, in their STATE order (R104). -/
inductive PortMode where
  | down | cal | train | locking | ident | up | refused
deriving DecidableEq, Repr

/-- A cell in a transmit queue, with the FRC at which it entered (R93). -/
structure TxCell where
  cell : Cell
  at_ : Nat
deriving DecidableEq, Repr

/-- A class T cell in the receive buffer, with its receive stamp at the reference plane (R85). -/
structure RxT where
  cell : Cell
  stamp : Nat
deriving DecidableEq, Repr

/-- A delay probe this end has requested (R101): its identifier, T1 once sent, T2 and T4 once the
response has come. -/
structure Probe where
  id : Nat
  t1 : Option Nat
  t2 : Option Nat
  t4 : Option Nat
deriving DecidableEq, Repr

/-- The transmit and receive queues of a port (R89). -/
structure PortQueues where
  txL : List Cell
  txT : List TxCell
  txB : List TxCell
  txS : List TxCell
  txM : List TxCell
  /-- Sequenced cells, with their class, that found their transmit queue full and wait in their block for room,
  oldest first (R89; log entry 14). -/
  wait : List (Nat × Cell)
  /-- Receive buffers of classes L, T, B, S and M (R89). -/
  rxL : List Cell
  rxT : List RxT
  rxB : List Cell
  rxS : List Cell
  rxM : List Cell
deriving DecidableEq, Repr

/-- Sequencing, replay and credits of a port (R90 to R97). -/
structure PortLink where
  nextSeq : Nat
  expected : Nat
  lastAcc : Nat
  /-- The replay buffer, oldest first, and the part of it still to be resent. -/
  replay : List Cell
  resend : List Cell
  /-- Replays since the last acknowledgement (R97). -/
  replays : Nat
  /-- The replay timer runs (R97). -/
  timerOn : Bool
  /-- FRC at the last NAK sent, while nak_sent is 1. -/
  nakAt : Option Nat
  /-- Credits held for classes B, S and M (R90). -/
  credB : Nat
  credS : Nat
  credM : Nat
  /-- Last cumulative counts taken from the peer, and this end's own, modulo 4,096. -/
  peerB : Nat
  peerS : Nat
  peerM : Nat
  freedB : Nat
  freedS : Nat
  freedM : Nat
  /-- CRET rotation, and what is left of the round for B, S and M. -/
  rot : Nat
  turnB : Nat
  turnS : Nat
  turnM : Nat
deriving DecidableEq, Repr

/-- Codeword lock and the transmit position of a port (R82 to R85, R100). -/
structure PortCode where
  /-- Consecutive good codewords in true and in inverted polarity, consecutive bad ones, and the
  last CWCNT in each polarity. -/
  good : Nat
  goodInv : Nat
  /-- Consecutive codewords without a good header while locked. -/
  bad : Nat
  /-- The last received codeword count, in true and in inverted polarity. -/
  last : Option Nat
  lastInv : Option Nat
  /-- Transmit codeword count and cell slot. -/
  txCw : Nat
  txSlot : Nat
  /-- The header of the codeword being sent, and the cell last driven on LN_TXD (R83). -/
  txHdr : BitVec 20
  txd : Cell
  /-- The cells of the codeword being sent, by slot, and the parity symbols of the last that was complete (R83). -/
  txMsg : List Cell
  txPar : List (BitVec 10)
deriving DecidableEq, Repr

/-- Tick markers and delay probes of a port (R99 to R102). -/
structure PortTime where
  mseqTick : Nat
  mseqReq : Nat
  mseqRsp : Nat
  /-- Transmit time of the previous TICK at the reference plane. -/
  tprev : Option Nat
  /-- MSEQ and reference-plane receive stamp of the last TICK received. -/
  lastRx : Option (Nat × Nat)
  /-- T3 and PROBE_ID of the latest PRSP sent. -/
  t3 : Option (Nat × Nat)
  /-- PROBE_ID of the next PREQ. -/
  nextId : Nat
  /-- Probes under way, oldest first. -/
  probes : List Probe
  /-- LN_RTT in ns, LN_MPD in 1/64 tick. -/
  rtt : Nat
  mpd : Int
  /-- HOPS of the latest TICK received. -/
  hops : Nat
  /-- W5 and the crown UID of the latest TICK received. -/
  tickW5 : Word
  tickCrown : Nat
deriving DecidableEq, Repr

/-- Delay qualification of a lane (R134). -/
structure PortQual where
  /-- SV_MPDREF in 1/64 tick. -/
  mpdRef : Int
  /-- Learning of the MPD reference has ended (R134). -/
  learnt : Bool
  /-- While learning, the probes taken so far; afterwards the last accepted ones, newest first. -/
  hist : List Int
  qcount : Nat
  outCount : Nat
  /-- Probe-qualified. -/
  ok : Bool
  /-- The peer with which SV_MPDREF was learnt. -/
  lastUid : Option Nat
deriving DecidableEq, Repr

/-- A loopback check under way (R81): CALIB cells sent, the transmit stamps of those still out by codeword count
and slot, and the number and summed round trips of those that have come back. -/
structure PortCheck where
  sent : Nat
  out : SMap Nat
  got : Nat
  sum : Int
deriving DecidableEq, Repr

/-- A lane port (R104 to R108). -/
structure PortState where
  mode : PortMode
  downRsn : Nat
  refRsn : Nat
  nver : Nat
  pmaRdy : Bool
  freqOk : Bool
  tqual : Bool
  pmaLatOk : Bool
  rxinv : Bool
  cwlock : Bool
  restricted : Bool
  peerCrown : Bool
  /-- The next handshake advertises no B, S and M buffers (RESTRICT, R108). -/
  restrictNext : Bool
  /-- The loopback check is still to be run before training. -/
  calDue : Bool
  check : PortCheck
  /-- LN_PMA_MEAS. -/
  meas : Nat
  /-- The peer's IDENT words W2 to W7, once received, and whether it was received and this end's
  acknowledged since the handshake began. -/
  peer : Option (List Word)
  /-- An acceptable IDENT has been received in this handshake (R105). -/
  gotIdent : Bool
  /-- The own IDENT has been acknowledged. -/
  gotAck : Bool
  /-- LN_FEATNEG: the features both ends have. -/
  featNeg : Word
  /-- The queues, the sequencing, the codeword layer, the timing and the probe qualification of the port. -/
  q : PortQueues
  link : PortLink
  code : PortCode
  time : PortTime
  qual : PortQual
deriving DecidableEq, Repr

/-! ### Tree engine -/

/-- The tree states, in their TSTATE order (R110). -/
inductive TreeMode where
  | idle | discover | rootwait | joined | crown | crownless | orphan | conflict
deriving DecidableEq, Repr

/-- What the latest SUMMARY of the child hub on a downstream port says (R111, R120). -/
structure Kid where
  level : Nat
  members : Nat
  locked : Nat
  hubs : Nat
  slow : Bool
  best : Option (Nat × Nat)
deriving DecidableEq, Repr

/-- An outstanding remote register request (R127, R129). -/
structure RraOut where
  target : Nat
  rseq : Nat
deriving DecidableEq, Repr

/-- A remote register response in its queue (R129). -/
structure Rrsp where
  word0 : Word
  data : Word
  target : Word
deriving DecidableEq, Repr

/-- The tree engine (R110 to R131). -/
structure TrState where
  mode : TreeMode
  level : Nat
  addr : Option Nat
  /-- The upstream port whose REFLECT gave the address (R20, R126). -/
  addrFrom : Option Nat
  /-- The crown's UID, priority and level, and CEPOCH, as the REFLECT gave them (R116). -/
  crown : Option Nat
  crownPrio : Nat
  crownLevel : Nat
  cepoch : Nat
  /-- HOPS of the REFLECT taken. -/
  hops : Nat
  /-- FREQ and PHASE lock of the parent, from its REFLECT. -/
  parentFreq : Bool
  parentPhase : Bool
  /-- The active upstream is the alternate one, at a die plane B's. -/
  upAlt : Bool
  /-- Latest REFLECT payload of each upstream port. -/
  kept : SMap (List Word)
  /-- The children excluded by level, or the hub itself (R111). -/
  excluded : List Nat
  /-- Downstream ports whose die is lost, as its MLOSS said, until its lane comes UP again (R125, R329). -/
  lostAt : List Nat
  /-- The latest SUMMARY of each downstream port. -/
  kids : SMap Kid
  /-- The hub has been JOINED since main reset (R118). -/
  joinedSinceReset : Bool
  /-- Content of the last SUMMARY sent, and its SSEQ. -/
  lastSummary : Option (List Word)
  sseq : Nat
  /-- REFLECT payload last sent on each port. -/
  sentReflect : SMap (List Word)
  /-- TR_STAT.START_SLOW (R123). -/
  startSlow : Bool
  /-- START_SLOW has been reported since power-on (R123). -/
  slowReported : Bool
  /-- A lane has come UP since main reset (R123). -/
  firstUp : Bool
  /-- FRC at the entry into DISCOVER (R114). -/
  discoverFrc : Option Nat
  /-- TR_TLOCK: the µs from the entry into DISCOVER to LOCKED, once LOCKED. -/
  tlock : Option Nat
  /-- RSEQ of the next remote request (R127). -/
  rseq : Nat
  /-- The outstanding tags, with port, page address, master and time-out (R127). -/
  tags : SMap RraOut
  /-- The response queue of 16 (R129). -/
  rrsp : List Rrsp
  /-- The interrupt-notice queue (R130). -/
  inq : List (Nat × Word × Word)
  /-- The member-loss queue (R125). -/
  mlq : List (List Word)
  /-- Upstream ports on which an interrupt notice waits (R56). -/
  inoteWait : List Nat
deriving DecidableEq, Repr

/-! ### Event recorder and monitors -/

/-- A record in the writer queue, before it is stamped (R335, R337). -/
structure RawRec where
  code : Nat
  src : Nat
  sev : Nat
  late : Bool
  p1 : Word
  p2 : Word
  p3 : Word
deriving DecidableEq, Repr

/-- A mirror operation of the memory-write port: the address and the words of each beat issued, in order, and whether one
of them has been answered with MW_ERR (R369). -/
structure MwOp where
  beats : List (Nat × List Word)
  err : Bool
deriving DecidableEq, Repr

/-- The event recorder (R335 to R341). -/
structure EvState where
  /-- The ring: eight words R0 to R7 per written slot. -/
  ring : SMap (List Word)
  /-- EV_WRSEQ (R337). -/
  wrSeq : Nat
  /-- The writer queue, oldest first (R337). -/
  queue : List RawRec
  /-- Records lost for want of room in the writer queue. -/
  lost : Nat
  /-- The overwrite record has been written since EV_RDSEQ last moved. -/
  ovrOnce : Bool
  /-- What EV_RST has added to the operating time. -/
  optOff : Nat
  /-- The power cycle. -/
  pcyc : Nat
  /-- RESTORE has been taken in this power cycle. -/
  restored : Bool
  /-- The next record to mirror. -/
  hmSeq : Nat
  /-- Records that the mirror has lost. -/
  mirLost : Nat
  /-- The upload queue of a management hub (R341). -/
  uploads : List (Nat × List Word)
  /-- The operations of the memory-write port whose beats the host can still answer, newest first: as many as its buffer
  has beats (R367, R369). -/
  mwOps : List MwOp
  /-- Beats in the port's buffer of 16 while HOST_RST_N is low (R366, R367). -/
  mwHeld : List (Nat × List Word)
  /-- Records that wait in the ring for room in that buffer, by number, oldest first (R340). -/
  hmBack : List Nat
deriving DecidableEq, Repr

/-- The event and pin counters (R342 to R351). -/
structure MnState where
  counts : SMap Nat
  snap : SMap Nat
  pins : SMap Nat
  psnap : SMap Nat
  snapSeq : Nat
  snapAt : Nat
  armed : Option Nat
deriving DecidableEq, Repr

/-- One histogram unit (R352 to R356). -/
structure HsUnit where
  bins : SMap Nat
  nsamp : Nat
  min : Int
  minT : Nat
  max : Int
  maxT : Nat
  stopped : Bool
  satBins : List Nat
  dropRep : Bool
  /-- Samples taken in the current LCLK cycle, and those that wait, the oldest first (R352). -/
  cyc : Nat
  queue : List Int
deriving DecidableEq, Repr

/-! ### Groups and mortar -/

/-- The entry states, in their STATE order (R272). -/
inductive GrMode where
  | free | opened | sealed | active | lossHeld | failed | quar
deriving DecidableEq, Repr

/-- What a hub keeps of a listed port's census (R274). -/
structure PortCensus where
  count : Nat
  fsup : Nat
  dp : Nat
  calculated : Bool
deriving DecidableEq, Repr

/-- One mortar lane as it travels (R228, R233): its value, and the member address of an ARGMIN or
ARGMAX lane. A SUM value is the accumulator A; MIN and MAX hold the encoded value. -/
structure LaneVal where
  val : Int
  addr : Nat
  nan : Bool
  pinf : Bool
  ninf : Bool
  range : Bool
  empty : Bool
deriving DecidableEq, Repr

/-- An arrival (R222): the lanes and DET of one port, or of the die itself. -/
structure Arrival where
  lanes : List LaneVal
  det : Bool
deriving DecidableEq, Repr

/-- A release (R234). -/
structure Release where
  course : Nat
  gen : Nat
  flags : Nat
  det : Bool
  sat : Nat
  range : Nat
  nan : Nat
  pinf : Nat
  ninf : Nat
  trel : Nat
  addrs : List Nat
  vals : List Nat
deriving DecidableEq, Repr

/-- A message MT holds until it can enter its transmit queue (R226). -/
inductive HeldMsg where
  | arrival (course : Nat) (cells : List Cell)
  | release (course : Nat) (ports : List Nat) (cells : List Cell)
deriving DecidableEq, Repr

/-- A RELEASE held on a port until an ACK covers a GCMD sent there (R281): the port, the sequence
number the GCMD got once sent, and the course the release is of. -/
structure GcmdHold where
  port : Nat
  course : Nat
  cell : Cell
deriving DecidableEq, Repr

/-- The combined quiet probe of one round at a hub (R267). -/
structure ProbeRound where
  epoch : Nat
  got : List Nat
  quiet : Bool
  incomplete : Bool
  anyWait : Bool
  sent : Nat
  recv : Nat
  members : Nat
deriving DecidableEq, Repr

/-- The deadlock detector's view of a group entry at a die (R264 to R269). -/
structure DlGroup where
  act : Nat
  sent : Nat
  recv : Nat
  /-- The local condition and activity at the last sample, at the last round, and whether the
  condition held across the last two samples. -/
  sampled : Option (Bool × Nat)
  /-- The local condition and activity taken by the latest QPROBE of this die (R266). -/
  round : Option (Bool × Nat)
  /-- LQUIET of the latest samples (R265). -/
  lquiet : Bool
  /-- DEADLOCK, sticky until its clear. -/
  deadlock : Bool
  /-- Deadlock episodes counted. -/
  episodes : Nat
  /-- Epochs of the latest verdict, probe and detection (R266). -/
  epVerdict : Nat
  epProbe : Option Nat
  epDetect : Nat
  /-- NAGENT_BAD has been reported (R264). -/
  nagentBad : Bool
deriving DecidableEq, Repr

/-- One group entry (R270, R271) with its barrier (R221 to R226). -/
structure GrEntry where
  state : GrMode
  gid : Nat
  gen : Nat
  mode : Word
  decl : Nat
  /-- Listed ports, bit n for port n. -/
  pmap : Nat
  /-- The census is complete (R275). -/
  censusOk : Bool
  /-- FEAT_SHORT (R275). -/
  featShort : Bool
  /-- The census exceeds the declared members (R275). -/
  overDecl : Bool
  /-- The census is short of the declared members (R275). -/
  short : Bool
  /-- An admission is accepted here (R282). -/
  admitted : Bool
  /-- EXPELLED (R283). -/
  expelled : Bool
  /-- FSUP and FEN, and whether FEN is fixed (R275). -/
  fsup : Nat
  fen : Nat
  fenFixed : Bool
  /-- The members counted (R274). -/
  gcount : Nat
  /-- The latest census of each port (R274). -/
  ports : SMap PortCensus
  /-- The pending change: its course and the sum of the members (R280). -/
  pend : Option (Nat × Int)
  /-- Courses of the latest admission and expulsion at a die (R282, R283). -/
  admCourse : Nat
  expCourse : Nat
  /-- The release of barrier N − 1 has been delivered since the admission or expulsion. -/
  admDue : Bool
  /-- The release of barrier N − 1 has been delivered since the expulsion (R283). -/
  expDue : Bool
  /-- First barrier from which a newly listed port's arrivals are expected, and from which a
  port's arrivals are expected no more (R281). -/
  expectFrom : SMap Nat
  /-- Last barrier to which a port dropped from the list still arrives. -/
  expectUntil : SMap Nat
  /-- FRC at the dissolve (R278). -/
  quarAt : Nat
  /-- The last census sent down (COMPLETE, FAILED, FEAT_SHORT), and the last content sent up. -/
  downSent : Option (Bool × Bool × Bool)
  upSent : Option (List Word)
  /-- The open barrier's course, and the arrivals delivered for it by port; a die's own arrival
  stands under port 99. -/
  barrier : Option Nat
  /-- Arrivals delivered for the open barrier, by port; 99 stands for the die's own (R224). -/
  arrivals : SMap Arrival
  /-- FRC of the first and last arrival of a barrier, or of its first and last SYNC at a die, by course, until its
  arrival has left (R353). -/
  spread : SMap (Nat × Nat)
  /-- The course expected after the latest release. -/
  expected : Option Nat
  /-- The latest release taken (R225). -/
  latest : Option Release
  /-- Ports still owed the latest release (R226). -/
  owed : List Nat
  /-- Ports whose GCMD holds the release back (R281). -/
  holds : List GcmdHold
  /-- The census was short while the open barrier was open (R286). -/
  shortOpen : Bool
  /-- Courses of the changes accepted, for the DET of their releases (R286). -/
  changed : List Nat
  /-- A die's lanes and local DET by course; a course without an entry has identity lanes and 1. -/
  lanes : SMap (List LaneVal)
  /-- Courses whose DET has been cleared (R218, R291). -/
  detLost : List Nat
  /-- The latest course whose numbers have left the die, or were dropped (R212, R303). -/
  sentTo : Option Nat
  /-- A hub's combined arrival for the open barrier has gone up. -/
  combined : Bool
  /-- The open barrier's release has been taken and is held on a port: the barrier closes when it has left on every
  member port that is UP (R226). -/
  closing : Bool
  /-- Courses whose arrival an override dropped at this die (R303). -/
  dropped : List Nat
  /-- The clean count of the loss scale (R238). -/
  clean : Nat
  /-- The QPROBE of the round under way at a hub (R266). -/
  probe : Option ProbeRound
  /-- The deadlock monitor of the entry (R264 to R267). -/
  dl : DlGroup
deriving DecidableEq, Repr

/-- The group and mortar tables. -/
structure GrState where
  entries : SMap GrEntry
  /-- Last generation of each group ID set up since main reset (R278). -/
  lastGen : SMap Nat
  /-- The messages that wait for room or an ACK, each with its entry, in the order in which they became held (R226). -/
  held : List (Nat × HeldMsg)
  /-- Delivered messages waiting to be combined, the largest number since MT_COMPL was read, and
  LEVEL_SAT (R242). -/
  qocc : Nat
  /-- MT_QMAX (R242). -/
  qmax : Nat
  /-- LEVEL_SAT (R242). -/
  levelSat : Bool
deriving DecidableEq, Repr

/-! ### Step sequencer -/

/-- The thread states, in their STATE order (R194). -/
inductive ThMode where
  | idle | run | waitT | waitF | waitB | waitS | waitN | authHold | cwait | halted | fault | solo
deriving DecidableEq, Repr

/-- An armed contribution count of a thread, for a course of a group (R210). -/
structure ArmCount where
  grp : Nat
  course : Nat
  k : Nat
  made : Nat
  synced : Bool
deriving DecidableEq, Repr

/-- One sequencer thread (R193). Times are Lyspen times in units of 2^-32 ns. -/
structure ThreadState where
  mode : ThMode
  pc : Nat
  /-- Levels by which aging has raised it since it last issued (R199). -/
  aged : Nat
  /-- The group table entry in use (R193). -/
  grp : Nat
  /-- The current course (R193). -/
  course : Nat
  /-- The plan's first course (R193). -/
  n0 : Nat
  /-- The base of the current course, in 2^-32 ns (R202). -/
  base : Nat
  /-- The cursor, in 2^-32 ns (R204). -/
  cursor : Nat
  /-- Mailboxes of 64 bits. -/
  mb : SMap Nat
  /-- The release register: valid, DET, flags and course (R213). -/
  rvalid : Bool
  rdet : Bool
  rflags : Nat
  rcourse : Nat
  /-- T_rel of the latest barrier release the thread has received. -/
  lastRel : Option Nat
  /-- SQ_TFAULT.FCODE (R219). -/
  fcode : Nat
  /-- ARM records of the thread's courses. -/
  arms : List ArmCount
  /-- The wake time in WAIT_T. -/
  wake : Nat
  /-- Lines of the FIRE that have not fired, been refused or lost, and the set. -/
  lines : List Nat
  /-- The set of the FIRE under way (R205). -/
  set : Nat
  /-- The flags of the SYNC under way. -/
  noBase : Bool
  /-- The flags of the release loaded by SYNC (R213). -/
  rload : Bool
  /-- The tag of the FENCE under way, and whether its stall has been reported. -/
  tag : Nat
  /-- FENCE_STALL has been reported (R217). -/
  stalled : Bool
  /-- It has issued since the last LCLK cycle was counted (R345). -/
  issued : Bool
  /-- FRC at its last issue or entry to RUN: the ages of R199 and R323 count from it. -/
  runAt : Nat
  /-- BRF flag 18, and the overrun of the current course has been reported. -/
  solo : Bool
  /-- OVERRUN of the current course (R318). -/
  overrun : Bool
  /-- The thread has synced barriers up to this course (R321). -/
  synced : Option Nat
deriving DecidableEq, Repr

/-- A trigger arm on its way from the sequencer to its tap (R206). -/
structure ArmFlight where
  line : Nat
  tf : Nat
  thread : Nat
  course : Nat
  grp : Nat
  ctx : Word
  cancelled : Bool
deriving DecidableEq, Repr

/-- The sequencer. -/
structure SqState where
  threads : SMap ThreadState
  /-- Thread that last issued at each priority level. -/
  rot : SMap Nat
  /-- Arm messages on their way to the taps (R205). -/
  flights : List ArmFlight
  /-- Delivery questions to the fabric that it has not answered, in request order: the thread that waits, or none where
  it left its wait, and the tag (R217, R373). -/
  fences : List (Option Nat × Nat)
  /-- Written words of the program store, and the word of the latest parity error. -/
  store : SMap (BitVec 64)
  /-- The word of the latest parity error (R219). -/
  perr : Nat
deriving DecidableEq, Repr

/-! ### Region taps -/

/-- A trigger armed on a line (R159, R160). -/
structure LineArm where
  tf : Nat
  thread : Nat
  course : Nat
  grp : Nat
  ctx : Word
  /-- The tap moment, once passed with authority, and CAL_OK then. -/
  moment : Option Nat
  calOk : Bool
  /-- Withheld until a RESUME (R24, R160). -/
  withheld : Bool
  /-- The moment lay within a stop of the region (R173). -/
  inStop : Bool
  /-- A solo fire: no course, no authority (R334). -/
  solo : Bool
deriving DecidableEq, Repr

/-- One trigger line. -/
structure LineState where
  armed : Option LineArm
  flat : Nat
  late : Bool
  lastFire : Option Nat
  /-- The FRC of the latest fire's edge in 1/64 tick, and the length of the region cycle it is high for, in 1/64 tick,
  once the region's next edge has ended that cycle (R159). -/
  rise : Nat
  cycle : Option Nat
  /-- Context words it has fired with, and the time of the latest fire of each, newest first. -/
  fired : List (Word × Nat)
deriving DecidableEq, Repr

/-- An input of an engine as its tap samples it (R166): a heartbeat edge, a rise of done, the start of a
context, or a reset acknowledge. -/
inductive EngIn where
  | heartbeat | done | rack
  | start (ctx : Word)
deriving DecidableEq, Repr

/-- One region tap (R153 to R174). Periods and extensions are in 1/64 tick. -/
structure TapState where
  calOk : Bool
  chainOk : Bool
  stopped : Bool
  running : Bool
  opsel : Nat
  drift : Int
  trim : Nat
  hopTicks : Nat
  cumTicks : Nat
  echo : Nat
  /-- A TRIM step to be taken at the next boundary. -/
  move : Int
  /-- TRIM, HOP_TICKS and CUM_TICKS of a recalibration, taken at the next boundary (R157). -/
  recal : Option (Nat × Nat × Nat)
  /-- RPER by operating point calibrated in this power cycle (R174). -/
  opcal : SMap Nat
  /-- A restart has happened at a point, so its period is to be measured. -/
  measuring : Bool
  /-- RT_RPER in 1/64 tick (R164). -/
  rper : Nat
  /-- RT_ACC, in 1/64 tick (R164). -/
  acc : Nat
  /-- The stretch counters of the window under way and of the reported one (R164). -/
  strCyc : Nat
  strSum : Nat
  strMax : Nat
  repCyc : Nat
  repSum : Nat
  repMax : Nat
  /-- FRC at STOPACK (R172). -/
  stopAt : Nat
  /-- RT_STOPT: the length of the latest stop (R172). -/
  stopLast : Nat
  /-- STOP_LONG has been reported for the stop under way (R172). -/
  stopLong : Nat
  /-- A calibration of crossings of the tap is under way (R168); which ones, their own flags say. -/
  xcal : Bool
  /-- A region reset is pending since the request; the time of the request. -/
  rgnReset : Bool
  rstAt : Nat
  /-- The region stands only because HOST_RST_N is low (R366). -/
  hostStop : Bool
  /-- The region stands only because of a region reset; once that is acknowledged, the next edge ends the span
  (R328). -/
  rstStop : Bool
  /-- The next region edge ends the stop that the reset began (R328). -/
  edgeDue : Bool
  /-- Engine inputs that rose while the region stood, oldest first: sampled at restart (R173). -/
  heldIn : List (Nat × EngIn)
  /-- Wakes on their way: the core slot, and the tick of FRC from which it is due (R166); and the wake lines high
  in the present region cycle. -/
  wakes : List (Nat × Nat)
  wakeOut : List Nat
deriving DecidableEq, Repr

/-- A write in flight on a crossing (R169): its release boundary in ticks of FRC, or none where it
is presented as ASYNC, and whether a stop has already made it a slip. -/
structure XcWrite where
  boundary : Option Nat
  slipped : Bool
deriving DecidableEq, Repr

/-- One deterministic crossing (R167 to R171). -/
structure XcState where
  /-- L_path by destination operating point, and the source point it was measured with. -/
  lpath : SMap Nat
  srcPoint : SMap Nat
  /-- It runs as ASYNC from an OP_UNCAL restart of a region it touches until RT_TCMD.XCAL is written (R174). -/
  uncal : Bool
  /-- XCAL_BUSY: it is being calibrated, and runs as ASYNC (R168). -/
  busy : Bool
  /-- SLIP of RT_XSTAT (R170). -/
  slipped : Bool
  /-- The writes on their way, oldest first. -/
  writes : List XcWrite
deriving DecidableEq, Repr

/-- One context an engine has started (R332): its word, its start and done times as T[63:32], and
the line it was launched on (R333). -/
structure EngCtx where
  eng : Nat
  ctx : Word
  start : Word
  startT : Nat
  done : Option Nat
  line : Option Nat
deriving DecidableEq, Repr

/-- The reset state of an engine, in its RSTATE order. -/
inductive EngReset where
  | normal | engine | region | fenced
deriving DecidableEq, Repr

/-- One watched engine (R166, R320, R327, R332). -/
structure EngState where
  done : Bool
  hbAt : Nat
  hbto : Bool
  rstate : EngReset
  /-- Escalation has been asked for and waits for the capsule, with the capsule reason. -/
  waiting : Bool
  /-- The context log, newest first, at most eight (R205). -/
  log : List EngCtx
deriving DecidableEq, Repr

/-- The taps, lines, crossings and engines. -/
structure RtState where
  taps : SMap TapState
  lines : SMap LineState
  xcs : SMap XcState
  engs : SMap EngState
  calBusy : Bool
  /-- The taps a calibration restarted for, where it is not of the whole chain; and the taps whose calibration a
  stop abandoned (R175). -/
  calOnly : Option (List Nat)
  calLeft : List Nat
  /-- Course bases of RT_CFG.RPT_GROUP that have not passed yet: the report boundaries to come (R164). -/
  reports : List Nat
deriving DecidableEq, Repr

/-! ### MAC taps and pulse outputs -/

/-- An entry of a transmit stamp queue (R180). -/
structure TxStamp where
  fid : Nat
  missed : Bool
  ovrBefore : Bool
  time : Nat
deriving DecidableEq, Repr

/-- One MAC tap (R176 to R184). -/
structure TsTap where
  txq : List TxStamp
  ovr : Bool
  /-- Last strobe in each direction, in 1/64 tick of FRC. -/
  lastTx : Option Nat
  lastRx : Option Nat
  /-- The latest receive time and its class, as TS_RXL shows them. -/
  rxl : Nat
  rxlCls : Nat
  /-- The receive stamp last returned on RXTS: its class stands as the frame identifier. -/
  rxts : Option TxStamp
  /-- The last 16 plumb frames sent: PSEQ, stamp and step count, newest first. -/
  sent : List (Nat × Nat × Nat)
  /-- PSEQ of the next plumb frame, and the payload offered on PL_TXDATA while PL_REQ is high. -/
  pseq : Nat
  /-- The payload on PL_TXDATA while PL_REQ is high (R182). -/
  offer : Option (List Word)
  /-- PSEQ, receive stamp and step count of the latest frame received. -/
  got : Option (Nat × Nat × Nat)
  /-- A plumb strobe whose payload has not come: its stamp, with the step count at the strobe, unless it was missed. -/
  strobe : Option (Option (Nat × Nat))
  /-- TK_STEPCNT when the previous plumb frame was sent. -/
  stepAt : Nat
  nb : Option Nat
  /-- Exchanges of the window, and the sums of THETA and DELAY (R184). -/
  n : Nat
  sumTheta : Int
  sumDelay : Int
  /-- THETA, DELAY and the largest THETA of the latest window (R184). -/
  theta : Int
  delay : Int
  maxTheta : Nat
  /-- PL_VALID, the plumb alarm, and the count of skipped exchanges (R183, R184). -/
  plValid : Bool
  alarm : Bool
  skip : Nat
  /-- VALID of the latest window. -/
  valid : Nat
deriving DecidableEq, Repr

/-- The MAC taps and software stamps. -/
structure TsState where
  taps : SMap TsTap
  /-- Software stamps: source and time. -/
  swq : List (Nat × Nat)
  /-- SWEVT inputs with an edge still unstamped. -/
  swWait : List Nat
  /-- SWEVT inputs that have had a rising edge. -/
  swSeen : List Nat
  /-- SUSPECT of TS_PLSTAT, the sign and the port it names (R185). -/
  suspect : Bool
  sign : Bool
  suspectPort : Nat
deriving DecidableEq, Repr

/-- What a pulse output took at ARM (R187): times in 2^-32 ns. -/
structure PulseArm where
  mode : Nat
  start : Nat
  per : Nat
  wid : Nat
  count : Nat
deriving DecidableEq, Repr

/-- One pulse output and its REF input pin (R186 to R192). -/
structure PoOut where
  armed : Option PulseArm
  /-- Grid points passed since ARM, and the due time of the next rising edge. -/
  k : Nat
  next : Nat
  /-- The output is driven high (R186). -/
  high : Bool
  /-- Due time of the fall, and the times of the latest rise and fall (R186, R188). -/
  fall : Nat
  rose : Nat
  lastFall : Option Nat
  /-- DONE of PO_PSTAT (R187). -/
  done : Nat
  /-- DISABLED after a short (R192). -/
  disabled : Bool
  /-- OPEN_LOAD of PO_PSTAT (R192). -/
  openLoad : Bool
  /-- Short retries (R192). -/
  retries : Nat
  /-- ACTIVITY of PO_ISTAT (R192). -/
  activity : Bool
  /-- OPEN of PO_ISTAT (R192). -/
  openIn : Bool
  /-- INVERTED of PO_ISTAT (R192). -/
  inverted : Bool
  /-- CORRECTED of PO_ISTAT (R192). -/
  corrected : Bool
  /-- HELD of PO_ISTAT (R192). -/
  pinHeld : Bool
deriving DecidableEq, Repr

/-- The pulse outputs and UART pins. -/
structure PoState where
  outs : SMap PoOut
  /-- The UART lines found inverted (R192), a bit each. -/
  uartInv : Nat
  uartAct : Nat
deriving DecidableEq, Repr

/-! ### Semaphores, gates and deadlock -/

/-- One semaphore (R245). -/
structure SemState where
  count : Nat
  next : Nat
  last : Nat
  cfg : Word
deriving DecidableEq, Repr

/-- A blocked wait of an agent (R248), with the FRC at its registration. -/
structure WaitState where
  sem : Nat
  n : Nat
  dir : Bool
  ord : Bool
  rank : Nat
  tag : Nat
  since : Nat
  reported : Bool
deriving DecidableEq, Repr

/-- A directed credit (R252). -/
structure DirCredit where
  sem : Nat
  tag : Nat
  credit : Nat
deriving DecidableEq, Repr

/-- A request of a core slot (R246). -/
inductive CoreReq where
  | signal (sem n : Nat) (dir : Bool) (tag : Nat)
  | setevent (sem : Nat)
  | wait (sem n : Nat) (dir ord : Bool) (rank tag : Nat)
  | sigr (gte n : Nat) (dir : Bool) (tag : Nat)
  | cancel
deriving DecidableEq, Repr

/-- A master's operation on the shared port (R247). -/
inductive MasterOp where
  | signal (sem n : Nat)
  | setevent (sem : Nat)
  | rstNext (sem : Nat)
deriving DecidableEq, Repr

/-- The semaphore block. -/
structure SgState where
  sems : SMap SemState
  waits : SMap WaitState
  dirs : List DirCredit
  dirPeak : Nat
  rq : List (Nat × CoreReq)
  /-- The next turn of the shared port is the release turn (R247). -/
  turn : Bool
  /-- Master operations that wait for their turn (R247). -/
  mops : List (Master × MasterOp)
  /-- Core slots answered BUSY. -/
  busy : List Nat
deriving DecidableEq, Repr

/-- A remote signal in the staging queue (R255). -/
structure Staged where
  agent : Nat
  dest : Nat
  sem : Nat
  chan : Nat
  grp : Nat
  gid : Nat
  gen : Nat
  n : Nat
  dir : Bool
  tag : Nat
deriving DecidableEq, Repr

/-- A fabric count query that is outstanding (R255, R259): the transmit count for the staging head, or
the received count of a source and channel. -/
inductive FcQuery where
  | tx (chan : Nat)
  | rx (src chan : Nat)
  /-- A transmit count asked for a staging head that a dissolve has removed: its answer is for nobody. -/
  | gone (chan : Nat)
deriving DecidableEq, Repr

/-- A pending gated signal (R259 to R263). -/
structure PendEntry where
  src : Nat
  sem : Nat
  n : Nat
  gate : Nat
  chan : Nat
  tag : Nat
  dir : Bool
  gid : Nat
  grp : Nat
  rx : Option Nat
  since : Nat
  order : Nat
  stalled : Bool
  met : Bool
deriving DecidableEq, Repr

/-- The gate table's staging queue and pending buffer. -/
structure GtState where
  staging : List Staged
  queries : List FcQuery
  pend : SMap PendEntry
  order : Nat
  peak : Nat
  full : Bool
deriving DecidableEq, Repr

/-! ### Guard, firmware, hangs, capsule and power -/

/-- The watchdog and the latest override (R312). -/
structure GdState where
  wdRun : Bool
  kickAt : Nat
  expiries : Nat
deriving DecidableEq, Repr

/-- How far a boot of the controller is: none wanted, an image to be loaded, or one under verification. -/
inductive FwPhase where
  | off | want | load
deriving DecidableEq, Repr

/-- The controller and its images (R309 to R315). -/
structure FwState where
  running : Bool
  /-- Held in reset by the watchdog (R312), and by FW_CMD.HOLD (R311). -/
  held : Bool
  hostHeld : Bool
  /-- Held for want of a good image. -/
  noImage : Bool
  /-- A trial of the other bank runs (R314). -/
  trial : Bool
  /-- The active bank is B. -/
  bankB : Bool
  /-- The image under load comes from SRAM. -/
  fromSram : Bool
  /-- The boot phase (R310). -/
  phase : FwPhase
  /-- The banks this boot has found bad. -/
  tried : List Bool
  /-- FW_BSTATA and FW_BSTATB (R311). -/
  bstatA : Word
  bstatB : Word
  /-- FW_RUN: versions of the image that runs (R309). -/
  run : Word
  /-- FW_BOOTT: FRC at the latest HANDOVER or boot, and ms once committed. -/
  bootAt : Nat
  /-- FW_BOOTT in ms once committed. -/
  bootMs : Option Nat
  /-- SWITCH has been written and waits for HANDOVER. -/
  swReq : Bool
  /-- FW_HOB and the NOR bank are protected. -/
  prot : Bool
  /-- The erase under way, and the bank it began on. -/
  erasing : Bool
  eraseB : Bool
  /-- An image is being staged into the inactive bank; a main reset then spoils that bank (R375). -/
  staging : Bool
  /-- The bank whose staging a reset has cut short (R311). -/
  spoiled : Option Bool
  /-- The staging buffer: NOR addresses and bytes, oldest first. -/
  buffer : List (Nat × BitVec 8)
  /-- The bank the boot record names, where it is present and valid. -/
  bootRec : Option Bool
  /-- NOR and SRAM bytes by address; an unlisted NOR byte reads 0xFF, an unlisted SRAM byte 0. -/
  nor : SMap (BitVec 8)
  sram : SMap (BitVec 8)
  /-- An image has been started since main reset. -/
  booted : Bool
deriving DecidableEq, Repr

/-- A suspect (R333). -/
structure Suspect where
  ctx : Word
  eng : Nat
  line : Option Nat
  res : Nat
deriving DecidableEq, Repr

/-- The stages of a solo replay (R334). -/
inductive SoloStage where
  | off | prologue | fire | wait | hung
deriving DecidableEq, Repr

/-- Hang detection (R318 to R334). -/
structure HgState where
  fenced : Bool
  fenceT : Nat
  discReported : Bool
  /-- FRC at which a region time-out found the die fenced already, and that of the last UNFENCE with the taps
  whose region resets it ended: of the two in one cycle UNFENCE applies first (R331). -/
  fenceAgain : Option Nat
  /-- The tick of the latest UNFENCE, and the taps whose region reset it took back (R331). -/
  unfenced : Option (Nat × List Nat)
  /-- The suspects, newest first (R333). -/
  suspects : List Suspect
  /-- The list a solo replay goes through: the suspects as they were at its start (R334). A later capture builds the
  shown list afresh (R333), and the replay keeps its own. -/
  replay : List Suspect
  /-- The shown list is still the one the replay goes through, so that its results are entered there (R334). -/
  replayShown : Bool
  /-- The list was cut at 64 (R333). -/
  trunc : Bool
  /-- The stage of the solo replay (R334). -/
  solo : SoloStage
  /-- Index, from the oldest, of the suspect under replay. -/
  soloIdx : Nat
  /-- The replay has ended (R334). -/
  soloDone : Bool
  /-- Hangs found by the replay (R334). -/
  hangs : Nat
deriving DecidableEq, Repr

/-- The stages of a capture (R324). -/
inductive CpStage where
  | empty | paused | reading | done
deriving DecidableEq, Repr

/-- The capsule store (R324 to R326). -/
structure CpState where
  stage : CpStage
  reason : Nat
  seq : Nat
  /-- Engines concerned, in reading order, and those still to be read. -/
  engs : List Nat
  left : List Nat
  /-- Engines that returned no status in time (R324). -/
  timedOut : List Nat
  /-- The capsule, by word (R325). -/
  words : SMap Word
  /-- A mirror operation is under way (R326): its base address and the beats that lay in the window when it began, by
  their place in the capsule (R305). -/
  mirroring : Bool
  mirBase : Nat
  mirror : List Nat
  /-- MIRRORED of CP_STAT (R326). -/
  mirrored : Bool
  /-- A beat of this mirror operation has been answered with MW_ERR. -/
  mwErr : Bool
  /-- Escalation steps logged in the capsule (R327). -/
  logged : Nat
deriving DecidableEq, Repr

/-- Supplies and resets (R358 to R375). -/
structure PwState where
  aon : Bool
  tclk : Bool
  lys : Bool
  io : Bool
  temp : Word
  /-- The last sample was above PW_TEMPLIM, and the alarm has been recorded and the temperature has not fallen 5 °C
  below the limit since (R363). -/
  tempHot : Bool
  tempSent : Bool
  /-- Which power-on of the AON domain this is: the model's own number, which tells its rail readings from those of
  another (log entry 3). -/
  powerOn : Nat
  /-- Supply-order violations not yet recorded, and a VDD_LYS loss not yet recorded. -/
  orderDue : Word
  lysDue : Bool
  /-- PW_RSTCAUSE (R375). -/
  rstCause : Nat
  /-- RST_N is driven low. -/
  rstLow : Bool
  /-- HOST_RST_N is low (R366). -/
  hostLow : Bool
  /-- Lyspen time at the latest fall of HOST_RST_N. -/
  hostAt : Nat
  /-- LANEGO has been given (R374). -/
  lanesReleased : Bool
  /-- Chain calibration has ended since main reset. -/
  chainDone : Bool
deriving DecidableEq, Repr


/-! ### The part -/

/-- What integration and fusing fix (R1, R13, and the registers whose reset value is strapped, fused
or integrated). -/
structure Ident where
  /-- The role sampled from LYS_ROLE at AON power-on, and the level of the strap. -/
  hub : Bool
  strapHub : Bool
  /-- GLB_UID, 64 bits, fused. -/
  uid : Nat
  /-- The plane of a hub. -/
  planeB : Bool
  /-- The fused DCO trim, 32 bits (R151). -/
  dcoTrim : Nat
  /-- Region taps of the die (R154). -/
  ntaps : Nat
  /-- Branches of the tap chain (R154). -/
  branches : Nat
  /-- A NOR is fitted (R306). -/
  norPresent : Bool
  /-- SVNMIN, fused (R310). -/
  svnMin : Nat
  /-- The fused key digests present and revoked (R310). -/
  keys : Nat
deriving DecidableEq, Repr

/-- Everything of the part but the queue of commands. -/
structure Chip where
  id : Ident
  /-- Stored registers of every page, by storage key. -/
  regs : SMap Word
  /-- Shadow copies of latched siblings, per master (R47). -/
  shadows : SMap Word
  /-- Pages in their soft-reset hold, with the accesses that wait (R42). -/
  held : SMap (List HeldAccess)
  /-- The timekeeper (R58 to R75). -/
  tk : TkState
  /-- The legacy time bases (R76, R77). -/
  tb : TbState
  /-- The servo (R132 to R151). -/
  sv : SvState
  /-- The references (R145 to R150). -/
  rf : RfState
  /-- The ports by number (R78 to R109). -/
  ports : SMap PortState
  /-- The tree engine (R110 to R131). -/
  tr : TrState
  /-- The event recorder (R335 to R342). -/
  ev : EvState
  /-- The counters and pin counters (R343 to R350). -/
  mn : MnState
  /-- The histogram units (R352 to R356). -/
  hs : SMap HsUnit
  /-- The group table with its mortar (R220 to R244, R271 to R287). -/
  gr : GrState
  /-- The sequencer (R193 to R219). -/
  sq : SqState
  /-- The region taps, crossings, lines and engines (R154 to R175). -/
  rt : RtState
  /-- The timestamp unit (R176 to R185). -/
  ts : TsState
  /-- The pulse outputs and pins (R186 to R192). -/
  po : PoState
  /-- The semaphores (R245 to R254). -/
  sg : SgState
  /-- The gate table (R255 to R263). -/
  gt : GtState
  /-- The Guard (R298 to R305). -/
  gd : GdState
  /-- The controller's images and boot (R306 to R316). -/
  fw : FwState
  /-- The hang detectors and escalation (R318 to R334). -/
  hg : HgState
  /-- The capsule store (R324 to R326). -/
  cp : CpState
  /-- Supplies and resets (R358 to R375). -/
  pw : PwState
  /-- Main reset is asserted (R364), and the first release after AON power-on is still to come. -/
  inReset : Bool
  /-- The power-on record is still to be written. -/
  powerOnDue : Bool
  /-- How many free values have been taken (log entry 3). -/
  free : Nat
deriving DecidableEq, Repr

/-- The machine: the part, and the commands that wait, first in, first out. -/
structure State where
  chip : Chip
  pending : List Instr
deriving DecidableEq, Repr

/-! ### Reset -/

def TkState.reset : TkState :=
  { frc := 0, tclk := true, tAnchor := 0, frcAnchor := 0, rate := 0x00A0000000000000,
    prevAnchor := 0, prevFrc := 0, prevRate := 0x00A0000000000000, rateStage := none, step := none,
    valid := false, untraceable := true, stepCnt := 0, utcMirror := 0, rateHist := [],
    lostPending := false, lostUncounted := false }

def TbChan.reset : TbChan := { value := 0, load := none, adj := none, cap := 0 }
def TbState.reset : TbState := { chans := [], captT := 0 }

def SvChan.reset : SvChan :=
  { window := [], offset := 0, offRaw := 0, offValid := false, offKnown := false, asymUncal := true, psv := 0, pvalid := false }

def SvState.reset (dco : Nat) : SvState :=
  { mode := .freerun, chan := 0, horeadyFlag := false, freqLocked := false, pllIn := 0, pllRef := 0,
    hoTimer := none, bo := 0, pbo := 0, dco := dco, xe := 0, requal := false, crownWins := 0,
    winOld := false, tickStart := none, stepFrom := none, flockAt := none, dcoLearnt := false,
    peerWin := [], peerOff := 0, peerOk := false, ch0 := .reset, ch1 := .reset }

def RefState.reset : RefState :=
  { signal := false, qualified := false, eligible := false, wtrStart := none, refused := false,
    wasDisq := false, freq := 0, phase := 0, wander := 0, lastEdge := none, ptpSrc := none, ptpSync := none }

def RfState.reset : RfState :=
  { refs := [], selected := none, standby := none, fsrc := none, forced := false, holdover := false,
    bo := 0, lastOff := 0, oldOff := none, hoStart := none, hoTraceDone := false, ageingReady := false }

def PortQueues.reset : PortQueues :=
  { txL := [], txT := [], txB := [], txS := [], txM := [], wait := [], rxL := [], rxT := [], rxB := [],
    rxS := [], rxM := [] }

def PortLink.reset : PortLink :=
  { nextSeq := 0, expected := 0, lastAcc := 0xFFF, replay := [], resend := [], replays := 0,
    timerOn := false, nakAt := none, credB := 0, credS := 0, credM := 0, peerB := 0, peerS := 0,
    peerM := 0, freedB := 0, freedS := 0, freedM := 0, rot := 0, turnB := 8, turnS := 4, turnM := 1 }

def PortCode.reset : PortCode :=
  { good := 0, goodInv := 0, bad := 0, last := none, lastInv := none, txCw := 0, txSlot := 0,
    txHdr := 0, txd := [], txMsg := [], txPar := [] }

def PortTime.reset : PortTime :=
  { mseqTick := 0, mseqReq := 0, mseqRsp := 0, tprev := none, lastRx := none, t3 := none, nextId := 0,
    probes := [], rtt := 80000, mpd := 0, hops := 0, tickW5 := 0, tickCrown := 0 }

def PortQual.reset : PortQual :=
  { mpdRef := 0, learnt := false, hist := [], qcount := 0, outCount := 0, ok := false, lastUid := none }

def PortCheck.reset : PortCheck := { sent := 0, out := [], got := 0, sum := 0 }

def PortState.reset : PortState :=
  { mode := .down, downRsn := 0, refRsn := 0, nver := 0, pmaRdy := false, freqOk := false,
    tqual := false, pmaLatOk := false, rxinv := false, cwlock := false,
    restricted := false, peerCrown := false, restrictNext := false, calDue := true, check := .reset, meas := 0, peer := none,
    gotIdent := false, gotAck := false, featNeg := 0, q := .reset, link := .reset,
    code := .reset, time := .reset, qual := .reset }

def Kid.reset : Kid :=
  { level := 0, members := 0, locked := 0, hubs := 0, slow := false, best := none }

def TrState.reset : TrState :=
  { mode := .idle, level := 0, addr := none, addrFrom := none, crown := none, crownPrio := 0, crownLevel := 0,
    cepoch := 0, hops := 0, parentFreq := false, parentPhase := false, upAlt := false, kept := [],
    excluded := [], lostAt := [], kids := [], joinedSinceReset := false, lastSummary := none,
    sseq := 0, sentReflect := [], startSlow := false, slowReported := false,
    firstUp := false, discoverFrc := none, tlock := none, rseq := 0, tags := [], rrsp := [],
    inq := [], mlq := [], inoteWait := [] }

def EvState.reset : EvState :=
  { ring := [], wrSeq := 0, queue := [], lost := 0, ovrOnce := false, optOff := 0, pcyc := 0,
    restored := false, hmSeq := 0, mirLost := 0, uploads := [], mwOps := [], mwHeld := []
    hmBack := [] }

def MnState.reset : MnState :=
  { counts := [], snap := [], pins := [], psnap := [], snapSeq := 0, snapAt := 0, armed := none }

def HsUnit.reset : HsUnit :=
  { bins := [], nsamp := 0, min := -1, minT := 0, max := 0, maxT := 0, stopped := false,
    satBins := [], dropRep := false, cyc := 0, queue := [] }

def DlGroup.reset : DlGroup :=
  { act := 0, sent := 0, recv := 0, sampled := none, round := none, lquiet := false,
    deadlock := false, episodes := 0, epVerdict := 0, epProbe := none, epDetect := 0,
    nagentBad := false }

def GrEntry.reset : GrEntry :=
  { state := .free, gid := 0, gen := 0, mode := 0, decl := 0, pmap := 0, censusOk := false,
    featShort := false, overDecl := false, short := false, admitted := false, expelled := false,
    fsup := 0, fen := 0, fenFixed := false, gcount := 0, ports := [], pend := none, admCourse := 0,
    expCourse := 0, admDue := false, expDue := false, expectFrom := [], expectUntil := [],
    quarAt := 0, downSent := none, upSent := none, barrier := none, arrivals := [], spread := [], expected := none, latest := none, owed := [], holds := [],
    shortOpen := false, changed := [], lanes := [], detLost := [], sentTo := none, combined := false,
    closing := false, dropped := [], clean := 0, probe := none,
    dl := .reset }

def GrState.reset : GrState :=
  { entries := [], lastGen := [], held := [], qocc := 0, qmax := 0, levelSat := false }

def ThreadState.reset : ThreadState :=
  { mode := .idle, pc := 0, aged := 0, grp := 0, course := 0, n0 := 0, base := 0, cursor := 0,
    mb := [], rvalid := false, rdet := false, rflags := 0, rcourse := 0, lastRel := none,
    fcode := 0, arms := [], wake := 0, lines := [], set := 0, noBase := false, rload := false,
    tag := 0, stalled := false, issued := false, runAt := 0, solo := false, overrun := false, synced := none }

def SqState.reset : SqState :=
  { threads := [], rot := [], flights := [], fences := [], store := [], perr := 0 }

def LineState.reset : LineState :=
  { armed := none, flat := 0, late := false, lastFire := none, rise := 0, cycle := some 0, fired := [] }

def TapState.reset : TapState :=
  { calOk := false, chainOk := false, stopped := false, running := false, opsel := 0, drift := 0,
    trim := 0, hopTicks := 0, cumTicks := 0, echo := 0, move := 0, opcal := [], measuring := false,
    rper := 0, acc := 0, strCyc := 0, strSum := 0, strMax := 0, repCyc := 0, repSum := 0,
    repMax := 0, stopAt := 0, stopLast := 0, stopLong := 0, xcal := false, rgnReset := false, rstAt := 0,
    hostStop := false, rstStop := false, edgeDue := false, heldIn := [], wakes := [], wakeOut := [],
    recal := none }

def XcState.reset : XcState := { lpath := [], srcPoint := [], uncal := false, busy := false, slipped := false, writes := [] }

def EngState.reset : EngState :=
  { done := true, hbAt := 0, hbto := false, rstate := .normal, waiting := false, log := [] }

def RtState.reset : RtState := { taps := [], lines := [], xcs := [], engs := [], calBusy := false, calOnly := none, calLeft := [], reports := [] }

def TsTap.reset : TsTap :=
  { txq := [], ovr := false, lastTx := none, lastRx := none, rxl := 0, rxlCls := 0, rxts := none,
    sent := [], pseq := 0, offer := none, got := none, strobe := none, stepAt := 0, nb := none, n := 0,
    sumTheta := 0, sumDelay := 0, theta := 0, delay := 0, maxTheta := 0, plValid := false,
    alarm := false, skip := 0, valid := 0 }

def TsState.reset : TsState :=
  { taps := [], swq := [], swWait := [], swSeen := [], suspect := false, sign := false, suspectPort := 0 }

def PoOut.reset : PoOut :=
  { armed := none, k := 0, next := 0, high := false, fall := 0, rose := 0, lastFall := none,
    done := 0, disabled := false, openLoad := false, retries := 0, activity := false,
    openIn := false, inverted := false, corrected := false, pinHeld := false }

def PoState.reset : PoState := { outs := [], uartInv := 0, uartAct := 0 }

/-- At main reset every count and next rank is 0 and the last granted agent is 1,055 (R245). -/
def SemState.reset : SemState := { count := 0, next := 0, last := 1055, cfg := 0 }

def SgState.reset : SgState :=
  { sems := [], waits := [], dirs := [], dirPeak := 0, rq := [], turn := true, mops := [], busy := [] }

def GtState.reset : GtState :=
  { staging := [], queries := [], pend := [], order := 0, peak := 0, full := false }

def GdState.reset : GdState := { wdRun := false, kickAt := 0, expiries := 0 }

def FwState.reset : FwState :=
  { running := false, held := false, hostHeld := false, noImage := false, trial := false,
    bankB := false, fromSram := false, phase := .off, tried := [], bstatA := 0, bstatB := 0,
    run := 0, bootAt := 0, bootMs := none, swReq := false, prot := false, erasing := false, eraseB := false,
    staging := false, spoiled := none, buffer := [], bootRec := none, nor := [], sram := [],
    booted := false }

def HgState.reset : HgState :=
  { fenced := false, fenceT := 0, discReported := false, suspects := [], replay := [], replayShown := false, trunc := false,
    fenceAgain := none, unfenced := none, solo := .off, soloIdx := 0, soloDone := false, hangs := 0 }

def CpState.reset : CpState :=
  { stage := .empty, reason := 0, seq := 0, engs := [], left := [], timedOut := [], words := [],
    mirroring := false, mirBase := 0, mirror := [], mirrored := false, mwErr := false, logged := 0 }

def PwState.reset : PwState :=
  { aon := true, tclk := true, lys := true, io := true, temp := 0, tempHot := false, tempSent := false, powerOn := 0, orderDue := 0,
    lysDue := false, rstCause := 1, rstLow := false, hostLow := false, hostAt := 0, lanesReleased := false,
    chainDone := false }

/-- The integration of the part right after reset (log entry 1): a die-role part with 256 taps in
four branches. -/
def Ident.reset : Ident :=
  { hub := false, strapHub := false, uid := 0, planeB := false, dcoTrim := 0x800000, ntaps := 256,
    branches := 4, norPresent := true, svnMin := 0, keys := 1 }

def Chip.reset : Chip :=
  { id := .reset, regs := [], shadows := [], held := [], tk := .reset, tb := .reset,
    sv := .reset Ident.reset.dcoTrim, rf := .reset, ports := [], tr := .reset, ev := .reset,
    mn := .reset, hs := [], gr := .reset, sq := .reset, rt := .reset, ts := .reset, po := .reset,
    sg := .reset, gt := .reset, gd := .reset, fw := .reset, hg := .reset, cp := .reset, pw := .reset,
    inReset := false, powerOnDue := true, free := 0 }

/-- The machine right after reset: AON power-on has set the timekeeper as R74 says, every page is at
its reset values, and no command waits (log entry 2). -/
def State.reset : State := { chip := .reset, pending := [] }

end Sys2Proof.Machine
end

