-- ==== Sys2Proof/Machine/Fec.lean ====
section
/-!
DEFINITION. Machine/Fec.lean: the RS(544,514) code of a lane (R79, R83): the message of a codeword as bits and as
ten-bit symbols, the encoder's parity symbols, and what the decoder makes of a codeword that the line has changed.
-/

namespace Sys2Proof.Machine

/-! ### GF(2^10) and the encoder

The spec names the code and takes it from IEEE 802.3 (R78, R83); the field, the generator and the order of bits in a
symbol are that standard's (PRESUMED, log entry 11). -/

/-- Ten-bit symbols of the code. -/
abbrev Symbol := BitVec 10

/-- A symbol times the field's primitive element, by x^10 + x^3 + 1. -/
def gfDouble (a : Symbol) : Symbol := if a.msb then (a <<< 1) ^^^ 0x009 else a <<< 1

/-- The product of two symbols. -/
def gfMul (a b : Symbol) : Symbol :=
  (List.range 10).foldl (fun s k => gfDouble s ^^^ (if b.getLsbD (9 - k) then a else 0)) 0

/-- A polynomial, highest coefficient first, times (x + r). -/
def gfTimesRoot (g : List Symbol) (r : Symbol) : List Symbol :=
  List.zipWith (fun a b => a ^^^ gfMul b r) (g ++ [0]) (0 :: g)

/-- The generator's coefficients below the leading one: its roots are the first thirty powers of the element. -/
def rsGenerator : List Symbol :=
  (((List.range 30).foldl (fun (s : List Symbol × Symbol) _ => (gfTimesRoot s.1 s.2, gfDouble s.2)) ([1], 1)).1).drop 1

/-- The thirty parity symbols of a message of 514. -/
def rsParity (msg : List Symbol) : List Symbol :=
  let g := rsGenerator
  msg.foldl (fun r m =>
    let f := m ^^^ r.headD 0
    List.zipWith (fun a b => a ^^^ gfMul f b) (r.drop 1 ++ [0]) g) (List.replicate 30 0)

/-! ### The message of a codeword (R83) -/

/-- The bits of a value of `n` bits, in the order in which they go out: the highest first. -/
def bitsDown (n v : Nat) : List Bool := (List.range n).map fun k => v.testBit (n - 1 - k)

/-- The 5,140 bits of a codeword: the header, then the words of slots 0 to 7. -/
def messageBits (header : BitVec 20) (cells : List Cell) : List Bool :=
  bitsDown 20 header.toNat ++ cells.flatMap fun x => x.flatMap fun w => bitsDown 32 w.toNat

/-- The bits of the message as symbols, ten to each, the first to go out lowest. -/
def symbolsOf (bits : List Bool) : List Symbol :=
  (List.range 514).map fun i =>
    (List.range 10).foldl (fun s j => s ||| (if bits.getD (10 * i + j) false then (1 : Symbol) <<< j else 0)) 0

/-- The parity symbols that go out behind a message. -/
def messageParity (header : BitVec 20) (cells : List Cell) : List Symbol := rsParity (symbolsOf (messageBits header cells))

end Sys2Proof.Machine

namespace Sys2Proof

/-! ### The decoder (R79) -/

/-- What the line has added to a symbol of a codeword. -/
def Codeword.errorAt (cw : Codeword) (i : Nat) : BitVec 10 :=
  cw.errors.foldl (fun s e => if e.1.val = i then s ^^^ e.2 else s) 0

/-- How many symbols of a codeword the line has changed. -/
def Codeword.wrong (cw : Codeword) : Nat := ((List.range 544).filter fun i => cw.errorAt i != 0).length

/-- A codeword that the decoder cannot correct: it corrects up to 15 symbols (R79). -/
def Codeword.bad (cw : Codeword) : Bool := decide (15 < cw.wrong)

/-- A bit of the message, by its place in the order of sending, arrives changed. -/
def Codeword.flipped (cw : Codeword) (k : Nat) : Bool := (cw.errorAt (k / 10)).getLsbD (k % 10)

/-- What the line changes of the `n` bits that begin at a place of the message. -/
def Codeword.changes (cw : Codeword) (place n : Nat) : Nat :=
  (List.range n).foldl (fun a j => 2 * a + (if cw.flipped (place + j) then 1 else 0)) 0

/-- The codeword that the decoder hands on: as it was sent where it could be corrected, else as it arrived. -/
def Codeword.decoded (cw : Codeword) : Codeword :=
  if !cw.bad then cw
  else { cw with
    header := cw.header ^^^ BitVec.ofNat 20 (cw.changes 0 20)
    cells := cw.cells.zipIdx.map fun x => x.1.zipIdx.map fun w =>
      w.1 ^^^ BitVec.ofNat 32 (cw.changes (20 + 640 * x.2 + 32 * w.2) 32) }

end Sys2Proof
end

