-- ==== Sys2Proof/Config.lean ====
section
/-!
DEFINITION. Config.lean: the values the spec leaves open. Each is an opaque constant without a
body, so no proof can see what it is and every claim holds for every value of it.
-/

namespace Sys2Proof.Config

/-- A value the spec says is measured or undefined where no command carries it: the `n`-th such
value of the run (DESIGN CHOICE, log entry 3). -/
opaque freeWord : Nat → Word

/-- What the monitor of a rail (0 VDD_AON, 1 VDDA_TCLK, 2 VDD_LYS, 3 VDDIO_T) shows in a given millisecond of a given
power-on (R358; DESIGN CHOICE, log entry 3). -/
opaque railReading : (powerOn rail ms : Nat) → Word

/-- The undefined contents of a program-memory word that nothing has written (R219, log entry 4). -/
opaque sqmWord : Nat → BitVec 64

/-- SHA-384 of a byte string (R309): the function itself is FIPS 180-4's, not this spec's. -/
opaque sha384 : List (BitVec 8) → BitVec 384

/-- Whether a signature over a digest verifies under ECDSA P-384 with a public key (R309):
the function itself is FIPS 186's, not this spec's. -/
opaque ecdsaP384 : List (BitVec 8) → BitVec 384 → List (BitVec 8) → Bool

/-- The key digests fused at manufacture, 0 to 3 (R310). -/
opaque keyDigest : Nat → BitVec 384

end Sys2Proof.Config
end

