-- ==== Sys2Proof/Machine/Cells.lean ====
section
/-!
DEFINITION. Machine/Cells.lean: the cell of a lane (R86 to R88), its parity, and the payloads that
have no home of their own.
-/

namespace Sys2Proof

/-- The code of a master: 0 host port, 1 controller firmware, 2 remote A, 3 remote B (R53). -/
def Master.code : Master → Nat
  | .host => 0
  | .firmware => 1
  | .remoteA => 2
  | .remoteB => 3

def Master.isRemote (m : Master) : Bool := m == .remoteA || m == .remoteB

/-- The parity bit of a word: 1 when it holds an odd number of ones (R87). -/
def parityBits : Nat → Nat → Bool
  | 0, _ => false
  | k + 1, n => Bool.xor (n % 2 == 1) (parityBits k (n / 2))

def Word.parity (w : Word) : Bool := parityBits 32 w.toNat

/-- Word `i` of a cell; a word past its end reads 0. -/
def Cell.word (c : Cell) (i : Nat) : Word := c.getD i 0

/-- Word `i` of a cell replaced. -/
def Cell.setWord (c : Cell) (i : Nat) (w : Word) : Cell := c.set i w

/-- The parity bits P0 to P17 of words W0 to W17. -/
def parityMap (c : Cell) : Nat → Nat
  | 0 => 0
  | k + 1 => parityMap c k + (if Word.parity (Cell.word c k) then 2 ^ k else 0)

/-- W18 with its parity recomputed: CRET_HI as given, P0 to P17, P19, and PMAP_P over the rest. -/
def w18Of (c : Cell) (cretHi : Nat) : Word :=
  let body := Word.place cretHi 19 ||| Word.flag (Word.parity (Cell.word c 19)) 18
    ||| BitVec.ofNat 32 (parityMap c 18)
  body ||| Word.flag (Word.parity body) 31

/-- All twenty parity relations of a cell hold (R87). -/
def Cell.parityGood (c : Cell) : Bool :=
  let w18 := Cell.word c 18
  let map := parityMap c 18
  c.length == 20 && Word.field w18 0 18 == map && Word.bit w18 18 == Word.parity (Cell.word c 19)
    && !(Word.parity w18)

/-- The parity of W0 holds: its bit P0 in W18 agrees with it (R86, R96). -/
def Cell.w0Good (c : Cell) : Bool := Word.bit (Cell.word c 18) 0 == Word.parity (Cell.word c 0)

/-- Class codes (R88). -/
def clsL : Nat := 0
def clsT : Nat := 1
def clsB : Nat := 2
def clsS : Nat := 3
def clsM : Nat := 4

def Cell.cls (c : Cell) : Nat := Word.field (Cell.word c 0) 28 4
def Cell.typ (c : Cell) : Nat := Word.field (Cell.word c 0) 20 8
def Cell.group (c : Cell) : Nat := Word.field (Cell.word c 0) 8 12
def Cell.len (c : Cell) : Nat := Word.field (Cell.word c 0) 0 8
def Cell.seq (c : Cell) : Nat := Word.field (Cell.word c 1) 20 12
def Cell.ack (c : Cell) : Nat := Word.field (Cell.word c 1) 8 12
/-- The class CRET names, and the cumulative count it carries for it (R91). -/
def Cell.cretCls (c : Cell) : Nat := Word.field (Cell.word c 1) 6 2
def Cell.cretCount (c : Cell) : Nat :=
  Word.field (Cell.word c 1) 0 6 + 64 * Word.field (Cell.word c 18) 19 6

/-- Payload word `Wk`, `k` from 2. -/
def Cell.pay (c : Cell) (k : Nat) : Word := Cell.word c k

/-- The payload words W2 to W17. -/
def Cell.payload (c : Cell) : List Word := (c.drop 2).take 16

/-- Whether a class and type belong together and the length fits (R88). -/
def Cell.known (c : Cell) : Bool :=
  c.len ≤ 16 &&
  (match c.cls with
   | 0 => c.typ ≤ 0x04
   | 1 => 0x10 ≤ c.typ && c.typ ≤ 0x12
   | 2 => 0x20 ≤ c.typ && c.typ ≤ 0x23
   | 3 => 0x30 ≤ c.typ && c.typ ≤ 0x31
   | 4 => 0x40 ≤ c.typ && c.typ ≤ 0x45
   | _ => false)

/-- A list of words brought to length `n` with zeros. -/
def padTo (n : Nat) (l : List Word) : List Word := (l ++ List.replicate n 0).take n

/-- A cell of a class and type for a group, with its payload and marker word; W1 and W18 are filled
in when it is sent. -/
def mkCellW (cls typ group : Nat) (pay : List Word) (w19 : Word) : Cell :=
  [Word.place cls 28 ||| Word.place typ 20 ||| Word.place group 8 ||| BitVec.ofNat 32 pay.length, 0]
    ++ padTo 16 pay ++ [0, w19]

def mkCell (cls typ group : Nat) (pay : List Word) : Cell := mkCellW cls typ group pay 0

/-- The three words of a 96-bit time, most significant first (R60). -/
def timeWords (t : Nat) : List Word := [Word.part t 2, Word.part t 1, Word.part t 0]

/-- The 96-bit time in three words from position `k` of a cell. -/
def Cell.time (c : Cell) (k : Nat) : Nat :=
  ((Cell.word c k).toNat <<< 64) + ((Cell.word c (k + 1)).toNat <<< 32) + (Cell.word c (k + 2)).toNat

/-- IDLE and NAK (R88). -/
def idleCell : Cell := mkCell clsL 0x00 0 []
def nakCell (e : Nat) : Cell := mkCell clsL 0x01 0 [BitVec.ofNat 32 (e % 4096)]

/-- MLOSS (R131): the level, address and members lost, the reason and the time of detection. -/
def mlossCell (level reason addr members t : Nat) : Cell :=
  mkCell clsM 0x45 0 ([Word.place 0x03 24 ||| Word.place (level % 16) 20 ||| Word.place (reason % 16) 16,
    BitVec.ofNat 32 (addr % 2 ^ 24), BitVec.ofNat 32 (members % 2 ^ 25)] ++ timeWords t)

/-- The interrupt notice (R56). The spec names its contents and not their places: W2 and W3 hold the
summaries, W4 the sender's address (DESIGN CHOICE, log entry 12). -/
def inoteCell (s0 s1 : Word) (addr : Nat) : Cell := mkCell clsM 0x44 0 [s0, s1, BitVec.ofNat 32 addr]

end Sys2Proof
end

