-- ==== Sys2Proof/Machine/Events.lean ====
section
/-!
DEFINITION. Machine/Events.lean: the numbered events of the page chapters, each with its event
number, sticky bit and event code (R11, R57).
-/

namespace Sys2Proof.Machine

/-- A reported event: its event number, the page and bit of its sticky flag, and its event code,
0 where the event is not recorded. -/
structure Ev where
  num : Nat
  page : Nat
  bit : Nat
  code : Nat
deriving DecidableEq, Repr

namespace Event

/-- ACC_ABSENT. -/
def GLB_ACC_ABSENT : Ev := ⟨0x001, 0x00, 0, 0x0001⟩

/-- ACC_UNMAPPED. -/
def GLB_ACC_UNMAPPED : Ev := ⟨0x002, 0x00, 1, 0x0002⟩

/-- ACC_RIGHTS. -/
def GLB_ACC_RIGHTS : Ev := ⟨0x003, 0x00, 2, 0x0003⟩

/-- ACC_LOCKED. -/
def GLB_ACC_LOCKED : Ev := ⟨0x004, 0x00, 3, 0x0004⟩

/-- ACC_CHSEL. -/
def GLB_ACC_CHSEL : Ev := ⟨0x005, 0x00, 4, 0x0005⟩

/-- ACC_SRST. -/
def GLB_ACC_SRST : Ev := ⟨0x006, 0x00, 5, 0x0006⟩

/-- Step applied. -/
def TK_STEP : Ev := ⟨0x010, 0x01, 0, 0x0101⟩

/-- Step forced ACQUIRE. -/
def TK_STEP_BIG : Ev := ⟨0x011, 0x01, 1, 0x0102⟩

/-- Step refused, one already armed. -/
def TK_STEP_BUSY : Ev := ⟨0x012, 0x01, 2, 0x0103⟩

/-- Staged RATE replaced. -/
def TK_RATE_OVR : Ev := ⟨0x013, 0x01, 3, 0x0104⟩

/-- TCLK lost. -/
def TK_TCLK_LOST : Ev := ⟨0x014, 0x01, 4, 0x0105⟩

/-- Traceability changed. -/
def TK_TRACE_CHG : Ev := ⟨0x015, 0x01, 5, 0x0106⟩

/-- Step refused, out of range. -/
def TK_STEP_RANGE : Ev := ⟨0x016, 0x01, 6, 0x0107⟩

/-- FREERUN. -/
def SV_TO_FREERUN : Ev := ⟨0x030, 0x03, 0, 0x0301⟩

/-- ACQUIRE. -/
def SV_TO_ACQUIRE : Ev := ⟨0x031, 0x03, 1, 0x0302⟩

/-- LOCKED. -/
def SV_TO_LOCKED : Ev := ⟨0x032, 0x03, 2, 0x0303⟩

/-- HOLDOVER. -/
def SV_TO_HOLDOVER : Ev := ⟨0x033, 0x03, 3, 0x0304⟩

/-- HOLD_EXPIRED. -/
def SV_TO_EXPIRED : Ev := ⟨0x034, 0x03, 4, 0x0305⟩

/-- Channel switch. -/
def SV_CH_SWITCH : Ev := ⟨0x035, 0x03, 5, 0x0306⟩

/-- PLL frequency lock lost. -/
def SV_FLOCK_LOST : Ev := ⟨0x036, 0x03, 6, 0x0307⟩

/-- Probe qualification lost. -/
def SV_QUAL_LOST : Ev := ⟨0x037, 0x03, 7, 0x0308⟩

/-- Delay learning restarted. -/
def SV_QSPREAD : Ev := ⟨0x038, 0x03, 8, 0x0309⟩

/-- Holdover ready. -/
def SV_HORDY : Ev := ⟨0x039, 0x03, 9, 0x0000⟩

/-- Switch request refused. -/
def SV_SW_REFUSED : Ev := ⟨0x03A, 0x03, 10, 0x030A⟩

/-- Reference qualified. -/
def RF_REF_QUAL : Ev := ⟨0x040, 0x04, 0, 0x0401⟩

/-- Reference disqualified. -/
def RF_REF_DISQ : Ev := ⟨0x041, 0x04, 1, 0x0402⟩

/-- Selection changed. -/
def RF_REF_SW : Ev := ⟨0x042, 0x04, 2, 0x0403⟩

/-- No eligible time reference. -/
def RF_REF_NONE : Ev := ⟨0x043, 0x04, 3, 0x0404⟩

/-- Configuration refused. -/
def RF_CFG_BAD : Ev := ⟨0x044, 0x04, 4, 0x0405⟩

/-- PTP message discarded. -/
def RF_PTP_DISC : Ev := ⟨0x045, 0x04, 5, 0x0406⟩

/-- Time-of-day sentence discarded. -/
def RF_TOD_BAD : Ev := ⟨0x046, 0x04, 6, 0x0407⟩

/-- Holdover traceability expired. -/
def RF_HO_TRACE : Ev := ⟨0x047, 0x04, 7, 0x0408⟩

/-- Damaged cell, not timing. -/
def LN_CELL_ERR : Ev := ⟨0x080, 0x08, 0, 0x0801⟩

/-- Good cell ahead of the expected sequence. -/
def LN_SEQ_GAP : Ev := ⟨0x081, 0x08, 1, 0x0802⟩

/-- Timing cell damaged or in an uncorrectable codeword. -/
def LN_TDROP : Ev := ⟨0x082, 0x08, 2, 0x0803⟩

/-- Uncorrectable codeword. -/
def LN_FEC_UNC : Ev := ⟨0x083, 0x08, 3, 0x0804⟩

/-- Replay. -/
def LN_REPLAY : Ev := ⟨0x084, 0x08, 4, 0x0805⟩

/-- Duplicate, or spurious NAK received. -/
def LN_DUP : Ev := ⟨0x085, 0x08, 5, 0x0806⟩

/-- Credit overrun. -/
def LN_CREDIT_OVR : Ev := ⟨0x086, 0x08, 6, 0x0807⟩

/-- Unknown cell. -/
def LN_UNKNOWN : Ev := ⟨0x086, 0x08, 7, 0x0808⟩

/-- Lane down. -/
def LN_LANE_DOWN : Ev := ⟨0x087, 0x08, 8, 0x0809⟩

/-- Aged cell served. -/
def LN_AGED : Ev := ⟨0x088, 0x08, 9, 0x0000⟩

/-- Loopback check failed. -/
def LN_PMA_LAT_BAD : Ev := ⟨0x089, 0x08, 10, 0x080A⟩

/-- Version refused. -/
def LN_VERSION : Ev := ⟨0x08A, 0x08, 11, 0x080B⟩

/-- Tick time-out. -/
def LN_MKR_TIMEOUT : Ev := ⟨0x08B, 0x08, 12, 0x080C⟩

/-- Swapped pair. -/
def LN_WIRE_INV : Ev := ⟨0x08C, 0x08, 13, 0x080D⟩

/-- Cycle. -/
def LN_WIRE_CYCLE : Ev := ⟨0x08D, 0x08, 15, 0x080F⟩

/-- Loop. -/
def LN_WIRE_LOOP : Ev := ⟨0x08D, 0x08, 14, 0x080E⟩

/-- Die to die. -/
def LN_WIRE_DIEDIE : Ev := ⟨0x08E, 0x08, 16, 0x0810⟩

/-- Direction wrong. -/
def LN_WIRE_DIR : Ev := ⟨0x08E, 0x08, 19, 0x0813⟩

/-- Hubs cross-plane. -/
def LN_WIRE_XHUB : Ev := ⟨0x08E, 0x08, 17, 0x0811⟩

/-- Die lane of other plane. -/
def LN_WIRE_XPLANE : Ev := ⟨0x08E, 0x08, 18, 0x0812⟩

/-- Plane address mismatch. -/
def LN_WIRE_ADDR : Ev := ⟨0x08F, 0x08, 21, 0x0815⟩

/-- Duplicate UID. -/
def LN_WIRE_DUP : Ev := ⟨0x08F, 0x08, 20, 0x0814⟩

/-- Member loss detected. -/
def TR_MLOSS : Ev := ⟨0x090, 0x09, 0, 0x0901⟩

/-- Child hub lost. -/
def TR_HLOSS : Ev := ⟨0x091, 0x09, 1, 0x0902⟩

/-- Crown changed. -/
def TR_CROWN_CHG : Ev := ⟨0x092, 0x09, 2, 0x0903⟩

/-- Crown conflict. -/
def TR_CONFLICT : Ev := ⟨0x093, 0x09, 3, 0x0904⟩

/-- Child excluded. -/
def TR_LEVEL_BAD : Ev := ⟨0x094, 0x09, 4, 0x0905⟩

/-- Slow start. -/
def TR_START_SLOW : Ev := ⟨0x095, 0x09, 5, 0x0906⟩

/-- Request timed out. -/
def TR_RRA_TMO : Ev := ⟨0x096, 0x09, 6, 0x0907⟩

/-- Late response. -/
def TR_RRA_LATE : Ev := ⟨0x097, 0x09, 7, 0x0908⟩

/-- No route. -/
def TR_RRA_NOROUTE : Ev := ⟨0x098, 0x09, 8, 0x0909⟩

/-- Queue overflow. -/
def TR_QUEUE_OVR : Ev := ⟨0x099, 0x09, 9, 0x090A⟩

/-- Upstream changed. -/
def TR_UPSWITCH : Ev := ⟨0x09A, 0x09, 10, 0x090B⟩

/-- Orphan. -/
def TR_ORPHAN : Ev := ⟨0x09B, 0x09, 11, 0x090C⟩

/-- Stale reflect. -/
def TR_STALE : Ev := ⟨0x09C, 0x09, 12, 0x090D⟩

/-- Crownless root. -/
def TR_CROWNLESS : Ev := ⟨0x09D, 0x09, 13, 0x090E⟩

/-- Address changed. -/
def TR_ADDR_CHG : Ev := ⟨0x09E, 0x09, 14, 0x090F⟩

/-- GO refused. -/
def TR_RRA_BUSY : Ev := ⟨0x09F, 0x09, 15, 0x0910⟩

/-- Late fire. -/
def RT_LATE_FIRE : Ev := ⟨0x0C0, 0x0C, 0, 0x0C01⟩

/-- Crossing slip. -/
def RT_CROSS_SLIP : Ev := ⟨0x0C1, 0x0C, 1, 0x0C02⟩

/-- Stretch beyond contract. -/
def RT_STRETCH_OVER : Ev := ⟨0x0C2, 0x0C, 2, 0x0C03⟩

/-- Tap uncalibrated. -/
def RT_TAP_UNCAL : Ev := ⟨0x0C3, 0x0C, 3, 0x0C04⟩

/-- Stop too long. -/
def RT_STOP_LONG : Ev := ⟨0x0C4, 0x0C, 4, 0x0C05⟩

/-- Uncalibrated operating point. -/
def RT_OP_UNCAL : Ev := ⟨0x0C5, 0x0C, 5, 0x0C06⟩

/-- Chain fault. -/
def RT_CHAIN_FAULT : Ev := ⟨0x0C6, 0x0C, 6, 0x0C07⟩

/-- Trigger lost. -/
def RT_TRIG_LOST : Ev := ⟨0x0C7, 0x0C, 7, 0x0C08⟩

/-- Arm refused. -/
def RT_TRIG_BUSY : Ev := ⟨0x0C8, 0x0C, 8, 0x0C09⟩

/-- Crossing calibration failed. -/
def RT_XCAL_FAIL : Ev := ⟨0x0C9, 0x0C, 9, 0x0C0A⟩

/-- Stop taken. -/
def RT_STOP : Ev := ⟨0x0CA, 0x0C, 10, 0x0000⟩

/-- Transmit stamp dropped. -/
def TS_TXQ_OVR : Ev := ⟨0x0D0, 0x0D, 0, 0x0D01⟩

/-- Strobe not stamped. -/
def TS_SOF_MISS : Ev := ⟨0x0D1, 0x0D, 1, 0x0D02⟩

/-- Plumb alarm. -/
def TS_PLUMB : Ev := ⟨0x0D2, 0x0D, 2, 0x0D03⟩

/-- Likely bad hop. -/
def TS_SUSPECT : Ev := ⟨0x0D3, 0x0D, 3, 0x0D04⟩

/-- Plumb payload discarded. -/
def TS_PL_DISC : Ev := ⟨0x0D4, 0x0D, 4, 0x0D05⟩

/-- Software stamp lost. -/
def TS_SW_OVR : Ev := ⟨0x0D5, 0x0D, 5, 0x0D06⟩

/-- Plumb alarm left. -/
def TS_PLUMB_CLR : Ev := ⟨0x0D6, 0x0D, 6, 0x0D07⟩

/-- Output shorted to ground or to VDDIO_T. -/
def PO_SHORT : Ev := ⟨0x0E0, 0x0E, 0, 0x0E01⟩

/-- Open load. -/
def PO_OPEN_LOAD : Ev := ⟨0x0E1, 0x0E, 1, 0x0E02⟩

/-- Open input. -/
def PO_OPEN_IN : Ev := ⟨0x0E2, 0x0E, 2, 0x0E03⟩

/-- Inverted 1PPS. -/
def PO_PPS_INV : Ev := ⟨0x0E3, 0x0E, 3, 0x0E04⟩

/-- Inverted UART line. -/
def PO_UART_INV : Ev := ⟨0x0E4, 0x0E, 4, 0x0E05⟩

/-- Refused while armed. -/
def PO_PO_BUSY : Ev := ⟨0x0E5, 0x0E, 5, 0x0E06⟩

/-- Pulses skipped. -/
def PO_PO_SKIP : Ev := ⟨0x0E6, 0x0E, 6, 0x0E07⟩

/-- Pulse delayed for spacing. -/
def PO_PO_SPACE : Ev := ⟨0x0E7, 0x0E, 7, 0x0E08⟩

/-- Pulse withheld. -/
def PO_PO_INVALID : Ev := ⟨0x0E8, 0x0E, 8, 0x0E09⟩

/-- Bad opcode or reserved bits. -/
def SQ_BAD_OP : Ev := ⟨0x100, 0x10, 0, 0x1001⟩

/-- Operand out of range. -/
def SQ_BAD_OPND : Ev := ⟨0x101, 0x10, 1, 0x1002⟩

/-- Contributions short at SYNC. -/
def SQ_CONTRIB_SHORT : Ev := ⟨0x102, 0x10, 2, 0x1003⟩

/-- Late contribution. -/
def SQ_LATE_CONTRIB : Ev := ⟨0x103, 0x10, 3, 0x1005⟩

/-- Excess contribution. -/
def SQ_CONTRIB_EXCESS : Ev := ⟨0x104, 0x10, 4, 0x1006⟩

/-- Tardy arm. -/
def SQ_TARDY : Ev := ⟨0x105, 0x10, 5, 0x1007⟩

/-- Cadence slots skipped. -/
def SQ_CAD_SLIP : Ev := ⟨0x106, 0x10, 6, 0x1008⟩

/-- FENCE stall. -/
def SQ_FENCE_STALL : Ev := ⟨0x107, 0x10, 7, 0x1009⟩

/-- Group entry not usable. -/
def SQ_NOGROUP : Ev := ⟨0x108, 0x10, 8, 0x100A⟩

/-- Thread aged one level. -/
def SQ_AGED : Ev := ⟨0x109, 0x10, 9, 0x0000⟩

/-- Contribution before the first course. -/
def SQ_PRE_N0 : Ev := ⟨0x10A, 0x10, 12, 0x100B⟩

/-- Releases skipped by SYNC. -/
def SQ_SYNC_SKIP : Ev := ⟨0x10B, 0x10, 13, 0x100C⟩

/-- Trigger withheld (R24). -/
def SQ_AUTH_WITHHELD : Ev := ⟨0x10C, 0x10, 11, 0x1004⟩

/-- MARK; the code is 0x1000 with A[7:0]. -/
def SQ_MARK : Ev := ⟨0x10D, 0x10, 10, 0x1000⟩

/-- Instruction parity error. -/
def SQM_PARITY : Ev := ⟨0x110, 0x11, 0, 0x1101⟩

/-- Protected word. -/
def SQM_WPROT : Ev := ⟨0x111, 0x11, 1, 0x1102⟩

/-- Out of range. -/
def SQM_RANGE : Ev := ⟨0x112, 0x11, 2, 0x1103⟩

/-- Non-finite contribution. -/
def MT_NONFIN : Ev := ⟨0x140, 0x14, 0, 0x0000⟩

/-- CTAG does not match the open barrier's course, or the course expected after the last release. -/
def MT_COURSE : Ev := ⟨0x141, 0x14, 1, 0x1401⟩

/-- A second arrival from the same port for the open barrier. -/
def MT_DUP : Ev := ⟨0x142, 0x14, 2, 0x1402⟩

/-- From a port that the entry does not list as a member port, or from a listed port whose arrivals are not expected for the barrier the arrival carries, under R281. -/
def MT_UNLISTED : Ev := ⟨0x143, 0x14, 3, 0x1403⟩

/-- Stray release. -/
def MT_REL_STRAY : Ev := ⟨0x144, 0x14, 4, 0x1404⟩

/-- Accumulator range exceeded. -/
def MT_RANGE : Ev := ⟨0x145, 0x14, 5, 0x1405⟩

/-- Finish value saturated. -/
def MT_SAT : Ev := ⟨0x146, 0x14, 6, 0x1406⟩

/-- Level saturated. -/
def MT_LEVEL_SAT : Ev := ⟨0x147, 0x14, 7, 0x1407⟩

/-- Late release. -/
def MT_LATE_REL : Ev := ⟨0x148, 0x14, 8, 0x1408⟩

/-- Configuration refused. -/
def MT_CFG_BAD : Ev := ⟨0x149, 0x14, 9, 0x1409⟩

/-- Write to sealed entry. -/
def MT_CFG_SEALED : Ev := ⟨0x14A, 0x14, 10, 0x140A⟩

/-- Own arrival dropped after an override. -/
def MT_OVR_DROP : Ev := ⟨0x14B, 0x14, 11, 0x140B⟩

/-- Stale cell. -/
def GR_STALE : Ev := ⟨0x150, 0x15, 0, 0x1501⟩

/-- Entry write or command refused. -/
def GR_CFG_BAD : Ev := ⟨0x151, 0x15, 1, 0x1502⟩

/-- Write during quarantine. -/
def GR_QUAR_BUSY : Ev := ⟨0x152, 0x15, 2, 0x1503⟩

/-- Census above declared. -/
def GR_OVER : Ev := ⟨0x153, 0x15, 3, 0x1504⟩

/-- Feature not supported. -/
def GR_FEAT_SHORT : Ev := ⟨0x154, 0x15, 4, 0x1505⟩

/-- Membership change refused. -/
def GR_CHG_REFUSED : Ev := ⟨0x155, 0x15, 5, 0x1506⟩

/-- Census fell short. -/
def GR_GLOSS : Ev := ⟨0x156, 0x15, 6, 0x1507⟩

/-- Entry dissolved. -/
def GR_DISSOLVED : Ev := ⟨0x157, 0x15, 7, 0x1508⟩

/-- Census complete. -/
def GR_CENSUS_DONE : Ev := ⟨0x158, 0x15, 8, 0x1509⟩

/-- GCMD lost. -/
def GR_GCMD_LOST : Ev := ⟨0x159, 0x15, 9, 0x150A⟩

/-- Membership change applied. -/
def GR_CHG : Ev := ⟨0x15A, 0x15, 10, 0x150B⟩

/-- Count overflow. -/
def SG_SEM_OVF : Ev := ⟨0x180, 0x18, 0, 0x1801⟩

/-- Directed table full. -/
def SG_DIR_FULL : Ev := ⟨0x181, 0x18, 1, 0x1802⟩

/-- Index out of range. -/
def SG_SEM_RANGE : Ev := ⟨0x182, 0x18, 2, 0x1803⟩

/-- Mode or rank refused. -/
def SG_MODE : Ev := ⟨0x183, 0x18, 3, 0x1804⟩

/-- Second core wait. -/
def SG_WAIT_BUSY : Ev := ⟨0x184, 0x18, 4, 0x1805⟩

/-- Gate stall. -/
def GT_GATE_STALL : Ev := ⟨0x190, 0x19, 0, 0x1901⟩

/-- SIGR refused. -/
def GT_GT_BAD : Ev := ⟨0x191, 0x19, 1, 0x1902⟩

/-- Remote signal misrouted. -/
def GT_RSIG_BAD : Ev := ⟨0x192, 0x19, 2, 0x1903⟩

/-- Fabric count query unanswered. -/
def GT_FCTR_TMO : Ev := ⟨0x193, 0x19, 3, 0x1904⟩

/-- Pending buffer full. -/
def GT_PEND_FULL : Ev := ⟨0x194, 0x19, 4, 0x0000⟩

/-- Local deadlock. -/
def DL_DEADLOCK_L : Ev := ⟨0x1A0, 0x1A, 0, 0x1A01⟩

/-- Global deadlock. -/
def DL_DEADLOCK_G : Ev := ⟨0x1A1, 0x1A, 1, 0x1A02⟩

/-- Agent count exceeded. -/
def DL_NAGENT_BAD : Ev := ⟨0x1A2, 0x1A, 2, 0x1A03⟩

/-- RATE outside window. -/
def GD_RATE_WIN : Ev := ⟨0x1C0, 0x1C, 0, 0x1C01⟩

/-- RATE slew exceeded. -/
def GD_RATE_SLEW : Ev := ⟨0x1C1, 0x1C, 1, 0x1C02⟩

/-- Trigger line refused. -/
def GD_TRIG_BOUND : Ev := ⟨0x1C2, 0x1C, 2, 0x1C03⟩

/-- Pulse arm refused. -/
def GD_PO_BOUND : Ev := ⟨0x1C3, 0x1C, 3, 0x1C04⟩

/-- Generation refused. -/
def GD_GEN_BACK : Ev := ⟨0x1C4, 0x1C, 4, 0x1C05⟩

/-- Holdover raise refused. -/
def GD_HO_RAISE : Ev := ⟨0x1C5, 0x1C, 5, 0x1C06⟩

/-- Loosening refused. -/
def GD_LOOSEN : Ev := ⟨0x1C6, 0x1C, 6, 0x1C07⟩

/-- Memory write outside window. -/
def GD_MW_WIN : Ev := ⟨0x1C7, 0x1C, 7, 0x1C08⟩

/-- NOR command refused. -/
def GD_NVM_PROT : Ev := ⟨0x1C8, 0x1C, 8, 0x1C09⟩

/-- Barrier override. -/
def GD_OVERRIDE : Ev := ⟨0x1C9, 0x1C, 9, 0x1C0A⟩

/-- Override refused. -/
def GD_OVR_BAD : Ev := ⟨0x1CA, 0x1C, 10, 0x1C0B⟩

/-- Watchdog expired. -/
def GD_WDOG : Ev := ⟨0x1CB, 0x1C, 11, 0x1C0C⟩

/-- Heartbeat time-out. -/
def HG_HB_TMO : Ev := ⟨0x1D0, 0x1D, 0, 0x1D01⟩

/-- Course deadline passed. -/
def HG_OVERRUN : Ev := ⟨0x1D1, 0x1D, 1, 0x1D02⟩

/-- Wait time-out. -/
def HG_WAIT_TMO : Ev := ⟨0x1D2, 0x1D, 2, 0x1D03⟩

/-- Sequencer watchdog. -/
def HG_SQ_WDOG : Ev := ⟨0x1D3, 0x1D, 3, 0x1D04⟩

/-- Engine reset. -/
def HG_ENG_RST : Ev := ⟨0x1D4, 0x1D, 4, 0x1D05⟩

/-- Region reset. -/
def HG_RGN_RST : Ev := ⟨0x1D5, 0x1D, 5, 0x1D06⟩

/-- Die fenced. -/
def HG_FENCED : Ev := ⟨0x1D6, 0x1D, 6, 0x1D07⟩

/-- Discard while fenced. -/
def HG_FENCE_DISC : Ev := ⟨0x1D7, 0x1D, 7, 0x1D08⟩

/-- Suspect hung. -/
def HG_SOLO_HANG : Ev := ⟨0x1D8, 0x1D, 8, 0x1D09⟩

/-- Solo replay ended. -/
def HG_SOLO_DONE : Ev := ⟨0x1D9, 0x1D, 9, 0x1D0A⟩

/-- Reset acknowledged. -/
def HG_RECOVERED : Ev := ⟨0x1DA, 0x1D, 10, 0x1D0B⟩

/-- Fence lifted. -/
def HG_UNFENCED : Ev := ⟨0x1DB, 0x1D, 11, 0x1D0C⟩

/-- SOLO refused. -/
def HG_SOLO_BAD : Ev := ⟨0x1DC, 0x1D, 12, 0x1D0D⟩

/-- Capsule taken. -/
def CP_CAPTURED : Ev := ⟨0x1E0, 0x1E, 0, 0x1E01⟩

/-- Request refused. -/
def CP_CP_BUSY : Ev := ⟨0x1E1, 0x1E, 1, 0x1E02⟩

/-- Engine status not returned. -/
def CP_ESTAT_TMO : Ev := ⟨0x1E2, 0x1E, 2, 0x1E03⟩

/-- Capsule mirrored. -/
def CP_MIRRORED : Ev := ⟨0x1E3, 0x1E, 3, 0x0000⟩

/-- Unread record overwritten. -/
def EV_RING_OVR : Ev := ⟨0x1F0, 0x1F, 0, 0x1F01⟩

/-- Uploaded record discarded. -/
def EV_UP_DISC : Ev := ⟨0x1F1, 0x1F, 1, 0x1F02⟩

/-- Records lost at writer queue. -/
def EV_DROP : Ev := ⟨0x1F2, 0x1F, 2, 0x1F03⟩

/-- Record lost before NOR mirroring. -/
def EV_MIRROR_LOST : Ev := ⟨0x1F3, 0x1F, 3, 0x1F06⟩

/-- Counters restored. -/
def EV_RESTORED : Ev := ⟨0x1F4, 0x1F, 4, 0x1F04⟩

/-- First boot after AON power-on. -/
def EV_POWERON : Ev := ⟨0x1F5, 0x1F, 5, 0x1F05⟩

/-- Second restore refused. -/
def EV_RESTORE_BAD : Ev := ⟨0x1F6, 0x1F, 6, 0x1F07⟩

/-- Snapshot taken. -/
def MN_SNAP : Ev := ⟨0x200, 0x20, 0, 0x0000⟩

/-- Snapshot withheld. -/
def MN_SNAP_INVALID : Ev := ⟨0x201, 0x20, 1, 0x2001⟩

/-- Armed snapshot replaced. -/
def MN_SNAP_REPL : Ev := ⟨0x202, 0x20, 2, 0x2002⟩

/-- Pin configuration refused. -/
def MN_PCFG_BAD : Ev := ⟨0x203, 0x20, 3, 0x2003⟩

/-- Sample dropped. -/
def HS_DROP : Ev := ⟨0x210, 0x21, 0, 0x2101⟩

/-- Bin saturated. -/
def HS_BINSAT : Ev := ⟨0x211, 0x21, 1, 0x2102⟩

/-- Supply order violated. -/
def PW_ORDER : Ev := ⟨0x240, 0x24, 0, 0x2401⟩

/-- VDD_LYS failed. -/
def PW_LYS_LOSS : Ev := ⟨0x241, 0x24, 1, 0x2402⟩

/-- VDDIO_T failed. -/
def PW_IO_LOSS : Ev := ⟨0x242, 0x24, 2, 0x2403⟩

/-- VDDA_TCLK out of limits. -/
def PW_TCLK_RAIL : Ev := ⟨0x243, 0x24, 3, 0x2404⟩

/-- Over-temperature. -/
def PW_OVERTEMP : Ev := ⟨0x244, 0x24, 4, 0x2405⟩

/-- Host reset seen. -/
def PW_HOST_RST : Ev := ⟨0x245, 0x24, 5, 0x2406⟩

/-- Memory-write error. -/
def PW_MW_ERR : Ev := ⟨0x246, 0x24, 6, 0x2407⟩

/-- Image failed verification. -/
def FW_IMG_BAD : Ev := ⟨0x250, 0x25, 0, 0x2501⟩

/-- No bootable image. -/
def FW_NOIMAGE : Ev := ⟨0x251, 0x25, 1, 0x2502⟩

/-- Reverted. -/
def FW_REVERTED : Ev := ⟨0x252, 0x25, 2, 0x2503⟩

/-- Handover started. -/
def FW_HANDOVER : Ev := ⟨0x253, 0x25, 3, 0x2504⟩

/-- Staging write discarded. -/
def FW_STG_ERR : Ev := ⟨0x254, 0x25, 4, 0x2505⟩

/-- Handover without a block. -/
def FW_SWREQ_TMO : Ev := ⟨0x255, 0x25, 5, 0x2506⟩

/-- SRAM parity error. -/
def FW_SRAM_PAR : Ev := ⟨0x256, 0x25, 6, 0x2507⟩

/-- Switch requested. -/
def FW_SWREQ : Ev := ⟨0x257, 0x25, 7, 0x0000⟩

end Event

end Sys2Proof.Machine
end

