-- ==== Sys2Proof/Machine/RegRow.lean ====
section
/-!
DEFINITION. Machine/RegRow.lean: the shape of one row of a register table (R46, R48).
-/

namespace Sys2Proof.Machine

/-- The access codes (R46). -/
inductive Acc where
  | ro | rw | rwl | w1c | w1s | wo | rc | rs
deriving DecidableEq, Repr

/-- What selects the storage behind an offset: nothing, the channel of the window (R44), or a select
register of the page at an offset, of so many bits. -/
inductive Sel where
  | one
  | chan
  | by (off bits : Nat)
deriving DecidableEq, Repr

/-- The roles in which an offset is mapped. -/
inductive Roles where
  | both | die | hub
deriving DecidableEq, Repr

/-- The masters with write rights on a register (R48 and the page tables). -/
inductive Rights where
  | all | host | hostFw | hostRemote | fw | crown
deriving DecidableEq, Repr

/-- One row of a register table. `take` are the bits that take a written value, `rwl` those of them
that the page lock freezes. -/
structure RegRow where
  page : Nat
  off : Nat
  acc : Acc
  cnt : Nat := 1
  stride : Nat := 4
  rst : Word := 0
  rstHub : Option Word := none
  take : Word := 0
  rwl : Word := 0
  sel : Sel := .one
  banked : Bool := false
  roles : Roles := .both
  rights : Rights := .all
  rstIdx : Bool := false
deriving DecidableEq, Repr

/-- The reset value of a row in a role; MN_CCFG resets to the counter index in [27:16]. -/
def RegRow.resetAt (r : RegRow) (hub : Bool) (idx : Nat) : Word :=
  if r.rstIdx then Word.place (idx % 4096) 16
  else if hub then r.rstHub.getD r.rst else r.rst

/-- The storage key of one copy of a register: array element, bank and channel or selected index. -/
def RegRow.key (r : RegRow) (idx i bank : Nat) : Nat :=
  ((idx * 4 + bank) * 64 + r.page) * 4096 + (r.off + i * r.stride)

/-- Whether an offset falls on this row, and on which element. -/
def RegRow.covers (r : RegRow) (off : Nat) : Option Nat :=
  if off < r.off then none
  else
    let d := off - r.off
    if d % r.stride = 0 && d / r.stride < r.cnt then some (d / r.stride) else none

/-- The row of a table on which an offset falls. -/
def findRow : List RegRow → Nat → Option (RegRow × Nat)
  | [], _ => none
  | r :: rs, off =>
    match r.covers off with
    | some i => some (r, i)
    | none => findRow rs off

/-- HIST, IEN and CTRL of a page (R41): their storage. -/
def histRow (page : Nat) : RegRow := { page := page, off := 0x010, acc := .w1c }
def ienRow (page : Nat) : RegRow := { page := page, off := 0x014, acc := .rw, take := 0xFFFFFFFF }
/-- CTRL of a page. R41 gives EN the reset value "Per page", and of the page chapters only TK's names one
(it reads 1). That EN resets to 1 on every page is the model's DESIGN CHOICE (log entry 37). -/
def ctrlRow (page : Nat) : RegRow := { page := page, off := 0x008, acc := .rwl, rst := 1, take := 1, rwl := 1 }
def chselRow (page : Nat) : RegRow :=
  { page := page, off := 0x020, acc := .rw, take := 0xFFFF, banked := true }
def lockRow (page : Nat) : RegRow := { page := page, off := 0x028, acc := .rw, take := 1 }

end Sys2Proof.Machine
end

