-- ==== Sys2Proof/Machine/Regs.lean ====
section
/-!
DEFINITION. Machine/Regs.lean: the register tables of the page chapters, one constant per row,
with the row's access code, reset value, writable bits, banking, presence and write rights.
-/

namespace Sys2Proof.Machine.Reg

/-- RO. [0] ROLE: 0 die, 1 hub, as R13 sets out. [31:1] reserved. -/
def GLB_ROLE : RegRow :=
  { page := 0x00, off := 0x040, acc := .ro }

/-- RS. Unique ID [31:0]. Latches GLB_UID_HI. -/
def GLB_UID_LO : RegRow :=
  { page := 0x00, off := 0x044, acc := .rs }

/-- RO. [15:0] unique ID [47:32]. [31:16] reserved. -/
def GLB_UID_HI : RegRow :=
  { page := 0x00, off := 0x048, acc := .ro }

/-- RO. Most recent refused access -/
def GLB_ACCFAULT : RegRow :=
  { page := 0x00, off := 0x04C, acc := .ro }

/-- RO. Bit n = 1: page n has IPEND ≠ 0, for pages 0 to 31 -/
def GLB_ISUM0 : RegRow :=
  { page := 0x00, off := 0x050, acc := .ro }

/-- RO. Bit n = 1: page 32 + n has IPEND ≠ 0 -/
def GLB_ISUM1 : RegRow :=
  { page := 0x00, off := 0x054, acc := .ro }

/-- RW. [7:0] enable of IRQ outputs 7 to 0 -/
def GLB_IRQEN : RegRow :=
  { page := 0x00, off := 0x058, acc := .rw, take := 0x000000FF, rights := .host }

/-- RW. Output routing for pages 8k to 8k + 7. Nibble j: [3] routed, [2:0] output number. -/
def GLB_IROUTE0 : RegRow :=
  { page := 0x00, off := 0x060, acc := .rw, rst := 0x0000888F, rstHub := some 0x0008888F, take := 0xFFFFFFFF, rights := .host }

/-- RW. Output routing for pages 8k to 8k + 7. Nibble j: [3] routed, [2:0] output number. -/
def GLB_IROUTE1 : RegRow :=
  { page := 0x00, off := 0x064, acc := .rw, rst := 0x0AAA0099, rstHub := some 0x0AA00099, take := 0xFFFFFFFF, rights := .host }

/-- RW. Output routing for pages 8k to 8k + 7. Nibble j: [3] routed, [2:0] output number. -/
def GLB_IROUTE2 : RegRow :=
  { page := 0x00, off := 0x068, acc := .rw, rst := 0x00CC00BB, rstHub := some 0x00CC0000, take := 0xFFFFFFFF, rights := .host }

/-- RW. Output routing for pages 8k to 8k + 7. Nibble j: [3] routed, [2:0] output number. -/
def GLB_IROUTE3 : RegRow :=
  { page := 0x00, off := 0x06C, acc := .rw, rst := 0xEEEF0DDD, rstHub := some 0xE00F0000, take := 0xFFFFFFFF, rights := .host }

/-- RW. Output routing for pages 8k to 8k + 7. Nibble j: [3] routed, [2:0] output number. -/
def GLB_IROUTE4 : RegRow :=
  { page := 0x00, off := 0x070, acc := .rw, rst := 0x00FF00FF, take := 0xFFFFFFFF, rights := .host }

/-- RW. Output routing for pages 8k to 8k + 7. Nibble j: [3] routed, [2:0] output number. -/
def GLB_IROUTE5 : RegRow :=
  { page := 0x00, off := 0x074, acc := .rw, take := 0xFFFFFFFF, rights := .host }

/-- RW. Output routing for pages 8k to 8k + 7. Nibble j: [3] routed, [2:0] output number. -/
def GLB_IROUTE6 : RegRow :=
  { page := 0x00, off := 0x078, acc := .rw, take := 0xFFFFFFFF, rights := .host }

/-- RW. Output routing for pages 8k to 8k + 7. Nibble j: [3] routed, [2:0] output number. -/
def GLB_IROUTE7 : RegRow :=
  { page := 0x00, off := 0x07C, acc := .rw, take := 0xFFFFFFFF, rights := .host }

/-- RW. Bit n: page n interrupts the controller -/
def GLB_FWROUTE0 : RegRow :=
  { page := 0x00, off := 0x080, acc := .rw, take := 0xFFFFFFFF, rights := .hostFw }

/-- RW. Bit n: page 32 + n interrupts the controller -/
def GLB_FWROUTE1 : RegRow :=
  { page := 0x00, off := 0x084, acc := .rw, take := 0xFFFFFFFF, rights := .hostFw }

/-- RW. Bit n: page n sends interrupt notices to remote management -/
def GLB_MROUTE0 : RegRow :=
  { page := 0x00, off := 0x088, acc := .rw, take := 0xFFFFFFFF, rights := .hostRemote }

/-- RW. Bit n: page 32 + n sends interrupt notices -/
def GLB_MROUTE1 : RegRow :=
  { page := 0x00, off := 0x08C, acc := .rw, take := 0xFFFFFFFF, rights := .hostRemote }

/-- The rows of page 0x00. -/
def page00 : List RegRow :=
  [GLB_ROLE, GLB_UID_LO, GLB_UID_HI, GLB_ACCFAULT, GLB_ISUM0, GLB_ISUM1,
   GLB_IRQEN, GLB_IROUTE0, GLB_IROUTE1, GLB_IROUTE2, GLB_IROUTE3, GLB_IROUTE4,
   GLB_IROUTE5, GLB_IROUTE6, GLB_IROUTE7, GLB_FWROUTE0, GLB_FWROUTE1, GLB_MROUTE0,
   GLB_MROUTE1]

/-- RS. T[31:0]. Latches TK_TIME_NSLO, TK_TIME_NSHI, TK_TIME_FRCLO, TK_TIME_FRCHI and TK_TIME_QUAL under R72. -/
def TK_TIME_FRAC : RegRow :=
  { page := 0x01, off := 0x040, acc := .rs }

/-- RO. Latched T[63:32] -/
def TK_TIME_NSLO : RegRow :=
  { page := 0x01, off := 0x044, acc := .ro }

/-- RO. Latched T[95:64] -/
def TK_TIME_NSHI : RegRow :=
  { page := 0x01, off := 0x048, acc := .ro }

/-- RO. Latched FRC[31:0] -/
def TK_TIME_FRCLO : RegRow :=
  { page := 0x01, off := 0x04C, acc := .ro }

/-- RO. Latched FRC[63:32] -/
def TK_TIME_FRCHI : RegRow :=
  { page := 0x01, off := 0x050, acc := .ro }

/-- RO. Qualifier at the latched tick -/
def TK_TIME_QUAL : RegRow :=
  { page := 0x01, off := 0x054, acc := .ro, rst := 0x00000002 }

/-- RW. Staging RATE[31:0], banked per master -/
def TK_RATE_LO : RegRow :=
  { page := 0x01, off := 0x060, acc := .rw, take := 0xFFFFFFFF, banked := true }

/-- RW. Staging RATE[63:32]. A write stages the rate under R66. Reads return the staged value, or the active value when none is staged. -/
def TK_RATE_HI : RegRow :=
  { page := 0x01, off := 0x064, acc := .rw, rst := 0x00A00000, take := 0xFFFFFFFF }

/-- RS. Active RATE[31:0]. Latches TK_RATEA_HI. -/
def TK_RATEA_LO : RegRow :=
  { page := 0x01, off := 0x068, acc := .rs }

/-- RO. Active RATE[63:32] -/
def TK_RATEA_HI : RegRow :=
  { page := 0x01, off := 0x06C, acc := .ro, rst := 0x00A00000 }

/-- RS. Anchor T[31:0], truncated. Latches TK_ANC_NSLO, TK_ANC_NSHI, TK_ANC_FRCLO and TK_ANC_FRCHI. -/
def TK_ANC_FRAC : RegRow :=
  { page := 0x01, off := 0x070, acc := .rs }

/-- RO. Anchor T[63:32] -/
def TK_ANC_NSLO : RegRow :=
  { page := 0x01, off := 0x074, acc := .ro }

/-- RO. Anchor T[95:64] -/
def TK_ANC_NSHI : RegRow :=
  { page := 0x01, off := 0x078, acc := .ro }

/-- RO. FRC_ANCHOR[31:0]; [9:0] always read 0 -/
def TK_ANC_FRCLO : RegRow :=
  { page := 0x01, off := 0x07C, acc := .ro }

/-- RO. FRC_ANCHOR[63:32] -/
def TK_ANC_FRCHI : RegRow :=
  { page := 0x01, off := 0x080, acc := .ro }

/-- RW. Step[31:0], banked per master -/
def TK_STEP0 : RegRow :=
  { page := 0x01, off := 0x090, acc := .rw, take := 0xFFFFFFFF, banked := true }

/-- RW. Step[63:32], banked per master -/
def TK_STEP1 : RegRow :=
  { page := 0x01, off := 0x094, acc := .rw, take := 0xFFFFFFFF, banked := true }

/-- RW. Step[95:64]. A write arms the step under R68. -/
def TK_STEP2 : RegRow :=
  { page := 0x01, off := 0x098, acc := .rw, take := 0xFFFFFFFF }

/-- RO. Steps applied since AON power-on; wraps at 2³² -/
def TK_STEPCNT : RegRow :=
  { page := 0x01, off := 0x0A0, acc := .ro }

/-- RW. UTC offset under R62. A write at a Lyspen that is not a crown is refused as ACC_RIGHTS. -/
def TK_UTCOFF : RegRow :=
  { page := 0x01, off := 0x0B0, acc := .rw, take := 0x8003FFFF, rights := .crown }

/-- RW. Traceability under R61. A write at a Lyspen that is not a crown is refused as ACC_RIGHTS. -/
def TK_EPOCH : RegRow :=
  { page := 0x01, off := 0x0B4, acc := .rw, take := 0x00000001, rights := .crown }

/-- The rows of page 0x01. -/
def page01 : List RegRow :=
  [TK_TIME_FRAC, TK_TIME_NSLO, TK_TIME_NSHI, TK_TIME_FRCLO, TK_TIME_FRCHI, TK_TIME_QUAL,
   TK_RATE_LO, TK_RATE_HI, TK_RATEA_LO, TK_RATEA_HI, TK_ANC_FRAC, TK_ANC_NSLO,
   TK_ANC_NSHI, TK_ANC_FRCLO, TK_ANC_FRCHI, TK_STEP0, TK_STEP1, TK_STEP2,
   TK_STEPCNT, TK_UTCOFF, TK_EPOCH]

/-- W1S. [0] GO: latches all four bases and native T on one tick. Reads 1 until done. [31:1] reserved. -/
def TB_CAPT : RegRow :=
  { page := 0x02, off := 0x040, acc := .w1s }

/-- RO. Native T[31:0] at the capture -/
def TB_CAPT_FRAC : RegRow :=
  { page := 0x02, off := 0x044, acc := .ro }

/-- RO. Native T[63:32] -/
def TB_CAPT_NSLO : RegRow :=
  { page := 0x02, off := 0x048, acc := .ro }

/-- RO. Native T[95:64] -/
def TB_CAPT_NSHI : RegRow :=
  { page := 0x02, off := 0x04C, acc := .ro }

/-- RW. [1:0] MODE under R76; [31:2] reserved -/
def TB_CTRL : RegRow :=
  { page := 0x02, off := 0x400, acc := .rw, take := 0x00000003, sel := .chan }

/-- RW. Increment[31:0]; reads the active RATE in FOLLOW -/
def TB_INC_LO : RegRow :=
  { page := 0x02, off := 0x404, acc := .rw, take := 0xFFFFFFFF, sel := .chan }

/-- RW. Increment[63:32] -/
def TB_INC_HI : RegRow :=
  { page := 0x02, off := 0x408, acc := .rw, rst := 0x00A00000, take := 0xFFFFFFFF, sel := .chan }

/-- RS. Value[31:0]. Latches TB_VAL_NSLO and TB_VAL_NSHI. -/
def TB_VAL_FRAC : RegRow :=
  { page := 0x02, off := 0x410, acc := .rs, sel := .chan }

/-- RO. Value[63:32] -/
def TB_VAL_NSLO : RegRow :=
  { page := 0x02, off := 0x414, acc := .ro, sel := .chan }

/-- RO. Value[95:64] -/
def TB_VAL_NSHI : RegRow :=
  { page := 0x02, off := 0x418, acc := .ro, sel := .chan }

/-- RW. Load value[31:0], banked per master -/
def TB_LOAD_FRAC : RegRow :=
  { page := 0x02, off := 0x420, acc := .rw, take := 0xFFFFFFFF, sel := .chan, banked := true }

/-- RW. Load value[63:32], banked per master -/
def TB_LOAD_NSLO : RegRow :=
  { page := 0x02, off := 0x424, acc := .rw, take := 0xFFFFFFFF, sel := .chan, banked := true }

/-- RW. Load value[95:64]. A write loads under R77. -/
def TB_LOAD_NSHI : RegRow :=
  { page := 0x02, off := 0x428, acc := .rw, take := 0xFFFFFFFF, sel := .chan }

/-- RW. Signed adjustment[31:0], banked per master -/
def TB_ADJ_FRAC : RegRow :=
  { page := 0x02, off := 0x430, acc := .rw, take := 0xFFFFFFFF, sel := .chan, banked := true }

/-- RW. Signed adjustment[63:32], banked per master -/
def TB_ADJ_NSLO : RegRow :=
  { page := 0x02, off := 0x434, acc := .rw, take := 0xFFFFFFFF, sel := .chan, banked := true }

/-- RW. Signed adjustment[95:64]. A write adjusts under R77. -/
def TB_ADJ_NSHI : RegRow :=
  { page := 0x02, off := 0x438, acc := .rw, take := 0xFFFFFFFF, sel := .chan }

/-- RO. Value[31:0] at the last TB_CAPT -/
def TB_CAP_FRAC : RegRow :=
  { page := 0x02, off := 0x440, acc := .ro, sel := .chan }

/-- RO. Value[63:32] at the last TB_CAPT -/
def TB_CAP_NSLO : RegRow :=
  { page := 0x02, off := 0x444, acc := .ro, sel := .chan }

/-- RO. Value[95:64] at the last TB_CAPT -/
def TB_CAP_NSHI : RegRow :=
  { page := 0x02, off := 0x448, acc := .ro, sel := .chan }

/-- The rows of page 0x02. -/
def page02 : List RegRow :=
  [TB_CAPT, TB_CAPT_FRAC, TB_CAPT_NSLO, TB_CAPT_NSHI, TB_CTRL, TB_INC_LO,
   TB_INC_HI, TB_VAL_FRAC, TB_VAL_NSLO, TB_VAL_NSHI, TB_LOAD_FRAC, TB_LOAD_NSLO,
   TB_LOAD_NSHI, TB_ADJ_FRAC, TB_ADJ_NSLO, TB_ADJ_NSHI, TB_CAP_FRAC, TB_CAP_NSLO,
   TB_CAP_NSHI]

/-- RWL. [31] PREVERT under R141; [7:0] HORDY_S in s, where 0 is taken as 1; other bits reserved -/
def SV_CFG : RegRow :=
  { page := 0x03, off := 0x040, acc := .rwl, rst := 0x0000000A, take := 0x800000FF, rwl := 0x800000FF }

/-- RWL. [15:0] lock window in ps -/
def SV_LWIN : RegRow :=
  { page := 0x03, off := 0x044, acc := .rwl, rst := 0x000000FA, take := 0x0000FFFF, rwl := 0x0000FFFF }

/-- RWL. [15:0] unlock window in ps; below SV_LWIN is taken as SV_LWIN -/
def SV_UWIN : RegRow :=
  { page := 0x03, off := 0x048, acc := .rwl, rst := 0x000003E8, take := 0x0000FFFF, rwl := 0x0000FFFF }

/-- RWL. [31:16] QSPREAD in ps; [15:0] QWIN in ps -/
def SV_QWIN : RegRow :=
  { page := 0x03, off := 0x04C, acc := .rwl, rst := 0x01900096, take := 0xFFFFFFFF, rwl := 0xFFFFFFFF }

/-- RWL. [15:0] budget B in ps; raising limited under R144 -/
def SV_HOBUDGET : RegRow :=
  { page := 0x03, off := 0x050, acc := .rwl, rst := 0x000009C4, take := 0x0000FFFF, rwl := 0x0000FFFF }

/-- RW. [15:0] Y in 0.1 ppb; below 10 is taken as 10 -/
def SV_HOYRES : RegRow :=
  { page := 0x03, off := 0x054, acc := .rw, rst := 0x000000FA, take := 0x0000FFFF }

/-- RW. [19:0] ceiling in µs; above 1,000,000 is taken as 1,000,000; raising limited under R144 -/
def SV_HOMAX : RegRow :=
  { page := 0x03, off := 0x058, acc := .rw, rst := 0x000186A0, take := 0x000FFFFF }

/-- RO. [19:0] holdover remaining in µs -/
def SV_HOTIMER : RegRow :=
  { page := 0x03, off := 0x05C, acc := .ro }

/-- W1S. [1] SWITCH; [0] FORCE_ACQ; both self-clearing -/
def SV_CMD : RegRow :=
  { page := 0x03, off := 0x060, acc := .w1s }

/-- RO. Time build-out, signed, 1/64 tick -/
def SV_BO : RegRow :=
  { page := 0x03, off := 0x064, acc := .ro }

/-- RO. Channel 0 SV_OFFSET minus channel 1 SV_OFFSET, signed, 1/64 tick; 0 unless both are OFFVALID -/
def SV_ABDIFF : RegRow :=
  { page := 0x03, off := 0x068, acc := .ro }

/-- RO. [6:4] reference index; [2:0] input: 0 DCO alone, 1 channel 0 lane, 2 channel 1 lane, 3 the reference in [6:4] -/
def SV_PLLSEL : RegRow :=
  { page := 0x03, off := 0x06C, acc := .ro }

/-- RO. [23:0] DCO control word applied -/
def SV_DCO : RegRow :=
  { page := 0x03, off := 0x070, acc := .ro }

/-- RO. PLL phase build-out, signed, 4 ps units -/
def SV_PBO : RegRow :=
  { page := 0x03, off := 0x074, acc := .ro }

/-- RO. Channel status -/
def SV_CSTAT : RegRow :=
  { page := 0x03, off := 0x400, acc := .ro, rst := 0x08000000, sel := .chan }

/-- RO. Filtered offset under R133, signed, 1/64 tick -/
def SV_OFFSET : RegRow :=
  { page := 0x03, off := 0x404, acc := .ro, sel := .chan }

/-- RO. Latest sample, signed, 1/64 tick -/
def SV_OFFRAW : RegRow :=
  { page := 0x03, off := 0x408, acc := .ro, sel := .chan }

/-- RO. Reference mean path delay, 1/64 tick -/
def SV_MPDREF : RegRow :=
  { page := 0x03, off := 0x40C, acc := .ro, sel := .chan }

/-- W1S. [1] RELEARN; [0] ASYM_OK; both self-clearing -/
def SV_CCMD : RegRow :=
  { page := 0x03, off := 0x410, acc := .w1s, sel := .chan }

/-- The rows of page 0x03. -/
def page03 : List RegRow :=
  [SV_CFG, SV_LWIN, SV_UWIN, SV_QWIN, SV_HOBUDGET, SV_HOYRES,
   SV_HOMAX, SV_HOTIMER, SV_CMD, SV_BO, SV_ABDIFF, SV_PLLSEL,
   SV_DCO, SV_PBO, SV_CSTAT, SV_OFFSET, SV_OFFRAW, SV_MPDREF,
   SV_CCMD]

/-- RWL. [31] REVERTIVE; [30] LOCAL_OK; [29] BO_REMOVE; [11:0] WTR in s, where above 3,600 is taken as 3,600 -/
def RF_CFG : RegRow :=
  { page := 0x04, off := 0x040, acc := .rwl, rst := 0x4000012C, take := 0xE0000FFF, rwl := 0xE0000FFF }

/-- RWL. [15:0] build-out removal slew in ps/s; above 1,000 is taken as 1,000 -/
def RF_BOSLEW : RegRow :=
  { page := 0x04, off := 0x044, acc := .rwl, rst := 0x000003E8, take := 0x0000FFFF, rwl := 0x0000FFFF }

/-- RO. [31] VALID; [30] FORCED; [29] HOLDOVER; [28] FSRC_VALID; [27] STBY_VALID; [10:8] FSRC; [6:4] STANDBY; [2:0] SELECTED -/
def RF_SEL : RegRow :=
  { page := 0x04, off := 0x048, acc := .ro }

/-- RW. [31] EN; [2:0] reference forced -/
def RF_FORCE : RegRow :=
  { page := 0x04, off := 0x04C, acc := .rw, take := 0x80000007 }

/-- RS. Crown build-out [31:0], 1/64 tick. Latches RF_BO_HI. -/
def RF_BO_LO : RegRow :=
  { page := 0x04, off := 0x050, acc := .rs }

/-- RO. Crown build-out [63:32], signed -/
def RF_BO_HI : RegRow :=
  { page := 0x04, off := 0x054, acc := .ro }

/-- RW. Holdover traceability limit in s -/
def RF_HOTRACE : RegRow :=
  { page := 0x04, off := 0x058, acc := .rw, rst := 0x00015180, take := 0xFFFFFFFF }

/-- RO. [31] AGEING_READY; [23:0] seconds in holdover, saturating -/
def RF_HOSTAT : RegRow :=
  { page := 0x04, off := 0x05C, acc := .ro }

/-- RWL. Reference configuration -/
def RF_RCFG : RegRow :=
  { page := 0x04, off := 0x400, acc := .rwl, rst := 0x07000000, take := 0x870FFFFF, rwl := 0x870FFFFF, sel := .chan }

/-- RWL. [31:16] HOLDOFF in s, where 0 is taken as 1; [15:0] PSTAB in ns -/
def RF_RQUAL : RegRow :=
  { page := 0x04, off := 0x404, acc := .rwl, rst := 0x000A0064, take := 0xFFFFFFFF, rwl := 0xFFFFFFFF, sel := .chan }

/-- RO. Reference status -/
def RF_RSTAT : RegRow :=
  { page := 0x04, off := 0x408, acc := .ro, sel := .chan }

/-- RO. Frequency offset against TCLK, signed, units of 10⁻¹² -/
def RF_RFREQ : RegRow :=
  { page := 0x04, off := 0x40C, acc := .ro, sel := .chan }

/-- RS. Offset of Lyspen time to the reference [31:0], 1/64 tick. Latches RF_RPH_HI. -/
def RF_RPH_LO : RegRow :=
  { page := 0x04, off := 0x410, acc := .rs, sel := .chan }

/-- RO. [63:32], signed -/
def RF_RPH_HI : RegRow :=
  { page := 0x04, off := 0x414, acc := .ro, sel := .chan }

/-- RO. Peak-to-peak phase over the last hold-off window in ns, saturating -/
def RF_RWANDER : RegRow :=
  { page := 0x04, off := 0x418, acc := .ro, sel := .chan }

/-- The rows of page 0x04. -/
def page04 : List RegRow :=
  [RF_CFG, RF_BOSLEW, RF_SEL, RF_FORCE, RF_BO_LO, RF_BO_HI,
   RF_HOTRACE, RF_HOSTAT, RF_RCFG, RF_RQUAL, RF_RSTAT, RF_RFREQ,
   RF_RPH_LO, RF_RPH_HI, RF_RWANDER]

/-- RW. [19:0] AGE_MAX in ns; values below 1,000 are taken as 1,000. [31:20] reserved. -/
def LN_CFG : RegRow :=
  { page := 0x08, off := 0x040, acc := .rw, rst := 0x00004E20, take := 0x000FFFFF }

/-- RW. [7:0] REPLAY_MAX; 0 is taken as 1. [31:8] reserved. -/
def LN_RPLCFG : RegRow :=
  { page := 0x08, off := 0x044, acc := .rw, rst := 0x00000010, take := 0x000000FF }

/-- RO. Bit n: port n is UP, for ports 0–31 -/
def LN_UP0 : RegRow :=
  { page := 0x08, off := 0x048, acc := .ro }

/-- RO. Bit n: port 32 + n is UP -/
def LN_UP1 : RegRow :=
  { page := 0x08, off := 0x04C, acc := .ro }

/-- RO. [1:0]: ports 64 and 65 UP -/
def LN_UP2 : RegRow :=
  { page := 0x08, off := 0x050, acc := .ro }

/-- RO. Bit n: LN_LHIST of port n ≠ 0, for ports 0–31 -/
def LN_LHSUM0 : RegRow :=
  { page := 0x08, off := 0x054, acc := .ro }

/-- RO. Ports 32–63 -/
def LN_LHSUM1 : RegRow :=
  { page := 0x08, off := 0x058, acc := .ro }

/-- RO. [1:0]: ports 64 and 65 -/
def LN_LHSUM2 : RegRow :=
  { page := 0x08, off := 0x05C, acc := .ro }

/-- RW. Port control -/
def LN_PCTRL : RegRow :=
  { page := 0x08, off := 0x400, acc := .rw, rst := 0x00000001, take := 0x80000041, rwl := 0x80000000, sel := .chan }

/-- RO. Port status -/
def LN_PSTAT : RegRow :=
  { page := 0x08, off := 0x404, acc := .ro, sel := .chan }

/-- W1C. Port sticky history; same bits as LN_HIST -/
def LN_LHIST : RegRow :=
  { page := 0x08, off := 0x408, acc := .w1c, sel := .chan }

/-- RWL. [23:0] declared transmit latency, 1/64 tick -/
def LN_PMA_LAT_TX : RegRow :=
  { page := 0x08, off := 0x40C, acc := .rwl, take := 0x00FFFFFF, rwl := 0x00FFFFFF, sel := .chan }

/-- RWL. [23:0] declared receive latency, 1/64 tick -/
def LN_PMA_LAT_RX : RegRow :=
  { page := 0x08, off := 0x410, acc := .rwl, take := 0x00FFFFFF, rwl := 0x00FFFFFF, sel := .chan }

/-- RWL. [23:0] declared extra latency of the loopback path, 1/64 tick -/
def LN_PMA_LAT_LB : RegRow :=
  { page := 0x08, off := 0x414, acc := .rwl, take := 0x00FFFFFF, rwl := 0x00FFFFFF, sel := .chan }

/-- RO. [23:0] measured loopback latency under R81, 1/64 tick -/
def LN_PMA_MEAS : RegRow :=
  { page := 0x08, off := 0x418, acc := .ro, sel := .chan }

/-- RW. [7:0] INT in µs, 1 to 255; 0 means 256 -/
def LN_PROBE : RegRow :=
  { page := 0x08, off := 0x41C, acc := .rw, rst := 0x00000010, take := 0x000000FF, sel := .chan }

/-- RS. Peer IDENT W2. Latches LN_PEER1 to LN_PEER3. -/
def LN_PEER0 : RegRow :=
  { page := 0x08, off := 0x420, acc := .rs, sel := .chan }

/-- RO. Peer IDENT W3 -/
def LN_PEER1 : RegRow :=
  { page := 0x08, off := 0x424, acc := .ro, sel := .chan }

/-- RO. Peer UID [31:0] -/
def LN_PEER2 : RegRow :=
  { page := 0x08, off := 0x428, acc := .ro, sel := .chan }

/-- RO. [15:0] peer UID [47:32] -/
def LN_PEER3 : RegRow :=
  { page := 0x08, off := 0x42C, acc := .ro, sel := .chan }

/-- RO. Local lane features -/
def LN_FEAT : RegRow :=
  { page := 0x08, off := 0x430, acc := .ro, rst := 0x00000007, sel := .chan }

/-- RO. Negotiated lane features -/
def LN_FEATNEG : RegRow :=
  { page := 0x08, off := 0x434, acc := .ro, sel := .chan }

/-- RO. Latest probe wire round trip in ns, with the responder's turnaround removed, under R101; 80,000 until measured -/
def LN_RTT : RegRow :=
  { page := 0x08, off := 0x438, acc := .ro, rst := 0x00013880, sel := .chan }

/-- RO. Latest mean path delay, 1/64 tick -/
def LN_MPD : RegRow :=
  { page := 0x08, off := 0x43C, acc := .ro, sel := .chan }

/-- RW. Signed asymmetry correction, 1/64 tick; use under "Servo, reference selection and holdover" -/
def LN_ASYM : RegRow :=
  { page := 0x08, off := 0x440, acc := .rw, take := 0xFFFFFFFF, sel := .chan }

/-- RO. [23:16] B, [15:8] S, [7:0] M credits held -/
def LN_CREDIT : RegRow :=
  { page := 0x08, off := 0x444, acc := .ro, sel := .chan }

/-- RO. Transmit queue occupancy: [31:24] T, [23:16] B, [15:8] S, [7:0] M -/
def LN_TXQ : RegRow :=
  { page := 0x08, off := 0x448, acc := .ro, sel := .chan }

/-- RO. [27:16] next transmit sequence; [11:0] last sequence accepted in order -/
def LN_SEQ : RegRow :=
  { page := 0x08, off := 0x44C, acc := .ro, rst := 0x00000FFF, sel := .chan }

/-- RC. Damaged cells, not timing -/
def LN_CNT_CELLERR : RegRow :=
  { page := 0x08, off := 0x450, acc := .rc, sel := .chan }

/-- RC. Cells discarded ahead of sequence -/
def LN_CNT_GAP : RegRow :=
  { page := 0x08, off := 0x454, acc := .rc, sel := .chan }

/-- RC. Timing cells discarded -/
def LN_CNT_TDROP : RegRow :=
  { page := 0x08, off := 0x458, acc := .rc, sel := .chan }

/-- RC. Uncorrectable codewords -/
def LN_CNT_FECUNC : RegRow :=
  { page := 0x08, off := 0x45C, acc := .rc, sel := .chan }

/-- RC. Codewords with at least one corrected symbol -/
def LN_CNT_FECCOR : RegRow :=
  { page := 0x08, off := 0x460, acc := .rc, sel := .chan }

/-- RC. Replays started -/
def LN_CNT_REPLAY : RegRow :=
  { page := 0x08, off := 0x464, acc := .rc, sel := .chan }

/-- RC. Duplicates and spurious NAKs -/
def LN_CNT_DUP : RegRow :=
  { page := 0x08, off := 0x468, acc := .rc, sel := .chan }

/-- RC. Sequenced cells discarded at lane down -/
def LN_CNT_FLUSH : RegRow :=
  { page := 0x08, off := 0x46C, acc := .rc, sel := .chan }

/-- RC. Cells served under the aging rule -/
def LN_CNT_AGED : RegRow :=
  { page := 0x08, off := 0x470, acc := .rc, sel := .chan }

/-- RC. Servo samples skipped and probes abandoned -/
def LN_CNT_SKIP : RegRow :=
  { page := 0x08, off := 0x474, acc := .rc, sel := .chan }

/-- RC. Credit overruns and unknown cells -/
def LN_CNT_PROT : RegRow :=
  { page := 0x08, off := 0x478, acc := .rc, sel := .chan }

/-- The rows of page 0x08. -/
def page08 : List RegRow :=
  [LN_CFG, LN_RPLCFG, LN_UP0, LN_UP1, LN_UP2, LN_LHSUM0,
   LN_LHSUM1, LN_LHSUM2, LN_PCTRL, LN_PSTAT, LN_LHIST, LN_PMA_LAT_TX,
   LN_PMA_LAT_RX, LN_PMA_LAT_LB, LN_PMA_MEAS, LN_PROBE, LN_PEER0, LN_PEER1,
   LN_PEER2, LN_PEER3, LN_FEAT, LN_FEATNEG, LN_RTT, LN_MPD,
   LN_ASYM, LN_CREDIT, LN_TXQ, LN_SEQ, LN_CNT_CELLERR, LN_CNT_GAP,
   LN_CNT_TDROP, LN_CNT_FECUNC, LN_CNT_FECCOR, LN_CNT_REPLAY, LN_CNT_DUP, LN_CNT_FLUSH,
   LN_CNT_AGED, LN_CNT_SKIP, LN_CNT_PROT]

/-- RWL. Tree configuration -/
def TR_CFG : RegRow :=
  { page := 0x09, off := 0x040, acc := .rwl, rstHub := some 0x80C003E8, take := 0xFFE0FFFF, rwl := 0xFFE0FFFF }

/-- RW. [15:0] SUMMARY interval in µs; 0 taken as 1. Hub. -/
def TR_PACE : RegRow :=
  { page := 0x09, off := 0x044, acc := .rw, rst := 0x00000064, take := 0x0000FFFF, roles := .hub }

/-- W1S. [2] REVERT_NOW, [1] YIELD, [0] CLAIM; each self-clearing. Hub. -/
def TR_CTRL : RegRow :=
  { page := 0x09, off := 0x048, acc := .w1s, roles := .hub }

/-- RO. [31] VALID; [27:24] LEVEL, 5 die, 6 to 9 hub, 0 unknown; [23:0] ADDRESS -/
def TR_ADDR : RegRow :=
  { page := 0x09, off := 0x04C, acc := .ro }

/-- RS. Crown UID [31:0]. Latches TR_CROWN_HI and TR_CEPOCH. -/
def TR_CROWN_LO : RegRow :=
  { page := 0x09, off := 0x050, acc := .rs }

/-- RO. [31:24] PRIO; [23:20] LEVEL; [16] CVALID; [15:0] UID [47:32] -/
def TR_CROWN_HI : RegRow :=
  { page := 0x09, off := 0x054, acc := .ro }

/-- RO. [15:0] crown epoch under R116 -/
def TR_CEPOCH : RegRow :=
  { page := 0x09, off := 0x058, acc := .ro }

/-- RO. [24:0] members in subtree; a die reads 1 when addressed -/
def TR_MEMBERS : RegRow :=
  { page := 0x09, off := 0x05C, acc := .ro }

/-- RO. [24:0] LOCKED members in subtree -/
def TR_LOCKED : RegRow :=
  { page := 0x09, off := 0x060, acc := .ro }

/-- RO. [18:0] hubs in subtree. Hub. -/
def TR_HUBS : RegRow :=
  { page := 0x09, off := 0x064, acc := .ro, roles := .hub }

/-- RS. Best claim below, UID [31:0]. Latches TR_BESTSUB_HI. Hub. -/
def TR_BESTSUB_LO : RegRow :=
  { page := 0x09, off := 0x068, acc := .rs, roles := .hub }

/-- RO. [31:24] PRIO; [23] VALID; [15:0] UID [47:32]. Hub. -/
def TR_BESTSUB_HI : RegRow :=
  { page := 0x09, off := 0x06C, acc := .ro, roles := .hub }

/-- RO. µs from entry to DISCOVER to this Lyspen's first LOCKED; saturates -/
def TR_TLOCK : RegRow :=
  { page := 0x09, off := 0x070, acc := .ro }

/-- RW. [23:0] target member address. Hub. -/
def TR_RRA_TGT : RegRow :=
  { page := 0x09, off := 0x080, acc := .rw, take := 0x00FFFFFF, roles := .hub }

/-- RW. [17:0] target register address. Hub. -/
def TR_RRA_REG : RegRow :=
  { page := 0x09, off := 0x084, acc := .rw, take := 0x0003FFFF, roles := .hub }

/-- RW. Write data. Hub. -/
def TR_RRA_DATA : RegRow :=
  { page := 0x09, off := 0x088, acc := .rw, take := 0xFFFFFFFF, roles := .hub }

/-- WO. [31:28] OP; [3:0] TAG. Issues under R127. Hub. -/
def TR_RRA_GO : RegRow :=
  { page := 0x09, off := 0x08C, acc := .wo, roles := .hub }

/-- RW. [15:0] time-out in µs; 0 taken as 1. Hub. -/
def TR_RRA_TMO : RegRow :=
  { page := 0x09, off := 0x090, acc := .rw, rst := 0x000000C8, take := 0x0000FFFF, roles := .hub }

/-- RO. [15:0] outstanding tags. Hub. -/
def TR_RRA_OUT : RegRow :=
  { page := 0x09, off := 0x094, acc := .ro, roles := .hub }

/-- RS. Pops one response: [31] VALID; [27:20] RSEQ; [19:16] STATUS; [14:12] KIND; [3:0] TAG. Latches TR_RRSP1 and TR_RRSP2. Hub. -/
def TR_RRSP0 : RegRow :=
  { page := 0x09, off := 0x098, acc := .rs, roles := .hub }

/-- RO. Read data. Hub. -/
def TR_RRSP1 : RegRow :=
  { page := 0x09, off := 0x09C, acc := .ro, roles := .hub }

/-- RO. [23:0] target. Hub. -/
def TR_RRSP2 : RegRow :=
  { page := 0x09, off := 0x0A0, acc := .ro, roles := .hub }

/-- RS. Pops one notice: [31] VALID; [23:0] member. Latches TR_INQ1 and TR_INQ2. Hub. -/
def TR_INQ0 : RegRow :=
  { page := 0x09, off := 0x0A4, acc := .rs, roles := .hub }

/-- RO. The member's GLB_ISUM0. Hub. -/
def TR_INQ1 : RegRow :=
  { page := 0x09, off := 0x0A8, acc := .ro, roles := .hub }

/-- RO. The member's GLB_ISUM1. Hub. -/
def TR_INQ2 : RegRow :=
  { page := 0x09, off := 0x0AC, acc := .ro, roles := .hub }

/-- RS. Pops one loss: [31] VALID; [30:27] LEVEL; [26:23] REASON; [22:0] reserved. Latches TR_MLQ1 to TR_MLQ3. Hub. -/
def TR_MLQ0 : RegRow :=
  { page := 0x09, off := 0x0B0, acc := .rs, roles := .hub }

/-- RO. [23:0] lost address. Hub. -/
def TR_MLQ1 : RegRow :=
  { page := 0x09, off := 0x0B4, acc := .ro, roles := .hub }

/-- RO. [24:0] members lost. Hub. -/
def TR_MLQ2 : RegRow :=
  { page := 0x09, off := 0x0B8, acc := .ro, roles := .hub }

/-- RO. Detection T[63:32]. Hub. -/
def TR_MLQ3 : RegRow :=
  { page := 0x09, off := 0x0BC, acc := .ro, roles := .hub }

/-- The rows of page 0x09. -/
def page09 : List RegRow :=
  [TR_CFG, TR_PACE, TR_CTRL, TR_ADDR, TR_CROWN_LO, TR_CROWN_HI,
   TR_CEPOCH, TR_MEMBERS, TR_LOCKED, TR_HUBS, TR_BESTSUB_LO, TR_BESTSUB_HI,
   TR_TLOCK, TR_RRA_TGT, TR_RRA_REG, TR_RRA_DATA, TR_RRA_GO, TR_RRA_TMO,
   TR_RRA_OUT, TR_RRSP0, TR_RRSP1, TR_RRSP2, TR_INQ0, TR_INQ1,
   TR_INQ2, TR_MLQ0, TR_MLQ1, TR_MLQ2, TR_MLQ3]

/-- RO. [26:24] BRANCHES, 1 to 4; [8:0] NTAPS, 1 to 256; other bits reserved -/
def RT_CHAIN : RegRow :=
  { page := 0x0C, off := 0x040, acc := .ro }

/-- RWL. [31] RPT_EN; [7:0] RPT_GROUP, a GR entry index under R164 -/
def RT_CFG : RegRow :=
  { page := 0x0C, off := 0x044, acc := .rwl, take := 0x800000FF, rwl := 0x800000FF }

/-- W1S. [0] CAL: recalibrate the chain under R156 and R157. Reads 1 until done. -/
def RT_CMD : RegRow :=
  { page := 0x0C, off := 0x048, acc := .w1s }

/-- RO. Word k, bit n: tap 32k + n has CAL_OK -/
def RT_CALMAP : RegRow :=
  { page := 0x0C, off := 0x050, acc := .ro, cnt := 8, stride := 4 }

/-- RO. Word k, bit n: RT_THIST of tap 32k + n is not 0 -/
def RT_THSUM : RegRow :=
  { page := 0x0C, off := 0x070, acc := .ro, cnt := 8, stride := 4 }

/-- RWL. [31] EN; [15:0] FBUDGET in 1/64 tick, where 0 means 2 × RT_RPER -/
def RT_TCFG : RegRow :=
  { page := 0x0C, off := 0x400, acc := .rwl, rst := 0x80000000, take := 0x8000FFFF, rwl := 0x8000FFFF, sel := .chan }

/-- RO. Tap status -/
def RT_TSTAT : RegRow :=
  { page := 0x0C, off := 0x404, acc := .ro, sel := .chan }

/-- W1C. Tap sticky history; same bits as RT_HIST -/
def RT_THIST : RegRow :=
  { page := 0x0C, off := 0x408, acc := .w1c, sel := .chan }

/-- W1S. [0] XCAL: calibrate this tap's crossings at the current points. Reads 1 until done. -/
def RT_TCMD : RegRow :=
  { page := 0x0C, off := 0x40C, acc := .w1s, sel := .chan }

/-- RO. [25:16] CUM_TICKS; [11:8] HOP_TICKS; [5:0] TRIM in 1/64 tick -/
def RT_HOP : RegRow :=
  { page := 0x0C, off := 0x410, acc := .ro, sel := .chan }

/-- RO. [15:0] calibrated round trip of the hop in front, 1/64 tick -/
def RT_ECHO : RegRow :=
  { page := 0x0C, off := 0x414, acc := .ro, sel := .chan }

/-- RO. [23:0] nominal region period at the current point, 1/64 tick -/
def RT_RPER : RegRow :=
  { page := 0x0C, off := 0x418, acc := .ro, sel := .chan }

/-- RO. [23:0] extensions since the last anchor, 1/64 tick; saturates -/
def RT_ACC : RegRow :=
  { page := 0x0C, off := 0x41C, acc := .ro, sel := .chan }

/-- RS. Stretched cycles in the last report window; saturates. Latches RT_STRSUM and RT_STRMAX. -/
def RT_STRCYC : RegRow :=
  { page := 0x0C, off := 0x420, acc := .rs, sel := .chan }

/-- RO. Sum of extensions in that window, 1/64 tick; saturates -/
def RT_STRSUM : RegRow :=
  { page := 0x0C, off := 0x424, acc := .ro, sel := .chan }

/-- RO. [23:0] largest single extension in that window, 1/64 tick -/
def RT_STRMAX : RegRow :=
  { page := 0x0C, off := 0x428, acc := .ro, sel := .chan }

/-- RO. [31:16] longest stop in ns; [15:0] last stop in ns; both saturate -/
def RT_STOPT : RegRow :=
  { page := 0x0C, off := 0x42C, acc := .ro, sel := .chan }

/-- RO. [31] VALID; [23:0] nominal period of operating point n, 1/64 tick -/
def RT_OPCAL : RegRow :=
  { page := 0x0C, off := 0x430, acc := .ro, cnt := 4, stride := 4, sel := .chan }

/-- RO. Line 4t + n: [31] LATE; [30] ARMED; [23:0] last ΔT_fire, 1/64 tick -/
def RT_FLAT : RegRow :=
  { page := 0x0C, off := 0x440, acc := .ro, cnt := 4, stride := 4, sel := .chan }

/-- RWL. Crossing 4t + k: [31:30] MODE; [19:16] XCLS; [8:0] SRCTAP, the source region's tap -/
def RT_XCFG : RegRow :=
  { page := 0x0C, off := 0x480, acc := .rwl, cnt := 4, stride := 32, take := 0xC00F01FF, rwl := 0xC00F01FF, sel := .chan }

/-- RWL. [7:0] A in ticks -/
def RT_XALLOW : RegRow :=
  { page := 0x0C, off := 0x484, acc := .rwl, cnt := 4, stride := 32, rst := 0x00000004, take := 0x000000FF, rwl := 0x000000FF, sel := .chan }

/-- RO. [15:8] L in ticks; [7:0] L_path in ticks at the current point -/
def RT_XLAT : RegRow :=
  { page := 0x0C, off := 0x488, acc := .ro, cnt := 4, stride := 32, sel := .chan }

/-- RO. [31] DET_OK; [30] FALLBACK; [29] XCAL_BUSY; [28] SLIPPED, 1 from the first slip until RT_XSLIP is read -/
def RT_XSTAT : RegRow :=
  { page := 0x0C, off := 0x48C, acc := .ro, cnt := 4, stride := 32, sel := .chan }

/-- RC. Slipped writes; saturates -/
def RT_XSLIP : RegRow :=
  { page := 0x0C, off := 0x490, acc := .rc, cnt := 4, stride := 32, sel := .chan }

/-- RO. L_path in ticks for destination points 3, 2, 1, 0 in [31:24], [23:16], [15:8], [7:0]; 0xFF not calibrated -/
def RT_XOPLAT : RegRow :=
  { page := 0x0C, off := 0x494, acc := .ro, cnt := 4, stride := 32, sel := .chan }

/-- The rows of page 0x0C. -/
def page0C : List RegRow :=
  [RT_CHAIN, RT_CFG, RT_CMD, RT_CALMAP, RT_THSUM, RT_TCFG,
   RT_TSTAT, RT_THIST, RT_TCMD, RT_HOP, RT_ECHO, RT_RPER,
   RT_ACC, RT_STRCYC, RT_STRSUM, RT_STRMAX, RT_STOPT, RT_OPCAL,
   RT_FLAT, RT_XCFG, RT_XALLOW, RT_XLAT, RT_XSTAT, RT_XSLIP,
   RT_XOPLAT]

/-- RWL. [31:20] reserved; [19:16] QUORUM under R185; [15:0] LIMIT in ps under R184 -/
def TS_PLCFG : RegRow :=
  { page := 0x0D, off := 0x040, acc := .rwl, rst := 0x00021388, take := 0x000FFFFF, rwl := 0x000FFFFF }

/-- RWL. [31:16] reserved; [15:0] INT: plumb interval in µs under R182 -/
def TS_PLINT : RegRow :=
  { page := 0x0D, off := 0x044, acc := .rwl, rst := 0x000003E8, take := 0x0000FFFF, rwl := 0x0000FFFF }

/-- RO. Bit n: tap n in plumb alarm, for taps 0–31 -/
def TS_PLSUM0 : RegRow :=
  { page := 0x0D, off := 0x048, acc := .ro }

/-- RO. Taps 32–63 -/
def TS_PLSUM1 : RegRow :=
  { page := 0x0D, off := 0x04C, acc := .ro }

/-- RO. [31] SUSPECT; [30] SIGN, 1 for local ahead; [23:16] SUSPECT_PORT; [6:0] NALARM -/
def TS_PLSTAT : RegRow :=
  { page := 0x0D, off := 0x050, acc := .ro }

/-- RW. [0] UARTQ under R181 -/
def TS_SWCFG : RegRow :=
  { page := 0x0D, off := 0x054, acc := .rw, take := 0x00000001 }

/-- RS. Pops one software stamp: [31] VALID; [30] SOFT; [3:0] SOURCE, where 0–3 is SWEVTn, 4 UART0 and 5 UART1. Latches TS_SWQ1 to TS_SWQ3. -/
def TS_SWQ0 : RegRow :=
  { page := 0x0D, off := 0x058, acc := .rs }

/-- RO. T[31:0] -/
def TS_SWQ1 : RegRow :=
  { page := 0x0D, off := 0x05C, acc := .ro }

/-- RO. T[63:32] -/
def TS_SWQ2 : RegRow :=
  { page := 0x0D, off := 0x060, acc := .ro }

/-- RO. T[95:64] -/
def TS_SWQ3 : RegRow :=
  { page := 0x0D, off := 0x064, acc := .ro }

/-- RWL. [31] EN; [30] PLUMB; [29] QEN -/
def TS_TCFG : RegRow :=
  { page := 0x0D, off := 0x400, acc := .rwl, take := 0xE0000000, rwl := 0xE0000000, sel := .chan }

/-- RO. [31] PLALARM; [30] PLVALID, meaning a window has completed; [20:16] transmit queue occupancy, 0–16 -/
def TS_TSTAT : RegRow :=
  { page := 0x0D, off := 0x404, acc := .ro, sel := .chan }

/-- W1C. Tap sticky history; same bits as TS_HIST -/
def TS_THIST : RegRow :=
  { page := 0x0D, off := 0x408, acc := .w1c, sel := .chan }

/-- RWL. [23:0] egress correction, 1/64 tick -/
def TS_EGR : RegRow :=
  { page := 0x0D, off := 0x40C, acc := .rwl, take := 0x00FFFFFF, rwl := 0x00FFFFFF, sel := .chan }

/-- RWL. [23:0] ingress correction, 1/64 tick -/
def TS_ING : RegRow :=
  { page := 0x0D, off := 0x410, acc := .rwl, take := 0x00FFFFFF, rwl := 0x00FFFFFF, sel := .chan }

/-- RS. Pops one entry: [31] VALID; [30] MISSED; [29] OVR_BEFORE; [15:0] FRAME_ID. Latches TS_TXQ1 to TS_TXQ3. -/
def TS_TXQ0 : RegRow :=
  { page := 0x0D, off := 0x414, acc := .rs, sel := .chan }

/-- RO. T[31:0] -/
def TS_TXQ1 : RegRow :=
  { page := 0x0D, off := 0x418, acc := .ro, sel := .chan }

/-- RO. T[63:32] -/
def TS_TXQ2 : RegRow :=
  { page := 0x0D, off := 0x41C, acc := .ro, sel := .chan }

/-- RO. T[95:64] -/
def TS_TXQ3 : RegRow :=
  { page := 0x0D, off := 0x420, acc := .ro, sel := .chan }

/-- RS. Latest receive stamp T[31:0]; [1:0] of TS_RXL2 hold the class. Latches TS_RXL1 and TS_RXL2. -/
def TS_RXL0 : RegRow :=
  { page := 0x0D, off := 0x424, acc := .rs, sel := .chan }

/-- RO. T[63:32] -/
def TS_RXL1 : RegRow :=
  { page := 0x0D, off := 0x428, acc := .ro, sel := .chan }

/-- RO. [31:2] T[93:64]; [1:0] class -/
def TS_RXL2 : RegRow :=
  { page := 0x0D, off := 0x42C, acc := .ro, sel := .chan }

/-- RO. [31] VALID; [23:0] neighbour member address -/
def TS_PLNB : RegRow :=
  { page := 0x0D, off := 0x430, acc := .ro, sel := .chan }

/-- RO. Window mean θ, signed, 1/64 tick -/
def TS_PLTHETA : RegRow :=
  { page := 0x0D, off := 0x434, acc := .ro, sel := .chan }

/-- RO. Window mean delay, 1/64 tick -/
def TS_PLDELAY : RegRow :=
  { page := 0x0D, off := 0x438, acc := .ro, sel := .chan }

/-- RO. Largest \|θ\| of one exchange since the last window, 1/64 tick -/
def TS_PLMAX : RegRow :=
  { page := 0x0D, off := 0x43C, acc := .ro, sel := .chan }

/-- RC. [31:16] SKIP; [15:0] valid exchanges; both saturate -/
def TS_PLCNT : RegRow :=
  { page := 0x0D, off := 0x440, acc := .rc, sel := .chan }

/-- The rows of page 0x0D. -/
def page0D : List RegRow :=
  [TS_PLCFG, TS_PLINT, TS_PLSUM0, TS_PLSUM1, TS_PLSTAT, TS_SWCFG,
   TS_SWQ0, TS_SWQ1, TS_SWQ2, TS_SWQ3, TS_TCFG, TS_TSTAT,
   TS_THIST, TS_EGR, TS_ING, TS_TXQ0, TS_TXQ1, TS_TXQ2,
   TS_TXQ3, TS_RXL0, TS_RXL1, TS_RXL2, TS_PLNB, TS_PLTHETA,
   TS_PLDELAY, TS_PLMAX, TS_PLCNT]

/-- RWL. [1] UART1_AUTOINV; [0] UART0_AUTOINV -/
def PO_UCFG : RegRow :=
  { page := 0x0E, off := 0x040, acc := .rwl, take := 0x00000003, rwl := 0x00000003 }

/-- RO. [9:8] activity on UART1, UART0; [1:0] line inverted on UART1, UART0 -/
def PO_USTAT : RegRow :=
  { page := 0x0E, off := 0x044, acc := .ro }

/-- RWL. [31:30] MODE; [29] LEVEL; [28] VALIDONLY; [25:24] DRIVE, where 0 is high-Z, 1 push-pull, 2 terminated and 3 reserved -/
def PO_OCFG : RegRow :=
  { page := 0x0E, off := 0x400, acc := .rwl, rst := 0x10000000, take := 0xF3000000, rwl := 0xF3000000, sel := .chan }

/-- W1S. [1] DISARM; [0] ARM; both self-clearing -/
def PO_CTRL : RegRow :=
  { page := 0x0E, off := 0x404, acc := .w1s, sel := .chan }

/-- RW. START T[31:0] -/
def PO_START_FRAC : RegRow :=
  { page := 0x0E, off := 0x408, acc := .rw, take := 0xFFFFFFFF, sel := .chan }

/-- RW. START T[63:32] -/
def PO_START_NSLO : RegRow :=
  { page := 0x0E, off := 0x40C, acc := .rw, take := 0xFFFFFFFF, sel := .chan }

/-- RW. START T[95:64] -/
def PO_START_NSHI : RegRow :=
  { page := 0x0E, off := 0x410, acc := .rw, take := 0xFFFFFFFF, sel := .chan }

/-- RW. Period [31:0], 2⁻⁸ ns -/
def PO_PER_LO : RegRow :=
  { page := 0x0E, off := 0x414, acc := .rw, take := 0xFFFFFFFF, sel := .chan }

/-- RW. [15:0] period [47:32] -/
def PO_PER_HI : RegRow :=
  { page := 0x0E, off := 0x418, acc := .rw, take := 0x0000FFFF, sel := .chan }

/-- RW. Width in ns -/
def PO_WID : RegRow :=
  { page := 0x0E, off := 0x41C, acc := .rw, take := 0xFFFFFFFF, sel := .chan }

/-- RW. Pulses; 0 means without end -/
def PO_COUNT : RegRow :=
  { page := 0x0E, off := 0x420, acc := .rw, take := 0xFFFFFFFF, sel := .chan }

/-- RWL. [15:0] output latency to the reference plane, 1/64 tick -/
def PO_OUTLAT : RegRow :=
  { page := 0x0E, off := 0x424, acc := .rwl, take := 0x0000FFFF, rwl := 0x0000FFFF, sel := .chan }

/-- RO. [31] ARMED; [30] HIGH; [29] DISABLED; [28] OPEN_LOAD; [15:0] SHORT_RETRY, saturating -/
def PO_PSTAT : RegRow :=
  { page := 0x0E, off := 0x428, acc := .ro, sel := .chan }

/-- RO. Pulses issued since the last ARM -/
def PO_DONE : RegRow :=
  { page := 0x0E, off := 0x42C, acc := .ro, sel := .chan }

/-- RC. Pulses skipped under R189; saturates -/
def PO_SKIPCNT : RegRow :=
  { page := 0x0E, off := 0x430, acc := .rc, sel := .chan }

/-- RS. Next rising edge T[31:0]. Latches PO_NEXT_NSLO and PO_NEXT_NSHI. -/
def PO_NEXT_FRAC : RegRow :=
  { page := 0x0E, off := 0x434, acc := .rs, sel := .chan }

/-- RO. T[63:32] -/
def PO_NEXT_NSLO : RegRow :=
  { page := 0x0E, off := 0x438, acc := .ro, sel := .chan }

/-- RO. T[95:64] -/
def PO_NEXT_NSHI : RegRow :=
  { page := 0x0E, off := 0x43C, acc := .ro, sel := .chan }

/-- RWL. [31] DIFF; [30] INV; [29] PPS_AUTOPOL; [28] BIAS_EN -/
def PO_ICFG : RegRow :=
  { page := 0x0E, off := 0x440, acc := .rwl, rstHub := some 0x10000000, take := 0xF0000000, rwl := 0xF0000000, sel := .chan }

/-- RO. [31] ACTIVITY; [30] OPEN; [29] INVERTED, as detected; [28] CORRECTED; [27] HELD -/
def PO_ISTAT : RegRow :=
  { page := 0x0E, off := 0x444, acc := .ro, sel := .chan }

/-- The rows of page 0x0E. -/
def page0E : List RegRow :=
  [PO_UCFG, PO_USTAT, PO_OCFG, PO_CTRL, PO_START_FRAC, PO_START_NSLO,
   PO_START_NSHI, PO_PER_LO, PO_PER_HI, PO_WID, PO_COUNT, PO_OUTLAT,
   PO_PSTAT, PO_DONE, PO_SKIPCNT, PO_NEXT_FRAC, PO_NEXT_NSLO, PO_NEXT_NSHI,
   PO_ICFG, PO_ISTAT]

/-- RWL. [25:16] WLEAD in ns; [9:0] AGE in µs, where 0 is taken as 1 -/
def SQ_CFG : RegRow :=
  { page := 0x10, off := 0x040, acc := .rwl, rst := 0x01F4000A, take := 0x03FF03FF, rwl := 0x03FF03FF }

/-- RW. [19:0] FENCE stall time in µs; 0 is taken as 1 -/
def SQ_FTMO : RegRow :=
  { page := 0x10, off := 0x044, acc := .rw, rst := 0x000003E8, take := 0x000FFFFF }

/-- RO. [9:0] launch latency in ticks, under R208 -/
def SQ_LLAT : RegRow :=
  { page := 0x10, off := 0x048, acc := .ro, rst := 0x00000010 }

/-- RO. Bit n: thread n is in a state other than IDLE, HALTED or FAULT -/
def SQ_RUNMAP : RegRow :=
  { page := 0x10, off := 0x04C, acc := .ro }

/-- RO. Bit n: thread n is in FAULT -/
def SQ_FAULTMAP : RegRow :=
  { page := 0x10, off := 0x050, acc := .ro }

/-- RO. Bit n: thread n is in AUTH_HOLD -/
def SQ_HOLDMAP : RegRow :=
  { page := 0x10, off := 0x054, acc := .ro }

/-- RO. Bit n: SQ_THIST of thread n ≠ 0 -/
def SQ_THSUM : RegRow :=
  { page := 0x10, off := 0x058, acc := .ro }

/-- RWL. [29:28] PRIO, applied at once; [23:16] GRP; [13:0] START_PC. GRP and START_PC are taken at START. -/
def SQ_TCFG : RegRow :=
  { page := 0x10, off := 0x400, acc := .rwl, take := 0x30FF3FFF, rwl := 0x30FF3FFF, sel := .chan }

/-- W1S. [3] CANCEL; [2] RESUME; [1] HALT; [0] START; each self-clearing -/
def SQ_TCTRL : RegRow :=
  { page := 0x10, off := 0x404, acc := .w1s, sel := .chan }

/-- RO. Thread status -/
def SQ_TSTAT : RegRow :=
  { page := 0x10, off := 0x408, acc := .ro, sel := .chan }

/-- W1C. Thread sticky history; same bits as SQ_HIST -/
def SQ_THIST : RegRow :=
  { page := 0x10, off := 0x40C, acc := .w1c, sel := .chan }

/-- RW. [15:0] crossing classes used, under R218 -/
def SQ_TXMASK : RegRow :=
  { page := 0x10, off := 0x410, acc := .rw, take := 0x0000FFFF, sel := .chan }

/-- RW. A write stages N0 for START. A read returns the current C. -/
def SQ_TCOURSE : RegRow :=
  { page := 0x10, off := 0x414, acc := .rw, take := 0xFFFFFFFF, sel := .chan }

/-- RW. Start base T[31:0] -/
def SQ_SBASE_FRAC : RegRow :=
  { page := 0x10, off := 0x418, acc := .rw, take := 0xFFFFFFFF, sel := .chan }

/-- RW. Start base T[63:32] -/
def SQ_SBASE_NSLO : RegRow :=
  { page := 0x10, off := 0x41C, acc := .rw, take := 0xFFFFFFFF, sel := .chan }

/-- RW. Start base T[95:64] -/
def SQ_SBASE_NSHI : RegRow :=
  { page := 0x10, off := 0x420, acc := .rw, take := 0xFFFFFFFF, sel := .chan }

/-- RS. Current base T[31:0]. Latches SQ_TBASE_NSLO, SQ_TBASE_NSHI and SQ_TCUROFF. -/
def SQ_TBASE_FRAC : RegRow :=
  { page := 0x10, off := 0x424, acc := .rs, sel := .chan }

/-- RO. Current base T[63:32] -/
def SQ_TBASE_NSLO : RegRow :=
  { page := 0x10, off := 0x428, acc := .ro, sel := .chan }

/-- RO. Current base T[95:64] -/
def SQ_TBASE_NSHI : RegRow :=
  { page := 0x10, off := 0x42C, acc := .ro, sel := .chan }

/-- RO. Cursor − base in ns; saturates -/
def SQ_TCUROFF : RegRow :=
  { page := 0x10, off := 0x430, acc := .ro, sel := .chan }

/-- RO. [31] RVALID; [30] DET; [15:0] F15 to F0, of the latest result loaded -/
def SQ_TRFLAG : RegRow :=
  { page := 0x10, off := 0x434, acc := .ro, sel := .chan }

/-- RO. Course number of that result -/
def SQ_TRCOURSE : RegRow :=
  { page := 0x10, off := 0x438, acc := .ro, sel := .chan }

/-- RO. [7:4] bit k: course C − k is in flight; [3:0] bit k: its local DET -/
def SQ_TDET : RegRow :=
  { page := 0x10, off := 0x43C, acc := .ro, sel := .chan }

/-- RO. Contributions outstanding on this thread: [7:0] course C, [15:8] C − 1, [23:16] C − 2, [31:24] C − 3 -/
def SQ_TCOUNT : RegRow :=
  { page := 0x10, off := 0x440, acc := .ro, sel := .chan }

/-- RW. Mailbox n [31:0], for n = 0 to 63; banked per master under R197 -/
def SQ_MB_LO : RegRow :=
  { page := 0x10, off := 0x600, acc := .rw, cnt := 64, stride := 8, take := 0xFFFFFFFF, sel := .chan, banked := true }

/-- RW. Mailbox n [63:32]; a write commits both halves -/
def SQ_MB_HI : RegRow :=
  { page := 0x10, off := 0x604, acc := .rw, cnt := 64, stride := 8, take := 0xFFFFFFFF, sel := .chan }

/-- The rows of page 0x10. -/
def page10 : List RegRow :=
  [SQ_CFG, SQ_FTMO, SQ_LLAT, SQ_RUNMAP, SQ_FAULTMAP, SQ_HOLDMAP,
   SQ_THSUM, SQ_TCFG, SQ_TCTRL, SQ_TSTAT, SQ_THIST, SQ_TXMASK,
   SQ_TCOURSE, SQ_SBASE_FRAC, SQ_SBASE_NSLO, SQ_SBASE_NSHI, SQ_TBASE_FRAC, SQ_TBASE_NSLO,
   SQ_TBASE_NSHI, SQ_TCUROFF, SQ_TRFLAG, SQ_TRCOURSE, SQ_TDET, SQ_TCOUNT,
   SQ_MB_LO, SQ_MB_HI]

/-- RW. [31] AUTOINC; [14:0] WORD. Banked per master. -/
def SQM_ADDR : RegRow :=
  { page := 0x11, off := 0x040, acc := .rw, take := 0x80007FFF, banked := true }

/-- RW. Write data [31:0], banked per master -/
def SQM_WLO : RegRow :=
  { page := 0x11, off := 0x044, acc := .rw, take := 0xFFFFFFFF, banked := true }

/-- WO. Write data [63:32]. Commits the word at WORD, then WORD := WORD + 1 when AUTOINC = 1. -/
def SQM_WHI : RegRow :=
  { page := 0x11, off := 0x048, acc := .wo }

/-- RS. Word [31:0] at WORD. Latches SQM_RHI, then WORD := WORD + 1 when AUTOINC = 1. -/
def SQM_RLO : RegRow :=
  { page := 0x11, off := 0x04C, acc := .rs }

/-- RO. Word [63:32] -/
def SQM_RHI : RegRow :=
  { page := 0x11, off := 0x050, acc := .ro }

/-- RWL. [31] EN; [14:0] LIMIT. While EN = 1, words below LIMIT refuse commits. -/
def SQM_WPROT : RegRow :=
  { page := 0x11, off := 0x054, acc := .rwl, take := 0x80007FFF, rwl := 0x80007FFF }

/-- RO. [14:0] word of the latest parity error -/
def SQM_PERR : RegRow :=
  { page := 0x11, off := 0x058, acc := .ro }

/-- The rows of page 0x11. -/
def page11 : List RegRow :=
  [SQM_ADDR, SQM_WLO, SQM_WHI, SQM_RLO, SQM_RHI, SQM_WPROT,
   SQM_PERR]

/-- RW. [11:0] group entry index; banked per master under R44 -/
def MT_GSEL : RegRow :=
  { page := 0x14, off := 0x040, acc := .rw, take := 0x00000FFF, banked := true }

/-- RWL. [31:16] TIME in µs, where 0 is taken as 1; [7:0] DEPTH -/
def MT_SATCFG : RegRow :=
  { page := 0x14, off := 0x044, acc := .rwl, rst := 0x000A0010, take := 0xFFFF00FF, rwl := 0xFFFF00FF }

/-- RO. Combiner backlog: [31:16] largest since read of MT_COMPL; [15:0] now -/
def MT_QOCC : RegRow :=
  { page := 0x14, off := 0x048, acc := .ro }

/-- RC. Combines completed; saturates -/
def MT_COMPL : RegRow :=
  { page := 0x14, off := 0x04C, acc := .rc }

/-- RC. Non-finite contributions at lane position k, all groups, under R231; saturate -/
def MT_NFCNT : RegRow :=
  { page := 0x14, off := 0x050, acc := .rc, cnt := 8, stride := 4 }

/-- RW. [16] VALUES; [12:8] FINLEN, 0–16; [3:0] L, 0–8. FINLEN above 16 or L above 8 is refused under R227. -/
def MT_GCFG : RegRow :=
  { page := 0x14, off := 0x800, acc := .rw, take := 0x00011F0F, sel := .by 0x040 12 }

/-- RW. Lane k configuration under R227 -/
def MT_GLANE : RegRow :=
  { page := 0x14, off := 0x820, acc := .rw, cnt := 8, stride := 4, take := 0x0F070000, sel := .by 0x040 12 }

/-- RW. Finish word n, for n = 0 to 15, under R236 -/
def MT_GFIN : RegRow :=
  { page := 0x14, off := 0x840, acc := .rw, cnt := 16, stride := 4, take := 0xFFFFFFFF, sel := .by 0x040 12 }

/-- RW. Constant Kj [31:0] -/
def MT_GK_LO : RegRow :=
  { page := 0x14, off := 0x880, acc := .rw, cnt := 4, stride := 8, take := 0xFFFFFFFF, sel := .by 0x040 12 }

/-- RW. Constant Kj [63:32] -/
def MT_GK_HI : RegRow :=
  { page := 0x14, off := 0x884, acc := .rw, cnt := 4, stride := 8, take := 0xFFFFFFFF, sel := .by 0x040 12 }

/-- RW. [31] MANUAL; [23:0] LEAD in ns under R239 -/
def MT_GLEAD : RegRow :=
  { page := 0x14, off := 0x8A0, acc := .rw, take := 0x80FFFFFF, sel := .by 0x040 12 }

/-- RO. [31] CALIBRATED; [23:0] W in ns at the apex, DP elsewhere, rounded up to whole ns under R239; saturates -/
def MT_GDPATH : RegRow :=
  { page := 0x14, off := 0x8A4, acc := .ro }

/-- RW. [31:24] MAXEXP, signed; [23:16] MINEXP, signed; [15:0] GROW_N, where 0 is taken as 1. Refused unless −126 ≤ MINEXP ≤ MAXEXP ≤ 127, under R238. -/
def MT_GLSCFG : RegRow :=
  { page := 0x14, off := 0x8A8, acc := .rw, rst := 0x180007D0, take := 0xFFFFFFFF, sel := .by 0x040 12 }

/-- RW. S as FP32. Sign and fraction bits are ignored. An exponent field of 0 or 255 is refused under R238. It reads the current scale. -/
def MT_GLSSCALE : RegRow :=
  { page := 0x14, off := 0x8AC, acc := .rw, rst := 0x47000000, take := 0xFFFFFFFF, sel := .by 0x040 12 }

/-- RO. [15:0] clean count -/
def MT_GLSSTATE : RegRow :=
  { page := 0x14, off := 0x8B0, acc := .ro }

/-- RO. Barrier status of the selected entry -/
def MT_GSTAT : RegRow :=
  { page := 0x14, off := 0x8B4, acc := .ro }

/-- RO. Course of the open barrier, or of the next barrier expected -/
def MT_GCOURSE : RegRow :=
  { page := 0x14, off := 0x8B8, acc := .ro }

/-- RO. Result Vv [63:32] of the latest release -/
def MT_GRES_HI : RegRow :=
  { page := 0x14, off := 0x8C0, acc := .ro, cnt := 8, stride := 8 }

/-- RO. Result Vv [31:0] -/
def MT_GRES_LO : RegRow :=
  { page := 0x14, off := 0x8C4, acc := .ro, cnt := 8, stride := 8 }

/-- RO. [31] DET; [23:16] SAT; [15:0] F15 to F0 of the latest release -/
def MT_GRFLAG : RegRow :=
  { page := 0x14, off := 0x900, acc := .ro }

/-- RS. T_rel of the latest release, [63:32]. Latches MT_GTREL_NSHI and MT_GTREL_FRAC. -/
def MT_GTREL_NSLO : RegRow :=
  { page := 0x14, off := 0x904, acc := .rs }

/-- RO. T_rel [95:64] -/
def MT_GTREL_NSHI : RegRow :=
  { page := 0x14, off := 0x908, acc := .ro }

/-- RO. T_rel [31:0] -/
def MT_GTREL_FRAC : RegRow :=
  { page := 0x14, off := 0x90C, acc := .ro }

/-- The rows of page 0x14. -/
def page14 : List RegRow :=
  [MT_GSEL, MT_SATCFG, MT_QOCC, MT_COMPL, MT_NFCNT, MT_GCFG,
   MT_GLANE, MT_GFIN, MT_GK_LO, MT_GK_HI, MT_GLEAD, MT_GDPATH,
   MT_GLSCFG, MT_GLSSCALE, MT_GLSSTATE, MT_GSTAT, MT_GCOURSE, MT_GRES_HI,
   MT_GRES_LO, MT_GRFLAG, MT_GTREL_NSLO, MT_GTREL_NSHI, MT_GTREL_FRAC]

/-- RO. [12:0] entries not FREE -/
def GR_NENT : RegRow :=
  { page := 0x15, off := 0x040, acc := .ro }

/-- RW. [11:0] group ID for GR_LGEN, banked per master -/
def GR_LGSEL : RegRow :=
  { page := 0x15, off := 0x044, acc := .rw, take := 0x00000FFF, banked := true }

/-- RO. [16] SEEN; [15:0] last generation of that ID, under R278 -/
def GR_LGEN : RegRow :=
  { page := 0x15, off := 0x048, acc := .ro }

/-- RW. [11:0] group ID to find, banked per master -/
def GR_FINDGID : RegRow :=
  { page := 0x15, off := 0x04C, acc := .rw, take := 0x00000FFF, banked := true }

/-- RO. [31] FOUND; [11:0] entry index holding that ID in a state other than FREE -/
def GR_FINDIDX : RegRow :=
  { page := 0x15, off := 0x050, acc := .ro }

/-- RC. Stale discards, all reasons; saturates -/
def GR_STALECNT : RegRow :=
  { page := 0x15, off := 0x054, acc := .rc }

/-- RW. [31] VALID; [27:16] GID, which is RO in a hub; [15:0] GEN. Writable in FREE and OPEN only. -/
def GR_GKEY : RegRow :=
  { page := 0x15, off := 0x400, acc := .rw, take := 0x8FFFFFFF, sel := .chan }

/-- RW. Mode fields; writable in OPEN only -/
def GR_GMODE : RegRow :=
  { page := 0x15, off := 0x404, acc := .rw, take := 0xF3000006, sel := .chan }

/-- RW. [24:0] declared member count; writable in OPEN only -/
def GR_GDECL : RegRow :=
  { page := 0x15, off := 0x408, acc := .rw, take := 0x01FFFFFF, sel := .chan }

/-- RW. Bit n: port n listed, for ports 0–31. Hub only. Changed after SEAL only by R281. -/
def GR_GPMAP0 : RegRow :=
  { page := 0x15, off := 0x40C, acc := .rw, take := 0xFFFFFFFF, sel := .chan, roles := .hub }

/-- RW. Ports 32–63. Hub only. -/
def GR_GPMAP1 : RegRow :=
  { page := 0x15, off := 0x410, acc := .rw, take := 0xFFFFFFFF, sel := .chan, roles := .hub }

/-- RO. Entry status -/
def GR_GSTAT : RegRow :=
  { page := 0x15, off := 0x414, acc := .ro, sel := .chan }

/-- RO. [15:8] FSUP received; [7:0] FEN -/
def GR_GFEAT : RegRow :=
  { page := 0x15, off := 0x418, acc := .ro, sel := .chan }

/-- RO. [24:0] census sum; at a die, its own COUNT -/
def GR_GCOUNT : RegRow :=
  { page := 0x15, off := 0x41C, acc := .ro, sel := .chan }

/-- RW. [27:24] TLEVEL; [23:0] TARGET; banked per master -/
def GR_GCARG0 : RegRow :=
  { page := 0x15, off := 0x420, acc := .rw, take := 0x0FFFFFFF, sel := .chan, banked := true }

/-- RW. Course N, banked per master -/
def GR_GCARG1 : RegRow :=
  { page := 0x15, off := 0x424, acc := .rw, take := 0xFFFFFFFF, sel := .chan, banked := true }

/-- RW. [24:0] NMEM, banked per master -/
def GR_GCARG2 : RegRow :=
  { page := 0x15, off := 0x428, acc := .rw, take := 0x01FFFFFF, sel := .chan, banked := true }

/-- WO. [31:28] OP; [27:24] PRUNE; [15:0] GEN -/
def GR_GCMD : RegRow :=
  { page := 0x15, off := 0x42C, acc := .wo, sel := .chan }

/-- RO. [31] VALID; [25:0] pending change, signed -/
def GR_GPEND : RegRow :=
  { page := 0x15, off := 0x430, acc := .ro, sel := .chan }

/-- RO. Course of the pending change -/
def GR_GPCRS : RegRow :=
  { page := 0x15, off := 0x434, acc := .ro, sel := .chan }

/-- RO. Admission course. Die only. -/
def GR_GADMC : RegRow :=
  { page := 0x15, off := 0x438, acc := .ro, sel := .chan, roles := .die }

/-- RO. Expulsion course. Die only. -/
def GR_GEXPC : RegRow :=
  { page := 0x15, off := 0x43C, acc := .ro, sel := .chan, roles := .die }

/-- RW. [5:0] port for GR_GPCNT, banked per master. Hub only. -/
def GR_GPSEL : RegRow :=
  { page := 0x15, off := 0x440, acc := .rw, take := 0x0000003F, sel := .chan, banked := true, roles := .hub }

/-- RO. [31] LISTED; [30] ARRIVE: an arrival from that port is expected for the hub's open barrier or, with none open, for the barrier after the latest release (R223, R281); [24:0] latest COUNT from that port. Hub only. -/
def GR_GPCNT : RegRow :=
  { page := 0x15, off := 0x444, acc := .ro, sel := .chan, roles := .hub }

/-- RO. [6:0] µs of quarantine left -/
def GR_GQUAR : RegRow :=
  { page := 0x15, off := 0x448, acc := .ro, sel := .chan }

/-- The rows of page 0x15. -/
def page15 : List RegRow :=
  [GR_NENT, GR_LGSEL, GR_LGEN, GR_FINDGID, GR_FINDIDX, GR_STALECNT,
   GR_GKEY, GR_GMODE, GR_GDECL, GR_GPMAP0, GR_GPMAP1, GR_GSTAT,
   GR_GFEAT, GR_GCOUNT, GR_GCARG0, GR_GCARG1, GR_GCARG2, GR_GCMD,
   GR_GPEND, GR_GPCRS, GR_GADMC, GR_GEXPC, GR_GPSEL, GR_GPCNT,
   GR_GQUAR]

/-- RW. [15:0] semaphore index, banked per master under R44. A value above 49,151 is refused, keeps the old value and is reported as SEM_RANGE. -/
def SG_SEL : RegRow :=
  { page := 0x18, off := 0x040, acc := .rw, take := 0x0000FFFF, banked := true }

/-- RW. [31] ORD; [30] GVALID; [23:16] GROUP, a GR entry index; [7:0] NRANK, where 0 means 256. Refused while waiters exist, under R254. -/
def SG_SCFG : RegRow :=
  { page := 0x18, off := 0x044, acc := .rw, take := 0xC0FF00FF, sel := .by 0x040 16 }

/-- RW. [15:0] count of the selected semaphore -/
def SG_SCNT : RegRow :=
  { page := 0x18, off := 0x048, acc := .rw, take := 0x0000FFFF, sel := .by 0x040 16 }

/-- RO. [31] WAITERS; [26:16] NWAIT, blocked waiters; [7:0] NEXT, the next rank -/
def SG_SSTAT : RegRow :=
  { page := 0x18, off := 0x04C, acc := .ro }

/-- W1S. [1] SETEVENT; [0] RSTNEXT, next rank := 0; both self-clearing, executed on the shared port -/
def SG_SCMD : RegRow :=
  { page := 0x18, off := 0x050, acc := .w1s }

/-- WO. [15:0] n, where 0 means 1: SIGNAL on the shared port -/
def SG_SSIG : RegRow :=
  { page := 0x18, off := 0x054, acc := .wo }

/-- RO. [10:0] last granted agent -/
def SG_SLAST : RegRow :=
  { page := 0x18, off := 0x058, acc := .ro, rst := 0x0000041F }

/-- RW. [10:0] agent, banked per master. A value above 1,055 is refused and reported as SEM_RANGE. -/
def SG_WSEL : RegRow :=
  { page := 0x18, off := 0x060, acc := .rw, take := 0x000007FF, banked := true }

/-- RS. [31] WAITING; [30] DIR; [29] ORD; [15:0] semaphore. Latches SG_WST1 and SG_WST2. -/
def SG_WST0 : RegRow :=
  { page := 0x18, off := 0x064, acc := .rs }

/-- RO. [31:24] RANK; [23:16] TAG; [15:0] N -/
def SG_WST1 : RegRow :=
  { page := 0x18, off := 0x068, acc := .ro }

/-- RO. Wait age in µs; saturates -/
def SG_WST2 : RegRow :=
  { page := 0x18, off := 0x06C, acc := .ro }

/-- RO. [26:16] peak since main reset; [10:0] directed credits in use -/
def SG_DIRUSE : RegRow :=
  { page := 0x18, off := 0x070, acc := .ro }

/-- RO. [6:0] core request queue occupancy -/
def SG_RQOCC : RegRow :=
  { page := 0x18, off := 0x074, acc := .ro }

/-- RC. Operations executed on both ports; saturates -/
def SG_OPS : RegRow :=
  { page := 0x18, off := 0x078, acc := .rc }

/-- RO. Word k, bit n: agent 32k + n has a blocked wait -/
def SG_WMAP : RegRow :=
  { page := 0x18, off := 0x080, acc := .ro, cnt := 33, stride := 4 }

/-- The rows of page 0x18. -/
def page18 : List RegRow :=
  [SG_SEL, SG_SCFG, SG_SCNT, SG_SSTAT, SG_SCMD, SG_SSIG,
   SG_SLAST, SG_WSEL, SG_WST0, SG_WST1, SG_WST2, SG_DIRUSE,
   SG_RQOCC, SG_OPS, SG_WMAP]

/-- RW. [11:0] gate-table entry, banked per master -/
def GT_SEL : RegRow :=
  { page := 0x19, off := 0x040, acc := .rw, take := 0x00000FFF, banked := true }

/-- RW. [31] VALID; [23:0] DEST -/
def GT_EDST : RegRow :=
  { page := 0x19, off := 0x044, acc := .rw, take := 0x80FFFFFF, sel := .by 0x040 12 }

/-- RW. [23:16] GROUP; [15:0] SEM -/
def GT_ESEM : RegRow :=
  { page := 0x19, off := 0x048, acc := .rw, take := 0x00FFFFFF, sel := .by 0x040 12 }

/-- RW. [11:0] CHAN -/
def GT_ECHAN : RegRow :=
  { page := 0x19, off := 0x04C, acc := .rw, take := 0x00000FFF, sel := .by 0x040 12 }

/-- RWL. [19:0] STALL in µs under R263; 0 is taken as 1 -/
def GT_CFG : RegRow :=
  { page := 0x19, off := 0x050, acc := .rwl, rst := 0x000003E8, take := 0x000FFFFF, rwl := 0x000FFFFF }

/-- RO. [25:16] peak since main reset; [9:0] pending entries now -/
def GT_POCC : RegRow :=
  { page := 0x19, off := 0x054, acc := .ro }

/-- RO. [6:0] staging-queue occupancy -/
def GT_STAGE : RegRow :=
  { page := 0x19, off := 0x058, acc := .ro }

/-- RC. RSIG cells sent, all groups; saturates -/
def GT_SENT : RegRow :=
  { page := 0x19, off := 0x05C, acc := .rc }

/-- RC. RSIG cells taken into the pending buffer; saturates -/
def GT_RECV : RegRow :=
  { page := 0x19, off := 0x060, acc := .rc }

/-- RC. Remote signals executed; saturates -/
def GT_RELS : RegRow :=
  { page := 0x19, off := 0x064, acc := .rc }

/-- RO. Age in µs of the oldest pending entry; saturates -/
def GT_OLDEST : RegRow :=
  { page := 0x19, off := 0x068, acc := .ro }

/-- RW. [8:0] pending entry, banked per master -/
def GT_PSEL : RegRow :=
  { page := 0x19, off := 0x070, acc := .rw, take := 0x000001FF, banked := true }

/-- RS. [31] VALID; [30] STALLED; [29] DIR; [23:0] SRC. Latches GT_PENT1 to GT_PENT3. -/
def GT_PENT0 : RegRow :=
  { page := 0x19, off := 0x074, acc := .rs }

/-- RO. GATE -/
def GT_PENT1 : RegRow :=
  { page := 0x19, off := 0x078, acc := .ro }

/-- RO. [27:16] CHAN; [15:0] SEM -/
def GT_PENT2 : RegRow :=
  { page := 0x19, off := 0x07C, acc := .ro }

/-- RO. Latest rx seen for (SRC, CHAN) -/
def GT_PENT3 : RegRow :=
  { page := 0x19, off := 0x080, acc := .ro }

/-- The rows of page 0x19. -/
def page19 : List RegRow :=
  [GT_SEL, GT_EDST, GT_ESEM, GT_ECHAN, GT_CFG, GT_POCC,
   GT_STAGE, GT_SENT, GT_RECV, GT_RELS, GT_OLDEST, GT_PSEL,
   GT_PENT0, GT_PENT1, GT_PENT2, GT_PENT3]

/-- RWL. [31] EN; [23:16] LPER in µs, where 0 is taken as 1; [15:0] GPER in µs, where 0 is taken as 1 -/
def DL_CFG : RegRow :=
  { page := 0x1A, off := 0x040, acc := .rwl, rst := 0x80400064, take := 0x80FFFFFF, rwl := 0x80FFFFFF }

/-- RW. [7:0] group entry index, banked per master -/
def DL_GSEL : RegRow :=
  { page := 0x1A, off := 0x044, acc := .rw, take := 0x000000FF, banked := true }

/-- RW. [31] EN; [10:0] NAGENT -/
def DL_GCFG : RegRow :=
  { page := 0x1A, off := 0x048, acc := .rw, take := 0x800007FF, sel := .by 0x044 8 }

/-- RO. [31] LCOND, the local condition now; [30] LQUIET, held across the last two samples; [29] DEADLOCK; [28] GLOBAL, the apex is a hub; [26:16] STALLED -/
def DL_GSTAT : RegRow :=
  { page := 0x1A, off := 0x04C, acc := .ro }

/-- RO. Activity counter; wraps -/
def DL_GACT : RegRow :=
  { page := 0x1A, off := 0x050, acc := .ro }

/-- RO. RSIG cells of the group sent; wraps -/
def DL_GSENT : RegRow :=
  { page := 0x1A, off := 0x054, acc := .ro }

/-- RO. RSIG cells of the group received; wraps -/
def DL_GRECV : RegRow :=
  { page := 0x1A, off := 0x058, acc := .ro }

/-- RO. [31:16] epoch of the latest verdict received; [15:0] epoch of the latest probe sent -/
def DL_GEPOCH : RegRow :=
  { page := 0x1A, off := 0x05C, acc := .ro }

/-- RO. [31:16] episodes, saturating; [15:0] epoch of the latest global detection -/
def DL_GDET : RegRow :=
  { page := 0x1A, off := 0x060, acc := .ro }

/-- RO. Word k, bit n: group entry 32k + n has DEADLOCK set -/
def DL_DMAP : RegRow :=
  { page := 0x1A, off := 0x064, acc := .ro, cnt := 8, stride := 4 }

/-- The rows of page 0x1A. -/
def page1A : List RegRow :=
  [DL_CFG, DL_GSEL, DL_GCFG, DL_GSTAT, DL_GACT, DL_GSENT,
   DL_GRECV, DL_GEPOCH, DL_GDET, DL_DMAP]

/-- RW. [19:0] RATE window in ppb; R299, R300 -/
def GD_RATEWIN : RegRow :=
  { page := 0x1C, off := 0x040, acc := .rw, rst := 0x0003D090, take := 0x000FFFFF }

/-- RW. [19:0] slew in ppb per 1 ms; R299, R300 -/
def GD_RATESLEW : RegRow :=
  { page := 0x1C, off := 0x044, acc := .rw, rst := 0x00001388, take := 0x000FFFFF }

/-- RW. [15:0] step bound in ps; R299, R70 -/
def GD_STEPLIM : RegRow :=
  { page := 0x1C, off := 0x048, acc := .rw, rst := 0x00001F40, take := 0x0000FFFF }

/-- RW. [31:16] TSPACE in ps; [15:0] TWMIN in ps; R299, R302 -/
def GD_TRIGLIM : RegRow :=
  { page := 0x1C, off := 0x04C, acc := .rw, rst := 0x1F4001F4, take := 0xFFFFFFFF }

/-- RW. [31:16] POSPACE in ns; [15:0] POWID in ns; R299, R188 -/
def GD_POLIM : RegRow :=
  { page := 0x1C, off := 0x050, acc := .rw, rst := 0x00080008, take := 0xFFFFFFFF }

/-- RW. [19:16] WD_MAX; [15:0] PERIOD in ms, where 0 is taken as 1; R299, R312 -/
def GD_WDCFG : RegRow :=
  { page := 0x1C, off := 0x054, acc := .rw, rst := 0x00030032, take := 0x000FFFFF }

/-- WO. [0] KICK; controller firmware only -/
def GD_WDKICK : RegRow :=
  { page := 0x1C, off := 0x058, acc := .wo, rights := .fw }

/-- RO. [23:16] EXPIRIES; [15:0] ms remaining -/
def GD_WDSTAT : RegRow :=
  { page := 0x1C, off := 0x05C, acc := .ro }

/-- RW. Window base [31:0]; host port only -/
def GD_MWBASE_LO : RegRow :=
  { page := 0x1C, off := 0x060, acc := .rw, take := 0xFFFFFFFF, rights := .host }

/-- RW. Window base [63:32]; host port only -/
def GD_MWBASE_HI : RegRow :=
  { page := 0x1C, off := 0x064, acc := .rw, take := 0xFFFFFFFF, rights := .host }

/-- RW. Window limit [31:0], exclusive; host port only -/
def GD_MWLIM_LO : RegRow :=
  { page := 0x1C, off := 0x068, acc := .rw, take := 0xFFFFFFFF, rights := .host }

/-- RW. Window limit [63:32]; host port only -/
def GD_MWLIM_HI : RegRow :=
  { page := 0x1C, off := 0x06C, acc := .rw, take := 0xFFFFFFFF, rights := .host }

/-- RW. [11:0] entry index; host port only -/
def GD_OVRSEL : RegRow :=
  { page := 0x1C, off := 0x070, acc := .rw, take := 0x00000FFF, rights := .host }

/-- WO. [31:16] KEY; [15:0] GEN; host port only; R303 -/
def GD_OVR : RegRow :=
  { page := 0x1C, off := 0x074, acc := .wo, rights := .host }

/-- RO. Overrides since main reset; saturates -/
def GD_OVRCNT : RegRow :=
  { page := 0x1C, off := 0x078, acc := .ro }

/-- RO. [31:30] master; [17:0] address of the latest refusal -/
def GD_LASTREF : RegRow :=
  { page := 0x1C, off := 0x07C, acc := .ro }

/-- RO. Value refused -/
def GD_LASTVAL : RegRow :=
  { page := 0x1C, off := 0x080, acc := .ro }

/-- The rows of page 0x1C. -/
def page1C : List RegRow :=
  [GD_RATEWIN, GD_RATESLEW, GD_STEPLIM, GD_TRIGLIM, GD_POLIM, GD_WDCFG,
   GD_WDKICK, GD_WDSTAT, GD_MWBASE_LO, GD_MWBASE_HI, GD_MWLIM_LO, GD_MWLIM_HI,
   GD_OVRSEL, GD_OVR, GD_OVRCNT, GD_LASTREF, GD_LASTVAL]

/-- RWL. [19:0] wait time-out in µs; 0 disables -/
def HG_WAITTMO : RegRow :=
  { page := 0x1D, off := 0x040, acc := .rwl, rst := 0x00002710, take := 0x000FFFFF, rwl := 0x000FFFFF }

/-- RWL. [19:0] sequencer watchdog in µs; 0 disables -/
def HG_SQWD : RegRow :=
  { page := 0x1D, off := 0x044, acc := .rwl, rst := 0x000003E8, take := 0x000FFFFF, rwl := 0x000FFFFF }

/-- RWL. [31:16] RTMO in µs, 10 to 10,000; [15:0] ETMO in µs, 1 to 1,000. Values out of range are taken as the nearest limit. -/
def HG_RSTCFG : RegRow :=
  { page := 0x1D, off := 0x048, acc := .rwl, rst := 0x03E80064, take := 0xFFFFFFFF, rwl := 0xFFFFFFFF }

/-- RWL. [7:6] SQWD; [5:4] WAIT; [3:2] OVERRUN; [1:0] HB; codes under R319 -/
def HG_ACT : RegRow :=
  { page := 0x1D, off := 0x04C, acc := .rwl, rst := 0x00000056, take := 0x000000FF, rwl := 0x000000FF }

/-- RW. [9:0] engine, banked per master -/
def HG_ESEL : RegRow :=
  { page := 0x1D, off := 0x050, acc := .rw, take := 0x000003FF, banked := true }

/-- RWL. [31] HBEN; [30] WATCH; [19:0] HBTMO in µs, where 0 is taken as 1 and values above 1,000,000 as 1,000,000 -/
def HG_ECFG : RegRow :=
  { page := 0x1D, off := 0x054, acc := .rwl, rst := 0x000003E8, take := 0xC00FFFFF, rwl := 0xC00FFFFF, sel := .by 0x050 10 }

/-- RO. [31] BUSY, done low; [30] HBTO; [29:27] RSTATE: 0 normal, 1 engine reset pending, 2 region reset pending, 3 fenced; [19:0] µs since the last heartbeat, saturating -/
def HG_ESTAT : RegRow :=
  { page := 0x1D, off := 0x058, acc := .ro }

/-- RW. [2:0] log entry, 0 newest; banked per master -/
def HG_ELSEL : RegRow :=
  { page := 0x1D, off := 0x05C, acc := .rw, take := 0x00000007, banked := true }

/-- RS. Context word. Latches HG_ELSTART and HG_ELDONE. -/
def HG_ELCTX : RegRow :=
  { page := 0x1D, off := 0x060, acc := .rs }

/-- RO. T[63:32] of start -/
def HG_ELSTART : RegRow :=
  { page := 0x1D, off := 0x064, acc := .ro }

/-- RO. T[63:32] of done; 0xFFFF_FFFF while not done -/
def HG_ELDONE : RegRow :=
  { page := 0x1D, off := 0x068, acc := .ro, rst := 0xFFFFFFFF }

/-- RW. [4:0] thread, banked per master -/
def HG_TSEL : RegRow :=
  { page := 0x1D, off := 0x070, acc := .rw, take := 0x0000001F, banked := true }

/-- RWL. [31] EN; [23:0] deadline in µs after the base -/
def HG_TDEADLINE : RegRow :=
  { page := 0x1D, off := 0x074, acc := .rwl, take := 0x80FFFFFF, rwl := 0x80FFFFFF, sel := .by 0x070 5 }

/-- W1S. [3] SOLO_ABORT; [2] SOLO; [1] UNFENCE, host port and remote management only; [0] ERESET. Each self-clearing. -/
def HG_CMD : RegRow :=
  { page := 0x1D, off := 0x078, acc := .w1s }

/-- RWL. [31] PROLOG; [20:16] THREAD; [13:0] SOLO_PC -/
def HG_SOLOCFG : RegRow :=
  { page := 0x1D, off := 0x07C, acc := .rwl, take := 0x801F3FFF, rwl := 0x801F3FFF }

/-- RWL. [19:0] per-suspect time-out in µs; 0 uses HBTMO -/
def HG_SOLOTMO : RegRow :=
  { page := 0x1D, off := 0x080, acc := .rwl, take := 0x000FFFFF, rwl := 0x000FFFFF }

/-- RO. [31] RUN; [30] DONE; [21:16] current suspect; [6:0] hangs found -/
def HG_SOLOSTAT : RegRow :=
  { page := 0x1D, off := 0x084, acc := .ro }

/-- RWL. [19:0] hang window in µs -/
def HG_SUSWIN : RegRow :=
  { page := 0x1D, off := 0x088, acc := .rwl, rst := 0x00000064, take := 0x000FFFFF, rwl := 0x000FFFFF }

/-- RO. [7] TRUNC; [6:0] suspects, 0 to 64 -/
def HG_SUSCNT : RegRow :=
  { page := 0x1D, off := 0x08C, acc := .ro }

/-- RW. [5:0] suspect, banked per master -/
def HG_SUSSEL : RegRow :=
  { page := 0x1D, off := 0x090, acc := .rw, take := 0x0000003F, banked := true }

/-- RS. Context word. Latches HG_SUSENG and HG_SUSRES. -/
def HG_SUSCTX : RegRow :=
  { page := 0x1D, off := 0x094, acc := .rs }

/-- RO. [25:16] trigger line; [9:0] engine -/
def HG_SUSENG : RegRow :=
  { page := 0x1D, off := 0x098, acc := .ro }

/-- RO. [1:0] 0 not run, 1 pass, 2 hang, 3 skipped -/
def HG_SUSRES : RegRow :=
  { page := 0x1D, off := 0x09C, acc := .ro }

/-- RC. Cells discarded while fenced; saturates -/
def HG_FDISC : RegRow :=
  { page := 0x1D, off := 0x0A0, acc := .rc }

/-- RO. T[63:32] of the latest fence -/
def HG_FENCET : RegRow :=
  { page := 0x1D, off := 0x0A4, acc := .ro }

/-- RO. Word k, bit n: engine 32k + n has RSTATE ≠ 0 -/
def HG_TOMAP : RegRow :=
  { page := 0x1D, off := 0x0B0, acc := .ro, cnt := 32, stride := 4 }

/-- The rows of page 0x1D. -/
def page1D : List RegRow :=
  [HG_WAITTMO, HG_SQWD, HG_RSTCFG, HG_ACT, HG_ESEL, HG_ECFG,
   HG_ESTAT, HG_ELSEL, HG_ELCTX, HG_ELSTART, HG_ELDONE, HG_TSEL,
   HG_TDEADLINE, HG_CMD, HG_SOLOCFG, HG_SOLOTMO, HG_SOLOSTAT, HG_SUSWIN,
   HG_SUSCNT, HG_SUSSEL, HG_SUSCTX, HG_SUSENG, HG_SUSRES, HG_FDISC,
   HG_FENCET, HG_TOMAP]

/-- RWL. [31] MEN: mirror to host memory -/
def CP_CFG : RegRow :=
  { page := 0x1E, off := 0x040, acc := .rwl, take := 0x80000000, rwl := 0x80000000 }

/-- RW. Mirror base [31:0]; [11:0] ignored -/
def CP_MBASE_LO : RegRow :=
  { page := 0x1E, off := 0x044, acc := .rw, take := 0xFFFFFFFF }

/-- RW. Mirror base [63:32] -/
def CP_MBASE_HI : RegRow :=
  { page := 0x1E, off := 0x048, acc := .rw, take := 0xFFFFFFFF }

/-- W1S. [1] RELEASE; [0] TAKE; self-clearing -/
def CP_CMD : RegRow :=
  { page := 0x1E, off := 0x04C, acc := .w1s }

/-- RO. Capsules taken since main reset -/
def CP_SEQ : RegRow :=
  { page := 0x1E, off := 0x050, acc := .ro }

/-- RW. [31] AUTOINC; [15:0] word index; banked per master -/
def CP_RADDR : RegRow :=
  { page := 0x1E, off := 0x054, acc := .rw, take := 0x8000FFFF, banked := true }

/-- RS. Word at CP_RADDR, then CP_RADDR := CP_RADDR + 1 when AUTOINC = 1. Latches nothing. -/
def CP_RDATA : RegRow :=
  { page := 0x1E, off := 0x058, acc := .rs }

/-- RC. Requests refused under R324; saturates -/
def CP_DROP : RegRow :=
  { page := 0x1E, off := 0x05C, acc := .rc }

/-- The rows of page 0x1E. -/
def page1E : List RegRow :=
  [CP_CFG, CP_MBASE_LO, CP_MBASE_HI, CP_CMD, CP_SEQ, CP_RADDR,
   CP_RDATA, CP_DROP]

/-- RO. Records written since AON power-on; wraps -/
def EV_WRSEQ : RegRow :=
  { page := 0x1F, off := 0x040, acc := .ro }

/-- RW. Sequence of the next record software has not read -/
def EV_RDSEQ : RegRow :=
  { page := 0x1F, off := 0x044, acc := .rw, take := 0xFFFFFFFF }

/-- RW. [11:0] ring slot, banked per master -/
def EV_RSEL : RegRow :=
  { page := 0x1F, off := 0x048, acc := .rw, take := 0x00000FFF, banked := true }

/-- RS. Word R0 of the slot. Latches EV_R1 to EV_R7. -/
def EV_R0 : RegRow :=
  { page := 0x1F, off := 0x04C, acc := .rs }

/-- RO. Words R1 to R7 -/
def EV_R : RegRow :=
  { page := 0x1F, off := 0x050, acc := .ro, cnt := 7, stride := 4 }

/-- RW. Next record to mirror to NOR; controller firmware only -/
def EV_MIRSEQ : RegRow :=
  { page := 0x1F, off := 0x06C, acc := .rw, take := 0xFFFFFFFF, rights := .fw }

/-- RO. Operating time in s -/
def EV_OPTIME : RegRow :=
  { page := 0x1F, off := 0x070, acc := .ro }

/-- RO. [23:0] power-cycle count -/
def EV_PCYC : RegRow :=
  { page := 0x1F, off := 0x074, acc := .ro }

/-- RW. Saved operating time, banked per master -/
def EV_RSTOPT : RegRow :=
  { page := 0x1F, off := 0x078, acc := .rw, take := 0xFFFFFFFF, banked := true }

/-- WO. [23:0] saved count; the write restores under R338. Host port and controller firmware only. -/
def EV_RSTPC : RegRow :=
  { page := 0x1F, off := 0x07C, acc := .wo, rights := .hostFw }

/-- RWL. [31] EN; [4:0] LOG2N, 8 to 16 -/
def EV_HMCFG : RegRow :=
  { page := 0x1F, off := 0x080, acc := .rwl, take := 0x8000001F, rwl := 0x8000001F }

/-- RW. Host ring base [31:0]; [4:0] ignored -/
def EV_HMBASE_LO : RegRow :=
  { page := 0x1F, off := 0x084, acc := .rw, take := 0xFFFFFFFF }

/-- RW. Host ring base [63:32] -/
def EV_HMBASE_HI : RegRow :=
  { page := 0x1F, off := 0x088, acc := .rw, take := 0xFFFFFFFF }

/-- RO. Records written to host memory; wraps -/
def EV_HMSEQ : RegRow :=
  { page := 0x1F, off := 0x08C, acc := .ro }

/-- RWL. [31] UPEN, die only; [2:0] UPSEV -/
def EV_UPCFG : RegRow :=
  { page := 0x1F, off := 0x090, acc := .rwl, rst := 0x00000003, take := 0x80000007, rwl := 0x80000007 }

/-- RS. Pops one upload: [31] VALID; [23:0] member. Latches EV_UQ1 to EV_UQ8. Hub. -/
def EV_UQ0 : RegRow :=
  { page := 0x1F, off := 0x094, acc := .rs, roles := .hub }

/-- RO. Words R0 to R7 of the upload. Hub. -/
def EV_UQ : RegRow :=
  { page := 0x1F, off := 0x098, acc := .ro, cnt := 8, stride := 4, roles := .hub }

/-- RW. [15:0] code written; [18:16] its severity, read-only -/
def EV_SEVQ : RegRow :=
  { page := 0x1F, off := 0x0B8, acc := .rw, take := 0x0000FFFF }

/-- The rows of page 0x1F. -/
def page1F : List RegRow :=
  [EV_WRSEQ, EV_RDSEQ, EV_RSEL, EV_R0, EV_R, EV_MIRSEQ,
   EV_OPTIME, EV_PCYC, EV_RSTOPT, EV_RSTPC, EV_HMCFG, EV_HMBASE_LO,
   EV_HMBASE_HI, EV_HMSEQ, EV_UPCFG, EV_UQ0, EV_UQ, EV_SEVQ]

/-- RW. [0] FRZ under R347 -/
def MN_FREEZE : RegRow :=
  { page := 0x20, off := 0x040, acc := .rw, take := 0x00000001 }

/-- W1S. [2] CANCEL; [1] ARM; [0] NOW; each self-clearing -/
def MN_SNAPCTL : RegRow :=
  { page := 0x20, off := 0x044, acc := .w1s }

/-- RW. T_s[31:0] -/
def MN_SNAPT_FRAC : RegRow :=
  { page := 0x20, off := 0x048, acc := .rw, take := 0xFFFFFFFF }

/-- RW. T_s[63:32] -/
def MN_SNAPT_NSLO : RegRow :=
  { page := 0x20, off := 0x04C, acc := .rw, take := 0xFFFFFFFF }

/-- RW. T_s[95:64]; reads the armed T_s while ARMED = 1 -/
def MN_SNAPT_NSHI : RegRow :=
  { page := 0x20, off := 0x050, acc := .rw, take := 0xFFFFFFFF }

/-- RO. Snapshots since main reset; wraps -/
def MN_SNAPSEQ : RegRow :=
  { page := 0x20, off := 0x054, acc := .ro }

/-- RS. Time of the latest snapshot [31:0]. Latches MN_SNAPAT_NSLO, MN_SNAPAT_NSHI. -/
def MN_SNAPAT_FRAC : RegRow :=
  { page := 0x20, off := 0x058, acc := .rs }

/-- RO. [63:32] -/
def MN_SNAPAT_NSLO : RegRow :=
  { page := 0x20, off := 0x05C, acc := .ro }

/-- RO. [95:64] -/
def MN_SNAPAT_NSHI : RegRow :=
  { page := 0x20, off := 0x060, acc := .ro }

/-- RW. [31] AUTOINC; [30] ASRC; [8:0] counter. Banked per master. With AUTOINC, a read of MN_CVAL_HI (ASRC = 0) or MN_CSNAP_HI (ASRC = 1) advances the counter modulo 512. -/
def MN_CSEL : RegRow :=
  { page := 0x20, off := 0x068, acc := .rw, take := 0xC00001FF, banked := true }

/-- RW. [27:16] EVNUM; [15] QEN; [11:0] QUAL; a write zeros the counter (R343) -/
def MN_CCFG : RegRow :=
  { page := 0x20, off := 0x06C, acc := .rw, take := 0x0FFF8FFF, sel := .by 0x068 9, rstIdx := true }

/-- RS. Live count [31:0]. Latches MN_CVAL_HI. -/
def MN_CVAL_LO : RegRow :=
  { page := 0x20, off := 0x070, acc := .rs }

/-- RO. Live count [63:32] -/
def MN_CVAL_HI : RegRow :=
  { page := 0x20, off := 0x074, acc := .ro }

/-- RS. Snapshot count [31:0]. Latches MN_CSNAP_HI. -/
def MN_CSNAP_LO : RegRow :=
  { page := 0x20, off := 0x078, acc := .rs }

/-- RO. Snapshot count [63:32] -/
def MN_CSNAP_HI : RegRow :=
  { page := 0x20, off := 0x07C, acc := .ro }

/-- W1S. [1] CLRALL; [0] CLR; self-clearing -/
def MN_CCMD : RegRow :=
  { page := 0x20, off := 0x080, acc := .w1s }

/-- RW. [3:0] pin counter, banked per master -/
def MN_PSEL : RegRow :=
  { page := 0x20, off := 0x084, acc := .rw, take := 0x0000000F, banked := true }

/-- RW. [30:28] MODE; [15:0] SRC, under R348 -/
def MN_PCFG : RegRow :=
  { page := 0x20, off := 0x088, acc := .rw, take := 0x7000FFFF, sel := .by 0x084 4 }

/-- RS. Live count [31:0]. Latches MN_PVAL_HI. -/
def MN_PVAL_LO : RegRow :=
  { page := 0x20, off := 0x08C, acc := .rs }

/-- RO. [63:32] -/
def MN_PVAL_HI : RegRow :=
  { page := 0x20, off := 0x090, acc := .ro }

/-- RS. Snapshot count [31:0]. Latches MN_PSNAP_HI. -/
def MN_PSNAP_LO : RegRow :=
  { page := 0x20, off := 0x094, acc := .rs }

/-- RO. [63:32] -/
def MN_PSNAP_HI : RegRow :=
  { page := 0x20, off := 0x098, acc := .ro }

/-- W1S. [0] CLR; self-clearing -/
def MN_PCMD : RegRow :=
  { page := 0x20, off := 0x09C, acc := .w1s }

/-- The rows of page 0x20. -/
def page20 : List RegRow :=
  [MN_FREEZE, MN_SNAPCTL, MN_SNAPT_FRAC, MN_SNAPT_NSLO, MN_SNAPT_NSHI, MN_SNAPSEQ,
   MN_SNAPAT_FRAC, MN_SNAPAT_NSLO, MN_SNAPAT_NSHI, MN_CSEL, MN_CCFG, MN_CVAL_LO,
   MN_CVAL_HI, MN_CSNAP_LO, MN_CSNAP_HI, MN_CCMD, MN_PSEL, MN_PCFG,
   MN_PVAL_LO, MN_PVAL_HI, MN_PSNAP_LO, MN_PSNAP_HI, MN_PCMD]

/-- RO. [15:0] bit n: unit n has EN = 1 -/
def HS_ENMAP : RegRow :=
  { page := 0x21, off := 0x040, acc := .ro }

/-- RW. [31] EN; [30] LOG; [29] SNAPSTOP; [23:16] SRC; [15:0] QUAL; a write empties the unit (R356) -/
def HS_UCFG : RegRow :=
  { page := 0x21, off := 0x400, acc := .rw, rst := 0x0000FFFF, take := 0xE0FFFFFF, sel := .chan }

/-- RW. B, signed, in the source unit -/
def HS_UBASE : RegRow :=
  { page := 0x21, off := 0x404, acc := .rw, take := 0xFFFFFFFF, sel := .chan }

/-- RW. [23:0] W; 0 is taken as 1 -/
def HS_UWIDTH : RegRow :=
  { page := 0x21, off := 0x408, acc := .rw, rst := 0x00000001, take := 0x00FFFFFF, sel := .chan }

/-- RO. [31] RUN; [30] STOPPED; [29] EMPTY, reset value 1 -/
def HS_USTAT : RegRow :=
  { page := 0x21, off := 0x40C, acc := .ro, sel := .chan }

/-- W1S. [1] RESTART; [0] CLEAR; self-clearing -/
def HS_UCMD : RegRow :=
  { page := 0x21, off := 0x410, acc := .w1s, sel := .chan }

/-- RS. Sample count [31:0]. Latches HS_NSAMP_HI. -/
def HS_NSAMP_LO : RegRow :=
  { page := 0x21, off := 0x414, acc := .rs, sel := .chan }

/-- RO. [63:32] -/
def HS_NSAMP_HI : RegRow :=
  { page := 0x21, off := 0x418, acc := .ro, sel := .chan }

/-- RS. Minimum. Latches HS_MINT_NS and HS_MINT_FRAC. -/
def HS_MIN : RegRow :=
  { page := 0x21, off := 0x41C, acc := .rs, rst := 0xFFFFFFFF, sel := .chan }

/-- RO. T[63:32] of the minimum -/
def HS_MINT_NS : RegRow :=
  { page := 0x21, off := 0x420, acc := .ro, sel := .chan }

/-- RO. T[31:0] of the minimum -/
def HS_MINT_FRAC : RegRow :=
  { page := 0x21, off := 0x424, acc := .ro, sel := .chan }

/-- RS. Maximum. Latches HS_MAXT_NS and HS_MAXT_FRAC. -/
def HS_MAX : RegRow :=
  { page := 0x21, off := 0x428, acc := .rs, sel := .chan }

/-- RO. T[63:32] of the maximum -/
def HS_MAXT_NS : RegRow :=
  { page := 0x21, off := 0x42C, acc := .ro, sel := .chan }

/-- RO. T[31:0] of the maximum -/
def HS_MAXT_FRAC : RegRow :=
  { page := 0x21, off := 0x430, acc := .ro, sel := .chan }

/-- RC. Samples dropped under R352; saturates -/
def HS_UDROP : RegRow :=
  { page := 0x21, off := 0x434, acc := .rc, sel := .chan }

/-- RO. Bin i, for i = 0 to 63, under R354 and R355 -/
def HS_BIN : RegRow :=
  { page := 0x21, off := 0x500, acc := .ro, cnt := 64, stride := 4, sel := .chan }

/-- The rows of page 0x21. -/
def page21 : List RegRow :=
  [HS_ENMAP, HS_UCFG, HS_UBASE, HS_UWIDTH, HS_USTAT, HS_UCMD,
   HS_NSAMP_LO, HS_NSAMP_HI, HS_MIN, HS_MINT_NS, HS_MINT_FRAC, HS_MAX,
   HS_MAXT_NS, HS_MAXT_FRAC, HS_UDROP, HS_BIN]

/-- RO. [11:0] VDD_AON in mV, updated every 1 ms -/
def PW_VAON : RegRow :=
  { page := 0x24, off := 0x040, acc := .ro }

/-- RO. [23:16] noise pk-pk over the last 1 ms in mV; [11:0] VDDA_TCLK in mV -/
def PW_VTCLK : RegRow :=
  { page := 0x24, off := 0x044, acc := .ro }

/-- RO. [11:0] VDD_LYS in mV -/
def PW_VLYS : RegRow :=
  { page := 0x24, off := 0x048, acc := .ro }

/-- RO. [11:0] VDDIO_T in mV -/
def PW_VIO : RegRow :=
  { page := 0x24, off := 0x04C, acc := .ro }

/-- RO. [15:0] junction temperature, signed, 0.125 °C -/
def PW_TEMP : RegRow :=
  { page := 0x24, off := 0x050, acc := .ro }

/-- RWL. [15:0] alarm limit, signed, 0.125 °C; 110 °C -/
def PW_TEMPLIM : RegRow :=
  { page := 0x24, off := 0x054, acc := .rwl, rst := 0x00000370, take := 0x0000FFFF, rwl := 0x0000FFFF }

/-- W1C. Order violations under R360 -/
def PW_ORDLOG : RegRow :=
  { page := 0x24, off := 0x058, acc := .w1c }

/-- RWL. [0] HOST_RST_COUPLE under R366 -/
def PW_RSTCFG : RegRow :=
  { page := 0x24, off := 0x05C, acc := .rwl, take := 0x00000001, rwl := 0x00000001 }

/-- RO. [3:0] cause of the latest main reset: 1 AON power-on, 2 LYS_RST_N, 3 coupled host reset, 4 VDD_LYS loss, 5 TCLK loss -/
def PW_RSTCAUSE : RegRow :=
  { page := 0x24, off := 0x060, acc := .ro, rst := 0x00000001 }

/-- W1S. [0] LANEGO under R374; self-clearing -/
def PW_BOOT : RegRow :=
  { page := 0x24, off := 0x064, acc := .w1s }

/-- RO. [2] CTRL_BOOTED; [1] CHAIN_DONE; [0] LANES_RELEASED -/
def PW_BOOTSTAT : RegRow :=
  { page := 0x24, off := 0x068, acc := .ro }

/-- RC. Beats answered with MW_ERR; saturates -/
def PW_MWERR : RegRow :=
  { page := 0x24, off := 0x06C, acc := .rc }

/-- RO. Host resets seen since main reset; saturates -/
def PW_HRSTCNT : RegRow :=
  { page := 0x24, off := 0x070, acc := .ro }

/-- The rows of page 0x24. -/
def page24 : List RegRow :=
  [PW_VAON, PW_VTCLK, PW_VLYS, PW_VIO, PW_TEMP, PW_TEMPLIM,
   PW_ORDLOG, PW_RSTCFG, PW_RSTCAUSE, PW_BOOT, PW_BOOTSTAT, PW_MWERR,
   PW_HRSTCNT]

/-- RWL. [7:0] HOTMO in ms, where 0 is taken as 1 -/
def FW_CFG : RegRow :=
  { page := 0x25, off := 0x040, acc := .rwl, rst := 0x00000032, take := 0x000000FF, rwl := 0x000000FF }

/-- W1S. [5] RELEASE, [4] HOLD: host port only. [3] COMMIT, [2] HANDOVER: controller firmware only. [1] SWITCH, [0] VERIFY: all masters. Each self-clearing. -/
def FW_CMD : RegRow :=
  { page := 0x25, off := 0x044, acc := .w1s }

/-- RO. [31] TRIAL; [16] SRC, 0 NOR, 1 SRAM-staged; [0] BANK, 0 A, 1 B -/
def FW_ACTIVE : RegRow :=
  { page := 0x25, off := 0x048, acc := .ro }

/-- RO. Bank A: [31] VERIFIED; [30] FAILED; [27:24] FAILRSN; [15:0] IMGVER -/
def FW_BSTATA : RegRow :=
  { page := 0x25, off := 0x04C, acc := .ro }

/-- RO. Bank B, as FW_BSTATA -/
def FW_BSTATB : RegRow :=
  { page := 0x25, off := 0x050, acc := .ro }

/-- RO. [15:0] minimum SVN -/
def FW_SVNMIN : RegRow :=
  { page := 0x25, off := 0x054, acc := .ro }

/-- RO. [7:4] digest revoked; [3:0] digest present, for key digests 0 to 3 -/
def FW_KEYS : RegRow :=
  { page := 0x25, off := 0x058, acc := .ro }

/-- RO. [31:24] HOBVER; [23:16] FEATLVL; [15:0] IMGVER of the running image -/
def FW_RUN : RegRow :=
  { page := 0x25, off := 0x05C, acc := .ro }

/-- RW. [31] AUTOINC; [15:0] WORD within the bank; banked per master -/
def FW_STGADDR : RegRow :=
  { page := 0x25, off := 0x060, acc := .rw, take := 0x8000FFFF, banked := true }

/-- WO. Staging data, under R311 -/
def FW_STGDATA : RegRow :=
  { page := 0x25, off := 0x064, acc := .wo }

/-- RO. [31] BUSY; [10:0] FREE, buffer bytes free -/
def FW_STGSTAT : RegRow :=
  { page := 0x25, off := 0x068, acc := .ro, rst := 0x00000400 }

/-- RW. [31] PROT, read-only; [9:0] block length in words. Controller firmware only. -/
def FW_HOBSTAT : RegRow :=
  { page := 0x25, off := 0x06C, acc := .rw, take := 0x000003FF, rights := .fw }

/-- RO. ms from the latest HANDOVER or boot to COMMIT; saturates -/
def FW_BOOTT : RegRow :=
  { page := 0x25, off := 0x070, acc := .ro }

/-- RW. Handover block, 512 words. Written by controller firmware only, and not while PROT = 1. Read by all masters. -/
def FW_HOB : RegRow :=
  { page := 0x25, off := 0x800, acc := .rw, cnt := 512, stride := 4, take := 0xFFFFFFFF, rights := .fw }

/-- The rows of page 0x25. -/
def page25 : List RegRow :=
  [FW_CFG, FW_CMD, FW_ACTIVE, FW_BSTATA, FW_BSTATB, FW_SVNMIN,
   FW_KEYS, FW_RUN, FW_STGADDR, FW_STGDATA, FW_STGSTAT, FW_HOBSTAT,
   FW_BOOTT, FW_HOB]

/-- The register rows of a page (R38, R39); a page that no role has lists none. -/
def ofPage (p : Nat) : List RegRow :=
  match p with
  | 0x00 => page00
  | 0x01 => page01
  | 0x02 => page02
  | 0x03 => page03
  | 0x04 => page04
  | 0x08 => page08
  | 0x09 => page09
  | 0x0C => page0C
  | 0x0D => page0D
  | 0x0E => page0E
  | 0x10 => page10
  | 0x11 => page11
  | 0x14 => page14
  | 0x15 => page15
  | 0x18 => page18
  | 0x19 => page19
  | 0x1A => page1A
  | 0x1C => page1C
  | 0x1D => page1D
  | 0x1E => page1E
  | 0x1F => page1F
  | 0x20 => page20
  | 0x21 => page21
  | 0x24 => page24
  | 0x25 => page25
  | _ => []

end Sys2Proof.Machine.Reg
end

