-- ==== Sys2Proof/Machine/Ops.lean ====
section
/-!
DEFINITION. Machine/Ops.lean: the named operations over the part's state that every block shares:
sparse maps, stored registers, reporting (count, flag, record), interrupt notices, histogram samples
and the wrapper in which every command runs.
-/

namespace Sys2Proof.Machine

/-! ### Sparse maps -/

namespace SMap

/-- The value at a key, or the default. -/
def find {α : Type} (m : SMap α) (k : Nat) (d : α) : α :=
  match m with
  | [] => d
  | (k', v) :: r => if k = k' then v else find r k d

/-- Whether a key is listed. -/
def has {α : Type} (m : SMap α) (k : Nat) : Bool :=
  match m with
  | [] => false
  | (k', _) :: r => if k = k' then true else has r k

/-- An entry put in key order. -/
def insert {α : Type} (m : SMap α) (k : Nat) (v : α) : SMap α :=
  match m with
  | [] => [(k, v)]
  | (k', v') :: r =>
    if k < k' then (k, v) :: (k', v') :: r
    else if k = k' then (k, v) :: r
    else (k', v') :: insert r k v

/-- A key's entry taken out. -/
def erase {α : Type} (m : SMap α) (k : Nat) : SMap α :=
  match m with
  | [] => []
  | (k', v) :: r => if k = k' then erase r k else (k', v) :: erase r k

/-- A value put at a key; writing the default takes the entry out. -/
def put {α : Type} [DecidableEq α] (m : SMap α) (k : Nat) (d v : α) : SMap α :=
  if v = d then erase m k else insert m k v

/-- Every listed value changed; one that becomes the default is taken out. -/
def update {α : Type} [DecidableEq α] (m : SMap α) (d : α) (f : Nat → α → α) : SMap α :=
  m.filterMap fun e => if f e.1 e.2 = d then none else some (e.1, f e.1 e.2)

/-- The canonical form: keys strictly rising from `lo` on. -/
def sorted {α : Type} (lo : Nat) (m : SMap α) : Bool :=
  match m with
  | [] => true
  | (k, _) :: r => decide (lo ≤ k) && sorted (k + 1) r

end SMap

/-! ### Numbers -/

/-- One 1/64 tick at the nominal rate in units of 2^-32 ns: 9.765625 ps (R8). -/
def unit64 : Nat := 41943040

/-- An integer as a 32-bit two's-complement word. -/
def wordOfInt (i : Int) : Word := BitVec.ofInt 32 i

/-- A number saturated at a width. -/
def satNat (bits n : Nat) : Nat := if n < 2 ^ bits then n else 2 ^ bits - 1

/-- The nearest integer quotient by a positive number, halves upwards. -/
def divRound (a : Int) (b : Nat) : Int := (2 * a + b) / (2 * b)

/-- Serial comparison of `bits`-wide numbers: `a` is before `b`. -/
def serialBefore (bits a b : Nat) : Bool :=
  let d := (b + 2 ^ bits - a % 2 ^ bits) % 2 ^ bits
  decide (0 < d ∧ d < 2 ^ (bits - 1))

/-! ### Roles, masters and channels -/

/-- The pages of each role (R12, R38). -/
def pagePresent (hub : Bool) (page : Nat) : Bool :=
  match page with
  | 0x00 | 0x01 | 0x02 | 0x03 | 0x08 | 0x09 | 0x0D | 0x0E | 0x14 | 0x15 | 0x1C | 0x1F | 0x20 | 0x21
  | 0x24 | 0x25 => true
  | 0x04 => hub
  | 0x0C | 0x10 | 0x11 | 0x18 | 0x19 | 0x1A | 0x1D | 0x1E => !hub
  | _ => false

/-- Lane ports of the role (R38). -/
def Chip.nports (c : Chip) : Nat := if c.id.hub then 66 else 2

/-- Group-table entries of the role (R38). -/
def Chip.ngroups (c : Chip) : Nat := if c.id.hub then 4096 else 256

/-- Upstream ports of the role (R89 and the port tables). -/
def Chip.upPorts (c : Chip) : List Nat := if c.id.hub then [64, 65] else [0, 1]

/-! ### Stored registers -/

/-- A stored register's value: `idx` its channel or selected index, `i` its element, `bank` the
master's bank. -/
def Chip.reg (c : Chip) (r : RegRow) (idx i bank : Nat := 0) : Word :=
  SMap.find c.regs (r.key idx i bank) (r.resetAt c.id.hub idx)

def Chip.setReg (c : Chip) (r : RegRow) (w : Word) (idx i bank : Nat := 0) : Chip :=
  { c with regs := SMap.put c.regs (r.key idx i bank) (r.resetAt c.id.hub idx) w }

/-- A banked register as one master sees it (R44). -/
def Chip.regOf (c : Chip) (m : Master) (r : RegRow) (idx i : Nat := 0) : Word :=
  c.reg r idx i (if r.banked then m.code else 0)

def Chip.setRegOf (c : Chip) (m : Master) (r : RegRow) (w : Word) (idx i : Nat := 0) : Chip :=
  c.setReg r w idx i (if r.banked then m.code else 0)

/-- A hardware count in an RC register, saturating (R109). -/
def Chip.bump (c : Chip) (r : RegRow) (n : Nat) (idx i : Nat := 0) : Chip :=
  c.setReg r (BitVec.ofNat 32 (satNat 32 ((c.reg r idx i).toNat + n))) idx i

/-! ### Lane ports -/

def Chip.port (c : Chip) (p : Nat) : PortState := SMap.find c.ports p .reset

def Chip.modPort (c : Chip) (p : Nat) (f : PortState → PortState) : Chip :=
  { c with ports := SMap.put c.ports p .reset (f (c.port p)) }

def Chip.modQ (c : Chip) (p : Nat) (f : PortQueues → PortQueues) : Chip :=
  c.modPort p fun x => { x with q := f x.q }

def Chip.modLink (c : Chip) (p : Nat) (f : PortLink → PortLink) : Chip :=
  c.modPort p fun x => { x with link := f x.link }

def Chip.modCode (c : Chip) (p : Nat) (f : PortCode → PortCode) : Chip :=
  c.modPort p fun x => { x with code := f x.code }

def Chip.modTime (c : Chip) (p : Nat) (f : PortTime → PortTime) : Chip :=
  c.modPort p fun x => { x with time := f x.time }

/-- Whole µs since an FRC value. -/
def Chip.usSinceFrc (c : Chip) (f : Nat) : Nat := (c.tk.frc - f) / 1600

/-- A port is UP (R104). -/
def Chip.isUp (c : Chip) (p : Nat) : Bool := (c.port p).mode == .up

/-- A port is UP and carries classes B, S and M: neither restricted nor the peer-crown lane (R108). -/
def Chip.carries (c : Chip) (p : Nat) : Bool :=
  let x := c.port p
  x.mode == .up && !x.restricted && !x.peerCrown

/-- A port carries a sequenced class: the lane of an excluded child carries M, and neither B nor S (R111). -/
def Chip.carriesCls (c : Chip) (p cls : Nat) : Bool :=
  c.carries p && (cls == clsM || !(c.tr.excluded.contains p))

/-- Transmit queues of the sequenced classes and their sizes (R89). -/
def PortQueues.tx (q : PortQueues) (cls : Nat) : List TxCell :=
  if cls = clsB then q.txB else if cls = clsS then q.txS else q.txM
def PortQueues.setTx (q : PortQueues) (cls : Nat) (l : List TxCell) : PortQueues :=
  if cls = clsB then { q with txB := l } else if cls = clsS then { q with txS := l } else { q with txM := l }
def txSize (cls : Nat) : Nat := if cls = clsM then 64 else 128

/-- A cell enters its transmit queue at a tick; where that is full it waits in its block, behind those of its
class that wait already (DESIGN CHOICE, log entry 14). -/
def PortQueues.push (q : PortQueues) (cls frc : Nat) (x : Cell) : PortQueues :=
  if (q.tx cls).length < txSize cls && !(q.wait.any fun w => w.1 == cls) then
    q.setTx cls (q.tx cls ++ [{ cell := x, at_ := frc }])
  else { q with wait := q.wait ++ [(cls, x)] }

/-- A transmit queue has room again: the first cell of its class that waits enters it. -/
def PortQueues.refill (q : PortQueues) (cls frc : Nat) : PortQueues :=
  match q.wait.find? fun w => w.1 == cls with
  | some w =>
    if (q.tx cls).length < txSize cls then
      { q.setTx cls (q.tx cls ++ [{ cell := w.2, at_ := frc }]) with wait := q.wait.erase w }
    else q
  | none => q

/-- A type that LLF version 1 does not have: QPROBE and RSIG_DIR (R88). -/
def newType (x : Cell) : Bool := x.typ == 0x23 || x.typ == 0x31

/-- A port takes a cell of a sequenced class and a type: it carries the class, and a lane of version 1 takes no newer
type (R88). -/
def Chip.takesType (c : Chip) (p cls : Nat) (newer : Bool) : Bool :=
  c.carriesCls p cls && !((c.port p).nver == 1 && newer)

/-- Cells put at the end of a sequenced class's transmit queue; a port that does not take them gets none (R104: a
port that is not UP holds its queues empty). -/
def Chip.sendCells (c : Chip) (p cls : Nat) (cells : List Cell) : Chip :=
  if c.takesType p cls (cells.any newType) then
    c.modQ p fun q => cells.foldl (fun q x => q.push cls c.tk.frc x) q
  else c

/-- A link-control cell waits for a free slot of the lane (R88). -/
def Chip.sendL (c : Chip) (p : Nat) (cell : Cell) : Chip :=
  c.modQ p fun q => { q with txL := q.txL ++ [cell] }

/-! ### Lyspen time -/

/-- Ticks from the anchor to the FRC. -/
def TkState.ticks (t : TkState) : Nat := (t.frc + 2 ^ 64 - t.frcAnchor) % 2 ^ 64

/-- T exactly, in units of 2^-56 ns (R64). -/
def TkState.exact (t : TkState) : Nat := t.tAnchor + t.rate * t.ticks

/-- Lyspen time T in units of 2^-32 ns, truncated when read (R60, R64). -/
def TkState.time (t : TkState) : Nat := (t.exact / 2 ^ 24) % 2 ^ 96

def Chip.now (c : Chip) : Nat := c.tk.time

/-- The time that the LCLK cycle of the present tick began at: its even tick (R72). No anchor lies between
the two, for a boundary is even. -/
def Chip.cycleTime (c : Chip) : Nat :=
  ((c.tk.exact - c.tk.rate * (c.tk.frc % 2)) / 2 ^ 24) % 2 ^ 96

/-- The stamp of tick `frc` and interpolator phase `p` of 64, with the anchor and rate in force at
that tick (R73). -/
def TkState.stamp (t : TkState) (frc p : Nat) : Nat :=
  let old := decide (frc < t.frcAnchor)
  let a := if old then t.prevAnchor else t.tAnchor
  let f := if old then t.prevFrc else t.frcAnchor
  let r := if old then t.prevRate else t.rate
  ((a * 64 + r * ((frc - f) * 64 + p)) / (64 * 2 ^ 24)) % 2 ^ 96

/-- T[63:32], the low word of whole nanoseconds. -/
def nsLow (t : Nat) : Word := Word.part t 1

/-! ### Event counters -/

/-- Whether a counter's binding takes an occurrence of an event with an instance (R343, R344). -/
def bindingTakes (cfg : Word) (num : Nat) (inst : Option Nat) : Bool :=
  Word.field cfg 16 12 == num &&
    (!(Word.bit cfg 15) ||
      match inst with
      | none => true
      | some i => Word.field cfg 0 12 == i)

/-- The binding of a counter (R343). -/
def Chip.ccfg (c : Chip) (k : Nat) : Word := c.reg Reg.MN_CCFG k

/-- The counters that a master has rebound: their stored MN_CCFG differs from its reset. -/
def reboundCounters (regs : SMap Word) : List Nat :=
  regs.filterMap fun e =>
    if e.1 % 2 ^ 20 = Reg.MN_CCFG.key 0 0 0 then some (e.1 / 2 ^ 20) else none

/-- MN_FREEZE.FRZ (R347). -/
def Chip.frozen (c : Chip) : Bool := Word.bit (c.reg Reg.MN_FREEZE) 0

def addCount (m : SMap Nat) (k n : Nat) : SMap Nat := SMap.put m k 0 ((SMap.find m k 0 + n) % 2 ^ 64)

/-- `n` occurrences of an event are counted by every counter bound to it (R342 to R344, R347). While main
reset is asserted it holds the counters (R364). -/
def Chip.count (c : Chip) (num : Nat) (inst : Option Nat) (n : Nat := 1) : Chip :=
  if c.frozen || c.inReset || n == 0 then c
  else
    let own := if num < 512 && bindingTakes (c.ccfg num) num inst then [num] else []
    let others := (reboundCounters c.regs).filter fun k => k != num && bindingTakes (c.ccfg k) num inst
    { c with mn := { c.mn with counts := (own ++ others).foldl (fun m k => addCount m k n) c.mn.counts } }

/-! ### Pin counters (R348) -/

/-- Rising and falling edges of a pin source, counted by every pin counter bound to it. -/
def Chip.pinEdges (c : Chip) (src rise fall : Nat) : Chip :=
  if c.frozen then c
  else
    let add (m : SMap Nat) (k : Nat) : SMap Nat :=
      let cfg := c.reg Reg.MN_PCFG k
      if Word.field cfg 0 16 != src then m
      else
        match Word.field cfg 28 3 with
        | 1 => addCount m k rise
        | 2 => addCount m k fall
        | 3 => addCount m k (rise + fall)
        | _ => m
    { c with mn := { c.mn with pins := (List.range 16).foldl add c.mn.pins } }

/-! ### Sticky bits and interrupts -/

/-- IPEND of a page: HIST AND IEN (R43). -/
def Chip.ipend (c : Chip) (page : Nat) : Word := c.reg (histRow page) &&& c.reg (ienRow page)

/-- GLB_ISUM0 and GLB_ISUM1: the pages whose IPEND is not zero. -/
def Chip.isum (c : Chip) (k : Nat) : Word :=
  (List.range 32).foldl
    (fun w j => w ||| Word.flag (pagePresent c.id.hub (32 * k + j) && c.ipend (32 * k + j) != 0) j) 0

/-- A page's GLB_MROUTE bit. -/
def Chip.mrouted (c : Chip) (page : Nat) : Bool :=
  if page < 32 then Word.bit (c.reg Reg.GLB_MROUTE0) page
  else Word.bit (c.reg Reg.GLB_MROUTE1) (page - 32)

/-- The routing nibble of a page in GLB_IROUTE0 to GLB_IROUTE7 (R55). -/
def Chip.iroute (c : Chip) (page : Nat) : Nat :=
  Word.field (c.reg { Reg.GLB_IROUTE0 with
    off := 0x060 + 4 * (page / 8)
    rst := [Reg.GLB_IROUTE0, Reg.GLB_IROUTE1, Reg.GLB_IROUTE2, Reg.GLB_IROUTE3, Reg.GLB_IROUTE4,
      Reg.GLB_IROUTE5, Reg.GLB_IROUTE6, Reg.GLB_IROUTE7][page / 8]?.map (fun r => r.resetAt c.id.hub 0)
      |>.getD 0
    rstHub := none }) (4 * (page % 8)) 4

/-- IRQ output `n` is asserted: an enabled output to which a page with IPEND ≠ 0 is routed (R54). -/
def Chip.irq (c : Chip) (n : Nat) : Bool :=
  Word.bit (c.reg Reg.GLB_IRQEN) n &&
    (List.range 64).any fun p =>
      pagePresent c.id.hub p && c.ipend p != 0 && c.iroute p == 8 + n

/-- Pin counters bound to the IRQ outputs count their edges from the state before. -/
def Chip.irqEdges (c before : Chip) : Chip :=
  (List.range 8).foldl (fun x n =>
    if (List.range 16).any (fun k => Word.field (c.reg Reg.MN_PCFG k) 0 16 == 0x440 + n) then
      match before.irq n, c.irq n with
      | false, true => x.pinEdges (0x440 + n) 1 0
      | true, false => x.pinEdges (0x440 + n) 0 1
      | _, _ => x
    else x) c

/-- One interrupt notice on one upstream port, or one left waiting there (R56). -/
def Chip.inoteOn (c : Chip) (p : Nat) : Chip :=
  if c.carries p then
    c.sendCells p clsM [inoteCell (c.isum 0) (c.isum 1) (c.tr.addr.getD 0)]
  else if c.tr.inoteWait.contains p then c
  else { c with tr := { c.tr with inoteWait := c.tr.inoteWait ++ [p] } }

/-- A page's IPEND went from zero to non-zero: a routed page sends its notice (R56). -/
def Chip.inoteRaise (c : Chip) (page : Nat) (before : Word) : Chip :=
  if before == 0 && c.ipend page != 0 && c.mrouted page then c.upPorts.foldl Chip.inoteOn c else c

/-- Pages whose channels have sticky histories of their own, and where (R43 and the page texts). -/
def chanHist (page : Nat) : Option RegRow :=
  match page with
  | 0x08 => some Reg.LN_LHIST
  | 0x0C => some Reg.RT_THIST
  | 0x0D => some Reg.TS_THIST
  | 0x10 => some Reg.SQ_THIST
  | _ => none

/-- The pages of the AON domain (R364): TK, GD, EV and PW. -/
def aonPage (page : Nat) : Bool := page == 0x01 || page == 0x1C || page == 0x1F || page == 0x24

/-- A sticky bit set by hardware, in the page's HIST and in that of the channel; main reset holds the pages of
its domain (R364). -/
def Chip.flag (c : Chip) (page bit : Nat) (chan : Option Nat) : Chip :=
  if c.inReset && !(aonPage page) then c else
  let before := c.ipend page
  let old := c
  let b := Word.flag true bit
  let c := c.setReg (histRow page) (c.reg (histRow page) ||| b)
  let c :=
    match chanHist page, chan with
    | some r, some i => c.setReg r (c.reg r i ||| b) i
    | _, _ => c
  (c.irqEdges old).inoteRaise page before

/-! ### Event records -/

/-- The severity of an event code (R336). -/
def severity (hub : Bool) (code : Nat) : Nat :=
  if !(pagePresent hub (code / 256)) then 2
  else if [0x0105, 0x0305, 0x0809, 0x0901, 0x0902, 0x0C07, 0x1507, 0x1D07, 0x2502].contains code then 4
  else if [0x0102, 0x0301, 0x0904, 0x1001, 0x1002, 0x1003, 0x100A, 0x1101, 0x1405, 0x1901, 0x1A01,
      0x1A02, 0x1C0A, 0x1C0C, 0x1D01, 0x1D02, 0x1D03, 0x1D04, 0x1D05, 0x1D06, 0x1D09, 0x1E02, 0x1F03,
      0x1F06, 0x2501, 0x2503, 0x2507].contains code then 3
  else if [0x0101, 0x0303, 0x0304, 0x0306, 0x0401, 0x0403, 0x090B, 0x1508, 0x1509, 0x150B, 0x1D0A,
      0x1D0B, 0x1D0C, 0x1E01, 0x1F04, 0x1F05, 0x2504].contains code then 1
  else 2

/-- A record enters the 64-entry writer queue, or is lost there: counted and flagged (R337). -/
def Chip.enqueueRec (c : Chip) (r : RawRec) : Chip :=
  if c.ev.queue.length < 64 then { c with ev := { c.ev with queue := c.ev.queue ++ [r] } }
  else
    let c := { c with ev := { c.ev with lost := c.ev.lost + 1 } }
    (c.count Event.EV_DROP.num none).flag 0x1F Event.EV_DROP.bit none

/-- What an event's report carries besides the event: the record's parameters, as far as the page says
what they hold, and the instance that counters and channel histories go by (R344). -/
structure Rep where
  p1 : Option Word := none
  p2 : Option Word := none
  p3 : Option Word := none
  inst : Option Nat := none
  late : Bool := false

/-- An event is counted and flagged (R11). -/
def Chip.note (c : Chip) (e : Ev) (inst : Option Nat := none) : Chip :=
  (c.count e.num inst).flag e.page e.bit inst

/-- A value the spec leaves open: the next free value (log entry 3). -/
def Chip.takeFree (c : Chip) : Word × Chip := (Config.freeWord c.free, { c with free := c.free + 1 })

/-- A record parameter: a free value where no page says what it holds (R335, log entry 30). -/
def Chip.param (c : Chip) (p : Option Word) : Word × Chip :=
  match p with
  | some w => (w, c)
  | none => c.takeFree

/-- An event code is recorded. -/
def Chip.record (c : Chip) (code : Nat) (r : Rep) : Chip :=
  let a := c.param r.p1
  let b := a.2.param r.p2
  let d := b.2.param r.p3
  d.2.enqueueRec
    { code := code, src := 0, sev := severity c.id.hub code, late := r.late, p1 := a.1, p2 := b.1, p3 := d.1 }

/-- An event is reported with the three facts of R11, in their order: counted, flagged, recorded. An
event without a code is not recorded. -/
def Chip.report (c : Chip) (e : Ev) (r : Rep := {}) : Chip :=
  let c := c.note e r.inst
  if e.code = 0 then c else c.record e.code r

/-! ### Histogram units -/

def Chip.hsUnit (c : Chip) (u : Nat) : HsUnit := SMap.find c.hs u .reset

def Chip.modHs (c : Chip) (u : Nat) (f : HsUnit → HsUnit) : Chip :=
  { c with hs := SMap.put c.hs u .reset (f (c.hsUnit u)) }

/-- The position of the highest one of a number, plus one; 0 for 0. -/
def bitLen : Nat → Nat
  | 0 => 0
  | n + 1 => (n + 1).log2 + 1

/-- The bin of a sample (R354). -/
def hsBin (log : Bool) (base : Int) (width : Nat) (v : Int) : Nat :=
  let d := v - base
  if d < 0 then 0
  else
    let n := d.toNat / width
    if log then (if n = 0 then 1 else min 63 (bitLen n + 1))
    else min 63 (n + 1)

/-- A sample value: a signed 32-bit number, a larger magnitude saturated (R353). -/
def hsClamp (v : Int) : Int := max (-2147483648) (min 2147483647 v)

/-- One sample taken by a unit: its bin, count and extremes (R355). -/
def Chip.hsTake (c : Chip) (u : Nat) (v : Int) : Chip :=
  let x := c.hsUnit u
  let cfg := c.reg Reg.HS_UCFG u
  let w := max 1 (c.reg Reg.HS_UWIDTH u).toNat
  let b := hsBin (Word.bit cfg 30) (c.reg Reg.HS_UBASE u).toInt w v
  let cur := SMap.find x.bins b 0
  let sat := decide (cur = 0xFFFFFFFF)
  let first := decide (x.nsamp = 0)
  let x' : HsUnit :=
    { x with
      bins := if sat then x.bins else SMap.put x.bins b 0 (cur + 1)
      nsamp := (x.nsamp + 1) % 2 ^ 64
      min := if first || decide (v < x.min) then v else x.min
      minT := if first || decide (v < x.min) then c.cycleTime % 2 ^ 64 else x.minT
      max := if first || decide (x.max < v) then v else x.max
      maxT := if first || decide (x.max < v) then c.cycleTime % 2 ^ 64 else x.maxT
      satBins := if sat && !(x.satBins.contains b) then b :: x.satBins else x.satBins }
  let c' := c.modHs u fun _ => x'
  if sat && !(x.satBins.contains b) then
    c'.report Event.HS_BINSAT { p1 := BitVec.ofNat 32 u, p2 := BitVec.ofNat 32 b, inst := some u }
  else c'

/-- A sample offered to one unit while it runs and its source and qualifier match: taken as the cycle's one sample, or
queued behind up to three others, or dropped (R352). -/
def Chip.hsOffer (c : Chip) (src inst : Nat) (v : Int) (u : Nat) : Chip :=
  let cfg := c.reg Reg.HS_UCFG u
  let x := c.hsUnit u
  if Word.bit cfg 31 && Word.field cfg 16 8 == src && !x.stopped
      && (Word.field cfg 0 16 == 0xFFFF || Word.field cfg 0 16 == inst) then
    if x.cyc = 0 && x.queue.isEmpty then (c.hsTake u (hsClamp v)).modHs u fun y => { y with cyc := 1 }
    else if x.queue.length < 4 then c.modHs u fun y => { y with queue := y.queue ++ [hsClamp v] }
    else
      let c := c.bump Reg.HS_UDROP 1 u
      let c := c.note Event.HS_DROP (some u)
      if x.dropRep then c
      else
        (c.modHs u fun y => { y with dropRep := true }).record Event.HS_DROP.code
          { p1 := BitVec.ofNat 32 u }
  else c

/-- A sample of a source is offered to every unit (R352, R347). -/
def Chip.sample (c : Chip) (src inst : Nat) (v : Int) : Chip :=
  if c.frozen then c else (List.range 16).foldl (fun c u => c.hsOffer src inst v u) c

/-- A unit's turn in a new LCLK cycle: the oldest sample that waits is taken, unless a freeze or a stop holds the
unit (R347, R352). -/
def Chip.hsTurn (c : Chip) (u : Nat) : Chip :=
  let x := c.hsUnit u
  match x.queue with
  | v :: rest =>
    if c.frozen || x.stopped then c else (c.modHs u fun y => { y with queue := rest, cyc := 1 }).hsTake u v
  | [] => c

/-- The part at the start of an LCLK cycle: no histogram unit has taken a sample yet. -/
def Chip.newCycle (c : Chip) : Chip := { c with hs := c.hs.map fun e => (e.1, { e.2 with cyc := 0 }) }

/-- A new LCLK cycle of the histogram units in time. -/
def Chip.hsCycle (c : Chip) : Chip :=
  (c.hs.map fun e => e.1).foldl (fun c u => c.hsTurn u) c.newCycle

/-- A sample waits in a unit that can take it. -/
def Chip.hsBusy (c : Chip) : Bool := !c.frozen && c.hs.any fun e => !e.2.stopped && !e.2.queue.isEmpty

/-! ### Running a command -/

/-- A command's effect on the part: the queue stays as it is, and every histogram unit starts a new
LCLK cycle (log entry 6). -/
def State.apply (s : State) (f : Chip → Chip) : Host.Outcome State Fault Refusal :=
  .next { s with chip := f s.chip.newCycle }

/-- A command of the main reset domain: while main reset is asserted nothing happens. -/
def State.run (s : State) (f : Chip → Chip) : Host.Outcome State Fault Refusal :=
  s.apply fun c => if c.inReset then c else f c

/-- A command of a unit that only one role has. -/
def State.runDie (s : State) (f : Chip → Chip) : Host.Outcome State Fault Refusal :=
  if s.chip.id.hub then .fault .notPresent else s.run f

def State.runHub (s : State) (f : Chip → Chip) : Host.Outcome State Fault Refusal :=
  if s.chip.id.hub then s.run f else .fault .notPresent

/-- A command of a lane port: the port exists in the role. -/
def State.runPort (s : State) (p : Port) (f : Chip → Chip) : Host.Outcome State Fault Refusal :=
  if p.val < s.chip.nports then s.run f else .fault .notPresent

/-- A lane-port command that only the die role has. -/
def State.runDiePort (s : State) (p : Port) (f : Chip → Chip) : Host.Outcome State Fault Refusal :=
  if !s.chip.id.hub && p.val < 2 then s.run f else .fault .notPresent

/-- A register access of a master: remote masters exist only in the die role (R49), and the host register
port takes nothing while HOST_RST_N is low (R366). -/
def State.runMaster (s : State) (m : Master) (f : Chip → Chip) : Host.Outcome State Fault Refusal :=
  if m.isRemote && s.chip.id.hub then .fault .notPresent
  else s.run fun c => if m == .host && c.pw.hostLow then c else f c

/-- A thread at its entry to RUN at an FRC value (R199): its aging restarts. -/
def ThreadState.enterRun (x : ThreadState) (frc : Nat) : ThreadState :=
  { x with mode := .run, aged := 0, runAt := frc }

/-- A thread that has issued at an FRC value (R199): it is back at its base priority. -/
def ThreadState.hasIssued (x : ThreadState) (frc : Nat) : ThreadState :=
  { x with aged := 0, issued := true, runAt := frc }

end Sys2Proof.Machine
end

