-- ==== Sys2Proof/Machine/Entry.lean ====
section
/-!
DEFINITION. Machine/Entry.lean: access to group entries and sequencer threads, the activity counter of
the deadlock detector, launch authority (R21 to R23), and the local DET flags (R218, R291).
-/

namespace Sys2Proof.Machine

/-! ### Group entries -/

def Chip.ent (c : Chip) (g : Nat) : GrEntry := SMap.find c.gr.entries g .reset

def Chip.modEnt (c : Chip) (g : Nat) (f : GrEntry → GrEntry) : Chip :=
  { c with gr := { c.gr with entries := SMap.put c.gr.entries g .reset (f (c.ent g)) } }

/-- The entry with a group ID in a state other than FREE (R270). -/
def findGidIn (hub : Bool) : SMap GrEntry → Nat → Option Nat
  | [], _ => none
  | (g, e) :: r, gid =>
    if (if hub then g else e.gid) = gid && e.state != .free then some g else findGidIn hub r gid

def Chip.findGid (c : Chip) (gid : Nat) : Option Nat := findGidIn c.id.hub c.gr.entries gid

/-- The group ID of an entry: its index in a hub (R270). -/
def Chip.gidOf (c : Chip) (g : Nat) : Nat := if c.id.hub then g else (c.ent g).gid

/-- STRICT, HOLD_ON_LOSS, APEX and the lintel depth D of an entry (R271, R209). -/
def GrEntry.strict (e : GrEntry) : Bool := Word.bit e.mode 31
def GrEntry.holdOnLoss (e : GrEntry) : Bool := Word.bit e.mode 30
def GrEntry.apex (e : GrEntry) : Bool := Word.bit e.mode 28
def GrEntry.depth (e : GrEntry) : Nat := Word.field e.mode 24 2 + 1

/-- The group's working plane: a hub reads its own (R271). -/
def Chip.planeOf (c : Chip) (g : Nat) : Bool :=
  if c.id.hub then c.id.planeB else Word.bit (c.ent g).mode 29

/-- The port on which a group's traffic goes up: the working-plane port of a die, the active upstream
of a hub (R16, R223). -/
def Chip.groupUp (c : Chip) (g : Nat) : Nat :=
  if c.id.hub then (if c.tr.upAlt then 65 else 64) else if c.planeOf g then 1 else 0

/-- The sealed states: SEALED, ACTIVE, LOSS_HELD and FAILED (R272). -/
def GrMode.isSealed (m : GrMode) : Bool :=
  match m with
  | .sealed | .active | .lossHeld | .failed => true
  | .free | .opened | .quar => false

/-- States in which the sequencer can use an entry (R219, R272). -/
def GrMode.usable (m : GrMode) : Bool :=
  match m with
  | .sealed | .active | .lossHeld => true
  | .free | .opened | .failed | .quar => false

def GrMode.code (m : GrMode) : Nat :=
  match m with
  | .free => 0
  | .opened => 1
  | .sealed => 2
  | .active => 3
  | .lossHeld => 4
  | .failed => 5
  | .quar => 6

/-- The set bits of a number below `n`, in rising order. -/
def bitsOf (n mask : Nat) : List Nat := (List.range n).filter fun i => mask.testBit i

/-- The listed ports of a hub's entry. -/
def GrEntry.listed (e : GrEntry) : List Nat := bitsOf 64 e.pmap

/-- The parameters of a GR or MT record: group ID, port and reason, and the generation or course. -/
def grRep (gid port reason : Nat) (second : Nat) : Rep :=
  { p1 := Word.place (gid % 4096) 0 ||| Word.place (port % 256) 16 ||| Word.place reason 24
    p2 := some (BitVec.ofNat 32 second)
    inst := some gid }

/-! ### Activity of a group (R264) -/

/-- The activity counter of an entry rises; a change ends a deadlock episode (R269). -/
def Chip.activity (c : Chip) (g : Nat) : Chip :=
  c.modEnt g fun e => { e with dl := { e.dl with act := (e.dl.act + 1) % 2 ^ 32, deadlock := false } }

/-! ### Threads -/

def Chip.th (c : Chip) (t : Nat) : ThreadState := SMap.find c.sq.threads t .reset

def Chip.modTh (c : Chip) (t : Nat) (f : ThreadState → ThreadState) : Chip :=
  { c with sq := { c.sq with threads := SMap.put c.sq.threads t .reset (f (c.th t)) } }

def ThMode.code (m : ThMode) : Nat :=
  match m with
  | .idle => 0
  | .run => 1
  | .waitT => 2
  | .waitF => 3
  | .waitB => 4
  | .waitS => 5
  | .waitN => 6
  | .authHold => 7
  | .cwait => 8
  | .halted => 9
  | .fault => 10
  | .solo => 11

/-- A thread in IDLE, HALTED or FAULT does not count as running. -/
def ThMode.stopped (m : ThMode) : Bool := m == .idle || m == .halted || m == .fault

/-- Base and effective priority (R193, R199). -/
def Chip.basePrio (c : Chip) (t : Nat) : Nat := Word.field (c.reg Reg.SQ_TCFG t) 28 2
def Chip.effPrio (c : Chip) (t : Nat) : Nat := min 3 (c.basePrio t + (c.th t).aged)

/-- The thread runs again: its group's activity counter rises (R264) and its aging restarts. -/
def Chip.toRun (c : Chip) (t : Nat) : Chip :=
  (c.modTh t fun x => x.enterRun c.tk.frc).activity (c.th t).grp

/-- The parameters of an SQ record (R219). -/
def Chip.sqRep (c : Chip) (t : Nat) (third : Option Word := none) : Rep :=
  { p1 := BitVec.ofNat 32 t ||| Word.place (c.th t).pc 16
    p2 := BitVec.ofNat 32 (c.th t).course
    p3 := third
    inst := some t }

/-- A thread stops in FAULT with its code (R219); the event has been or is reported by the caller. -/
def Chip.thStop (c : Chip) (t fcode : Nat) : Chip :=
  c.modTh t fun x => { x with mode := .fault, fcode := fcode }

/-- A fault of R219: reported, and the thread stops with its PC on the instruction. -/
def Chip.thFault (c : Chip) (t : Nat) (e : Ev) (fcode : Nat) : Chip :=
  (c.report e (c.sqRep t)).thStop t fcode

/-- The mailbox of a thread. -/
def Chip.mbox (c : Chip) (t m : Nat) : Nat := SMap.find (c.th t).mb m 0
def Chip.setMbox (c : Chip) (t m v : Nat) : Chip :=
  c.modTh t fun x => { x with mb := SMap.put x.mb m 0 (v % 2 ^ 64) }

/-- The listed threads bound to a group entry, IDLE ones apart. -/
def Chip.bound (c : Chip) (g : Nat) : List (Nat × ThreadState) :=
  c.sq.threads.filter fun e => e.2.grp == g && e.2.mode != .idle

/-! ### Launch authority -/

/-- A servo state gives a group launch authority (R21). -/
def Chip.authorityIn (c : Chip) (g : Nat) (m : SvMode) : Bool :=
  if (c.ent g).strict then m == .locked || m == .holdover else m != .freerun

/-- The state at the start of the present tick (R23). -/
def Chip.startMode (c : Chip) : SvMode :=
  match c.sv.tickStart with
  | some (f, m) => if f = c.tk.frc then m else c.sv.mode
  | none => c.sv.mode

/-- Launch authority of a group as a tap tests it: by the state at the start of the tick (R23). -/
def Chip.tapAuthority (c : Chip) (g : Nat) : Bool := c.authorityIn g c.startMode

/-! ### DET -/

/-- The local DET of a course is cleared (R218). -/
def Chip.detClear (c : Chip) (g course : Nat) : Chip :=
  c.modEnt g fun e =>
    if e.detLost.contains course then e else { e with detLost := course :: e.detLost }

def Chip.detOf (c : Chip) (g course : Nat) : Bool := !((c.ent g).detLost.contains course)

/-- The arrival that carries a course has left the die or has been dropped (R212, R303). -/
def GrEntry.closedTo (e : GrEntry) (course : Nat) : Bool :=
  match e.sentTo with
  | some n => decide (course ≤ n)
  | none => false

/-- A course's base has passed on a thread: it is the thread's course and its base has come, or an earlier one. -/
def ThreadState.begun (x : ThreadState) (now course : Nat) : Bool :=
  x.mode != .cwait && decide (x.n0 ≤ course)
    && (decide (course < x.course) || (x.course == course && decide (x.base ≤ now)))

/-- The count that a thread has armed for a course of the group it is bound to (R210). -/
def ThreadState.armOf (x : ThreadState) (course : Nat) : Option ArmCount :=
  x.arms.find? fun a => a.grp == x.grp && a.course == course

/-- A thread may still contribute to a course: its armed count is not met, or, where it has armed none for it, the
course is its own and it has not issued its SYNC (log entry 24). -/
def ThreadState.openTo (x : ThreadState) (course : Nat) : Bool :=
  match x.armOf course with
  | some a => decide (a.made < a.k) || (a.k == 0 && !a.synced)
  | none => x.course == course && decide (x.n0 ≤ course) && x.mode != .waitB && !x.mode.stopped

/-- A course is in flight on the die from its course base until its last CONTRIB (R171). -/
def Chip.inFlight (c : Chip) (g course : Nat) : Bool :=
  !((c.ent g).closedTo course) && ((c.bound g).any fun e => e.2.begun c.now course)
    && (c.bound g).any fun e => e.2.openTo course

/-- The courses of a group that can be in flight: the threads' current courses and the three before. -/
def Chip.courses (c : Chip) (g : Nat) : List Nat :=
  ((c.bound g).flatMap fun e => (List.range 4).filterMap fun k =>
    if k ≤ e.2.course then some (e.2.course - k) else none).eraseDups

/-- The crossing-use mask of a group: the OR of SQ_TXMASK over its threads (R218). -/
def Chip.useMask (c : Chip) (g : Nat) : Nat :=
  (c.bound g).foldl (fun m e => m ||| (c.reg Reg.SQ_TXMASK e.1).toNat) 0

/-- Groups with a bound thread. -/
def Chip.busyGroups (c : Chip) : List Nat :=
  ((c.sq.threads.filter fun e => e.2.mode != .idle).map fun e => e.2.grp).eraseDups

/-- Every course in flight of the groups a test takes loses its DET. -/
def Chip.detClearAll (c : Chip) (take : Nat → Bool) : Chip :=
  (c.busyGroups.filter take).foldl
    (fun c g => ((c.courses g).filter (c.inFlight g)).foldl (fun c n => c.detClear g n) c) c

/-- A slip or a FALLBACK write on a crossing class (R171). -/
def Chip.detClearClass (c : Chip) (cls : Nat) : Chip :=
  c.detClearAll fun g => (c.useMask g).testBit cls

/-- While the servo is in FREERUN, ACQUIRE or HOLD_EXPIRED, every course in flight of a strict group
loses its DET (R291); the state of a tick is the one at its start (R23). -/
def Chip.servoSweep (c : Chip) : Chip :=
  if c.id.hub || c.startMode == .locked || c.startMode == .holdover then c
  else c.detClearAll fun g => (c.ent g).strict

/-! ### Census completion and threads -/

/-- Threads of an entry in CWAIT run once it reports its census complete (R195). -/
def Chip.cwaitExit (c : Chip) (g : Nat) : Chip :=
  if (c.ent g).censusOk then
    ((c.bound g).filter fun e => e.2.mode == .cwait).foldl (fun c e => c.toRun e.1) c
  else c

end Sys2Proof.Machine
end

