-- ==== Sys2Proof/Machine/Bounds.lean ====
section
/-!
DEFINITION. Machine/Bounds.lean: the Guard's refusals (R307) and the bounds it holds a value against:
the RATE window and slew (R300) and the limit fields with their extremes (R299).
-/

namespace Sys2Proof.Machine

/-- The address of a register: page and offset (R37). -/
def RegRow.addr (r : RegRow) (i : Nat := 0) : Nat := r.page * 4096 + (r.off + i * r.stride)

/-- The first parameter of a Guard record: the master and the register address (R307). -/
def guardWho (m : Master) (addr : Nat) : Word := Word.place m.code 30 ||| BitVec.ofNat 32 (addr % 2 ^ 18)

/-- The Guard refuses a write: reported, with the latest refusal in GD_LASTREF and GD_LASTVAL. -/
def Chip.guardRefuse (c : Chip) (e : Ev) (m : Master) (addr : Nat) (value bound : Word) : Chip :=
  let c := c.report e { p1 := guardWho m addr, p2 := value, p3 := bound }
  (c.setReg Reg.GD_LASTREF (guardWho m addr)).setReg Reg.GD_LASTVAL value

/-! ### RATE (R300) -/

/-- The nominal RATE, 0.625 ns a tick in Q8.56 (R63). -/
def nominalRate : Nat := 0x00A0000000000000

/-- The distance of two RATEs exceeds so many parts per billion of the nominal. -/
def rateFar (a b ppb : Nat) : Bool := decide ((max a b - min a b) * 10 ^ 9 > nominalRate * ppb)

/-- A RATE outside the window. -/
def rateOutside (rate win : Nat) : Bool := rateFar rate nominalRate win

/-- Ticks in 1 ms. -/
def ticksPerMs : Nat := 1600000

/-- The RATEs active at any tick of the preceding 1 ms. -/
def TkState.recentRates (t : TkState) : List Nat :=
  t.rate :: (t.rateHist.filter fun p => decide (t.frc < p.2 + ticksPerMs)).map fun p => p.1

def Chip.rateSlewed (c : Chip) (rate : Nat) : Bool :=
  let slew := Word.field (c.reg Reg.GD_RATESLEW) 0 20
  c.tk.recentRates.any fun r => rateFar rate r slew

/-! ### The memory-write window (R305) -/

/-- An operation of the memory-write port has been issued; the port's buffer has 16 beats, so no more than 16 operations
can wait for the host's answer (R367, R369). -/
def EvState.issued (x : EvState) (o : MwOp) : EvState := { x with mwOps := (o :: x.mwOps).take 16 }

/-- Every beat from the first address to the last lies in the window. -/
def Chip.mwInside (c : Chip) (first last : Nat) : Bool :=
  let lo := (c.reg Reg.GD_MWBASE_HI).toNat * 2 ^ 32 + (c.reg Reg.GD_MWBASE_LO).toNat
  let hi := (c.reg Reg.GD_MWLIM_HI).toNat * 2 ^ 32 + (c.reg Reg.GD_MWLIM_LO).toNat
  decide (lo ≤ first ∧ last < hi)

/-- A write of the port falls outside the window: not issued, and reported. No master and no register
belongs to it, and the window has two bounds: its first and third parameters are free values (log entry
30). -/
def Chip.mwRefuse (c : Chip) (addr : Nat) : Chip :=
  let f := c.takeFree
  let who := f.1 &&& 0xC003FFFF
  let c := f.2.report Event.GD_MW_WIN { p1 := who, p2 := Word.part addr 0 }
  (c.setReg Reg.GD_LASTREF who).setReg Reg.GD_LASTVAL (Word.part addr 0)

/-! ### Limits (R299) -/

/-- The fields of a limit register: lowest bit, length, whether a larger value is tighter, and the
hardware extreme. -/
def limitFields : GuardLimit → List (Nat × Nat × Bool × Nat)
  | .rateWin => [(0, 20, false, 250000)]
  | .rateSlew => [(0, 20, false, 5000)]
  | .stepLim => [(0, 16, false, 8000)]
  | .trigLim => [(16, 16, true, 8000), (0, 16, true, 500)]
  | .poLim => [(16, 16, true, 8), (0, 16, true, 8)]
  | .wdCfg => [(16, 4, false, 15), (0, 16, false, 1000)]

def limitRow : GuardLimit → RegRow
  | .rateWin => Reg.GD_RATEWIN
  | .rateSlew => Reg.GD_RATESLEW
  | .stepLim => Reg.GD_STEPLIM
  | .trigLim => Reg.GD_TRIGLIM
  | .poLim => Reg.GD_POLIM
  | .wdCfg => Reg.GD_WDCFG

/-- The value a limit field stands for: GD_WDCFG.PERIOD of 0 is taken as 1. -/
def limitValue (l : GuardLimit) (lo n : Nat) : Nat := if l == .wdCfg && lo == 0 then oneIfZeroNat n else n
where oneIfZeroNat (n : Nat) : Nat := if n = 0 then 1 else n

/-- Some field of a written limit is looser than it was; some field goes beyond the extreme. -/
def limitLoosens (l : GuardLimit) (old new : Word) : Bool :=
  (limitFields l).any fun f =>
    let a := limitValue l f.1 (Word.field old f.1 f.2.1)
    let b := limitValue l f.1 (Word.field new f.1 f.2.1)
    if f.2.2.1 then decide (b < a) else decide (a < b)

def limitBeyond (l : GuardLimit) (new : Word) : Bool :=
  (limitFields l).any fun f =>
    let b := limitValue l f.1 (Word.field new f.1 f.2.1)
    if f.2.2.1 then decide (b < f.2.2.2) else decide (f.2.2.2 < b)

end Sys2Proof.Machine
end

