-- ==== Sys2Proof/Machine/Operands.lean ====
section
/-!
DEFINITION. Machine/Operands.lean: the operand forms of the part's two small languages: the fields of a
sequencer instruction (R201) and the number formats of the mortar lanes and of the finish program
(R227, R230, R232, R237), read exactly and rounded once.
-/

namespace Sys2Proof.Machine

/-! ### Sequencer instruction words (R201) -/

/-- The fields of a 64-bit instruction: opcode, flags, operand A and operand B. -/
def Iw.op (w : BitVec 64) : Nat := (w.toNat >>> 56) % 256
def Iw.fl (w : BitVec 64) : Nat := (w.toNat >>> 48) % 256
def Iw.a (w : BitVec 64) : Nat := (w.toNat >>> 32) % 65536
def Iw.b (w : BitVec 64) : Nat := w.toNat % 2 ^ 32

/-- The program counter after this instruction. -/
def pcNext (pc : Nat) : Nat := (pc + 1) % 16384

/-- The flag and operand bits that the table of R201 gives an instruction, as masks of FLAGS, A and B.
A field used only with some flag counts as used (log entry 20). -/
def Iw.uses (w : BitVec 64) : Option (Nat × Nat × Nat) :=
  match Iw.op w with
  | 0x00 | 0x01 => some (0, 0, 0)
  | 0x08 => some (0, 0, 0x3FFF)
  | 0x09 => some (0, 0x3F, 0x3FFF)
  | 0x0A => some (1, 0x1F, 0x3FFF)
  | 0x10 => some (7, 0x3F, 0xFFFFFFFF)
  | 0x11 => some (7, 0x3F, 0xFFFFFFFF)
  | 0x18 => some (0, 0x3F, 0)
  | 0x19 => some (6, 0x3F, 0xFFFFFFFF)
  | 0x20 => some (0, 0xFF, 0)
  | 0x21 => some (3, 0x73F, 0)
  | 0x22 => some (3, 0, 0)
  | 0x28 => some (3, 0xFFFF, 0xFFFFFF)
  | 0x29 => some (2, 0xFFF, 0xFFFFFF)
  | 0x2A => some (6, 0xFFFF, 0xFFFFFFFF)
  | 0x30 => some (3, 0, 0)
  | 0x38 => some (1, 0, 0)
  | 0x39 => some (3, 0xFF, 0xFFFFFFFF)
  | _ => none

/-- Whether the opcode is in the table and no unused bit is set. -/
def Iw.good (w : BitVec 64) : Bool :=
  match Iw.uses w with
  | none => false
  | some (f, a, b) => Iw.fl w &&& f == Iw.fl w && Iw.a w &&& a == Iw.a w && Iw.b w &&& b == Iw.b w

/-- A count operand, where 0 means 1. -/
def oneIfZero (n : Nat) : Nat := if n = 0 then 1 else n

/-- One nanosecond in units of Lyspen time. -/
def nsUnit : Nat := 2 ^ 32

/-- The offset of a time operand: B in ns, or in µs when US = 1 (R202). -/
def Iw.offset (w : BitVec 64) : Nat :=
  Iw.b w * (if (Iw.fl w).testBit 2 then 1000 else 1) * nsUnit

/-! ### Number formats (R227, R230) -/

/-- The formats, in their FMT order. -/
inductive Fmt where
  | fp32 | bf16 | fp16 | e4m3 | e5m2 | int32 | int64
deriving DecidableEq, Repr

def Fmt.ofCode : Nat → Option Fmt
  | 0 => some .fp32
  | 1 => some .bf16
  | 2 => some .fp16
  | 3 => some .e4m3
  | 4 => some .e5m2
  | 5 => some .int32
  | 6 => some .int64
  | _ => none

/-- Width in bits of a value of the format. -/
def Fmt.bits : Fmt → Nat
  | .fp32 | .int32 => 32
  | .bf16 | .fp16 => 16
  | .e4m3 | .e5m2 => 8
  | .int64 => 64

def Fmt.isInt (f : Fmt) : Bool := f == .int32 || f == .int64

/-- Exponent bits, fraction bits and bias of a float format. -/
def Fmt.ebits : Fmt → Nat
  | .fp32 | .bf16 => 8
  | .fp16 | .e5m2 => 5
  | .e4m3 => 4
  | .int32 | .int64 => 0

def Fmt.fbits : Fmt → Nat
  | .fp32 => 23
  | .bf16 => 7
  | .fp16 => 10
  | .e4m3 => 3
  | .e5m2 => 2
  | .int32 | .int64 => 0

def Fmt.bias : Fmt → Nat
  | .fp32 | .bf16 => 127
  | .fp16 | .e5m2 => 15
  | .e4m3 => 7
  | .int32 | .int64 => 0

/-- The canonical qNaN (R232); an integer format has none. -/
def Fmt.qnan : Fmt → Nat
  | .fp32 => 0x7FC00000
  | .bf16 => 0x7FC0
  | .fp16 => 0x7E00
  | .e5m2 => 0x7E
  | .e4m3 => 0x7F
  | .int32 | .int64 => 0

/-- An exact number: a NaN, an infinity, or (−1)^neg × m × 2^e; zero keeps its sign. -/
inductive Num where
  | nan
  | inf (neg : Bool)
  | fin (neg : Bool) (m : Nat) (e : Int)
deriving DecidableEq, Repr

def Num.zero : Num := .fin false 0 0
def Num.one : Num := .fin false 1 0
def Num.ofNat (n : Nat) : Num := .fin false n 0
def Num.ofInt (i : Int) (e : Int) : Num := .fin (decide (i < 0)) i.natAbs e

/-- A two's-complement number of `bits` bits. -/
def signedOf (bits n : Nat) : Int :=
  if n % 2 ^ bits < 2 ^ (bits - 1) then (n % 2 ^ bits : Nat) else (n % 2 ^ bits : Nat) - (2 ^ bits : Nat)

/-- The exact value of an encoding, read from the low bits of a word (R228, R230). -/
def Fmt.read (f : Fmt) (w : Nat) : Num :=
  if f.isInt then Num.ofInt (signedOf f.bits w) 0
  else
    let v := w % 2 ^ f.bits
    let neg := v.testBit (f.bits - 1)
    let ex := (v >>> f.fbits) % 2 ^ f.ebits
    let fr := v % 2 ^ f.fbits
    if f == .e4m3 && ex == 15 && fr == 7 then .nan
    else if f != .e4m3 && ex == 2 ^ f.ebits - 1 then (if fr = 0 then .inf neg else .nan)
    else
      let lsb : Int := 1 - (f.bias : Int) - f.fbits
      if ex = 0 then .fin neg fr lsb else .fin neg (2 ^ f.fbits + fr) (lsb + (ex - 1 : Nat))

/-- The accumulator value A_x of a finite contribution (R230): its value in units of 2^-160. -/
def Num.toAcc (x : Num) : Option Int :=
  match x with
  | .fin neg m e =>
    let mag : Int := m * 2 ^ (e + 160).toNat
    some (if neg then -mag else mag)
  | _ => none

/-! ### Rounding (R237) -/

/-- A magnitude under rounding: q × 2^e, plus something between 0 and 2^e when `rest` is set. -/
structure Mag where
  q : Nat
  e : Int
  rest : Bool
deriving DecidableEq, Repr

/-- Length in bits of a number. -/
def lenOf (n : Nat) : Nat := if n = 0 then 0 else n.log2 + 1

/-- The magnitude in whole units of 2^lsb, to nearest, ties to even. -/
def Mag.roundAt (x : Mag) (lsb : Int) : Nat :=
  let sh := lsb - x.e
  if sh ≤ 0 then x.q <<< (-sh).toNat
  else
    let s := sh.toNat
    let k := x.q >>> s
    let r := x.q % 2 ^ s
    let half := 2 ^ (s - 1)
    if r > half || (r == half && (x.rest || k % 2 == 1)) then k + 1 else k

/-- The largest finite encoding of a float format, without sign. -/
def Fmt.maxFinite (f : Fmt) : Nat :=
  if f == .e4m3 then 0x7E else (2 ^ f.ebits - 1) * 2 ^ f.fbits - 1

/-- An infinite result: ±Inf or the largest finite value; E4M3 has the canonical qNaN instead of an
infinity. -/
def Fmt.infinite (f : Fmt) (neg toMax : Bool) : Nat :=
  let s := if neg then 2 ^ (f.bits - 1) else 0
  if toMax then s + f.maxFinite
  else if f == .e4m3 then 0x7F
  else s + (2 ^ f.ebits - 1) * 2 ^ f.fbits

/-- A magnitude rounded once into a float format; an exact zero keeps its sign. -/
def Fmt.roundFloat (f : Fmt) (neg toMax : Bool) (x : Mag) : Nat :=
  let s := if neg then 2 ^ (f.bits - 1) else 0
  let emin : Int := 1 - (f.bias : Int)
  let top : Int := (lenOf x.q : Int) - 1 + x.e
  let ex := max top emin
  let k := x.roundAt (ex - f.fbits)
  let enc := if top < emin then k else (ex + f.bias).toNat * 2 ^ f.fbits + (k - 2 ^ f.fbits)
  if x.q = 0 && !x.rest then s
  else if enc > f.maxFinite then f.infinite neg toMax else s + enc

/-- A magnitude rounded once into an integer format: the bits, and whether it saturated. -/
def Fmt.roundInt (f : Fmt) (neg : Bool) (x : Mag) : Nat × Bool :=
  let k := x.roundAt 0
  let lim := 2 ^ (f.bits - 1)
  if neg then (if k > lim then (lim, true) else ((2 ^ f.bits - k) % 2 ^ f.bits, false))
  else (if k ≥ lim then (lim - 1, true) else (k, false))

/-- An exact result rounded once into a format: its encoding and SAT (R237). -/
def Fmt.round (f : Fmt) (toMax : Bool) (nan : Bool) (inf : Option Bool) (neg : Bool) (x : Mag) : Nat × Bool :=
  if nan then (if f.isInt then (0, true) else (f.qnan, false))
  else
    match inf with
    | some s =>
      if f.isInt then (if s then (2 ^ (f.bits - 1), true) else (2 ^ (f.bits - 1) - 1, true))
      else (f.infinite s (toMax && f == .e4m3), false)
    | none => if f.isInt then f.roundInt neg x else (f.roundFloat neg toMax x, false)

/-- The integer square root, bit by bit from bit `k`. -/
def isqrt (n : Nat) : Nat → Nat → Nat
  | 0, r => if (r + 1) * (r + 1) ≤ n then r + 1 else r
  | k + 1, r => isqrt n k (if (r + 2 ^ (k + 1)) * (r + 2 ^ (k + 1)) ≤ n then r + 2 ^ (k + 1) else r)

/-- A result before its rounding. -/
inductive Exact where
  | nan
  | inf (neg : Bool)
  | mag (neg : Bool) (x : Mag)
deriving DecidableEq, Repr

def Exact.ofNum : Num → Exact
  | .nan => .nan
  | .inf s => .inf s
  | .fin s m e => .mag s ⟨m, e, false⟩

def Fmt.rnd (f : Fmt) (toMax : Bool) (x : Exact) : Nat × Bool :=
  match x with
  | .nan => f.round toMax true none false ⟨0, 0, false⟩
  | .inf s => f.round toMax false (some s) s ⟨0, 0, false⟩
  | .mag s m => f.round toMax false none s m

/-- The exact quotient of two magnitudes, to 200 bits and a rest. -/
def divMag (m1 : Nat) (e1 : Int) (m2 : Nat) (e2 : Int) : Mag :=
  let up := 200 + lenOf m2
  ⟨(m1 <<< up) / m2, e1 - e2 - up, (m1 <<< up) % m2 != 0⟩

/-- SQRT (R236): √(−0) = −0, a negative operand gives qNaN. -/
def Num.sqrt (x : Num) : Exact :=
  match x with
  | .nan => .nan
  | .inf true => .nan
  | .inf false => .inf false
  | .fin s m e =>
    if m = 0 then .mag s ⟨0, 0, false⟩
    else if s then .nan
    else
      let up := 200 + (if e % 2 = 0 then 0 else 1)
      let n := m <<< up
      let r := isqrt n ((lenOf n + 1) / 2) 0
      .mag false ⟨r, (e - up) / 2, r * r != n⟩

/-- RECIP (R236): ±0 gives ±Inf. -/
def Num.recip (x : Num) : Exact :=
  match x with
  | .nan => .nan
  | .inf s => .mag s ⟨0, 0, false⟩
  | .fin s m e => if m = 0 then .inf s else .mag s (divMag 1 0 m e)

/-- MUL (R236); an infinity times zero is NaN. -/
def Num.mul (x y : Num) : Exact :=
  match x, y with
  | .nan, _ | _, .nan => .nan
  | .inf s, .inf t => .inf (Bool.xor s t)
  | .inf s, .fin t m _ => if m = 0 then .nan else .inf (Bool.xor s t)
  | .fin s m _, .inf t => if m = 0 then .nan else .inf (Bool.xor s t)
  | .fin s m e, .fin t n d => .mag (Bool.xor s t) ⟨m * n, e + d, false⟩

end Sys2Proof.Machine
end

