-- ==== Sys2Proof/Machine/Flags.lean ====
section
/-!
DEFINITION. Machine/Flags.lean: the comparisons and flag computations of the mortar: the order of
R228, the predicates of CMP and the flag operations of FLOG (R236), and the status bits of lanes as
they combine (R223).
-/

namespace Sys2Proof.Machine

/-- Two finite numbers brought to one exponent, as signed integers. -/
def alignNum (s : Bool) (m : Nat) (e : Int) (t : Bool) (n : Nat) (d : Int) : Int × Int :=
  let lo := min e d
  let a : Int := m * 2 ^ (e - lo).toNat
  let b : Int := n * 2 ^ (d - lo).toNat
  (if s then -a else a, if t then -b else b)

/-- Exact comparison of two numbers that are not NaN: less and equal; −0 equals +0. -/
def Num.cmp (x y : Num) : Ordering :=
  match x, y with
  | .inf s, .inf t => if s = t then .eq else if s then .lt else .gt
  | .inf s, _ => if s then .lt else .gt
  | _, .inf t => if t then .gt else .lt
  | .fin s m e, .fin t n d =>
    let p := alignNum s m e t n d
    if p.1 < p.2 then .lt else if p.1 = p.2 then .eq else .gt
  | .nan, _ | _, .nan => .eq

/-- The order of MIN and MAX (R228, R236): numeric, with −0 below +0. -/
def Num.below (x y : Num) : Bool :=
  match x.cmp y with
  | .lt => true
  | .gt => false
  | .eq =>
    match x, y with
    | .fin s m _, .fin t n _ => m == 0 && n == 0 && s && !t
    | _, _ => false

/-- The smaller or the larger of two numbers; a NaN in either gives NaN (R236). -/
def Num.minOf (x y : Num) : Num :=
  match x, y with
  | .nan, _ | _, .nan => .nan
  | _, _ => if y.below x then y else x

def Num.maxOf (x y : Num) : Num :=
  match x, y with
  | .nan, _ | _, .nan => .nan
  | _, _ => if x.below y then y else x

/-- The predicates of CMP (R236): any NaN makes each 0 but NE and UNORDERED. -/
def Num.pred (x y : Num) (p : Nat) : Bool :=
  let unord := x == .nan || y == .nan
  if unord then p == 1 || p == 6
  else
    match p with
    | 0 => x.cmp y == .eq
    | 1 => x.cmp y != .eq
    | 2 => x.cmp y == .lt
    | 3 => x.cmp y != .gt
    | 4 => x.cmp y == .gt
    | 5 => x.cmp y != .lt
    | _ => false

/-- CLIP (R236): min(1, SB / SA). -/
def Num.clip (x y : Num) : Exact :=
  match x, y with
  | .nan, _ | _, .nan => .nan
  | .inf true, _ => Exact.ofNum .one
  | .inf false, _ => Exact.ofNum .zero
  | .fin s m e, y =>
    if s || m = 0 then Exact.ofNum .one
    else
      match y with
      | .nan => .nan
      | .inf true => .inf true
      | .inf false => Exact.ofNum .one
      | .fin t n d =>
        if !t && (Num.fin t n d).cmp (.fin s m e) != .lt then Exact.ofNum .one
        else .mag t (divMag n d m e)

/-- FLOG (R236). -/
def flogOp (p : Nat) (a b : Bool) : Bool :=
  match p % 4 with
  | 0 => a && b
  | 1 => a || b
  | 2 => a && !b
  | _ => !a

/-- The status bits of two lanes combined: NONE is the AND, the others the OR (R223). -/
def LaneVal.status (a b : LaneVal) (v : LaneVal) : LaneVal :=
  { v with
    nan := a.nan || b.nan
    pinf := a.pinf || b.pinf
    ninf := a.ninf || b.ninf
    range := a.range || b.range
    empty := a.empty && b.empty }

end Sys2Proof.Machine
end

