-- ==== Sys2Proof/Machine/Finish.lean ====
section
/-!
DEFINITION. Machine/Finish.lean: the mortar as pure functions: lane configuration and contributions
(R227 to R232), the wire form of arrivals and releases (R233, R234) and the finish program
(R235 to R238).
-/

namespace Sys2Proof.Machine

/-! ### Lanes -/

/-- The operations of a lane, in their OP order (R227). -/
inductive LaneOp where
  | sum | min | max | and | or | nonfinite | argmin | argmax
deriving DecidableEq, Repr

def LaneOp.ofCode : Nat → Option LaneOp
  | 0 => some .sum
  | 1 => some .min
  | 2 => some .max
  | 3 => some .and
  | 4 => some .or
  | 5 => some .nonfinite
  | 6 => some .argmin
  | 7 => some .argmax
  | _ => none

/-- The operation and format of a lane configuration word; a word the write check lets pass always
has both. -/
structure LaneCfg where
  op : LaneOp
  fmt : Fmt
deriving DecidableEq, Repr

def LaneCfg.of (w : Word) : LaneCfg :=
  { op := (LaneOp.ofCode (Word.field w 24 4)).getD .sum
    fmt := (Fmt.ofCode (Word.field w 16 3)).getD .fp32 }

/-- A lane configuration word is refused for an OP of 8 or more, FMT 7, or an FMT the OP does not
allow (R227). -/
def laneCfgGood (w : Word) : Bool :=
  match LaneOp.ofCode (Word.field w 24 4), Fmt.ofCode (Word.field w 16 3) with
  | some op, some fmt =>
    match op with
    | .and | .or => fmt == .int64
    | .nonfinite => !fmt.isInt
    | _ => true
  | _, _ => false

/-- Whether a lane is marked MTEXT (R227). -/
def LaneCfg.mtext (l : LaneCfg) : Bool :=
  match l.op with
  | .sum | .min | .max => l.fmt == .e4m3 || l.fmt == .e5m2
  | .and | .or => false
  | .nonfinite | .argmin | .argmax => true

def LaneOp.isArg (o : LaneOp) : Bool := o == .argmin || o == .argmax

/-- A lane that has received no contribution carries its identity (R228). -/
def laneIdentity (l : LaneCfg) : LaneVal :=
  { val := if l.op == .and then 0xFFFFFFFFFFFFFFFF else 0, addr := 0, nan := false, pinf := false,
    ninf := false, range := false, empty := true }

/-- Whether value `x` displaces `y` on a MIN, MAX, ARGMIN or ARGMAX lane; equal values go to the lower
member address (R228). -/
def LaneCfg.wins (l : LaneCfg) (x : LaneVal) (y : LaneVal) : Bool :=
  let a := l.fmt.read (x.val % 2 ^ 64).toNat
  let b := l.fmt.read (y.val % 2 ^ 64).toNat
  let better := if l.op == .min || l.op == .argmin then a.below b else b.below a
  better || (l.op.isArg && !(a.below b) && !(b.below a) && decide (x.addr < y.addr))

/-- Two lane values combined, in any order (R223, R228). -/
def LaneCfg.merge (l : LaneCfg) (a b : LaneVal) : LaneVal :=
  let v : LaneVal :=
    if a.empty then b
    else if b.empty then a
    else
      match l.op with
      | .sum | .nonfinite => { a with val := a.val + b.val }
      | .and => { a with val := ((a.val.toNat &&& b.val.toNat : Nat) : Int) }
      | .or => { a with val := ((a.val.toNat ||| b.val.toNat : Nat) : Int) }
      | .min | .max | .argmin | .argmax => if l.wins b a then b else a
  LaneVal.status a b v

/-- The lane value of one contribution of a mailbox, and whether it was excluded as non-finite
(R228, R230, R231). -/
def LaneCfg.contribute (l : LaneCfg) (w addr : Nat) : LaneVal × Bool :=
  let z := laneIdentity l
  let x := l.fmt.read w
  let bits : Int := ((w % 2 ^ l.fmt.bits : Nat) : Int)
  match l.op with
  | .and | .or => ({ z with val := ((w % 2 ^ 64 : Nat) : Int), empty := false }, false)
  | .nonfinite =>
    let n : Int := match x with
      | .fin _ _ _ => 0
      | _ => 1
    ({ z with val := n, empty := false }, false)
  | .sum =>
    match x with
    | .nan => ({ z with nan := true }, true)
    | .inf s => (if s then { z with ninf := true } else { z with pinf := true }, true)
    | .fin _ _ _ => ({ z with val := (x.toAcc).getD 0, empty := false }, false)
  | .min | .max | .argmin | .argmax =>
    match x with
    | .nan => ({ z with nan := true }, true)
    | _ => ({ z with val := bits, addr := if l.op.isArg then addr else 0, empty := false }, false)

/-- The output check of a SUM lane: outside −2^318 ≤ A < 2^318 its body is sent as 0 with RANGE
(R229). The flag says that this check failed. -/
def LaneCfg.output (l : LaneCfg) (v : LaneVal) : LaneVal × Bool :=
  if l.op == .sum && (v.val < -(2 ^ 318) || v.val ≥ 2 ^ 318) then
    ({ v with val := 0, range := true }, true)
  else (v, false)

/-! ### Wire form of an arrival (R233) -/

/-- The 320 bits of a slot as a number. -/
def slotOf (l : LaneCfg) (v : LaneVal) (course gen : Nat) (det : Bool) : Nat :=
  let body : Nat :=
    match l.op with
    | .sum => ((v.val / 2 ^ 11) % 2 ^ 308).toNat
    | .nonfinite | .and | .or => (v.val.toNat % 2 ^ 64) <<< 244
    | .min | .max | .argmin | .argmax =>
      let x := if l.fmt == .int32 then ((signedOf 32 v.val.toNat) % 2 ^ 64).toNat
        else v.val.toNat % 2 ^ 64
      (x <<< 244) + (if l.op.isArg then (v.addr % 2 ^ 24) <<< 220 else 0)
  let b (x : Bool) (i : Nat) : Nat := if x then 2 ^ i else 0
  (body <<< 12) + b v.nan 11 + b v.pinf 10 + b v.ninf 9 + b v.range 8 + b v.empty 7
    + (course % 8) * 16 + (gen % 8) * 2 + b det 0

/-- A slot read back. -/
def slotRead (l : LaneCfg) (s : Nat) : LaneVal :=
  let body := s >>> 12
  let top := (body >>> 244) % 2 ^ 64
  let a : Int := signedOf 308 body * 2 ^ 11
  { val := if l.op == .sum then a
      else if l.op == .and || l.op == .or || l.op == .nonfinite then Int.ofNat top
      else Int.ofNat (top % 2 ^ l.fmt.bits)
    addr := if l.op.isArg then (body >>> 220) % 2 ^ 24 else 0
    nan := s.testBit 11, pinf := s.testBit 10, ninf := s.testBit 9, range := s.testBit 8
    empty := s.testBit 7 }

/-- The ten words of a slot, bit 319 first. -/
def slotWords (s : Nat) : List Word := (List.range 10).map fun i => Word.part s (9 - i)

/-- A number from ten words. -/
def slotJoin (ws : List Word) : Nat := ws.foldl (fun n w => n * 2 ^ 32 + w.toNat) 0

/-- A list in pieces of sixteen. -/
def chunk16 : Nat → List Word → List (List Word)
  | 0, _ => []
  | k + 1, l => if l.length ≤ 16 then [l] else l.take 16 :: chunk16 k (l.drop 16)

/-- The cells of an ARRIVE message (R233): max(L, 1) slots of 40 bytes. -/
def arriveCells (group : Nat) (cfgs : List LaneCfg) (vals : List LaneVal) (course gen : Nat) (det : Bool) :
    List Cell :=
  let slots :=
    if cfgs.isEmpty then
      [slotOf ⟨.sum, .fp32⟩ (laneIdentity ⟨.sum, .fp32⟩) course gen det]
    else (cfgs.zip vals).map fun p => slotOf p.1 p.2 course gen det
  (chunk16 8 (slots.flatMap slotWords)).map fun ws => mkCell clsB 0x20 group ws

/-- How many cells the ARRIVE of a group with L lanes has. -/
def arriveLen (l : Nat) : Nat := (10 * max l 1 + 15) / 16

/-- The slots of a received ARRIVE message. -/
def arriveSlots (l : Nat) (cells : List Cell) : List Nat :=
  let ws := cells.flatMap Cell.payload
  (List.range (max l 1)).map fun k => slotJoin ((ws.drop (10 * k)).take 10)

/-! ### Wire form of a release (R234) -/

def maskOf (bits : List Bool) : Nat :=
  (bits.zipIdx).foldl (fun n p => if p.1 then n + 2 ^ p.2 else n) 0

/-- The cells of a RELEASE. -/
def releaseCells (group : Nat) (two : Bool) (r : Release) : List Cell :=
  let c1 : List Word :=
    [BitVec.ofNat 32 r.course, Word.place (r.gen % 65536) 16 ||| BitVec.ofNat 32 (r.flags % 65536),
      Word.flag r.det 31 ||| Word.place (r.sat % 256) 16 ||| BitVec.ofNat 32 (r.range % 256),
      Word.place (r.nan % 256) 16 ||| Word.place (r.pinf % 256) 8 ||| BitVec.ofNat 32 (r.ninf % 256)]
      ++ timeWords r.trel
      ++ (List.range 8).map (fun k => BitVec.ofNat 32 (r.addrs.getD k 0xFFFFFF))
      ++ [0]
  let c2 : List Word :=
    (List.range 8).flatMap fun k => [Word.part (r.vals.getD k 0) 1, Word.part (r.vals.getD k 0) 0]
  mkCell clsB 0x21 group c1 :: (if two then [mkCell clsB 0x21 group c2] else [])

/-- A release read from its cells; a one-cell release carries no values. -/
def releaseRead (cells : List Cell) : Release :=
  let a := cells.getD 0 []
  let b := cells.getD 1 []
  { course := (Cell.word a 2).toNat
    gen := Word.field (Cell.word a 3) 16 16
    flags := Word.field (Cell.word a 3) 0 16
    det := Word.bit (Cell.word a 4) 31
    sat := Word.field (Cell.word a 4) 16 8
    range := Word.field (Cell.word a 4) 0 8
    nan := Word.field (Cell.word a 5) 16 8
    pinf := Word.field (Cell.word a 5) 8 8
    ninf := Word.field (Cell.word a 5) 0 8
    trel := Cell.time a 6
    addrs := (List.range 8).map fun k => Word.field (Cell.word a (9 + k)) 0 24
    vals := (List.range 8).map fun k =>
      (Cell.word b (2 + 2 * k)).toNat * 2 ^ 32 + (Cell.word b (3 + 2 * k)).toNat }

/-! ### The finish program (R235 to R238) -/

/-- The value of a lane as the finish program reads it (R232). -/
def LaneCfg.settle (l : LaneCfg) (v : LaneVal) : Num :=
  match l.op with
  | .sum =>
    if v.nan || (v.pinf && v.ninf) || v.range then .nan
    else if v.pinf then .inf false
    else if v.ninf then .inf true
    else Num.ofInt v.val (-160)
  | .and | .or | .nonfinite => Num.ofNat v.val.toNat
  | .min | .max | .argmin | .argmax => if v.empty then .nan else l.fmt.read v.val.toNat

/-- What a finish run holds: the values with their encodings and SAT bits, the flags, the loss scale
with its clean count, the flag of the first LSCALE, and how many writes saturated. -/
structure FinishState where
  vals : List (Num × Nat × Bool)
  flags : List Bool
  lsExp : Int
  clean : Nat
  lsFlag : Option Bool
  sats : Nat
deriving DecidableEq, Repr

/-- What a finish run reads and does not change: the lanes with their values, the constants, and the
loss-scale bounds. -/
structure FinishEnv where
  cfgs : List LaneCfg
  lanes : List LaneVal
  ks : List Nat
  minExp : Int
  maxExp : Int
  growN : Nat
deriving DecidableEq, Repr

/-- The fields of a finish word (R236). -/
def Fw.op (w : Word) : Nat := Word.field w 27 5
def Fw.fmt (w : Word) : Nat := Word.field w 24 3
def Fw.dst (w : Word) : Nat := Word.field w 20 4
def Fw.sa (w : Word) : Nat := Word.field w 15 5
def Fw.sb (w : Word) : Nat := Word.field w 10 5
def Fw.fi (w : Word) : Nat := Word.field w 6 4
def Fw.param (w : Word) : Nat := Word.field w 0 6

/-- A finish word that a write may set (R236): LSCALE reads no selector, FLOG and NFTEST use the
selector bits for other things. -/
def finishWordGood (w : Word) : Bool :=
  let op := Fw.op w
  let isV := decide (1 ≤ op ∧ op ≤ 6) || op == 8 || op == 9 || op == 10
  let readsA := decide (1 ≤ op ∧ op ≤ 9)
  let readsB := [4, 5, 6, 7, 8, 9].contains op
  decide (op ≤ 0x0C) && Fw.fmt w != 7
    && (!readsA || decide (Fw.sa w ≤ 0x16)) && (!readsB || decide (Fw.sb w ≤ 0x16))
    && (!isV || decide (Fw.dst w ≤ 7)) && !(op == 7 && Fw.param w % 8 == 7)

/-- An operand selector's exact value (R235, R236). -/
def FinishState.operand (s : FinishState) (e : FinishEnv) (f : Fmt) (sel : Nat) : Num :=
  if sel < 8 then
    match e.cfgs[sel]?, e.lanes[sel]? with
    | some l, some v => l.settle v
    | _, _ => .zero
  else if sel < 16 then ((s.vals.getD (sel - 8) (.zero, 0, false))).1
  else if sel < 20 then f.read (e.ks.getD (sel - 16) 0)
  else if sel = 20 then .fin false 1 s.lsExp
  else if sel = 21 then .one
  else .zero

/-- A value written, rounded once. -/
def FinishState.setV (s : FinishState) (f : Fmt) (d : Nat) (toMax : Bool) (x : Exact) : FinishState :=
  let r := f.rnd toMax x
  { s with
    vals := s.vals.set d (f.read r.1, r.1, r.2)
    sats := if r.2 then s.sats + 1 else s.sats }

/-- LSCALE (R238): the first in a run updates the scale and the clean count. -/
def FinishState.lscale (s : FinishState) (e : FinishEnv) (fi : Nat) (inv : Bool) : FinishState :=
  match s.lsFlag with
  | some _ => s
  | none =>
    if e.lanes.all (fun v => v.empty) then { s with lsFlag := some (Bool.xor true inv) }
    else if s.flags.getD fi false then
      { s with lsExp := max (s.lsExp - 1) e.minExp, clean := 0, lsFlag := some (Bool.xor true inv) }
    else
      let n := s.clean + 1
      if n ≥ e.growN then
        { s with lsExp := min (s.lsExp + 1) e.maxExp, clean := 0, lsFlag := some (Bool.xor false inv) }
      else { s with clean := n, lsFlag := some (Bool.xor false inv) }

/-- One finish word. -/
def FinishState.word (s : FinishState) (e : FinishEnv) (w : Word) : FinishState :=
  let f := (Fmt.ofCode (Fw.fmt w)).getD .fp32
  let a := s.operand e f (Fw.sa w)
  let b := s.operand e f (Fw.sb w)
  let toMax := Fw.param w % 2 == 1
  let d := Fw.dst w
  match Fw.op w with
  | 0x01 => s.setV f d toMax (Exact.ofNum a)
  | 0x02 => s.setV f d toMax a.sqrt
  | 0x03 => s.setV f d toMax a.recip
  | 0x04 => s.setV f d toMax (a.mul b)
  | 0x05 => s.setV f d toMax (Exact.ofNum (a.minOf b))
  | 0x06 => s.setV f d toMax (Exact.ofNum (a.maxOf b))
  | 0x07 => { s with flags := s.flags.set d (a.pred b (Fw.param w % 8)) }
  | 0x08 => s.setV f d toMax (Exact.ofNum (if s.flags.getD (Fw.fi w) false then a else b))
  | 0x09 => s.setV f d toMax (a.clip b)
  | 0x0A =>
    let s := s.lscale e (Fw.fi w) ((Fw.param w).testBit 4)
    let s := s.setV f d true (.mag false ⟨1, s.lsExp, false⟩)
    { s with flags := s.flags.set (Fw.param w % 16) (s.lsFlag.getD false) }
  | 0x0B =>
    let mask := Word.field w 10 8
    let hit := (e.lanes.zipIdx).any fun p =>
      mask.testBit p.2 && (p.1.nan || p.1.pinf || p.1.ninf || p.1.range)
    { s with flags := s.flags.set d hit }
  | 0x0C =>
    let fa := s.flags.getD (Fw.sa w % 16) false
    let fb := s.flags.getD (Fw.sb w % 16) false
    { s with flags := s.flags.set d (flogOp (Fw.param w) fa fb) }
  | _ => s

/-- A finish run (R235). -/
def finishRun (e : FinishEnv) (prog : List Word) (lsExp : Int) (clean : Nat) : FinishState :=
  prog.foldl (fun s w => s.word e w)
    { vals := List.replicate 8 (.zero, 0, false), flags := List.replicate 16 false, lsExp := lsExp,
      clean := clean, lsFlag := none, sats := 0 }

end Sys2Proof.Machine
end

