-- ==== Sys2Proof/Machine/Monitor.lean ====
section
/-!
DEFINITION. Machine/Monitor.lean: snapshots, clears and freezes of the counters and histogram units
(R346 to R350, R356). The counting itself is in Machine/Ops.lean.
-/

namespace Sys2Proof.Machine

/-- A snapshot (R349): every counter is copied, the units with SNAPSTOP stop and let go what waits (R357), and only then is it
counted and flagged. It is not recorded. Its time is that of the start of the LCLK cycle. -/
def Chip.snapTake (c : Chip) : Chip :=
  let stops := (List.range 16).filter fun u => Word.bit (c.reg Reg.HS_UCFG u) 29
  let c := stops.foldl (fun c u => c.modHs u fun x => { x with stopped := true, queue := [] }) c
  let mn := c.mn
  let c := { c with mn := { mn with
    snap := mn.counts, psnap := mn.pins, snapSeq := (mn.snapSeq + 1) % 2 ^ 32, snapAt := c.cycleTime } }
  c.note Event.MN_SNAP

/-- A snapshot time is armed; one already armed is replaced and reported (R350). -/
def Chip.snapArm (c : Chip) (t : Nat) : Chip :=
  let c := if c.mn.armed.isSome then c.report Event.MN_SNAP_REPL else c
  { c with mn := { c.mn with armed := some t } }

def Chip.snapCancel (c : Chip) : Chip := { c with mn := { c.mn with armed := none } }

/-- An armed snapshot has fallen due, in the first LCLK cycle that begins at or after its time: taken, or withheld while time is not valid (R350). -/
def Chip.snapDue (c : Chip) : Chip :=
  match c.mn.armed with
  | none => c
  | some t =>
    if t ≤ c.cycleTime then
      let c := c.snapCancel
      if c.tk.valid then c.snapTake else c.report Event.MN_SNAP_INVALID
    else c

/-- NOW takes a snapshot in the next cycle; an armed one that is due is consumed by it (R349, R357). -/
def Chip.snapNow (c : Chip) : Chip :=
  match c.mn.armed with
  | some t => if t ≤ c.cycleTime then c.snapCancel.snapTake else c.snapTake
  | none => c.snapTake

/-- A counter is zeroed (R343, R346). -/
def Chip.counterZero (c : Chip) (k : Nat) : Chip :=
  { c with mn := { c.mn with counts := SMap.erase c.mn.counts k } }

def Chip.countersZero (c : Chip) : Chip := { c with mn := { c.mn with counts := [] } }

def Chip.pinZero (c : Chip) (k : Nat) : Chip :=
  { c with mn := { c.mn with pins := SMap.erase c.mn.pins k } }

/-- Whether a pin counter's source and mode exist in the role (R348). -/
def pinCfgGood (hub : Bool) (w : Word) : Bool :=
  let src := Word.field w 0 16
  let listed :=
    (!hub && decide (src < 0x400)) || decide (0x400 ≤ src ∧ src < 0x408)
      || (hub && decide (0x410 ≤ src ∧ src < 0x418)) || src == 0x420 || src == 0x421
      || decide (0x430 ≤ src ∧ src < 0x434) || decide (0x440 ≤ src ∧ src < 0x448)
  listed && decide (Word.field w 28 3 ≤ 5)

/-- A histogram unit is emptied; a stop by a snapshot stands (R356). -/
def Chip.hsEmpty (c : Chip) (u : Nat) : Chip :=
  c.modHs u fun x => { HsUnit.reset with stopped := x.stopped, cyc := x.cyc, dropRep := x.dropRep }

def Chip.hsRestart (c : Chip) (u : Nat) : Chip := c.modHs u fun x => { x with stopped := false }

/-- SNAPSHOT_DUE (R350). -/
def execSnapshotDue (s : State) : Host.Outcome State Fault Refusal := s.run Chip.snapDue

end Sys2Proof.Machine
end

