-- ==== Sys2Proof/Machine/Taps.lean ====
section
/-!
DEFINITION. Machine/Taps.lean: the region taps (R153 to R175): chain calibration and drift, triggers at
the tap, region periods and stops, crossings, and the engines the taps watch.
-/

namespace Sys2Proof.Machine

/-! ### Access -/

def Chip.tap (c : Chip) (t : Nat) : TapState := SMap.find c.rt.taps t .reset
def Chip.modTap (c : Chip) (t : Nat) (f : TapState → TapState) : Chip :=
  { c with rt := { c.rt with taps := SMap.put c.rt.taps t .reset (f (c.tap t)) } }

def Chip.line (c : Chip) (n : Nat) : LineState := SMap.find c.rt.lines n .reset
def Chip.modLine (c : Chip) (n : Nat) (f : LineState → LineState) : Chip :=
  { c with rt := { c.rt with lines := SMap.put c.rt.lines n .reset (f (c.line n)) } }

/-- Every armed line changed. -/
def Chip.mapArmed (c : Chip) (f : Nat → LineArm → Option LineArm) : Chip :=
  { c with rt := { c.rt with
    lines := SMap.update c.rt.lines .reset fun n x => { x with armed := x.armed.bind (f n) } } }

def Chip.xc (c : Chip) (n : Nat) : XcState := SMap.find c.rt.xcs n .reset
def Chip.modXc (c : Chip) (n : Nat) (f : XcState → XcState) : Chip :=
  { c with rt := { c.rt with xcs := SMap.put c.rt.xcs n .reset (f (c.xc n)) } }

def Chip.eng (c : Chip) (n : Nat) : EngState := SMap.find c.rt.engs n .reset
def Chip.modEng (c : Chip) (n : Nat) (f : EngState → EngState) : Chip :=
  { c with rt := { c.rt with engs := SMap.put c.rt.engs n .reset (f (c.eng n)) } }

/-- The parameters of an RT record: the tap, the line or crossing, and the second parameter. -/
def rtRep (tap : Nat) (n : Option Nat) (second : Option Nat := none) : Rep :=
  { p1 := BitVec.ofNat 32 tap ||| Word.place (n.getD 0) 16
    p2 := second.map (BitVec.ofNat 32)
    inst := some tap }

/-- A tap is enabled and its chain is good; a trigger due on another is lost (R160). While the chain is being
calibrated, a tap without CAL_OK fires all the same (R156). A tap past the end of the chain has no chain. -/
def Chip.tapLive (c : Chip) (t : Nat) : Bool :=
  t < c.id.ntaps && ((c.tap t).chainOk || (c.rt.calBusy && !(c.tap t).calOk)) && Word.bit (c.reg Reg.RT_TCFG t) 31

/-- Present stamp in 1/64 tick of FRC. -/
def Chip.frc64 (c : Chip) (phase : Nat) : Nat := c.tk.frc * 64 + phase

/-! ### Chain calibration and drift (R156, R157) -/

/-- What calibration writes at a tap from its hop: TRIM, HOP_TICKS and CUM_TICKS (R156); a tap that has a time
already keeps it up to the next boundary (R157). `good` says that every hop before it in the branch is good. -/
def Chip.calTap (c : Chip) (t cum : Nat) (good : Bool) (m : HopMeas) : Chip × Nat × Bool :=
  let ok := good && decide (m.trip ≤ 1024 ∧ m.spread ≤ 4)
  let lat := m.trip / 2
  let cum' := cum + lat / 64
  if ok then
    let set (x : TapState) : TapState :=
      let x := { x with calOk := true, echo := m.trip, drift := 0, move := 0 }
      if x.chainOk then { x with recal := some (lat % 64, lat / 64, cum') }
      else { x with chainOk := true, trim := lat % 64, hopTicks := lat / 64, cumTicks := cum' }
    (c.modTap t set, cum', true)
  else
    ((c.modTap t fun x => { x with calOk := false, chainOk := true }).report Event.RT_TAP_UNCAL
      (rtRep t none), cum', false)

/-- Whether the calibration under way takes a tap: one that a stop has not taken out of it (R175). -/
def Chip.calTakes (c : Chip) (t : Nat) : Bool :=
  !(c.rt.calLeft.contains t) && (match c.rt.calOnly with
    | none => true
    | some l => l.contains t)

/-- Calibration of the taps from `t` on with their measurements, branch by branch of 64; a tap that it does not
take stays as it is. -/
def Chip.calTaps (c : Chip) : List HopMeas → Nat → Nat → Nat → Bool → Chip
  | _, 0, _, _, _ => c
  | ms, k + 1, t, cum, good =>
    let start := t % 64 == 0
    let r :=
      if c.calTakes t then c.calTap t (if start then 0 else cum) (start || good) (ms.headD ⟨2048, 0⟩)
      else (c, (c.tap t).cumTicks, (c.tap t).calOk)
    r.1.calTaps ms.tail k (t + 1) r.2.1 r.2.2

/-- Chain calibration starts (R156): at bring-up or on RT_CMD.CAL. -/
def Chip.chainCal (c : Chip) : Chip :=
  if c.id.hub then c else { c with rt := { c.rt with calBusy := true, calOnly := none, calLeft := [] } }

/-- A stop abandons the calibration under way at its tap (R175). -/
def Chip.calAbandon (c : Chip) (t : Nat) : Chip :=
  if c.rt.calBusy && c.calTakes t then { c with rt := { c.rt with calLeft := t :: c.rt.calLeft } } else c

/-- An abandoned calibration restarts with its region (R175): within the one under way, or on its own. -/
def Chip.calRestart (c : Chip) (t : Nat) : Chip :=
  if c.rt.calLeft.contains t then
    { c with rt := { c.rt with
      calLeft := c.rt.calLeft.filter fun k => k != t
      calOnly := if c.rt.calBusy then c.rt.calOnly.map fun l => t :: l else some [t]
      calBusy := true } }
  else c

/-- A command of a tap that the chain has (R7, R153). -/
def State.runTap (s : State) (t : Nat) (f : Chip → Chip) : Host.Outcome State Fault Refusal :=
  if !s.chip.id.hub && t < s.chip.id.ntaps then s.run f else .fault .notPresent

/-- DRIFT_CHECK (R157): the round trip is compared with its calibrated value; where they differ, a step is due at
the next boundary. -/
def execDriftCheck (t : Tap) (trip : BitVec 16) (s : State) : Host.Outcome State Fault Refusal :=
  s.runTap t.val fun c =>
    let x := c.tap t.val
    let d : Int := (trip.toNat : Int) - x.echo
    let step : Int := if 1 ≤ d then 1 else if d ≤ -1 then -1 else 0
    if x.calOk then c.modTap t.val fun x => { x with move := step } else c

/-- A boundary at a tap: a recalibrated time is taken (R157), and TRIM moves by the step due, or at the limit of
DRIFT CAL_OK is lost instead (R157, R175). A TRIM that leaves its six bits wraps and moves neither HOP_TICKS nor
CUM_TICKS (DESIGN CHOICE, log entry 42: R157 does not say where the carry goes). -/
def Chip.tapBoundary (c : Chip) (t : Nat) : Chip :=
  let c := c.modTap t fun x =>
    match x.recal with
    | some (a, h, m) => { x with trim := a, hopTicks := h, cumTicks := m, recal := none }
    | none => x
  let x := c.tap t
  if x.move = 0 then c
  else if x.drift + x.move > 8 || x.drift + x.move < -8 then
    (c.modTap t fun x => { x with calOk := false, move := 0 }).report Event.RT_TAP_UNCAL (rtRep t none)
  else c.modTap t fun x =>
    { x with trim := (((x.trim : Int) + x.move) % 64).toNat, drift := x.drift + x.move, move := 0 }

/-- What a boundary brings the taps. -/
def Chip.trimMoves (c : Chip) : Chip := (c.rt.taps.map fun e => e.1).foldl Chip.tapBoundary c

/-- A tap's FRC copy mismatched the forwarded FRC at a boundary (R155). -/
def Chip.chainFault (c : Chip) (t : Nat) : Chip :=
  if !c.id.hub && t < c.id.ntaps && (c.tap t).chainOk then
    (c.modTap t fun x => { x with calOk := false }).report Event.RT_CHAIN_FAULT (rtRep t none)
  else c

/-! ### Report windows (R164) -/

/-- The report boundaries that have passed move every tap's report counters: of two with no region event between
them, the later one's window is empty. -/
def Chip.rollTaps (c : Chip) : Chip :=
  let passed := c.rt.reports.filter fun b => decide (b ≤ c.now)
  if passed.isEmpty then c
  else
    let one := passed.length == 1
    let move (x : TapState) : TapState :=
      { x with
        repCyc := if one then x.strCyc else 0, repSum := if one then x.strSum else 0
        repMax := if one then x.strMax else 0, strCyc := 0, strSum := 0, strMax := 0 }
    { c with rt := { c.rt with
      reports := c.rt.reports.filter fun b => decide (c.now < b)
      taps := SMap.update c.rt.taps .reset fun _ x => move x } }

/-- A course base of a group entry: a report boundary while RT_CFG names the entry and RPT_EN is 1. -/
def Chip.reportBase (c : Chip) (g base : Nat) : Chip :=
  let c := c.rollTaps
  let cfg := c.reg Reg.RT_CFG
  if Word.bit cfg 31 && Word.field cfg 0 8 == g then { c with rt := { c.rt with reports := c.rt.reports ++ [base] } }
  else c

/-- A write of RT_CFG: boundaries that have passed are taken under the old setting; of the entry named from now on,
a base still to come is a boundary. -/
def Chip.reportConfig (c : Chip) (w : Word) : Chip :=
  let c := c.rollTaps
  let old := c.reg Reg.RT_CFG
  let c := c.setReg Reg.RT_CFG w
  let w := c.reg Reg.RT_CFG
  let g := Word.field w 0 8
  let due :=
    if !(Word.bit w 31) then []
    else if Word.bit old 31 && Word.field old 0 8 == g then c.rt.reports
    else match (c.ent g).latest with
      | some r => if c.now < r.trel then [r.trel] else []
      | none => []
  { c with rt := { c.rt with reports := due } }

/-! ### Triggers -/

/-- A line leaves the outstanding lines of the thread's FIRE (R207). -/
def Chip.lineGone (c : Chip) (t line : Nat) : Chip :=
  c.modTh t fun x => { x with lines := x.lines.filter fun n => n != line }

/-- A line that does not fire: its course loses DET, and it is gone from its FIRE (R207). -/
def Chip.lineLost (c : Chip) (a : LineArm) (n : Nat) : Chip :=
  if a.solo then c else (c.detClear a.grp a.course).lineGone a.thread n

/-- A trigger falls due without launch authority (R24): every line of the set on a tap that could fire is withheld,
the event is reported once, and the thread stops at its FIRE in AUTH_HOLD. A line of the set on a dead tap is lost at
its own tap moment (R160). -/
def Chip.withhold (c : Chip) (a : LineArm) : Chip :=
  let same (n : Nat) (b : LineArm) : Bool :=
    b.thread == a.thread && b.tf == a.tf && b.moment.isNone && !b.solo && c.tapLive (n / 4)
  let c := c.mapArmed fun n b => some (if same n b then { b with withheld := true } else b)
  let c := c.detClear a.grp a.course
  if (c.th a.thread).mode == .authHold then c
  else
    let c := c.report Event.SQ_AUTH_WITHHELD (c.sqRep a.thread)
    if (c.th a.thread).mode == .waitF then c.modTh a.thread fun x => { x with mode := .authHold } else c

/-- A trigger due on a dead tap is discarded and reported (R160). -/
def Chip.lineDead (c : Chip) (n : Nat) (a : LineArm) : Chip :=
  ((c.modLine n fun x => { x with armed := none }).report Event.RT_TRIG_LOST (rtRep (n / 4) (some n))).lineLost a n

/-- The tap moment of an armed line (R160): lost on a dead tap, withheld without authority, or passed
on to the next region edge. -/
def Chip.tapMoment (c : Chip) (n at_ : Nat) : Chip :=
  match (c.line n).armed with
  | none => c
  | some a =>
    let t := n / 4
    if !c.tapLive t then c.lineDead n a
    else if a.solo || c.tapAuthority a.grp then
      c.modLine n fun x => { x with armed := some { a with
        moment := some at_, calOk := (c.tap t).calOk, inStop := (c.tap t).stopped } }
    else c.withhold a

/-- The Guard's bounds on a line (R302): spacing from the previous fire edge, and pulse width. -/
def Chip.trigBound (c : Chip) (n tf : Nat) : Option Word :=
  let lim := c.reg Reg.GD_TRIGLIM
  let near :=
    match (c.line n).lastFire with
    | some l => decide (((tf : Int) - l) * 1000 < Word.field lim 16 16 * 2 ^ 32)
    | none => false
  let thin := decide ((c.tap (n / 4)).rper * 625 < Word.field lim 0 16 * 64)
  if near || thin then some lim else none

/-- A TRIG_BOUND report (R302). -/
def Chip.trigBoundRep (c : Chip) (n thread tf : Nat) : Chip :=
  c.report Event.GD_TRIG_BOUND
    { p1 := BitVec.ofNat 32 (n / 4) ||| Word.place thread 16, p2 := nsLow tf, p3 := BitVec.ofNat 32 n }

/-- An arm is placed at its tap, or refused as TRIG_BUSY or by a Guard bound (R160, R302, R206). -/
def Chip.placeArm (c : Chip) (n : Nat) (a : LineArm) : Chip :=
  if (c.line n).armed.isSome then
    (c.report Event.RT_TRIG_BUSY (rtRep (n / 4) (some n))).lineLost a n
  else if (c.trigBound n a.tf).isSome then (c.trigBoundRep n a.thread a.tf).lineLost a n
  else
    let c := c.modLine n fun x => { x with armed := some a }
    if a.tf < c.now then
      let c :=
        if a.solo then c
        else (c.report Event.SQ_TARDY (c.sqRep a.thread)).detClear a.grp a.course
      c.tapMoment n c.now
    else c

/-- The first arm on its way to a line, and the others. -/
def takeFlight (n : Nat) : List ArmFlight → Option (ArmFlight × List ArmFlight)
  | [] => none
  | a :: r =>
    if a.line = n then some (a, r)
    else (takeFlight n r).map fun p => (p.1, a :: p.2)

/-- ARM_ARRIVE (R206): the first arm on its way to the line reaches the tap. -/
def execArmArrive (l : Line) (s : State) : Host.Outcome State Fault Refusal :=
  s.runDie fun c =>
    match takeFlight l.val c.sq.flights with
    | none => c
    | some (a, rest) =>
      let c := { c with sq := { c.sq with flights := rest } }
      if a.cancelled then c
      else
        c.placeArm l.val
          { tf := a.tf, thread := a.thread, course := a.course, grp := a.grp, ctx := a.ctx,
            moment := none, calOk := false, withheld := false, inStop := false, solo := false }

/-- TAP_MOMENT (R160): the tick that holds the tap moment of an armed line. -/
def execTapMoment (l : Line) (s : State) : Host.Outcome State Fault Refusal :=
  s.runDie fun c =>
    match (c.line l.val).armed with
    | some a => if a.moment.isNone && !a.withheld && a.tf < c.tk.stamp (c.tk.frc + 1) 0 then c.tapMoment l.val a.tf else c
    | none => c

/-- The fire budget of a tap in 1/64 tick (R161). -/
def Chip.fireBudget (c : Chip) (t : Nat) : Nat :=
  let b := Word.field (c.reg Reg.RT_TCFG t) 0 16
  if b = 0 then 2 * (c.tap t).rper else b

/-- A line fires on a region edge at `edge`, and is high for a region cycle (R159, R161, R164). -/
def Chip.fire (c : Chip) (n phase edge : Nat) (a : LineArm) : Chip :=
  let t := n / 4
  let rise := c.frc64 phase
  let flat := satNat 24 ((edge - a.tf) / unit64)
  let late := decide (flat > c.fireBudget t) || a.inStop
  let c := c.rollTaps
  let c := c.modLine n fun x =>
    { x with armed := none, flat := flat, late := late, lastFire := some edge,
             rise := rise, cycle := none
             fired := (a.ctx, edge) :: x.fired.filter fun p => p.1 != a.ctx }
  let c := c.modTap t fun x => { x with acc := 0 }
  let c := (c.count 0x460 (some t)).sample 0x08 t ((edge - a.tf) / unit64 : Nat)
  let c := c.pinEdges n 1 1
  let c := if late then c.report Event.RT_LATE_FIRE (rtRep t (some n) flat) else c
  if a.solo then c
  else
    let c := if late || !a.calOk then c.detClear a.grp a.course else c
    c.lineGone a.thread n

/-- A thread's armed lines that have not fired are disarmed, and its arms on their way are disarmed on
arrival (CANCEL, R196). -/
def Chip.cancelArms (c : Chip) (t : Nat) : Chip :=
  let c := c.mapArmed fun _ a => if a.thread == t && !a.solo then none else some a
  let fl := c.sq.flights.map fun a => if a.thread == t then { a with cancelled := true } else a
  { c with sq := { c.sq with flights := fl } }

/-! ### Region periods, stops and operating points -/

/-- The crossing configuration of a crossing (R167, R171). -/
def Chip.xcfg (c : Chip) (x : Nat) : Word := c.reg Reg.RT_XCFG (x / 4) (x % 4)
def Chip.xcMode (c : Chip) (x : Nat) : Nat := Word.field (c.xcfg x) 30 2
def Chip.xcSrc (c : Chip) (x : Nat) : Nat := Word.field (c.xcfg x) 0 9

/-- A crossing has a calibration for the current operating points of both regions (R168): its L_path. -/
def Chip.xcPair (c : Chip) (x : Nat) : Option Nat :=
  let d := (c.tap (x / 4)).opsel
  if SMap.has (c.xc x).lpath d && SMap.find (c.xc x).srcPoint d 4 = (c.tap (c.xcSrc x)).opsel then
    some (SMap.find (c.xc x).lpath d 0)
  else none

/-- A crossing is calibrated for the current operating points of both regions (R167), and no restart at an
uncalibrated point holds it in ASYNC (R174). -/
def Chip.xcCal (c : Chip) (x : Nat) : Option Nat := if (c.xc x).uncal then none else c.xcPair x

/-- RT_XSTAT.FALLBACK (R167): a DET crossing that runs as ASYNC for want of a calibration. -/
def Chip.xcFallback (c : Chip) (x : Nat) : Bool := c.xcMode x == 2 && (c.xcCal x).isNone

/-- The DET crossings that touch a region. -/
def Chip.xcTouching (c : Chip) (t : Nat) : List Nat :=
  (List.range 1024).filter fun x => c.xcMode x == 2 && (x / 4 == t || c.xcSrc x == t)

/-- The region stops (R172, R173, R175, R328): triggers due in the stop are late, writes in flight slip, and a
calibration of the region is abandoned. -/
def Chip.regionStop (c : Chip) (t : Nat) : Chip :=
  let c := (c.calAbandon t).modTap t fun x => { x with stopped := true, stopAt := c.tk.frc, wakeOut := [] }
  let c := c.mapArmed fun n a =>
    some (if n / 4 == t && a.moment.isSome then { a with inStop := true } else a)
  (c.xcTouching t).foldl (fun c x => c.modXc x fun y =>
    { y with writes := y.writes.map fun w => { w with slipped := w.slipped || w.boundary.isSome } }) c

/-- STOPREQ (R172): the tap answers, and the region stops; a region that stands for another reason stands until its
RUN (DESIGN CHOICE, log entry 42: the spec says nothing of a request that meets one). -/
def execStopreq (t : Tap) (s : State) : Host.Outcome State Fault Refusal :=
  s.runTap t.val fun c =>
    if (c.tap t.val).running && !(c.tap t.val).stopped then c.regionStop t.val
    else c.modTap t.val fun x => { x with hostStop := false, rstStop := false, edgeDue := false }

/-- The calibration of a crossing starts, beside that of others of its tap (R168). -/
def Chip.xcalStart (c : Chip) (n : Nat) : Chip :=
  (c.modXc n fun y => { y with busy := true }).modTap (n / 4) fun x => { x with xcal := true }

/-- A crossing in DET mode at a pair of operating points without a calibration is calibrated (R168), but for one
that waits for RT_TCMD.XCAL (R174). -/
def Chip.xcalSeek (c : Chip) (t : Nat) : Chip :=
  ((c.xcTouching t).filter fun n => (c.xcPair n).isNone && !(c.xc n).uncal).foldl Chip.xcalStart c

/-- RT_TCMD.XCAL of a tap (R168, R174): its crossings that are served are calibrated, and those that touch its region no longer run
as ASYNC for an OP_UNCAL restart. -/
def Chip.xcalWrite (c : Chip) (t : Nat) : Chip :=
  let c := (c.xcTouching t).foldl (fun c n => c.modXc n fun y => { y with uncal := false }) c
  let own := (List.range 4).filterMap fun j => if c.xcMode (4 * t + j) = 0 then none else some (4 * t + j)
  let c := own.foldl Chip.xcalStart (c.modTap t fun x => { x with xcal := true })
  c.xcalSeek t

/-- The releases into a region whose target edge fell within its stop are slips (R173): the boundary passed
while the region stood. -/
def Chip.stopSlips (c : Chip) (t acc : Nat) : Chip :=
  ((c.xcTouching t).filter fun x => x / 4 == t).foldl (fun c x => c.modXc x fun y =>
    { y with writes := y.writes.map fun w =>
      match w.boundary with
      | some r => { w with slipped := w.slipped || decide (r * 64 + acc ≤ c.frc64 0) }
      | none => w }) c

/-- A region edge ends the cycle that the tap's lines fired for: they fall (R159). A line that fired on this very edge
stays high; the cycle's length is the period that ends, or the span since the rise where a stop lay within it. -/
def Chip.linesFall (c : Chip) (t : Nat) (period : Option Nat) : Chip :=
  { c with rt := { c.rt with lines := SMap.update c.rt.lines .reset fun n x =>
    if n / 4 == t && x.cycle.isNone && x.rise / 64 < c.tk.frc then
      { x with cycle := some (period.getD (64 * c.tk.frc - x.rise)) }
    else x } }

/-- The wakes due at a region edge go high for its cycle (R166, R173). -/
def Chip.wakesDue (c : Chip) (t : Nat) : Chip :=
  let due := ((c.tap t).wakes.filter fun w => decide (w.2 ≤ c.tk.frc)).map fun w => w.1
  let c := c.modTap t fun x =>
    { x with wakeOut := due, wakes := x.wakes.filter fun w => decide (c.tk.frc < w.2) }
  due.foldl (fun c _ => c.count 0x461 (some t)) c

/-- What a stop leaves when it ends (R172, R173): the slips of the releases that fell within it, its length by
the free-running count, and STOP_LONG. -/
def Chip.stopEnd (c : Chip) (t acc : Nat) : Chip :=
  let ticks := c.tk.frc - (c.tap t).stopAt
  let len := satNat 16 (ticks * 5 / 8)
  let c := (c.stopSlips t acc).modTap t fun x => { x with stopLast := len, stopLong := max x.stopLong len }
  let c := c.note Event.RT_STOP (some t)
  if 16000 < ticks * 5 then c.report Event.RT_STOP_LONG (rtRep t none) else c

/-- A region restarts, or starts for the first time, at an operating point. A restart at a point without
calibrations is OP_UNCAL, and every DET crossing of the region runs as ASYNC from then on (R174); a first start has
its crossings calibrated (R168). -/
def Chip.regionResume (c : Chip) (t op : Nat) : Chip :=
  let x := c.tap t
  let valid := SMap.has x.opcal op
  let c := c.rollTaps.modTap t fun x =>
    { x with running := true, stopped := false, hostStop := false, rstStop := false, edgeDue := false
             opsel := op, acc := 0
             rper := if valid then SMap.find x.opcal op 0 else x.rper
             measuring := !valid }
  let c := if x.stopped then c.stopEnd t x.acc else c
  let c := (c.calRestart t).wakesDue t
  if !x.stopped then c.xcalSeek t
  else if (c.xcTouching t).any (fun n => (c.xcPair n).isNone) then
    ((c.xcTouching t).foldl (fun c n => c.modXc n fun y => { y with uncal := true }) c).report Event.RT_OP_UNCAL
      (rtRep t none)
  else c

/-- OPCAL_DONE (R174): the nominal period of the current point has been measured. -/
def execOpcalDone (t : Tap) (period : BitVec 24) (s : State) : Host.Outcome State Fault Refusal :=
  s.runTap t.val fun c =>
    let x := c.tap t.val
    if x.running && !x.stopped && x.measuring then
      c.modTap t.val fun x =>
        { x with opcal := SMap.insert x.opcal x.opsel period.toNat, rper := period.toNat, measuring := false }
    else c

/-! ### Crossings -/

/-- XC_STROBE (R167, R169): a write is strobed at the source; a crossing that is not calibrated, or is being
calibrated (R168), runs as ASYNC. -/
def execXcStrobe (x : Crossing) (phase : Fin 64) (s : State) : Host.Outcome State Fault Refusal :=
  s.runTap (x.val / 4) fun c =>
    let add (w : XcWrite) : Chip := c.modXc x.val fun y => { y with writes := y.writes ++ [w] }
    match c.xcMode x.val with
    | 0 => c
    | 2 =>
      match (if (c.xc x.val).busy then none else c.xcCal x.val) with
      | some l =>
        let w := c.frc64 phase.val - (c.tap (c.xcSrc x.val)).acc
        let a := Word.field (c.reg Reg.RT_XALLOW (x.val / 4) (x.val % 4)) 0 8
        add { boundary := some ((w + 63) / 64 + l + a), slipped := false }
      | none => add { boundary := none, slipped := false }
    | _ => add { boundary := none, slipped := false }

/-- XC_RELEASE (R169 to R171): the oldest write in flight is presented on a destination edge. -/
def execXcRelease (x : Crossing) (phase : Fin 64) (retaken : Bool) (s : State) :
    Host.Outcome State Fault Refusal :=
  s.runTap (x.val / 4) fun c =>
    let d := c.tap (x.val / 4)
    let cls := Word.field (c.xcfg x.val) 16 4
    match (c.xc x.val).writes with
    | [] => c
    | w :: rest =>
      if d.stopped || c.xcMode x.val == 0 || (w.boundary.isSome && (c.tap (c.xcSrc x.val)).stopped) then c
      else
        let done := c.modXc x.val fun y => { y with writes := rest }
        let kept := if c.xcFallback x.val then done.detClearClass cls else done
        match w.boundary with
        | none => kept
        | some r =>
          if c.frc64 phase.val - d.acc < r * 64 then c
          else if retaken || w.slipped then
            let c := (done.modXc x.val fun y => { y with slipped := true }).bump Reg.RT_XSLIP 1 (x.val / 4) (x.val % 4)
            (c.report Event.RT_CROSS_SLIP (rtRep (x.val / 4) (some x.val))).detClearClass cls
          else kept

/-- The latency of a crossing that was calibrated: stored, or too long and left uncalibrated (R168); one that has been
switched off meanwhile keeps none. -/
def Chip.xcalOne (c : Chip) (x lat : Nat) : Chip :=
  let took := (c.xc x).busy && c.xcMode x != 0
  let c := if (c.xc x).busy then c.modXc x fun y => { y with busy := false } else c
  if !took then c
  else if lat > 15 then
    (c.modXc x fun y => { y with lpath := SMap.erase y.lpath (c.tap (x / 4)).opsel }).report Event.RT_XCAL_FAIL
      (rtRep (x / 4) (some x))
  else c.modXc x fun y =>
    { y with lpath := SMap.insert y.lpath (c.tap (x / 4)).opsel lat
             srcPoint := SMap.insert y.srcPoint (c.tap (x / 4)).opsel (c.tap (c.xcSrc x)).opsel }

/-- XCAL_DONE (R168): the tap's crossings have been measured; a stopped region's wait (R175). -/
def execXcalDone (t : Tap) (lat0 lat1 lat2 lat3 : BitVec 8) (s : State) : Host.Outcome State Fault Refusal :=
  s.runTap t.val fun c =>
    let x := c.tap t.val
    if x.xcal && !x.stopped then
      let n := 4 * t.val
      (((((c.modTap t.val fun x => { x with xcal := false }).xcalOne n lat0.toNat).xcalOne (n + 1) lat1.toNat).xcalOne
        (n + 2) lat2.toNat).xcalOne (n + 3) lat3.toNat)
    else c

/-! ### Engines at the tap (R166, R332) -/

/-- A command of a watched engine of a tap that the chain has. -/
def State.runEng (s : State) (e : Engine) (f : Chip → Chip) : Host.Outcome State Fault Refusal :=
  s.runTap (e.val / 4) f

/-- The heartbeat timer restarts; a time-out shown ends unless its escalation runs (R320). -/
def EngState.restart (x : EngState) (t : Nat) : EngState :=
  { x with hbAt := t, hbto := x.hbto && (x.rstate != .normal || x.waiting) }

/-- The newest context of an engine's log that is not done gets its done time (R332). -/
def markDone (t : Nat) : List EngCtx → List EngCtx
  | [] => []
  | k :: r => if k.done.isNone then { k with done := some t } :: r else k :: markDone t r

/-- The line of a tap that fired last with a context word (R333). -/
def Chip.lineOf (c : Chip) (t : Nat) (ctx : Word) : Option Nat :=
  let hit := (List.range 4).filterMap fun j =>
    ((c.line (4 * t + j)).fired.find? fun p => p.1 == ctx).map fun p => (p.2, 4 * t + j)
  (hit.foldl (fun best p => match best with
    | none => some p
    | some q => if q.1 < p.1 then some p else some q) none).map fun p => p.2

/-- From when a heartbeat timer that restarts at a moment runs: one that stands in a host reset runs from the release,
which moves it on by the reset's span (R320, R366). -/
def Chip.hbFrom (c : Chip) (at_ : Nat) : Nat := if c.pw.hostLow then min at_ c.pw.hostAt else at_

/-- An engine's done input rises. -/
def Chip.engineDone (c : Chip) (e at_ : Nat) : Chip :=
  c.modEng e fun x => { x.restart (c.hbFrom at_) with done := true, log := markDone at_ x.log }

/-- A context starts and is logged; the log holds eight (R332). Its start ends the done that stopped the heartbeat timer
(R320); a timer that runs goes on. -/
def Chip.ctxStart (c : Chip) (e : Nat) (ctx : Word) (at_ : Nat) : Chip :=
  let k : EngCtx := { eng := e, ctx := ctx, start := nsLow at_, startT := at_, done := none,
                      line := c.lineOf (e / 4) ctx }
  c.modEng e fun x => { x with
    done := false, hbAt := if x.done then c.hbFrom at_ else x.hbAt, log := (k :: x.log).take 8 }

/-- The wake of a core slot leaves for its tap (R166): due 3 ticks plus CUM_TICKS after the grant. -/
def Chip.wake (c : Chip) (slot : Nat) : Chip :=
  c.modTap (slot / 4) fun x => { x with wakes := x.wakes ++ [(slot, c.tk.frc + 3 + x.cumTicks)] }

end Sys2Proof.Machine
end

