-- ==== Sys2Proof/Machine/Census.lean ====
section
/-!
DEFINITION. Machine/Census.lean: the census of a group (R274, R275), the down-path figures and the
launch lead (R239), and what a cell of a group meets at an entry (R279).
-/

namespace Sys2Proof.Machine

/-! ### The mortar part of an entry -/

def Chip.mtLen (c : Chip) (g : Nat) : Nat := Word.field (c.reg Reg.MT_GCFG g) 0 4
def Chip.mtFin (c : Chip) (g : Nat) : Nat := Word.field (c.reg Reg.MT_GCFG g) 8 5
def Chip.mtTwo (c : Chip) (g : Nat) : Bool := Word.bit (c.reg Reg.MT_GCFG g) 16

/-- The configurations of the lanes in use. -/
def Chip.mtCfgs (c : Chip) (g : Nat) : List LaneCfg :=
  (List.range (c.mtLen g)).map fun k => LaneCfg.of (c.reg Reg.MT_GLANE g k)

/-! ### Down-path and launch lead (R239) -/

/-- One nanosecond in the unit of the down-path figures, 1/2,560 ns: 1/64 tick is 25 units. -/
def dpNs : Nat := 2560

/-- SQ_LLAT: 16 ticks and the deepest tap of the chain (R208). -/
def Chip.llat (c : Chip) : Nat :=
  16 + (c.rt.taps.foldl (fun m e => if e.1 < c.id.ntaps then max m e.2.cumTicks else m) 0)

/-- The receive side of the hop above, and the second cell of the release. -/
def Chip.dpAbove (c : Chip) (g : Nat) : Nat :=
  25 * Word.field (c.reg Reg.LN_PMA_LAT_RX (c.groupUp g)) 0 24 + 32 * dpNs
    + (if c.mtTwo g then 65536 else 0)

/-- A member port's transmit side, wire and child figure, and whether a calculated figure is in it. -/
def Chip.dpPort (c : Chip) (g p : Nat) : Nat × Bool :=
  let kid := SMap.find (c.ent g).ports p { count := 0, fsup := 0, dp := 0, calculated := false }
  let x := c.port p
  let hop := if x.tqual then 25 * x.time.mpd.toNat else 1280 * x.time.rtt
  (25 * Word.field (c.reg Reg.LN_PMA_LAT_TX p) 0 24 + hop + kid.dp * dpNs, !x.tqual || kid.calculated)

/-- The largest member-port figure, and whether any is calculated. -/
def Chip.dpBelow (c : Chip) (g : Nat) : Nat × Bool :=
  (c.ent g).listed.foldl (fun m p =>
    let q := c.dpPort g p
    (max m.1 q.1, m.2 || q.2)) (0, false)

/-- DP, or W at the apex, exactly, and whether it is calculated (R239). -/
def Chip.dpath (c : Chip) (g : Nat) : Nat × Bool :=
  let fin := 48 * dpNs + 4 * c.mtFin g * dpNs
  if (c.ent g).apex then
    if c.id.hub then (fin + (c.dpBelow g).1, (c.dpBelow g).2) else (fin + 1600 * c.llat, false)
  else if c.id.hub then (c.dpAbove g + 20 * dpNs + (c.dpBelow g).1, (c.dpBelow g).2)
  else (c.dpAbove g + 1600 * c.llat, false)

/-- A figure rounded up to whole ns. -/
def dpCeil (x : Nat) : Nat := (x + dpNs - 1) / dpNs

/-- The launch lead in ns (R239). -/
def Chip.lead (c : Chip) (g : Nat) : Nat :=
  let w := c.reg Reg.MT_GLEAD g
  if Word.bit w 31 then Word.field w 0 24
  else
    let d := c.dpath g
    if d.2 then (3 * d.1 + 2 * dpNs - 1) / (2 * dpNs) else dpCeil d.1 + 200

/-! ### Upward census (R274) -/

/-- The group features a lane supports: LN_FEATNEG bits [2:1]. -/
def Chip.laneFeat (c : Chip) (p : Nat) : Nat := (c.port p).featNeg.toNat &&& 6

/-- COUNT of a die: 1 while its entry is sealed and counts it (R274, R282, R283). -/
def GrEntry.dieCount (e : GrEntry) : Nat :=
  if !e.state.isSealed then 0
  else if e.expelled then (if e.expDue then 1 else 0)
  else if e.admitted then (if e.admDue then 0 else 1)
  else 1

/-- The sum of the listed ports' counts, and the AND of the features that their censuses brought; a
port whose census has not come takes no part in the AND (log entry 28). -/
def GrEntry.sums (e : GrEntry) : Nat × Nat :=
  e.listed.foldl (fun m p =>
    if SMap.has e.ports p then
      let k := SMap.find e.ports p { count := 0, fsup := 0, dp := 0, calculated := false }
      (m.1 + k.count, m.2 &&& k.fsup)
    else m) (0, 6)

/-- The payload of an entry's upward CENSUS (R274). -/
def Chip.censusUp (c : Chip) (g : Nat) : List Word :=
  let e := c.ent g
  let d := c.dpath g
  let cnt := if c.id.hub then e.sums.1 else e.dieCount
  let feat := if c.id.hub then e.sums.2 &&& c.laneFeat (c.groupUp g) else c.laneFeat (c.groupUp g)
  [BitVec.ofNat 32 e.gen, BitVec.ofNat 32 (cnt % 2 ^ 25), Word.place feat 8,
    Word.flag d.2 31 ||| BitVec.ofNat 32 (dpCeil d.1 % 2 ^ 24)]

/-- An upward CENSUS leaves, on a port that is UP; a fenced die sends none (R329). -/
def Chip.censusSend (c : Chip) (g : Nat) : Chip :=
  let pay := c.censusUp g
  if c.hg.fenced then c
  else
    (c.modEnt g fun e => { e with upSent := some pay }).sendCells (c.groupUp g) clsB
      [mkCell clsB 0x22 (c.gidOf g) pay]

/-- A die's census is sent where its content has changed (R274). -/
def Chip.dieCensus (c : Chip) : Chip :=
  if c.id.hub then c
  else
    (c.gr.entries.map fun e => e.1).foldl (fun c g =>
      let e := c.ent g
      if e.state.isSealed && !e.apex && c.carries (c.groupUp g) && e.upSent != some (c.censusUp g) then
        c.censusSend g
      else c) c

/-! ### Completion (R275) -/

/-- The declared count of a barrier, with a pending change from its course onwards. -/
def GrEntry.declared (e : GrEntry) (course : Nat) : Int :=
  match e.pend with
  | some (n, d) => if n ≤ course then (e.decl : Int) + d else e.decl
  | none => e.decl

/-- FEATREQ of an entry (R276). -/
def GrEntry.featReq (e : GrEntry) : Nat := e.mode.toNat &&& 6

/-- The course of the open barrier, or of the next one. -/
def GrEntry.current (e : GrEntry) : Nat :=
  match e.barrier with
  | some n => n
  | none => e.expected.getD 0

/-- The census of a barrier is complete at the apex (R275). -/
def GrEntry.complete (e : GrEntry) (course : Nat) : Bool :=
  decide ((e.gcount : Int) = e.declared course) && e.featReq &&& e.fsup == e.featReq
    && e.state.usable

/-- CENSUS_OK goes from 0 to 1: reported, and threads in CWAIT run (R275, R195). -/
def Chip.censusDone (c : Chip) (g : Nat) : Chip :=
  let e := c.ent g
  if e.censusOk then c
  else
    ((c.modEnt g fun x => { x with censusOk := true }).report Event.GR_CENSUS_DONE
      (grRep (c.gidOf g) 0 0 e.gen)).cwaitExit g

/-- The downward CENSUS of an apex; the spec gives its COUNT and DP no value (log entry 3). -/
def Chip.censusDown (c : Chip) (g : Nat) (sig : Bool × Bool × Bool) : Chip :=
  let e := c.ent g
  let f1 := c.takeFree
  let f2 := f1.2.takeFree
  let pay : List Word :=
    [Word.flag true 31 ||| Word.flag sig.1 30 ||| Word.flag sig.2.1 29 ||| Word.flag sig.2.2 28
      ||| BitVec.ofNat 32 e.gen, f1.1 &&& 0x01FFFFFF, BitVec.ofNat 32 e.fen, f2.1 &&& 0x80FFFFFF]
  let c := f2.2.modEnt g fun x => { x with downSent := some sig }
  e.listed.foldl (fun c p => c.sendCells p clsB [mkCell clsB 0x22 (c.gidOf g) pay]) c

/-- The census of a sealed entry is judged at the apex (R275, R284): OVER, FEAT_SHORT, loss, completion,
and the downward CENSUS. `old` is GR_GCOUNT before. -/
def Chip.judgeCensus (c : Chip) (g old : Nat) : Chip :=
  let e := c.ent g
  if !e.apex || !e.state.isSealed then c
  else
    let dcl := e.declared e.current
    let short := decide ((e.gcount : Int) < dcl)
    let many := decide (dcl < (e.gcount : Int))
    let fs := e.featReq &&& e.fsup != e.featReq
    let ok := e.state.usable && !short && !many && !fs
    let rep (shortfall : Int) : Rep :=
      { grRep (c.gidOf g) 0 0 e.gen with p3 := wordOfInt shortfall }
    let c := c.modEnt g fun x =>
      { x with
        short := short, overDecl := many, featShort := fs
        fen := if x.fenFixed then x.fen else x.featReq &&& x.fsup
        fenFixed := x.fenFixed || ok }
    let c := if many && !e.overDecl then c.report Event.GR_OVER (rep 0) else c
    let c := if fs && !e.featShort then c.report Event.GR_FEAT_SHORT (rep 0) else c
    let c :=
      if e.state == .active && short && decide (e.gcount < old) then
        (c.modEnt g fun x => { x with state := if x.holdOnLoss then .lossHeld else .failed }).report
          Event.GR_GLOSS (rep (dcl - e.gcount))
      else if ok then c.modEnt g fun x => { x with state := .active }
      else c
    let c := if ok then c.censusDone g else c.modEnt g fun x => { x with censusOk := false }
    let sig := (ok, (c.ent g).state == .failed, fs)
    if (c.ent g).downSent = some sig then c else c.censusDown g sig

/-! ### Stale cells (R279) -/

/-- A stale discard: counted, flagged and recorded with its reason. -/
def Chip.stale (c : Chip) (gid port reason gen : Nat) : Chip :=
  (c.bump Reg.GR_STALECNT 1).report Event.GR_STALE (grRep gid port reason gen)

/-- The generation a cell of a group carries: the full one, or GTAG of an ARRIVE slot. -/
def cellGen (x : Cell) : Nat × Nat :=
  match x.cls, x.typ with
  | 2, 0x20 => ((Word.field (Cell.word x 11) 1 3), 8)
  | 2, 0x21 => (Word.field (Cell.word x 3) 16 16, 65536)
  | 2, 0x22 => (Word.field (Cell.word x 2) 0 16, 65536)
  | 2, 0x23 => (Word.field (Cell.word x 6) 0 16, 65536)
  | 3, _ => (Word.field (Cell.word x 7) 0 16, 65536)
  | _, _ => (Word.field (Cell.word x 2) 0 16, 65536)

/-- Reasons 1, 3, 2 and 7 of R279, in this order (log entry 27): the entry the cell meets, or the
reason it is stale. -/
def Chip.meet (c : Chip) (x : Cell) : Nat ⊕ Nat :=
  match c.findGid x.group with
  | none => .inr 1
  | some g =>
    let e := c.ent g
    if e.state == .quar then .inr 3
    else if (cellGen x).1 != e.gen % (cellGen x).2 then .inr 2
    else if e.state == .opened && x.cls != clsM then .inr 7
    else .inl g

/-- The cells of a message of class B, by the type of its head and the configuration of its entry (R222); one where
no entry gives a length. -/
def Chip.messageLen (c : Chip) (x : Cell) : Nat :=
  match c.findGid x.group with
  | none => 1
  | some g => if x.typ = 0x20 then arriveLen (c.mtLen g) else if x.typ = 0x21 && c.mtTwo g then 2 else 1

/-! ### Receive buffers -/

/-- The head cells of a class buffer leave it; each frees a buffer for credit (R90). -/
def Chip.popRx (c : Chip) (p cls n : Nat) : Chip :=
  c.modPort p fun x =>
    let q := x.q
    let l := x.link
    if cls = clsB then
      { x with q := { q with rxB := q.rxB.drop n }, link := { l with freedB := (l.freedB + n) % 4096 } }
    else if cls = clsS then
      { x with q := { q with rxS := q.rxS.drop n }, link := { l with freedS := (l.freedS + n) % 4096 } }
    else
      { x with q := { q with rxM := q.rxM.drop n }, link := { l with freedM := (l.freedM + n) % 4096 } }

/-- The head cell of class B, S or M of a port, when it has a type. -/
def Chip.headB (c : Chip) (p typ : Nat) : Option Cell := c.port p |>.q.rxB.head?.filter fun x => x.typ == typ
def Chip.headS (c : Chip) (p : Nat) : Option Cell := (c.port p).q.rxS.head?
def Chip.headM (c : Chip) (p typ : Nat) : Option Cell := c.port p |>.q.rxM.head?.filter fun x => x.typ == typ

/-- Every cell of `n` at the head of the B buffer is of one message. -/
def Chip.messageB (c : Chip) (p typ group n : Nat) : Option (List Cell) :=
  let l := (c.port p).q.rxB.take n
  if l.length = n && l.all (fun x => x.typ == typ && x.group == group) then some l else none

/-- CHAIN_CAL_DONE (R156). A new CUM_TICKS changes the DP of the die's entries, which a CENSUS carries (R274). -/
def execChainCalDone (hops : List HopMeas) (s : State) : Host.Outcome State Fault Refusal :=
  s.runDie fun c =>
    if c.rt.calBusy then
      let c := c.calTaps hops c.id.ntaps 0 0 true
      { c with
        rt := { c.rt with calBusy := false, calOnly := some [] }
        pw := { c.pw with chainDone := true } }.dieCensus
    else c

end Sys2Proof.Machine
end

