-- ==== Sys2Proof/Machine/Mortar.lean ====
section
/-!
DEFINITION. Machine/Mortar.lean: barriers (R212, R221 to R226): arrivals, combining, closing with the
finish program, releases on their way down and their delivery to the threads of a die.
-/

namespace Sys2Proof.Machine

/-- The parameters of an MT record (R244): group ID and port, and the course. -/
def Chip.mtRep (c : Chip) (g port course : Nat) (third : Option Nat := none) : Rep :=
  { grRep (c.gidOf g) port 0 course with p3 := third.map (BitVec.ofNat 32) }

/-! ### Contributions -/

/-- A contribution to a lane of a course (R211, R231): a non-finite value is excluded and counted. -/
def Chip.contribute (c : Chip) (g course k w : Nat) : Chip :=
  let cfgs := c.mtCfgs g
  match cfgs[k]? with
  | none => c
  | some l =>
    let r := l.contribute w (c.tr.addr.getD 0)
    let c := c.modEnt g fun e =>
      let cur := SMap.find e.lanes course (cfgs.map laneIdentity)
      let v := l.merge (cur.getD k (laneIdentity l)) r.1
      { e with lanes := SMap.insert e.lanes course (cur.set k v) }
    if r.2 then (c.bump Reg.MT_NFCNT 1 0 k).note Event.MT_NONFIN (some (c.gidOf g)) else c

/-! ### Closing a barrier (R225, R226) -/

/-- Ports leave the member list once the next barrier is `next` (R281), with the release of the
barrier before it: they are owed nothing. -/
def GrEntry.unlist (e : GrEntry) (next : Nat) : GrEntry :=
  let gone := e.listed.filter fun p =>
    SMap.has e.expectUntil p && decide (SMap.find e.expectUntil p 0 ≤ next)
  { e with
    pmap := gone.foldl (fun m p => m - (if m.testBit p then 2 ^ p else 0)) e.pmap
    owed := e.owed.filter fun p => !(gone.contains p)
    ports := gone.foldl SMap.erase e.ports
    expectUntil := gone.foldl SMap.erase e.expectUntil }

/-- The release of a barrier has left on every member port that is UP: what the entry holds from then on. -/
def GrEntry.released (e : GrEntry) (r : Release) : GrEntry :=
  ({ e with
     latest := some r
     expected := some (r.course + 1)
     barrier := none
     arrivals := []
     combined := false
     closing := false
     shortOpen := false
     holds := e.holds.filter fun h => decide (r.course < h.course)
     changed := e.changed.filter fun n => n != r.course }).unlist (r.course + 1)

/-- The pending change of a barrier is folded into the declared count at its release (R280). -/
def GrEntry.foldPend (e : GrEntry) (course : Nat) : GrEntry :=
  match e.pend with
  | some (n, d) => if n ≤ course then { e with decl := ((e.decl : Int) + d).toNat, pend := none } else e
  | none => e

/-- LEVEL_SAT clears when the backlog is at DEPTH or below (R242). -/
def Chip.satEval (c : Chip) : Chip :=
  { c with gr := { c.gr with
    levelSat := c.gr.levelSat && decide (Word.field (c.reg Reg.MT_SATCFG) 0 8 < c.gr.qocc) } }

/-- Messages leave the combiner's backlog. -/
def Chip.qoccDrop (c : Chip) (n : Nat) : Chip := { c with gr := { c.gr with qocc := c.gr.qocc - n } }.satEval

/-- A closed barrier leaves the census to be judged for the next one (R275, R281). -/
def Chip.afterClose (c : Chip) (g : Nat) : Chip :=
  let old := (c.ent g).gcount
  let c := c.modEnt g fun x =>
    { x with gcount := if c.id.hub then x.sums.1 else x.dieCount, fsup := if c.id.hub then x.sums.2 else 6 }
  c.judgeCensus g old

/-- A release has been taken: it is the latest, the course after it is expected, and the barrier is closing (R225). -/
def Chip.closeBegin (c : Chip) (g : Nat) (r : Release) : Chip :=
  c.modEnt g fun e => { e with latest := some r, expected := some (r.course + 1), closing := true }

/-- The barrier of the latest release closes; arrivals that were still to be combined leave the backlog (R226). -/
def Chip.closeDone (c : Chip) (g : Nat) : Chip :=
  let e := c.ent g
  match e.closing, e.latest with
  | true, some r =>
    let c := c.qoccDrop (if e.combined then 0 else e.arrivals.length)
    (c.modEnt g fun x => x.released r).afterClose g
  | _, _ => c

/-! ### Queues and held messages (R226) -/

/-- A message of `n` cells can enter a port's class B queue now. -/
def Chip.roomB (c : Chip) (p n : Nat) : Bool :=
  let x := c.port p
  c.carriesCls p clsB && x.q.txB.length + n ≤ 128 && 0 < x.link.credB

/-- A release is held on a port until a GCMD sent there has been acknowledged (R281): the GCMD still
waits for its queue, in it, or in the replay buffer. -/
def Chip.gcmdHeld (c : Chip) (g p course : Nat) : Bool :=
  let x := c.port p
  (c.ent g).holds.any fun h =>
    let same (y : Cell) : Bool := y.payload == h.cell.payload && y.typ == 0x42
    h.port == p && h.course == course &&
      (x.q.txM.any (fun t => same t.cell) || x.q.wait.any (fun w => w.1 == clsM && same w.2) || x.link.replay.any same)

def HeldMsg.isArrival : HeldMsg → Bool
  | .arrival _ _ => true
  | .release _ _ _ => false

/-- An earlier release than that of a course is held on a port. -/
def HeldMsg.before (h : HeldMsg) (p course : Nat) : Bool :=
  match h with
  | .release n ports _ => decide (n < course) && ports.contains p
  | .arrival _ _ => false

/-- The messages held for an entry, oldest first. -/
def Chip.heldOf (c : Chip) (g : Nat) : List HeldMsg :=
  c.gr.held.filterMap fun x => if x.1 == g then some x.2 else none

/-- The barrier closes once its release is held on no port. -/
def Chip.closeIfSent (c : Chip) (g : Nat) : Chip :=
  if (c.heldOf g).any fun h => !h.isArrival then c else c.closeDone g

/-- A port that a release can leave on now, one on which it must wait, or one that is not UP. -/
inductive RelPort where
  | go | wait | down
deriving DecidableEq, Repr

def Chip.relPort (c : Chip) (g course p n : Nat) : RelPort :=
  if !(c.carriesCls p clsB) then .down
  else if c.gcmdHeld g p course || !(c.roomB p n) || (c.heldOf g).any (fun h => h.before p course) then .wait
  else .go

/-- A message is held for an entry: it takes its place at the end of the order (R226). -/
def Chip.hold (c : Chip) (g : Nat) (m : HeldMsg) : Chip :=
  { c with gr := { c.gr with held := c.gr.held ++ [(g, m)] } }

/-- Held messages of an entry are held no longer. -/
def Chip.unhold (c : Chip) (g : Nat) (f : HeldMsg → Bool) : Chip :=
  { c with gr := { c.gr with held := c.gr.held.filter fun x => !(x.1 == g && f x.2) } }

/-- An arrival or a SYNC of a barrier is its last, and its first where it has none (R353). -/
def markSpread (m : SMap (Nat × Nat)) (course now : Nat) : SMap (Nat × Nat) :=
  SMap.insert m course ((SMap.find m course (now, now)).1, now)

/-- The arrival spread of a barrier is a sample when its arrival leaves, or it closes at its apex (R353). -/
def Chip.spreadSample (c : Chip) (g course : Nat) : Chip :=
  let x := SMap.find (c.ent g).spread course (0, 0)
  let c := c.modEnt g fun e => { e with spread := e.spread.filter fun q => decide (course < q.1) }
  c.sample 0x01 (c.gidOf g) (((x.2 - x.1) * 5 / 8 : Nat))

/-- An arrival can leave on the group's upward port: there is room, and no earlier one waits. -/
def Chip.arrivalGoes (c : Chip) (g n : Nat) : Bool := c.roomB (c.groupUp g) n && !(c.hg.fenced)

/-- An arrival is placed in the class B queue of the group's upward port, or held (R222, R226). -/
def Chip.sendUp (c : Chip) (g course : Nat) (cells : List Cell) : Chip :=
  if c.arrivalGoes g cells.length && !((c.heldOf g).any HeldMsg.isArrival) then
    (c.sendCells (c.groupUp g) clsB cells).spreadSample g course
  else c.hold g (.arrival course cells)

/-- A release is held on the given ports, beside those of its own it is held on already and that were not tried now; a
release that has left in part keeps its place in the order, and one that has left everywhere is held no longer. -/
def Chip.holdRelease (c : Chip) (g course : Nat) (tried ports : List Nat) (cells : List Cell) : Chip :=
  let rest (ps : List Nat) : List Nat := ps.filter (fun q => !(tried.contains q)) ++ ports
  let own : HeldMsg → Bool
    | .release n _ _ => n == course
    | .arrival _ _ => false
  if (c.heldOf g).any own then
    { c with gr := { c.gr with held := c.gr.held.filterMap fun x =>
      match x.2 with
      | .release n ps l =>
        if x.1 == g && n == course then
          if (rest ps).isEmpty then none else some (g, .release n (rest ps) l)
        else some x
      | .arrival _ _ => some x } }
  else if ports.isEmpty then c
  else c.hold g (.release course ports cells)

/-- A release leaves on each port where it can, is kept for a port that is not UP, and is held for the
others (R225, R226). -/
def Chip.sendDown (c : Chip) (g course : Nat) (ports : List Nat) (cells : List Cell) : Chip :=
  let step (m : Chip × List Nat) (p : Nat) : Chip × List Nat :=
    match m.1.relPort g course p cells.length with
    | .go =>
      ((m.1.sendCells p clsB cells).modEnt g fun e =>
        { e with owed := e.owed.filter fun q => q != p }, m.2)
    | .wait => (m.1, m.2 ++ [p])
    | .down =>
      (if (m.1.ent g).pmap.testBit p then
        m.1.modEnt g fun e => { e with owed := e.owed.filter (fun q => q != p) ++ [p] }
      else m.1, m.2)
  let r := ports.foldl step (c, [])
  r.1.holdRelease g course ports r.2 cells

/-- One held message leaves as far as it can (HELD_SEND). -/
def Chip.heldStep (c : Chip) (x : Nat × HeldMsg) : Chip :=
  let g := x.1
  match x.2 with
  | .arrival n cells =>
    ((c.sendCells (c.groupUp g) clsB cells).spreadSample g n).unhold g fun h => h == .arrival n cells
  | .release n ports cells => (c.sendDown g n ports cells).closeIfSent g

/-- Whether a held message can move: an arrival behind no earlier one of its entry, a release on one of its ports. -/
def Chip.heldReady (c : Chip) (x : Nat × HeldMsg) : Bool :=
  match x.2 with
  | .arrival _ cells => c.arrivalGoes x.1 cells.length && (c.heldOf x.1).find? HeldMsg.isArrival == some x.2
  | .release n ports cells => ports.any fun p => c.relPort x.1 n p cells.length != .wait

/-! ### Quiet probes (R266, R267) -/

/-- A QPROBE cell (R266). -/
def probeCell (gid gen : Nat) (down deadlock : Bool) (r : ProbeRound) : Cell :=
  mkCell clsB 0x23 gid
    [Word.flag down 31 ||| Word.flag r.quiet 30 ||| Word.flag r.incomplete 29 ||| Word.flag r.anyWait 28
      ||| Word.flag deadlock 27 ||| BitVec.ofNat 32 (r.epoch % 65536),
     BitVec.ofNat 32 r.sent, BitVec.ofNat 32 r.recv, BitVec.ofNat 32 (r.members % 2 ^ 25),
     BitVec.ofNat 32 (gen % 65536)]

/-- A combined probe of a hub below the apex leaves on the group's upward port. -/
def Chip.probeUp (c : Chip) (g : Nat) (r : ProbeRound) : Chip :=
  let e := c.ent g
  (c.modEnt g fun x => { x with probe := none }).sendCells (c.groupUp g) clsB
    [probeCell (c.gidOf g) e.gen false false r]

/-- Every listed port's probe of the open round has come. -/
def GrEntry.probeFull (e : GrEntry) (r : ProbeRound) : Bool := e.listed.all fun p => r.got.contains p

/-- A combined probe that waits for room, and has it now. -/
def Chip.probeReady (c : Chip) (g : Nat) : Bool :=
  match (c.ent g).probe with
  | some r => !(c.ent g).apex && (c.ent g).probeFull r && c.roomB (c.groupUp g) 1
  | none => false

/-- An entry's kept release is sent on a port that is owed it. -/
def Chip.keptTo (c : Chip) (p g : Nat) : Chip :=
  let e := c.ent g
  match e.latest with
  | some r =>
    if e.owed.contains p then
      (c.sendDown g r.course [p] (releaseCells (c.gidOf g) (c.mtTwo g) r)).closeIfSent g
    else c
  | none => c

/-- The kept releases owed on a port that reaches UP are sent there (R226). -/
def Chip.keptSend (c : Chip) (p : Nat) : Chip :=
  (c.gr.entries.map fun e => e.1).foldl (fun c g => c.keptTo p g) c

/-- The ports on which an entry's kept release can leave now. -/
def Chip.keptReady (c : Chip) (g : Nat) : List Nat :=
  match (c.ent g).latest with
  | some r => (c.ent g).owed.filter fun p => c.relPort g r.course p (if c.mtTwo g then 2 else 1) == .go
  | none => []

/-- HELD_SEND (R226, R267): the first held message that can move, else a combined probe that can, else
a kept release that can. -/
def execHeldSend (s : State) : Host.Outcome State Fault Refusal :=
  s.run fun c =>
    match c.gr.held.find? c.heldReady with
    | some x => c.heldStep x
    | none =>
      match (c.gr.entries.map fun e => e.1).find? c.probeReady with
      | some g =>
        match (c.ent g).probe with
        | some r => c.probeUp g r
        | none => c
      | none =>
        match (c.gr.entries.map fun e => e.1).find? fun g => !(c.keptReady g).isEmpty with
        | some g => (c.keptReady g).foldl (fun c p => c.keptTo p g) c
        | none => c

/-! ### Expected arrivals -/

/-- Whether a listed port's arrival is expected for a barrier (R223, R281). -/
def GrEntry.expects (e : GrEntry) (p course : Nat) : Bool :=
  e.pmap.testBit p && p < 64
    && decide (SMap.find e.expectFrom p 0 ≤ course)
    && !(SMap.has e.expectUntil p && decide (SMap.find e.expectUntil p 0 ≤ course))

/-- The ports whose arrival an open barrier still awaits. -/
def GrEntry.awaited (e : GrEntry) (course : Nat) : List Nat :=
  e.listed.filter fun p => e.expects p course && !(SMap.has e.arrivals p)

/-- A barrier opens. -/
def Chip.openBarrier (c : Chip) (g course : Nat) (short : Bool) : Chip :=
  c.modEnt g fun e =>
    { e with barrier := some course, shortOpen := short, combined := false }

/-- An apex marks its open barrier when the census is short (R286). -/
def Chip.markShort (c : Chip) (g : Nat) : Chip :=
  let e := c.ent g
  match e.barrier with
  | some n => if e.apex && decide ((e.gcount : Int) < e.declared n) then c.modEnt g fun x => { x with shortOpen := true }
    else c
  | none => c

/-! ### Delivery of a release at a die (R213, R214, R225) -/

/-- A thread takes a release with the effects of R213; releases it missed are skipped (R214). -/
def Chip.takeRelease (c : Chip) (t : Nat) (r : Release) : Chip :=
  let x := c.th t
  let d := (c.ent x.grp).depth
  let missed := r.course - x.course
  let valid := decide (x.n0 + d ≤ r.course + 1)
  let c := c.modTh t fun x =>
    { x with
      base := if x.noBase then x.base else r.trel
      cursor := if x.noBase then x.cursor else r.trel
      rvalid := valid
      rdet := r.det
      rflags := r.flags
      rcourse := (r.course + 1 + 2 ^ 32 - d) % 2 ^ 32
      lastRel := some r.trel
      mb := if x.rload then
          (List.range 8).foldl (fun m k => SMap.put m (56 + k) 0 (r.vals.getD k 0)) x.mb
        else x.mb
      course := (r.course + 1) % 2 ^ 32
      pc := pcNext x.pc
      overrun := false
      synced := some r.course }
  let c := c.toRun t
  if missed = 0 then c
  else (c.report Event.SQ_SYNC_SKIP (c.sqRep t (some (BitVec.ofNat 32 missed)))).detClear x.grp (c.th t).course

/-- The threads of a group that wait in SYNC for a barrier not later than a release take it together. -/
def Chip.releaseThreads (c : Chip) (g : Nat) (r : Release) : Chip :=
  ((List.range 32).filter fun t =>
    (c.th t).grp == g && (c.th t).mode == .waitB && decide ((c.th t).course ≤ r.course)).foldl
    (fun c t => c.takeRelease t r) c

/-- The die is a member of the group at a barrier: it is neither admitted for a later one nor expelled (R282, R283). -/
def GrEntry.memberAt (e : GrEntry) (course : Nat) : Bool :=
  !(e.admitted && decide (course < e.admCourse)) && !(e.expelled && decide (e.expCourse ≤ course))

/-- A die's arrival that an override has overtaken is dropped (R303): the release of its barrier comes while it is held
or has not been sent. Its numbers are those of course C − D + 1, to which later contributions are LATE_CONTRIB. -/
def Chip.dropArrival (c : Chip) (g : Nat) (r : Release) : Chip :=
  let e := c.ent g
  let past : HeldMsg → Bool
    | .arrival n _ => decide (n ≤ r.course)
    | .release _ _ _ => false
  let held := (c.heldOf g).any past
  if !held && (e.barrier == some r.course || !(e.memberAt r.course)) then c
  else
    let c := if held then c.unhold g past else c
    let c := c.modEnt g fun x =>
      if x.depth ≤ r.course + 1 then
        let n := r.course + 1 - x.depth
        { x with
          sentTo := some (max (x.sentTo.getD 0) n)
          dropped := n :: (x.dropped.filter fun k => k != n && decide (n < k + 8)) }
      else x
    c.report Event.MT_OVR_DROP (c.mtRep g 0 r.course)

/-- The membership of a die changes with the release of barrier N − 1 (R282, R283). -/
def Chip.memberRelease (c : Chip) (g : Nat) (r : Release) : Chip :=
  let e := c.ent g
  let c :=
    if e.admDue && decide (e.admCourse ≤ r.course + 1) then
      let c := (c.modEnt g fun x => { x with admDue := false, state := if x.state == .sealed then .active else x.state }).censusDone g
      ((c.bound g).filter fun t => t.2.mode != .idle && t.2.n0 == e.admCourse && t.2.base == 0).foldl
        (fun c t => c.modTh t.1 fun x => { x with base := r.trel, cursor := r.trel, lastRel := some r.trel }) c
    else c
  if e.expDue && decide (e.expCourse ≤ r.course + 1) then
    let c := c.modEnt g fun x => { x with expDue := false }
    ((c.bound g).filter fun t => t.2.mode == .waitB && decide (e.expCourse ≤ t.2.course)).foldl
      (fun c t => c.thFault t.1 Event.SQ_NOGROUP 4) c
  else c

/-- A release is delivered at a die (R225): late or not, it becomes the latest, and acts. -/
def Chip.deliver (c : Chip) (g : Nat) (r : Release) : Chip :=
  let slack : Int := (r.trel : Int) - (c.llat * (2 ^ 32 * 5 / 8) : Nat) - c.now
  let c := (c.dropArrival g r).reportBase g r.trel
  let c := c.modEnt g fun e =>
    { e with
      latest := some r
      expected := some (r.course + 1)
      barrier := if (e.barrier.getD 0) ≤ r.course then none else e.barrier
      arrivals := [] }
  let c := (c.count 0x432 (some (c.gidOf g))).sample 0x0E (c.gidOf g) (slack / 2 ^ 32)
  let c := if slack < 0 then
      c.report Event.MT_LATE_REL (c.mtRep g 0 r.course (((-slack) / 2 ^ 32).toNat))
    else c
  ((c.releaseThreads g r).memberRelease g r).dieCensus

/-! ### Closing at the apex (R224, R235) -/

/-- The lanes of every arrival combined, and the AND of their DET bits (R223). -/
def combineAll (cfgs : List LaneCfg) (arrs : List Arrival) : List LaneVal × Bool :=
  arrs.foldl (fun m a =>
    ((cfgs.zip (m.1.zip a.lanes)).map (fun p => p.1.merge p.2.1 p.2.2), m.2 && a.det))
    (cfgs.map laneIdentity, true)

/-- The output check of every SUM lane; a failing check raises RANGE (R229). -/
def Chip.outputLanes (c : Chip) (g course : Nat) (vals : List LaneVal) : Chip × List LaneVal :=
  ((c.mtCfgs g).zip vals).foldl (fun m p =>
    let r := p.1.output p.2
    (if r.2 then m.1.report Event.MT_RANGE (c.mtRep g 0 course) else m.1, m.2 ++ [r.1])) (c, [])

/-- A combine is completed: counted, and the backlog falls by the messages combined. -/
def Chip.combined (c : Chip) (g n : Nat) : Chip :=
  ((c.bump Reg.MT_COMPL 1).count 0x431 (some (c.gidOf g))).qoccDrop n

/-- The loss-scale exponent of an entry: the exponent field of MT_GLSSCALE (R238). -/
def Chip.lsExp (c : Chip) (g : Nat) : Int := (Word.field (c.reg Reg.MT_GLSSCALE g) 23 8 : Int) - 127

/-- What the finish program of an entry reads. -/
def Chip.finishEnv (c : Chip) (g : Nat) (lanes : List LaneVal) : FinishEnv :=
  let cfg := c.reg Reg.MT_GLSCFG g
  { cfgs := c.mtCfgs g
    lanes := lanes
    ks := (List.range 4).map fun j =>
      (c.reg Reg.MT_GK_HI g j).toNat * 2 ^ 32 + (c.reg Reg.MT_GK_LO g j).toNat
    minExp := signedOf 8 (Word.field cfg 16 8)
    maxExp := signedOf 8 (Word.field cfg 24 8)
    growN := oneIfZero (Word.field cfg 0 16) }

/-- The finish program runs on the lanes of a barrier (R235): results, loss scale, and one SAT report
for each saturating write. -/
def Chip.finish (c : Chip) (g course : Nat) (lanes : List LaneVal) : Chip × FinishState :=
  let prog := (List.range (c.mtFin g)).map fun n => c.reg Reg.MT_GFIN g n
  let f := finishRun (c.finishEnv g lanes) prog (c.lsExp g) (c.ent g).clean
  let c := c.count 0x433 (some (c.gidOf g))
  let c := (List.range f.sats).foldl (fun c _ => c.report Event.MT_SAT (c.mtRep g 0 course)) c
  let c := c.setReg Reg.MT_GLSSCALE (Word.place (f.lsExp + 127).toNat 23) g
  (c.modEnt g fun e => { e with clean := f.clean }, f)

/-- The release of a closing barrier: T_close is the time at the start of the LCLK cycle (R224). -/
def Chip.buildRelease (c : Chip) (g course : Nat) (lanes : List LaneVal) (det : Bool) (f : FinishState) :
    Release :=
  let cfgs := c.mtCfgs g
  { course := course
    gen := (c.ent g).gen
    flags := maskOf f.flags
    det := det
    sat := maskOf (f.vals.map fun v => v.2.2)
    range := maskOf (lanes.map fun v => v.range)
    nan := maskOf (lanes.map fun v => v.nan)
    pinf := maskOf (lanes.map fun v => v.pinf)
    ninf := maskOf (lanes.map fun v => v.ninf)
    trel := (c.cycleTime + c.lead g * nsUnit) % 2 ^ 96
    addrs := (List.range 8).map fun k =>
      match cfgs[k]?, lanes[k]? with
      | some l, some v => if l.op.isArg && !v.empty then v.addr else 0xFFFFFF
      | _, _ => 0xFFFFFF
    vals := if c.mtTwo g then f.vals.map (fun v => v.2.1) else List.replicate 8 0 }

/-- The apex closes its open barrier (R224): combine, finish, and release. `ovr` is the host's
override, under which a lane without arrivals is NONE and DET is 0 (R303). -/
def Chip.close (c : Chip) (g course : Nat) (ovr : Bool) : Chip :=
  let e := c.ent g
  let all := combineAll (c.mtCfgs g) (e.arrivals.map fun a => a.2)
  let out := c.outputLanes g course all.1
  let det := all.2 && e.strict && !ovr && !e.shortOpen && !(e.changed.contains course)
  let c := if c.id.hub then ((out.1.combined g e.arrivals.length).modEnt g fun x => { x with combined := true }).spreadSample g course
    else out.1
  let fin := c.finish g course out.2
  let r := fin.1.buildRelease g course out.2 det fin.2
  if c.id.hub then
    let ports := e.listed
    let c := fin.1.sendDown g course ports (releaseCells (c.gidOf g) (c.mtTwo g) r)
    let c := c.count 0x432 (some (c.gidOf g))
    ((c.modEnt g fun x => x.foldPend course).closeBegin g r).closeIfSent g
  else
    ((fin.1.modEnt g fun x => x.foldPend course).deliver g r).afterClose g

/-- The combined arrival of a hub goes up (R223). -/
def Chip.combineUp (c : Chip) (g course : Nat) : Chip :=
  let e := c.ent g
  let all := combineAll (c.mtCfgs g) (e.arrivals.map fun a => a.2)
  let out := c.outputLanes g course all.1
  let c := (out.1.combined g e.arrivals.length).modEnt g fun x => { x with combined := true }
  c.sendUp g course (arriveCells (c.gidOf g) (c.mtCfgs g) out.2 course e.gen all.2)

/-- An open barrier is judged: at the apex it closes, at another hub its arrivals go up, once every
expected arrival is in (R223, R224). -/
def Chip.judgeBarrier (c : Chip) (g : Nat) : Chip :=
  let e := c.ent g
  match e.barrier with
  | none => c
  | some n =>
    if !e.state.usable || e.closing then c
    else if e.apex then
      let all := if c.id.hub then (e.awaited n).isEmpty && !e.arrivals.isEmpty else SMap.has e.arrivals 99
      if all && e.complete n then c.close g n false else c
    else if c.id.hub && !e.combined && (e.awaited n).isEmpty && !e.arrivals.isEmpty then c.combineUp g n
    else c

/-! ### A die's arrival (R212) -/

/-- The counts armed for a group, on every thread that is not IDLE (R210, R212). -/
def Chip.armsOf (c : Chip) (g : Nat) : List ArmCount :=
  (c.sq.threads.filter fun e => e.2.mode != .idle).flatMap fun e => e.2.arms.filter fun a => a.grp == g

/-- The course of the barrier the die can arrive at: armed, every arming thread has synced it. -/
def Chip.armedCourse (c : Chip) (g : Nat) : Option Nat :=
  let recs := c.armsOf g
  let later (n : Nat) : Bool :=
    match (c.ent g).latest with
    | some r => decide (r.course < n)
    | none => true
  let ok := (recs.filter fun a => later a.course && recs.all fun b => b.course != a.course || b.synced).map
    fun a => a.course
  ok.foldl (fun m n => match m with
    | none => some n
    | some k => some (min k n)) none

/-- Every armed count of a course is met, and none of its triggers is still to fire (R212). -/
def Chip.courseDone (c : Chip) (g course : Nat) : Bool :=
  let recs := (c.armsOf g).filter fun a => a.course == course
  recs.all (fun a => decide (a.k ≤ a.made))
    && !(c.rt.lines.any fun e => match e.2.armed with
      | some a => !a.solo && a.grp == g && a.course == course
      | none => false)
    && !(c.sq.flights.any fun a => !a.cancelled && a.grp == g && a.course == course)

/-- The die arrives at barrier `n` with the numbers of course n − D + 1. -/
def Chip.arrive (c : Chip) (g n : Nat) : Chip :=
  let c := c.servoSweep
  let e := c.ent g
  let cfgs := c.mtCfgs g
  let past := decide (e.depth ≤ n + 1)
  let c0 := n + 1 - e.depth
  let lanes := if past then SMap.find e.lanes c0 (cfgs.map laneIdentity) else cfgs.map laneIdentity
  let det := e.strict && (!past || c.detOf g c0)
  let out := c.outputLanes g n lanes
  let c := (out.1.combined g 0).modEnt g fun x =>
    { x with
      barrier := some n
      arrivals := SMap.insert x.arrivals 99 { lanes := out.2, det := det }
      lanes := if past then x.lanes.filter (fun p => c0 < p.1) else x.lanes
      detLost := if past then x.detLost.filter (fun m => c0 < m) else x.detLost
      sentTo := if past then some c0 else x.sentTo }
  if e.apex then (((c.markShort g).count 0x430 (some (c.gidOf g))).spreadSample g n).judgeBarrier g
  else c.sendUp g n (arriveCells (c.gidOf g) cfgs out.2 n e.gen det)

/-- DIE_ARRIVAL (R212): the arrival conditions hold and the arrival leaves. -/
def execDieArrival (i : DieGIdx) (s : State) : Host.Outcome State Fault Refusal :=
  s.runDie fun c =>
    let g := i.val
    let e := c.ent g
    if c.hg.fenced || !e.state.usable || e.barrier.isSome then c
    else
      match c.armedCourse g with
      | none => c
      | some n =>
        let past := decide (e.depth ≤ n + 1)
        if e.expelled && decide (e.expCourse ≤ n) then c
        else if past && !(c.courseDone g (n + 1 - e.depth)) then c
        else c.arrive g n

/-! ### Messages received (R223, R225) -/

/-- A stale message leaves the B buffer whole, each of its cells a stale discard (R222, R279); where its rest has not
come yet it waits. -/
def Chip.staleB (c : Chip) (p reason : Nat) (x : Cell) : Chip :=
  let n := c.messageLen x
  let q := (c.port p).q.rxB
  let cells := (q.take n).takeWhile fun y => y.typ == x.typ && y.group == x.group
  if cells.length = q.length && cells.length < n then c
  else cells.foldl (fun c _ => c.stale x.group p reason (cellGen x).1) (c.popRx p clsB cells.length)

/-- An arrival for the barrier after one that is closing waits in its buffer until that one has closed (log entry 27). -/
def Chip.arrivalWaits (c : Chip) (g p : Nat) (cells : List Cell) : Bool :=
  let e := c.ent g
  match e.closing, e.expected with
  | true, some n => e.expects p n && ((arriveSlots (c.mtLen g) cells).headD 0 / 16) % 8 == n % 8
  | _, _ => false

/-- An arrival meets its entry at a hub (R223). While the barrier is closing, one that is expected for the next barrier
waits (Chip.arrivalWaits), and any other is for the released course or is not expected. -/
def Chip.acceptArrival (c : Chip) (g p : Nat) (cells : List Cell) : Chip :=
  let e := c.ent g
  let slots := arriveSlots (c.mtLen g) cells
  let s0 := slots.headD 0
  let ctag := (s0 / 16) % 8
  let want := match e.barrier with
    | some n => if e.closing then e.expected else some n
    | none => e.expected
  let n := want.getD ctag
  if !(e.pmap.testBit p) || 64 ≤ p then c.report Event.MT_UNLISTED (c.mtRep g p ctag)
  else if n % 8 != ctag then c.report Event.MT_COURSE (c.mtRep g p ctag)
  else if e.barrier.isSome && !e.closing && SMap.has e.arrivals p then c.report Event.MT_DUP (c.mtRep g p n)
  else if !(e.expects p n) then c.report Event.MT_UNLISTED (c.mtRep g p n)
  else
    let c := c.count 0x430 (some (c.gidOf g))
    let c := if e.barrier.isSome then c else c.openBarrier g n false
    let lanes := ((c.mtCfgs g).zip slots).map fun q => slotRead q.1 q.2
    let a : Arrival := { lanes := lanes, det := s0.testBit 0 }
    let c := c.modEnt g fun x => { x with arrivals := SMap.insert x.arrivals p a, spread := markSpread x.spread n c.tk.frc }
    let q := c.gr.qocc + 1
    let c := { c with gr := { c.gr with qocc := q, qmax := max c.gr.qmax q } }
    (c.markShort g).judgeBarrier g

/-- ARRIVE_RECEIVE (R223): the ARRIVE message at the head of a port's class B buffer. -/
def execArriveReceive (p : Port) (s : State) : Host.Outcome State Fault Refusal :=
  s.runPort p fun c =>
    match c.headB p.val 0x20 with
    | none => c
    | some x =>
      match c.meet x with
      | .inr k => c.staleB p.val k x
      | .inl g =>
        let n := arriveLen (c.mtLen g)
        match c.messageB p.val 0x20 x.group n with
        | none => c
        | some cells =>
          if c.arrivalWaits g p.val cells then c else (c.popRx p.val clsB n).acceptArrival g p.val cells

/-- A release is stray (R225). -/
def Chip.strayRelease (c : Chip) (g p course : Nat) : Chip :=
  c.report Event.MT_REL_STRAY (c.mtRep g p course)

/-- A hub takes a release, forwards it and closes its barrier, or discards it as stray (R225). -/
def Chip.forwardRelease (c : Chip) (g p : Nat) (r : Release) (cells : List Cell) : Chip :=
  let e := c.ent g
  let takes :=
    match e.expected, e.barrier with
    | none, _ => true
    | some k, some n => r.course == (if e.closing then k else n)
    | some n, none => r.course == n
  if e.apex || !takes then c.strayRelease g p r.course
  else
    let c := c.closeDone g
    let ports := (c.ent g).listed
    let out := cells.map fun x => mkCell clsB 0x21 x.group (x.payload.take x.len)
    let c := c.sendDown g r.course ports out
    let c := c.count 0x432 (some (c.gidOf g))
    (c.closeBegin g r).closeIfSent g

/-- The RELEASE message at the head of a port's class B buffer: what it meets and its cells. -/
def Chip.releaseAt (c : Chip) (p : Nat) (f : Chip → Nat → Release → List Cell → Chip) : Chip :=
  match c.headB p 0x21 with
  | none => c
  | some x =>
    match c.meet x with
    | .inr k => c.staleB p k x
    | .inl g =>
      let n := if c.mtTwo g then 2 else 1
      match c.messageB p 0x21 x.group n with
      | none => c
      | some cells => f (c.popRx p clsB n) g (releaseRead cells) cells

/-- RELEASE_RECEIVE (R225): a hub receives a RELEASE. -/
def execReleaseReceive (p : Port) (s : State) : Host.Outcome State Fault Refusal :=
  if s.chip.id.hub then
    s.runPort p fun c => c.releaseAt p.val fun c g r cells => c.forwardRelease g p.val r cells
  else .fault .notPresent

/-- RELEASE_DELIVER (R225): a die receives a RELEASE. -/
def execReleaseDeliver (p : Port) (s : State) : Host.Outcome State Fault Refusal :=
  s.runDiePort p fun c => c.releaseAt p.val fun c g r _ =>
    let stray :=
      match (c.ent g).latest with
      | some l => decide (r.course ≤ l.course)
      | none => false
    if stray then c.strayRelease g p.val r.course else c.deliver g r

/-- LEVEL_SAT (R242): the backlog has stood above DEPTH for TIME. -/
def execLevelSat (s : State) : Host.Outcome State Fault Refusal :=
  s.run fun c =>
    if !c.gr.levelSat && decide (c.gr.qocc > Word.field (c.reg Reg.MT_SATCFG) 0 8) then
      let f1 := c.takeFree
      let f2 := f1.2.takeFree
      ({ f2.2 with gr := { c.gr with levelSat := true } }).report Event.MT_LEVEL_SAT
        { p1 := some (f1.1 &&& 0x00FF0FFF), p2 := some f2.1 }
    else c

/-- GD_OVR closes an open barrier (R303); its conditions have been judged. -/
def Chip.overrideClose (c : Chip) (g : Nat) : Chip :=
  match (c.ent g).barrier with
  | some n => c.close g n true
  | none => c

end Sys2Proof.Machine
end

