-- ==== Sys2Proof/Machine/Groups.lean ====
section
/-!
DEFINITION. Machine/Groups.lean: groups (R270 to R287): setup and the generation test, SEAL and the
census, dissolve and quarantine, admission and expulsion, and losses.
-/

namespace Sys2Proof.Machine

/-! ### Where an address lies (R112, R127) -/

/-- The bits of an address below the field that a hub of level `l` chooses its port from. -/
def levelShift (l : Nat) : Nat := 6 * (l - 6)

/-- The address that a port's peer gave in its IDENT, where it has one. -/
def PortState.toldAddr (x : PortState) : Option Nat :=
  let w := x.peer.getD []
  if Word.bit (w.getD 0 0) 31 && Word.bit (w.getD 1 0) 31 then some (Word.field (w.getD 1 0) 0 24) else none

/-- The downstream ports behind which an address lies by what their hubs said at the handshake: the table by which
an alternate parent reaches a subtree whose addresses are not its own (R20). -/
def Chip.toldPort (c : Chip) (target : Nat) : Option Nat :=
  if !c.id.hub then none
  else
    (c.ports.find? fun e =>
      decide (e.1 < 64) && e.2.mode == .up && (match e.2.toldAddr with
        | some a => a >>> levelShift c.tr.level == target >>> levelShift c.tr.level
        | none => false)).map fun e => e.1

/-- An address has this hub's own fields above its level. -/
def Chip.ownBelow (c : Chip) (target : Nat) : Bool :=
  match c.tr.addr with
  | some a => c.id.hub && target >>> levelShift (c.tr.level + 1) == a >>> levelShift (c.tr.level + 1)
  | none => false

/-- An address lies below this hub. -/
def Chip.below (c : Chip) (target : Nat) : Bool := c.ownBelow target || (c.toldPort target).isSome

/-- The port that leads to an address below: the one whose hub has told it, or that of the address field at this
hub's level. -/
def Chip.portTo (c : Chip) (target : Nat) : Nat :=
  (c.toldPort target).getD ((target >>> levelShift c.tr.level) % 64)

/-- The level of this Lyspen: 5 for a die (R112). -/
def Chip.levelOf (c : Chip) : Nat := if c.id.hub then c.tr.level else 5

/-! ### GCMD (R274, R281) -/

/-- A membership change as a GCMD carries it. -/
structure Gcmd where
  op : Nat
  prune : Nat
  tlevel : Nat
  gen : Nat
  target : Nat
  course : Nat
  nmem : Nat
deriving DecidableEq, Repr

def Gcmd.cell (m : Gcmd) (gid : Nat) : Cell :=
  mkCell clsM 0x42 gid
    [Word.place m.op 28 ||| Word.place m.prune 24 ||| Word.place m.tlevel 20 ||| BitVec.ofNat 32 m.gen,
     BitVec.ofNat 32 m.target, BitVec.ofNat 32 m.course, BitVec.ofNat 32 m.nmem]

def Gcmd.read (x : Cell) : Gcmd :=
  { op := Word.field (x.pay 2) 28 4, prune := Word.field (x.pay 2) 24 4
    tlevel := Word.field (x.pay 2) 20 4, gen := Word.field (x.pay 2) 0 16
    target := Word.field (x.pay 3) 0 24, course := (x.pay 4).toNat, nmem := Word.field (x.pay 5) 0 25 }

def Gcmd.simple (op gen : Nat) : Gcmd :=
  { op := op, prune := 0, tlevel := 0, gen := gen, target := 0, course := 0, nmem := 0 }

/-- ADMIT and EXPEL are membership changes. -/
def Gcmd.isChange (m : Gcmd) : Bool := m.op == 3 || m.op == 4

/-- The second parameter of a record about a GCMD: the course of a change, else the generation. -/
def Gcmd.second (m : Gcmd) : Nat := if m.isChange then m.course else m.gen

/-- A GCMD leaves on a port, or is lost where the port is not UP; a change holds the release of barrier
N − 1 there until it is acknowledged (R281). -/
def Chip.sendGcmd (c : Chip) (g : Nat) (m : Gcmd) (p : Nat) : Chip :=
  let cell := m.cell (c.gidOf g)
  if c.carries p then
    let c := c.sendCells p clsM [cell]
    if m.isChange && 1 ≤ m.course then
      c.modEnt g fun e => { e with holds := e.holds ++ [{ port := p, course := m.course - 1, cell := cell }] }
    else c
  else c.report Event.GR_GCMD_LOST (grRep (c.gidOf g) p 0 m.second)

/-- A GCMD leaves on every listed port. -/
def Chip.fanGcmd (c : Chip) (g : Nat) (m : Gcmd) : Chip :=
  (c.ent g).listed.foldl (fun c p => c.sendGcmd g m p) c

/-! ### The census of a changed entry -/

/-- An entry's own count and features follow from what it holds, and the apex judges them. -/
def Chip.regroup (c : Chip) (g : Nat) : Chip :=
  let old := (c.ent g).gcount
  let c := c.modEnt g fun e =>
    { e with
      gcount := if c.id.hub then e.sums.1 else e.dieCount
      fsup := if c.id.hub then e.sums.2 else if e.apex then 6 else e.fsup }
  ((c.judgeCensus g old).markShort g).judgeBarrier g

/-- A listed port of a hub is lost (R274, R125): its count is 0 in every entry. -/
def Chip.portLost (c : Chip) (p : Nat) : Chip :=
  (c.gr.entries.map fun e => e.1).foldl (fun c g =>
    let e := c.ent g
    if e.pmap.testBit p && SMap.has e.ports p then
      let k := SMap.find e.ports p { count := 0, fsup := 0, dp := 0, calculated := false }
      (c.modEnt g fun e => { e with ports := SMap.insert e.ports p { k with count := 0 } }).regroup g
    else c) c

/-- The port on which groups go up has come UP, or has changed: every sealed entry sends its census
again (R274, R285). -/
def Chip.groupsUp (c : Chip) (p : Nat) : Chip :=
  let c := (c.gr.entries.map fun e => e.1).foldl (fun c g =>
    if c.groupUp g == p then c.modEnt g fun e => { e with upSent := none } else c) c
  c.dieCensus

/-! ### Commands on an entry -/

/-- A write or command on an entry is refused. -/
def Chip.grCfgBad (c : Chip) (g : Nat) : Chip :=
  c.report Event.GR_CFG_BAD (grRep (c.gidOf g) 0 0 (c.ent g).gen)

def Chip.grQuarBusy (c : Chip) (g : Nat) : Chip :=
  c.report Event.GR_QUAR_BUSY (grRep (c.gidOf g) 0 0 (c.ent g).gen)

/-- A write to a field of an entry other than its key is taken in OPEN only (R272, R278). -/
def Chip.grField (c : Chip) (g : Nat) (f : GrEntry → GrEntry) : Chip :=
  match (c.ent g).state with
  | .opened => c.modEnt g f
  | .quar => c.grQuarBusy g
  | _ => c.grCfgBad g

/-- An entry takes its key (R270, R278). -/
def Chip.grKeyTake (c : Chip) (g : Nat) (valid : Bool) (gid gen : Nat) : Chip :=
  c.modEnt g fun e => { e with state := if valid then .opened else .free, gid := gid, gen := gen }

/-- A write to GR_GKEY (R270, R272, R278); the answer says whether the Guard refused it. -/
def Chip.grKey (c : Chip) (g : Nat) (m : Master) (w : Word) : Chip × Bool :=
  let e := c.ent g
  let valid := Word.bit w 31
  let gid := if c.id.hub then g else Word.field w 16 12
  let gen := Word.field w 0 16
  if e.state == .quar then (c.grQuarBusy g, false)
  else if e.state.isSealed then (c.grCfgBad g, false)
  else if !valid then (c.grKeyTake g false gid gen, false)
  else
    let other := c.findGid gid
    if !c.id.hub && other.isSome && other != some g then
      if (c.ent (other.getD 0)).state == .quar then (c.grQuarBusy g, false) else (c.grCfgBad g, false)
    else if e.state == .opened && e.gid == gid && e.gen == gen then (c.grKeyTake g true gid gen, false)
    else if SMap.has c.gr.lastGen gid && decide (gen ≤ SMap.find c.gr.lastGen gid 0) then
      (c.guardRefuse Event.GD_GEN_BACK m Reg.GR_GKEY.addr w (BitVec.ofNat 32 (SMap.find c.gr.lastGen gid 0)),
       true)
    else
      let c := c.grKeyTake g true gid gen
      ({ c with gr := { c.gr with lastGen := SMap.insert c.gr.lastGen gid gen } }, false)

/-- The mortar part uses a lane that R227 marks MTEXT. -/
def Chip.usesMtext (c : Chip) (g : Nat) : Bool := (c.mtCfgs g).any fun l => l.mtext

/-- An entry is sealed. -/
def Chip.sealEnt (c : Chip) (g : Nat) : Chip :=
  c.modEnt g fun e => { e with state := .sealed, downSent := some (false, false, false), upSent := none }

/-- SEAL at the apex (R273). -/
def Chip.grSeal (c : Chip) (g gen : Nat) : Chip :=
  let e := c.ent g
  if e.state == .quar then c.grQuarBusy g
  else if e.state != .opened || !e.apex || gen != e.gen || e.decl == 0
      || (c.usesMtext g && !(Word.bit e.mode 2)) then c.grCfgBad g
  else ((c.sealEnt g).fanGcmd g (.simple 1 e.gen)).regroup g

/-! ### Dissolve (R277, R278) -/

/-- What a dissolve discards, by the port it was held or kept for; 0xFF for pending and staging
entries. -/
def Chip.dissolveItems (c : Chip) (g : Nat) : List Nat :=
  let e := c.ent g
  let held := (c.heldOf g).flatMap fun h =>
    match h with
    | .arrival _ _ => [c.groupUp g]
    | .release _ ports _ => ports
  let probe := if e.probe.isSome then [c.groupUp g] else []
  let pend := (c.gt.pend.filter fun p => p.2.grp == g).map fun _ => 0xFF
  let staged := (c.gt.staging.filter fun s => s.grp == g).map fun _ => 0xFF
  held ++ e.owed ++ probe ++ (if c.id.hub then [] else pend ++ staged)

/-- A die's signal queues without a group: a transmit count asked for a head that goes is answered to nobody. -/
def GtState.without (x : GtState) (g : Nat) : GtState :=
  let head := (x.staging.head?.map fun s => s.grp == g).getD false
  let pend := x.pend.filter fun p => p.2.grp != g
  { x with
    staging := x.staging.filter fun s => s.grp != g
    pend := pend
    full := x.full && decide (512 ≤ pend.length)
    queries := x.queries.map fun q => match q with
      | .tx chan => if head then .gone chan else q
      | .rx _ _ | .gone _ => q }

/-- The contribution counts armed for an entry's courses go with it: another generation's courses are others. -/
def Chip.disarm (c : Chip) (g : Nat) : Chip :=
  { c with sq := { c.sq with threads := SMap.update c.sq.threads .reset fun _ x =>
    { x with arms := x.arms.filter fun a => a.grp != g } } }

/-- An entry is dissolved: it discards its items, enters quarantine, and its waiting threads fault. -/
def Chip.dissolve (c : Chip) (g : Nat) : Chip :=
  let e := c.ent g
  let items := c.dissolveItems g
  let waiting := if e.combined then 0 else e.arrivals.length
  let c := c.unhold g fun _ => true
  let c := if c.id.hub then c.qoccDrop waiting else { c.disarm g with gt := c.gt.without g }
  let c := c.modEnt g fun x =>
    { x with
      state := .quar, quarAt := c.tk.frc, censusOk := false, owed := [], probe := none, barrier := none
      arrivals := [], combined := false, closing := false, holds := [] }
  let c := items.foldl (fun c p => c.stale (c.gidOf g) p 4 e.gen) c
  let c := c.report Event.GR_DISSOLVED (grRep (c.gidOf g) 0 0 e.gen)
  ((c.bound g).filter fun t => t.2.mode == .waitB).foldl
    (fun c t => c.thFault t.1 Event.SQ_NOGROUP 4) c

/-- DISSOLVE written by a master (R277). -/
def Chip.grDissolve (c : Chip) (g gen : Nat) : Chip :=
  let e := c.ent g
  if e.state == .quar then c.grQuarBusy g
  else if e.state == .free || gen != e.gen then c.grCfgBad g
  else (if e.apex then c.fanGcmd g (.simple 2 gen) else c).dissolve g

/-- The stored registers of an entry return to reset: its mortar part and, in every master's bank, its arguments. -/
def Chip.clearMortar (c : Chip) (g : Nat) : Chip :=
  { c with regs := c.regs.filter fun e =>
      !(e.1 / 2 ^ 20 == g && ((e.1 / 4096 % 64 == 0x14 && decide (0x800 ≤ e.1 % 4096))
        || (e.1 / 4096 % 64 == 0x15 && decide (0x400 ≤ e.1 % 4096)))) }

/-- QUARANTINE_END (R278): 64 µs after its dissolve the entry is FREE, with every field at reset. -/
def execQuarantineEnd (i : GIdx) (s : State) : Host.Outcome State Fault Refusal :=
  if i.val < s.chip.ngroups then
    s.run fun c =>
      if (c.ent i.val).state == .quar then (c.modEnt i.val fun _ => .reset).clearMortar i.val else c
  else .fault .notPresent

/-! ### Admission and expulsion (R280 to R283) -/

/-- The port towards a change's target is listed (ADMIT): releases at once, arrivals from barrier N. -/
def GrEntry.admitPort (e : GrEntry) (p n : Nat) : GrEntry :=
  { e with
    pmap := if e.pmap.testBit p then e.pmap else e.pmap + 2 ^ p
    ports := if e.pmap.testBit p then e.ports else SMap.erase e.ports p
    expectFrom := if e.pmap.testBit p then e.expectFrom else SMap.put e.expectFrom p 0 n
    expectUntil := SMap.erase e.expectUntil p }

/-- The port towards the target is unlisted (EXPEL) from barrier N: at once where the barrier before it
has been released. -/
def GrEntry.expelPort (e : GrEntry) (p n : Nat) : GrEntry :=
  let e := { e with expectUntil := SMap.insert e.expectUntil p n }
  match e.barrier, e.expected with
  | some k, _ => e.unlist k
  | none, some k => e.unlist k
  | none, none => e

/-- A membership change is applied at a Lyspen. -/
def Chip.changed (c : Chip) (g : Nat) (m : Gcmd) (p : Nat) : Chip :=
  c.report Event.GR_CHG (grRep (c.gidOf g) p 0 m.course)

/-- An OPEN entry on the way is sealed (R281). -/
def Chip.sealOpen (c : Chip) (g : Nat) : Chip :=
  if (c.ent g).state == .opened then c.sealEnt g else c

/-- A change on its way through a hub above its target level (R281). -/
def Chip.changeOnWay (c : Chip) (g : Nat) (m : Gcmd) (from_ : Nat) : Chip :=
  if !(c.below m.target) then
    c.report Event.GR_GCMD_LOST (grRep (c.gidOf g) from_ 0 m.course)
  else
    let p := c.portTo m.target
    let c :=
      if m.op == 3 then
        ((c.sealOpen g).modEnt g fun e => e.admitPort p m.course).changed g m p
      else if c.levelOf ≤ m.prune then
        (c.modEnt g fun e => e.expelPort p m.course).changed g m p
      else if (c.ent g).apex then c.changed g m p
      else c
    (c.sendGcmd g m p).regroup g

/-- A change at a hub at or below its target level: applied, and sent on every listed port (R281). -/
def Chip.changeHere (c : Chip) (g : Nat) (m : Gcmd) (from_ : Nat) : Chip :=
  let c := if m.op == 3 then c.sealOpen g else c
  ((c.changed g m from_).fanGcmd g m).regroup g

/-- Whether a die takes a change (R282, R283); only DISSOLVE leaves FAILED (R284). -/
def GrEntry.dieTakes (e : GrEntry) (m : Gcmd) : Bool :=
  if m.op == 3 then e.state == .opened || (e.state.usable && e.expelled) else e.state.isSealed

/-- An expelled die sends no arrival from barrier N on: one that is held leaves no more (R283). -/
def Chip.expelHeld (c : Chip) (g n : Nat) : Chip :=
  let late : HeldMsg → Bool
    | .arrival k _ => decide (n ≤ k)
    | .release _ _ _ => false
  if (c.heldOf g).any late then (c.unhold g late).modEnt g fun e => { e with barrier := none, arrivals := [] } else c

/-- A change at a die (R282, R283). The lanes of courses before an admission carry nothing of the die (R282). -/
def Chip.changeDie (c : Chip) (g : Nat) (m : Gcmd) (from_ : Nat) : Chip :=
  let c :=
    if m.op == 3 then
      (c.sealEnt g).modEnt g fun e =>
        { e with
          expelled := false, admitted := true, admCourse := m.course, admDue := true, expDue := false
          censusOk := false, lanes := e.lanes.filter fun l => decide (m.course ≤ l.1) }
    else (c.modEnt g fun e => { e with expelled := true, expCourse := m.course, expDue := true }).expelHeld g m.course
  let c := c.changed g m from_
  let c :=
    if m.op == 4 then
      ((c.bound g).filter fun t => t.2.mode == .waitB && decide (m.course ≤ t.2.course)).foldl
        (fun c t => c.thFault t.1 Event.SQ_NOGROUP 4) c
    else c
  let c :=
    match (c.ent g).latest with
    | some r => if m.course ≤ r.course + 1 then c.memberRelease g r else c
    | none => c
  (c.regroup g).dieCensus

/-- A change received or, at the apex, accepted. -/
def Chip.applyChange (c : Chip) (g : Nat) (m : Gcmd) (from_ : Nat) : Chip :=
  if c.id.hub then (if m.tlevel < c.levelOf then c.changeOnWay g m from_ else c.changeHere g m from_)
  else c.changeDie g m from_

/-- The course of a change is acceptable at the apex (R280). -/
def GrEntry.courseOk (e : GrEntry) (m : Gcmd) : Bool :=
  (match e.latest, e.barrier with
   | some r, _ => decide (r.course + 2 ≤ m.course)
   | none, some k => decide (k < m.course)
   | none, none => false)
  || (m.op == 4 && e.barrier == some m.course && decide ((e.gcount : Int) < e.declared m.course))

/-- ADMIT or EXPEL written at the apex (R280). -/
def Chip.grChange (c : Chip) (g : Nat) (m : Gcmd) : Chip :=
  let e := c.ent g
  let delta : Int := if m.op == 3 then m.nmem else -(m.nmem : Int)
  let total : Int := (e.pend.map fun p => p.2).getD 0 + delta
  let now : Int := (e.decl : Int) + total
  if e.state == .quar then c.grQuarBusy g
  else if e.apex && (e.state == .active || e.state == .lossHeld) && m.gen == e.gen
      && decide (5 ≤ m.tlevel ∧ m.tlevel ≤ 8) && decide (m.tlevel < c.levelOf) && c.below m.target
      && e.courseOk m && (match e.pend with
        | some p => p.1 == m.course
        | none => true)
      && decide (1 ≤ now ∧ now ≤ 16777216) then
    let c := c.modEnt g fun x =>
      { x with pend := some (m.course, total), changed := m.course :: x.changed }
    c.applyChange g m 0
  else c.report Event.GR_CHG_REFUSED (grRep (c.gidOf g) 0 0 m.course)

/-- GR_GCMD (R272, R273, R277, R280); the arguments of a change come from the master's bank. -/
def Chip.grCmd (c : Chip) (g : Nat) (m : Master) (w : Word) : Chip :=
  let a0 := c.regOf m Reg.GR_GCARG0 g
  let x : Gcmd :=
    { op := Word.field w 28 4, prune := Word.field w 24 4, tlevel := Word.field a0 24 4
      gen := Word.field w 0 16, target := Word.field a0 0 24
      course := (c.regOf m Reg.GR_GCARG1 g).toNat
      nmem := Word.field (c.regOf m Reg.GR_GCARG2 g) 0 25 }
  match x.op with
  | 1 => c.grSeal g x.gen
  | 2 => c.grDissolve g x.gen
  | 3 | 4 => c.grChange g x
  | _ => if (c.ent g).state == .quar then c.grQuarBusy g else c.grCfgBad g

/-! ### GCMD received -/

/-- The GCMD of an operation at the head of a port's class M buffer meets its entry: stale by R279, or
handled. -/
def Chip.gcmdAt (c : Chip) (p op : Nat) (ok : GrEntry → Gcmd → Bool) (f : Chip → Nat → Gcmd → Chip) : Chip :=
  match c.headM p 0x42 with
  | none => c
  | some x =>
    let m := Gcmd.read x
    if m.op != op then c
    else
      let c := c.popRx p clsM 1
      match c.meet x with
      | .inr k => c.stale x.group p k m.gen
      | .inl g =>
        let e := c.ent g
        if e.apex || p != c.groupUp g then c.stale x.group p 8 m.gen
        else if ok e m then f c g m
        else c.stale x.group p 7 m.gen

/-- SEAL_RECEIVE (R273). -/
def execSealReceive (p : Port) (s : State) : Host.Outcome State Fault Refusal :=
  s.runPort p fun c =>
    c.gcmdAt p.val 1 (fun e _ => e.state == .opened || e.state.isSealed) fun c g m =>
      let c := (c.sealOpen g).regroup g
      if c.id.hub then c.fanGcmd g m else c.censusSend g

/-- DISSOLVE_RECEIVE (R277). -/
def execDissolveReceive (p : Port) (s : State) : Host.Outcome State Fault Refusal :=
  s.runPort p fun c =>
    c.gcmdAt p.val 2 (fun _ _ => true) fun c g m => (c.fanGcmd g m).dissolve g

/-- ADMIT_RECEIVE (R281, R282). -/
def execAdmitReceive (p : Port) (s : State) : Host.Outcome State Fault Refusal :=
  s.runPort p fun c =>
    c.gcmdAt p.val 3 (fun e m => c.id.hub || e.dieTakes m) fun c g m => c.applyChange g m p.val

/-- EXPEL_RECEIVE (R281, R283). -/
def execExpelReceive (p : Port) (s : State) : Host.Outcome State Fault Refusal :=
  s.runPort p fun c =>
    c.gcmdAt p.val 4 (fun e m => c.id.hub || e.dieTakes m) fun c g m => c.applyChange g m p.val

/-! ### Census cells (R274, R275) -/

/-- HUB_CENSUS_SEND (R274): a hub's sum has changed, or its upstream has come UP. -/
def execHubCensusSend (i : GIdx) (s : State) : Host.Outcome State Fault Refusal :=
  s.runHub fun c =>
    let e := c.ent i.val
    if e.state.isSealed && !e.apex && c.carries (c.groupUp i.val) && e.upSent != some (c.censusUp i.val) then
      c.censusSend i.val
    else c

/-- The CENSUS at the head of a port's class B buffer, in a direction. -/
def Chip.censusAt (c : Chip) (p : Nat) (down : Bool) (f : Chip → Nat → Cell → Chip) : Chip :=
  match c.headB p 0x22 with
  | none => c
  | some x =>
    if Word.bit (x.pay 2) 31 != down then c
    else
      match c.meet x with
      | .inr k => c.staleB p k x
      | .inl g => f (c.popRx p clsB 1) g x

/-- CENSUS_RECEIVE (R274): an upward CENSUS. -/
def execCensusReceive (p : Port) (s : State) : Host.Outcome State Fault Refusal :=
  s.runPort p fun c =>
    c.censusAt p.val false fun c g x =>
      if !c.id.hub || 64 ≤ p.val || !((c.ent g).pmap.testBit p.val) then
        c.stale x.group p.val 5 (Word.field (x.pay 2) 0 16)
      else
        let k : PortCensus :=
          { count := Word.field (x.pay 3) 0 25, fsup := Word.field (x.pay 4) 8 8
            dp := Word.field (x.pay 5) 0 24, calculated := Word.bit (x.pay 5) 31 }
        (c.modEnt g fun e => { e with ports := SMap.insert e.ports p.val k }).regroup g

/-- CENSUS_DOWN_RECEIVE (R272, R275): a downward CENSUS. -/
def execCensusDownReceive (p : Port) (s : State) : Host.Outcome State Fault Refusal :=
  s.runPort p fun c =>
    c.censusAt p.val true fun c g x =>
      let e := c.ent g
      if e.apex || p.val != c.groupUp g then c.stale x.group p.val 8 e.gen
      else
        let complete := Word.bit (x.pay 2) 30
        let failed := Word.bit (x.pay 2) 29
        let c := c.modEnt g fun e =>
          { e with
            state := if failed || e.state == .failed then .failed else if complete then .active else e.state
            featShort := Word.bit (x.pay 2) 28
            fen := Word.field (x.pay 4) 0 8
            censusOk := complete && e.censusOk }
        let c := if complete && !failed && (c.ent g).state != .failed && !(c.ent g).admDue then c.censusDone g else c
        if c.id.hub then
          (c.ent g).listed.foldl (fun c q => c.sendCells q clsB [mkCell clsB 0x22 x.group (x.payload.take x.len)]) c
        else c

end Sys2Proof.Machine
end

