-- ==== Sys2Proof/Machine/Sem.lean ====
section
/-!
DEFINITION. Machine/Sem.lean: semaphores and grants (R245 to R254), and remote signals with their gates
(R255 to R263).
-/

namespace Sys2Proof.Machine

/-! ### Access -/

def Chip.sem (c : Chip) (n : Nat) : SemState := SMap.find c.sg.sems n .reset
def Chip.modSem (c : Chip) (n : Nat) (f : SemState → SemState) : Chip :=
  { c with sg := { c.sg with sems := SMap.put c.sg.sems n .reset (f (c.sem n)) } }

/-- How many semaphores a die has (R245). -/
def semCount : Nat := 49152

/-- ORD, NRANK and the group of a semaphore (SG_SCFG). -/
def SemState.ord (s : SemState) : Bool := Word.bit s.cfg 31
def SemState.nrank (s : SemState) : Nat := if Word.field s.cfg 0 8 = 0 then 256 else Word.field s.cfg 0 8
def SemState.group (s : SemState) : Option Nat :=
  if Word.bit s.cfg 30 then some (Word.field s.cfg 16 8) else none

/-- The agents that wait on a semaphore. -/
def Chip.waitersOf (c : Chip) (sem : Nat) : List (Nat × WaitState) := c.sg.waits.filter fun w => w.2.sem == sem

/-- The capture pause stops sequencer issue and the shared port (R324). -/
def Chip.paused (c : Chip) : Bool := c.cp.stage == .paused

/-- Activity of the group that a semaphore names (R264). -/
def Chip.semAct (c : Chip) (sem : Nat) : Chip :=
  match (c.sem sem).group with
  | some g => c.activity g
  | none => c

/-- An operation has executed on a port. -/
def Chip.opDone (c : Chip) : Chip := (c.bump Reg.SG_OPS 1).count 0x450 none

/-- Who asked for an operation, as the second parameter of an SG record says it. -/
inductive Who where
  | agent (a : Nat)
  | master (m : Master)
  | remote
deriving DecidableEq, Repr

def Who.word : Who → Word
  | .agent a => BitVec.ofNat 32 a
  | .master m => BitVec.ofNat 32 (0xFFF0 + m.code)
  | .remote => 0xFFFF

/-- A semaphore fault is reported (R249). -/
def Chip.semFault (c : Chip) (e : Ev) (sem : Nat) (who : Who) : Chip :=
  c.report e { p1 := BitVec.ofNat 32 sem, p2 := who.word, p3 := some 0 }

/-! ### Signals -/

/-- A directed credit. -/
def findDir : List DirCredit → Nat → Nat → Option Nat
  | [], _, _ => none
  | d :: r, sem, tag => if d.sem = sem && d.tag = tag then some d.credit else findDir r sem tag

/-- A directed credit set: one of 0 is freed. -/
def setDir (l : List DirCredit) (sem tag credit : Nat) : List DirCredit :=
  if (findDir l sem tag).isSome then
    (l.map fun d => if d.sem = sem && d.tag = tag then { d with credit := credit } else d).filter
      fun d => d.credit != 0
  else l ++ [{ sem := sem, tag := tag, credit := credit }]

/-- SIGNAL, undirected or directed (R248, R249, R252); the answer says whether it was taken. -/
def Chip.semSignal (c : Chip) (who : Who) (sem n : Nat) (dir : Bool) (tag : Nat) : Chip × Bool :=
  if semCount ≤ sem then (c.semFault Event.SG_SEM_RANGE sem who, false)
  else if dir then
    let cur := findDir c.sg.dirs sem tag
    if cur.getD 0 + n > 65535 then (c.semFault Event.SG_SEM_OVF sem who, false)
    else if cur.isNone && c.sg.dirs.length ≥ 1024 then (c.semFault Event.SG_DIR_FULL sem who, false)
    else
      let dirs := setDir c.sg.dirs sem tag (cur.getD 0 + n)
      let c := { c with sg := { c.sg with dirs := dirs, dirPeak := max c.sg.dirPeak dirs.length } }
      (c.opDone.semAct sem, true)
  else if (c.sem sem).count + n > 65535 then (c.semFault Event.SG_SEM_OVF sem who, false)
  else ((c.modSem sem fun s => { s with count := s.count + n }).opDone.semAct sem, true)

/-! ### Waits and grants -/

/-- A blocked wait ends with its grant: a thread runs, a core slot is woken (R253). -/
def Chip.granted (c : Chip) (a : Nat) (w : WaitState) : Chip :=
  let c := { c with sg := { c.sg with waits := SMap.erase c.sg.waits a } }
  let c := (c.count 0x451 none).sample 0x06 a (((c.tk.frc - w.since) * 5 / 8 : Nat))
  let c := c.semAct w.sem
  if a < 1024 then c.wake a else c.toRun (a - 1024)

/-- A wait is withdrawn (CANCEL, HALT, a region reset). -/
def Chip.withdraw (c : Chip) (a : Nat) : Chip :=
  if SMap.has c.sg.waits a then
    let sem := (SMap.find c.sg.waits a
      { sem := 0, n := 0, dir := false, ord := false, rank := 0, tag := 0, since := 0, reported := false }).sem
    ({ c with sg := { c.sg with waits := SMap.erase c.sg.waits a } }).semAct sem
  else c

/-- SETEVENT (R248): every waiter registered before this cycle is granted. -/
def Chip.semSetevent (c : Chip) (who : Who) (sem : Nat) : Chip × Bool :=
  if semCount ≤ sem then (c.semFault Event.SG_SEM_RANGE sem who, false)
  else
    let set := c.waitersOf sem
    (set.foldl (fun c w => c.granted w.1 w.2) (c.opDone.semAct sem), true)

/-- WAIT (R248, R251, R253); the answer says whether it was registered. -/
def Chip.semWait (c : Chip) (a sem n : Nat) (dir ord : Bool) (rank tag : Nat) : Chip × Bool :=
  if semCount ≤ sem then (c.semFault Event.SG_SEM_RANGE sem (.agent a), false)
  else if SMap.has c.sg.waits a then (c.semFault Event.SG_WAIT_BUSY sem (.agent a), false)
  else if ord != (c.sem sem).ord || (ord && decide ((c.sem sem).nrank ≤ rank)) then
    (c.semFault Event.SG_MODE sem (.agent a), false)
  else
    let w : WaitState :=
      { sem := sem, n := n, dir := dir, ord := ord, rank := rank, tag := tag, since := c.tk.frc
        reported := false }
    (((({ c with sg := { c.sg with waits := SMap.insert c.sg.waits a w } }).count 0x452 none).opDone).semAct
      sem, true)

/-- Whether a waiter is eligible (R250 to R252). -/
def Chip.eligible (c : Chip) (w : WaitState) : Bool :=
  let s := c.sem w.sem
  if w.dir then
    match findDir c.sg.dirs w.sem w.tag with
    | some k => decide (w.n ≤ k)
    | none => false
  else decide (w.n ≤ s.count) && (!s.ord || w.rank == s.next)

/-- The first eligible waiter in agent order after the last granted agent. -/
def Chip.winner (c : Chip) (sem : Nat) : Option (Nat × WaitState) :=
  let last := (c.sem sem).last
  let l := (c.waitersOf sem).filter fun w => c.eligible w.2
  match l.find? fun w => decide (last < w.1) with
  | some w => some w
  | none => l.head?

/-- The grant takes its credit or its count. -/
def Chip.takeGrant (c : Chip) (a : Nat) (w : WaitState) : Chip :=
  let c :=
    if w.dir then
      { c with sg := { c.sg with
        dirs := setDir c.sg.dirs w.sem w.tag ((findDir c.sg.dirs w.sem w.tag).getD 0 - w.n) } }
    else
      c.modSem w.sem fun s =>
        { s with count := s.count - w.n, next := if s.ord then (s.next + 1) % s.nrank else s.next }
  c.modSem w.sem fun s => { s with last := a }

/-- GRANT (R250 to R253). -/
def execGrant (n : SemIdx) (s : State) : Host.Outcome State Fault Refusal :=
  s.runDie fun c =>
    match c.winner n.val with
    | some w => (c.takeGrant w.1 w.2).granted w.1 w.2
    | none => c

/-! ### SIGR and the staging queue -/

def Chip.gteDst (c : Chip) (i : Nat) : Word := c.reg Reg.GT_EDST i
def Chip.gteSem (c : Chip) (i : Nat) : Word := c.reg Reg.GT_ESEM i
def Chip.gteChan (c : Chip) (i : Nat) : Word := c.reg Reg.GT_ECHAN i

/-- The staging queue is full (R262). -/
def Chip.stagingFull (c : Chip) : Bool := decide (64 ≤ c.gt.staging.length)

/-- SIGR (R255): staged, or refused as GT_BAD. The queue has room. -/
def Chip.semSigr (c : Chip) (a gte n : Nat) (dir : Bool) (tag : Nat) : Chip × Bool :=
  let g := Word.field (c.gteSem gte) 16 8
  let e := c.ent g
  if !(Word.bit (c.gteDst gte) 31) || !e.state.usable || (dir && !(e.fen.testBit 1)) then
    (c.report Event.GT_GT_BAD { p1 := BitVec.ofNat 32 gte, p2 := BitVec.ofNat 32 a, p3 := some 0 }, false)
  else
    let x : Staged :=
      { agent := a, dest := Word.field (c.gteDst gte) 0 24, sem := Word.field (c.gteSem gte) 0 16
        chan := Word.field (c.gteChan gte) 0 12, grp := g, gid := e.gid, gen := e.gen, n := n, dir := dir
        tag := if dir then tag else 0 }
    (({ c with gt := { c.gt with staging := c.gt.staging ++ [x] } }).opDone, true)

/-! ### The shared port -/

/-- A core request executes (R246). -/
def Chip.coreExec (c : Chip) (s : Nat) (r : CoreReq) : Chip :=
  match r with
  | .signal sem n dir tag => (c.semSignal (.agent s) sem n dir tag).1
  | .setevent sem => (c.semSetevent (.agent s) sem).1
  | .wait sem n dir ord rank tag => (c.semWait s sem n dir ord rank tag).1
  | .sigr gte n dir tag =>
    if c.stagingFull then { c with sg := { c.sg with busy := c.sg.busy ++ [s] } }
    else (c.semSigr s gte n dir tag).1
  | .cancel => (c.withdraw s).opDone

/-- An operation waits for the shared port. -/
def Chip.sharedBusy (c : Chip) : Bool := !(c.sg.mops.isEmpty && c.sg.rq.isEmpty)

/-- The released signal that entered first (R261). -/
def Chip.nextMet (c : Chip) : Option (Nat × PendEntry) :=
  (c.gt.pend.filter fun e => e.2.met).foldl (fun best e => match best with
    | none => some e
    | some b => if e.2.order < b.2.order then some e else some b) none

/-- The shared port takes no new operation in this cycle: a capture pauses it, others wait, or the turn is that of a
released signal (R247). -/
def Chip.portTaken (c : Chip) : Bool := c.paused || c.sharedBusy || (c.sg.turn && c.nextMet.isSome)

/-- A request of a core slot: executed at once, or queued where the shared port is taken; a full queue takes none
(R247), and none comes in while the host's reset empties the queues (R366). -/
def Chip.coreReq (c : Chip) (s : Nat) (r : CoreReq) : Chip :=
  if c.pw.hostLow then c
  else if c.portTaken then
    if c.sg.rq.length < 64 then { c with sg := { c.sg with rq := c.sg.rq ++ [(s, r)] } } else c
  else
    ({ c with sg := { c.sg with busy := c.sg.busy.filter fun k => k != s, turn := true } }).coreExec s r

/-- A master's operation executes (R247). -/
def Chip.masterExec (c : Chip) (m : Master) (o : MasterOp) : Chip :=
  match o with
  | .signal sem n => (c.semSignal (.master m) sem n false 0).1
  | .setevent sem => (c.semSetevent (.master m) sem).1
  | .rstNext sem => ((c.modSem sem fun s => { s with next := 0 }).opDone).semAct sem

/-- A master's operation waits for its turn (R247). -/
def Chip.masterWait (c : Chip) (m : Master) (o : MasterOp) : Chip :=
  { c with sg := { c.sg with mops := c.sg.mops ++ [(m, o)] } }

/-- The operations of one write, in order: the first executes at once where the shared port is free, and the others
take later turns (R247). -/
def Chip.masterOps (c : Chip) (m : Master) (l : List MasterOp) : Chip :=
  match l with
  | [] => c
  | o :: rest =>
    rest.foldl (fun c o => c.masterWait m o)
      (if c.portTaken then c.masterWait m o else ({ c with sg := { c.sg with turn := true } }).masterExec m o)

/-- The other turn of the shared port: the oldest master operation, else the head of the request queue (R247). -/
def Chip.otherTurn (c : Chip) : Chip :=
  let sg := { c.sg with turn := true }
  match c.sg.mops, c.sg.rq with
  | o :: rest, _ => ({ c with sg := { sg with mops := rest } }).masterExec o.1 o.2
  | [], r :: rest =>
    ({ c with sg := { sg with rq := rest, busy := c.sg.busy.filter fun k => k != r.1 } }).coreExec r.1 r.2
  | [], [] => c

/-- SIGNAL of a core slot (R248). -/
def execSignal (t : Slot) (sem : Sem) (n : BitVec 16) (dir : Bool) (tag : BitVec 8) (s : State) :
    Host.Outcome State Fault Refusal :=
  s.runDie fun c => c.coreReq t.val (.signal sem.toNat (oneIfZero n.toNat) dir tag.toNat)

/-- SETEVENT of a core slot (R248). -/
def execSetevent (t : Slot) (sem : Sem) (s : State) : Host.Outcome State Fault Refusal :=
  s.runDie fun c => c.coreReq t.val (.setevent sem.toNat)

/-- WAIT of a core slot (R253). -/
def execWait (t : Slot) (sem : Sem) (n : BitVec 16) (dir ord : Bool) (rank tag : BitVec 8) (s : State) :
    Host.Outcome State Fault Refusal :=
  s.runDie fun c => c.coreReq t.val (.wait sem.toNat (oneIfZero n.toNat) dir ord rank.toNat tag.toNat)

/-- SIGR of a core slot (R255, R262). -/
def execCoreSigr (t : Slot) (gte : GateIdx) (n : BitVec 16) (dir : Bool) (tag : BitVec 8) (s : State) :
    Host.Outcome State Fault Refusal :=
  s.runDie fun c => c.coreReq t.val (.sigr gte.val (oneIfZero n.toNat) dir tag.toNat)

/-- CANCEL of a core slot (R248). -/
def execCancel (t : Slot) (s : State) : Host.Outcome State Fault Refusal :=
  s.runDie fun c => c.coreReq t.val .cancel

/-! ### RSIG cells and the pending buffer (R255 to R263) -/

/-- The fields of an RSIG cell (R257). -/
def rsigCell (x : Staged) (src gate : Nat) : Cell :=
  mkCell clsS (if x.dir then 0x31 else 0x30) x.gid
    [BitVec.ofNat 32 x.dest, BitVec.ofNat 32 src, Word.place x.sem 16 ||| BitVec.ofNat 32 x.n,
     BitVec.ofNat 32 gate, Word.place x.chan 16 ||| Word.place x.tag 8, BitVec.ofNat 32 x.gen]

def rsigDest (x : Cell) : Nat := Word.field (x.pay 2) 0 24
def rsigSrc (x : Cell) : Nat := Word.field (x.pay 3) 0 24
def rsigSem (x : Cell) : Nat := Word.field (x.pay 4) 16 16
def rsigChan (x : Cell) : Nat := Word.field (x.pay 6) 16 12

/-- STAGING_QUERY (R255): the head of the staging queue asks for its channel's transmit count. -/
def execStagingQuery (s : State) : Host.Outcome State Fault Refusal :=
  s.runDie fun c =>
    match c.gt.staging.head? with
    | none => c
    | some x =>
      let asked := c.gt.queries.any fun q => match q with
        | .tx _ => true
        | .rx _ _ | .gone _ => false
      if asked then c else { c with gt := { c.gt with queries := c.gt.queries ++ [FcQuery.tx x.chan] } }

/-- The lowest free entry of the pending buffer. -/
def freePend (m : SMap PendEntry) : Nat → Nat → Option Nat
  | 0, _ => none
  | k + 1, i => if SMap.has m i then freePend m k (i + 1) else some i

/-- The pending buffer's occupancy changed: its peak, and entry into the full state (R262). -/
def Chip.pendCheck (c : Chip) : Chip :=
  let n := c.gt.pend.length
  let full := decide (512 ≤ n)
  let c' := { c with gt := { c.gt with peak := max c.gt.peak n, full := full } }
  if full && !c.gt.full then c'.note Event.GT_PEND_FULL else c'

/-- A signal takes a free pending entry, and its received count is asked for (R259). -/
def Chip.pendTake (c : Chip) (i : Nat) (x : PendEntry) : Chip :=
  ({ c with gt := { c.gt with
    pend := SMap.insert c.gt.pend i { x with order := c.gt.order, since := c.tk.frc }
    order := c.gt.order + 1
    queries := c.gt.queries ++ [FcQuery.rx x.src x.chan] } }).pendCheck

/-- A gate is met (R260). -/
def gateMet (rx gate : Nat) : Bool := decide ((rx + 2 ^ 32 - gate) % 2 ^ 32 < 2 ^ 31)

/-- A received count for a source and channel reaches the pending entries it concerns. -/
def Chip.fcSeen (c : Chip) (src chan rx : Nat) : Chip :=
  { c with gt := { c.gt with pend := c.gt.pend.map fun e =>
      if e.2.src = src && e.2.chan = chan then
        (e.1, { e.2 with rx := some rx, met := e.2.met || gateMet rx e.2.gate })
      else e } }

/-- A class S cell is discarded at a die: its port is not UP, or it is misrouted (R258). -/
def Chip.rsigBad (c : Chip) (x : Cell) : Chip :=
  c.report Event.GT_RSIG_BAD
    { p1 := BitVec.ofNat 32 (rsigSrc x), p2 := Word.place (rsigChan x) 16 ||| BitVec.ofNat 32 (rsigSem x)
      p3 := BitVec.ofNat 32 (rsigDest x) }

/-- The staging head leaves with its gate value: to the S queue of the group's working-plane port, or to
the die's own pending buffer; without room there it stays and asks again, and where the port is not UP its cell is
discarded (R258). A fenced die sends none (R329). -/
def Chip.stageOut (c : Chip) (x : Staged) (gate : Nat) : Chip :=
  let own := c.tr.addr.getD 0
  let p := if c.planeOf x.grp then 1 else 0
  let leave (c : Chip) : Chip := { c with gt := { c.gt with staging := c.gt.staging.drop 1 } }
  if c.tr.addr = some x.dest then
    match freePend c.gt.pend 512 0 with
    | none => c
    | some i =>
      (leave c).pendTake i
        { src := own, sem := x.sem, n := x.n, gate := gate, chan := x.chan, tag := x.tag, dir := x.dir
          gid := x.gid, grp := x.grp, rx := none, since := 0, order := 0, stalled := false, met := false }
  else if !(c.takesType p clsS x.dir) then (leave c).rsigBad (rsigCell x own gate)
  else if (c.port p).q.txS.length < 128 && !c.hg.fenced then
    let c := (leave c).sendCells p clsS [rsigCell x own gate]
    let c := (c.bump Reg.GT_SENT 1).count 0x480 (some x.gid)
    (c.modEnt x.grp fun e => { e with dl := { e.dl with sent := (e.dl.sent + 1) % 2 ^ 32 } }).activity x.grp
  else c

/-- FC_ANSWER (R255, R259): the fabric answers the oldest count query. -/
def execFcAnswer (count : Word) (s : State) : Host.Outcome State Fault Refusal :=
  s.runDie fun c =>
    match c.gt.queries with
    | [] => c
    | q :: rest =>
      let c := { c with gt := { c.gt with queries := rest } }
      match q with
      | .tx _ =>
        match c.gt.staging.head? with
        | some x => c.stageOut x count.toNat
        | none => c
      | .rx src chan => c.fcSeen src chan count.toNat
      | .gone _ => c

/-- FCTR_TMO (R256): the oldest query has stood 64 cycles; it is reported and repeated. -/
def execFctrTmo (s : State) : Host.Outcome State Fault Refusal :=
  s.runDie fun c =>
    match c.gt.queries with
    | [] => c
    | .tx chan :: _ | .gone chan :: _ =>
      c.report Event.GT_FCTR_TMO { p1 := some 0, p2 := Word.place chan 16, p3 := some 0 }
    | .rx src chan :: _ =>
      c.report Event.GT_FCTR_TMO { p1 := BitVec.ofNat 32 src, p2 := some (Word.place chan 16 ||| 1), p3 := some 0 }

/-- The port on which a hub sends an RSIG on (R258); none where that port is not UP or is excluded, or its lane is of
version 1 and the signal a directed one (R88). -/
def Chip.rsigOut (c : Chip) (x : Cell) : Option Nat :=
  let p := if c.below (rsigDest x) then c.portTo (rsigDest x) else c.groupUp 0
  if c.takesType p clsS (newType x) then some p else none

/-- RSIG_FORWARD (R258): a hub sends a class S cell on, discards it, or lets it wait for room. -/
def execRsigForward (p : Port) (s : State) : Host.Outcome State Fault Refusal :=
  if s.chip.id.hub then
    s.runPort p fun c =>
      match c.headS p.val with
      | none => c
      | some x =>
        match c.meet x with
        | .inr k => (c.popRx p.val clsS 1).stale x.group p.val k (cellGen x).1
        | .inl _ =>
          match c.rsigOut x with
          | none => (c.popRx p.val clsS 1).stale x.group p.val 6 (cellGen x).1
          | some q =>
            if (c.port q).q.txS.length < 128 then
              (c.popRx p.val clsS 1).sendCells q clsS [mkCell clsS x.typ x.group (x.payload.take x.len)]
            else c
  else .fault .notPresent

/-- What a die finds wrong with an RSIG (R258): misrouted, stale with a reason, or nothing, and then its
entry. -/
inductive RsigCheck where
  | bad
  | stale (reason : Nat)
  | good (g : Nat)
deriving DecidableEq, Repr

def Chip.rsigCheck (c : Chip) (p : Nat) (x : Cell) : RsigCheck :=
  if c.tr.addr != some (rsigDest x) then .bad
  else
    match c.meet x with
    | .inr k => .stale k
    | .inl g => if p != c.groupUp g then .bad else .good g

/-- RSIG_RECEIVE (R258): a bad cell at the head of a die's S buffer is discarded; a good one stays. -/
def execRsigReceive (p : Port) (s : State) : Host.Outcome State Fault Refusal :=
  s.runDiePort p fun c =>
    match c.headS p.val with
    | none => c
    | some x =>
      match c.rsigCheck p.val x with
      | .good _ => c
      | .stale k => (c.popRx p.val clsS 1).stale x.group p.val k (cellGen x).1
      | .bad => (c.popRx p.val clsS 1).rsigBad x

/-- PENDING_ENTRY (R259): a good RSIG leaves the S buffer into a free pending entry. -/
def execPendingEntry (p : Port) (s : State) : Host.Outcome State Fault Refusal :=
  s.runDiePort p fun c =>
    match c.headS p.val with
    | none => c
    | some x =>
      match c.rsigCheck p.val x, freePend c.gt.pend 512 0 with
      | .good g, some i =>
        let gid := (c.ent g).gid
        let c := (c.popRx p.val clsS 1).pendTake i
          { src := rsigSrc x, sem := rsigSem x, n := Word.field (x.pay 4) 0 16, gate := (x.pay 5).toNat
            chan := rsigChan x, tag := Word.field (x.pay 6) 8 8, dir := x.typ == 0x31, gid := gid, grp := g
            rx := none, since := 0, order := 0, stalled := false, met := false }
        let c := (c.bump Reg.GT_RECV 1).count 0x481 (some gid)
        (c.modEnt g fun e => { e with dl := { e.dl with recv := (e.dl.recv + 1) % 2 ^ 32 } }).activity g
      | _, _ => c

/-- FC_UPDATE (R260): the fabric reports a received count. -/
def execFcUpdate (src : BitVec 24) (chan : BitVec 12) (count : Word) (s : State) :
    Host.Outcome State Fault Refusal :=
  s.runDie fun c => c.fcSeen src.toNat chan.toNat count.toNat

/-- The release turn of the shared port: the released signal that entered first executes (R260, R261). -/
def Chip.releaseTurn (c : Chip) : Chip :=
  match c.nextMet with
  | none => c
  | some (i, x) =>
    let c := ({ c with sg := { c.sg with turn := false }
                       gt := { c.gt with pend := SMap.erase c.gt.pend i } }).pendCheck
    let r := c.semSignal .remote x.sem (oneIfZero x.n) x.dir x.tag
    if r.2 then
      ((r.1.bump Reg.GT_RELS 1).count 0x482 (some x.gid)).sample 0x05 x.gid
        (((r.1.tk.frc - x.since) * 5 / 8 : Nat))
    else r.1

/-- One LCLK cycle of the shared port while operations wait there: the turn in force, which passes to the other where
nothing waits for it (R247). -/
def Chip.sharedCycle (c : Chip) : Chip :=
  if c.paused || !c.sharedBusy then c
  else if c.sg.turn && c.nextMet.isSome then c.releaseTurn
  else c.otherTurn

/-- REMOTE_SIGNAL_EXECUTE (R247, R260, R261): in a cycle whose turn is the other operations' no release executes. -/
def execRemoteSignalExecute (s : State) : Host.Outcome State Fault Refusal :=
  s.runDie fun c => if c.paused || (c.sharedBusy && !c.sg.turn) then c else c.releaseTurn

/-- GATE_STALL (R263): a gate has stayed unmet for GT_CFG.STALL, of which 0 counts as 1. -/
def execGateStall (i : PendIdx) (s : State) : Host.Outcome State Fault Refusal :=
  s.runDie fun c =>
    if SMap.has c.gt.pend i.val then
      match c.gt.pend.find? fun e => e.1 == i.val with
      | none => c
      | some (_, x) =>
        if x.met || x.stalled || c.usSinceFrc x.since < max 1 (Word.field (c.reg Reg.GT_CFG) 0 20) then c
        else
          let c := { c with gt := { c.gt with
            pend := SMap.insert c.gt.pend i.val { x with stalled := true } } }
          let third : Word × Chip :=
            match x.rx with
            | some rx => (BitVec.ofNat 32 x.gate - BitVec.ofNat 32 rx, c)
            | none => c.takeFree
          third.2.report Event.GT_GATE_STALL
            { p1 := BitVec.ofNat 32 x.src, p2 := Word.place x.chan 16 ||| BitVec.ofNat 32 x.sem, p3 := third.1 }
    else c

/-! ### The local condition of a group (R264) -/

def Chip.dlCfg (c : Chip) (g : Nat) : Word := c.reg Reg.DL_GCFG g

/-- Blocked waits on the group's semaphores. -/
def Chip.groupWaits (c : Chip) (g : Nat) : Nat :=
  (c.sg.waits.filter fun w => (c.sem w.2.sem).group == some g).length

/-- The die's arrival at a thread's barrier has been sent. -/
def Chip.arrivalSent (c : Chip) (g course : Nat) : Bool :=
  let e := c.ent g
  e.barrier == some course && !((c.heldOf g).any HeldMsg.isArrival)

/-- The stalled agents of a group. -/
def Chip.stalledOf (c : Chip) (g : Nat) : Nat :=
  c.groupWaits g + ((c.bound g).filter fun t =>
    t.2.mode == .halted || t.2.mode == .fault
      || (t.2.mode == .waitB && !(c.arrivalSent g t.2.course))).length

/-- Nothing of the group's remote signals is on the die. -/
def Chip.noSignals (c : Chip) (g : Nat) : Bool :=
  let gid := (c.ent g).gid
  !(c.gt.pend.any fun e => e.2.grp == g) && !(c.gt.staging.any fun x => x.grp == g)
    && !([0, 1].any fun p =>
      (c.port p).q.rxS.any (fun x => x.group == gid) || (c.port p).q.txS.any fun t => t.cell.group == gid)

/-- The local condition holds. -/
def Chip.localCond (c : Chip) (g : Nat) : Bool :=
  c.stalledOf g == Word.field (c.dlCfg g) 0 11 && 1 ≤ c.groupWaits g && c.noSignals g

end Sys2Proof.Machine
end

