-- ==== Sys2Proof/Machine/ViewsDie.lean ====
section
/-!
DEFINITION. Machine/ViewsDie.lean: what a read returns of the registers that show the die's blocks, the
groups, the recorder, the monitors and the power and firmware pages. Each view answers the word of one
register, or nothing where the register is a stored one.
-/

namespace Sys2Proof.Machine

/-! ### Helpers -/

/-- A word of flags, bit n from a test of n. -/
def mapWord (f : Nat → Bool) : Word :=
  (List.range 32).foldl (fun w j => w ||| Word.flag (f j) j) 0

/-- Whole µs since a Lyspen time. -/
def Chip.usSince (c : Chip) (t : Nat) : Nat := (c.now - t) / (1000 * nsUnit)

/-- A bit-field. -/
def fld (n bits lo : Nat) : Word := Word.place (n % 2 ^ bits) lo

/-- A signed number in a bit-field. -/
def sfld (i : Int) (bits lo : Nat) : Word := Word.place (i % (2 ^ bits : Nat)).toNat lo

/-! ### RT -/

/-- The current point of a tap has a valid period and valid crossing calibrations. -/
def Chip.opcalOk (c : Chip) (t : Nat) : Bool :=
  SMap.has (c.tap t).opcal (c.tap t).opsel && (c.xcTouching t).all fun x => (c.xcCal x).isSome

/-- RT_TSTAT. -/
def Chip.rtTstat (c : Chip) (t : Nat) : Word :=
  let x := c.tap t
  Word.flag x.calOk 31 ||| Word.flag x.chainOk 30 ||| Word.flag x.stopped 29 ||| Word.flag (x.running && !x.stopped) 28
    ||| fld x.opsel 2 26 ||| Word.flag (c.opcalOk t) 25 ||| sfld x.drift 6 8
    ||| (List.range 4).foldl (fun w j => w ||| Word.flag (c.line (4 * t + j)).armed.isSome j) 0

/-- RT_XSTAT of a crossing. -/
def Chip.rtXstat (c : Chip) (x : Nat) : Word :=
  let det := c.xcMode x == 2
  let cal := (c.xcCal x).isSome
  Word.flag (det && cal) 31 ||| Word.flag (c.xcFallback x) 30 ||| Word.flag (c.xc x).busy 29
    ||| Word.flag (c.xc x).slipped 28

def Chip.viewRt (c : Chip) (off t i : Nat) : Option Word :=
  let x := c.tap t
  let rolled := c.rollTaps.tap t
  let cr := 4 * t + i
  match off with
  | 0x040 => some (fld c.id.branches 3 24 ||| fld c.id.ntaps 9 0)
  | 0x048 => some (Word.flag c.rt.calBusy 0)
  | 0x050 => some (mapWord fun j => (c.tap (32 * i + j)).calOk)
  | 0x070 => some (mapWord fun j => c.reg Reg.RT_THIST (32 * i + j) != 0)
  | 0x404 => some (c.rtTstat t)
  | 0x40C => some (Word.flag x.xcal 0)
  | 0x410 => some (fld x.cumTicks 10 16 ||| fld x.hopTicks 4 8 ||| fld x.trim 6 0)
  | 0x414 => some (fld x.echo 16 0)
  | 0x418 => some (fld x.rper 24 0)
  | 0x41C => some (fld x.acc 24 0)
  | 0x420 => some (BitVec.ofNat 32 rolled.repCyc)
  | 0x424 => some (BitVec.ofNat 32 rolled.repSum)
  | 0x428 => some (fld rolled.repMax 24 0)
  | 0x42C => some (fld x.stopLong 16 16 ||| fld x.stopLast 16 0)
  | 0x430 => some (Word.flag (SMap.has x.opcal i) 31 ||| fld (SMap.find x.opcal i 0) 24 0)
  | 0x440 =>
    let l := c.line cr
    some (Word.flag l.late 31 ||| Word.flag l.armed.isSome 30 ||| fld l.flat 24 0)
  | 0x488 =>
    match c.xcCal cr with
    | some l => some (fld (l + Word.field (c.reg Reg.RT_XALLOW t i) 0 8) 8 8 ||| fld l 8 0)
    | none => some 0
  | 0x48C => some (c.rtXstat cr)
  | 0x494 =>
    some ((List.range 4).foldl (fun w p => w ||| fld (SMap.find (c.xc cr).lpath p 0xFF) 8 (8 * p)) 0)
  | _ => none

/-! ### TS and PO -/

def Chip.tsTap (c : Chip) (t : Nat) : TsTap := SMap.find c.ts.taps t .reset
def Chip.modTs (c : Chip) (t : Nat) (f : TsTap → TsTap) : Chip :=
  { c with ts := { c.ts with taps := SMap.put c.ts.taps t .reset (f (c.tsTap t)) } }

def Chip.po1 (c : Chip) (o : Nat) : PoOut := SMap.find c.po.outs o .reset
def Chip.modPo (c : Chip) (o : Nat) (f : PoOut → PoOut) : Chip :=
  { c with po := { c.po with outs := SMap.put c.po.outs o .reset (f (c.po1 o)) } }

/-- The taps in plumb alarm. -/
def Chip.alarms (c : Chip) : List (Nat × TsTap) := c.ts.taps.filter fun e => e.2.alarm

def Chip.viewTs (c : Chip) (off t : Nat) : Option Word :=
  let x := c.tsTap t
  match off with
  | 0x048 => some (mapWord fun j => (c.tsTap j).alarm)
  | 0x04C => some (mapWord fun j => (c.tsTap (32 + j)).alarm)
  | 0x050 =>
    some (Word.flag c.ts.suspect 31 ||| Word.flag c.ts.sign 30 ||| fld c.ts.suspectPort 8 16
      ||| fld c.alarms.length 7 0)
  | 0x058 =>
    match c.ts.swq.head? with
    | some q => some (Word.flag true 31 ||| Word.flag true 30 ||| fld q.1 4 0)
    | none => some 0
  | 0x05C => some (Word.part ((c.ts.swq.headD (0, 0)).2) 0)
  | 0x060 => some (Word.part ((c.ts.swq.headD (0, 0)).2) 1)
  | 0x064 => some (Word.part ((c.ts.swq.headD (0, 0)).2) 2)
  | 0x404 => some (Word.flag x.alarm 31 ||| Word.flag x.plValid 30 ||| fld x.txq.length 5 16)
  | 0x414 =>
    match x.txq.head? with
    | some q => some (Word.flag true 31 ||| Word.flag q.missed 30 ||| Word.flag q.ovrBefore 29 ||| fld q.fid 16 0)
    | none => some 0
  | 0x418 => some (match x.txq.head? with | some q => Word.part q.time 0 | none => 0)
  | 0x41C => some (match x.txq.head? with | some q => Word.part q.time 1 | none => 0)
  | 0x420 => some (match x.txq.head? with | some q => Word.part q.time 2 | none => 0)
  | 0x424 => some (Word.part x.rxl 0)
  | 0x428 => some (Word.part x.rxl 1)
  | 0x42C => some (fld (x.rxl >>> 64) 30 2 ||| fld x.rxlCls 2 0)
  | 0x430 =>
    match x.nb with
    | some a => some (Word.flag true 31 ||| fld a 24 0)
    | none => some 0
  | 0x434 => some (wordOfInt x.theta)
  | 0x438 => some (wordOfInt x.delay)
  | 0x43C => some (BitVec.ofNat 32 x.maxTheta)
  | 0x440 => some (fld x.skip 16 16 ||| fld x.valid 16 0)
  | _ => none

/-- A UART line found inverted is inverted at the pin while its AUTOINV is 1 (R192). -/
def Chip.uartFlip (c : Chip) (u : Nat) : Bool := c.po.uartInv.testBit u && Word.bit (c.reg Reg.PO_UCFG) u

def Chip.viewPo (c : Chip) (off o : Nat) : Option Word :=
  let x := c.po1 o
  match off with
  | 0x044 => some (fld c.po.uartAct 2 8 ||| Word.flag (c.uartFlip 1) 1 ||| Word.flag (c.uartFlip 0) 0)
  | 0x428 =>
    some (Word.flag x.armed.isSome 31 ||| Word.flag x.high 30 ||| Word.flag x.disabled 29
      ||| Word.flag x.openLoad 28 ||| fld (satNat 16 x.retries) 16 0)
  | 0x42C => some (BitVec.ofNat 32 x.done)
  | 0x434 => some (Word.part x.next 0)
  | 0x438 => some (Word.part x.next 1)
  | 0x43C => some (Word.part x.next 2)
  | 0x444 =>
    some (Word.flag x.activity 31 ||| Word.flag x.openIn 30 ||| Word.flag x.inverted 29
      ||| Word.flag x.corrected 28 ||| Word.flag x.pinHeld 27)
  | _ => none

/-! ### SQ and SQM -/

/-- The PC that SQ_TSTAT shows: the next instruction, and in FAULT or AUTH_HOLD the instruction
concerned. A thread in SYNC or FIRE holds its PC on that instruction until it retires. -/
def ThreadState.shownPc (x : ThreadState) : Nat :=
  if x.mode == .waitB || x.mode == .waitF then pcNext x.pc else x.pc

/-- Contributions outstanding on a thread for a course. -/
def ThreadState.outstanding (x : ThreadState) (course : Nat) : Nat :=
  match x.armOf course with
  | some a => a.k - a.made
  | none => 0

/-- SQ_TDET: the current course and the three before it (R294), as the servo's state leaves them (R291). -/
def Chip.sqTdet (c : Chip) (t : Nat) : Word :=
  let c := c.servoSweep
  let x := c.th t
  (List.range 4).foldl (fun w k =>
    if x.mode == .idle || x.course < x.n0 + k then w
    else w ||| Word.flag (c.inFlight x.grp (x.course - k)) (4 + k) ||| Word.flag (c.detOf x.grp (x.course - k)) k) 0

def Chip.viewSq (c : Chip) (off t i : Nat) : Option Word :=
  let x := c.th t
  match off with
  | 0x048 => some (fld c.llat 10 0)
  | 0x04C => some (mapWord fun n => !(c.th n).mode.stopped)
  | 0x050 => some (mapWord fun n => (c.th n).mode == .fault)
  | 0x054 => some (mapWord fun n => (c.th n).mode == .authHold)
  | 0x058 => some (mapWord fun n => c.reg Reg.SQ_THIST n != 0)
  | 0x408 =>
    some (fld x.mode.code 4 28 ||| fld (c.effPrio t) 2 26 ||| fld x.fcode 3 16 ||| fld x.shownPc 14 0)
  | 0x414 => some (BitVec.ofNat 32 x.course)
  | 0x424 => some (Word.part x.base 0)
  | 0x428 => some (Word.part x.base 1)
  | 0x42C => some (Word.part x.base 2)
  | 0x430 => some (BitVec.ofNat 32 (satNat 32 ((x.cursor - x.base) / nsUnit)))
  | 0x434 => some (Word.flag x.rvalid 31 ||| Word.flag x.rdet 30 ||| fld x.rflags 16 0)
  | 0x438 => some (BitVec.ofNat 32 x.rcourse)
  | 0x43C => some (c.sqTdet t)
  | 0x440 =>
    some ((List.range 4).foldl (fun w k =>
      if x.course < k then w else w ||| fld (x.outstanding (x.course - k)) 8 (8 * k)) 0)
  | 0x600 => some (Word.part (SMap.find x.mb i 0) 0)
  | 0x604 => some (Word.part (SMap.find x.mb i 0) 1)
  | _ => none

/-- A word of the program store; one that nothing has written holds an undefined value (log entry 4). -/
def Chip.sqmWord (c : Chip) (n : Nat) : BitVec 64 :=
  if SMap.has c.sq.store n then SMap.find c.sq.store n 0 else Config.sqmWord n

def Chip.viewSqm (c : Chip) (off : Nat) (m : Master) : Option Word :=
  let n := Word.field (c.regOf m Reg.SQM_ADDR) 0 15
  match off with
  | 0x04C => some (Word.part (c.sqmWord n).toNat 0)
  | 0x050 => some (Word.part (c.sqmWord n).toNat 1)
  | 0x058 => some (fld c.sq.perr 15 0)
  | _ => none

/-! ### MT and GR -/

/-- Member ports whose arrival is awaited. A die awaits its own from its previous release, or from census completion,
until it has left (R244); a thread that has armed shows that its census has completed, also where it has become
incomplete since. -/
def Chip.mtWaiting (c : Chip) (g : Nat) : Nat :=
  let e := c.ent g
  if c.id.hub then
    if e.state.usable && (e.barrier.isSome || e.censusOk) then (e.awaited e.current).length else 0
  else
    let held := (c.heldOf g).any HeldMsg.isArrival
    if e.state.usable && (held || (e.barrier.isNone && (e.latest.isSome || e.censusOk || !(c.armsOf g).isEmpty))) then 1 else 0

/-- MT_GSTAT. -/
def Chip.mtGstat (c : Chip) (g : Nat) : Word :=
  let e := c.ent g
  Word.flag e.barrier.isSome 31 ||| Word.flag (c.heldOf g != []) 30 ||| Word.flag e.apex 29
    ||| Word.flag e.expected.isSome 28 ||| fld (c.mtWaiting g) 7 0

/-- MT_GCOURSE. -/
def Chip.mtGcourse (c : Chip) (g : Nat) : Word := BitVec.ofNat 32 (c.ent g).current

def Chip.viewMt (c : Chip) (off g i : Nat) : Option Word :=
  let e := c.ent g
  let rel (f : Release → Word) : Option Word := some (match e.latest with | some r => f r | none => 0)
  match off with
  | 0x048 => some (fld (satNat 16 c.gr.qmax) 16 16 ||| fld (satNat 16 c.gr.qocc) 16 0)
  | 0x8A4 =>
    let d := c.dpath g
    some (Word.flag (!d.2 && e.state != .free) 31 ||| fld (satNat 24 (if e.state == .free then 0 else dpCeil d.1)) 24 0)
  | 0x8B0 => some (fld (satNat 16 e.clean) 16 0)
  | 0x8B4 => some (c.mtGstat g)
  | 0x8B8 => some (c.mtGcourse g)
  | 0x8C0 => rel fun r => Word.part (r.vals.getD i 0) 1
  | 0x8C4 => rel fun r => Word.part (r.vals.getD i 0) 0
  | 0x900 => rel fun r => Word.flag r.det 31 ||| fld r.sat 8 16 ||| fld r.flags 16 0
  | 0x904 => rel fun r => Word.part r.trel 1
  | 0x908 => rel fun r => Word.part r.trel 2
  | 0x90C => rel fun r => Word.part r.trel 0
  | _ => none

/-- GR_GKEY. -/
def Chip.grGkey (c : Chip) (g : Nat) : Word :=
  let e := c.ent g
  Word.flag (e.state != .free) 31 ||| fld (if c.id.hub then g else e.gid) 12 16 ||| fld e.gen 16 0

/-- GR_GSTAT. -/
def Chip.grGstat (c : Chip) (g : Nat) : Word :=
  let e := c.ent g
  fld e.state.code 3 29 ||| Word.flag e.censusOk 28 ||| Word.flag e.featShort 27 ||| Word.flag e.overDecl 26
    ||| Word.flag e.short 25 ||| Word.flag e.admitted 24 ||| Word.flag e.expelled 23

/-- GR_GCOUNT: the census sum, or a die's own COUNT. -/
def Chip.grGcount (c : Chip) (g : Nat) : Word :=
  fld (if c.id.hub then (c.ent g).gcount else (c.ent g).dieCount) 25 0

def Chip.viewGr (c : Chip) (off g : Nat) (m : Master) : Option Word :=
  let e := c.ent g
  match off with
  | 0x040 => some (fld (c.gr.entries.filter fun x => x.2.state != .free).length 13 0)
  | 0x048 =>
    let id := Word.field (c.regOf m Reg.GR_LGSEL) 0 12
    some (Word.flag (SMap.has c.gr.lastGen id) 16 ||| fld (SMap.find c.gr.lastGen id 0) 16 0)
  | 0x050 =>
    match c.findGid (Word.field (c.regOf m Reg.GR_FINDGID) 0 12) with
    | some k => some (Word.flag true 31 ||| fld k 12 0)
    | none => some 0
  | 0x400 => some (c.grGkey g)
  | 0x404 => some (if c.id.hub then Word.merge e.mode (Word.flag c.id.planeB 29) 0x20000000 else e.mode)
  | 0x408 => some (fld e.decl 25 0)
  | 0x40C => some (Word.part e.pmap 0)
  | 0x410 => some (Word.part e.pmap 1)
  | 0x414 => some (c.grGstat g)
  | 0x418 => some (fld e.fsup 8 8 ||| fld e.fen 8 0)
  | 0x41C => some (c.grGcount g)
  | 0x430 =>
    match e.pend with
    | some (_, d) => some (Word.flag true 31 ||| sfld d 26 0)
    | none => some 0
  | 0x434 => some (match e.pend with | some (n, _) => BitVec.ofNat 32 n | none => 0)
  | 0x438 => some (BitVec.ofNat 32 e.admCourse)
  | 0x43C => some (BitVec.ofNat 32 e.expCourse)
  | 0x444 =>
    let p := Word.field (c.regOf m Reg.GR_GPSEL g) 0 6
    some (Word.flag (e.pmap.testBit p) 31 ||| Word.flag (e.expects p e.current) 30
      ||| fld (SMap.find e.ports p { count := 0, fsup := 0, dp := 0, calculated := false }).count 25 0)
  | 0x448 =>
    if e.state == .quar then some (fld (64 - min 64 (c.usSinceFrc e.quarAt)) 7 0) else some 0
  | _ => none

/-! ### SG, GT and DL -/

/-- SG_WST0 and SG_WST1 of an agent. -/
def Chip.sgWst (c : Chip) (a : Nat) : Word × Word :=
  match c.sg.waits.find? fun e => e.1 == a with
  | some (_, w) =>
    (Word.flag true 31 ||| Word.flag w.dir 30 ||| Word.flag w.ord 29 ||| fld w.sem 16 0,
     fld w.rank 8 24 ||| fld w.tag 8 16 ||| fld w.n 16 0)
  | none => (0, 0)

/-- The command bits of SG_SCMD: each reads 1 until its action has been taken on the shared port (R46, R247). -/
def Chip.scmdWaits (c : Chip) : Word :=
  let some_ (f : MasterOp → Bool) : Bool := c.sg.mops.any fun o => f o.2
  Word.flag (some_ fun o => match o with | .setevent _ => true | _ => false) 1
    ||| Word.flag (some_ fun o => match o with | .rstNext _ => true | _ => false) 0

/-- Age in µs of an agent's wait. -/
def Chip.waitAge (c : Chip) (a : Nat) : Nat :=
  match c.sg.waits.find? fun e => e.1 == a with
  | some (_, w) => satNat 32 (c.usSinceFrc w.since)
  | none => 0

def Chip.viewSg (c : Chip) (off i : Nat) (m : Master) : Option Word :=
  let n := Word.field (c.regOf m Reg.SG_SEL) 0 16
  let a := Word.field (c.regOf m Reg.SG_WSEL) 0 11
  let s := c.sem n
  match off with
  | 0x044 => some s.cfg
  | 0x048 => some (fld s.count 16 0)
  | 0x04C =>
    let k := (c.waitersOf n).length
    some (Word.flag (k != 0) 31 ||| fld k 11 16 ||| fld s.next 8 0)
  | 0x050 => some c.scmdWaits
  | 0x058 => some (fld s.last 11 0)
  | 0x064 => some (c.sgWst a).1
  | 0x068 => some (c.sgWst a).2
  | 0x06C => some (BitVec.ofNat 32 (c.waitAge a))
  | 0x070 => some (fld c.sg.dirPeak 11 16 ||| fld c.sg.dirs.length 11 0)
  | 0x074 => some (fld c.sg.rq.length 7 0)
  | 0x080 => some (mapWord fun j => SMap.has c.sg.waits (32 * i + j))
  | _ => none

/-- GT_PENT0 to GT_PENT3 of a pending entry. -/
def Chip.gtPent (c : Chip) (i : Nat) : List Word :=
  match c.gt.pend.find? fun e => e.1 == i with
  | some (_, x) =>
    [Word.flag true 31 ||| Word.flag x.stalled 30 ||| Word.flag x.dir 29 ||| fld x.src 24 0,
     BitVec.ofNat 32 x.gate, fld x.chan 12 16 ||| fld x.sem 16 0, BitVec.ofNat 32 (x.rx.getD 0)]
  | none => [0, 0, 0, 0]

def Chip.viewGt (c : Chip) (off : Nat) (m : Master) : Option Word :=
  let p := c.gtPent (Word.field (c.regOf m Reg.GT_PSEL) 0 9)
  match off with
  | 0x054 => some (fld c.gt.peak 10 16 ||| fld c.gt.pend.length 10 0)
  | 0x058 => some (fld c.gt.staging.length 7 0)
  | 0x068 => some (BitVec.ofNat 32 (satNat 32
      (c.gt.pend.foldl (fun n e => max n (c.usSinceFrc e.2.since)) 0)))
  | 0x074 => some (p.getD 0 0)
  | 0x078 => some (p.getD 1 0)
  | 0x07C => some (p.getD 2 0)
  | 0x080 => some (p.getD 3 0)
  | _ => none

/-- DL_GSTAT. -/
def Chip.dlGstat (c : Chip) (g : Nat) : Word :=
  let e := c.ent g
  Word.flag (c.localCond g && Word.bit (c.dlCfg g) 31) 31 ||| Word.flag e.dl.lquiet 30
    ||| Word.flag e.dl.deadlock 29 ||| Word.flag (e.state != .free && !e.apex) 28 ||| fld (c.stalledOf g) 11 16

def Chip.viewDl (c : Chip) (off i : Nat) (m : Master) : Option Word :=
  let g := Word.field (c.regOf m Reg.DL_GSEL) 0 8
  let d := (c.ent g).dl
  match off with
  | 0x04C => some (c.dlGstat g)
  | 0x050 => some (BitVec.ofNat 32 d.act)
  | 0x054 => some (BitVec.ofNat 32 d.sent)
  | 0x058 => some (BitVec.ofNat 32 d.recv)
  | 0x05C => some (fld d.epVerdict 16 16 ||| fld (d.epProbe.getD 0) 16 0)
  | 0x060 => some (fld d.episodes 16 16 ||| fld d.epDetect 16 0)
  | 0x064 => some (mapWord fun j => (c.ent (32 * i + j)).dl.deadlock)
  | _ => none

/-! ### HG and CP -/

def EngReset.code : EngReset → Nat
  | .normal => 0
  | .engine => 1
  | .region => 2
  | .fenced => 3

/-- HG_ESTAT of an engine. -/
def Chip.hgEstat (c : Chip) (e : Nat) : Word :=
  let x := c.eng e
  Word.flag (!x.done) 31 ||| Word.flag x.hbto 30 ||| fld x.rstate.code 3 27 ||| fld (satNat 20 (c.usSince x.hbAt)) 20 0

def Chip.viewHg (c : Chip) (off i : Nat) (m : Master) : Option Word :=
  let e := Word.field (c.regOf m Reg.HG_ESEL) 0 10
  let k := (c.eng e).log[Word.field (c.regOf m Reg.HG_ELSEL) 0 3]?
  let u := c.hg.suspects[Word.field (c.regOf m Reg.HG_SUSSEL) 0 6]?
  match off with
  | 0x058 => some (c.hgEstat e)
  | 0x060 => some (match k with | some x => x.ctx | none => 0)
  | 0x064 => some (match k with | some x => x.start | none => 0)
  | 0x068 =>
    some (match k with | some x => (match x.done with | some d => nsLow d | none => 0xFFFFFFFF) | none => 0xFFFFFFFF)
  | 0x084 =>
    some (Word.flag (c.hg.solo != .off) 31 ||| Word.flag c.hg.soloDone 30 ||| fld c.hg.soloIdx 6 16
      ||| fld c.hg.hangs 7 0)
  | 0x08C => some (Word.flag c.hg.trunc 7 ||| fld c.hg.suspects.length 7 0)
  | 0x094 => some (match u with | some x => x.ctx | none => 0)
  | 0x098 => some (match u with | some x => fld (x.line.getD 0) 10 16 ||| fld x.eng 10 0 | none => 0)
  | 0x09C => some (match u with | some x => fld x.res 2 0 | none => 0)
  | 0x0A4 => some (if c.hg.fenceT = 0 then 0 else nsLow c.hg.fenceT)
  | 0x0B0 => some (mapWord fun j => (c.eng (32 * i + j)).rstate != .normal)
  | _ => none

def Chip.viewCp (c : Chip) (off : Nat) (m : Master) : Option Word :=
  match off with
  | 0x050 => some (BitVec.ofNat 32 c.cp.seq)
  | 0x058 => some (SMap.find c.cp.words (Word.field (c.regOf m Reg.CP_RADDR) 0 16) 0)
  | _ => none

/-! ### GD, EV, MN, HS, PW and FW -/

/-- Milliseconds left of the watchdog (R312). -/
def Chip.wdPeriod (c : Chip) : Nat := oneIfZero (Word.field (c.reg Reg.GD_WDCFG) 0 16)

def Chip.viewGd (c : Chip) (off : Nat) : Option Word :=
  match off with
  | 0x05C =>
    some (fld (satNat 8 c.gd.expiries) 8 16
      ||| (if c.gd.wdRun then fld (c.wdPeriod - (c.tk.frc - c.gd.kickAt) / 1600000) 16 0 else 0))
  | _ => none

/-- Operating time in seconds (R338). -/
def Chip.opTime (c : Chip) : Word := BitVec.ofNat 32 (c.tk.frc / 1600000000 + c.ev.optOff)

def Chip.ringWord (c : Chip) (m : Master) (k : Nat) : Word :=
  (SMap.find c.ev.ring (Word.field (c.regOf m Reg.EV_RSEL) 0 12) []).getD k 0

def Chip.viewEv (c : Chip) (off i : Nat) (m : Master) : Option Word :=
  match off with
  | 0x040 => some (BitVec.ofNat 32 c.ev.wrSeq)
  | 0x04C => some (c.ringWord m 0)
  | 0x050 => some (c.ringWord m (i + 1))
  | 0x070 => some c.opTime
  | 0x074 => some (fld c.ev.pcyc 24 0)
  | 0x08C => some (BitVec.ofNat 32 c.ev.hmSeq)
  | 0x094 =>
    match c.ev.uploads.head? with
    | some u => some (Word.flag true 31 ||| fld u.1 24 0)
    | none => some 0
  | 0x098 => some (match c.ev.uploads.head? with | some u => u.2.getD i 0 | none => 0)
  | 0x0B8 =>
    let w := c.reg Reg.EV_SEVQ
    some (w ||| fld (severity c.id.hub (Word.field w 0 16)) 3 16)
  | _ => none

def Chip.viewMn (c : Chip) (off : Nat) (m : Master) : Option Word :=
  let k := Word.field (c.regOf m Reg.MN_CSEL) 0 9
  let p := Word.field (c.regOf m Reg.MN_PSEL) 0 4
  let cnt := SMap.find c.mn.counts k 0
  let snp := SMap.find c.mn.snap k 0
  match off with
  | 0x048 => c.mn.armed.map fun t => Word.part t 0
  | 0x04C => c.mn.armed.map fun t => Word.part t 1
  | 0x050 => c.mn.armed.map fun t => Word.part t 2
  | 0x054 => some (BitVec.ofNat 32 c.mn.snapSeq)
  | 0x058 => some (Word.part c.mn.snapAt 0)
  | 0x05C => some (Word.part c.mn.snapAt 1)
  | 0x060 => some (Word.part c.mn.snapAt 2)
  | 0x070 => some (Word.part cnt 0)
  | 0x074 => some (Word.part cnt 1)
  | 0x078 => some (Word.part snp 0)
  | 0x07C => some (Word.part snp 1)
  | 0x08C => some (Word.part (SMap.find c.mn.pins p 0) 0)
  | 0x090 => some (Word.part (SMap.find c.mn.pins p 0) 1)
  | 0x094 => some (Word.part (SMap.find c.mn.psnap p 0) 0)
  | 0x098 => some (Word.part (SMap.find c.mn.psnap p 0) 1)
  | _ => none

def Chip.viewHs (c : Chip) (off u i : Nat) : Option Word :=
  let x := c.hsUnit u
  let en (k : Nat) : Bool := Word.bit (c.reg Reg.HS_UCFG k) 31
  match off with
  | 0x040 => some (mapWord fun k => k < 16 && en k)
  | 0x40C =>
    some (Word.flag (en u && !x.stopped) 31 ||| Word.flag x.stopped 30 ||| Word.flag (x.nsamp == 0) 29)
  | 0x414 => some (Word.part x.nsamp 0)
  | 0x418 => some (Word.part x.nsamp 1)
  | 0x41C => some (wordOfInt x.min)
  | 0x420 => some (Word.part x.minT 1)
  | 0x424 => some (Word.part x.minT 0)
  | 0x428 => some (wordOfInt x.max)
  | 0x42C => some (Word.part x.maxT 1)
  | 0x430 => some (Word.part x.maxT 0)
  | 0x500 => some (BitVec.ofNat 32 (SMap.find x.bins i 0))
  | _ => none

/-- What a rail's monitor shows (R358): it is updated every 1 ms, and shows 0 until the first update. -/
def Chip.railShown (c : Chip) (rail : Nat) : Word :=
  let ms := c.tk.frc / 1600000
  if ms = 0 then 0 else Config.railReading c.pw.powerOn rail ms

/-- The PW page. -/
def Chip.viewPw (c : Chip) (off : Nat) : Option Word :=
  match off with
  | 0x040 => some (c.railShown 0 &&& 0x00000FFF)
  | 0x044 => some (c.railShown 1 &&& 0x00FF0FFF)
  | 0x048 => some (c.railShown 2 &&& 0x00000FFF)
  | 0x04C => some (c.railShown 3 &&& 0x00000FFF)
  | 0x050 => some c.pw.temp
  | 0x060 => some (fld c.pw.rstCause 4 0)
  | 0x068 =>
    some (Word.flag c.fw.booted 2 ||| Word.flag c.pw.chainDone 1 ||| Word.flag c.pw.lanesReleased 0)
  | _ => none

/-- FW_BOOTT in ms. -/
def Chip.bootMs (c : Chip) : Nat :=
  match c.fw.bootMs with
  | some n => n
  | none => if c.fw.running then satNat 32 ((c.tk.frc - c.fw.bootAt) / 1600000) else 0

def Chip.viewFw (c : Chip) (off : Nat) : Option Word :=
  match off with
  | 0x048 => some (Word.flag c.fw.trial 31 ||| Word.flag c.fw.fromSram 16 ||| Word.flag c.fw.bankB 0)
  | 0x04C => some c.fw.bstatA
  | 0x050 => some c.fw.bstatB
  | 0x054 => some (fld c.id.svnMin 16 0)
  | 0x058 => some (fld c.id.keys 8 0)
  | 0x05C => some c.fw.run
  | 0x068 => some (Word.flag c.fw.erasing 31 ||| fld (1024 - c.fw.buffer.length) 11 0)
  | 0x06C => some (c.reg Reg.FW_HOBSTAT ||| Word.flag c.fw.prot 31)
  | 0x070 => some (BitVec.ofNat 32 c.bootMs)
  | _ => none

end Sys2Proof.Machine
end

