-- ==== Sys2Proof/Machine/Seq.lean ====
section
/-!
DEFINITION. Machine/Seq.lean: the step sequencer (R193 to R219): thread controls, the issue of
instructions, one meaning for each instruction, and what wakes a waiting thread.
-/

namespace Sys2Proof.Machine

/-! ### Thread controls (R195, R196) -/

/-- A time in three registers, the first its lowest word. -/
def timeOf (frac lo hi : Word) : Nat := hi.toNat * 2 ^ 64 + lo.toNat * 2 ^ 32 + frac.toNat

/-- START (R195): latches its values, then CWAIT, or RUN where the census is complete. A thread of a
die whose admission has been delivered takes that release as its base (R282). -/
def Chip.threadStart (c : Chip) (t : Nat) : Chip :=
  let x := c.th t
  if !x.mode.stopped then c
  else
    let cfg := c.reg Reg.SQ_TCFG t
    let g := Word.field cfg 16 8
    let n0 := (c.reg Reg.SQ_TCOURSE t).toNat
    let b := timeOf (c.reg Reg.SQ_SBASE_FRAC t) (c.reg Reg.SQ_SBASE_NSLO t) (c.reg Reg.SQ_SBASE_NSHI t)
    let e := c.ent g
    let base :=
      match e.latest with
      | some r => if e.admitted && n0 == e.admCourse && b == 0 && r.course + 1 == n0 then r.trel else b
      | none => b
    let c := c.modTh t fun x =>
      { x with
        mode := .cwait, pc := Word.field cfg 0 14, aged := 0, grp := g, course := n0, n0 := n0
        base := base, cursor := base, rvalid := x.rvalid && decide (n0 ≤ x.rcourse), fcode := 0
        overrun := false, synced := none, stalled := false, solo := false }
    if e.censusOk then c.toRun t else c

/-- HALT by a master or by the fence (R196, R329). -/
def Chip.threadHalt (c : Chip) (t : Nat) : Chip :=
  if (c.th t).mode == .idle then c
  else (c.withdraw (1024 + t)).modTh t fun x => { x with mode := .halted, pc := x.shownPc }

/-- The withheld lines of a thread pass their tap moment at the next tick (R24); those on a tap that has died since are
lost (R160). -/
def Chip.releaseWithheld (c : Chip) (t : Nat) : Chip :=
  let held (e : Nat × LineState) : Option (Nat × LineArm) :=
    match e.2.armed with
    | some a => if a.thread == t && a.withheld && !a.solo && !c.tapLive (e.1 / 4) then some (e.1, a) else none
    | none => none
  let c := (c.rt.lines.filterMap held).foldl (fun c e => c.lineDead e.1 e.2) c
  c.mapArmed fun n a =>
    if a.thread == t && a.withheld && !a.solo then
      some { a with
        withheld := false, moment := some (c.tk.stamp (c.tk.frc + 1) 0), calOk := (c.tap (n / 4)).calOk
        inStop := (c.tap (n / 4)).stopped }
    else some a

/-- RESUME (R196). -/
def Chip.threadResume (c : Chip) (t : Nat) : Chip :=
  if (c.th t).mode == .authHold then
    (c.releaseWithheld t).modTh t fun x => { x with mode := .waitF }
  else c

/-- CANCEL (R196). -/
def Chip.threadCancel (c : Chip) (t : Nat) : Chip :=
  if (c.th t).mode.stopped then c.cancelArms t else c

/-- A write to SQ_TCTRL: its controls act in the order HALT, RESUME, CANCEL, START (R196). -/
def Chip.tctrl (c : Chip) (t : Nat) (w : Word) : Chip :=
  let c := if Word.bit w 1 then c.threadHalt t else c
  let c := if Word.bit w 2 then c.threadResume t else c
  let c := if Word.bit w 3 then c.threadCancel t else c
  if Word.bit w 0 then c.threadStart t else c

/-- A soft reset of the page: every thread IDLE, every pending arm cancelled, every mailbox cleared. -/
def Chip.sqSoftReset (c : Chip) : Chip :=
  let c := (List.range 32).foldl (fun c t => (c.withdraw (1024 + t)).cancelArms t) c
  { c with sq := { c.sq with threads := [], rot := [] } }

/-- SQ_CFG.AGE in µs, where 0 is taken as 1. -/
def Chip.sqAge (c : Chip) : Nat := oneIfZero (Word.field (c.reg Reg.SQ_CFG) 0 10)

/-- THREAD_AGED (R199): a further AGE in RUN without issuing raises the thread a level, counted and
flagged. -/
def execThreadAged (t : Thread) (s : State) : Host.Outcome State Fault Refusal :=
  s.runDie fun c =>
    if (c.th t.val).mode == .run && c.effPrio t.val < 3
        && ((c.th t.val).aged + 1) * c.sqAge ≤ c.usSinceFrc (c.th t.val).runAt then
      (c.modTh t.val fun x => { x with aged := x.aged + 1 }).note Event.SQ_AGED (some t.val)
    else c

/-! ### Issue (R198) -/

/-- The word at a thread's PC. -/
def Chip.fetch (c : Chip) (t : Nat) : BitVec 64 := c.sqmWord (c.th t).pc

/-- A thread that competes for the issue slot: in RUN, and not a SIGR that finds the staging queue full
(R262). -/
def Chip.canIssue (c : Chip) (t : Nat) : Bool :=
  (c.th t).mode == .run && !(Iw.op (c.fetch t) == 0x29 && Iw.good (c.fetch t) && c.stagingFull)

/-- The thread that issues next: the highest effective priority, and within it the first after the one
that last issued at that level. -/
def Chip.pick (c : Chip) : Option Nat :=
  let ready := (List.range 32).filter c.canIssue
  let top := ready.foldl (fun m t => max m (c.effPrio t)) 0
  let level := ready.filter fun t => c.effPrio t == top
  let last := SMap.find c.sq.rot top 31
  match level.find? fun t => decide (last < t) with
  | some t => some t
  | none => level.head?

/-- The issue slot is used: the rotation moves, the thread's aging ends, and the issue is counted. -/
def Chip.issued (c : Chip) (t : Nat) : Chip :=
  let lvl := c.effPrio t
  let c := { c with sq := { c.sq with rot := SMap.insert c.sq.rot lvl t } }
  (c.modTh t fun x => x.hasIssued c.tk.frc).count 0x440 (some t)

/-- A thread issues an instruction that the table has, when the slot is its own and the word at its PC
is of the opcode the row names. -/
def Chip.issue (c : Chip) (t op : Nat) (f : Chip → BitVec 64 → Chip) : Chip :=
  let w := c.fetch t
  if c.paused || c.pick != some t || Iw.op w != op || !(Iw.good w) then c
  else f (c.issued t) w

/-- The thread goes on with the next instruction. -/
def Chip.nextPc (c : Chip) (t : Nat) : Chip := c.modTh t fun x => { x with pc := pcNext x.pc }

/-- BAD_OPND (R201): reported, and the thread stops on the instruction. -/
def Chip.badOpnd (c : Chip) (t : Nat) : Chip := c.thFault t Event.SQ_BAD_OPND 2

/-- The thread's group entry can be used for a course (R219, R283). -/
def Chip.grpUsable (c : Chip) (t course : Nat) : Bool :=
  let e := c.ent (c.th t).grp
  e.state.usable && !(e.expelled && decide (e.expCourse ≤ course))

/-- NOGROUP (R219). -/
def Chip.noGroup (c : Chip) (t : Nat) : Chip := c.thFault t Event.SQ_NOGROUP 4

/-! ### Control flow -/

/-- NOP. -/
def execNop (t : Thread) (s : State) : Host.Outcome State Fault Refusal :=
  s.runDie fun c => c.issue t.val 0x00 fun c _ => c.nextPc t.val

/-- HALT: the thread enters HALTED; a solo prologue ends (R334). -/
def execHalt (t : Thread) (s : State) : Host.Outcome State Fault Refusal :=
  s.runDie fun c => c.issue t.val 0x01 fun c _ =>
    if (c.th t.val).solo then
      let c := c.modTh t.val fun x => { x with mode := .solo }
      { c with hg := { c.hg with solo := .fire } }
    else c.modTh t.val fun x => { x with mode := .halted, pc := pcNext x.pc }

/-- JMP. -/
def execJmp (t : Thread) (s : State) : Host.Outcome State Fault Refusal :=
  s.runDie fun c => c.issue t.val 0x08 fun c w => c.modTh t.val fun x => { x with pc := Iw.b w }

/-- LOOP. -/
def execLoop (t : Thread) (s : State) : Host.Outcome State Fault Refusal :=
  s.runDie fun c => c.issue t.val 0x09 fun c w =>
    let v := c.mbox t.val (Iw.a w)
    if v = 0 then c.nextPc t.val
    else (c.setMbox t.val (Iw.a w) (v - 1)).modTh t.val fun x => { x with pc := Iw.b w }

/-- A flag of R215. -/
def ThreadState.brFlag (x : ThreadState) (i : Nat) : Bool :=
  if i < 16 then x.rvalid && x.rflags.testBit i
  else if i = 16 then x.rvalid && x.rdet
  else if i = 17 then x.rvalid
  else x.solo

/-- BRF (R215). -/
def execBrf (t : Thread) (s : State) : Host.Outcome State Fault Refusal :=
  s.runDie fun c => c.issue t.val 0x0A fun c w =>
    if 18 < Iw.a w then c.badOpnd t.val
    else if (c.th t.val).brFlag (Iw.a w) == (Iw.fl w).testBit 0 then
      c.modTh t.val fun x => { x with pc := Iw.b w }
    else c.nextPc t.val

/-- BAD_OP (R201): the word at the PC is of no opcode of the table, or sets an unused bit. -/
def execBadOp (t : Thread) (s : State) : Host.Outcome State Fault Refusal :=
  s.runDie fun c =>
    if c.paused || c.pick != some t.val || Iw.good (c.fetch t.val) then c
    else (c.issued t.val).thFault t.val Event.SQ_BAD_OP 1

/-! ### Time (R202 to R204) -/

/-- A time operand: base + offset, or with ABS the absolute time of a mailbox (R202). -/
def Chip.opTimeOf (c : Chip) (t : Nat) (w : BitVec 64) : Nat :=
  if (Iw.fl w).testBit 1 then (c.mbox t (Iw.a w % 64) * nsUnit) % 2 ^ 96
  else ((c.th t).base + Iw.offset w) % 2 ^ 96

/-- WAITT (R203). -/
def execWaitt (t : Thread) (s : State) : Host.Outcome State Fault Refusal :=
  s.runDie fun c => c.issue t.val 0x10 fun c w =>
    let cur := c.opTimeOf t.val w
    let lead := Word.field (c.reg Reg.SQ_CFG) 16 10 * nsUnit
    let wake := if (Iw.fl w).testBit 0 then cur else cur - lead
    let c := (c.nextPc t.val).modTh t.val fun x => { x with cursor := cur, wake := wake }
    if wake ≤ c.now then c else c.modTh t.val fun x => { x with mode := .waitT }

/-- WAITT_WAKE (R203). -/
def execWaittWake (t : Thread) (s : State) : Host.Outcome State Fault Refusal :=
  s.runDie fun c =>
    let x := c.th t.val
    if x.mode == .waitT && x.wake ≤ c.now then c.toRun t.val else c

/-- The base is set, and the cursor with it (R204). -/
def Chip.setBase (c : Chip) (t b : Nat) : Chip :=
  c.modTh t fun x => { x with base := b % 2 ^ 96, cursor := b % 2 ^ 96 }

/-- The slot SETB CAD takes: the first k ≥ 1 whose grid point is not earlier than the release (R204). -/
def cadSlot (base off : Nat) (rel : Option Nat) : Nat :=
  match rel with
  | some r => max 1 ((r - base + off - 1) / off)
  | none => 1

/-- SETB (R204). Before its first release a thread has no T_rel: REL then leaves the base, and CAD takes the first slot
(DESIGN CHOICE, log entry 21: R204 names no base there). -/
def execSetb (t : Thread) (s : State) : Host.Outcome State Fault Refusal :=
  s.runDie fun c => c.issue t.val 0x11 fun c w =>
    let x := c.th t.val
    match Iw.fl w % 4 with
    | 0 => (c.setBase t.val (x.lastRel.getD x.base)).nextPc t.val
    | 1 => (c.setBase t.val (x.base + Iw.offset w)).nextPc t.val
    | 2 =>
      if Iw.offset w = 0 then c.badOpnd t.val
      else
        let k := cadSlot x.base (Iw.offset w) x.lastRel
        let c' :=
          if 1 < k then
            (c.report Event.SQ_CAD_SLIP (c.sqRep t.val (some (BitVec.ofNat 32 (k - 1))))).detClear x.grp x.course
          else c
        (c'.setBase t.val (x.base + k * Iw.offset w)).nextPc t.val
    | _ => (c.setBase t.val (c.mbox t.val (Iw.a w) * nsUnit)).nextPc t.val

/-! ### Triggers (R205 to R207) -/

/-- The context word of a fire (R205). -/
def fireCtx (course set t : Nat) : Word := fld course 16 16 ||| fld set 6 10 ||| fld t 5 5

/-- The lines of a trigger set. -/
def Chip.setLines (c : Chip) (set : Nat) : List Nat :=
  (List.range 16).flatMap fun w => (bitsOf 64 (c.sqmWord (0x4000 + 16 * set + w)).toNat).map fun b => 64 * w + b

/-- The set is armed at the cursor, and the thread waits for it. -/
def Chip.armSet (c : Chip) (t set tf : Nat) (lines : List Nat) : Chip :=
  let x := c.th t
  let fl := lines.map fun n =>
    { line := n, tf := tf, thread := t, course := x.course, grp := x.grp, ctx := fireCtx x.course set t
      cancelled := false : ArmFlight }
  let c := { c with sq := { c.sq with flights := c.sq.flights ++ fl } }
  c.modTh t fun x => { x with cursor := tf, lines := lines, set := set, mode := .waitF }

/-- FIRE of a set at a time, shared by FIRE and FIREAT. -/
def Chip.fireSet (c : Chip) (t set tf : Nat) : Chip :=
  let lines := c.setLines set
  if lines.isEmpty then c.badOpnd t
  else if !(c.grpUsable t (c.th t).course) then c.noGroup t
  else c.armSet t set tf lines

/-- FIRE (R205). -/
def execFire (t : Thread) (s : State) : Host.Outcome State Fault Refusal :=
  s.runDie fun c => c.issue t.val 0x18 fun c w => c.fireSet t.val (Iw.a w) (c.th t.val).cursor

/-- FIREAT (R202, R205): operand A [5:0] gives the set, and with ABS also the mailbox (log entry 20). -/
def execFireat (t : Thread) (s : State) : Host.Outcome State Fault Refusal :=
  s.runDie fun c => c.issue t.val 0x19 fun c w => c.fireSet t.val (Iw.a w) (c.opTimeOf t.val w)

/-- FIRE_RETIRE (R207). -/
def execFireRetire (t : Thread) (s : State) : Host.Outcome State Fault Refusal :=
  s.runDie fun c =>
    let x := c.th t.val
    if x.mode == .waitF && x.lines.isEmpty then (c.nextPc t.val).toRun t.val else c

/-- A parity error stops the thread in FAULT with FCODE 5, reported by the SQM page (R219). -/
def Chip.parityStop (c : Chip) (t word : Nat) : Chip :=
  let c := { c with sq := { c.sq with perr := word } }
  (c.report Event.SQM_PARITY { p1 := BitVec.ofNat 32 word }).thStop t 5

/-- PARITY (R219): a fetch of the thread meets a word with a parity error: the instruction itself, or a
word of the set that a FIRE or FIREAT takes. -/
def execParity (t : Thread) (word : BitVec 15) (s : State) : Host.Outcome State Fault Refusal :=
  s.runDie fun c =>
    let w := c.fetch t.val
    let n := word.toNat
    let fires := (Iw.op w == 0x18 || Iw.op w == 0x19) && Iw.good w
    let base := 0x4000 + 16 * (Iw.a w % 64)
    let taken := n == (c.th t.val).pc || (fires && decide (base ≤ n ∧ n < base + 16))
    if c.paused || c.pick != some t.val || !taken then c else c.parityStop t.val n

/-! ### Barriers (R210 to R214) -/

/-- ARM (R210). A course armed again after a SYNC of an earlier run is synced anew. -/
def execArm (t : Thread) (s : State) : Host.Outcome State Fault Refusal :=
  s.runDie fun c => c.issue t.val 0x20 fun c w =>
    let x := c.th t.val
    let k := Iw.a w
    let old := x.armOf x.course
    if !(c.grpUsable t.val x.course) then c.noGroup t.val
    else if (match old with | some a => decide (k < a.made) | none => false) then c.badOpnd t.val
    else
      let rec_ : ArmCount :=
        match old with
        | some a => { a with k := k, synced := false }
        | none => { grp := x.grp, course := x.course, k := k, made := 0, synced := false }
      (c.nextPc t.val).modTh t.val fun y =>
        { y with arms :=
          (y.arms.filter fun a => a.grp != x.grp || (a.course != x.course && decide (x.course ≤ a.course + 4))) ++ [rec_] }

/-- A contribution fault that discards the value and goes on (R216); `clear` is the course that loses
DET. -/
def Chip.contribBad (c : Chip) (t : Nat) (e : Ev) (clear : Nat) : Chip :=
  ((c.report e (c.sqRep t)).detClear (c.th t).grp clear).nextPc t

/-- CONTRIB (R211, R216). -/
def execContrib (t : Thread) (s : State) : Host.Outcome State Fault Refusal :=
  s.runDie fun c => c.issue t.val 0x21 fun c w =>
    let x := c.th t.val
    let back := Iw.fl w % 4
    let lane := (Iw.a w >>> 8) % 8
    let e := c.ent x.grp
    let course := x.course - back
    if !(c.grpUsable t.val course) then c.noGroup t.val
    else if c.mtLen x.grp ≤ lane then c.badOpnd t.val
    else if e.depth ≤ back || (e.admitted && decide (course < e.admCourse)) then
      c.contribBad t.val Event.SQ_LATE_CONTRIB x.course
    else if x.course < x.n0 + back then (c.report Event.SQ_PRE_N0 (c.sqRep t.val)).nextPc t.val
    else if e.dropped.contains course then c.contribBad t.val Event.SQ_LATE_CONTRIB x.course
    else if x.outstanding course = 0 then c.contribBad t.val Event.SQ_CONTRIB_EXCESS course
    else if e.closedTo course then c.contribBad t.val Event.SQ_LATE_CONTRIB x.course
    else
      let c := c.servoSweep
      let c := c.modTh t.val fun y =>
        { y with arms := y.arms.map fun a => if a.grp == x.grp && a.course == course then { a with made := a.made + 1 } else a }
      (c.contribute x.grp course lane (c.mbox t.val (Iw.a w % 64))).nextPc t.val

/-- The die's first and last SYNC of a barrier are kept for its arrival spread. -/
def Chip.syncMark (c : Chip) (t : Nat) : Chip :=
  let x := c.th t
  c.modEnt x.grp fun e => { e with spread := markSpread e.spread x.course c.tk.frc }

/-- SYNC (R212 to R214, R216). The PC stays on the SYNC until its release. -/
def execSync (t : Thread) (s : State) : Host.Outcome State Fault Refusal :=
  s.runDie fun c => c.issue t.val 0x22 fun c w =>
    let x := c.th t.val
    let e := c.ent x.grp
    let short := e.depth ≤ x.course + 1 && x.outstanding (x.course + 1 - e.depth) != 0
    if !(c.grpUsable t.val x.course) then c.noGroup t.val
    else if short then c.thFault t.val Event.SQ_CONTRIB_SHORT 3
    else
      let c := c.servoSweep
      let c := c.modTh t.val fun y =>
        { y with
          mode := .waitB, synced := some x.course, noBase := (Iw.fl w).testBit 0, rload := (Iw.fl w).testBit 1
          arms := y.arms.map fun a => if a.grp == x.grp && a.course == x.course then { a with synced := true } else a }
      match e.latest with
      | some r => if x.course ≤ r.course then c.takeRelease t.val r else c.syncMark t.val
      | none => c.syncMark t.val

/-! ### Signals (R246 to R255) -/

/-- An operation of a thread on the semaphores: where it is refused the thread stops with FCODE 6 on
the instruction (R249). -/
def threadOp (t : Nat) (r : Chip × Bool) (f : Chip → Chip) : Chip :=
  if r.2 then f (r.1.nextPc t) else r.1.thStop t 6

/-- SIG (R248). -/
def execSig (t : Thread) (s : State) : Host.Outcome State Fault Refusal :=
  s.runDie fun c =>
    if (Iw.fl (c.fetch t.val)).testBit 0 then c
    else c.issue t.val 0x28 fun c w =>
      if semCount ≤ Iw.a w then c.badOpnd t.val
      else threadOp t.val
        (c.semSignal (.agent (1024 + t.val)) (Iw.a w) (oneIfZero (Iw.b w % 65536)) ((Iw.fl w).testBit 1)
          ((Iw.b w >>> 16) % 256)) id

/-- SIG with EVT, a SETEVENT (R248). -/
def execSigEvt (t : Thread) (s : State) : Host.Outcome State Fault Refusal :=
  s.runDie fun c =>
    if !((Iw.fl (c.fetch t.val)).testBit 0) then c
    else c.issue t.val 0x28 fun c w =>
      if semCount ≤ Iw.a w then c.badOpnd t.val
      else threadOp t.val (c.semSetevent (.agent (1024 + t.val)) (Iw.a w)) id

/-- SIGR (R255, R262). -/
def execSigr (t : Thread) (s : State) : Host.Outcome State Fault Refusal :=
  s.runDie fun c => c.issue t.val 0x29 fun c w =>
    threadOp t.val
      (c.semSigr (1024 + t.val) (Iw.a w) (oneIfZero (Iw.b w % 65536)) ((Iw.fl w).testBit 1)
        ((Iw.b w >>> 16) % 256)) id

/-- WAITS (R248, R251). -/
def execWaits (t : Thread) (s : State) : Host.Outcome State Fault Refusal :=
  s.runDie fun c => c.issue t.val 0x2A fun c w =>
    if semCount ≤ Iw.a w then c.badOpnd t.val
    else threadOp t.val
      (c.semWait (1024 + t.val) (Iw.a w) (oneIfZero (Iw.b w % 65536)) ((Iw.fl w).testBit 1)
        ((Iw.fl w).testBit 2) ((Iw.b w >>> 24) % 256) ((Iw.b w >>> 16) % 256))
      fun c => c.modTh t.val fun x => { x with mode := .waitS }

/-! ### FENCE, SNAP and MARK -/

/-- A thread asks the fabric about a tag; the answer to a question it has left, by a HALT, is another's (R373). -/
def Chip.fenceAsk (c : Chip) (t tag : Nat) : Chip :=
  { c with sq := { c.sq with
    fences := (c.sq.fences.map fun f => if f.1 = some t then (none, f.2) else f) ++ [(some t, tag)] } }

/-- The oldest question under a tag is taken out, and the rest stand. -/
def takeFence (tag : Nat) : List (Option Nat × Nat) → Option (Option Nat) × List (Option Nat × Nat)
  | [] => (none, [])
  | f :: l =>
    if f.2 = tag then (some f.1, l)
    else
      let r := takeFence tag l
      (r.1, f :: r.2)

/-- FENCE (R217). -/
def execFence (t : Thread) (s : State) : Host.Outcome State Fault Refusal :=
  s.runDie fun c => c.issue t.val 0x30 fun c w =>
    let tag := ((c.th t.val).course + 16 - Iw.fl w % 4) % 16
    ((c.nextPc t.val).fenceAsk t.val tag).modTh t.val fun x => { x with mode := .waitN, tag := tag, stalled := false }

/-- FENCE_DONE (R217, R373): the fabric answers its oldest question under a tag, and the thread that asked goes on,
where it still waits. -/
def execFenceDone (tag : Fin 16) (s : State) : Host.Outcome State Fault Refusal :=
  s.runDie fun c =>
    let r := takeFence tag.val c.sq.fences
    let c := { c with sq := { c.sq with fences := r.2 } }
    match r.1 with
    | some (some t) => if (c.th t).mode == .waitN then c.toRun t else c
    | _ => c

/-- FENCE_STALL (R217). -/
def execFenceStall (t : Thread) (s : State) : Host.Outcome State Fault Refusal :=
  s.runDie fun c =>
    let x := c.th t.val
    if x.mode == .waitN && !x.stalled then
      (c.report Event.SQ_FENCE_STALL (c.sqRep t.val)).modTh t.val fun x => { x with stalled := true }
    else c

/-- SNAP (R349). -/
def execSnap (t : Thread) (s : State) : Host.Outcome State Fault Refusal :=
  s.runDie fun c =>
    if (Iw.fl (c.fetch t.val)).testBit 0 then c
    else c.issue t.val 0x38 fun c _ => c.snapNow.nextPc t.val

/-- SNAP with AT (R349, R350). -/
def execSnapAt (t : Thread) (s : State) : Host.Outcome State Fault Refusal :=
  s.runDie fun c =>
    if !((Iw.fl (c.fetch t.val)).testBit 0) then c
    else c.issue t.val 0x38 fun c _ => (c.snapArm (c.th t.val).cursor).nextPc t.val

/-- MARK (R219): the record takes its code, severity and third parameter from the instruction. -/
def execMark (t : Thread) (s : State) : Host.Outcome State Fault Refusal :=
  s.runDie fun c => c.issue t.val 0x39 fun c w =>
    let x := c.th t.val
    if Iw.a w < 0x80 then c.badOpnd t.val
    else
      ((c.note Event.SQ_MARK (some t.val)).enqueueRec
        { code := 0x1000 + Iw.a w, src := t.val, sev := Iw.fl w % 4, late := false
          p1 := BitVec.ofNat 32 t.val ||| Word.place x.pc 16, p2 := BitVec.ofNat 32 x.course
          p3 := BitVec.ofNat 32 (Iw.b w) }).nextPc t.val

end Sys2Proof.Machine
end

