-- ==== Sys2Proof/Machine/Hang.lean ====
section
/-!
DEFINITION. Machine/Hang.lean: hang detection, the capsule, reset escalation, the fence, the suspects and
solo replay (R318 to R334).
-/

namespace Sys2Proof.Machine

/-! ### Configuration -/

/-- HBTMO of an engine in µs (HG_ECFG). -/
def Chip.hbTmo (c : Chip) (e : Nat) : Nat := min 1000000 (oneIfZero (Word.field (c.reg Reg.HG_ECFG e) 0 20))
def Chip.watched (c : Chip) (e : Nat) : Bool := Word.bit (c.reg Reg.HG_ECFG e) 30

/-- The action of a detector (R319): code 3 is taken as 2. -/
def Chip.hgAction (c : Chip) (lo : Nat) : Nat := min 2 (Word.field (c.reg Reg.HG_ACT) lo 2)

/-- The parameters of an HG record about an engine: the engine, its tap and its latest context word. -/
def Chip.engRep (c : Chip) (e : Nat) : Rep :=
  { p1 := fld e 10 0 ||| fld (e / 4) 8 16
    p2 := ((c.eng e).log.head?).map fun k => k.ctx }

/-- The parameters of an HG record about a thread. -/
def Chip.thrRep (c : Chip) (t : Nat) : Rep :=
  { p1 := BitVec.ofNat 32 t, p2 := BitVec.ofNat 32 (c.th t).course }

/-- An engine in escalation, or waiting for a capsule to escalate. -/
def EngState.inEpisode (x : EngState) : Bool := x.rstate != .normal || x.waiting

/-- Some escalation is pending. -/
def Chip.escalating (c : Chip) : Bool := c.rt.engs.any fun e => e.2.inEpisode

/-! ### The capsule (R324 to R326) -/

/-- Words put into a sparse store from an index on. -/
def putWords (m : SMap Word) (i : Nat) : List Word → SMap Word
  | [] => m
  | w :: r => putWords (SMap.put m i 0 w) (i + 1) r

/-- A stored or shown register of a thread. -/
def Chip.sqShown (c : Chip) (t off : Nat) : Word :=
  match c.viewSq off t 0 with
  | some w => w
  | none =>
    match findRow Reg.page10 off with
    | some (r, i) => if r.acc == .w1s then 0 else c.reg r t i
    | none => 0

/-- The block of a thread: its mailboxes and its registers at 0x400 to 0x440. -/
def Chip.capThread (c : Chip) (t : Nat) : List Word :=
  ((List.range 64).flatMap fun k => [Word.part (c.mbox t k) 0, Word.part (c.mbox t k) 1])
    ++ (List.range 17).map fun k => c.sqShown t (0x400 + 4 * k)

/-- The block of a group entry. -/
def Chip.capGroup (c : Chip) (g : Nat) : List Word :=
  [c.grGkey g, (c.ent g).mode, c.grGstat g, c.grGcount g, c.mtGstat g, c.mtGcourse g, c.dlGstat g,
    BitVec.ofNat 32 (c.ent g).dl.act]

/-- The block of a tap: six registers, then HG_ESTAT[31:27] of its engines in bytes 0 to 3. -/
def Chip.capTap (c : Chip) (t : Nat) : List Word :=
  let view (off : Nat) : Word := (c.viewRt off t 0).getD 0
  let es := (List.range 4).foldl (fun w j => w ||| fld (Word.field (c.hgEstat (4 * t + j)) 27 5) 8 (8 * j)) 0
  [c.rtTstat t, c.reg Reg.RT_THIST t, view 0x410, view 0x418, view 0x41C, view 0x42C, es, 0]

/-- The 256 newest records of the ring, oldest first. -/
def Chip.capRecords (c : Chip) : List Word :=
  let n := min 256 c.ev.wrSeq
  (List.range n).flatMap fun k => padTo 8 (SMap.find c.ev.ring ((c.ev.wrSeq - n + k) % 4096) [])

/-- The header (R325), with the list of engines. -/
def Chip.capHeader (c : Chip) (reason seq code : Nat) (p1 : Word) (engs : List Nat) (trunc : Bool) : List Word :=
  [0x4C594350, Word.place 1 16 ||| fld reason 4 0, BitVec.ofNat 32 seq] ++ timeWords c.now
    ++ [c.opTime, fld c.ev.pcyc 24 0, fld code 16 0, p1, Word.flag trunc 7 ||| fld engs.length 7 0]
    ++ List.replicate 5 0 ++ engs.map fun e => fld e 10 0

/-- The state copied in the capture cycle (R325). -/
def Chip.capImage (c : Chip) (head : List Word) : SMap Word :=
  let m := putWords [] 0 head
  let m := (List.range 32).foldl (fun m t => putWords m (0x400 + 0x100 * t) (c.capThread t)) m
  let m := c.sg.sems.foldl (fun m e =>
    let i := 0x2400 + e.1 / 2
    SMap.put m i 0 (SMap.find m i 0 ||| fld e.2.count 16 (16 * (e.1 % 2)))) m
  let m := c.sg.waits.foldl (fun m e => putWords m (0x8400 + 2 * e.1) [(c.sgWst e.1).1, (c.sgWst e.1).2]) m
  let m := putWords m 0x9000 (c.sg.dirs.flatMap fun d =>
    [Word.flag true 31 ||| fld d.sem 16 0, fld d.tag 8 16 ||| fld d.credit 16 0])
  let m := c.gt.pend.foldl (fun m e => putWords m (0x9800 + 4 * e.1) (c.gtPent e.1)) m
  let m := (List.range 256).foldl (fun m g => putWords m (0xA000 + 8 * g) (c.capGroup g)) m
  let m := (List.range 256).foldl (fun m t => putWords m (0xA800 + 8 * t) (c.capTap t)) m
  putWords m 0xC000 c.capRecords

/-- What a capsule request names: the reason, the engines concerned, and the triggering record. -/
structure CapReq where
  reason : Nat
  engs : List Nat
  code : Nat
  p1 : Word
deriving DecidableEq, Repr

/-- A capsule is requested (R324): capture starts, or the request is refused as CP_BUSY. The answer says
whether it was taken. -/
def Chip.capture (c : Chip) (q : CapReq) : Chip × Bool :=
  if c.cp.stage != .empty then
    ((c.bump Reg.CP_DROP 1).report Event.CP_CP_BUSY { p3 := BitVec.ofNat 32 q.reason }, false)
  else
    let engs := q.engs.take 64
    let seq := (c.cp.seq + 1) % 2 ^ 32
    let head := c.capHeader q.reason seq q.code q.p1 engs (decide (64 < q.engs.length))
    let img := c.capImage head
    ({ c with cp :=
        { stage := .paused, reason := q.reason, seq := seq, engs := engs, left := engs, timedOut := []
          words := img, mirroring := false, mirBase := 0, mirror := [], mirrored := false, mwErr := false
          logged := 0 } }, true)

/-- CAPTURE_PAUSE_END (R324): issue and the shared port go on, and the engines are read. -/
def execCapturePauseEnd (s : State) : Host.Outcome State Fault Refusal :=
  s.runDie fun c =>
    if c.cp.stage == .paused then { c with cp := { c.cp with stage := .reading } } else c

/-- An engine is being read: it is the first of its tap that is left. -/
def Chip.readingEng (c : Chip) (e : Nat) : Bool :=
  c.cp.stage == .reading && c.cp.left.find? (fun k => k / 4 == e / 4) == some e

/-- The place of an engine in the list. -/
def indexOf (e : Nat) : List Nat → Nat → Nat
  | [], i => i
  | k :: r, i => if k = e then i else indexOf e r (i + 1)

/-- ENG_STATUS (R324): an engine returns its 64 words. -/
def execEngStatus (e : Engine) (words : List Word) (s : State) : Host.Outcome State Fault Refusal :=
  s.runEng e fun c =>
    if c.readingEng e.val then
      { c with cp := { c.cp with
        left := c.cp.left.filter fun k => k != e.val
        words := putWords c.cp.words (0xB000 + 64 * indexOf e.val c.cp.engs 0) (padTo 64 words) } }
    else c

/-- ESTAT_TMO (R324): an engine has not returned its words within 8 µs. -/
def execEstatTmo (e : Engine) (s : State) : Host.Outcome State Fault Refusal :=
  s.runEng e fun c =>
    if c.readingEng e.val then
      let i := 16 + indexOf e.val c.cp.engs 0
      ({ c with cp := { c.cp with
        left := c.cp.left.filter fun k => k != e.val
        timedOut := c.cp.timedOut ++ [e.val]
        words := SMap.put c.cp.words i 0 (SMap.find c.cp.words i 0 ||| Word.flag true 31) } }).report
          Event.CP_ESTAT_TMO
    else c

/-- The mirror's base address, the address of a beat of 32 bytes, and of the last (R326). -/
def Chip.cpBase (c : Chip) : Nat :=
  (c.reg Reg.CP_MBASE_HI).toNat * 2 ^ 32 + (c.reg Reg.CP_MBASE_LO).toNat / 4096 * 4096
def Chip.cpBeat (c : Chip) (k : Nat) : Nat := c.cpBase + 32 * k
def Chip.cpLast (c : Chip) : Nat := c.cpBeat 8191

/-- The completed capsule starts to be mirrored, where CP_CFG.MEN is 1. The beats outside the window of R305 are
not issued, and the first of them is reported; a mirror with none inside does not begin. Base and window are those of
this moment for the whole operation (log entry 26). -/
def Chip.mirrorStart (c : Chip) : Chip :=
  if !(Word.bit (c.reg Reg.CP_CFG) 31) then c
  else
    let inside (k : Nat) : Bool := c.mwInside (c.cpBeat k) (c.cpBeat k)
    let beats := List.range 8192
    let take := beats.filter inside
    let c' := { c with cp := { c.cp with mirroring := !take.isEmpty, mirBase := c.cpBase, mirror := take, mwErr := false } }
    match beats.find? fun k => !(inside k) with
    | Option.some k => c'.mwRefuse (c.cpBeat k)
    | none => c'

/-- The beats of the mirror that the port issues, in offset order. -/
def Chip.mirrorBeats (c : Chip) : List (Nat × List Word) :=
  c.cp.mirror.map fun k =>
    (c.cp.mirBase + 32 * k, (List.range 8).map fun j => SMap.find c.cp.words (8 * k + j) 0)

/-- CAPSULE_MIRRORED (R326): the last beat has been written. -/
def execCapsuleMirrored (s : State) : Host.Outcome State Fault Refusal :=
  s.runDie fun c =>
    if c.cp.mirroring && !c.pw.hostLow then
      ({ c with
        cp := { c.cp with mirroring := false, mirrored := true }
        ev := c.ev.issued { beats := c.mirrorBeats, err := c.cp.mwErr } }).note Event.CP_MIRRORED
    else c

/-- CP_CMD.RELEASE: ignored while capture runs (R331). -/
def Chip.cpRelease (c : Chip) : Chip :=
  if c.cp.stage == .done then { c with cp := { CpState.reset with seq := c.cp.seq } } else c

/-! ### The escalation log -/

/-- A step enters the log of a held capsule, which has room for 32. -/
def Chip.logStep (c : Chip) (step n : Nat) : Chip :=
  if c.cp.stage == .empty || 32 ≤ c.cp.logged then c
  else
    { c with cp := { c.cp with
      words := putWords c.cp.words (128 + 4 * c.cp.logged)
        [Word.place step 30 ||| fld n 10 0, nsLow c.now, 0xFFFFFFFF, 0]
      logged := c.cp.logged + 1 } }

/-- The acknowledgement of a step is entered with its time. -/
def Chip.logAck (c : Chip) (step n at_ : Nat) : Chip :=
  let hits := (List.range c.cp.logged).filter fun k =>
    SMap.find c.cp.words (128 + 4 * k) 0 == (Word.place step 30 ||| fld n 10 0)
      && SMap.find c.cp.words (130 + 4 * k) 0 == 0xFFFFFFFF
  { c with cp := { c.cp with
    words := hits.foldl (fun m k => SMap.put m (130 + 4 * k) 0 (nsLow at_)) c.cp.words } }

/-! ### Solo replay (R334) -/

/-- The suspect under replay: the one at the replay's index, from the oldest, of the list taken at its start. -/
def Chip.soloSuspect (c : Chip) : Option Suspect :=
  if c.hg.soloIdx < c.hg.replay.length then c.hg.replay[c.hg.replay.length - 1 - c.hg.soloIdx]? else none

/-- The result of the suspect `k` from the oldest is entered. -/
def withRes (us : List Suspect) (k res : Nat) : List Suspect :=
  us.zipIdx.map fun p => if p.2 = us.length - 1 - k then { p.1 with res := res } else p.1

/-- The result of the replay's suspect `k` from the oldest, shown where the list shown is the replay's. -/
def Chip.setRes (c : Chip) (k res : Nat) : Chip :=
  { c with hg := { c.hg with
    replay := withRes c.hg.replay k res
    suspects := if c.hg.replayShown then withRes c.hg.suspects k res else c.hg.suspects } }

def Chip.soloThread (c : Chip) : Nat := Word.field (c.reg Reg.HG_SOLOCFG) 16 5

/-- The replay ends: the thread enters HALTED, and the end is reported with the number of hangs. -/
def Chip.soloEnd (c : Chip) : Chip :=
  let t := c.soloThread
  let c := { c with hg := { c.hg with solo := .off, soloDone := true } }
  let c := (c.threadHalt t).modTh t fun x => { x with solo := false }
  c.report Event.HG_SOLO_DONE { p1 := BitVec.ofNat 32 t, p3 := BitVec.ofNat 32 c.hg.hangs }

/-- The replay turns to the suspect at its index: the prologue first, where there is one. -/
def Chip.soloTurn (c : Chip) : Chip :=
  match c.soloSuspect with
  | none => c.soloEnd
  | some _ =>
    let cfg := c.reg Reg.HG_SOLOCFG
    if Word.bit cfg 31 then
      let t := c.soloThread
      let c := (c.modTh t fun x => { x with pc := Word.field cfg 0 14, solo := true }).toRun t
      { c with hg := { c.hg with solo := .prologue } }
    else
      let c := c.modTh c.soloThread fun x => { x with mode := .solo, solo := true }
      { c with hg := { c.hg with solo := .fire } }

/-- The next suspect. -/
def Chip.soloNext (c : Chip) : Chip :=
  ({ c with hg := { c.hg with soloIdx := c.hg.soloIdx + 1 } }).soloTurn

/-- HG_CMD.SOLO: taken, or refused as SOLO_BAD. -/
def Chip.soloStart (c : Chip) : Chip :=
  let t := c.soloThread
  if c.hg.suspects.isEmpty || !(c.th t).mode.stopped || c.hg.fenced || c.escalating then
    c.report Event.HG_SOLO_BAD (c.thrRep t)
  else
    ({ c with hg := { c.hg with
        replay := c.hg.suspects, replayShown := true, soloIdx := 0, soloDone := false, hangs := 0 } }).soloTurn

/-- HG_CMD.SOLO_ABORT. -/
def Chip.soloAbort (c : Chip) : Chip := if c.hg.solo == .off then c else c.soloEnd

/-- SOLO_FIRE (R334): 1 µs after the prologue the suspect's line is fired alone with its context word. -/
def execSoloFire (s : State) : Host.Outcome State Fault Refusal :=
  s.runDie fun c =>
    match c.hg.solo, c.soloSuspect with
    | .fire, some u =>
      if (c.th c.soloThread).mode != .solo then c
      else
        let c := { c with hg := { c.hg with solo := .wait } }
        match u.line with
        | some n =>
          c.placeArm n
            { tf := c.now, thread := c.soloThread, course := 0, grp := 0, ctx := u.ctx, moment := none
              calOk := false, withheld := false, inStop := false, solo := true }
        | none => c
    | _, _ => c

/-- The suspect's engine has been acknowledged after its hang: solo goes on. -/
def Chip.soloAcked (c : Chip) (e : Nat) : Chip :=
  match c.hg.solo, c.soloSuspect with
  | .hung, some u => if u.eng = e then c.soloNext else c
  | _, _ => c

/-! ### Fence (R329, R330) -/

/-- A cell discarded by a fenced die: counted and flagged, and recorded once per fence. -/
def Chip.fenceDiscard (c : Chip) (p cls : Nat) : Chip :=
  let c := ((c.popRx p cls 1).bump Reg.HG_FDISC 1).note Event.HG_FENCE_DISC none
  if c.hg.discReported then c
  else
    ({ c with hg := { c.hg with discReported := true } }).record Event.HG_FENCE_DISC.code {}

/-- A fenced die's port: the cells of classes B and S it has received and not yet taken are discarded (R329, R331);
those that wait to leave keep their places (Chip.mayLeave). -/
def Chip.fencePort (c : Chip) (p : Nat) : Chip :=
  let c := (List.range (c.port p).q.rxB.length).foldl (fun c _ => c.fenceDiscard p clsB) c
  (List.range (c.port p).q.rxS.length).foldl (fun c _ => c.fenceDiscard p clsS) c

/-- The fence: threads halt, lines are disarmed, no cell of class B or S leaves or is taken, MLOSS and INOTE leave
on both lanes; a solo replay's remaining suspects are skipped. -/
def Chip.fence (c : Chip) : Chip :=
  if c.hg.fenced then { c with hg := { c.hg with fenceAgain := some c.tk.frc } }
  else
    let c := { c with hg := { c.hg with fenced := true, fenceT := c.now, discReported := false } }
    let c := (List.range c.nports).foldl Chip.fencePort c
    let c := (List.range 32).foldl (fun c t => c.threadHalt t) c
    let c := c.mapArmed fun _ _ => none
    let fl := c.sq.flights.map fun a => { a with cancelled := true }
    let c := { c with sq := { c.sq with flights := fl } }
    let t := if c.tk.valid then c.now else 0
    let c := c.upPorts.foldl (fun c p => c.sendCells p clsM [mlossCell 5 3 (c.tr.addr.getD 0) 1 t]) c
    let c := c.upPorts.foldl Chip.inoteOn c
    if c.hg.solo == .off then c
    else
      let rest := (List.range c.hg.replay.length).filter fun k =>
        c.hg.soloIdx < k || (k == c.hg.soloIdx && c.hg.solo != .hung)
      (rest.foldl (fun c k => c.setRes k 3) c).soloEnd

/-- The taps whose region reset is pending without a fence of their own. -/
def Chip.regionsDue (c : Chip) : List Nat :=
  (c.rt.taps.filter fun e => e.2.rgnReset &&
    (List.range 4).any fun j => (c.eng (4 * e.1 + j)).rstate == .region).map fun e => e.1

/-- Every reset request falls and every episode ends (R330). A region whose acknowledge never came stands until its
RUN, and the heartbeat timers of its engines go on from where the reset stopped them (R320); those of the engines whose
episodes end restart (DESIGN CHOICE, log entry 29: R320 names no restart here, and one that went on would run out at
once). -/
def Chip.resetsEnd (c : Chip) : Chip :=
  { c with
    hg := { c.hg with fenced := false, unfenced := some (c.tk.frc, c.regionsDue) }
    rt := { c.rt with
      taps := SMap.update c.rt.taps .reset fun _ x =>
        if x.rgnReset then { x with rgnReset := false, rstStop := false, hostStop := false } else x
      engs := SMap.update c.rt.engs .reset fun e x =>
        if x.inEpisode then { x with rstate := .normal, waiting := false, hbto := false, hbAt := c.hbFrom c.now }
        else if (c.tap (e / 4)).rgnReset then { x with hbAt := x.hbAt + (c.now - (c.tap (e / 4)).rstAt) }
        else x } }

/-- UNFENCE (R330): every reset request falls and every episode ends; a fenced die's unfencing is reported and its
censuses are sent. A fence of the same cycle follows it (R331). -/
def Chip.unfence (c : Chip) : Chip :=
  if !c.hg.fenced then c.resetsEnd
  else
    let again := c.hg.fenceAgain == some c.tk.frc
    let c := c.resetsEnd
    let c := c.report Event.HG_UNFENCED
    let c := (c.gr.entries.map fun e => e.1).foldl (fun c g =>
      let e := c.ent g
      if e.state.isSealed && !(e.expelled && !e.expDue) && !e.apex then c.censusSend g else c) c
    if again then c.fence else c

/-! ### Escalation (R327, R328) -/

/-- Step 1: the engine's reset request. -/
def Chip.engReset (c : Chip) (e : Nat) : Chip :=
  let c := c.modEng e fun x => { x with rstate := .engine, waiting := false }
  (c.report Event.HG_ENG_RST (c.engRep e)).logStep 1 e

/-- Every engine that waits for the capsule starts its escalation: it was busy at the occurrence (R327). -/
def Chip.escalateWaiting (c : Chip) : Chip :=
  (c.rt.engs.filter fun e => e.2.waiting).foldl (fun c e => c.engReset e.1) c

/-- An occurrence escalates the engines concerned: once its capsule is complete, or at once. -/
def Chip.escalate (c : Chip) (engs : List Nat) (held : Bool) : Chip :=
  let go := engs.filter fun e => !(c.eng e).done && c.watched e && !(c.eng e).inEpisode
  go.foldl (fun c e => if held then c.modEng e fun x => { x with waiting := true } else c.engReset e) c

/-- HG_CMD.ERESET for an engine: ignored on one already in escalation (R331). -/
def Chip.ereset (c : Chip) (e : Nat) : Chip :=
  if (c.eng e).inEpisode || c.id.ntaps ≤ e / 4 then c else c.engReset e

/-- CAPSULE_COMPLETE (R324, R327). -/
def execCapsuleComplete (s : State) : Host.Outcome State Fault Refusal :=
  s.runDie fun c =>
    if c.cp.stage == .reading && c.cp.left.isEmpty then
      let c := ({ c with cp := { c.cp with stage := .done } }).report Event.CP_CAPTURED
      c.mirrorStart.escalateWaiting
    else c

/-- A reset is acknowledged in time: the engine's episode ends and its recovery is reported. -/
def Chip.recovered (c : Chip) (e at_ : Nat) : Chip :=
  let c := c.modEng e fun x => { x with rstate := .normal, waiting := false, hbto := false, hbAt := c.hbFrom at_ }
  (c.report Event.HG_RECOVERED (c.engRep e)).soloAcked e

/-- The engines of a tap. -/
def tapEngs (t : Nat) : List Nat := (List.range 4).map fun j => 4 * t + j

/-- ENG_RESET_TIMEOUT (R327, R328): step 2, or cover by a region reset already pending. -/
def execEngResetTimeout (e : Engine) (s : State) : Host.Outcome State Fault Refusal :=
  s.runEng e fun c =>
    let t := e.val / 4
    if (c.eng e.val).rstate != .engine then c
    else
      let c := c.modEng e.val fun x => { x with rstate := .region }
      if (c.tap t).rgnReset then c
      else
        let c := c.modTap t fun x =>
          { x with rgnReset := true, rstAt := c.now, rstStop := x.rstStop || x.edgeDue, edgeDue := false }
        let c := (c.report Event.HG_RGN_RST (c.engRep e.val)).logStep 2 t
        let c :=
          if (c.tap t).stopped then c
          else (c.regionStop t).modTap t fun x => { x with rstStop := true }
        let c := { c with sg := { c.sg with rq := c.sg.rq.filter fun r => r.1 / 4 != t } }
        (tapEngs t).foldl (fun c a => c.withdraw a) c

/-- RGN_RACK (R327, R328): the region's reset is acknowledged in time, with the stamp of its edge (R166); the region's
next edge ends its stop. -/
def execRgnRack (x : TapEdge) (s : State) : Host.Outcome State Fault Refusal :=
  s.runTap x.tap.val fun c =>
    let t := x.tap
    let at_ := c.tk.stamp c.tk.frc x.phase.val
    let live := (tapEngs t.val).filter fun e => (c.eng e).rstate == .region || (c.eng e).rstate == .engine
    if !(c.tap t.val).rgnReset || !((tapEngs t.val).any fun e => (c.eng e).rstate == .region) then c
    else
      let c := (c.modTap t.val fun x => { x with rgnReset := false, edgeDue := x.rstStop }).logAck 2 t.val at_
      let c := (tapEngs t.val).foldl (fun c e => c.modEng e fun x => x.restart (c.hbFrom at_)) c
      live.foldl (fun c e => c.recovered e at_) c

/-- The fence follows a region's time-out: an episode of it still stands, or was ended by an UNFENCE of this very
cycle, which applies first (R331). -/
def Chip.fenceDue (c : Chip) (t : Nat) : Bool :=
  ((tapEngs t).any fun e => (c.eng e).rstate == .region)
    || (match c.hg.unfenced with
      | some (f, ts) => f == c.tk.frc && ts.contains t
      | none => false)

/-- RGN_RESET_TIMEOUT (R327, R329, R331): step 3, the fence. -/
def execRgnResetTimeout (t : Tap) (s : State) : Host.Outcome State Fault Refusal :=
  s.runTap t.val fun c =>
    let due := (tapEngs t.val).filter fun e => (c.eng e).rstate == .region
    if !(c.fenceDue t.val) then c
    else
      let c := due.foldl (fun c e => c.modEng e fun x => { x with rstate := .fenced }) c
      ((c.report Event.HG_FENCED (c.engRep (due.headD (4 * t.val)))).logStep 3 t.val).fence

/-! ### Edges of a region clock, and engine inputs (R166, R173, R320, R328) -/

/-- An engine input is taken with its stamp: a heartbeat, a rise of done, which ends a solo wait (R334), a context
(R332), or the acknowledge of a pending engine reset (R327). -/
def Chip.engTake (c : Chip) (e at_ : Nat) (i : EngIn) : Chip :=
  match i with
  | .heartbeat => c.modEng e fun x => x.restart (c.hbFrom at_)
  | .done =>
    let c := c.engineDone e at_
    match c.hg.solo, c.soloSuspect with
    | .wait, some u => if u.eng = e then (c.setRes c.hg.soloIdx 1).soloNext else c
    | _, _ => c
  | .start ctx => c.ctxStart e ctx at_
  | .rack => if (c.eng e).rstate == .engine then (c.logAck 1 e at_).recovered e at_ else c

/-- An engine input changes: its tap samples and stamps it, or holds it until the restart of a region that stands. An
acknowledge is seen during a host reset too (R375). -/
def Chip.engSample (c : Chip) (e : Nat) (phase : Fin 64) (i : EngIn) : Chip :=
  if (c.tap (e / 4)).stopped && !(c.pw.hostLow && i == .rack) then c.modTap (e / 4) fun x => { x with heldIn := x.heldIn ++ [(e, i)] }
  else c.engTake e (c.tk.stamp c.tk.frc phase.val) i

/-- HEARTBEAT (R320). -/
def execHeartbeat (x : EngEdge) (s : State) : Host.Outcome State Fault Refusal :=
  s.runEng x.eng fun c => c.engSample x.eng.val x.phase .heartbeat

/-- ENGINE_DONE (R166, R320, R334): a done input rises. -/
def execEngineDone (x : EngEdge) (s : State) : Host.Outcome State Fault Refusal :=
  s.runEng x.eng fun c => c.engSample x.eng.val x.phase .done

/-- ENG_START (R332). -/
def execEngStart (x : EngEdge) (ctx : Word) (s : State) : Host.Outcome State Fault Refusal :=
  s.runEng x.eng fun c => c.engSample x.eng.val x.phase (.start ctx)

/-- ENG_RACK (R327). -/
def execEngRack (x : EngEdge) (s : State) : Host.Outcome State Fault Refusal :=
  s.runEng x.eng fun c => c.engSample x.eng.val x.phase .rack

/-- A region restarts or starts with its first edge: the edge is counted (R345), lines that a stop kept high fall, and
engine sampling resumes, with the stamp of that edge for what it held (R166, R173). -/
def Chip.regionRestart (c : Chip) (t op phase : Nat) : Chip :=
  let held := (c.tap t).heldIn
  let at_ := c.tk.stamp c.tk.frc phase
  let c := (((c.count 0x470 (some t)).linesFall t none).regionResume t op).modTap t fun x => { x with heldIn := [] }
  held.foldl (fun c i => c.engTake i.1 at_ i.2) c

/-- REGION_RUN (R172 to R174). While the region's reset stands, or HOST_RST_N is low, the tap goes on treating the
region as stopped, and the region restarts at its first edge after the acknowledge (R328) or the release (R366). -/
def execRegionRun (x : TapEdge) (op : Fin 4) (s : State) : Host.Outcome State Fault Refusal :=
  s.runTap x.tap.val fun c =>
    let t := x.tap.val
    let y := c.tap t
    if y.running && !y.stopped then c
    else if y.rgnReset || c.pw.hostLow then
      c.modTap t fun z => { z with
        running := true, stopped := true, opsel := op.val
        stopAt := if z.stopped then z.stopAt else c.tk.frc
        rstStop := z.rstStop || z.rgnReset, hostStop := z.hostStop || !z.rgnReset }
    else c.regionRestart t op.val x.phase.val

/-- An edge of the region clock after an acknowledged region reset or a host reset ends the region's stop (R328,
R366). -/
def Chip.regionEdge (c : Chip) (t phase : Nat) : Chip :=
  if (c.tap t).edgeDue && !c.pw.hostLow then c.regionRestart t (c.tap t).opsel phase else c

/-- FIRE_EDGE (R159): a region edge at or after the tap moment; a fenced die holds its lines low (R329). -/
def execFireEdge (l : Line) (phase : Fin 64) (s : State) : Host.Outcome State Fault Refusal :=
  s.runTap (l.val / 4) fun c =>
    let c := c.regionEdge (l.val / 4) phase.val
    let edge := c.tk.stamp c.tk.frc phase.val
    match (c.line l.val).armed with
    | some a =>
      match a.moment with
      | some m =>
        if m ≤ edge && (c.tap (l.val / 4)).running && !(c.tap (l.val / 4)).stopped && !c.hg.fenced then
          c.fire l.val phase.val edge a
        else c
      | none => c
    | none => c

/-- A period of a running region (R163, R164): stretched, or beyond the contract. -/
def Chip.regionPeriod (c : Chip) (t p : Nat) : Chip :=
  let x := c.tap t
  let c := c.rollTaps.count 0x470 (some t)
  if x.rper = 0 || p ≤ x.rper + 2 then c
  else
    let ext := p - x.rper
    let c := c.modTap t fun x =>
      { x with acc := satNat 24 (x.acc + ext), strCyc := satNat 32 (x.strCyc + 1),
               strSum := satNat 32 (x.strSum + ext), strMax := max x.strMax ext }
    let c := (c.count 0x471 (some t)).sample 0x07 t ext
    if p > 2 * x.rper + 2 then c.report Event.RT_STRETCH_OVER (rtRep t none) else c

/-- REGION_PERIOD_END (R163, R164, R166): an edge of a running region ends a period, and drives the wakes due; the
first edge after a region reset ends none (R328). -/
def execRegionPeriodEnd (x : TapEdge) (period : BitVec 24) (s : State) : Host.Outcome State Fault Refusal :=
  s.runTap x.tap.val fun c =>
    let t := x.tap.val
    if (c.tap t).edgeDue then c.regionEdge t x.phase.val
    else if !(c.tap t).running || (c.tap t).stopped then c
    else ((c.regionPeriod t period.toNat).linesFall t (some period.toNat)).wakesDue t

/-! ### Suspects (R333) -/

/-- A log entry takes its place, newest start first. -/
def placeCtx (k : EngCtx) : List EngCtx → List EngCtx
  | [] => [k]
  | h :: r => if h.startT < k.startT then k :: h :: r else h :: placeCtx k r

/-- The suspect list is built afresh; a replay under way keeps the list it took (R334). -/
def Chip.buildSuspects (c : Chip) : Chip :=
  let win := Word.field (c.reg Reg.HG_SUSWIN) 0 20 * 1000 * nsUnit
  let all := (c.rt.engs.flatMap fun e => e.2.log).filter fun k =>
    decide (k.startT ≤ c.now) && (match k.done with
      | none => true
      | some d => decide (c.now < d + win))
  let sorted := all.foldl (fun l k => placeCtx k l) []
  let us := (sorted.take 64).map fun k => { ctx := k.ctx, eng := k.eng, line := k.line, res := 0 : Suspect }
  { c with hg := { c.hg with suspects := us, replayShown := false, trunc := decide (64 < sorted.length) } }

/-- CP_CMD.TAKE (R324, R333). -/
def Chip.cpTake (c : Chip) : Chip :=
  (c.buildSuspects.capture { reason := 6, engs := [], code := 0, p1 := 0 }).1

/-! ### Detectors (R318 to R323) -/

/-- What follows a detector's report (R319): the capsule and the escalation of its action. -/
def Chip.detected (c : Chip) (action : Nat) (q : CapReq) (escalates : Bool) : Chip :=
  if action = 0 then c
  else
    let r := c.capture q
    if action = 2 && escalates then r.1.escalate (q.engs.take 64) r.2 else r.1

/-- HB_TMO (R320). -/
def execHbTmo (e : Engine) (s : State) : Host.Outcome State Fault Refusal :=
  s.runEng e fun c =>
    let x := c.eng e.val
    if !(Word.bit (c.reg Reg.HG_ECFG e.val) 31) || x.done || x.hbto || x.inEpisode || c.pw.hostLow
        || (c.tap (e.val / 4)).rgnReset
        || c.now < x.hbAt + c.hbTmo e.val * 1000 * nsUnit then c
    else
      let rep := c.engRep e.val
      let c := (c.modEng e.val fun x => { x with hbto := true }).report Event.HG_HB_TMO rep
      c.buildSuspects.detected (c.hgAction 0)
        { reason := 1, engs := tapEngs (e.val / 4), code := 0x1D01, p1 := rep.p1.getD 0 } true

/-- The engines a late course concerns (R319). -/
def Chip.lateEngs (c : Chip) (t course : Nat) : List Nat :=
  (c.rt.engs.filter fun e => !e.2.done && (match e.2.log.head? with
    | some k => Word.field k.ctx 5 5 == t && Word.field k.ctx 16 16 == course % 65536
    | none => false)).map fun e => e.1

/-- OVERRUN (R321). -/
def execOverrun (t : Thread) (s : State) : Host.Outcome State Fault Refusal :=
  s.runDie fun c =>
    let x := c.th t.val
    let d := c.reg Reg.HG_TDEADLINE t.val
    if !(Word.bit d 31) || x.mode.stopped || x.mode == .solo || x.solo || x.overrun || x.synced == some x.course
        || c.now < x.base + Word.field d 0 24 * 1000 * nsUnit then c
    else
      let rep := c.thrRep t.val
      let c := (c.modTh t.val fun x => { x with overrun := true }).report Event.HG_OVERRUN rep
      c.buildSuspects.detected (c.hgAction 2)
        { reason := 2, engs := c.lateEngs t.val x.course, code := 0x1D02, p1 := rep.p1.getD 0 } true

/-- WAIT_TMO (R322). -/
def execWaitTmo (a : Agent) (s : State) : Host.Outcome State Fault Refusal :=
  s.runDie fun c =>
    match c.sg.waits.find? fun w => w.1 == a.val with
    | none => c
    | some (_, w) =>
      let limit := Word.field (c.reg Reg.HG_WAITTMO) 0 20
      if w.reported || limit == 0 || c.waitAge a.val ≤ limit then c
      else
        let c := { c with sg := { c.sg with waits := SMap.insert c.sg.waits a.val { w with reported := true } } }
        let p1 := BitVec.ofNat 32 a.val
        let c := c.report Event.HG_WAIT_TMO { p1 := p1, p2 := BitVec.ofNat 32 w.sem }
        c.detected (c.hgAction 4) { reason := 3, engs := [], code := 0x1D03, p1 := p1 } false

/-- SQ_WDOG (R323): a thread that has stayed in RUN for HG_SQWD without issuing stops in FAULT with
FCODE 7. -/
def execSqWdog (t : Thread) (s : State) : Host.Outcome State Fault Refusal :=
  s.runDie fun c =>
    let limit := Word.field (c.reg Reg.HG_SQWD) 0 20
    if (c.th t.val).mode != .run || limit == 0 || c.usSinceFrc (c.th t.val).runAt < limit then c
    else
      let rep := c.thrRep t.val
      let c := (c.report Event.HG_SQ_WDOG rep).thStop t.val 7
      c.detected (c.hgAction 6) { reason := 4, engs := [], code := 0x1D04, p1 := rep.p1.getD 0 } false

/-- SOLO_TMO (R334): the suspect hangs alone. -/
def execSoloTmo (s : State) : Host.Outcome State Fault Refusal :=
  s.runDie fun c =>
    match c.hg.solo, c.soloSuspect with
    | .wait, some u =>
      let c := (c.setRes c.hg.soloIdx 2)
      let c := { c with hg := { c.hg with solo := .hung, hangs := c.hg.hangs + 1 } }
      let p1 := fld u.eng 10 0 ||| fld (u.eng / 4) 8 16
      let c := c.report Event.HG_SOLO_HANG { p1 := p1, p2 := u.ctx }
      let r := c.capture { reason := 7, engs := [u.eng], code := 0x1D09, p1 := p1 }
      let c := r.1.escalate [u.eng] r.2
      if (c.eng u.eng).inEpisode then c else c.soloNext
    | _, _ => c

end Sys2Proof.Machine
end

