-- ==== Sys2Proof/Machine/Deadlock.lean ====
section
/-!
DEFINITION. Machine/Deadlock.lean: the deadlock detector (R264 to R269): local samples, quiet-probe rounds
and their combination at hubs, verdicts and declarations.
-/

namespace Sys2Proof.Machine

/-- The detector runs for a group entry. -/
def Chip.dlOn (c : Chip) (g : Nat) : Bool := Word.bit (c.reg Reg.DL_CFG) 31 && Word.bit (c.dlCfg g) 31

def Chip.modDl (c : Chip) (g : Nat) (f : DlGroup → DlGroup) : Chip :=
  c.modEnt g fun e => { e with dl := f e.dl }

/-- A deadlock is declared (R269): the episode opens, the record is written, a capsule is requested. -/
def Chip.declare (c : Chip) (g : Nat) (ev : Ev) (second : Option Word) : Chip :=
  let gid := BitVec.ofNat 32 ((c.ent g).gid % 4096)
  let n := c.stalledOf g
  let c := c.modDl g fun d => { d with deadlock := true, episodes := satNat 16 (d.episodes + 1) }
  let c := c.report ev { p1 := gid, p2 := second, p3 := BitVec.ofNat 32 n }
  (c.capture { reason := 5, engs := [], code := ev.code, p1 := gid }).1

/-- More stalled agents than the plan declares: reported once, until the count falls back (R264). -/
def Chip.nagentCheck (c : Chip) (g : Nat) : Chip :=
  let bad := decide (Word.field (c.dlCfg g) 0 11 < c.stalledOf g)
  let was := (c.ent g).dl.nagentBad
  let c := c.modDl g fun d => { d with nagentBad := bad }
  if bad && !was then
    c.report Event.DL_NAGENT_BAD { p1 := BitVec.ofNat 32 ((c.ent g).gid % 4096) }
  else c

/-- DEADLOCK_SAMPLE (R264, R265): one local sample of a group. -/
def execDeadlockSample (i : DieGIdx) (s : State) : Host.Outcome State Fault Refusal :=
  s.runDie fun c =>
    let g := i.val
    if !(c.dlOn g) || (c.ent g).state == .free then c
    else
      let c := c.nagentCheck g
      let d := (c.ent g).dl
      let cond := c.localCond g
      let held := cond && d.sampled == some (true, d.act)
      let c := c.modDl g fun d => { d with sampled := some (cond, d.act), lquiet := held }
      if held && (c.ent g).apex && !d.deadlock then c.declare g Event.DL_DEADLOCK_L none else c

/-- GPER in units of Lyspen time. -/
def Chip.gper (c : Chip) : Nat := oneIfZero (Word.field (c.reg Reg.DL_CFG) 0 16) * 1000 * nsUnit

/-- QPROBE_SEND (R266): a member's probe of the round that has begun. -/
def execQprobeSend (i : DieGIdx) (s : State) : Host.Outcome State Fault Refusal :=
  s.runDie fun c =>
    let g := i.val
    let e := c.ent g
    let p := c.groupUp g
    let epoch := c.now / c.gper
    if !(c.dlOn g) || !e.state.isSealed || e.apex || e.dieCount != 1 || !c.tk.valid || c.hg.fenced
        || (c.port p).nver == 1 || some epoch == e.dl.epProbe then c
    else
      let cond := c.localCond g
      let quiet := cond && e.dl.round == some (true, e.dl.act) && e.dl.epProbe.any (fun n => n + 1 == epoch)
      let r : ProbeRound :=
        { epoch := epoch, got := [], quiet := quiet, incomplete := false, anyWait := decide (0 < c.groupWaits g)
          sent := e.dl.sent, recv := e.dl.recv, members := 1 }
      (c.modDl g fun d => { d with round := some (cond, d.act), epProbe := epoch }).sendCells p clsB
        [probeCell e.gid e.gen false false r]

/-- A probe as a round of its own port. -/
def probeRead (x : Cell) (p : Nat) : ProbeRound :=
  { epoch := Word.field (x.pay 2) 0 16, got := [p], quiet := Word.bit (x.pay 2) 30
    incomplete := Word.bit (x.pay 2) 29, anyWait := Word.bit (x.pay 2) 28, sent := (x.pay 3).toNat
    recv := (x.pay 4).toNat, members := Word.field (x.pay 5) 0 25 }

/-- Two parts of one round combined (R267). -/
def ProbeRound.join (a b : ProbeRound) : ProbeRound :=
  { epoch := a.epoch, got := a.got ++ b.got, quiet := a.quiet && b.quiet
    incomplete := a.incomplete || b.incomplete, anyWait := a.anyWait || b.anyWait
    sent := (a.sent + b.sent) % 2 ^ 32, recv := (a.recv + b.recv) % 2 ^ 32
    members := (a.members + b.members) % 2 ^ 25 }

/-- The verdict of a round at the apex (R268). -/
def Chip.verdict (c : Chip) (g : Nat) (r : ProbeRound) : Bool :=
  r.quiet && !r.incomplete && r.anyWait && r.sent == r.recv && r.members == (c.ent g).gcount

/-- A round ends: its verdict goes down from the apex, or its combined probe up. -/
def Chip.roundEnd (c : Chip) (g : Nat) (r : ProbeRound) : Chip :=
  let e := c.ent g
  if e.apex then
    let cell := probeCell (c.gidOf g) e.gen true (c.verdict g r) r
    let c := c.modEnt g fun x => { x with probe := none }
    e.listed.foldl (fun c p => c.sendCells p clsB [cell]) c
  else if c.roomB (c.groupUp g) 1 then c.probeUp g r
  else c.modEnt g fun x => { x with probe := some r }

/-- A part joins the open round, which ends once every listed port's probe is in. -/
def Chip.roundJoin (c : Chip) (g : Nat) (r : ProbeRound) : Chip :=
  let c := c.modEnt g fun x => { x with probe := some r }
  if (c.ent g).probeFull r then c.roundEnd g r else c

/-- A member port's probe meets the open round (R267); one of a newer epoch waits while the round it
closes cannot leave. -/
def Chip.probeMeets (c : Chip) (g p : Nat) (x : Cell) : Chip :=
  let n := probeRead x p
  let take := c.popRx p clsB 1
  match (c.ent g).probe with
  | none => take.roundJoin g n
  | some r =>
    if n.epoch == r.epoch % 65536 then
      if r.got.contains p then take else take.roundJoin g (r.join n)
    else if serialBefore 16 r.epoch n.epoch then
      if (c.ent g).apex || c.roomB (c.groupUp g) 1 then
        (take.roundEnd g (if (c.ent g).probeFull r then r else { r with incomplete := true })).roundJoin g n
      else c
    else take.modEnt g fun y => { y with probe := some { r with incomplete := true } }

/-- The QPROBE at the head of a port's class B buffer, in a direction, with its entry. -/
def Chip.probeAt (c : Chip) (p : Nat) (down : Bool) (f : Chip → Nat → Cell → Chip) : Chip :=
  match c.headB p 0x23 with
  | none => c
  | some x =>
    if Word.bit (x.pay 2) 31 != down then c
    else
      match c.meet x with
      | .inr k => c.staleB p k x
      | .inl g => f c g x

/-- QPROBE_RECEIVE (R267): a probe on its way up reaches a hub. -/
def execQprobeReceive (p : Port) (s : State) : Host.Outcome State Fault Refusal :=
  s.runPort p fun c => c.probeAt p.val false fun c g x =>
    if !c.id.hub || 64 ≤ p.val || !((c.ent g).pmap.testBit p.val) then c.staleB p.val 5 x
    else c.probeMeets g p.val x

/-- A verdict at a member (R268): a global deadlock is declared where the die's own condition still
holds and nothing has moved since the round. -/
def Chip.memberVerdict (c : Chip) (g : Nat) (x : Cell) : Chip :=
  let epoch := Word.field (x.pay 2) 0 16
  let d := (c.ent g).dl
  let c := c.modDl g fun d => { d with epVerdict := epoch }
  let still := match d.round with
    | some r => r.2 == d.act
    | none => false
  if Word.bit (x.pay 2) 27 && c.dlOn g && c.localCond g && still && d.epProbe.any (fun n => n % 65536 == epoch) && !d.deadlock then
    (c.modDl g fun d => { d with epDetect := epoch }).declare g Event.DL_DEADLOCK_G (some (BitVec.ofNat 32 epoch))
  else c

/-- QPROBE_VERDICT (R268): a verdict reaches a hub, which forwards it, or a member. -/
def execQprobeVerdict (p : Port) (s : State) : Host.Outcome State Fault Refusal :=
  s.runPort p fun c => c.probeAt p.val true fun c g x =>
    if (c.ent g).apex || p.val != c.groupUp g then c.staleB p.val 8 x
    else
      let c := c.popRx p.val clsB 1
      if c.id.hub then
        (c.ent g).listed.foldl (fun c q => c.sendCells q clsB [mkCell clsB 0x23 x.group (x.payload.take x.len)]) c
      else c.memberVerdict g x

/-- A soft reset of the page: every episode ends and sampling restarts. -/
def Chip.dlSoftReset (c : Chip) : Chip :=
  { c with gr := { c.gr with entries := SMap.update c.gr.entries .reset fun _ e =>
    { e with dl := { e.dl with
      sampled := none, round := none, lquiet := false, deadlock := false, episodes := 0, epVerdict := 0
      epProbe := none, epDetect := 0, nagentBad := false } } } }

end Sys2Proof.Machine
end

