-- ==== Sys2Proof/Machine/Records.lean ====
section
/-!
DEFINITION. Machine/Records.lean: the event recorder (R335 to R341): the ring and its writer, operating
time and its restore, the mirror in host memory, and uploads to a management hub.
-/

namespace Sys2Proof.Machine

/-- The eight words of record `n` as it is written (R335). -/
def Chip.recordWords (c : Chip) (r : RawRec) (n : Nat) : List Word :=
  let mark := decide (0x1080 ≤ r.code ∧ r.code < 0x1100)
  let v := c.tk.valid
  [fld r.code 16 16 ||| (if mark then fld 1 2 14 else 0) ||| fld r.src 6 8 ||| fld r.sev 3 5 ||| Word.flag r.late 2
      ||| Word.flag c.tk.untraceable 1 ||| Word.flag v 0,
    c.opTime, fld n 8 24 ||| fld c.ev.pcyc 24 0,
    if v then Word.part c.now 2 else 0, if v then Word.part c.now 1 else 0, r.p1, r.p2, r.p3]

/-- A sequence number is not before another, modulo 2^32. -/
def seqFrom (a b : Nat) : Bool := decide ((a + 2 ^ 32 - b % 2 ^ 32) % 2 ^ 32 < 2 ^ 31)

/-- What record `n` overwrites (R337, R32): an unread record is reported as overwritten, and one of
severity 3 or more that was still to be mirrored counts as lost from the NVM. -/
def Chip.overwrite (c : Chip) (n : Nat) : Chip :=
  if !(SMap.has c.ev.ring (n % 4096)) then c
  else
    let old := (n + 2 ^ 32 - 4096) % 2 ^ 32
    let rd := c.reg Reg.EV_RDSEQ
    let sev := Word.field ((SMap.find c.ev.ring (n % 4096) []).getD 0 0) 5 3
    let c :=
      if 3 ≤ sev && seqFrom old (c.reg Reg.EV_MIRSEQ).toNat then
        ({ c with ev := { c.ev with mirLost := c.ev.mirLost + 1 } }).note Event.EV_MIRROR_LOST
      else c
    if seqFrom old rd.toNat then
      let c := c.note Event.EV_RING_OVR
      if c.ev.ovrOnce then c
      else
        ({ c with ev := { c.ev with ovrOnce := true } }).record Event.EV_RING_OVR.code
          { p1 := BitVec.ofNat 32 old, p2 := rd, p3 := some 0 }
    else c

/-- LOG2N of EV_HMCFG: 8 to 16; a value outside that range stands for a free one (log entry 31). -/
def Chip.hmLog2 (c : Chip) : Nat × Chip :=
  let n := Word.field (c.reg Reg.EV_HMCFG) 0 5
  if 8 ≤ n && n ≤ 16 then (n, c)
  else
    let f := c.takeFree
    (8 + f.1.toNat % 9, f.2)

/-- The memory-write port issues a beat, or keeps it in its buffer while HOST_RST_N is low (R366). -/
def Chip.mwIssue (c : Chip) (beat : Nat × List Word) : Chip :=
  { c with ev := if c.pw.hostLow then { c.ev with mwHeld := c.ev.mwHeld ++ [beat] }
    else c.ev.issued { beats := [beat], err := false } }

/-- The record's copy in host memory (R340, R305). A record that finds the port's buffer of 16 beats full waits for it in
the ring (DESIGN CHOICE, log entry 31: the spec names the buffer's size and nothing that meets it full). -/
def Chip.hostMirror (c : Chip) (n : Nat) (ws : List Word) : Chip :=
  if !(Word.bit (c.reg Reg.EV_HMCFG) 31) then c
  else if c.pw.hostLow && (16 ≤ c.ev.mwHeld.length || !c.ev.hmBack.isEmpty) then
    { c with ev := { c.ev with hmBack := c.ev.hmBack ++ [n] } }
  else
    let base := (c.reg Reg.EV_HMBASE_HI).toNat * 2 ^ 32 + (c.reg Reg.EV_HMBASE_LO).toNat / 32 * 32
    let l := c.hmLog2
    let addr := (base + 32 * (n % 2 ^ l.1)) % 2 ^ 64
    if l.2.mwInside addr addr then
      { l.2 with ev := { l.2.ev with hmSeq := (l.2.ev.hmSeq + 1) % 2 ^ 32 } }.mwIssue (addr, ws)
    else l.2.mwRefuse addr

/-- The record's upload on every upstream lane of a die that is UP (R341). -/
def Chip.upload (c : Chip) (sev : Nat) (ws : List Word) : Chip :=
  let cfg := c.reg Reg.EV_UPCFG
  if c.id.hub || !(Word.bit cfg 31) || sev < Word.field cfg 0 3 then c
  else
    c.upPorts.foldl
      (fun c p => c.sendCells p clsM [mkCell clsM 0x43 0 (ws ++ [BitVec.ofNat 32 (c.tr.addr.getD 0)])]) c

/-- Records lost at the writer queue are recorded once it has room (R337). -/
def Chip.dropRecord (c : Chip) : Chip :=
  if c.ev.lost = 0 || 64 ≤ c.ev.queue.length then c
  else
    let n := c.ev.lost
    ({ c with ev := { c.ev with lost := 0 } }).record Event.EV_DROP.code { p3 := BitVec.ofNat 32 n }

/-- The memory-write port resumes after a host reset: the beats in its buffer leave, then the records that wait behind
them (R366). -/
def Chip.mwResume (c : Chip) : Chip :=
  let held := c.ev.mwHeld
  let back := c.ev.hmBack
  let ev := held.foldl (fun (x : EvState) b => x.issued { beats := [b], err := false }) { c.ev with mwHeld := [], hmBack := [] }
  back.foldl (fun c n => c.hostMirror n (SMap.find c.ev.ring (n % 4096) [])) { c with ev := ev }

/-- RECORD_WRITE (R337): the head of the writer queue is written to the ring. -/
def execRecordWrite (s : State) : Host.Outcome State Fault Refusal :=
  s.apply fun c =>
    match c.ev.queue with
    | [] => c
    | r :: rest =>
      let n := c.ev.wrSeq
      let ws := c.recordWords r n
      let c := { c with ev := { c.ev with queue := rest } }
      let c := c.overwrite n
      let c := { c with ev := { c.ev with
        ring := SMap.insert c.ev.ring (n % 4096) ws, wrSeq := (n + 1) % 2 ^ 32 } }
      (((c.count 0x4A0 none).hostMirror n ws).upload r.sev ws).dropRecord

/-- A write to EV_RSTPC (R338): the restore, or a second one refused. -/
def Chip.evRestore (c : Chip) (m : Master) (w : Word) : Chip :=
  if c.ev.restored then c.report Event.EV_RESTORE_BAD
  else
    let c := { c with ev := { c.ev with
      restored := true
      optOff := c.ev.optOff + (c.regOf m Reg.EV_RSTOPT).toNat
      pcyc := (Word.field w 0 24 + 1) % 2 ^ 24 } }
    c.report Event.EV_RESTORED

/-- A write to EV_RDSEQ: once it moves, the next overwrite is recorded again. -/
def Chip.rdseqWrite (c : Chip) (w : Word) : Chip :=
  let moved := c.reg Reg.EV_RDSEQ != w
  let c := c.setReg Reg.EV_RDSEQ w
  if moved then { c with ev := { c.ev with ovrOnce := false } } else c

/-- A write to EV_MIRSEQ: mirroring has resumed, so losses are recorded (R32, log entry 31). -/
def Chip.mirseqWrite (c : Chip) (w : Word) : Chip :=
  let c := c.setReg Reg.EV_MIRSEQ w
  if c.ev.mirLost = 0 then c
  else ({ c with ev := { c.ev with mirLost := 0 } }).record Event.EV_MIRROR_LOST.code {}

/-- The words EV_UQ0 and EV_UQ1 to EV_UQ8 of the oldest upload; the read pops it. -/
def Chip.uploadPop (c : Chip) : List Word × Chip :=
  match c.ev.uploads with
  | [] => (List.replicate 9 0, c)
  | u :: rest => ((Word.flag true 31 ||| fld u.1 24 0) :: padTo 8 u.2, { c with ev := { c.ev with uploads := rest } })

/-- An uploaded record reaches a management hub (R341). -/
def Chip.uploadTake (c : Chip) (x : Cell) : Chip :=
  let ws := (x.payload.take 8).zipIdx.map fun p =>
    if p.2 = 0 then Word.merge p.1 (fld 2 2 14) 0x0000C000 else p.1
  let member := Word.field (x.pay 10) 0 24
  if c.ev.uploads.length < 64 then { c with ev := { c.ev with uploads := c.ev.uploads ++ [(member, ws)] } }
  else c.report Event.EV_UP_DISC { p1 := BitVec.ofNat 32 member }

/-- EVUP_RECEIVE (R341): an upload is queued at a hub with MGMT_NOTE, or rises further. -/
def execEvupReceive (p : Port) (s : State) : Host.Outcome State Fault Refusal :=
  s.runHub fun c =>
    match c.headM p.val 0x43 with
    | none => c
    | some x =>
      let c := c.popRx p.val clsM 1
      if Word.bit (c.reg Reg.TR_CFG) 22 then c.uploadTake x
      else c.sendCells (c.groupUp 0) clsM [mkCell clsM 0x43 0 (x.payload.take 9)]

end Sys2Proof.Machine
end

