-- ==== Sys2Proof/Machine/Stamps.lean ====
section
/-!
DEFINITION. Machine/Stamps.lean: the MAC taps (R176 to R180), software timestamps (R181) and the plumb
check (R182 to R185).
-/

namespace Sys2Proof.Machine

/-- The servo state as TK_TIME_QUAL.SVSTATE codes it (R137). -/
def SvMode.code (m : SvMode) : Nat :=
  match m with
  | .freerun => 0
  | .acquire => 1
  | .locked => 2
  | .holdover => 3
  | .holdExpired => 4

/-! ### Stamps -/

def Chip.tsCfg (c : Chip) (t : Nat) : Word := c.reg Reg.TS_TCFG t

/-- The plumb check runs on a tap: in the die role only (R182). -/
def Chip.plumbOn (c : Chip) (t : Nat) : Bool :=
  !c.id.hub && Word.bit (c.tsCfg t) 31 && Word.bit (c.tsCfg t) 30

/-- A strobe within 2 ticks of the one before it is missed (R178). -/
def strobeMissed (last : Option Nat) (at_ : Nat) : Bool :=
  match last with
  | some l => decide (at_ < l + 128)
  | none => false

/-- A missed strobe is reported. -/
def Chip.sofMiss (c : Chip) (t : Nat) (missed : Bool) : Chip :=
  if missed then c.report Event.TS_SOF_MISS { inst := some t } else c

/-- A transmit stamp enters the tap's queue, or is dropped (R180). -/
def Chip.txEnter (c : Chip) (t fid : Nat) (missed : Bool) (time : Nat) : Chip :=
  if (c.tsTap t).txq.length < 16 then
    c.modTs t fun x =>
      { x with txq := x.txq ++ [{ fid := fid, missed := missed, ovrBefore := x.ovr, time := time }], ovr := false }
  else
    (c.modTs t fun x => { x with ovr := true }).report Event.TS_TXQ_OVR
      { p2 := BitVec.ofNat 32 fid, inst := some t }

/-- A plumb frame has been sent (R182, R183): the stamps of the last 16 frames are kept, but for one whose strobe was
missed, and the next frame has the next number. -/
def Chip.plumbSent (c : Chip) (t : Nat) (missed : Bool) (time : Nat) : Chip :=
  c.modTs t fun x =>
    let keep := x.sent.filter fun e => decide (0 < (x.pseq + 4096 - e.1) % 4096 ∧ (x.pseq + 4096 - e.1) % 4096 < 16)
    { x with
      sent := if missed then keep else (x.pseq, time, c.tk.stepCnt) :: keep
      pseq := (x.pseq + 1) % 4096
      offer := none
      stepAt := c.tk.stepCnt }

/-- TX_SOF (R176 to R180): a transmit strobe. -/
def execTxSof (tap : MacTap) (fid : BitVec 16) (cls : BitVec 2) (phase : Fin 64) (s : State) :
    Host.Outcome State Fault Refusal :=
  s.run fun c =>
    let t := tap.val
    if cls == 0 || !(Word.bit (c.tsCfg t) 31) then c
    else
      let at_ := c.frc64 phase.val
      let missed := strobeMissed (c.tsTap t).lastTx at_
      let time := if missed then 0
        else (c.tk.stamp c.tk.frc phase.val + Word.field (c.reg Reg.TS_EGR t) 0 24 * unit64) % 2 ^ 96
      let c := (c.modTs t fun x => { x with lastTx := some at_ }).sofMiss t missed
      if cls == 3 then (if c.plumbOn t then c.plumbSent t missed time else c)
      else if Word.bit (c.tsCfg t) 29 then c.txEnter t fid.toNat missed time
      else c

/-- RX_SOF (R176 to R179): a receive strobe; its stamp leaves on RXTS. -/
def execRxSof (tap : MacTap) (cls : BitVec 2) (phase : Fin 64) (s : State) : Host.Outcome State Fault Refusal :=
  s.run fun c =>
    let t := tap.val
    if cls == 0 || !(Word.bit (c.tsCfg t) 31) then c
    else
      let at_ := c.frc64 phase.val
      let missed := strobeMissed (c.tsTap t).lastRx at_
      let raw := c.tk.stamp c.tk.frc phase.val + 2 ^ 96 - Word.field (c.reg Reg.TS_ING t) 0 24 * unit64
      let time := if missed then 0 else raw % 2 ^ 96
      let plumb := cls == 3 && c.plumbOn t
      let c := c.modTs t fun x =>
        { x with
          lastRx := some at_, rxl := time, rxlCls := cls.toNat
          rxts := some { fid := cls.toNat, missed := missed, ovrBefore := false, time := time }
          strobe := if plumb then some (if missed then none else some (time, c.tk.stepCnt)) else x.strobe }
      c.sofMiss t missed

/-! ### Software stamps (R181) -/

/-- A software stamp of the present moment: it lies within 2 µs of the event, and the rest is left open
(log entry 3). -/
def Chip.softStamp (c : Chip) : Nat × Chip :=
  let a := c.takeFree
  let b := a.2.takeFree
  let span := 4000 * nsUnit
  (c.now + (a.1.toNat * 2 ^ 32 + b.1.toNat) % (span + 1) - span / 2, b.2)

/-- A software stamp is lost. -/
def Chip.swLost (c : Chip) (src : Nat) : Chip := c.report Event.TS_SW_OVR { p1 := BitVec.ofNat 32 src }

/-- A stamp of a source enters the software queue, or is lost. -/
def Chip.swEnter (c : Chip) (src time : Nat) : Chip :=
  if c.ts.swq.length < 8 then { c with ts := { c.ts with swq := c.ts.swq ++ [(src, time)] } } else c.swLost src

/-- The rising edge of a SWEVT input as the pin counters see it: the fall of its last pulse lies before it
(log entry 32). -/
def Chip.swEdge (c : Chip) (i : Nat) : Chip :=
  let seen := c.ts.swSeen.contains i
  let c := c.pinEdges (0x430 + i) 1 (if seen then 1 else 0)
  if seen then c else { c with ts := { c.ts with swSeen := i :: c.ts.swSeen } }

/-- SWEVT (R181): an edge is stamped while controller firmware runs; the first edge without it waits,
and a further one is lost. -/
def execSwevt (input : Fin 4) (s : State) : Host.Outcome State Fault Refusal :=
  s.run fun c =>
    let i := input.val
    let c := c.swEdge i
    if c.ts.swWait.contains i then c.swLost i
    else if c.fw.running then
      let r := c.softStamp
      r.2.swEnter i r.1
    else { c with ts := { c.ts with swWait := i :: c.ts.swWait } }

/-! ### The plumb check -/

/-- A signed difference of two 64-bit times: modulo 2^32 ns (R182). -/
def plumbDiff (a b : Nat) : Int := signedOf 64 (a + 2 ^ 64 - b % 2 ^ 64)

/-- The level of the lowest hub above two members: 6 to 9 (R112, R184). -/
def commonLevel (a b : Nat) : Nat :=
  if a / 2 ^ 6 = b / 2 ^ 6 then 6
  else if a / 2 ^ 12 = b / 2 ^ 12 then 7
  else if a / 2 ^ 18 = b / 2 ^ 18 then 8
  else 9

/-- The plumb payload a tap offers (R182). -/
def Chip.plumbPayload (c : Chip) (t : Nat) : List Word :=
  let x := c.tsTap t
  let prev := x.sent.find? fun e => e.1 == (x.pseq + 4095) % 4096
  let tprev := (prev.map fun e => e.2.1).getD 0
  let trx := (x.got.map fun g => g.2.1).getD 0
  [fld 1 4 28 ||| fld x.pseq 12 16 ||| fld c.sv.mode.code 3 13 ||| Word.flag c.tk.valid 12
      ||| Word.flag prev.isSome 11 ||| Word.flag x.got.isSome 10 ||| Word.flag (c.tk.stepCnt != x.stepAt) 9,
    Word.flag c.tr.addr.isSome 31 ||| fld (c.tr.addr.getD 0) 24 0,
    Word.part tprev 1, Word.part tprev 0, Word.part trx 1, Word.part trx 0,
    fld ((x.got.map fun g => g.1).getD 0) 12 16, 0]

/-- PLUMB_SEND (R182): the tap raises PL_REQ and offers its payload. -/
def execPlumbSend (tap : MacTap) (s : State) : Host.Outcome State Fault Refusal :=
  s.runDie fun c =>
    if c.plumbOn tap.val then
      let pay := c.plumbPayload tap.val
      c.modTs tap.val fun x => { x with offer := some pay }
    else c

/-- |θ| in 1/64 tick against a limit in ps: one 1/64 tick is 9.765625 ps. -/
def thetaAbove (theta : Int) (ps : Int) : Bool := decide ((theta.natAbs : Int) * 9765625 > ps * 1000000)

/-- SUSPECT follows the taps in alarm (R185). -/
def Chip.suspectEval (c : Chip) : Chip :=
  let q := oneIfZero (Word.field (c.reg Reg.TS_PLCFG) 16 4)
  let l := c.alarms
  let ahead := l.all fun e => decide (0 < e.2.theta)
  let behind := l.all fun e => decide (e.2.theta < 0)
  let on := decide (q ≤ l.length) && (ahead || behind)
  if on && !c.ts.suspect then
    let p := c.sv.chan
    ({ c with ts := { c.ts with suspect := true, sign := ahead, suspectPort := p } }).report Event.TS_SUSPECT
      { p1 := BitVec.ofNat 32 p }
  else if on then { c with ts := { c.ts with sign := ahead } }
  else { c with ts := { c.ts with suspect := false } }

/-- A window of 16 valid exchanges ends (R184). -/
def Chip.plumbWindow (c : Chip) (t : Nat) : Chip :=
  let x := c.tsTap t
  let theta := divRound x.sumTheta (32 * unit64)
  let delay := divRound x.sumDelay (32 * unit64)
  let limit : Int := Word.field (c.reg Reg.TS_PLCFG) 0 16
  let c := c.modTs t fun x =>
    { x with n := 0, sumTheta := 0, sumDelay := 0, theta := theta, delay := delay, maxTheta := 0, plValid := true }
  let c :=
    if !x.alarm && thetaAbove theta limit then
      (c.modTs t fun x => { x with alarm := true }).report Event.TS_PLUMB
        { p1 := fld t 8 0 ||| fld (commonLevel (c.tr.addr.getD 0) (x.nb.getD 0)) 4 8, p2 := wordOfInt theta
          inst := some t }
    else if x.alarm && !(thetaAbove theta (limit - 1000)) then
      (c.modTs t fun x => { x with alarm := false }).report Event.TS_PLUMB_CLR { inst := some t }
    else c
  c.suspectEval

/-- One exchange: θ and the delay, both doubled, in units of 2^-32 ns (R183). -/
def plumbExchange (t1 t2 t3 t4 : Nat) : Int × Int :=
  (plumbDiff t2 t1 - plumbDiff t4 t3, plumbDiff t2 t1 + plumbDiff t4 t3)

/-- A neighbour address: a change restarts the window and clears the alarm (R184). -/
def Chip.plumbNeighbour (c : Chip) (t addr : Nat) : Chip :=
  match (c.tsTap t).nb with
  | some a =>
    if a = addr then c
    else
      (c.modTs t fun x =>
        { x with nb := some addr, n := 0, sumTheta := 0, sumDelay := 0, maxTheta := 0, alarm := false, got := none }).suspectEval
  | none => c.modTs t fun x => { x with nb := some addr }

/-- The exchange of a received payload, when it is valid (R183). -/
def Chip.plumbValid (c : Chip) (t : Nat) (pay : List Word) : Option (Int × Int) :=
  let x := c.tsTap t
  let p0 := pay.getD 0 0
  let pseq := Word.field p0 16 12
  let far := Word.field p0 13 3
  let good := Word.bit p0 12 && (far == 2 || far == 3) && c.tk.valid
    && (c.sv.mode == .locked || c.sv.mode == .holdover) && Word.bit p0 11 && Word.bit p0 10 && !(Word.bit p0 9)
  match x.got, x.sent.find? fun e => e.1 == Word.field (pay.getD 6 0) 16 12 with
  | some g, some e =>
    if good && (g.1 + 1) % 4096 == pseq && g.2.2 == e.2.2 then
      some (plumbExchange (Word.join (pay.getD 2 0) (pay.getD 3 0)).toNat (g.2.1 % 2 ^ 64) (e.2.1 % 2 ^ 64)
        (Word.join (pay.getD 4 0) (pay.getD 5 0)).toNat)
    else none
  | _, _ => none

/-- A plumb payload is discarded (R182). -/
def Chip.plumbDiscard (c : Chip) (t : Nat) : Chip :=
  (c.modTs t fun x => { x with strobe := none }).report Event.TS_PL_DISC { inst := some t }

/-- A payload of a frame from the neighbour (R183). -/
def Chip.plumbFrame (c : Chip) (t : Nat) (pay : List Word) : Chip :=
  let c := c.plumbNeighbour t (Word.field (pay.getD 1 0) 0 24)
  let r := c.plumbValid t pay
  let stamp := ((c.tsTap t).strobe.getD none)
  let c := c.modTs t fun x =>
    { x with
      got := stamp.map fun v => (Word.field (pay.getD 0 0) 16 12, v.1, v.2)
      strobe := none }
  match r with
  | none => c.modTs t fun x => { x with skip := satNat 16 (x.skip + 1) }
  | some e =>
    let mag := (divRound e.1 (2 * unit64)).natAbs
    let c := c.modTs t fun x =>
      { x with
        valid := satNat 16 (x.valid + 1), n := x.n + 1, sumTheta := x.sumTheta + e.1, sumDelay := x.sumDelay + e.2
        maxTheta := max x.maxTheta mag }
    if 16 ≤ (c.tsTap t).n then c.plumbWindow t else c

/-- PLUMB_RECEIVE (R182, R183): the payload of a plumb strobe. -/
def execPlumbReceive (tap : MacTap) (pay : List Word) (s : State) : Host.Outcome State Fault Refusal :=
  s.runDie fun c =>
    let t := tap.val
    if !(c.plumbOn t) || (c.tsTap t).strobe.isNone then c
    else if Word.field (pay.getD 0 0) 28 4 != 1 || !(Word.bit (pay.getD 1 0) 31) then c.plumbDiscard t
    else c.plumbFrame t pay

/-- PLUMB_TIMEOUT (R182): a payload has not come within 2 µs of its strobe. -/
def execPlumbTimeout (tap : MacTap) (s : State) : Host.Outcome State Fault Refusal :=
  s.runDie fun c => if (c.tsTap tap.val).strobe.isSome then c.plumbDiscard tap.val else c

/-- A soft reset of the TS page: every queue empty, every plumb window restarted. -/
def Chip.tsSoftReset (c : Chip) : Chip := { c with ts := .reset }

end Sys2Proof.Machine
end

