-- ==== Sys2Proof/Machine/Pulse.lean ====
section
/-!
DEFINITION. Machine/Pulse.lean: the pulse outputs (R186 to R190) and the faults of their pins (R192).
-/

namespace Sys2Proof.Machine

def Chip.poCfg (c : Chip) (o : Nat) : Word := c.reg Reg.PO_OCFG o
def Chip.poMode (c : Chip) (o : Nat) : Nat := Word.field (c.poCfg o) 30 2
def Chip.poDrive (c : Chip) (o : Nat) : Nat := Word.field (c.poCfg o) 24 2

/-- POSPACE and POWID in units of Lyspen time (R188, R299). -/
def Chip.poSpace (c : Chip) : Nat := Word.field (c.reg Reg.GD_POLIM) 16 16 * nsUnit
def Chip.poWidMin (c : Chip) : Nat := Word.field (c.reg Reg.GD_POLIM) 0 16 * nsUnit

/-- What an output is set to drive: its pulse, or in LEVEL its level. -/
def Chip.poSet (c : Chip) (o : Nat) : Bool := (c.po1 o).high || (c.poMode o == 3 && Word.bit (c.poCfg o) 29)

/-- A rise keeps the spacing from the last fall (R188). -/
def Chip.poSpaced (c : Chip) (o : Nat) : Bool :=
  match (c.po1 o).lastFall with
  | some f => decide (f + c.poSpace ≤ c.now)
  | none => true

/-- The level an output drives inside Lyspen: a level set high waits for its spacing (R186, R188). -/
def Chip.poLevel (c : Chip) (o : Nat) : Bool := (c.po1 o).high || (c.poSet o && c.poSpaced o)

/-- The pin of an output: its level, or high-Z while VDDIO_T is down, while no drive is set, or after a short
(R191, R192). -/
def Chip.poPin (c : Chip) (o : Nat) : Option Bool :=
  if c.pw.io && c.poDrive o != 0 && !(c.po1 o).disabled then some (c.poLevel o) else none

/-- An output drives its pin high. -/
def Chip.poHigh (c : Chip) (o : Nat) : Bool := c.poPin o == some true

/-- The pin counters see an output change as driven (R348). -/
def Chip.poEdges (c before : Chip) (o : Nat) : Chip :=
  match before.poHigh o, c.poHigh o with
  | false, true => c.pinEdges (0x400 + o) 1 0
  | true, false => c.pinEdges (0x400 + o) 0 1
  | _, _ => c

/-- The same for all eight. -/
def Chip.poAllEdges (c before : Chip) : Chip := (List.range 8).foldl (fun x o => x.poEdges before o) c

/-- Some output's level, set high, waits for its spacing (R188). -/
def Chip.poHeld (c : Chip) : Bool := (List.range 8).any fun o => c.poSet o && !c.poSpaced o

/-- The timing fields as they stand: a period is in units of 2^-8 ns, a width in ns. -/
def Chip.poArmOf (c : Chip) (o : Nat) : PulseArm :=
  { mode := c.poMode o
    start := timeOf (c.reg Reg.PO_START_FRAC o) (c.reg Reg.PO_START_NSLO o) (c.reg Reg.PO_START_NSHI o)
    per := (Word.field (c.reg Reg.PO_PER_HI o) 0 16 * 2 ^ 32 + (c.reg Reg.PO_PER_LO o).toNat) * 2 ^ 24
    wid := (c.reg Reg.PO_WID o).toNat * nsUnit
    count := (c.reg Reg.PO_COUNT o).toNat }

/-- A refusal while armed (R187). -/
def Chip.poBusy (c : Chip) (o : Nat) : Chip := c.report Event.PO_PO_BUSY { inst := some o }

/-- The timing fields of an ARM, in any mode, break a bound of GD_POLIM, or the longest period, 2^32 ns (R188,
R298). -/
def Chip.poBreaks (c : Chip) (a : PulseArm) : Bool :=
  decide (a.wid < c.poWidMin) || decide (a.per < a.wid + c.poSpace)
def poTooLong (a : PulseArm) : Bool := decide (2 ^ 32 * nsUnit < a.per)

/-- The first due time (R187): where START has passed, a one-shot fires on the next tick, and a periodic output
begins at the first grid point after the arm tick. -/
def firstDue (a : PulseArm) (now next : Nat) : Nat :=
  if now < a.start then a.start
  else if a.mode == 2 && 0 < a.per then a.start + ((now - a.start) / a.per + 1) * a.per
  else next

/-- PO_CTRL.ARM (R187, R188); the answer says whether the Guard refused it. -/
def Chip.poArm (c : Chip) (o : Nat) (m : Master) (w : Word) : Chip × Bool :=
  let a := c.poArmOf o
  if (c.po1 o).armed.isSome then (c.poBusy o, false)
  else if c.poBreaks a then
    (c.guardRefuse Event.GD_PO_BOUND m Reg.PO_CTRL.addr w (c.reg Reg.GD_POLIM), true)
  else if poTooLong a then
    let f := c.takeFree
    (f.2.guardRefuse Event.GD_PO_BOUND m Reg.PO_CTRL.addr w f.1, true)
  else
    let due := firstDue a c.now (c.tk.stamp (c.tk.frc + 1) 0)
    (c.modPo o fun x => { x with armed := some { a with start := due }, k := 0, next := due, done := 0, openLoad := false }, false)

/-- PO_CTRL.DISARM (R187): a pulse that is high completes its width. -/
def Chip.poDisarm (c : Chip) (o : Nat) : Chip := c.modPo o fun x => { x with armed := none }

/-- Every pulse of an output's COUNT has had its grid point. -/
def PoOut.spent (x : PoOut) : Bool :=
  match x.armed with
  | some a => (a.mode == 1 && decide (1 ≤ x.k)) || (a.mode == 2 && a.count != 0 && decide (a.count ≤ x.k))
  | none => false

/-- A grid point has passed: the next rising edge stands on the grid, and an output whose pulses are spent
is disarmed once it is low. -/
def PoOut.advance (x : PoOut) : PoOut :=
  match x.armed with
  | some a =>
    let y := { x with k := x.k + 1, next := a.start + (x.k + 1) * a.per }
    if y.spent && !y.high then { y with armed := none } else y
  | none => x

/-- A rising edge is pending: the output is armed with pulses left. -/
def PoOut.rising (x : PoOut) : Bool :=
  match x.armed with
  | some a => (a.mode == 1 || a.mode == 2) && !x.high && !x.spent
  | none => false

/-- The earliest time of the next rising edge under the spacing of R188. -/
def Chip.poEarliest (c : Chip) (x : PoOut) : Nat :=
  match x.lastFall with
  | some f => max x.next (f + c.poSpace)
  | none => x.next

/-- The rising edge is driven at its due time, and the fall is due its width later (R186); or it is withheld while time is not valid (R190). -/
def Chip.poRise (c : Chip) (o : Nat) : Chip :=
  let x := c.po1 o
  let due := c.poEarliest x
  if Word.bit (c.poCfg o) 28 && !c.tk.valid then
    (c.modPo o PoOut.advance).report Event.PO_PO_INVALID { inst := some o }
  else
    let wid := (x.armed.map fun a => a.wid).getD 0
    let c := if x.next < due then c.report Event.PO_PO_SPACE { inst := some o } else c
    c.modPo o fun x => PoOut.advance { x with high := true, rose := due, fall := due + wid }

/-- The falling edge is driven: the pulse has been issued. -/
def Chip.poFall (c : Chip) (o : Nat) : Chip :=
  c.modPo o fun x =>
    let y := { x with high := false, lastFall := some (max x.fall x.rose), done := (x.done + 1) % 2 ^ 32 }
    if y.spent then { y with armed := none } else y

/-- How far ahead of its due time an edge leaves: PO_OUTLAT (R186). -/
def Chip.poLead (c : Chip) (o : Nat) : Nat := Word.field (c.reg Reg.PO_OUTLAT o) 0 16 * unit64

/-- PULSE_EDGE (R186): an edge of an output falls due. -/
def execPulseEdge (out : OutPin) (s : State) : Host.Outcome State Fault Refusal :=
  s.run fun c =>
    let o := out.val
    let x := c.po1 o
    let by_ := c.now + c.poLead o
    if x.high then (if x.fall ≤ by_ then (c.poFall o).poEdges c o else c)
    else if x.rising && c.poEarliest x ≤ by_ then (c.poRise o).poEdges c o
    else c

/-- Rising edges of a grid passed by a step: those with a due time up to the new time. -/
def risesPassed (x : PoOut) (now : Nat) : Nat :=
  match x.armed with
  | some a =>
    if now < x.next then 0
    else if a.mode == 2 && 0 < a.per then
      let n := (now - (a.start + x.k * a.per)) / a.per + 1
      if a.count = 0 then n else min n (a.count - x.k)
    else 1
  | none => 0

/-- A step acts on an output (R189): the times of its last edges move with the step; a forward step
leaves one pulse to rise on the boundary tick and skips the others it passed, and brings a passed falling
edge to the boundary tick, at least 8 ns after the rise. The answer is how many it skipped. -/
def Chip.poStep (c : Chip) (o : Nat) (step : Int) : Chip :=
  let move (t : Nat) : Nat := ((t : Int) + step).toNat
  let now := c.now
  let x := c.po1 o
  let old := { x with rose := move x.rose, lastFall := x.lastFall.map move }
  if step ≤ 0 then c.modPo o fun _ => old
  else
    let n := if x.spent || x.armed.isNone then 0 else risesPassed x now
    let skip := n - 1
    let y := if n = 0 then old else { old with k := old.k + skip, next := now }
    let y := if y.high && y.fall ≤ now then { y with fall := max now (y.rose + 8 * nsUnit) } else y
    let c := c.modPo o fun _ => y
    if skip = 0 then c
    else
      let c := (c.bump Reg.PO_SKIPCNT skip o).count Event.PO_PO_SKIP.num (some o) skip
      (c.flag 0x0E Event.PO_PO_SKIP.bit (some o)).record Event.PO_PO_SKIP.code
        { p2 := BitVec.ofNat 32 skip, inst := some o }

/-- A step acts on every output. -/
def Chip.poSteps (c : Chip) (step : Int) : Chip :=
  (c.po.outs.map fun e => e.1).foldl (fun c o => c.poStep o step) c

/-! ### Pin faults (R192) -/

/-- The parameters of a pin fault: the pin index. -/
def pinRep (p : Nat) : Rep := { p1 := BitVec.ofNat 32 p, inst := some p }

/-- A level written low has fallen now (R188). -/
def Chip.poFell (c before : Chip) (o : Nat) : Chip :=
  if before.poLevel o && !(c.poLevel o) then c.modPo o fun x => { x with lastFall := some c.now } else c

/-- SHORT (R192): an output has been over its current limit for 10 µs. -/
def execShort (out : OutPin) (s : State) : Host.Outcome State Fault Refusal :=
  s.run fun c =>
    if (c.poPin out.val).isNone then c
    else ((c.modPo out.val fun x => { x with disabled := true }).poEdges c out.val).report Event.PO_SHORT (pinRep out.val)

/-- SHORT_RETRY (R192): a disabled output is tried for 10 µs. -/
def execShortRetry (out : OutPin) (still : Bool) (s : State) : Host.Outcome State Fault Refusal :=
  s.run fun c =>
    if !(c.po1 out.val).disabled || !c.pw.io then c
    else if still then c.modPo out.val fun x => { x with retries := satNat 16 (x.retries + 1) }
    else (c.modPo out.val fun x => { x with disabled := false }).poEdges c out.val

/-- OPEN_LOAD (R192): a terminated output draws under 1 mA while it drives high. -/
def execOpenLoad (out : OutPin) (s : State) : Host.Outcome State Fault Refusal :=
  s.run fun c =>
    if c.poDrive out.val == 2 && c.poPin out.val == some true && !(c.po1 out.val).openLoad then
      (c.modPo out.val fun x => { x with openLoad := true }).report Event.PO_OPEN_LOAD (pinRep out.val)
    else c

/-- OPEN_IN (R192): the bias of an input shows it open for 1 ms; a die has no inputs (R191). -/
def execOpenIn (pin : OutPin) (s : State) : Host.Outcome State Fault Refusal :=
  s.runHub fun c =>
    if Word.bit (c.reg Reg.PO_ICFG pin.val) 28 && c.pw.io && !(c.po1 pin.val).openIn then
      (c.modPo pin.val fun x => { x with openIn := true }).report Event.PO_OPEN_IN (pinRep pin.val)
    else c

/-- UART_INV (R192): a line is low for 100 ms with activity. -/
def execUartInv (uart : Fin 2) (s : State) : Host.Outcome State Fault Refusal :=
  s.run fun c =>
    if c.po.uartInv.testBit uart.val || !c.pw.io then c
    else ({ c with po := { c.po with uartInv := c.po.uartInv + 2 ^ uart.val } }).report Event.PO_UART_INV
      { p1 := BitVec.ofNat 32 uart.val, inst := some uart.val }

/-- A soft reset of the PO page: every output disarmed. -/
def Chip.poSoftReset (c : Chip) : Chip := { c with po := .reset }

end Sys2Proof.Machine
end

