-- ==== Sys2Proof/Machine/Guard.lean ====
section
/-!
DEFINITION. Machine/Guard.lean: the Guard's limits and the barrier override (R298 to R307), the controller's
images, staging and boot (R308 to R311), its watchdog (R312), and the handover (R314 to R316).
-/

namespace Sys2Proof.Machine

/-! ### Access refusals (R53) -/

/-- A refused access: reported, with the master, the kind and the address in GLB_ACCFAULT. -/
def Chip.accRefuse (c : Chip) (e : Ev) (kind : Nat) (m : Master) (addr : Nat) (w : Word) : Chip :=
  let word := fld m.code 2 30 ||| fld kind 3 27 ||| fld (addr / 4 * 4) 18 0
  let c := c.setReg Reg.GLB_ACCFAULT word
  c.report e { p1 := word, p2 := w, p3 := some 0 }

def Chip.accRights (c : Chip) (m : Master) (addr : Nat) (w : Word) : Chip :=
  c.accRefuse Event.GLB_ACC_RIGHTS 3 m addr w
def Chip.accLocked (c : Chip) (m : Master) (addr : Nat) (w : Word) : Chip :=
  c.accRefuse Event.GLB_ACC_LOCKED 4 m addr w

/-- A page is locked: LOCK.LOCKED. -/
def Chip.locked (c : Chip) (page : Nat) : Bool := Word.bit (c.reg (lockRow page)) 0

/-! ### Limits (R299, R300) -/

/-- A tightening of GD_RATEWIN that leaves the active or a staged RATE outside (R300). -/
def Chip.winTooTight (c : Chip) (l : GuardLimit) (w : Word) : Bool :=
  l == .rateWin && (rateOutside c.tk.rate (Word.field w 0 20) || (match c.tk.rateStage with
    | some r => rateOutside r (Word.field w 0 20)
    | none => false))

/-- A write to a limit register; the answer is the KIND of its refusal, if it is refused (R128). -/
def Chip.limitWrite (c : Chip) (l : GuardLimit) (m : Master) (w : Word) : Chip × Option Nat :=
  let row := limitRow l
  let old := c.reg row
  let data := w
  let w := w &&& row.take
  if limitLoosens l old w && m != .host then (c.guardRefuse Event.GD_LOOSEN m row.addr data old, some 7)
  else if limitLoosens l old w && c.locked 0x1C then (c.accLocked m row.addr data, some 4)
  else if limitLoosens l old w && limitBeyond l w then (c.guardRefuse Event.GD_LOOSEN m row.addr data old, some 7)
  else if c.winTooTight l w then (c.guardRefuse Event.GD_RATE_WIN m row.addr data old, some 7)
  else (c.setReg row w, none)

/-! ### Barrier override (R303) -/

/-- What the override's conditions ask of the entry it names. -/
def Chip.ovrGood (c : Chip) (w : Word) : Bool :=
  let g := Word.field (c.reg Reg.GD_OVRSEL) 0 12
  let e := c.ent g
  Word.field w 16 16 == 0x0B7A && g < c.ngroups && e.apex && (e.state == .active || e.state == .lossHeld)
    && Word.field w 0 16 == e.gen && e.barrier.isSome && !e.closing

/-- The host port's GD_OVR: taken, or refused as OVR_BAD. -/
def Chip.override (c : Chip) (m : Master) (w : Word) : Chip :=
  let g := Word.field (c.reg Reg.GD_OVRSEL) 0 12
  let idx := c.reg Reg.GD_OVRSEL
  if c.ovrGood w then
    let c := (c.bump Reg.GD_OVRCNT 1).report Event.GD_OVERRIDE
      { p1 := guardWho m Reg.GD_OVR.addr, p2 := w, p3 := idx }
    c.overrideClose g
  else c.guardRefuse Event.GD_OVR_BAD m Reg.GD_OVR.addr w idx

/-! ### The controller domain -/

/-- The controller is put in reset (R312, R314, R364): its core and its SRAM. A SWITCH that waits is the Guard's. -/
def Chip.ctlReset (c : Chip) : Chip :=
  { c with
    fw := { c.fw with running := false, run := 0, sram := [], phase := .off }
    gd := { c.gd with wdRun := false } }

/-- The Guard boots the active bank; a controller that is held stays in reset until its RELEASE (R312). -/
def Chip.boot (c : Chip) : Chip :=
  { c with fw := { c.fw with
    phase := if c.fw.held || c.fw.hostHeld then .off else .want, tried := [], fromSram := false, noImage := false, bootAt := c.tk.frc, bootMs := none } }

/-- The boot of AON power-on and main reset (R310): the bank the boot record names, or bank A. -/
def Chip.coldBoot (c : Chip) : Chip :=
  ({ c with fw := { c.fw with bankB := c.fw.bootRec.getD false } }).boot

/-! ### Image verification (R309, R310) -/

/-- Where a bank starts in the NOR (R306). -/
def bankBase (b : Bool) : Nat := if b then 0x040000 else 0

/-- A byte of an image: in the SRAM, or in a bank. -/
def FwState.imgByte (f : FwState) (src : Option Bool) (a : Nat) : BitVec 8 :=
  match src with
  | some b => SMap.find f.nor (bankBase b + a) 0xFF
  | none => SMap.find f.sram a 0

def FwState.imgBytes (f : FwState) (src : Option Bool) (a n : Nat) : List (BitVec 8) :=
  (List.range n).map fun i => f.imgByte src (a + i)

/-- A little-endian field of an image. -/
def leNat : List (BitVec 8) → Nat
  | [] => 0
  | b :: r => b.toNat + 256 * leNat r

def FwState.imgField (f : FwState) (src : Option Bool) (a n : Nat) : Nat := leNat (f.imgBytes src a n)

/-- Bytes read as one number, the first the most significant. -/
def beNat (l : List (BitVec 8)) : Nat := l.foldl (fun n b => n * 256 + b.toNat) 0

/-- A key digest that is present and not revoked matches (FW_KEYS). -/
def keyAccepted (keys : Nat) (d : BitVec 384) : Bool :=
  (List.range 4).any fun k => keys.testBit k && !(keys.testBit (4 + k)) && Config.keyDigest k == d

/-- The first check that fails, as FAILRSN; none where the image is good. `readOk` says that the NOR was
read without error. -/
def Chip.imgFault (c : Chip) (src : Option Bool) (readOk : Bool) : Option Nat :=
  let f := c.fw
  let len := f.imgField src 0x008 4
  if f.imgField src 0x000 4 != 0x4C594657 || f.imgField src 0x004 2 != 1 || len % 4 != 0 || 229376 < len
      || 0x40000 ≤ f.imgField src 0x010 4 then some 1
  else if !(keyAccepted c.id.keys (Config.sha384 (f.imgBytes src 0x048 96))) then some 2
  else if !(Config.ecdsaP384 (f.imgBytes src 0x048 96) (Config.sha384 (f.imgBytes src 0 0xA8))
      (f.imgBytes src 0x0A8 96)) then some 3
  else if (Config.sha384 (f.imgBytes src 0x200 len)).toNat != beNat (f.imgBytes src 0x018 48) then some 4
  else if f.imgField src 0x00C 2 < c.id.svnMin then some 5
  else if !readOk then some 6
  else none

/-- The verdict on an image. A bank whose staging a main reset has stopped fails (R375); the spec gives its
FAILRSN no value (log entry 3). -/
def Chip.imgVerdict (c : Chip) (src : Option Bool) (readOk : Bool) : Option Nat × Chip :=
  if src.isSome && !c.id.norPresent then (some 6, c)
  else if src.isSome && c.fw.spoiled == src then
    let f := c.takeFree
    (some (1 + f.1.toNat % 6), f.2)
  else (c.imgFault src readOk, c)

/-- FW_BSTATA or FW_BSTATB after a check. -/
def Chip.bankStatus (c : Chip) (b : Bool) (rsn : Option Nat) : Chip :=
  let ver := fld (c.fw.imgField (some b) 0x006 2) 16 0
  let w := match rsn with
    | none => Word.flag true 31 ||| ver
    | some k => Word.flag true 30 ||| fld k 4 24 ||| ver
  if b then { c with fw := { c.fw with bstatB := w } } else { c with fw := { c.fw with bstatA := w } }

/-- A failed image is reported with its FAILRSN. -/
def Chip.imgBad (c : Chip) (rsn : Nat) : Chip := c.report Event.FW_IMG_BAD { p3 := BitVec.ofNat 32 rsn }

/-- IMAGE_LOAD (R310): a wanted boot begins to load and verify. -/
def execImageLoad (s : State) : Host.Outcome State Fault Refusal :=
  s.run fun c => if c.fw.phase == .want then { c with fw := { c.fw with phase := .load } } else c

/-- A verified image's payload as it stands in the SRAM, from address 0 (R309). -/
def FwState.payload (f : FwState) (src : Option Bool) : SMap (BitVec 8) :=
  ((List.range (f.imgField src 0x008 4)).map fun i => (i, f.imgByte src (0x200 + i))).filter fun e => e.2 != 0

/-- The controller leaves reset with a verified image: its payload is loaded, its watchdog starts, and edges that were not stamped
while it was dead are given up (R312, log entry 32). -/
def Chip.ctlStart (c : Chip) (src : Option Bool) : Chip :=
  let run := fld (c.fw.imgField src 0x00F 1) 8 24 ||| fld (c.fw.imgField src 0x00E 1) 8 16
    ||| fld (c.fw.imgField src 0x006 2) 16 0
  { c with
    fw := { c.fw with
      running := true, phase := .off, run := run, booted := true, noImage := false, tried := []
      fromSram := src.isNone, sram := c.fw.payload src }
    gd := { c.gd with wdRun := true, kickAt := c.tk.frc }
    ts := { c.ts with swWait := [] } }

/-- The previous bank is made active again (R315). -/
def Chip.revert (c : Chip) (rsn : Nat) : Chip :=
  let c := c.ctlReset
  let c := { c with fw := { c.fw with trial := false, bankB := !c.fw.bankB } }
  (c.report Event.FW_REVERTED { p3 := BitVec.ofNat 32 rsn }).boot

/-- No bank has verified: the controller stays in reset (R310). -/
def Chip.noImage (c : Chip) : Chip :=
  ({ c with fw := { c.fw with phase := .off, noImage := true } }).report Event.FW_NOIMAGE

/-- The image under verification has failed: the trial reverts, or the boot falls back. -/
def Chip.imgFailed (c : Chip) (rsn : Nat) : Chip :=
  let c := c.imgBad rsn
  if c.fw.fromSram then c.noImage
  else if c.fw.trial then c.revert rsn
  else if c.fw.tried.isEmpty then
    { c with fw := { c.fw with tried := [c.fw.bankB], bankB := !c.fw.bankB, phase := .want } }
  else c.noImage

/-- IMAGE_VERIFIED (R310): verification ends; `ok` says that the NOR was read without error. -/
def execImageVerified (ok : Bool) (s : State) : Host.Outcome State Fault Refusal :=
  s.run fun c =>
    if c.fw.phase != .load then c
    else
      let src := if c.fw.fromSram then none else some c.fw.bankB
      let v := c.imgVerdict src ok
      let c := match src with
        | some b => v.2.bankStatus b v.1
        | none => v.2
      match v.1 with
      | none => c.ctlStart src
      | some rsn => c.imgFailed rsn

/-! ### Staging (R311) -/

/-- The bank into which an image is staged. -/
def FwState.inactive (f : FwState) : Bool := !f.bankB

/-- A write of FW_STGADDR: WORD = 0 erases the inactive bank first. -/
def Chip.stgAddr (c : Chip) (m : Master) (w : Word) : Chip :=
  let c := c.setRegOf m Reg.FW_STGADDR (w &&& Reg.FW_STGADDR.take)
  if Word.field w 0 16 == 0 && c.id.norPresent then
    { c with fw := { c.fw with erasing := true, eraseB := c.fw.inactive, staging := true } }
  else c

/-- STAGING_ERASE_DONE (R306, R311): every byte of the bank whose erase began reads 0xFF; a bank that has become
active is not erased. -/
def execStagingEraseDone (s : State) : Host.Outcome State Fault Refusal :=
  s.run fun c =>
    if c.fw.erasing then
      let lo := bankBase c.fw.eraseB
      let c := { c with fw := { c.fw with erasing := false } }
      if c.fw.eraseB == c.fw.inactive then
        { c with fw := { c.fw with nor := c.fw.nor.filter fun e => !(lo ≤ e.1 && e.1 < lo + 0x40000) } }
      else c
    else c

/-- The bytes of a word, lowest first. -/
def wordBytes (w : Word) : List (BitVec 8) :=
  (List.range 4).map fun k => BitVec.ofNat 8 (w.toNat >>> (8 * k))

/-- A discarded staging write. -/
def Chip.stgErr (c : Chip) : Chip := c.report Event.FW_STG_ERR

/-- FW_STGADDR moves on with AUTOINC. -/
def Chip.stgNext (c : Chip) (m : Master) : Chip :=
  let a := c.regOf m Reg.FW_STGADDR
  if Word.bit a 31 then
    c.setRegOf m Reg.FW_STGADDR (Word.merge a (fld (Word.field a 0 16 + 1) 16 0) 0xFFFF)
  else c

/-- A write of FW_STGDATA. -/
def Chip.stgData (c : Chip) (m : Master) (w : Word) : Chip :=
  let a := 4 * Word.field (c.regOf m Reg.FW_STGADDR) 0 16
  let bytes := (wordBytes w).zipIdx
  if c.id.norPresent then
    if c.fw.erasing || 1024 < c.fw.buffer.length + 4 then c.stgErr
    else
      let lo := bankBase c.fw.inactive + a
      ({ c with fw := { c.fw with
        staging := true, buffer := c.fw.buffer ++ bytes.map fun (p : BitVec 8 × Nat) => (lo + p.2, p.1) } }).stgNext m
  else if c.fw.hostHeld then
    ({ c with fw := { c.fw with
      sram := bytes.foldl (fun s (p : BitVec 8 × Nat) => SMap.put s (a + p.2) 0 p.1) c.fw.sram } }).stgNext m
  else c.stgErr

/-- A NOR address lies in the inactive bank, which alone the Guard erases and programs (R306). -/
def FwState.mayProgram (f : FwState) (a : Nat) : Bool :=
  decide (bankBase f.inactive ≤ a ∧ a < bankBase f.inactive + 0x40000)

/-- STAGING_PROGRAM (R306, R311): the oldest bytes of the buffer have been programmed; those for a bank that has become
active are discarded. -/
def execStagingProgram (n : BitVec 11) (s : State) : Host.Outcome State Fault Refusal :=
  s.run fun c =>
    let done := c.fw.buffer.take n.toNat
    let good := done.filter fun p => c.fw.mayProgram p.1
    let d := { c with fw := { c.fw with
      buffer := c.fw.buffer.drop n.toNat
      nor := good.foldl (fun m p => SMap.put m p.1 0xFF p.2) c.fw.nor } }
    if good.length < done.length then d.stgErr else d

/-- FW_CMD.VERIFY: the inactive bank is checked, and its status set. Whether this read of the NOR meets an error
is a free value (log entry 38). -/
def Chip.fwVerify (c : Chip) : Chip :=
  if !c.id.norPresent then c
  else
    let b := c.fw.inactive
    let f := c.takeFree
    let v := f.2.imgVerdict (some b) (Word.bit f.1 0)
    let c := v.2.bankStatus b v.1
    let c := { c with fw := { c.fw with
      staging := false, spoiled := if c.fw.spoiled == some b then none else c.fw.spoiled } }
    match v.1 with
    | none => c
    | some rsn => c.imgBad rsn

/-! ### FW_CMD (R311 to R316) -/

/-- HOLD: the host port holds the controller in reset. -/
def Chip.fwHold (c : Chip) : Chip :=
  let c := c.ctlReset
  { c with fw := { c.fw with hostHeld := true } }

/-- RELEASE: a held controller boots again; without a NOR the SRAM's image is verified. -/
def Chip.fwRelease (c : Chip) : Chip :=
  if !(c.fw.held || c.fw.hostHeld) then c
  else
    let c := { c with fw := { c.fw with held := false, hostHeld := false } }
    let c := c.boot
    if c.id.norPresent then c else { c with fw := { c.fw with fromSram := true } }

/-- SWITCH: ignored during a trial. -/
def Chip.fwSwitch (c : Chip) : Chip :=
  if c.fw.trial then c
  else ({ c with fw := { c.fw with swReq := true } }).note Event.FW_SWREQ

/-- The handover (R314): FW_HOB is protected, the trial begins, and the other bank boots. There is no other
bank without a NOR. -/
def Chip.fwHandover (c : Chip) : Chip :=
  if c.fw.trial || !c.id.norPresent then c
  else
    let c := c.ctlReset
    let c := { c with fw := { c.fw with prot := true, trial := true, bankB := !c.fw.bankB, swReq := false } }
    (c.report Event.FW_HANDOVER).boot

/-- COMMIT: taken only during a trial. -/
def Chip.fwCommit (c : Chip) : Chip :=
  if c.fw.trial then
    { c with fw := { c.fw with
      trial := false, prot := false, bootRec := some c.fw.bankB, bootMs := some c.bootMs } }
  else c

/-- A write of FW_CMD: each bit with the rights of R48, one in order after the other. COMMIT is taken during a trial,
HANDOVER and SWITCH outside one, as the write finds it: no write does both (R316). -/
def Chip.fwCmd (c : Chip) (m : Master) (w : Word) : Chip :=
  let trial := c.fw.trial
  let bad := (m != .host && (Word.bit w 4 || Word.bit w 5)) || (m != .firmware && (Word.bit w 2 || Word.bit w 3))
  let c := if bad then c.accRights m Reg.FW_CMD.addr w else c
  let c := if Word.bit w 3 && m == .firmware then c.fwCommit else c
  let c := if Word.bit w 0 then c.fwVerify else c
  let c := if Word.bit w 1 && !trial then c.fwSwitch else c
  let c := if Word.bit w 2 && m == .firmware && !trial then c.fwHandover else c
  let c := if Word.bit w 4 && m == .host then c.fwHold else c
  if Word.bit w 5 && m == .host then c.fwRelease else c

/-- SWREQ_TMO (R314): no HANDOVER within HOTMO of SWITCH; the Guard hands over with no block. -/
def execSwreqTmo (s : State) : Host.Outcome State Fault Refusal :=
  s.run fun c =>
    if c.fw.swReq && !c.fw.trial then
      let c := { c with fw := { c.fw with swReq := false } }
      let c := (c.report Event.FW_SWREQ_TMO).setReg Reg.FW_HOBSTAT 0
      c.fwHandover
    else c

/-- TRIAL_TIMEOUT (R315): no COMMIT within 500 ms. -/
def execTrialTimeout (s : State) : Host.Outcome State Fault Refusal :=
  s.run fun c => if c.fw.trial then c.revert 7 else c

/-! ### Watchdog (R312) -/

/-- GD_WDKICK from controller firmware. -/
def Chip.wdKick (c : Chip) : Chip := { c with gd := { c.gd with kickAt := c.tk.frc } }

/-- The controller domain is reset and the active bank boots again; a trial reverts (R312, R315). -/
def Chip.ctlRestart (c : Chip) : Chip := if c.fw.trial then c.revert 8 else c.ctlReset.boot

/-- WATCHDOG_EXPIRY (R312, R315). -/
def execWatchdogExpiry (s : State) : Host.Outcome State Fault Refusal :=
  s.run fun c =>
    if !c.gd.wdRun then c
    else
      let c := c.report Event.GD_WDOG
      let c := { c with gd := { c.gd with expiries := satNat 8 (c.gd.expiries + 1) } }
      let c := c.ctlRestart
      if Word.field (c.reg Reg.GD_WDCFG) 16 4 ≤ c.gd.expiries then
        let c := c.ctlReset
        { c with fw := { c.fw with held := true } }
      else c

/-- EXPIRY_CLEAR (R312): 60 s without an expiry; the Guard, in the AON domain, times it from ACLK while TCLK is
absent (R36). -/
def execExpiryClear (s : State) : Host.Outcome State Fault Refusal :=
  s.apply fun c => { c with gd := { c.gd with expiries := 0 } }

/-- SRAM_PAR (R312): a parity error resets the controller as an expiry does. -/
def execSramPar (s : State) : Host.Outcome State Fault Refusal :=
  s.run fun c => if c.fw.running then (c.report Event.FW_SRAM_PAR).ctlRestart else c

/-- DEBUG_RESET (R364): the controller domain alone is reset, core and SRAM; it boots again but where it is held, or
has no image to boot (log entry 33). -/
def execDebugReset (s : State) : Host.Outcome State Fault Refusal :=
  s.run fun c => if c.fw.held || c.fw.hostHeld || c.fw.noImage then c.ctlReset else c.ctlReset.boot

/-- A NOR address that only the Guard erases and programs (R306). -/
def guardOnly (a : Nat) : Bool := decide (a < 0x080000) || decide (0x0FF000 ≤ a ∧ a < 0x100000)

/-- NVM_PROT (R306): a NOR command of controller firmware touches a Guard-only range. It names no register
and no bound: those parameters are free (log entry 30). -/
def execNvmProt (addr : BitVec 24) (s : State) : Host.Outcome State Fault Refusal :=
  s.run fun c =>
    if c.fw.running && c.id.norPresent && guardOnly addr.toNat then
      let a := c.takeFree
      let b := a.2.takeFree
      b.2.guardRefuse Event.GD_NVM_PROT .firmware (a.1.toNat % 2 ^ 18) (BitVec.ofNat 32 addr.toNat) b.1
    else c

end Sys2Proof.Machine
end

