-- ==== Sys2Proof/Machine/Servo.lean ====
section
/-!
DEFINITION. Machine/Servo.lean: the servo (R132 to R144): channels, delay qualification, the states and
their transitions, channel switch and build-out, holdover; and the selection of references at a crown
(R145 to R147, R150).
-/

namespace Sys2Proof.Machine

/-! ### Channels -/

/-- The Lyspen is the crown of its plane: in CROWN, or in CONFLICT, where it keeps its own crown (R117). -/
def Chip.crownOn (c : Chip) : Bool := c.id.hub && (c.tr.mode == .crown || c.tr.mode == .conflict)

def Chip.ch (c : Chip) (k : Nat) : SvChan := if k = 0 then c.sv.ch0 else c.sv.ch1
def Chip.modCh (c : Chip) (k : Nat) (f : SvChan → SvChan) : Chip :=
  if k = 0 then { c with sv := { c.sv with ch0 := f c.sv.ch0 } }
  else { c with sv := { c.sv with ch1 := f c.sv.ch1 } }

/-- The port of a channel: planes A and B of a die, ports 64 and 65 of a hub. -/
def Chip.chPort (c : Chip) (k : Nat) : Nat := if c.id.hub then 64 + k else k

/-- The channel that an upstream port serves. -/
def Chip.portCh (c : Chip) (p : Nat) : Option Nat :=
  if c.id.hub then (if 64 ≤ p ∧ p < 66 then some (p - 64) else none) else if p < 2 then some p else none

/-! ### Windows -/

def Chip.svLwin (c : Chip) : Nat := Word.field (c.reg Reg.SV_LWIN) 0 16
/-- SV_UWIN; below SV_LWIN it is taken as SV_LWIN. -/
def Chip.svUwin (c : Chip) : Nat := max (Word.field (c.reg Reg.SV_UWIN) 0 16) c.svLwin

/-- An offset in units of 2^-32 ns lies within a window in ps. -/
def within (x : Int) (ps : Nat) : Bool := decide (x.natAbs * 1000 ≤ ps * 2 ^ 32)

/-- A distance in 1/64 tick, 9.765625 ps each, lies within a window in ps. -/
def unitsWithin (d : Nat) (ps : Nat) : Bool := decide (d * 9765625 ≤ ps * 1000000)

/-! ### References as the servo sees them (R145) -/

def Chip.ref (c : Chip) (r : Nat) : RefState := SMap.find c.rf.refs r .reset
def Chip.modRef (c : Chip) (r : Nat) (f : RefState → RefState) : Chip :=
  { c with rf := { c.rf with refs := SMap.put c.rf.refs r .reset (f (c.ref r)) } }

def Chip.refCfg (c : Chip) (r : Nat) : Word := c.reg Reg.RF_RCFG r
def Chip.refOn (c : Chip) (r : Nat) : Bool := Word.bit (c.refCfg r) 31 && !(c.ref r).refused
def Chip.refType (c : Chip) (r : Nat) : Nat := Word.field (c.refCfg r) 16 4
def Chip.refSrc (c : Chip) (r : Nat) : Nat := Word.field (c.refCfg r) 8 8
def Chip.refPrio (c : Chip) (r : Nat) : Nat := Word.field (c.refCfg r) 24 3

/-- Types that carry time, and types that carry frequency. -/
def timeType (t : Nat) : Bool := t == 1 || t == 4 || t == 6
def freqType (t : Nat) : Bool := t == 2 || t == 3 || t == 5 || t == 6 || t == 7

/-- The signal of a reference is present; that of a peer crown while its lane is TQUAL. -/
def Chip.refSignal (c : Chip) (r : Nat) : Bool :=
  if c.refType r = 6 then (c.port 65).tqual else (c.ref r).signal

/-- RF_CFG.LOCAL_OK. -/
def Chip.localOk (c : Chip) : Bool := Word.bit (c.reg Reg.RF_CFG) 30

/-- A time-capable reference is qualified (R138). -/
def Chip.timeRefQualified (c : Chip) : Bool :=
  (List.range 8).any fun r => c.refOn r && timeType (c.refType r) && (c.ref r).qualified

/-- The reference that a channel of a crown carries (R133, R135). -/
def Chip.chRef (c : Chip) (k : Nat) : Option Nat := if k = 0 then c.rf.selected else c.rf.standby

/-! ### Good channels (R135) -/

/-- A channel is good (R135). Channel 1 of a crown, which carries the standby reference, is never good (DESIGN CHOICE,
log entry 16: the rule speaks of channel 0 alone). -/
def Chip.good (c : Chip) (k : Nat) : Bool :=
  if c.crownOn then
    k == 0 && (match c.rf.selected with
      | some r => (c.ref r).qualified
      | none => false)
  else
    let p := c.chPort k
    let x := c.ch k
    c.isUp p && !(c.port p).peerCrown && (c.port p).tqual && x.offValid && x.pvalid && x.psv == 2

def Chip.anyGood (c : Chip) : Bool := c.good 0 || c.good 1

/-- A parent in reach reports HOLD_EXPIRED; a peer-crown lane leads to a reference and no parent (R19). -/
def Chip.parentExpired (c : Chip) : Bool :=
  !c.crownOn && [0, 1].any fun k =>
    c.isUp (c.chPort k) && !(c.port (c.chPort k)).peerCrown && (c.ch k).psv == 4

/-! ### PLL (R140) -/

/-- The PLL input and its reference (SV_PLLSEL): at a crown the frequency source, elsewhere the lane of the
active channel while it is UP. -/
def Chip.pllChoice (c : Chip) : Nat × Nat :=
  if c.crownOn then
    match c.rf.fsrc with
    | some r => (3, r)
    | none => (0, 0)
  else
    let p := c.chPort c.sv.chan
    if c.isUp p && !(c.port p).peerCrown then (1 + c.sv.chan, 0) else (0, 0)

/-- SV_STAT.FREQ_LOCKED. -/
def Chip.freqLocked (c : Chip) : Bool :=
  if c.pllChoice.1 = 0 then c.crownOn && c.localOk else c.sv.freqLocked

/-- SV_STAT.PHASE_OK: the active channel's SV_OFFSET, which a short window keeps; it reads 0 until an offset
has been measured (log entry 34). -/
def Chip.phaseOk (c : Chip) : Bool :=
  (c.ch c.sv.chan).offKnown && within (c.ch c.sv.chan).offset c.svLwin

/-- FREQ_LOCKED has lasted one second at some time since AON power-on (R140, R151). -/
def Chip.dcoKnown (c : Chip) : Bool :=
  c.sv.dcoLearnt || (match c.sv.flockAt with
    | some f => decide (f + 1600000000 ≤ c.tk.frc)
    | none => false)

/-- The phase detector's lock on the PLL input goes (R140). -/
def Chip.flockEnd (c : Chip) : Chip :=
  { c with sv := { c.sv with freqLocked := false, flockAt := none, dcoLearnt := c.dcoKnown } }

/-- The PLL has lost its input: the DCO holds the mean word of the last second, which no rule gives a value
(log entry 3), or the fused trim if no second of lock has passed (R140). -/
def Chip.dcoHold (c : Chip) : Chip :=
  if c.dcoKnown then
    let f := c.takeFree
    { f.2 with sv := { f.2.sv with dco := f.1.toNat % 2 ^ 24 } }
  else { c with sv := { c.sv with dco := c.id.dcoTrim } }

/-- The PLL takes a new input: its phase build-out is measured. Where the input goes away the DCO holds, and
the lock is lost; that loss is reported, unless the DCO is a crown's chosen source (R140, R141; log entry 3). A crown
LOCKED on the DCO with LOCAL_OK that gains a frequency source stays LOCKED and reports no loss while the PLL locks to
it (DESIGN CHOICE, log entry 16: what R137 calls a loss is one of a lock that a PLL input gave). -/
def Chip.pllFollow (c : Chip) : Chip :=
  let n := c.pllChoice
  if n = (c.sv.pllIn, c.sv.pllRef) then c
  else
    let lost := n.1 == 0 && c.sv.freqLocked && !(c.crownOn && c.localOk)
    let f := c.takeFree
    let pbo := if n.1 != 0 && c.sv.pllIn != 0 then f.1 else c.sv.pbo
    let c := if n.1 != 0 && c.sv.pllIn != 0 then f.2 else c
    let c := if n.1 == 0 then c.dcoHold.flockEnd else c
    let c := { c with sv := { c.sv with pllIn := n.1, pllRef := n.2, pbo := pbo } }
    if lost then c.report Event.SV_FLOCK_LOST else c

/-! ### States (R137) -/

def svEntry : SvMode → Ev
  | .freerun => Event.SV_TO_FREERUN
  | .acquire => Event.SV_TO_ACQUIRE
  | .locked => Event.SV_TO_LOCKED
  | .holdover => Event.SV_TO_HOLDOVER
  | .holdExpired => Event.SV_TO_EXPIRED

/-- Requalification begins: the probe counts of both channels restart, and the offset window under way does not
count (R301). -/
def Chip.requalify (c : Chip) : Chip :=
  let c := [0, 1].foldl (fun c k =>
    c.modPort (c.chPort k) fun x => { x with qual := { x.qual with qcount := 0 } }) c
  { c with sv := { c.sv with requal := true, crownWins := 0, winOld := true } }

/-- What entering LOCKED ends: requalification, slow start, and the time to the first lock (R301, R123). -/
def Chip.lockedIn (c : Chip) : Chip :=
  let tlock := match c.tr.tlock, c.tr.discoverFrc with
    | none, some f => some (satNat 32 ((c.tk.frc - f) / 1600))
    | t, _ => t
  { c with
    sv := { c.sv with requal := false, crownWins := 0, winOld := false }
    tr := { c.tr with tlock := tlock, startSlow := false } }

/-- The servo enters a state for a reason: counted, flagged and recorded. The state at the start of the tick
stands for what is tested in it (R23). Strict courses in flight lose DET while the state gives no strict
authority (R291). -/
def Chip.setSvMode (c : Chip) (m : SvMode) (reason : Nat) : Chip :=
  if c.sv.mode = m then c
  else
    let c := c.servoSweep
    let start := c.startMode
    let c := { c with sv := { c.sv with
      mode := m, tickStart := some (c.tk.frc, start)
      stepFrom := if m == SvMode.freerun then none else c.sv.stepFrom
      hoTimer := if m == SvMode.holdover then c.sv.hoTimer else none
      horeadyFlag := c.sv.horeadyFlag && m != SvMode.freerun } }
    let c := c.report (svEntry m)
      { p1 := some (BitVec.ofNat 32 reason), p2 := some (BitVec.ofNat 32 c.sv.chan) }
    let c := if m == .locked then c.lockedIn else c
    let c := if m == .acquire && reason == 3 then c.requalify else c
    c.servoSweep

/-! ### Holdover (R143, R144) -/

/-- H in µs: the smaller of SV_HOMAX and (B − |x_e|) / Y. -/
def Chip.holdoverTime (c : Chip) : Nat :=
  let b := Word.field (c.reg Reg.SV_HOBUDGET) 0 16
  let y := max 10 (Word.field (c.reg Reg.SV_HOYRES) 0 16)
  let cap := min 1000000 (Word.field (c.reg Reg.SV_HOMAX) 0 20)
  min cap ((b * 2 ^ 32 - c.sv.xe.natAbs * 1000) * 10000 / (y * 2 ^ 32))

/-- µs left on the holdover timer (SV_HOTIMER). -/
def Chip.hoLeft (c : Chip) : Nat :=
  match c.sv.hoTimer with
  | some (f, h) => h - c.usSinceFrc f
  | none => 0

/-- LOCKED is left for want of a good channel (R137, R143). -/
def Chip.loseLock (c : Chip) : Chip :=
  let h := c.holdoverTime
  if c.sv.horeadyFlag && !c.parentExpired && 0 < h then
    ({ c with sv := { c.sv with hoTimer := some (c.tk.frc, h) } }).setSvMode .holdover 5
  else c.setSvMode .holdExpired 6

/-! ### Channel switch and build-out (R141, R142) -/

/-- An offset in the unit of the build-outs. -/
def boUnit (x : Int) : Int := x * 1000000000

/-- The active channel changes: the build-out takes the difference of the filtered offsets, and the servo
state stays. -/
def Chip.svSwitchTo (c : Chip) (k : Nat) : Chip :=
  if c.sv.chan = k then c
  else
    let d := (c.ch k).offset - (c.ch c.sv.chan).offset
    let c := { c with sv := { c.sv with chan := k, bo := c.sv.bo + boUnit d } }
    c.pllFollow.report Event.SV_CH_SWITCH { p1 := some (BitVec.ofNat 32 k) }

/-- A build-out moved towards 0 by a slew. -/
def boDecay (bo : Int) (slew : Nat) : Int := if 0 < bo then max 0 (bo - slew) else min 0 (bo + slew)

/-- RF_BOSLEW in ps/s; above 1,000 it is taken as 1,000. -/
def Chip.boSlew (c : Chip) : Nat := min 1000 (Word.field (c.reg Reg.RF_BOSLEW) 0 16)

/-- One µs of build-out decay (R142): 1 ns/ms at a die or hub, RF_BOSLEW at a crown with BO_REMOVE. -/
def Chip.boTick (c : Chip) : Chip :=
  let c := { c with sv := { c.sv with bo := boDecay c.sv.bo (1000000 * 2 ^ 32) } }
  if c.crownOn && Word.bit (c.reg Reg.RF_CFG) 29 then
    { c with rf := { c.rf with bo := boDecay c.rf.bo (c.boSlew * 2 ^ 32) } }
  else c

/-! ### The state machine -/

/-- x_e: the last valid SV_OFFSET of the last good channel. -/
def Chip.svNoteGood (c : Chip) : Chip :=
  if c.good c.sv.chan then { c with sv := { c.sv with xe := (c.ch c.sv.chan).offset } }
  else if c.good (1 - c.sv.chan) then { c with sv := { c.sv with xe := (c.ch (1 - c.sv.chan)).offset } }
  else c

/-- The active channel is left for a good one when it is not good itself (R141). -/
def Chip.svAutoSwitch (c : Chip) : Chip :=
  if !c.crownOn && !(c.good c.sv.chan) && c.good (1 - c.sv.chan) then c.svSwitchTo (1 - c.sv.chan) else c

/-- The conditions of R22 and R138 for LOCKED from ACQUIRE, with the requalification of R301. -/
def Chip.mayLock (c : Chip) : Bool :=
  if c.crownOn then
    c.tk.valid && c.freqLocked && ((c.good 0 && c.phaseOk) || (!c.timeRefQualified && c.localOk))
      && (!c.sv.requal || 64 ≤ c.sv.crownWins)
  else
    c.good c.sv.chan && c.phaseOk
      && (!c.sv.requal || 64 ≤ (c.port (c.chPort c.sv.chan)).qual.qcount)

/-- A good channel lies within the lock window. At a crown this lets one that left LOCKED for want of a frequency source
return at the next evaluation while channel 0 is still good (DESIGN CHOICE, log entry 16: R137 and R138 ask no more). -/
def Chip.goodInside (c : Chip) : Bool := [0, 1].any fun k => c.good k && within (c.ch k).offset c.svLwin

/-- LOCKED has lost what holds it: every good channel, or at a crown its frequency source with no local
oscillator allowed (R137, R138). -/
def Chip.lockGone (c : Chip) : Bool :=
  if c.crownOn then c.rf.fsrc.isNone && !c.localOk else !c.anyGood

/-- One transition of R137, where a condition holds. -/
def Chip.svMove (c : Chip) : Chip :=
  match c.sv.mode with
  | .freerun => c
  | .acquire => if c.mayLock then c.setSvMode .locked 2 else c
  | .locked =>
    if !(within (c.ch c.sv.chan).offset c.svUwin) then c.setSvMode .acquire 4
    else if c.lockGone then c.loseLock
    else c
  | .holdover =>
    if c.goodInside then c.setSvMode .locked 2
    else if !c.anyGood && c.parentExpired then c.setSvMode .holdExpired 7
    else c
  | .holdExpired => if c.goodInside then c.setSvMode .locked 2 else c

/-- The servo judges its channels and its state. -/
def Chip.servoEval (c : Chip) : Chip :=
  if c.tk.valid then c.svAutoSwitch.pllFollow.svNoteGood.svMove
  else c.svAutoSwitch.pllFollow.svNoteGood.setSvMode .freerun 8

/-! ### Offset samples and windows (R133) -/

/-- A channel's SV_OFFRAW takes a sample (R133, R353). -/
def Chip.rawSample (c : Chip) (k : Nat) (x : Int) : Chip :=
  (c.modCh k fun y => { y with offRaw := x }).sample 0x03 k (divRound x unit64)

/-- A sample enters a channel's window and SV_OFFRAW. At a crown only the samples of the peer-crown lane count, and
they belong to the channels that carry that reference (R19, R133, R145). -/
def Chip.svSample (c : Chip) (k : Nat) (x : Int) : Chip :=
  if c.crownOn && !(c.port (c.chPort k)).peerCrown then c
  else if c.crownOn then
    let peer (k : Nat) : Bool := match c.chRef k with
      | some r => c.refType r == 6
      | none => false
    let c := { c with sv := { c.sv with peerWin := (x :: c.sv.peerWin).take 64 } }
    ([0, 1].filter peer).foldl (fun c k => c.rawSample k x) c
  else (c.modCh k fun y => { y with window := (x :: y.window).take 64 }).rawSample k x

/-- The mean of a window, to the nearest unit. -/
def meanOf (l : List Int) : Int := divRound (l.foldl (· + ·) 0) (max 1 l.length)

/-- The filtered offset of Lyspen time to a reference: that of its lane's offset window at a peer crown, else
the measured phase (R133, R145). -/
def Chip.refTime (c : Chip) (r : Nat) : Int :=
  if c.refType r = 6 then c.sv.peerOff else signedOf 64 (c.ref r).phase.toNat * unit64

/-- The filtered offset of a crown's channel: the servo error of R142 against its reference; none where the
window of the peer-crown lane was short (R133; log entry 34). -/
def Chip.crownOffset (c : Chip) (k : Nat) : Option Int :=
  match c.chRef k with
  | none => none
  | some r =>
    if !(c.ref r).qualified || (c.refType r == 6 && !c.sv.peerOk) then none
    else some (c.refTime r - divRound c.rf.bo 1000000000)

/-- A channel's window ends; fewer than 32 samples keep SV_OFFSET. -/
def Chip.windowClose (c : Chip) (k : Nat) : Chip :=
  if c.crownOn then
    match c.crownOffset k with
    | some x =>
      let c := c.modCh k fun y => { y with offset := x, offValid := true, offKnown := true }
      match c.chRef k with
      | some r => if c.refType r = 6 then c else c.rawSample k x
      | none => c
    | none => c.modCh k fun y => { y with offValid := false }
  else
    c.modCh k fun y =>
      if y.window.length < 32 then { y with window := [], offValid := false }
      else { y with window := [], offset := meanOf y.window, offValid := true, offKnown := true }

/-- The window of the peer-crown lane ends (R133); what RF_RFREQ and RF_RWANDER of its reference then show is a
free value, but for the PLL input (R146; log entry 35). -/
def Chip.peerWindow (c : Chip) : Chip :=
  let w := c.sv.peerWin
  let c := { c with sv := { c.sv with
    peerWin := [], peerOff := if w.length < 32 then c.sv.peerOff else meanOf w, peerOk := decide (32 ≤ w.length) } }
  ((List.range 8).filter fun r => c.refOn r && c.refType r == 6 && w != []).foldl (fun c r =>
    let f := c.takeFree
    let g := f.2.takeFree
    let own := c.pllChoice == (3, r)
    g.2.modRef r fun x => { x with freq := if own then 0 else f.1, wander := g.1 }) c

/-- SV_ABDIFF in units of 2^-32 ns. -/
def Chip.abDiff (c : Chip) : Option Int :=
  if c.sv.ch0.offValid && c.sv.ch1.offValid then some (c.sv.ch0.offset - c.sv.ch1.offset) else none

/-- The end of an offset window: both channels, the A–B difference, and a crown's count of windows. -/
def Chip.windowEnd (c : Chip) : Chip :=
  let c := if c.crownOn then c.peerWindow else c
  let c := (c.windowClose 0).windowClose 1
  let c := match c.abDiff with
    | some d => c.sample 0x04 0 (divRound d unit64)
    | none => c
  if c.sv.winOld then { c with sv := { c.sv with winOld := false } }
  else if c.crownOn && c.sv.requal then
    { c with sv := { c.sv with crownWins := if c.phaseOk then min 64 (c.sv.crownWins + 1) else 0 } }
  else c

/-! ### Delay qualification (R134, R102) -/

def Chip.modQual (c : Chip) (p : Nat) (f : PortQual → PortQual) : Chip :=
  c.modPort p fun x => { x with qual := f x.qual }

/-- LN_PSTAT.TQUAL follows what it needs (R102). -/
def Chip.tqualEval (c : Chip) (p : Nat) : Chip :=
  c.modPort p fun x => { x with tqual := x.mode == .up && x.qual.ok && x.pmaLatOk && x.freqOk }

/-- Qualification starts again; SV_MPDREF stays. -/
def Chip.qualRestart (c : Chip) (p : Nat) : Chip :=
  (c.modQual p fun q => { q with qcount := 0, outCount := 0, ok := false }).tqualEval p

/-- SV_MPDREF is discarded. -/
def Chip.mpdForget (c : Chip) (p : Nat) : Chip :=
  (c.modQual p fun q => { q with mpdRef := 0, learnt := false, hist := [] }).qualRestart p

/-- The spread of a list of delays. -/
def spreadOf (l : List Int) : Nat :=
  match l with
  | [] => 0
  | a :: r => ((r.foldl max a) - (r.foldl min a)).toNat

/-- A probe while SV_MPDREF is being learnt. -/
def Chip.probeLearn (c : Chip) (p : Nat) (mpd : Int) : Chip :=
  if !c.freqLocked then c.modQual p fun q => { q with hist := [] }
  else
    let h := mpd :: (c.port p).qual.hist
    if h.length < 4096 then c.modQual p fun q => { q with hist := h }
    else if unitsWithin (spreadOf h) (Word.field (c.reg Reg.SV_QWIN) 16 16) then
      c.modQual p fun q => { q with hist := [], mpdRef := meanOf h, learnt := true }
    else (c.modQual p fun q => { q with hist := [] }).report Event.SV_QSPREAD

/-- A probe accepted within the window: it counts, and enters the mean that SV_MPDREF tracks once the lane is
qualified. -/
def PortQual.inside (q : PortQual) (mpd : Int) : PortQual :=
  let n := min 64 (q.qcount + 1)
  let ok := q.ok || n == 64
  let h := (mpd :: q.hist).take 4096
  { q with qcount := n, outCount := 0, ok := ok, hist := h, mpdRef := if q.ok then meanOf h else q.mpdRef }

/-- A completed probe is judged (R134). -/
def Chip.probeJudge (c : Chip) (p : Nat) (mpd : Int) : Chip :=
  let q := (c.port p).qual
  if !q.learnt then c.probeLearn p mpd
  else if unitsWithin (mpd - q.mpdRef).natAbs (Word.field (c.reg Reg.SV_QWIN) 0 16) then
    (c.modQual p fun q => q.inside mpd).tqualEval p
  else if 3 ≤ q.outCount then
    let c := c.qualRestart p
    if q.ok then c.report Event.SV_QUAL_LOST else c
  else c.modQual p fun q => { q with qcount := 0, outCount := q.outCount + 1 }

/-! ### Selection of references (R146, R147) -/

/-- The better of two references: the lower priority number, then the lower index. -/
def Chip.betterRef (c : Chip) (best : Option Nat) (r : Nat) : Option Nat :=
  match best with
  | none => some r
  | some b => if c.refPrio r < c.refPrio b then some r else some b

/-- The best eligible reference that a test takes. -/
def Chip.bestRef (c : Chip) (take : Nat → Bool) : Option Nat :=
  ((List.range 8).filter fun r => c.refOn r && (c.ref r).eligible && take r).foldl c.betterRef none

def Chip.timeCapable (c : Chip) (r : Nat) : Bool := timeType (c.refType r)
def Chip.freqCapable (c : Chip) (r : Nat) : Bool := freqType (c.refType r)

/-- The reference forced by RF_FORCE, while it is qualified and carries time. -/
def Chip.forcedRef (c : Chip) : Option Nat :=
  let w := c.reg Reg.RF_FORCE
  let r := Word.field w 0 3
  if Word.bit w 31 && c.refOn r && c.timeCapable r && (c.ref r).qualified then some r else none

/-- The reference that R147 selects. -/
def Chip.selectRef (c : Chip) : Option Nat :=
  match c.forcedRef with
  | some r => some r
  | none =>
    let best := c.bestRef c.timeCapable
    if Word.bit (c.reg Reg.RF_CFG) 31 then best
    else
      match c.rf.selected with
      | some r => if c.refOn r && c.timeCapable r && (c.ref r).eligible then some r else best
      | none => best

/-- The offset of Lyspen time to a reference, in the unit of the build-outs. -/
def Chip.refOffset (c : Chip) (r : Nat) : Int := boUnit (c.refTime r)

/-- Hardware selects the references; each change is reported, and a crown's input is built out (R142). The
selection feeds nothing elsewhere. Where there was no input, the old offset is that of the last one, so that
time does not move (log entry 35); where a write has changed the selected entry, it is the offset it had (R142). A
change of the frequency source or of the standby alone is a REF_SW too, and one made together with a change of the
selected reference is part of that switch (DESIGN CHOICE, log entry 18: R147 says "each change"). -/
def Chip.rfEval (c : Chip) : Chip :=
  if !c.id.hub then c
  else
    let sel := c.selectRef
    let stby := c.bestRef fun r => c.timeCapable r && sel != some r
    let fsrc := match sel with
      | some r => if c.freqCapable r then some r else c.bestRef c.freqCapable
      | none => c.bestRef c.freqCapable
    let old := c.rf
    let none_ := (c.bestRef c.timeCapable).isNone
    let lost := none_ && !old.holdover
    let offOld := match old.oldOff, old.selected with
      | some x, _ => x
      | none, some o => c.refOffset o
      | none, none => old.lastOff
    let bo := match sel with
      | some n => if old.selected != some n && c.crownOn then old.bo + (c.refOffset n - offOld) else old.bo
      | none => old.bo
    let c := { c with rf := { c.rf with
      selected := sel, standby := stby, fsrc := fsrc, forced := c.forcedRef.isSome, bo := bo, lastOff := offOld, oldOff := none
      holdover := lost || (old.holdover && none_)
      hoStart := if lost then some c.tk.frc else if none_ then old.hoStart else none
      hoTraceDone := old.hoTraceDone && none_ && !lost } }
    let pick : Option (Option Nat × Option Nat) :=
      if sel != old.selected then some (sel, old.selected)
      else if fsrc != old.fsrc then some (fsrc, old.fsrc)
      else if stby != old.standby then some (stby, old.standby)
      else none
    let c := match pick with
      | some (n, o) =>
        c.report Event.RF_REF_SW
          { p1 := n.map (BitVec.ofNat 32), p2 := o.map (BitVec.ofNat 32), inst := n }
      | none => c
    if lost then
      c.report Event.RF_REF_NONE { p1 := old.selected.map (BitVec.ofNat 32), inst := old.selected }
    else c

/-- The first parameter of an RF record: the reference (R145). -/
def rfRep (r : Nat) : Rep := { p1 := some (BitVec.ofNat 32 r), inst := some r }

/-- A reference is disqualified: it must wait to restore once it qualifies again (R146). -/
def Chip.refDisq (c : Chip) (r : Nat) : Chip :=
  if (c.ref r).qualified then
    (c.modRef r fun x =>
      { x with qualified := false, eligible := false, wtrStart := none, wasDisq := true }).report
      Event.RF_REF_DISQ (rfRep r)
  else c

/-- A reference's signal is lost (R145, R146). -/
def Chip.refLoss (c : Chip) (r : Nat) : Chip := (c.modRef r fun x => { x with signal := false }).refDisq r

/-- RF_CFG.WTR in seconds. -/
def Chip.wtr (c : Chip) : Nat := min 3600 (Word.field (c.reg Reg.RF_CFG) 0 12)

/-- A reference qualifies (R146): eligible at once, unless it has been disqualified and must wait. -/
def Chip.refQualify (c : Chip) (r : Nat) : Chip :=
  let waits := (c.ref r).wasDisq && 0 < c.wtr
  (c.modRef r fun x =>
    { x with
      qualified := true, eligible := !waits, wasDisq := waits
      wtrStart := if waits then some c.tk.frc else none }).report Event.RF_REF_QUAL (rfRep r)

/-- A setting that R145 refuses, given the other references. -/
def Chip.refRefused (c : Chip) (r : Nat) (w : Word) : Bool :=
  let t := Word.field w 16 4
  let src := Word.field w 8 8
  let on (q : Nat) : Bool := q != r && c.refOn q
  let pinOf (t src : Nat) : Option Nat := if t == 4 || t == 6 then none else some (src / 16)
  t == 0 || 8 ≤ t || (t == 6 && (!c.id.planeB || src != 65))
    || (t == 4 && 2 ≤ ((List.range 8).filter fun q => on q && c.refType q == 4).length)
    || (List.range 8).any fun q => on q &&
        ((t == 4 && c.refType q == 4 && c.refSrc q % 64 == src % 64)
          || (c.refType q != 4 && (pinOf t src).isSome && pinOf t src == pinOf (c.refType q) (c.refSrc q)))

/-- A write of RF_RCFG (R145): an enabled entry that is refused is held disabled; a changed entry starts
afresh, and one that was qualified has been disqualified and must wait to restore (R146). -/
def Chip.refConfig (c : Chip) (r : Nat) (w : Word) : Chip :=
  let w := w &&& Reg.RF_RCFG.take
  let bad := Word.bit w 31 && c.refRefused r w
  let source (v : Word) : Nat := v.toNat % 2 ^ 20
  let fresh := source w != source (c.refCfg r) || !(Word.bit w 31) || bad
  let c := if fresh && c.rf.selected == some r then { c with rf := { c.rf with oldOff := some (c.refOffset r) } } else c
  let c := if fresh then c.refDisq r else c
  let c := if fresh then c.modRef r fun x => { RefState.reset with wasDisq := x.wasDisq } else c
  let c := c.setReg Reg.RF_RCFG w r
  let c := c.modRef r fun x => { x with refused := bad }
  if bad then c.report Event.RF_CFG_BAD (rfRep r) else c

/-- A soft reset of the RF page: its state machines start afresh. -/
def Chip.rfSoftReset (c : Chip) : Chip := { c with rf := .reset }

end Sys2Proof.Machine
end

