-- ==== Sys2Proof/Machine/Time.lean ====
section
/-!
DEFINITION. Machine/Time.lean: the passing of ticks, the anchor boundary with its step and RATE (R64 to R71),
staging and arming (R66 to R69), and the legacy time bases (R76, R77).
-/

namespace Sys2Proof.Machine

/-! ### Time bases (R76, R77) -/

def Chip.tbChan (c : Chip) (k : Nat) : TbChan := SMap.find c.tb.chans k .reset
def Chip.modTb (c : Chip) (k : Nat) (f : TbChan → TbChan) : Chip :=
  { c with tb := { c.tb with chans := SMap.put c.tb.chans k .reset (f (c.tbChan k)) } }

/-- TB_CTRL.MODE; the reserved code is OFF. -/
def Chip.tbMode (c : Chip) (k : Nat) : Nat := Word.field (c.reg Reg.TB_CTRL k) 0 2

/-- The increment of a channel on a tick, Q8.56. -/
def Chip.tbInc (c : Chip) (k : Nat) : Nat :=
  match c.tbMode k with
  | 1 => (c.reg Reg.TB_INC_HI k).toNat * 2 ^ 32 + (c.reg Reg.TB_INC_LO k).toNat
  | 2 => c.tk.rate
  | _ => 0

/-- The range of a time base with its 56 fractional bits. -/
def tbRange : Nat := 2 ^ 120

/-- What a channel holds after `n` ticks: a waiting load acts on the first of them, then a waiting
adjustment. A value carried below 0 or past the 96 bits wraps (DESIGN CHOICE, log entry 37: R76 and R77 state
no result there). -/
def TbChan.after (x : TbChan) (inc n : Nat) : TbChan :=
  if n = 0 then x
  else
    let first := match x.load with
      | some v => v * 2 ^ 24
      | none => x.value + inc
    let adj : Int := (x.adj.getD 0) * 2 ^ 24
    { x with
      value := (((first + (n - 1) * inc : Nat) + adj) % (tbRange : Nat)).toNat, load := none, adj := none }

/-- The four bases advance. -/
def Chip.tbElapse (c : Chip) (n : Nat) : Chip :=
  (List.range 4).foldl (fun c k => c.modTb k fun x => x.after (c.tbInc k) n) c

/-- A base in units of 2^-32 ns. -/
def TbChan.time (x : TbChan) : Nat := x.value / 2 ^ 24

/-- TB_CAPT.GO. -/
def Chip.tbCapture (c : Chip) : Chip :=
  let c := (List.range 4).foldl (fun c k => c.modTb k fun x => { x with cap := x.time }) c
  { c with tb := { c.tb with captT := c.now } }

/-- The three words of a banked 96-bit value, the top one as written. -/
def Chip.banked96 (c : Chip) (m : Master) (lo mid : RegRow) (k : Nat) (top : Word) : Nat :=
  top.toNat * 2 ^ 64 + (c.regOf m mid k).toNat * 2 ^ 32 + (c.regOf m lo k).toNat

/-- TB_LOAD_NSHI and TB_ADJ_NSHI. -/
def Chip.tbLoad (c : Chip) (m : Master) (k : Nat) (w : Word) : Chip :=
  let v := c.banked96 m Reg.TB_LOAD_FRAC Reg.TB_LOAD_NSLO k w
  c.modTb k fun x => { x with load := some v }

def Chip.tbAdjust (c : Chip) (m : Master) (k : Nat) (w : Word) : Chip :=
  let v := signedOf 96 (c.banked96 m Reg.TB_ADJ_FRAC Reg.TB_ADJ_NSLO k w)
  c.modTb k fun x => { x with adj := some (x.adj.getD 0 + v) }

/-! ### Ticks -/

/-- For how many of the next `n` ticks a pin source is high, where the part itself knows its level: trigger lines,
pulse outputs and IRQ outputs are the part's own. -/
def Chip.pinHigh (c : Chip) (src n : Nat) : Option Nat :=
  let all (b : Bool) : Nat := if b then n else 0
  if src < 0x400 then
    let x := c.line src
    let first := (x.rise + 63) / 64
    let last := match x.cycle with
      | some k => min (c.tk.frc + n) (first + k / 64)
      | none => c.tk.frc + n
    some (last - max c.tk.frc first)
  else if src < 0x408 then some (all (c.poHigh (src - 0x400)))
  else if 0x440 ≤ src ∧ src < 0x448 then some (all (c.irq (src - 0x440)))
  else none

/-- A pin counter in a level mode counts ticks; the level of an input pin between its edges is no command,
so the count is a free value up to the ticks that passed (log entry 3). -/
def Chip.levelTicks (c : Chip) (n k : Nat) : Chip :=
  let cfg := c.reg Reg.MN_PCFG k
  let mode := Word.field cfg 28 3
  if (mode = 4 ∨ mode = 5) ∧ !c.frozen then
    let r : Nat × Chip :=
      match c.pinHigh (Word.field cfg 0 16) n with
      | some h => (if mode = 4 then h else n - h, c)
      | none =>
        let f := c.takeFree
        (f.1.toNat % (n + 1), f.2)
    { r.2 with mn := { r.2.mn with pins := addCount r.2.mn.pins k r.1 } }
  else c

/-- What is counted in every LCLK cycle (R345): the cycles themselves, those of a thread in RUN in which it did not
issue, and those of a full pending buffer. -/
def Chip.cycleCounts (c : Chip) (n : Nat) : Chip :=
  let c := c.count 0x400 none n
  let c := (c.sq.threads.filter fun e => e.2.mode == .run).foldl
    (fun c e => c.count 0x441 (some e.1) (n - (if e.2.issued then 1 else 0))) c
  let c := if n = 0 then c else (c.sq.threads.filter fun e => e.2.issued).foldl
    (fun c e => c.modTh e.1 fun x => { x with issued := false }) c
  if c.gt.full then c.count 0x483 none n else c

/-- `n` TCLK ticks pass (R58); LCLK has one cycle in two ticks (R8). -/
def Chip.pass (c : Chip) (n : Nat) : Chip :=
  let f := c.tk.frc
  let c := if c.inReset then c else
    (List.range 16).foldl (fun c k => c.levelTicks n k) ((c.tbElapse n).cycleCounts ((f + n) / 2 - f / 2))
  { c with tk := { c.tk with frc := (f + n) % 2 ^ 64 } }

/-- What one LCLK cycle does for the operations and samples that wait: one of the shared port, and one of each
histogram unit (R247, R352). -/
def Chip.lclkCycle (c : Chip) : Chip := c.sharedCycle.hsCycle

/-- Time passes, cycle by cycle while an operation or a sample waits, or a level waits for its spacing: it is driven at
the tick that brings it (R188, R348). -/
def Chip.passWork (c : Chip) : Nat → Chip
  | 0 => c
  | n + 1 =>
    if c.inReset then c.pass (n + 1)
    else if c.sharedBusy || c.hsBusy || c.poHeld then
      let d := (c.pass 1).poAllEdges c
      (if d.tk.frc % 2 = 0 then d.lclkCycle else d).passWork n
    else
      let d := c.pass (n + 1)
      if (c.tk.frc + n + 1) / 2 = c.tk.frc / 2 then d else d.newCycle

/-- The tick after a boundary whose step was beyond the bound: the state becomes ACQUIRE, whatever it has become in
the boundary tick (R70, R71). What is tested in that tick meets ACQUIRE; the state until then stays known for a read of
the LCLK cycle (R72), and no longer. -/
def Chip.stepAcquire (c : Chip) : Chip :=
  match c.sv.stepFrom with
  | some (f, _) =>
    if c.tk.frc == (f + 1) % 2 ^ 64 then
      let c := c.setSvMode .acquire 3
      { c with sv := { c.sv with tickStart := none } }
    else { c with sv := { c.sv with stepFrom := none } }
  | none => c

/-- `n` TCLK ticks pass; a step's ACQUIRE comes at the first of them, and a course in flight at a tick without authority
loses its DET (R291). -/
def Chip.elapse (c : Chip) (n : Nat) : Chip :=
  let c := if c.sv.stepFrom.isSome && 0 < n then ((c.passWork 1).stepAcquire).passWork (n - 1) else c.passWork n
  if c.inReset then c else c.servoSweep

/-! ### Traceability (R61) -/

/-- UNTRACEABLE takes a value; a change is reported. -/
def Chip.traceSet (c : Chip) (b : Bool) : Chip :=
  if c.tk.untraceable = b then c
  else ({ c with tk := { c.tk with untraceable := b } }).report Event.TK_TRACE_CHG

/-- At a crown UNTRACEABLE is the inverse of TK_EPOCH.TRACEABLE; a plane-B crown on its peer-crown reference
mirrors the bit of that crown's TICK (R148). -/
def Chip.peerCrownRef (c : Chip) : Bool :=
  match c.rf.selected with
  | some r => c.refType r == 6
  | none => false

def Chip.crownTrace (c : Chip) : Chip :=
  if c.crownOn && !c.peerCrownRef then c.traceSet (!(Word.bit (c.reg Reg.TK_EPOCH) 0)) else c

/-! ### Staging and arming (R66 to R69) -/

/-- TK_RATE_HI; the answer is the KIND of a refusal. -/
def Chip.rateWrite (c : Chip) (m : Master) (w : Word) : Chip × Option Nat :=
  let rate := w.toNat * 2 ^ 32 + (c.regOf m Reg.TK_RATE_LO).toNat
  let win := c.reg Reg.GD_RATEWIN
  if rateOutside rate (Word.field win 0 20) then
    (c.guardRefuse Event.GD_RATE_WIN m Reg.TK_RATE_HI.addr w win, some 7)
  else if c.rateSlewed rate then
    (c.guardRefuse Event.GD_RATE_SLEW m Reg.TK_RATE_HI.addr w (c.reg Reg.GD_RATESLEW), some 7)
  else
    let c := if c.tk.rateStage.isSome then c.report Event.TK_RATE_OVR else c
    ({ c with tk := { c.tk with rateStage := some rate } }, none)

/-- The parameters of a step's record: its three words. -/
def stepRep (s : Int) : Rep :=
  let n := (s % (2 ^ 96 : Nat)).toNat
  { p1 := some (Word.part n 2), p2 := some (Word.part n 1), p3 := some (Word.part n 0) }

/-- TK_STEP2 (R68, R69). -/
def Chip.stepWrite (c : Chip) (m : Master) (w : Word) : Chip :=
  let s := signedOf 96 (c.banked96 m Reg.TK_STEP0 Reg.TK_STEP1 0 w)
  if c.tk.step.isSome then c.report Event.TK_STEP_BUSY (stepRep s)
  else
    let c := c.setReg Reg.TK_STEP2 w
    { c with tk := { c.tk with step := some s } }

/-! ### The boundary (R64, R70, R71) -/

/-- Lines that the step has made due take the boundary tick as their due time, and are tested against the
state at the start of the tick (R71, R23). A line past its tap moment that has not fired, and whose due time a backward
step has put ahead again, waits for it anew (R71). -/
def Chip.stepLines (c : Chip) (before : Nat) : Chip :=
  let due := (c.rt.lines.filter fun e => match e.2.armed with
    | some a => a.moment.isNone && !a.withheld && decide (before < a.tf ∧ a.tf ≤ c.now)
    | none => false).map fun e => e.1
  let now := c.now
  let c := c.mapArmed fun n a => some (
    if due.contains n then { a with tf := now }
    else if decide (now < a.tf) then { a with moment := none, inStop := false }
    else a)
  due.foldl (fun c n => c.tapMoment n now) c

/-- What a step does to the servo (R70, R75): the first step makes ACQUIRE the state from this tick, and one
beyond the bound from the next. -/
def Chip.stepServo (c : Chip) (s : Int) : Chip :=
  match c.sv.mode with
  | .freerun => c.setSvMode .acquire 1
  | .acquire => c
  | .locked | .holdover | .holdExpired =>
    if within s (Word.field (c.reg Reg.GD_STEPLIM) 0 16) then c
    else
      let c := c.report Event.TK_STEP_BIG (stepRep s)
      { c with sv := { c.sv with stepFrom := some (c.tk.frc, c.sv.mode) } }

/-- The armed step is applied to the anchor, or refused as out of range. -/
def Chip.stepApply (c : Chip) : Chip :=
  match c.tk.step with
  | none => c
  | some s =>
    let before := c.now
    let c := { c with tk := { c.tk with step := none } }
    let a : Int := (c.tk.tAnchor : Int) + s * 2 ^ 24
    if a < 0 ∨ (2 ^ 120 : Nat) ≤ a then c.report Event.TK_STEP_RANGE (stepRep s)
    else
      let c := { c with tk := { c.tk with
        tAnchor := a.toNat, valid := true, stepCnt := (c.tk.stepCnt + 1) % 2 ^ 32 } }
      let c := c.report Event.TK_STEP (stepRep s)
      let c := if c.inReset then c else ((c.poSteps s).stepLines before)
      c.stepServo s

/-- The staged RATE becomes active; the old one stays known for 1 ms (R300). -/
def TkState.rateTake (t : TkState) : TkState :=
  match t.rateStage with
  | none => t
  | some r =>
    { t with
      rate := r, rateStage := none
      rateHist := (t.rate, t.frc) :: t.rateHist.filter fun p => decide (t.frc < p.2 + ticksPerMs) }

/-- The re-anchoring of R64 at the present tick. -/
def TkState.anchor (t : TkState) : TkState :=
  { t with
    prevAnchor := t.tAnchor, prevFrc := t.frcAnchor, prevRate := t.rate
    tAnchor := t.exact, frcAnchor := t.frc }

/-- Occupancies sampled at a boundary (R353). -/
def Chip.boundarySamples (c : Chip) : Chip :=
  let c := (List.range c.nports).foldl (fun c p =>
    let q := (c.port p).q
    (((c.sample 0x09 p q.txT.length).sample 0x0A p q.txB.length).sample 0x0B p q.txS.length).sample 0x0C p
      q.txM.length) c
  let c := c.sample 0x0D 0 c.gr.qocc
  if c.id.hub then c else c.sample 0x0F 0 c.gt.pend.length

/-- What a boundary does once its tick has come. A recalibrated tap that it moves can change the DP of a die's entries,
which a CENSUS then carries (R274). -/
def Chip.boundaryDo (c : Chip) (faults : List Nat) : Chip :=
  let c := { c with tk := c.tk.anchor }
  let c := c.stepApply
  let c := { c with tk := c.tk.rateTake }
  if c.inReset then c
  else (((faults.foldl Chip.chainFault c).trimMoves).dieCensus).boundarySamples

/-- Ticks to the next boundary. -/
def Chip.toBoundary (c : Chip) : Nat := 1024 - c.tk.frc % 1024

/-- Time passes to the next boundary (R64). -/
def Chip.boundary (c : Chip) (faults : List Nat) : Chip :=
  if c.tk.tclk then (c.elapse c.toBoundary).boundaryDo faults else c

/-- One TCLK tick passes. -/
def Chip.tick (c : Chip) : Chip :=
  if !c.tk.tclk then c
  else if c.toBoundary = 1 then c.boundary [] else c.elapse 1

/-- The block with no command waiting: one TCLK tick passes (log entry 5). -/
def State.idle (s : State) : Host.Outcome State Fault Refusal := .next { s with chip := s.chip.tick }

/-! ### Lost TCLK (R75) -/

/-- TCLK stops: time is not valid, and the servo is in FREERUN. -/
def Chip.tclkStop (c : Chip) : Chip :=
  if c.tk.tclk then
    ({ c with tk := { c.tk with tclk := false, valid := false, lostPending := true } }).setSvMode .freerun 8
  else c

/-- TCLK runs again: the loss is flagged and recorded; while main reset holds the counters its count waits for
the release (R75, R364). -/
def Chip.tclkStart (c : Chip) : Chip :=
  let lost := c.tk.lostPending
  let c := { c with tk := { c.tk with
    tclk := true, lostPending := false, lostUncounted := c.tk.lostUncounted || (lost && c.inReset) } }
  if lost then c.report Event.TK_TCLK_LOST { late := true } else c

/-- The servo state at that even tick, which a step's ACQUIRE follows by one tick (R70, R72). -/
def Chip.cycleMode (c : Chip) : SvMode :=
  match c.sv.stepFrom with
  | some (f, m) => if c.tk.frc = f + 1 then m else c.sv.mode
  | none => c.sv.mode

end Sys2Proof.Machine
end

