-- ==== Sys2Proof/Machine/Tree.lean ====
section
/-!
DEFINITION. Machine/Tree.lean: the tree engine's operations (R110 to R126): what a port knows of its peer,
levels and exclusion, the tree census, claims, the crown, REFLECT and its application, member loss, and the
transitions that follow the upstream ports.
-/

namespace Sys2Proof.Machine

/-! ### The peer of a port (R105) -/

/-- Word `Wk` of the peer's IDENT. -/
def PortState.peerWord (x : PortState) (k : Nat) : Word := (x.peer.getD []).getD (k - 2) 0
def PortState.peerHub (x : PortState) : Bool := Word.bit (x.peerWord 2) 31
def PortState.peerPlaneB (x : PortState) : Bool := Word.bit (x.peerWord 2) 30
def PortState.peerElig (x : PortState) : Bool := Word.bit (x.peerWord 2) 29
def PortState.peerPort (x : PortState) : Nat := Word.field (x.peerWord 2) 16 8
def PortState.peerVersion (x : PortState) : Nat := Word.field (x.peerWord 2) 8 8
def PortState.peerAddr (x : PortState) : Bool := Word.bit (x.peerWord 3) 31
def PortState.peerUid (x : PortState) : Nat :=
  Word.field (x.peerWord 5) 0 16 * 2 ^ 32 + (x.peerWord 4).toNat

/-! ### This Lyspen (R105, R115) -/

/-- TR_CFG.CROWN_ELIG and the claim (CROWN_PRIO, UID). -/
def Chip.crownElig (c : Chip) : Bool := c.id.hub && Word.bit (c.reg Reg.TR_CFG) 23
def Chip.crownPrio (c : Chip) : Nat := Word.field (c.reg Reg.TR_CFG) 24 8
def Chip.claim (c : Chip) : Nat × Nat := (c.crownPrio, c.id.uid)

/-- TR_CFG.MGMT_NOTE and REVERT. -/
def Chip.mgmtNote (c : Chip) : Bool := c.id.hub && Word.bit (c.reg Reg.TR_CFG) 22
def Chip.revertive (c : Chip) : Bool := Word.bit (c.reg Reg.TR_CFG) 21

/-- The better of two claims (R115). -/
def claimBetter (a b : Nat × Nat) : Bool := decide (a.1 < b.1 ∨ (a.1 = b.1 ∧ a.2 < b.2))

/-- The payload of this end's IDENT on a port (R105), W2 to W7, so its LEN is 6; the zeros of W8 to W17 lie beyond LEN
(DESIGN CHOICE, log entry 13: R105 gives no LEN): no B, S and M buffers on a restricted or peer-crown
lane (R108). -/
def Chip.identWords (c : Chip) (p : Nat) : List Word :=
  let x := c.port p
  let planeB := if c.id.hub then c.id.planeB else p == 1
  let none_ := x.restrictNext || x.peerCrown
  [Word.flag c.id.hub 31 ||| Word.flag planeB 30 ||| Word.flag c.crownElig 29 ||| Word.place p 16
     ||| Word.place 2 8,
   Word.flag c.tr.addr.isSome 31 ||| BitVec.ofNat 32 (c.tr.addr.getD 0), Word.part c.id.uid 0,
   Word.part (c.id.uid % 2 ^ 48) 1, c.reg Reg.LN_FEAT p,
   if none_ then 0 else Word.place 64 16 ||| Word.place 64 8 ||| Word.place 32 0]

/-- This end's IDENT on a port: LEN 6, the words that carry something (DESIGN CHOICE, log entry 13: R105 gives no LEN). -/
def Chip.identCell (c : Chip) (p : Nat) : Cell := mkCell clsL 0x02 0 (c.identWords p)

/-- A field that IDENT carries has changed: it goes out on every lane that is UP (R105). -/
def Chip.identAll (c : Chip) : Chip :=
  ((List.range c.nports).filter c.isUp).foldl (fun c p => c.sendL p (c.identCell p)) c

/-! ### Upstream and downstream ports -/

/-- The port at the other end of which a parent can be: UP and no peer-crown lane (R114). -/
def Chip.upUsable (c : Chip) (p : Nat) : Bool := c.isUp p && !(c.port p).peerCrown

/-- The active upstream port, and that port while it is UP. -/
def Chip.activeUp (c : Chip) : Nat :=
  if c.id.hub then (if c.tr.upAlt then 65 else 64) else if c.tr.upAlt then 1 else 0
def Chip.upPort (c : Chip) : Option Nat := if c.upUsable c.activeUp then some c.activeUp else none

def Chip.downPorts (c : Chip) : List Nat := if c.id.hub then List.range 64 else []
def Chip.anyUp (c : Chip) : Bool := (List.range c.nports).any c.isUp

/-- A hub's upstream port is in LOCKING, IDENT or UP; a peer-crown lane does not count (R114). -/
def Chip.upSignal (c : Chip) : Bool :=
  [64, 65].any fun p =>
    match (c.port p).mode with
    | .locking | .ident => true
    | .up => !(c.port p).peerCrown
    | _ => false

/-! ### Levels and exclusion (R111, R117) -/

def Chip.kid (c : Chip) (p : Nat) : Kid := SMap.find c.tr.kids p .reset
def Chip.modKid (c : Chip) (p : Nat) (f : Kid → Kid) : Chip :=
  { c with tr := { c.tr with kids := SMap.put c.tr.kids p .reset (f (c.kid p)) } }

def Chip.excludedAt (c : Chip) (p : Nat) : Bool := c.tr.excluded.contains p

/-- A REFLECT that the peer has not acknowledged is still on its way. -/
def Chip.reflectPending (c : Chip) (p : Nat) : Bool :=
  let isR (x : Cell) : Bool := x.typ == 0x45 && Word.field (x.pay 2) 24 8 == 2
  (c.port p).link.replay.any isR || (c.port p).q.txM.any fun x => isR x.cell

/-- A child hub that has taken the REFLECT and still names itself crown is in CONFLICT (R117; log
entry 36). -/
def Chip.conflictKid (c : Chip) (p : Nat) : Bool :=
  let x := c.port p
  x.peerHub && SMap.has c.tr.sentReflect p && !(c.reflectPending p) && x.time.lastRx.isSome
    && x.time.tickCrown == x.peerUid && c.tr.crown != some x.peerUid

/-- The level a hub works out from its children; 0 with none. Where every hub child reports level 0 the rule's own
words give 1, which is no level: the hub takes 7, the lowest with hub children (DESIGN CHOICE, log entry 36). -/
def Chip.levelBelow (c : Chip) : Nat :=
  let kids := c.downPorts.filter c.isUp
  let hubs := kids.filter fun p =>
    (c.port p).peerHub && decide ((c.kid p).level ≤ 8) && !c.conflictKid p
  if !hubs.isEmpty then hubs.foldl (fun m p => max m ((c.kid p).level + 1)) 7
  else if kids.any fun p => !(c.port p).peerHub then 6
  else 0

/-- A child whose level does not fit its parent's. -/
def Chip.misfit (c : Chip) (p : Nat) : Bool :=
  if (c.port p).peerHub then
    c.conflictKid p || ((c.kid p).level != 0 && (c.kid p).level + 1 != c.tr.level)
      || (c.excludedAt p && (c.port p).time.tickCrown == (c.port p).peerUid && c.tr.crown != some (c.port p).peerUid)
  else decide (7 ≤ c.tr.level)

/-! ### The tree census (R120, R121) -/

/-- A die child counts: UP with every class, addressed, not excluded, and not lost (R125). -/
def Chip.dieCounts (c : Chip) (p : Nat) : Bool :=
  c.carries p && !(c.port p).peerHub && !c.excludedAt p && SMap.has c.tr.sentReflect p && (c.port p).peerAddr
    && !(c.tr.lostAt.contains p)

/-- The servo state in the latest TICK of a port. -/
def PortState.tickSv (x : PortState) : Nat := Word.field x.time.tickW5 28 3

def Chip.membersAt (c : Chip) (p : Nat) : Nat :=
  if !(c.isUp p) || c.excludedAt p then 0
  else if (c.port p).peerHub then (c.kid p).members
  else if c.dieCounts p then 1 else 0

def Chip.lockedAt (c : Chip) (p : Nat) : Nat :=
  if !(c.isUp p) || c.excludedAt p then 0
  else if (c.port p).peerHub then (c.kid p).locked
  else if c.dieCounts p && (c.port p).tickSv == 2 then 1 else 0

def Chip.hubsAt (c : Chip) (p : Nat) : Nat :=
  if c.isUp p && !c.excludedAt p && (c.port p).peerHub then (c.kid p).hubs else 0

def Chip.sumDown (c : Chip) (f : Nat → Nat) : Nat := c.downPorts.foldl (fun n p => n + f p) 0

/-- TR_MEMBERS, TR_LOCKED and TR_HUBS. -/
def Chip.members (c : Chip) : Nat :=
  if c.id.hub then c.sumDown c.membersAt else if c.tr.addr.isSome then 1 else 0
def Chip.lockedMembers (c : Chip) : Nat :=
  if c.id.hub then c.sumDown c.lockedAt
  else if c.tr.addr.isSome && c.sv.mode == .locked then 1 else 0
def Chip.hubCount (c : Chip) : Nat := if c.id.hub then 1 + c.sumDown c.hubsAt else 0

/-- TR_BESTSUB: the best claim from below. -/
def Chip.bestBelow (c : Chip) : Option (Nat × Nat) :=
  (c.downPorts.filter fun p => c.isUp p && !c.excludedAt p).foldl (fun b p =>
    match b, (c.kid p).best with
    | none, k => k
    | some a, some k => if claimBetter k a then some k else some a
    | b, none => b) none

/-- The best claim of this hub and its subtree. -/
def Chip.bestClaim (c : Chip) : Option (Nat × Nat) :=
  if c.crownElig then
    match c.bestBelow with
    | some k => if claimBetter k c.claim then some k else some c.claim
    | none => some c.claim
  else c.bestBelow

/-- TR_STAT.SLOW_BELOW, and the SLOW flag of a SUMMARY (R123): the hub's own and its child hubs'. A die's START_SLOW
is left out, since no cell brings it to its hub (DESIGN CHOICE, log entry 36). -/
def Chip.slowBelow (c : Chip) : Bool :=
  c.tr.startSlow || (c.downPorts.filter fun p => c.isUp p && !c.excludedAt p).any fun p => (c.kid p).slow

/-- The level this hub reports: 0 without children. -/
def Chip.summaryWords (c : Chip) : List Word :=
  let b := c.bestClaim
  [Word.place c.levelBelow 20 ||| Word.flag c.slowBelow 19, fld c.members 25 0, fld c.lockedMembers 25 0,
   fld c.hubCount 19 0,
   match b with
   | some k => fld k.1 8 24 ||| Word.flag true 23 ||| fld (k.2 >>> 32) 16 0
   | none => 0,
   match b with
   | some k => Word.part k.2 0
   | none => 0]

/-! ### Addresses and the crown (R112, R113, R116) -/

/-- TR_STAT.GROUPS: some entry of the group table is in use. No cell brings a hub the entries of the hubs and dies
below it, so its own table stands for its subtree (DESIGN CHOICE, log entry 36). -/
def Chip.anyGroup (c : Chip) : Bool := c.gr.entries.any fun e => e.2.state != .free

/-- An address is learned from a port, or taken as a root; a different one is reported (R113). -/
def Chip.learnAddr (c : Chip) (a : Nat) (from_ : Option Nat) : Chip :=
  if c.tr.addr = some a then { c with tr := { c.tr with addrFrom := from_ } }
  else
    let old := c.tr.addr
    let c := { c with tr := { c.tr with addr := some a, addrFrom := from_ } }
    let c := match old with
      | some o =>
        c.report Event.TR_ADDR_CHG { p1 := some (BitVec.ofNat 32 o), p2 := some (BitVec.ofNat 32 a) }
      | none => c
    c.identAll

/-- The crown as a REFLECT or an own claim gives it; a change of the crown's UID is reported. A crown where none
was known, or none any more, is a change (DEDUCED, log entry 36). -/
def Chip.crownTake (c : Chip) (crown : Option Nat) (prio level epoch hops : Nat) : Chip :=
  let changed := c.tr.crown != crown
  let c := { c with tr := { c.tr with
    crown := crown, crownPrio := prio, crownLevel := level, cepoch := epoch, hops := hops } }
  if changed then c.report Event.TR_CROWN_CHG else c

/-- The address of the child on a port (R112). -/
def Chip.childAddr (c : Chip) (p : Nat) : Nat := (c.tr.addr.getD 0) ||| (p <<< levelShift c.tr.level)

/-- The address that the child on a port has: what its IDENT says, where it has one, else the one given to it
(R20, R113). -/
def Chip.addrAt (c : Chip) (p : Nat) : Nat :=
  if (c.port p).peerHub && (c.port p).peerAddr then Word.field ((c.port p).peerWord 3) 0 24 else c.childAddr p

/-! ### REFLECT (R116, R131) -/

/-- The payload of the REFLECT for a port. -/
def Chip.reflectWords (c : Chip) (p : Nat) : List Word :=
  let u := c.tr.crown.getD 0
  [Word.place 2 24 ||| Word.place (c.tr.level - 1) 20 ||| Word.flag c.tr.crown.isSome 19
     ||| Word.flag c.freqLocked 18 ||| Word.flag c.phaseOk 17 ||| fld c.tr.cepoch 16 0,
   BitVec.ofNat 32 (c.childAddr p),
   fld c.tr.crownPrio 8 24 ||| fld c.tr.crownLevel 4 20 ||| fld (u >>> 32) 16 0, Word.part u 0,
   fld c.tr.hops 8 0]

/-- A hub that has an address hands out addresses. -/
def Chip.reflecting (c : Chip) : Bool :=
  c.id.hub && c.tr.addr.isSome && (match c.tr.mode with
    | .joined | .crown | .crownless | .orphan | .conflict => true
    | .idle | .discover | .rootwait => false)

/-- A fresh REFLECT leaves on every downstream port whose content has changed; an excluded port gets none. -/
def Chip.reflectOut (c : Chip) : Chip :=
  if !c.reflecting then c
  else
    c.downPorts.foldl (fun c p =>
      if c.excludedAt p then { c with tr := { c.tr with sentReflect := SMap.erase c.tr.sentReflect p } }
      else
        let pay := c.reflectWords p
        if c.carries p && SMap.find c.tr.sentReflect p [] != pay then
          ({ c with tr := { c.tr with sentReflect := SMap.insert c.tr.sentReflect p pay } }).sendCells p clsM
            [mkCell clsM 0x45 0 pay]
        else c) c

/-- Fields of a REFLECT payload, W2 first. -/
def reflLevel (l : List Word) : Nat := Word.field (l.getD 0 0) 20 4
def reflValid (l : List Word) : Bool := Word.bit (l.getD 0 0) 19
def reflEpoch (l : List Word) : Nat := Word.field (l.getD 0 0) 0 16
def reflAddr (l : List Word) : Nat := Word.field (l.getD 1 0) 0 24
def reflUid (l : List Word) : Nat := Word.field (l.getD 2 0) 0 16 * 2 ^ 32 + (l.getD 3 0).toNat
def reflClaim (l : List Word) : Nat × Nat := (Word.field (l.getD 2 0) 24 8, reflUid l)
def reflHops (l : List Word) : Nat := Word.field (l.getD 4 0) 0 8

/-- A REFLECT of the current crown with an older epoch (R116). -/
def Chip.reflOlder (c : Chip) (l : List Word) : Bool :=
  reflValid l && c.tr.crown == some (reflUid l) && serialBefore 16 (reflEpoch l) c.tr.cepoch

/-- What a Lyspen takes from a REFLECT that applies: crown, epoch, the parent's flags, and a hub without
children its level. -/
def Chip.reflTake (c : Chip) (l : List Word) : Chip :=
  let c := c.crownTake (if reflValid l then some (reflUid l) else none) (reflClaim l).1
    (Word.field (l.getD 2 0) 20 4) (reflEpoch l) (min 255 (reflHops l + 1))
  { c with tr := { c.tr with
    parentFreq := Word.bit (l.getD 0 0) 18, parentPhase := Word.bit (l.getD 0 0) 17
    level := if c.id.hub && c.levelBelow == 0 then reflLevel l else c.tr.level } }

/-- The address in a REFLECT of an upstream port is taken. A hub that holds an address from its other upstream
keeps that: a move changes no member's address (R20, R126). -/
def Chip.reflAddrTake (c : Chip) (p : Nat) (l : List Word) : Chip :=
  if c.tr.addr.isSome && c.tr.addrFrom.isSome && c.tr.addrFrom != some p then c
  else c.learnAddr (reflAddr l) (some p)

/-- A hub becomes JOINED by a REFLECT of an upstream port. -/
def Chip.reflJoin (c : Chip) (p : Nat) (l : List Word) : Chip :=
  let c := (c.reflTake l).reflAddrTake p l
  { c with tr := { c.tr with mode := .joined, joinedSinceReset := true } }

/-- The REFLECT kept of the active upstream is applied (R116, R126). -/
def Chip.reflKept (c : Chip) : Chip :=
  match SMap.find c.tr.kept c.activeUp [] with
  | [] => c
  | l => c.reflJoin c.activeUp l

/-! ### Member loss (R124, R125) -/

/-- A loss is queued for the run-time where MGMT_NOTE is 1. -/
def Chip.mlqPut (c : Chip) (level reason addr members t : Nat) : Chip :=
  if !c.mgmtNote then c
  else if c.tr.mlq.length < 32 then
    { c with tr := { c.tr with
      mlq := c.tr.mlq ++
        [[Word.flag true 31 ||| fld level 4 27 ||| fld reason 4 23, fld addr 24 0, fld members 25 0, nsLow t]] } }
  else c.report Event.TR_QUEUE_OVR { p1 := some (BitVec.ofNat 32 addr) }

/-- The time of detection an MLOSS carries. -/
def Chip.lossTime (c : Chip) : Nat := if c.tk.valid then c.now else 0

/-- What is lost with a downstream port: a child hub or not, and its members; none where the child has
not been addressed. -/
def Chip.lossAt (c : Chip) (p : Nat) : Option (Bool × Nat) :=
  if !c.id.hub || 64 ≤ p then none
  else if (c.port p).peerHub then
    if c.isUp p && SMap.has c.tr.sentReflect p then some (true, c.membersAt p) else none
  else if c.dieCounts p then some (false, 1) else none

/-- A member or a hub is lost: reported here, queued, and sent up the active upstream. -/
def Chip.lossReport (c : Chip) (p reason : Nat) (hub : Bool) (members : Nat) : Chip :=
  let a := c.addrAt p
  let lvl := if hub then c.tr.level - 1 else 5
  let t := c.lossTime
  let reason := if hub && reason == 1 then 2 else reason
  let c := c.report Event.TR_MLOSS { p1 := some (BitVec.ofNat 32 a), p2 := some (BitVec.ofNat 32 members) }
  let c := if reason = 2 then c.report Event.TR_HLOSS else c
  let c := c.mlqPut lvl reason a members t
  match c.upPort with
  | some u => c.sendCells u clsM [mlossCell lvl reason a members t]
  | none => c

/-- A port leaves the tree (R107, R274): what was known by it goes. -/
def Chip.treePortDown (c : Chip) (p : Nat) : Chip :=
  let c := { c with tr := { c.tr with
    kids := SMap.erase c.tr.kids p, excluded := c.tr.excluded.filter fun q => q != p
    sentReflect := SMap.erase c.tr.sentReflect p, kept := SMap.erase c.tr.kept p
    lostAt := c.tr.lostAt.filter fun q => q != p } }
  if c.id.hub && p < 64 then c.portLost p else c

/-- The children whose levels do not fit are excluded, and those that fit again are not (R111). -/
def Chip.excludeEval (c : Chip) : Chip :=
  if !c.id.hub then c
  else
    let lvl := c.levelBelow
    let c := if lvl = 0 then c else { c with tr := { c.tr with level := lvl } }
    let bad := (c.downPorts.filter c.isUp).filter c.misfit
    let fresh := (bad.filter fun p => !c.excludedAt p).map fun p => (p, c.lossAt p)
    let c := { c with tr := { c.tr with excluded := bad } }
    fresh.foldl (fun c e =>
      let c := c.report Event.TR_LEVEL_BAD { p1 := some (BitVec.ofNat 32 e.1) }
      match e.2 with
      | some k => (c.lossReport e.1 5 k.1 k.2).portLost e.1
      | none => c) c

/-! ### Transitions (R110, R113, R114, R118, R126) -/

/-- The active upstream changes; its parent has yet to be told of the subtree, and groups go that way. -/
def Chip.takeUp (c : Chip) (p : Nat) : Chip :=
  if c.activeUp = p then c
  else
    ({ c with tr := { c.tr with upAlt := p == 65 || p == 1, lastSummary := none } }).groupsUp p

/-- A hub moves to an upstream that has come UP. -/
def Chip.joinUp (c : Chip) (p : Nat) : Chip :=
  let c := c.takeUp p
  ({ c with tr := { c.tr with mode := .joined, joinedSinceReset := true } }).reflKept

/-- A JOINED hub moves to its other upstream (R126, R20). -/
def Chip.upSwitch (c : Chip) (p : Nat) : Chip :=
  (((c.takeUp p).report Event.TR_UPSWITCH).reflKept).svSwitchTo (p - 64)

/-- Entry to DISCOVER; TR_TLOCK runs from the first. -/
def Chip.discover (c : Chip) : Chip :=
  { c with tr := { c.tr with
    mode := .discover
    discoverFrc := match c.tr.discoverFrc with
      | none => some c.tk.frc
      | f => f } }

/-- A hub without an address. -/
def Chip.hubSeek (c : Chip) : Chip :=
  if !c.anyUp then { c with tr := { c.tr with mode := .idle } }
  else
    match [64, 65].find? c.upUsable with
    | some p => (if c.tr.mode == .discover then c else c.discover).takeUp p |>.reflKept
    | none =>
      if c.upSignal then (if c.tr.mode == .discover then c else c.discover)
      else { c with tr := { c.tr with mode := .rootwait } }

/-- A JOINED hub follows its upstream ports. -/
def Chip.hubFollow (c : Chip) : Chip :=
  let fit (p : Nat) : Bool := c.upUsable p && (c.port p).tqual
  let a := c.activeUp
  let o := 129 - a
  if !(c.upUsable 64) && !(c.upUsable 65) then
    ({ c with tr := { c.tr with mode := .orphan } }).report Event.TR_ORPHAN
  else if !(fit a) && fit o then c.upSwitch o
  else if c.tr.upAlt && c.revertive && fit 64 then c.upSwitch 64
  else c

/-- The tree state of a hub follows its ports. -/
def Chip.hubEval (c : Chip) : Chip :=
  match c.tr.mode with
  | .idle => if c.anyUp then c.discover.hubSeek else c
  | .discover | .rootwait => c.hubSeek
  | .joined => c.hubFollow
  | .crownless | .orphan =>
    match [64, 65].find? c.upUsable with
    | some p => c.joinUp p
    | none => c
  | .crown | .conflict =>
    if c.upPort.isSome then c
    else
      match [64, 65].find? c.upUsable with
      | some p => c.takeUp p
      | none => c

/-- The lane from which a die takes its crown: the servo's active channel, or the only one that has
brought a REFLECT (log entry 36). -/
def Chip.dieLane (c : Chip) : Option Nat :=
  if SMap.has c.tr.kept c.sv.chan then some c.sv.chan
  else if SMap.has c.tr.kept (1 - c.sv.chan) then some (1 - c.sv.chan)
  else none

/-- The tree state of a die follows its lanes. -/
def Chip.dieEval (c : Chip) : Chip :=
  if !c.anyUp then
    { c with tr := { c.tr with mode := .idle, addr := none, addrFrom := none } }
  else
    let c := if c.tr.mode == .idle then c.discover else c
    match c.dieLane with
    | none => c
    | some p =>
      let l := SMap.find c.tr.kept p []
      let c := { c with tr := { c.tr with upAlt := p == 1, mode := .joined, joinedSinceReset := true } }
      c.reflTake l

/-- A crown's own level and priority stand in its claim as they are (R115, R116). -/
def Chip.crownSelf (c : Chip) : Chip :=
  match c.tr.mode with
  | .crown | .conflict => { c with tr := { c.tr with crownPrio := c.crownPrio, crownLevel := c.tr.level } }
  | .idle | .discover | .rootwait | .joined | .crownless | .orphan => c

def Chip.treeEval (c : Chip) : Chip := ((if c.id.hub then c.hubEval else c.dieEval).excludeEval).crownSelf

/-! ### Crowns (R114, R116 to R118) -/

/-- A hub becomes crown: its own address is 0, and its reign has the next number. -/
def Chip.becomeCrown (c : Chip) : Chip :=
  let c := c.crownTake (some c.id.uid) c.crownPrio c.tr.level ((c.tr.cepoch + 1) % 2 ^ 16) 0
  ({ c with
    tr := { c.tr with mode := .crown, parentFreq := false, parentPhase := false }
    sv := { c.sv with chan := 0 } }).learnAddr 0 none

/-- The root timer has run out. -/
def Chip.becomeRoot (c : Chip) : Chip :=
  if c.crownElig then c.becomeCrown
  else
    let c := c.crownTake none 0 0 c.tr.cepoch 0
    (({ c with tr := { c.tr with mode := .crownless } }).report Event.TR_CROWNLESS).learnAddr 0 none

/-- A crown meets a claim from above (R117). A REFLECT without a valid crown carries no claim and counts as a worse
one, and one that names this crown itself is no claim above it (DESIGN CHOICE, log entry 36). -/
def Chip.crownMeets (c : Chip) (p : Nat) (l : List Word) : Chip :=
  let better := reflValid l && claimBetter (reflClaim l) c.claim
  if reflValid l && reflUid l == c.id.uid then c
  else if better && !c.anyGroup then (c.takeUp p).reflJoin p l
  else if c.tr.mode == .conflict then c
  else ({ c with tr := { c.tr with mode := .conflict } }).report Event.TR_CONFLICT

end Sys2Proof.Machine
end

