-- ==== Sys2Proof/Machine/Lanes.lean ====
section
/-!
DEFINITION. Machine/Lanes.lean: the operations of a lane port (R82 to R108): going down and coming UP, the
handshake and its wiring checks, the transmit scheduler, and the receiver with its sequence, replay, credit
and time handling.
-/

namespace Sys2Proof.Machine

/-- A report of a lane event: the port in the first parameter (R107). -/
def lnRep (p : Nat) (p2 : Option Word := none) : Rep :=
  { p1 := some (BitVec.ofNat 32 p), p2 := p2, inst := some p }

/-! ### Going down (R107) -/

/-- Sequenced cells that a port holds: the replay buffer and the transmit queues, with those that wait for room
in them. -/
def PortState.flushed (x : PortState) : List Cell :=
  x.link.replay ++ ((x.q.txB ++ x.q.txS ++ x.q.txM).map fun t => t.cell) ++ (x.q.wait.map fun w => w.2)

/-- A RELEASE lost with a lane is kept for its port, while the entry lists the port (R103, R226). -/
def Chip.keepReleases (c : Chip) (p : Nat) (l : List Cell) : Chip :=
  (l.filter fun x => x.cls == clsB && x.typ == 0x21).foldl (fun c x =>
    match c.findGid x.group with
    | some g =>
      if (c.ent g).state == .quar || (c.ent g).owed.contains p || !((c.ent g).pmap.testBit p) then c
      else c.modEnt g fun e => { e with owed := e.owed ++ [p] }
    | none => c) c

/-- A port with its LLF state, queues and measurements of the lane at their start; what it has learnt of the
lane's delay stays. -/
def PortState.cleared (x : PortState) : PortState :=
  { x with
    tqual := false, nver := 0, refRsn := 0, rxinv := false, cwlock := false, restricted := false
    peerCrown := false, peer := none, gotIdent := false, gotAck := false, featNeg := 0, check := .reset
    q := .reset, link := .reset, code := .reset
    time := { PortTime.reset with rtt := x.time.rtt, mpd := x.time.mpd }
    qual := { x.qual with ok := false, qcount := 0, outCount := 0 } }

/-- The cells of a port are discarded and counted, and the port takes a state. -/
def Chip.flushTo (c : Chip) (p : Nat) (m : PortMode) : Chip :=
  let l := (c.port p).flushed
  let c := c.keepReleases p l
  (c.modPort p fun x => { x.cleared with mode := m }).bump Reg.LN_CNT_FLUSH l.length p

/-- The loss of the child behind a port is reported. -/
def Chip.lossOf (c : Chip) (p reason : Nat) (k : Option (Bool × Nat)) : Chip :=
  match k with
  | some k => c.lossReport p reason k.1 k.2
  | none => c

/-- A lane goes down for a reason (R107): counted, flagged and recorded from every state but DOWN (DESIGN CHOICE, log
entry 13: R107 speaks of the lane and does not say whether a port that was not UP reports). -/
def Chip.laneDown (c : Chip) (p rsn : Nat) : Chip :=
  if (c.port p).mode == .down then c
  else
    let k := c.lossAt p
    let n := (c.port p).flushed.length
    let c := (c.flushTo p .down).modPort p fun x =>
      { x with downRsn := rsn, restrictNext := x.restrictNext && rsn == 8 }
    let c := c.report Event.LN_LANE_DOWN (lnRep p (some (BitVec.ofNat 32 n)))
    (c.lossOf p 1 k).treePortDown p

/-! ### Coming UP (R104, R108, R119) -/

/-- A lane is UP: its credits are the peer's buffers, and what waits for it goes out. -/
def Chip.laneUp (c : Chip) (p : Nat) : Chip :=
  let x := c.port p
  let open_ := !x.restricted && !x.peerCrown
  let w7 := x.peerWord 7
  let credit (lo : Nat) : Nat := if open_ then Word.field w7 lo 8 else 0
  let c := c.modPort p fun y =>
    { y with
      mode := .up
      q := { y.q with txL := y.q.txL, rxT := [] }
      link := { PortLink.reset with credB := credit 16, credS := credit 8, credM := credit 0 } }
  let c := if x.rxinv then c.report Event.LN_WIRE_INV (lnRep p) else c
  let c := if x.qual.lastUid.isSome && x.qual.lastUid != some x.peerUid then c.mpdForget p else c
  let c := c.modQual p fun q => { q with lastUid := some x.peerUid }
  let c := match c.portCh p with
    | some k => c.modCh k fun y => { y with asymUncal := true }
    | none => c
  let c := { c with tr := { c.tr with firstUp := true, lostAt := c.tr.lostAt.filter fun q => q != p } }
  let c := if c.tr.inoteWait.contains p then
      ({ c with tr := { c.tr with inoteWait := c.tr.inoteWait.filter fun q => q != p } }).inoteOn p
    else c
  let c := c.keptSend p
  let c := if c.id.hub && p < 64 && x.restricted then c.lossReport p 4 false 0 else c
  let c := if 64 ≤ p then { c with tr := { c.tr with lastSummary := none } } else c
  let c := if c.upPorts.contains p then c.groupsUp p else c
  let c := c.treeEval
  if c.id.hub && c.upPort == some p then
    c.sendCells p clsM [mkCell clsM 0x45 0
      [Word.place 4 24, Word.part c.id.uid 0, Word.part (c.id.uid % 2 ^ 48) 1, Word.part c.id.uid 0,
       Word.part (c.id.uid % 2 ^ 48) 1]]
  else c

/-! ### Wiring checks (R106, R108) -/

/-- The link is port 65 to port 65 between crown-eligible hubs of different planes (R19). -/
def Chip.peerCrownLink (c : Chip) (p : Nat) (x : PortState) : Bool :=
  c.id.hub && p == 65 && x.peerHub && x.peerPort == 65 && c.crownElig && x.peerElig
    && x.peerPlaneB != c.id.planeB

/-- The port of the peer faces the wrong way. -/
def Chip.wrongWay (c : Chip) (p : Nat) (x : PortState) : Bool :=
  if !c.id.hub then x.peerHub && decide (64 ≤ x.peerPort)
  else if p < 64 then x.peerHub && decide (x.peerPort < 64)
  else !x.peerHub || (decide (64 ≤ x.peerPort) && !c.peerCrownLink p x)

/-- A die's plane is not the plane of the hub, and the hub's port does not allow it. -/
def Chip.otherPlane (c : Chip) (p : Nat) (x : PortState) : Bool :=
  c.id.hub && !x.peerHub && x.peerPlaneB != c.id.planeB
    && !(decide (p < 64) && Word.bit (c.reg Reg.LN_PCTRL p) 31)

/-- Other ports that have the same peer: downstream ones of a hub, or the other upstream one of a hub or die. -/
def Chip.twins (c : Chip) (p : Nat) (x : PortState) : List Nat :=
  (List.range c.nports).filter fun q =>
    q != p && decide (64 ≤ q) == decide (64 ≤ p) && (c.port q).peer.isSome && (c.port q).peerUid == x.peerUid

/-- The refusal that a peer IDENT meets: its reason and event; of twins, the higher port is refused. -/
def Chip.wiring (c : Chip) (p : Nat) : Option (Nat × Ev) :=
  let x := c.port p
  if x.peerVersion = 0 ∨ 3 < x.peerVersion then some (1, Event.LN_VERSION)
  else if x.peerUid == c.id.uid then some (2, Event.LN_WIRE_LOOP)
  else if !c.id.hub && !x.peerHub then some (4, Event.LN_WIRE_DIEDIE)
  else if c.id.hub && x.peerHub && x.peerPlaneB != c.id.planeB && !c.peerCrownLink p x then
    some (5, Event.LN_WIRE_XHUB)
  else if c.wrongWay p x then some (7, Event.LN_WIRE_DIR)
  else if c.otherPlane p x then some (6, Event.LN_WIRE_XPLANE)
  else if (c.twins p x).any fun q => decide (q < p) then some (8, Event.LN_WIRE_DUP)
  else none

/-- A port is refused for a reason; what it held is discarded. -/
def Chip.refuse (c : Chip) (p rsn : Nat) (e : Ev) : Chip :=
  let x := c.port p
  let k := c.lossAt p
  let up := x.mode == .up
  let c := if up then c.flushTo p .refused else c
  let c := c.modPort p fun y =>
    { y with
      mode := .refused, refRsn := rsn, cwlock := x.cwlock, rxinv := x.rxinv, peer := x.peer
      gotIdent := x.gotIdent, gotAck := x.gotAck, code := x.code }
  let c := c.report e (lnRep p)
  if up then (c.lossOf p 1 k).treePortDown p else c

/-- The lane's version and features once the peer is acceptable (R106; a lane of version 1 reports neither group
feature, R276), and how it is set up (R19, R108). -/
def Chip.negotiate (c : Chip) (p : Nat) : Chip :=
  let pc := c.peerCrownLink p (c.port p)
  c.modPort p fun x =>
    { x with
      nver := min 2 x.peerVersion
      featNeg := c.reg Reg.LN_FEAT p &&& x.peerWord 6 &&& (if x.peerVersion < 2 then 0xFFFFFFF9 else 0xFFFFFFFF)
      refRsn := 0
      peerCrown := pc
      restricted := !pc && (x.restrictNext || (x.peerWord 7).toNat % 2 ^ 24 == 0) }

/-- The peer has been found acceptable: its IDENT is acknowledged, and the port is UP once its own has
been. -/
def Chip.accept (c : Chip) (p : Nat) : Chip :=
  let c := (c.negotiate p).sendL p (mkCell clsL 0x03 0 [(c.port p).peerWord 4])
  if (c.port p).mode == .refused || (c.port p).gotAck then c.laneUp p else c

/-- Twins with higher numbers are refused when a lower port has the same peer (R108). -/
def Chip.refuseTwins (c : Chip) (p : Nat) : Chip :=
  ((c.twins p (c.port p)).filter fun q => decide (p < q) && (c.port q).mode != .refused).foldl
    (fun c q => c.refuse q 8 Event.LN_WIRE_DUP) c

/-- An IDENT of the peer is taken (R104, R105, R107). -/
def Chip.identTake (c : Chip) (p : Nat) (words : List Word) : Chip :=
  let x := c.port p
  let new : PortState := { x with peer := some words }
  match x.mode with
  | .up =>
    if new.peerUid != x.peerUid then (c.laneDown p 4).mpdForget p
    else
      (c.modPort p fun y => { y with peer := some words }).sendL p (mkCell clsL 0x03 0 [words.getD 2 0])
  | .ident | .refused =>
    let c := c.modPort p fun y => { y with peer := some words, gotIdent := true }
    match c.wiring p with
    | some (rsn, e) => if x.mode == .refused && x.refRsn == rsn then c else c.refuse p rsn e
    | none => if x.mode == .refused && x.refRsn == 3 then c else (c.refuseTwins p).accept p
  | _ => c

/-- An IDENT_ACK of this port's IDENT (R104). -/
def Chip.identAcked (c : Chip) (p : Nat) (w : Word) : Chip :=
  if w != Word.part c.id.uid 0 then c
  else
    let c := c.modPort p fun x => { x with gotAck := true }
    if (c.port p).mode == .ident && (c.port p).gotIdent then c.laneUp p else c

/-! ### The transmit scheduler (R82, R91, R93, R97) -/

/-- LN_CFG.AGE_MAX in ns, and LN_RPLCFG.REPLAY_MAX. -/
def Chip.ageMax (c : Chip) : Nat := max 1000 (Word.field (c.reg Reg.LN_CFG) 0 20)
def Chip.replayMax (c : Chip) : Nat := max 1 (Word.field (c.reg Reg.LN_RPLCFG) 0 8)

/-- The declared latencies, as times in 2^-32 ns. -/
def Chip.latTx (c : Chip) (p : Nat) : Nat := Word.field (c.reg Reg.LN_PMA_LAT_TX p) 0 24 * unit64
def Chip.latRx (c : Chip) (p : Nat) : Nat := Word.field (c.reg Reg.LN_PMA_LAT_RX p) 0 24 * unit64

/-- A cell as it is sent: its sequence number as given, the acknowledgement, the credit return of the
class whose turn it is, and its parity (R86, R87, R91). -/
def PortLink.seal (l : PortLink) (x : Cell) (seq : Nat) : Cell :=
  let cum := match l.rot with
    | 0 => l.freedB
    | 1 => l.freedS
    | _ => l.freedM
  let w1 := fld seq 12 20 ||| fld l.lastAcc 12 8 ||| fld (l.rot + 1) 2 6 ||| fld cum 6 0
  let y := Cell.setWord x 1 w1
  Cell.setWord y 18 (w18Of y (cum / 64 % 64))

/-- The header of a codeword: SYNC and CWCNT (R83). -/
def cwHeader (count : Nat) : BitVec 20 := BitVec.ofNat 20 (0x34D * 1024 + count % 1024)

/-- A cell is driven on LN_TXD, in slot 0 behind its codeword's header and in slot 7 before the parity symbols of its
message (R83): the credit rotation and the slot move on. -/
def Chip.drive (c : Chip) (p : Nat) (x : Cell) (seq : Nat) : Chip :=
  c.modPort p fun y =>
    let out := y.link.seal x seq
    let last := y.code.txSlot == 7
    let msg := if y.code.txSlot == 0 then [out] else y.code.txMsg ++ [out]
    { y with
      link := { y.link with rot := (y.link.rot + 1) % 3 }
      code := { y.code with
        txHdr := cwHeader y.code.txCw, txd := out, txSlot := (y.code.txSlot + 1) % 8, txMsg := msg
        txPar := if last then messageParity (cwHeader y.code.txCw) msg else y.code.txPar
        txCw := if last then (y.code.txCw + 1) % 1024 else y.code.txCw } }

/-- The head cells of B, S and M that hold a credit, with the class of each. -/
def PortState.ready (x : PortState) : List (Nat × TxCell) :=
  let one (cls cred : Nat) (q : List TxCell) : List (Nat × TxCell) :=
    match q.head? with
    | some t => if 0 < cred then [(cls, t)] else []
    | none => []
  one clsB x.link.credB x.q.txB ++ one clsS x.link.credS x.q.txS ++ one clsM x.link.credM x.q.txM

/-- A cell has waited longer than AGE_MAX: a tick is 5/8 ns. -/
def Chip.waited (c : Chip) (t : TxCell) : Bool := decide (c.ageMax * 8 < (c.tk.frc - t.at_) * 5)

/-- The classes whose heads may leave now: on a fenced die those of B and S keep their places (R329; the spec gives
them no other end and lets no discard be silent, R11: DESIGN CHOICE, log entry 14). -/
def Chip.mayLeave (c : Chip) (p : Nat) : List (Nat × TxCell) :=
  (c.port p).ready.filter fun e => !c.hg.fenced || e.1 == clsM

/-- The aged head cell that entered its queue first; of two that entered at one tick, B goes before S and S before M
(DESIGN CHOICE, log entry 14: R93 names none). -/
def Chip.aged (c : Chip) (p : Nat) : Option Nat :=
  (((c.mayLeave p).filter fun e => c.waited e.2).foldl (fun b e =>
    match b with
    | none => some e
    | some f => if e.2.at_ < f.2.at_ then some e else some f) none).map fun e => e.1

/-- Weighted round robin over the ready classes: the turns left of this round, or of a new one. -/
def PortLink.wrr (l : PortLink) (ready : List Nat) : Option Nat × PortLink :=
  let pick (l : PortLink) : Option Nat × PortLink :=
    if 0 < l.turnB && ready.contains clsB then (some clsB, { l with turnB := l.turnB - 1 })
    else if 0 < l.turnS && ready.contains clsS then (some clsS, { l with turnB := 0, turnS := l.turnS - 1 })
    else if 0 < l.turnM && ready.contains clsM then
      (some clsM, { l with turnB := 0, turnS := 0, turnM := l.turnM - 1 })
    else (none, { l with turnB := 0, turnS := 0, turnM := 0 })
  match pick l with
  | (some k, l') => (some k, l')
  | (none, _) => pick { l with turnB := 8, turnS := 4, turnM := 1 }

/-- The head of a class leaves its transmit queue for the first time: it takes a sequence number, spends a
credit and enters the replay buffer (R90, R97). -/
def Chip.sendFirst (c : Chip) (p cls : Nat) : Chip :=
  let x := c.port p
  match (x.q.tx cls).head? with
  | none => c
  | some t =>
    let seq := x.link.nextSeq
    let kept := Cell.setWord t.cell 1 (fld seq 12 20)
    let c := c.modPort p fun y =>
      { y with
        q := (y.q.setTx cls ((y.q.tx cls).drop 1)).refill cls c.tk.frc
        link := { y.link with
          nextSeq := (seq + 1) % 4096, replay := y.link.replay ++ [kept], timerOn := true
          credB := y.link.credB - (if cls = clsB then 1 else 0)
          credS := y.link.credS - (if cls = clsS then 1 else 0)
          credM := y.link.credM - (if cls = clsM then 1 else 0) } }
    (c.drive p t.cell seq).count (0x410 + cls) (some p)

/-- The payload of a TICK at its transmission (R100), W2 to W12, so its LEN is 11; the zeros after it lie beyond LEN
(DESIGN CHOICE, log entry 13: R100 gives no LEN). -/
def Chip.tickWords (c : Chip) (p : Nat) : List Word :=
  let x := (c.port p).time
  let u := c.tr.crown.getD 0
  timeWords (x.tprev.getD 0) ++
    [Word.flag x.tprev.isSome 31 ||| fld c.sv.mode.code 3 28 ||| Word.flag c.tk.untraceable 27
       ||| Word.flag c.tk.valid 26 ||| fld c.sv.chan 1 25,
     if c.crownOn then c.reg Reg.TK_UTCOFF else c.tk.utcMirror] ++
    timeWords ((x.t3.map fun t => t.1).getD 0) ++
    [match x.t3 with
     | some t => Word.flag true 31 ||| fld t.2 16 0
     | none => 0,
     Word.part u 0, fld c.tr.hops 8 16 ||| fld (u >>> 32) 16 0]

/-- What sending a timing cell leaves behind: the transmit time at the reference plane (R85, R100, R101). -/
def PortTime.sent (x : PortTime) (cell : Cell) (t : Nat) : PortTime :=
  let id := Word.field (Cell.word cell 19) 0 16
  match cell.typ with
  | 0x10 => { x with tprev := some t }
  | 0x12 => { x with t3 := some (t, id) }
  | _ => { x with probes := x.probes.map fun q => if q.id = id && q.t1.isNone then { q with t1 := some t } else q }

/-- A timing cell goes out in slot 0. -/
def Chip.sendTiming (c : Chip) (p : Nat) (t : TxCell) (phase : Nat) : Chip :=
  let at_ := (c.tk.stamp c.tk.frc phase + c.latTx p) % 2 ^ 96
  let x := if t.cell.typ = 0x10 then mkCellW clsT 0x10 0 (c.tickWords p) (Cell.word t.cell 19) else t.cell
  let c := c.modQ p fun q => { q with txT := q.txT.drop 1 }
  let c := c.modTime p fun y => y.sent x at_
  (c.drive p x 0).count 0x411 (some p)

/-- A link-control cell or IDLE goes out. -/
def Chip.sendLink (c : Chip) (p : Nat) : Chip :=
  let x := (c.port p).q.txL.headD idleCell
  let c := c.modQ p fun q => { q with txL := q.txL.drop 1 }
  (c.drive p x 0).count 0x410 (some p)

/-- One cell slot of a lane that is UP (R93). -/
def Chip.slotUp (c : Chip) (p phase : Nat) : Chip :=
  let x := c.port p
  match x.code.txSlot, x.q.txT with
  | 0, t :: _ => c.sendTiming p t phase
  | _, _ =>
    match x.link.resend with
    | r :: _ =>
      let c := c.modLink p fun l => { l with resend := l.resend.drop 1 }
      c.drive p r r.seq
    | [] =>
      match c.aged p with
      | some k => ((c.sendFirst p k).bump Reg.LN_CNT_AGED 1 p).note Event.LN_AGED (some p)
      | none =>
        let w := x.link.wrr ((c.mayLeave p).map fun e => e.1)
        match w.1 with
        | some k => (c.modLink p fun _ => w.2).sendFirst p k
        | none => (c.modLink p fun _ => w.2).sendLink p

/-- The receiver has seen four good codewords in a row, in one polarity (R84). -/
def PortCode.seen (x : PortCode) : Bool := decide (4 ≤ x.good) || decide (4 ≤ x.goodInv)

/-- Codeword lock has been gained, in the polarity in which it was seen (R84). -/
def PortState.locked (x : PortState) : PortState :=
  let plain := decide (4 ≤ x.code.good)
  { x with
    cwlock := true, rxinv := !plain
    code := { x.code with bad := 0, last := if plain then x.code.last else x.code.lastInv } }

/-- One cell slot of a loopback check (R81): once its receiver has lock, 1,024 CALIB cells go out, each with its
stamp at the boundary; IDLE before and after them. -/
def Chip.slotCheck (c : Chip) (p phase : Nat) : Chip :=
  let x := c.port p
  if x.cwlock && x.check.sent < 1024 then
    let key := x.code.txCw * 8 + x.code.txSlot
    let c := c.modPort p fun y =>
      { y with check := { y.check with
        sent := y.check.sent + 1, out := SMap.insert y.check.out key (c.tk.stamp c.tk.frc phase) } }
    (c.drive p (mkCell clsL 0x04 0 []) 0).count 0x410 (some p)
  else (c.drive p idleCell 0).count 0x410 (some p)

/-- One cell slot of a port in any state that sends codewords (R104). -/
def Chip.slot (c : Chip) (p phase : Nat) : Chip :=
  match (c.port p).mode with
  | .down | .train => c
  | .cal => c.slotCheck p phase
  | .locking => (c.drive p idleCell 0).count 0x410 (some p)
  | .ident | .refused => c.sendLink p
  | .up => c.slotUp p phase

/-! ### Replay (R97) -/

/-- The oldest cell not yet acknowledged. -/
def PortLink.oldest (l : PortLink) : Nat := (l.nextSeq + 4096 - l.replay.length) % 4096

/-- An acknowledgement frees the cells it covers. -/
def Chip.ackTake (c : Chip) (p a : Nat) : Chip :=
  let l := (c.port p).link
  let n := (a + 1 + 4096 - l.oldest) % 4096
  if 0 < n && n ≤ l.replay.length then
    c.modLink p fun y =>
      { y with
        replay := y.replay.drop n, replays := 0, timerOn := n != y.replay.length
        resend := y.resend.filter fun r => (y.replay.drop n).any fun k => k.seq == r.seq }
  else c

/-- A credit return of the peer (R91). -/
def Chip.creditTake (c : Chip) (p cls cum : Nat) : Chip :=
  c.modLink p fun l =>
    match cls with
    | 1 => { l with credB := l.credB + (cum + 4096 - l.peerB) % 4096, peerB := cum }
    | 2 => { l with credS := l.credS + (cum + 4096 - l.peerS) % 4096, peerS := cum }
    | 3 => { l with credM := l.credM + (cum + 4096 - l.peerM) % 4096, peerM := cum }
    | _ => l

/-- The unacknowledged cells are sent again, or the lane goes down as REPLAY_EXH. -/
def Chip.replay (c : Chip) (p : Nat) : Chip :=
  let c := c.modLink p fun l => { l with replays := l.replays + 1 }
  if c.replayMax < (c.port p).link.replays then c.laneDown p 3
  else
    let some_ := !(c.port p).link.replay.isEmpty
    let c := c.modLink p fun l => { l with resend := l.replay, timerOn := some_ }
    if some_ then (c.bump Reg.LN_CNT_REPLAY 1 p).report Event.LN_REPLAY (lnRep p) else c

/-- A duplicate, or a spurious NAK. -/
def Chip.lnDup (c : Chip) (p : Nat) : Chip := (c.bump Reg.LN_CNT_DUP 1 p).report Event.LN_DUP (lnRep p)

/-- A NAK that carries an expected number. -/
def Chip.nakTake (c : Chip) (p e : Nat) : Chip :=
  let l := (c.port p).link
  let n := (e + 4096 - l.oldest) % 4096
  if e = l.nextSeq then c.lnDup p
  else if n < l.replay.length then
    (c.modLink p fun y => { y with replay := y.replay.drop n }).replay p
  else c

/-- A NAK leaves, unless one is already under way (R96): the timer runs for rtt + 1 µs. -/
def Chip.sendNak (c : Chip) (p : Nat) : Chip :=
  let x := c.port p
  let due := match x.link.nakAt with
    | none => true
    | some f => decide (x.time.rtt + 1000 ≤ (c.tk.frc - f) * 5 / 8)
  if due then
    (c.modLink p fun l => { l with nakAt := some c.tk.frc }).sendL p (nakCell x.link.expected)
  else c

/-! ### The receiver (R84, R85, R92, R96) -/

/-- A damaged cell that is not a timing cell. -/
def Chip.cellErr (c : Chip) (p : Nat) : Chip :=
  (c.bump Reg.LN_CNT_CELLERR 1 p).report Event.LN_CELL_ERR (lnRep p)

/-- A timing cell is discarded; a TICK costs the servo a sample (R100). -/
def Chip.tdrop (c : Chip) (p : Nat) (x : Cell) : Chip :=
  let c := (c.bump Reg.LN_CNT_TDROP 1 p).report Event.LN_TDROP (lnRep p)
  if x.typ = 0x10 then c.bump Reg.LN_CNT_SKIP 1 p else c

def Chip.unknownCell (c : Chip) (p : Nat) : Chip :=
  (c.bump Reg.LN_CNT_PROT 1 p).report Event.LN_UNKNOWN (lnRep p)

/-- Cells of a class that the receive buffer holds, and its size; a lane without the class has none. -/
def Chip.rxRoom (c : Chip) (p cls : Nat) : Bool :=
  let q := (c.port p).q
  c.carries p &&
    (if cls = clsB then decide (q.rxB.length < 64)
     else if cls = clsS then decide (q.rxS.length < 64)
     else decide (q.rxM.length < 32))

/-- An accepted cell enters its class buffer. -/
def Chip.rxPut (c : Chip) (p : Nat) (x : Cell) : Chip :=
  c.modQ p fun q =>
    if x.cls = clsB then { q with rxB := q.rxB ++ [x] }
    else if x.cls = clsS then { q with rxS := q.rxS ++ [x] }
    else { q with rxM := q.rxM ++ [x] }

/-- A cell of class B or S from an excluded child, whose lane carries T and M alone (R111): accepted by LLF, freed and
discarded as stale with reason 5 (DESIGN CHOICE, log entry 36). -/
def Chip.excludedDiscard (c : Chip) (p : Nat) (x : Cell) : Chip :=
  let c := c.modPort p fun y =>
    if x.cls = clsB then
      { y with q := { y.q with rxB := y.q.rxB.dropLast }, link := { y.link with freedB := (y.link.freedB + 1) % 4096 } }
    else
      { y with q := { y.q with rxS := y.q.rxS.dropLast }, link := { y.link with freedS := (y.link.freedS + 1) % 4096 } }
  c.stale x.group p 5 (cellGen x).1

/-- A good sequenced cell (R96). -/
def Chip.rxSequenced (c : Chip) (p : Nat) (x : Cell) : Chip :=
  let l := (c.port p).link
  let d := (x.seq + 4096 - l.expected) % 4096
  if d = 0 then
    if !(c.rxRoom p x.cls) then
      (c.bump Reg.LN_CNT_PROT 1 p).report Event.LN_CREDIT_OVR (lnRep p)
    else
      let c := c.modLink p fun y =>
        { y with lastAcc := y.expected, expected := (y.expected + 1) % 4096, nakAt := none }
      let c := (c.rxPut p x).count (0x418 + x.cls) (some p)
      if c.hg.fenced && (x.cls == clsB || x.cls == clsS) then c.fenceDiscard p x.cls
      else if c.excludedAt p && (x.cls == clsB || x.cls == clsS) then c.excludedDiscard p x
      else if x.typ = 0x45 && !(decide (1 ≤ Word.field (x.pay 2) 24 8 ∧ Word.field (x.pay 2) 24 8 ≤ 4)) then
        (c.modPort p fun y =>
          { y with
            q := { y.q with rxM := y.q.rxM.dropLast }
            link := { y.link with freedM := (y.link.freedM + 1) % 4096 } }).unknownCell p
      else c
  else if d < 2048 then
    ((c.bump Reg.LN_CNT_GAP 1 p).report Event.LN_SEQ_GAP (lnRep p)).sendNak p
  else c.lnDup p

/-- A good timing cell: its codeword's moment, moved to the reference plane, is its receive stamp. R99 discards an MKIND
outside 1 to 3; one within them that disagrees with the cell's TYPE is taken by the TYPE (DESIGN CHOICE, log entry 13: no
rule compares the two). -/
def Chip.rxTiming (c : Chip) (p : Nat) (x : Cell) (phase : Nat) : Chip :=
  let k := Word.field (Cell.word x 19) 28 4
  if k = 0 ∨ 3 < k then c.unknownCell p
  else if 16 ≤ (c.port p).q.rxT.length then c.tdrop p x
  else
    let t := (c.tk.stamp c.tk.frc phase + 2 ^ 96 - c.latRx p) % 2 ^ 96
    (c.modQ p fun q => { q with rxT := q.rxT ++ [{ cell := x, stamp := t : RxT }] }).count 0x419 (some p)

/-- A good link-control cell. -/
def Chip.rxLink (c : Chip) (p : Nat) (x : Cell) : Chip :=
  let c := c.count 0x418 (some p)
  if x.typ = 1 ∨ x.typ = 2 ∨ x.typ = 3 then c.modQ p fun q => { q with rxL := q.rxL ++ [x] } else c

/-- One cell of a received codeword (R96). ACK and CRET are taken from a cell of a known class, type and length
alone (DEDUCED, log entry 13: R97 takes them from any good cell, and R88 discards this one). On a port that is not UP,
which carries class L alone, a good cell of class T, B, S or M is discarded as one that is not known there (R11;
DESIGN CHOICE, log entry 13). -/
def Chip.rxCell (c : Chip) (p : Nat) (cw : Codeword) (x : Cell) : Chip :=
  let up := c.isUp p
  if cw.bad || !(Cell.parityGood x) then
    if x.w0Good && x.cls == clsT then c.tdrop p x
    else
      let c := c.cellErr p
      if up && !(x.w0Good && x.cls == clsL) then c.sendNak p else c
  else if !(Cell.known x) then c.unknownCell p
  else
    let c := if up then (c.ackTake p x.ack).creditTake p x.cretCls x.cretCount else c
    if x.cls = clsL then c.rxLink p x
    else if !up then c.unknownCell p
    else if x.cls = clsT then c.rxTiming p x cw.phase.val
    else c.rxSequenced p x

/-- The header of a codeword: SYNC, and CWCNT. -/
def hdrSync (h : BitVec 20) : Bool := h.toNat / 1024 == 0x34D
def hdrCount (h : BitVec 20) : Nat := h.toNat % 1024

/-- The run of consecutive good codewords after one more header. -/
def goodRun (run : Nat) (last : Option Nat) (h : BitVec 20) : Nat × Option Nat :=
  if hdrSync h then
    (match last with
     | some k => if hdrCount h = (k + 1) % 1024 then min 4 (run + 1) else 1
     | none => 1, some (hdrCount h))
  else (0, none)

/-- A receiver that seeks lock looks at a header in both polarities (R84). -/
def PortCode.seek (x : PortCode) (h : BitVec 20) : PortCode :=
  let a := goodRun x.good x.last h
  let b := goodRun x.goodInv x.lastInv (~~~h)
  { x with good := a.1, last := a.2, goodInv := b.1, lastInv := b.2 }

/-- A locked receiver judges a header: the expected count runs on. -/
def PortCode.track (x : PortCode) (cw : Codeword) : PortCode :=
  let want := ((x.last.getD 0) + 1) % 1024
  let ok := hdrSync cw.header && hdrCount cw.header == want && !cw.bad
  { x with last := some want, bad := if ok then 0 else min 8 (x.bad + 1) }

/-- A receiver with lock judges a codeword; one that cannot be corrected is reported (R84, R96). -/
def Chip.rxTrack (c : Chip) (p : Nat) (cw : Codeword) : Chip :=
  let c := c.modCode p fun y => y.track cw
  if cw.bad then (c.bump Reg.LN_CNT_FECUNC 1 p).report Event.LN_FEC_UNC (lnRep p) else c

/-- A CALIB cell of a loopback check comes back in a slot (R81): the round trip from its transmit stamp to its
receive stamp, which is the codeword's moved on by 3.2 ns a slot (R83). Both lie at the boundary, so no LLF latency
is in it. -/
def Chip.calibBack (c : Chip) (p : Nat) (cw : Codeword) (slot : Nat) (x : Cell) : Chip :=
  let k := (c.port p).check
  let key := hdrCount cw.header * 8 + slot
  if SMap.has k.out key then
    let good := !cw.bad && Cell.parityGood x && x.cls == clsL && x.typ == 0x04
    let rx := c.tk.stamp c.tk.frc cw.phase.val + slot * 32 * 2 ^ 32 / 10
    let trip : Int := signedOf 96 ((rx + 2 ^ 96 - SMap.find k.out key 0) % 2 ^ 96)
    let c := c.modPort p fun y =>
      { y with check := { y.check with
        out := SMap.erase y.check.out key
        got := if good then y.check.got + 1 else y.check.got
        sum := if good then y.check.sum + trip else y.check.sum } }
    if good then c.count 0x418 (some p) else c
  else c

/-- The receiver of a loopback check that has seen four good codewords has lock, with the polarity in which it saw them,
and one that has then seen eight bad ones seeks it again (R81, R84; log entry 15). -/
def PortState.checkLock (x : PortState) : PortState :=
  if !x.cwlock && x.code.seen then x.locked
  else if x.cwlock && decide (8 ≤ x.code.bad) then
    { x with cwlock := false, rxinv := false, code := { x.code with good := 0, goodInv := 0, last := none, lastInv := none } }
  else x

/-- A codeword of a loopback check: the receiver seeks lock, and then takes the CALIB cells; a damaged or unknown cell is
reported as on any lane (R81, R96). -/
def Chip.rxCheck (c : Chip) (p : Nat) (cw : Codeword) : Chip :=
  if (c.port p).cwlock then
    let c := c.rxTrack p cw
    let c := ((cw.cells.take 8).zipIdx).foldl (fun c e =>
      let c := c.calibBack p cw e.2 e.1
      if cw.bad || !(Cell.parityGood e.1) || !(Cell.known e.1) then c.rxCell p cw e.1 else c) c
    c.modPort p PortState.checkLock
  else c.modPort p fun y => ({ y with code := y.code.seek cw.header }).checkLock

/-- A codeword arrives and is decoded. -/
def Chip.rxCodeword (c : Chip) (p : Nat) (cw : Codeword) : Chip :=
  let x := c.port p
  match x.mode with
  | .down | .train => c
  | _ =>
    let c := c.count 0x420 (some p)
    let c := if 0 < cw.wrong && !cw.bad then
        (c.bump Reg.LN_CNT_FECCOR 1 p).count 0x421 (some p) cw.wrong
      else c
    let cw := cw.decoded
    if x.mode == .cal then c.rxCheck p cw
    else if x.mode == .locking then c.modCode p fun y => y.seek cw.header
    else
      let c := c.rxTrack p cw
      (cw.cells.take 8).foldl (fun c y => c.rxCell p cw y) c

/-! ### Tick markers and probes (R99 to R102, R133) -/

/-- A signed difference of two times. -/
def timeDiff (a b : Nat) : Int := signedOf 96 ((a + 2 ^ 96 - b) % 2 ^ 96)

/-- The marker word of a timing cell. -/
def markerWord (kind seq id : Nat) : Word := fld kind 4 28 ||| fld seq 12 16 ||| fld id 16 0

/-- A timing cell enters the transmit queue of its class, a TICK before the probes. One that finds the 8-cell
queue full is discarded, which the counts, flag and record of a discarded timing cell report (DESIGN CHOICE, log
entry 14). -/
def Chip.queueT (c : Chip) (p : Nat) (x : Cell) : Chip :=
  if 8 ≤ (c.port p).q.txT.length then
    (c.bump Reg.LN_CNT_TDROP 1 p).report Event.LN_TDROP (lnRep p)
  else
    let t : TxCell := { cell := x, at_ := c.tk.frc }
    c.modQ p fun q => { q with txT := if x.typ = 0x10 then t :: q.txT else q.txT ++ [t] }

/-- TICK is queued; its payload is filled in as it leaves. -/
def Chip.tickQueue (c : Chip) (p : Nat) : Chip :=
  let n := (c.port p).time.mseqTick
  (c.modTime p fun x => { x with mseqTick := (n + 1) % 4096 }).queueT p
    (mkCellW clsT 0x10 0 (List.replicate 11 0) (markerWord 1 n 0))

/-- A probe request is queued. -/
def Chip.preqQueue (c : Chip) (p : Nat) : Chip :=
  let x := (c.port p).time
  let probe : Probe := { id := x.nextId, t1 := none, t2 := none, t4 := none }
  (c.modTime p fun y =>
    { y with
      mseqReq := (x.mseqReq + 1) % 4096, nextId := (x.nextId + 1) % 65536
      probes := y.probes ++ [probe] }).queueT p
    (mkCellW clsT 0x11 0 [] (markerWord 2 x.mseqReq x.nextId))

/-- The head of a port's class T buffer, where it has a type. -/
def Chip.headT (c : Chip) (p typ : Nat) : Option RxT :=
  (c.port p).q.rxT.head?.filter fun x => x.cell.typ == typ

def Chip.popT (c : Chip) (p : Nat) : Chip := c.modQ p fun q => { q with rxT := q.rxT.drop 1 }

/-- A probe is complete: LN_MPD and LN_RTT, the sample, and the judgement of its lane. LN_MPD is taken to the
nearest 1/64 tick (DESIGN CHOICE, log entry 7: R101 states no rounding for it). -/
def Chip.probeDone (c : Chip) (p : Nat) (t1 t2 t3 t4 : Nat) : Chip :=
  let d := timeDiff t4 t1 - timeDiff t3 t2
  let mpd := divRound d (2 * unit64)
  let c := c.modTime p fun x => { x with mpd := mpd, rtt := ((d + (2 ^ 32 - 1 : Nat)) / (2 ^ 32 : Nat)).toNat }
  ((c.sample 0x02 p mpd).probeJudge p mpd).dieCensus

/-- T3 of a TICK completes the probe whose response is held. -/
def Chip.t3Take (c : Chip) (p : Nat) (x : Cell) : Chip :=
  if !(Word.bit (x.pay 10) 31) then c
  else
    match (c.port p).time.probes.find? fun q => q.id == Word.field (x.pay 10) 0 16 && q.t4.isSome with
    | some q =>
      let c := c.modTime p fun y => { y with probes := y.probes.filter fun r => r.id != q.id }
      c.probeDone p (q.t1.getD 0) (q.t2.getD 0) (Cell.time x 7) (q.t4.getD 0)
    | none => c

/-- The offset sample of a paired TICK (R133). -/
def Chip.offsetSample (c : Chip) (p : Nat) (x : Cell) (rx : Nat) : Chip :=
  match c.portCh p with
  | some k =>
    let corr : Int := (c.port p).time.mpd + (c.reg Reg.LN_ASYM p).toInt
    c.svSample k (timeDiff rx (Cell.time x 2) - corr * unit64)
  | none => c

/-- What a TICK brings of its sender (R61, R62, R100). -/
def Chip.tickFlags (c : Chip) (p : Nat) (x : Cell) : Chip :=
  let w5 := x.pay 5
  let c := c.modTime p fun y =>
    { y with
      tickW5 := w5, hops := Word.field (x.pay 12) 16 8
      tickCrown := Word.field (x.pay 12) 0 16 * 2 ^ 32 + (x.pay 11).toNat }
  match c.portCh p with
  | none => c
  | some k =>
    let c := c.modCh k fun y => { y with psv := Word.field w5 28 3, pvalid := Word.bit w5 26 }
    let crown := c.crownOn
    let take := if crown then (c.port p).peerCrown && c.peerCrownRef else c.sv.chan == k
    if take then
      let c := if crown then c else { c with tk := { c.tk with utcMirror := x.pay 6 } }
      c.traceSet (Word.bit w5 27)
    else c

/-- A TICK is received (R100). -/
def Chip.tickTake (c : Chip) (p : Nat) (r : RxT) : Chip :=
  let x := r.cell
  let n := Word.field (Cell.word x 19) 16 12
  let prev := Word.bit (x.pay 5) 31
  let pair := match (c.port p).time.lastRx with
    | some l => if (l.1 + 1) % 4096 = n then some l.2 else none
    | none => none
  let c := c.modTime p fun y => { y with lastRx := some (n, r.stamp) }
  let c := match prev, pair with
    | true, some rx => c.offsetSample p x rx
    | true, none => c.bump Reg.LN_CNT_SKIP 1 p
    | false, _ => c
  (c.tickFlags p x).t3Take p x

end Sys2Proof.Machine
end

