-- ==== Sys2Proof/Machine/Settle.lean ====
section
/-!
DEFINITION. Machine/Settle.lean: what follows from a change of a lane, of the tree, of a reference or of
time: `settle` lets the tree engine, the selection of references and the servo take their states. Then
the commands of the timekeeper, the servo and the references that are no register accesses.
-/

namespace Sys2Proof.Machine

/-! ### Settling -/

/-- A peer-crown reference is disqualified as its lane loses TQUAL (R145). -/
def Chip.refsFollow (c : Chip) : Chip :=
  ((List.range 8).filter fun r =>
    c.id.hub && c.refOn r && c.refType r == 6 && (c.ref r).qualified && !c.refSignal r).foldl Chip.refDisq c

/-- The tree engine, the references and the servo take the states that the ports and inputs now give them,
and fresh REFLECT cells leave (R116, R126, R137, R147). -/
def Chip.settle (c : Chip) : Chip :=
  let c := (c.ports.map fun e => e.1).foldl Chip.tqualEval c
  let c := c.treeEval
  let c := (c.refsFollow.rfEval).servoEval
  (c.crownTrace).reflectOut

/-! ### Timekeeper -/

/-- ANCHOR_BOUNDARY (R64): time passes to the next multiple of 1,024 ticks, and what happens there happens.
The taps named are those whose chain shows a fault at the boundary (R157). -/
def execAnchorBoundary (faults : List Tap) (s : State) : Host.Outcome State Fault Refusal :=
  s.apply fun c =>
    let c := c.boundary (if c.id.hub then [] else faults.map fun t => t.val)
    if c.inReset then c else c.settle

/-! ### Servo -/

/-- OFFSET_WINDOW_END (R133). -/
def execOffsetWindowEnd (s : State) : Host.Outcome State Fault Refusal := s.run fun c => c.windowEnd.settle

/-- HOLDOVER_TIMER_EXPIRY (R143): the timer is of the AON domain, so it runs out during main reset too (R364,
R365), where nothing else is there to settle. -/
def execHoldoverTimerExpiry (s : State) : Host.Outcome State Fault Refusal :=
  s.apply fun c =>
    if c.sv.mode != .holdover then c
    else
      let d := c.setSvMode .holdExpired 7
      if c.inReset then d else d.settle

/-- HORDY (R139). -/
def execHordy (s : State) : Host.Outcome State Fault Refusal :=
  s.run fun c =>
    if c.sv.mode == .locked && !c.sv.horeadyFlag then
      ({ c with sv := { c.sv with horeadyFlag := true } }).note Event.SV_HORDY
    else c

/-- FREQ_LOCK (R140): the PLL has an input and its error has stayed within ±50 ps for 1 ms. -/
def execFreqLock (s : State) : Host.Outcome State Fault Refusal :=
  s.run fun c =>
    if c.pllChoice.1 != 0 && !c.sv.freqLocked then
      ({ c with sv := { c.sv with freqLocked := true, flockAt := some c.tk.frc } }).settle
    else c

/-- FLOCK_LOST (R137, R140): the error leaves ±50 ps while the input is present. -/
def execFlockLost (s : State) : Host.Outcome State Fault Refusal :=
  s.run fun c =>
    if c.pllChoice.1 != 0 && c.sv.freqLocked then
      let c := c.flockEnd.report Event.SV_FLOCK_LOST
      (if c.sv.mode == .locked then c.setSvMode .acquire 4 else c).settle
    else c

/-- BUILD_OUT_DECAY (R142): one µs of decay. -/
def execBuildOutDecay (s : State) : Host.Outcome State Fault Refusal := s.run Chip.boTick

/-- PLANE_REVERT (R141): channel 0 of a die has been good for 10 s. -/
def execPlaneRevert (s : State) : Host.Outcome State Fault Refusal :=
  s.runDie fun c =>
    if Word.bit (c.reg Reg.SV_CFG) 31 && c.sv.chan == 1 && c.good 0 then (c.svSwitchTo 0).settle else c

/-- SV_CMD (R137, R141). -/
def Chip.svSwitchCmd (c : Chip) : Chip :=
  let k := 1 - c.sv.chan
  if c.good k then (c.svSwitchTo k).settle else c.report Event.SV_SW_REFUSED

def Chip.svForceAcq (c : Chip) : Chip :=
  match c.sv.mode with
  | .locked | .holdover | .holdExpired => (c.setSvMode .acquire 3).settle
  | .freerun | .acquire => c

/-! ### References -/

/-- REF_SIGNAL_LOSS (R145). -/
def execRefSignalLoss (ref : RefIn) (s : State) : Host.Outcome State Fault Refusal :=
  s.runHub fun c =>
    if c.refOn ref.val && c.refType ref.val != 6 then (c.refLoss ref.val).settle else c

/-- RF_RFREQ lies within ±4.6 ppm, or the reference is the PLL input; RF_RWANDER within RF_RQUAL.PSTAB (R146). -/
def Chip.refWithin (c : Chip) (r : Nat) : Bool :=
  let x := c.ref r
  (c.pllChoice == (3, r) || decide (x.freq.toInt.natAbs ≤ 4600000))
    && decide (x.wander.toNat ≤ Word.field (c.reg Reg.RF_RQUAL r) 0 16)

/-- REF_QUAL (R146): signal, frequency and phase have held for the hold-off. -/
def execRefQual (ref : RefIn) (s : State) : Host.Outcome State Fault Refusal :=
  s.runHub fun c =>
    let r := ref.val
    if c.refOn r && c.refSignal r && c.refWithin r && !(c.ref r).qualified then (c.refQualify r).settle else c

/-- REF_DISQ (R146): the frequency or the phase has left its limits. -/
def execRefDisq (ref : RefIn) (s : State) : Host.Outcome State Fault Refusal :=
  s.runHub fun c => (c.refDisq ref.val).settle

/-- WTR_EXPIRY (R146): the reference has stayed qualified for the wait-to-restore. -/
def execWtrExpiry (ref : RefIn) (s : State) : Host.Outcome State Fault Refusal :=
  s.runHub fun c =>
    let r := ref.val
    if (c.ref r).qualified && (c.ref r).wtrStart.isSome then
      (c.modRef r fun x => { x with eligible := true, wtrStart := none, wasDisq := false }).settle
    else c

/-- Enabled references on an input pin. -/
def Chip.pinRefs (c : Chip) (pin : Nat) : List Nat :=
  (List.range 8).filter fun r =>
    c.refOn r && [1, 2, 3, 5, 7].contains (c.refType r) && c.refSrc r / 16 == pin

/-- An edge of a reference: its stamp, and what the measurements then show, which the spec leaves open but
for the reference that is the PLL input (R146; log entry 35). -/
def Chip.refEdge (c : Chip) (stamp r : Nat) : Chip :=
  let f := c.takeFree
  let g := f.2.takeFree
  let own := c.pllChoice == (3, r)
  g.2.modRef r fun x =>
    { x with
      signal := x.signal || c.refType r != 1
      lastEdge := some stamp, freq := if own then 0 else f.1, wander := g.1 }

/-- REF_EDGE (R191): a rising edge of a reference input, stamped under R73. -/
def execRefEdge (pin : OutPin) (phase : Fin 64) (s : State) : Host.Outcome State Fault Refusal :=
  s.runHub fun c =>
    let p := pin.val
    if !c.pw.io then c
    else
      let seen := (c.po1 p).activity
      let c := c.pinEdges (0x410 + p) 1 (if seen then 1 else 0)
      let c := c.modPo p fun x => { x with activity := true, openIn := false }
      let stamp := c.tk.stamp c.tk.frc phase.val
      ((c.pinRefs p).foldl (fun c r => c.refEdge stamp r) c).settle

/-- PPS_INV (R192): a 1PPS input is high for more than 501 ms in 3 consecutive seconds. -/
def execPpsInv (pin : OutPin) (s : State) : Host.Outcome State Fault Refusal :=
  s.runHub fun c =>
    let p := pin.val
    let refs := (c.pinRefs p).filter fun r => c.refType r == 1
    if refs.isEmpty || (c.po1 p).inverted || !c.pw.io then c
    else
      let auto := Word.bit (c.reg Reg.PO_ICFG p) 29
      let c := c.modPo p fun x => { x with inverted := true, corrected := auto, pinHeld := !auto }
      let c := c.report Event.PO_PPS_INV (pinRep p)
      (if auto then c else refs.foldl Chip.refLoss c).settle

/-- TAI − UTC in seconds, as TK_UTCOFF holds it (R62). -/
def Chip.utcOffset (c : Chip) : Int :=
  signedOf 16 (Word.field (c.reg Reg.TK_UTCOFF) 0 16)

/-- A sentence labels the pulse that precedes it, or is discarded (R149). -/
def Chip.todLabel (c : Chip) (ok : Bool) (utc r : Nat) : Chip :=
  let age (t : Nat) : Int := timeDiff c.now t
  let ms : Int := 1000000 * nsUnit
  match (c.ref r).lastEdge with
  | some t =>
    if ok && decide (10 * ms ≤ age t ∧ age t ≤ 950 * ms) then
      let tai : Int := ((utc : Int) + c.utcOffset) * 1000000000 * nsUnit
      c.modRef r fun x =>
        { x with
          signal := !(c.po1 (c.refSrc r / 16)).pinHeld
          phase := BitVec.ofInt 64 (divRound ((t : Int) - tai) unit64) }
    else c.report Event.RF_TOD_BAD (rfRep r)
  | none => c.report Event.RF_TOD_BAD (rfRep r)

/-- TOD_SENTENCE (R149, R181): a sentence ends on a UART while controller firmware runs. -/
def execTodSentence (uart : Fin 2) (ok : Bool) (utc : BitVec 40) (s : State) : Host.Outcome State Fault Refusal :=
  s.run fun c =>
    let u := uart.val
    if !c.pw.io then c
    else
      let f := c.takeFree
      let c := (f.2.pinEdges (0x420 + u) f.1.toNat f.1.toNat)
      let c := { c with po := { c.po with uartAct := c.po.uartAct ||| 2 ^ u } }
      if !c.fw.running then c
      else
        let c :=
          if Word.bit (c.reg Reg.TS_SWCFG) 0 then
            let r := c.softStamp
            r.2.swEnter (4 + u) r.1
          else c
        if !c.id.hub then c
        else
          let refs := (List.range 8).filter fun r => c.refOn r && c.refType r == 1 && c.refSrc r % 2 == u
          (refs.foldl (fun c r => c.todLabel ok utc.toNat r) c).settle

/-- A PTP message is discarded (R149). -/
def Chip.ptpDiscard (c : Chip) (r : Nat) : Chip := c.report Event.RF_PTP_DISC (rfRep r)

/-- A message of the domain of a reference (R149). The sender of a Sync stands for the domain's master, and a Follow_Up
belongs to the Sync of its sequence number (DESIGN CHOICE, log entry 35: the best-master algorithm is the firmware's,
whose Announce messages have no command, and R149 names no more of "matching"). -/
def Chip.ptpTake (c : Chip) (r : Nat) (msg : PtpMsg) : Chip :=
  match msg.kind with
  | .sync =>
    if !msg.stamped || !msg.twoStep then c.ptpDiscard r
    else
      let changed := (c.ref r).ptpSrc.isSome && (c.ref r).ptpSrc != some msg.src
      let c := if changed then c.refDisq r else c
      c.modRef r fun x => { x with ptpSrc := some msg.src, ptpSync := some (msg.seq.toNat, c.tk.frc) }
  | .followUp =>
    match (c.ref r).ptpSync with
    | some (n, f) =>
      if n = msg.seq.toNat && decide (c.tk.frc - f ≤ 1600000000) then
        let a := c.takeFree
        let b := a.2.takeFree
        let f := b.2.takeFree
        let g := f.2.takeFree
        g.2.modRef r fun x =>
          { x with signal := true, ptpSync := none, phase := Word.join a.1 b.1, freq := f.1, wander := g.1 }
      else c.ptpDiscard r
    | none => c.ptpDiscard r
  | .event => if msg.stamped then c else c.ptpDiscard r
  | .general => c

/-- PTP_MESSAGE (R149): a message reaches the ordinary clock that controller firmware runs. -/
def execPtpMessage (msg : PtpMsg) (s : State) : Host.Outcome State Fault Refusal :=
  s.runHub fun c =>
    if !c.fw.running then c
    else
      let here := (List.range 8).filter fun r =>
        c.refOn r && c.refType r == 4 && c.refSrc r % 64 == msg.tap.val
      match here.find? fun r => Word.field (c.refCfg r) 0 8 == msg.domain.toNat with
      | some r => (c.ptpTake r msg).settle
      | none =>
        match here.head? with
        | some r => c.ptpDiscard r
        | none => c

/-- HO_TRACE (R150): holdover has lasted RF_HOTRACE seconds, and firmware clears TRACEABLE. While no firmware runs, the
expiry is neither acted on nor counted, flagged or recorded (DESIGN CHOICE, log entry 18: R150 gives the whole of it to
firmware). -/
def execHoTrace (s : State) : Host.Outcome State Fault Refusal :=
  s.runHub fun c =>
    if c.fw.running && c.crownOn && c.rf.holdover && !c.rf.hoTraceDone then
      let c := c.setReg Reg.TK_EPOCH (c.reg Reg.TK_EPOCH &&& 0xFFFFFFFE)
      let c := { c with rf := { c.rf with hoTraceDone := true } }
      (c.report Event.RF_HO_TRACE).settle
    else c

/-- AGEING_READY (R150): 24 h of learning while a time reference was selected. -/
def execAgeingReady (s : State) : Host.Outcome State Fault Refusal :=
  s.runHub fun c =>
    if c.fw.running && c.rf.selected.isSome then { c with rf := { c.rf with ageingReady := true } } else c

end Sys2Proof.Machine
end

