-- ==== Sys2Proof/Machine/TreeCmds.lean ====
section
/-!
DEFINITION. Machine/TreeCmds.lean: the commands of the tree engine that are no register accesses (R110 to
R131): TREE cells, the root timer, losses, notices and remote register requests.
-/

namespace Sys2Proof.Machine

/-! ### TREE cells -/

/-- The TREE cell of a kind at the head of a port's class M buffer leaves it. -/
def Chip.treeAt (c : Chip) (p kind : Nat) (f : Chip → Cell → Chip) : Chip :=
  match c.headM p 0x45 with
  | some x => if Word.field (x.pay 2) 24 8 == kind then (f (c.popRx p clsM 1) x).settle else c
  | none => c

/-- TRACE_RECEIVE (R119): dropped at a root, or when HOPS exceeds 8. -/
def execTraceReceive (port : Port) (s : State) : Host.Outcome State Fault Refusal :=
  s.runPort port fun c =>
    c.treeAt port.val 4 fun c x =>
      let uid (k : Nat) : Nat := Word.field (x.pay (k + 1)) 0 16 * 2 ^ 32 + (x.pay k).toNat
      let hops := Word.field (x.pay 2) 0 8 + 1
      if !c.id.hub || 64 ≤ port.val then c
      else if uid 3 == c.id.uid then
        if uid 5 == c.id.uid && c.upPort.isSome then c.refuse c.activeUp 3 Event.LN_WIRE_CYCLE else c
      else
        let root := c.tr.mode == .crown || c.tr.mode == .conflict || c.tr.mode == .crownless
        match c.upPort with
        | some u =>
          if 8 < hops || root then c
          else
            let m := max (uid 5) c.id.uid
            c.sendCells u clsM [mkCell clsM 0x45 0
              [Word.place 4 24 ||| fld hops 8 0, x.pay 3, x.pay 4, Word.part m 0, Word.part (m % 2 ^ 48) 1]]
        | none => c

/-- ROOT_TIMER_EXPIRY (R114, R118). -/
def execRootTimerExpiry (s : State) : Host.Outcome State Fault Refusal :=
  s.runHub fun c =>
    if c.tr.mode == .rootwait && !c.tr.joinedSinceReset then c.becomeRoot.settle else c

/-- A stale REFLECT (R116): the third parameter says which. -/
def Chip.reflStale (c : Chip) (why : Nat) : Chip :=
  c.report Event.TR_STALE { p3 := some (BitVec.ofNat 32 why) }

/-- A REFLECT reaches a die: it gives the address; one that differs from the other plane's makes the lane
handshake anew for class T alone (R113, R108). -/
def Chip.reflDie (c : Chip) (p : Nat) (l : List Word) : Chip :=
  let other := SMap.find c.tr.kept (1 - p) []
  if !other.isEmpty && reflAddr other != reflAddr l then
    let c := c.report Event.LN_WIRE_ADDR (lnRep p)
    (c.modPort p fun x => { x with restrictNext := true }).laneDown p 8
  else
    let c := { c with tr := { c.tr with kept := SMap.insert c.tr.kept p l } }
    c.learnAddr (reflAddr l) (some p)

/-- A REFLECT reaches an upstream port of a hub (R116, R117). -/
def Chip.reflHub (c : Chip) (p : Nat) (l : List Word) : Chip :=
  let c := { c with tr := { c.tr with kept := SMap.insert c.tr.kept p l } }
  if p != c.activeUp then c
  else
    match c.tr.mode with
    | .crown | .conflict => c.crownMeets p l
    | _ => c.reflJoin p l

/-- REFLECT_RECEIVE (R113, R116). -/
def execReflectReceive (port : Port) (s : State) : Host.Outcome State Fault Refusal :=
  s.runPort port fun c =>
    c.treeAt port.val 2 fun c x =>
      let p := port.val
      let l := x.payload.take 5
      let applies := !c.id.hub || p == c.activeUp
      if c.id.hub && p < 64 then c.reflStale 2
      else if applies && c.reflOlder l then c.reflStale 1
      else if c.id.hub then c.reflHub p l
      else c.reflDie p l

/-- SUMMARY_SEND (R120): the content has changed, and TR_PACE has passed. -/
def execSummarySend (s : State) : Host.Outcome State Fault Refusal :=
  s.runHub fun c =>
    let w := c.summaryWords
    let may := match c.tr.mode with
      | .joined | .discover => true
      | .idle | .rootwait | .crown | .crownless | .orphan | .conflict => false
    match c.upPort with
    | some u =>
      if may && c.tr.lastSummary != some w then
        let n := c.tr.sseq
        let w2 := w.headD 0 ||| Word.place 1 24 ||| fld n 16 0
        ({ c with tr := { c.tr with lastSummary := some w, sseq := (n + 1) % 65536 } }).sendCells u clsM
          [mkCell clsM 0x45 0 (w2 :: w.drop 1)]
      else c
    | none => c

/-- SUMMARY_RECEIVE (R120). -/
def execSummaryReceive (port : Port) (s : State) : Host.Outcome State Fault Refusal :=
  s.runPort port fun c =>
    c.treeAt port.val 1 fun c x =>
      if !c.id.hub || 64 ≤ port.val then c
      else
        let w2 := x.pay 2
        let w6 := x.pay 6
        c.modKid port.val fun _ =>
          { level := Word.field w2 20 4, slow := Word.bit w2 19
            members := Word.field (x.pay 3) 0 25, locked := Word.field (x.pay 4) 0 25
            hubs := Word.field (x.pay 5) 0 19
            best := if Word.bit w6 23 then
                some (Word.field w6 24 8, Word.field w6 0 16 * 2 ^ 32 + (x.pay 7).toNat)
              else none }

/-- MLOSS_RECEIVE (R125): applied to the tree census and the entries, queued, and forwarded. The parent of a fenced
die reports the loss, and the die stays lost until its lane comes UP again (R329). -/
def execMlossReceive (port : Port) (s : State) : Host.Outcome State Fault Refusal :=
  s.runPort port fun c =>
    c.treeAt port.val 3 fun c x =>
      let p := port.val
      if !c.id.hub || 64 ≤ p then c
      else
        let n := Word.field (x.pay 4) 0 25
        let fenced := !(c.port p).peerHub && c.dieCounts p
        let c := if (c.port p).peerHub then
            c.modKid p fun k => { k with members := k.members - n, locked := min k.locked (k.members - n) }
          else { c with tr := { c.tr with lostAt := p :: c.tr.lostAt.filter fun q => q != p } }
        let c := if fenced then
            c.report Event.TR_MLOSS
              { p1 := some (fld (Word.field (x.pay 3) 0 24) 24 0), p2 := some (BitVec.ofNat 32 n) }
          else c
        let c := c.portLost p
        let c := c.mlqPut (Word.field (x.pay 2) 20 4) (Word.field (x.pay 2) 16 4) (Word.field (x.pay 3) 0 24) n
          (Cell.time x 5)
        match c.upPort with
        | some u => c.sendCells u clsM [mkCell clsM 0x45 0 (x.payload.take 6)]
        | none => c

/-- START_SLOW (R123): 1 s after its first lane was UP the Lyspen is not LOCKED. -/
def execStartSlow (s : State) : Host.Outcome State Fault Refusal :=
  s.run fun c =>
    if !c.tr.firstUp || c.sv.mode == .locked || c.tr.startSlow then c
    else
      let c := { c with tr := { c.tr with startSlow := true } }
      if c.tr.slowReported then c
      else ({ c with tr := { c.tr with slowReported := true } }).report Event.TR_START_SLOW

/-! ### TR_CTRL (R117, R118, R126) -/

def Chip.trClaim (c : Chip) : Chip :=
  match c.tr.mode with
  | .orphan | .conflict => c.becomeCrown.settle
  | _ => c

/-- YIELD: the hub joins the crown above it. -/
def Chip.trYield (c : Chip) : Chip :=
  if c.tr.mode == .conflict then
    (({ c with tr := { c.tr with mode := .joined, joinedSinceReset := true } }).reflKept).settle
  else c

/-- REVERT_NOW: back to the primary upstream, where that is UP and qualified. -/
def Chip.trRevert (c : Chip) : Chip :=
  if c.tr.mode == .joined && c.tr.upAlt && c.upUsable 64 && (c.port 64).tqual then (c.upSwitch 64).settle else c

/-! ### Remote register requests (R127 to R129) -/

/-- A response enters the queue of the issuer; one that finds its 16 entries full is discarded, counted, flagged
and recorded as QUEUE_OVR with its target (DESIGN CHOICE, log entry 44). -/
def Chip.rrspPut (c : Chip) (tag rseq status kind target : Nat) (data : Word) : Chip :=
  if 16 ≤ c.tr.rrsp.length then c.report Event.TR_QUEUE_OVR { p1 := some (BitVec.ofNat 32 target) }
  else
    let r : Rrsp :=
      { word0 := Word.flag true 31 ||| fld rseq 8 20 ||| fld status 4 16 ||| fld kind 3 12 ||| fld tag 4 0
        data := data, target := BitVec.ofNat 32 target }
    { c with tr := { c.tr with rrsp := c.tr.rrsp ++ [r] } }

/-- The issuer's level and address, as W5 of a request and W4 of a response carry them. -/
def Chip.issuerWord (c : Chip) : Word := fld c.tr.level 4 24 ||| fld (c.tr.addr.getD 0) 24 0

/-- The port of a hub on which a request for a target goes on, where it is UP, carries class M and is not excluded. -/
def Chip.rraPort (c : Chip) (target : Nat) : Option Nat :=
  let q := c.portTo target
  if c.below target && c.carries q && !c.excludedAt q then some q else none

/-- A request meets no way on: discarded here, and answered by the caller. -/
def Chip.noRoute (c : Chip) : Chip := c.report Event.TR_RRA_NOROUTE

/-- A response reaches its issuer (R129). -/
def Chip.rrspHome (c : Chip) (tag rseq status kind : Nat) (data : Word) : Chip :=
  match SMap.find (c.tr.tags.map fun e => (e.1, some e.2)) tag none with
  | some o =>
    if o.rseq = rseq then
      ({ c with tr := { c.tr with tags := SMap.erase c.tr.tags tag } }).rrspPut tag rseq status kind o.target data
    else c.report Event.TR_RRA_LATE
  | none => c.report Event.TR_RRA_LATE

/-- A write of TR_RRA_GO (R127); an operation other than read and write issues nothing. -/
def Chip.rraIssue (c : Chip) (m : Master) (w : Word) : Chip :=
  let op := Word.field w 28 4
  let tag := Word.field w 0 4
  let target := Word.field (c.regOf m Reg.TR_RRA_TGT) 0 24
  if op != 1 && op != 2 then c
  else
    let n := c.tr.rseq
    let c := { c with tr := { c.tr with rseq := (n + 1) % 256 } }
    if 16 ≤ c.tr.rrsp.length then c.report Event.TR_RRA_BUSY
    else if !(c.below target) then c.rrspPut tag n 1 0 target 0
    else if SMap.has c.tr.tags tag then (c.rrspPut tag n 4 0 target 0).report Event.TR_RRA_BUSY
    else
      let c := { c with tr := { c.tr with tags := SMap.insert c.tr.tags tag { target := target, rseq := n } } }
      let c := c.count 0x490 none
      let cell := mkCell clsM 0x40 0
        [fld op 4 28 ||| fld target 24 0,
         fld tag 4 28 ||| fld n 8 20 ||| fld (c.regOf m Reg.TR_RRA_REG).toNat 18 0, c.regOf m Reg.TR_RRA_DATA,
         c.issuerWord]
      match c.rraPort target with
      | some q => c.sendCells q clsM [cell]
      | none => (c.noRoute).rrspHome tag n 1 0 0

/-- An RRSP for a request (R131). -/
def rrspCell (req : Cell) (status kind : Nat) (data : Word) : Cell :=
  mkCell clsM 0x41 0
    [(req.pay 3 &&& 0xFFF00000) ||| fld status 4 16 ||| fld kind 3 12, data, req.pay 5]

/-- RREQ_RECEIVE (R127): a hub sends a request on, or back as NOROUTE. -/
def execRreqReceive (port : Port) (s : State) : Host.Outcome State Fault Refusal :=
  s.runPort port fun c =>
    match c.headM port.val 0x40 with
    | some x =>
      if !c.id.hub then c
      else
        let c := c.popRx port.val clsM 1
        match c.rraPort (Word.field (x.pay 2) 0 24) with
        | some q => c.sendCells q clsM [mkCell clsM 0x40 0 (x.payload.take 4)]
        | none => (c.noRoute).sendCells port.val clsM [rrspCell x 1 0 0]
    | none => c

/-- RRSP_RECEIVE (R128, R129): home at its issuer, or up. One that meets no way up is discarded as RRA_LATE (DESIGN
CHOICE, log entry 44). -/
def execRrspReceive (port : Port) (s : State) : Host.Outcome State Fault Refusal :=
  s.runPort port fun c =>
    match c.headM port.val 0x41 with
    | some x =>
      let c := c.popRx port.val clsM 1
      let w := x.pay 2
      if !c.id.hub then c
      else if x.pay 4 == c.issuerWord then
        c.rrspHome (Word.field w 28 4) (Word.field w 20 8) (Word.field w 16 4) (Word.field w 12 3) (x.pay 3)
      else
        match c.upPort with
        | some u => c.sendCells u clsM [mkCell clsM 0x41 0 (x.payload.take 3)]
        | none => c.report Event.TR_RRA_LATE
    | none => c

/-- RRA_TMO (R129): TR_RRA_TMO has passed since the request. -/
def execRraTmo (tag : Tag) (s : State) : Host.Outcome State Fault Refusal :=
  s.runHub fun c =>
    match SMap.find (c.tr.tags.map fun e => (e.1, some e.2)) tag.val none with
    | some o =>
      let c := { c with tr := { c.tr with tags := SMap.erase c.tr.tags tag.val } }
      (c.rrspPut tag.val o.rseq 2 0 o.target 0).report Event.TR_RRA_TMO
    | none => c

/-! ### Notices (R56, R130) -/

/-- A notice is queued, replaces the one of the same member, or finds the queue full. -/
def Chip.inqPut (c : Chip) (member : Nat) (s0 s1 : Word) : Chip :=
  let put (q : List (Nat × Word × Word)) : Chip :=
    ({ c with tr := { c.tr with inq := q } }).flag 0x09 16 none
  if c.tr.inq.any fun e => e.1 == member then
    put (c.tr.inq.map fun e => if e.1 = member then (member, s0, s1) else e)
  else if c.tr.inq.length < 32 then put (c.tr.inq ++ [(member, s0, s1)])
  else c.report Event.TR_QUEUE_OVR { p1 := some (BitVec.ofNat 32 member) }

/-- INOTE_RECEIVE (R130): queued here, or sent on up. One that meets no way up with MGMT_NOTE 0 is discarded as
QUEUE_OVR with its member (DESIGN CHOICE, log entry 44). -/
def execInoteReceive (port : Port) (s : State) : Host.Outcome State Fault Refusal :=
  s.runPort port fun c =>
    match c.headM port.val 0x44 with
    | some x =>
      let c := c.popRx port.val clsM 1
      if !c.id.hub then c
      else if c.mgmtNote then c.inqPut (Word.field (x.pay 4) 0 24) (x.pay 2) (x.pay 3)
      else
        match c.upPort with
        | some u => c.sendCells u clsM [mkCell clsM 0x44 0 (x.payload.take 3)]
        | none => c.report Event.TR_QUEUE_OVR { p1 := some (fld (Word.field (x.pay 4) 0 24) 24 0) }
    | none => c

end Sys2Proof.Machine
end

