-- ==== Sys2Proof/Machine/LaneCmds.lean ====
section
/-!
DEFINITION. Machine/LaneCmds.lean: the commands of the lane ports that are no register accesses (R81 to
R108): bring-up and loopback check, codewords and cell slots, the handshake, replay, tick markers and
probes.
-/

namespace Sys2Proof.Machine

/-! ### Bring-up (R81, R104) -/

def Chip.portOn (c : Chip) (p : Nat) : Bool :=
  Word.bit (c.reg Reg.LN_PCTRL p) 0 && !(Word.bit (c.reg Reg.LN_PCTRL p) 6)

/-- A port that trains: it goes on to LOCKING once its PMA is ready. -/
def Chip.train (c : Chip) (p : Nat) : Chip :=
  c.modPort p fun x => { x with mode := if x.pmaRdy then .locking else .train }

/-- The loopback check of a port starts; a port that was UP goes down for it (R81). PMA_LAT_OK is 0 from then until the
check passes, so that one abandoned leaves it 0 (R375). -/
def Chip.calStart (c : Chip) (p : Nat) : Chip :=
  if !c.pw.lanesReleased || (c.port p).mode == .cal then c
  else
    let c := if c.isUp p then c.laneDown p 6 else c
    (c.modPort p fun x => { x.cleared with mode := .cal, pmaLatOk := false }).mpdForget p

/-- A write of LN_PCTRL has taken effect: PEN clear or FORCE_DOWN set takes the port down (R107), CAL
starts the loopback check. -/
def Chip.pctrlApply (c : Chip) (p : Nat) (cal : Bool) : Chip :=
  let c := if c.portOn p then c else c.laneDown p 5
  (if cal then c.calStart p else c).settle

/-- PORT_START (R104, R81): a port in DOWN whose conditions hold. -/
def execPortStart (port : Port) (s : State) : Host.Outcome State Fault Refusal :=
  s.runPort port fun c =>
    let p := port.val
    if (c.port p).mode == .down && c.pw.lanesReleased && c.portOn p then
      if (c.port p).calDue then c.calStart p else (c.train p).settle
    else c

/-- LN_PMA_MEAS of a loopback check: the mean round trip of its CALIB cells, in 1/64 tick; none where none came
back in the 60 µs (R81; log entry 15). -/
def PortCheck.mean (k : PortCheck) : Option Nat :=
  if k.got = 0 then none else some ((divRound k.sum (k.got * unit64)).toNat % 2 ^ 24)

/-- LOOPBACK_CHECK_DONE (R81): the 1,024 CALIB cells have come back, or the 60 µs have passed. What LN_PMA_MEAS holds
where not one came back, which R81 leaves open, is the operand (log entry 15). -/
def execLoopbackCheckDone (port : Port) (meas : BitVec 24) (s : State) : Host.Outcome State Fault Refusal :=
  s.runPort port fun c =>
    let p := port.val
    if (c.port p).mode != .cal then c
    else
      let lat (r : RegRow) : Int := Word.field (c.reg r p) 0 24
      let m := (c.port p).check.mean.getD meas.toNat
      let sum := lat Reg.LN_PMA_LAT_TX + lat Reg.LN_PMA_LAT_RX + lat Reg.LN_PMA_LAT_LB
      let ok := decide (((m : Int) - sum).natAbs ≤ 6)
      let c := c.modPort p fun x => { x.cleared with meas := m, pmaLatOk := ok, calDue := false, mode := .down }
      let c := if ok then c else c.report Event.LN_PMA_LAT_BAD (lnRep p)
      (if c.portOn p then c.train p else c).settle

/-- A write of a declared latency (R81). -/
def Chip.latWritten (c : Chip) (p : Nat) : Chip :=
  ((c.modPort p fun x => { x with pmaLatOk := false }).settle).dieCensus

/-- PMA_READY (R104). -/
def execPmaReady (port : Port) (s : State) : Host.Outcome State Fault Refusal :=
  s.runPort port fun c =>
    let c := c.modPort port.val fun x => { x with pmaRdy := true }
    (if (c.port port.val).mode == .train then c.train port.val else c).settle

/-- PMA_READY_LOSS (R107). -/
def execPmaReadyLoss (port : Port) (s : State) : Host.Outcome State Fault Refusal :=
  s.runPort port fun c =>
    let p := port.val
    let c := c.modPort p fun x => { x with pmaRdy := false }
    match (c.port p).mode with
    | .locking | .ident | .up | .refused => (c.laneDown p 1).settle
    | .down | .cal | .train => c

/-- FREQ_OK (R33): LN_RCLK is within ±250 ppm of LN_REFCLK, or no longer. -/
def execFreqOk (port : Port) (ok : Bool) (s : State) : Host.Outcome State Fault Refusal :=
  s.runPort port fun c => (c.modPort port.val fun x => { x with freqOk := ok }).settle

/-- LANE_RESET (R107, R364): a loopback check under way is abandoned, and runs again (R375). -/
def execLaneReset (port : Port) (s : State) : Host.Outcome State Fault Refusal :=
  s.runPort port fun c =>
    let p := port.val
    let due := (c.port p).mode == .cal || (c.port p).calDue
    ((c.laneDown p 7).modPort p fun x => { x with calDue := due }).settle

/-! ### Codewords and cells -/

/-- CODEWORD_RECEIVE (R84, R96). -/
def execCodewordReceive (port : Port) (cw : Codeword) (s : State) : Host.Outcome State Fault Refusal :=
  s.runPort port fun c => c.rxCodeword port.val cw

/-- CODEWORD_LOCK (R84): four good codewords in either polarity. -/
def execCodewordLock (port : Port) (s : State) : Host.Outcome State Fault Refusal :=
  s.runPort port fun c =>
    let p := port.val
    let x := c.port p
    if x.mode == .locking && x.code.seen then
      (c.modPort p fun y => { y.locked with mode := .ident, gotIdent := false, gotAck := false }).settle
    else c

/-- LOCK_LOSS (R84): eight bad codewords in a row. -/
def execLockLoss (port : Port) (s : State) : Host.Outcome State Fault Refusal :=
  s.runPort port fun c =>
    if (c.port port.val).cwlock && (c.port port.val).mode != .cal && decide (8 ≤ (c.port port.val).code.bad) then (c.laneDown port.val 2).settle
    else c

/-- CELL_SLOT (R93): the scheduler's choice for one slot; the phase is that of the slot's moment. -/
def execCellSlot (port : Port) (phase : Fin 64) (s : State) : Host.Outcome State Fault Refusal :=
  s.runPort port fun c => c.slot port.val phase.val

/-- The link-control cell at the head of a port, where it has a type. -/
def Chip.headL (c : Chip) (p typ : Nat) : Option Cell := (c.port p).q.rxL.head?.filter fun x => x.typ == typ
def Chip.popL (c : Chip) (p : Nat) : Chip := c.modQ p fun q => { q with rxL := q.rxL.drop 1 }

/-- NAK_RECEIVE (R97). -/
def execNakReceive (port : Port) (s : State) : Host.Outcome State Fault Refusal :=
  s.runPort port fun c =>
    match c.headL port.val 0x01 with
    | some x =>
      let c := c.popL port.val
      if c.isUp port.val then (c.nakTake port.val (Word.field (x.pay 2) 0 12)).settle else c
    | none => c

/-- REPLAY_TIMEOUT (R97). -/
def execReplayTimeout (port : Port) (s : State) : Host.Outcome State Fault Refusal :=
  s.runPort port fun c =>
    if c.isUp port.val && (c.port port.val).link.timerOn then (c.replay port.val).settle else c

/-! ### Handshake -/

/-- IDENT_SEND (R104, R105). -/
def execIdentSend (port : Port) (s : State) : Host.Outcome State Fault Refusal :=
  s.runPort port fun c =>
    match (c.port port.val).mode with
    | .ident | .up | .refused => c.sendL port.val (c.identCell port.val)
    | .down | .cal | .train | .locking => c

/-- IDENT_RECEIVE (R105). -/
def execIdentReceive (port : Port) (s : State) : Host.Outcome State Fault Refusal :=
  s.runPort port fun c =>
    match c.headL port.val 0x02 with
    | some x => ((c.popL port.val).identTake port.val (x.payload.take 6)).settle
    | none => c

/-- IDENT_ACK_RECEIVE (R104). -/
def execIdentAckReceive (port : Port) (s : State) : Host.Outcome State Fault Refusal :=
  s.runPort port fun c =>
    match c.headL port.val 0x03 with
    | some x => ((c.popL port.val).identAcked port.val (x.pay 2)).settle
    | none => c

/-! ### Tick markers and probes -/

/-- TICK_SEND (R100). -/
def execTickSend (port : Port) (s : State) : Host.Outcome State Fault Refusal :=
  s.runPort port fun c => if c.isUp port.val then c.tickQueue port.val else c

/-- TICK_RECEIVE (R100, R133). -/
def execTickReceive (port : Port) (s : State) : Host.Outcome State Fault Refusal :=
  s.runPort port fun c =>
    match c.headT port.val 0x10 with
    | some r => ((c.popT port.val).tickTake port.val r).settle
    | none => c

/-- PREQ_SEND (R101). -/
def execPreqSend (port : Port) (s : State) : Host.Outcome State Fault Refusal :=
  s.runPort port fun c => if c.isUp port.val then c.preqQueue port.val else c

/-- PREQ_RECEIVE (R101): the answer carries the receive time at the reference plane. -/
def execPreqReceive (port : Port) (s : State) : Host.Outcome State Fault Refusal :=
  s.runPort port fun c =>
    let p := port.val
    match c.headT p 0x11 with
    | some r =>
      let n := (c.port p).time.mseqRsp
      let id := Word.field (Cell.word r.cell 19) 0 16
      ((c.popT p).modTime p fun x => { x with mseqRsp := (n + 1) % 4096 }).queueT p
        (mkCellW clsT 0x12 0 (timeWords r.stamp) (markerWord 3 n id))
    | none => c

/-- PRSP_RECEIVE (R101): T2 and T4 are held until T3 comes. -/
def execPrspReceive (port : Port) (s : State) : Host.Outcome State Fault Refusal :=
  s.runPort port fun c =>
    let p := port.val
    match c.headT p 0x12 with
    | some r =>
      let id := Word.field (Cell.word r.cell 19) 0 16
      (c.popT p).modTime p fun x =>
        { x with probes := x.probes.map fun q =>
            if q.id = id && q.t1.isSome && q.t4.isNone then
              { q with t2 := some (Cell.time r.cell 2), t4 := some r.stamp }
            else q }
    | none => c

/-- PROBE_ABANDON (R101): 82 µs have passed since T1 of the oldest probe. -/
def execProbeAbandon (port : Port) (s : State) : Host.Outcome State Fault Refusal :=
  s.runPort port fun c =>
    let p := port.val
    if (c.port p).time.probes.isEmpty then c
    else (c.modTime p fun x => { x with probes := x.probes.drop 1 }).bump Reg.LN_CNT_SKIP 1 p

/-- MKR_TIMEOUT (R102). -/
def execMkrTimeout (port : Port) (s : State) : Host.Outcome State Fault Refusal :=
  s.runPort port fun c =>
    let p := port.val
    if c.isUp p then
      let c := (c.qualRestart p).modTime p fun x => { x with lastRx := none }
      (c.report Event.LN_MKR_TIMEOUT (lnRep p)).settle
    else c

end Sys2Proof.Machine
end

