-- ==== Sys2Proof/Machine/Power.lean ====
section
/-!
DEFINITION. Machine/Power.lean: supplies (R358 to R363), main reset and its release (R364, R365, R360,
R338), the host reset (R366), LANEGO (R374) and memory-write errors (R369).
-/

namespace Sys2Proof.Machine

/-! ### Main reset (R364, R365) -/

/-- Stored registers that main reset keeps: those of the pages of the AON domain. -/
def aonKey (k : Nat) : Bool :=
  let page := k / 4096 % 64
  let off := k % 4096
  aonPage page && !(page == 0x24 && ([Reg.PW_BOOT.off, Reg.PW_BOOTSTAT.off, Reg.PW_MWERR.off, Reg.PW_HRSTCNT.off].contains off))

/-- The part with the main domain at reset, and the AON domain, the program store and the NOR as they are. -/
def Chip.mainCleared (c : Chip) : Chip :=
  let inactive := !c.fw.bankB
  { Chip.reset with
    id := c.id, free := c.free, powerOnDue := c.powerOnDue, inReset := true
    regs := c.regs.filter fun e => aonKey e.1
    shadows := c.shadows.filter fun e => aonKey e.1
    tk := c.tk, sv := c.sv, ev := { c.ev with mwHeld := [], hmBack := [] }, gd := { c.gd with wdRun := false }
    sq := { SqState.reset with store := c.sq.store }
    tr := { TrState.reset with slowReported := c.tr.slowReported }
    fw := { FwState.reset with
      nor := c.fw.nor, bootRec := c.fw.bootRec
      spoiled := if c.fw.staging then some inactive else c.fw.spoiled }
    pw := { c.pw with lanesReleased := false, chainDone := false } }

/-- Main reset is asserted for a cause (R364 to R366): every lane goes down, and the servo, which has lost its
channels, follows R137. Of two causes that meet, the lower code stands (R375). -/
def Chip.mainReset (c : Chip) (cause : Nat) : Chip :=
  if c.inReset then { c with pw := { c.pw with rstCause := min c.pw.rstCause cause } }
  else
    let c := (List.range c.nports).foldl (fun c p => c.laneDown p 7) c
    let c := { c with pw := { c.pw with rstCause := cause } }
    (c.mainCleared).servoEval

/-- MAIN_RESET (R364): LYS_RST_N goes low. -/
def execMainReset (s : State) : Host.Outcome State Fault Refusal :=
  s.apply fun c => { c.mainReset 2 with pw := { (c.mainReset 2).pw with rstLow := true } }

/-- What holds main reset asserted once LYS_RST_N is high (R360, R365, R366). -/
def Chip.resetHeld (c : Chip) : Bool :=
  !c.pw.aon || !c.pw.lys || !c.tk.tclk || (c.pw.hostLow && Word.bit (c.reg Reg.PW_RSTCFG) 0)

/-- What is written at a release (R338, R360, R361): the power-on record first, then the supplies'. A loss of
TCLK is counted, now that the counters run (R75). -/
def Chip.releaseRecords (c : Chip) : Chip :=
  let z : Rep := { p1 := some 0, p2 := some 0, p3 := some 0 }
  let c := if c.powerOnDue then ({ c with powerOnDue := false }).report Event.EV_POWERON z else c
  let c := if c.tk.lostUncounted then
      ({ c with tk := { c.tk with lostUncounted := false } }).count Event.TK_TCLK_LOST.num none
    else c
  let c := if c.pw.lysDue then
      ({ c with pw := { c.pw with lysDue := false } }).report Event.PW_LYS_LOSS { late := true }
    else c
  if c.pw.orderDue != 0 then
    ({ c with pw := { c.pw with orderDue := 0 } }).report Event.PW_ORDER
      { p1 := some c.pw.orderDue, late := true }
  else c

/-- MAIN_RESET_RELEASE (R365, R374): LYS_RST_N rises, and where nothing else holds it main reset is released;
chain calibration and the controller's boot begin. -/
def execMainResetRelease (s : State) : Host.Outcome State Fault Refusal :=
  s.apply fun c =>
    let c := { c with pw := { c.pw with rstLow := false } }
    if c.resetHeld || !(c.inReset || c.powerOnDue) then c
    else ((({ c with inReset := false }).releaseRecords).chainCal).coldBoot

/-! ### Supplies (R358 to R361) -/

/-- A supply-order violation is logged, and is to be recorded at the next release of main reset (R360). -/
def Chip.orderLog (c : Chip) (bits : Word) : Chip :=
  let c := c.setReg Reg.PW_ORDLOG (c.reg Reg.PW_ORDLOG ||| bits)
  { c with pw := { c.pw with orderDue := c.pw.orderDue ||| bits } }

/-- AON power-on (R74, R364): everything is at reset; main reset holds until its release. -/
def Chip.aonPowerOn (c : Chip) : Chip :=
  let late := c.pw.tclk || c.pw.lys || c.pw.io
  let fresh : Chip :=
    { Chip.reset with
      id := { c.id with hub := c.id.strapHub }, free := c.free, inReset := true, powerOnDue := true
      sv := .reset c.id.dcoTrim, tk := { TkState.reset with tclk := c.pw.tclk }
      sq := { SqState.reset with store := c.sq.store }
      fw := { FwState.reset with
        nor := c.fw.nor, bootRec := c.fw.bootRec
        spoiled := if c.fw.staging then some (!c.fw.bankB) else c.fw.spoiled }
      pw := { PwState.reset with
        tclk := c.pw.tclk, lys := c.pw.lys, io := c.pw.io, powerOn := c.pw.powerOn + 1, rstLow := c.pw.rstLow, hostLow := c.pw.hostLow } }
  if late then fresh.orderLog (Word.flag true 0) else fresh

/-- RAIL_GOOD (R358 to R360): a rail rises through its good threshold; `slow` says that its ramp took longer
than 10 ms. -/
def execRailGood (rail : Rail) (slow : Bool) (s : State) : Host.Outcome State Fault Refusal :=
  s.apply fun c =>
    let log (c : Chip) (early : Bool) (bit : Nat) : Chip :=
      let w := Word.flag early bit ||| Word.flag slow 6
      if c.pw.aon && w != 0 then c.orderLog w else c
    match rail with
    | .vddAon => if c.pw.aon then c else log c.aonPowerOn false 0
    | .vddaTclk =>
      if c.pw.tclk then c
      else
        let c := log { c with pw := { c.pw with tclk := true } } false 0
        if c.pw.aon then c.tclkStart else c
    | .vddLys =>
      if c.pw.lys then c else log { c with pw := { c.pw with lys := true } } (!c.pw.tclk) 1
    | .vddioT =>
      if c.pw.io then c else (log { c with pw := { c.pw with io := true } } (!c.pw.lys) 2).poAllEdges c

/-- VDD_AON fails: everything is lost (R361). -/
def Chip.aonFail (c : Chip) : Chip :=
  let id := c.id
  let c := c.aonPowerOn
  { c with
    id := id, regs := [], tk := { c.tk with tclk := false }, pw := { c.pw with aon := false, orderDue := 0 } }

/-- RAIL_FAIL (R360, R361). -/
def execRailFail (rail : Rail) (s : State) : Host.Outcome State Fault Refusal :=
  s.apply fun c =>
    let log (c : Chip) (early : Bool) (bit : Nat) : Chip :=
      if c.pw.aon && early then c.orderLog (Word.flag true bit) else c
    match rail with
    | .vddAon => if c.pw.aon then c.aonFail else c
    | .vddaTclk =>
      if !c.pw.tclk then c
      else
        let c := log { c with pw := { c.pw with tclk := false } } c.pw.lys 4
        if c.pw.aon then c.tclkStop.mainReset 5 else c
    | .vddLys =>
      if !c.pw.lys then c
      else
        let c := log { c with pw := { c.pw with lys := false } } c.pw.io 5
        if !c.pw.aon then c
        else
          let due := !c.inReset
          let c := c.mainReset 4
          { c with pw := { c.pw with lysDue := c.pw.lysDue || due } }
    | .vddioT =>
      if !c.pw.io then c
      else
        let c := ({ c with pw := { c.pw with io := false } }).poAllEdges c
        if c.pw.aon then c.report Event.PW_IO_LOSS else c

/-- TCLK_RAIL (R358): VDDA_TCLK is outside its limits, or too noisy. -/
def execTclkRail (s : State) : Host.Outcome State Fault Refusal :=
  s.apply fun c => if c.pw.aon && c.pw.tclk then c.report Event.PW_TCLK_RAIL else c

/-- TEMP_SAMPLE (R363): a rise above PW_TEMPLIM is counted and flagged each time, and recorded once until the
temperature has fallen 5 °C below the limit. -/
def execTempSample (temp : BitVec 16) (s : State) : Host.Outcome State Fault Refusal :=
  s.apply fun c =>
    if !c.pw.aon then c
    else
      let lim := signedOf 16 (Word.field (c.reg Reg.PW_TEMPLIM) 0 16)
      let t := temp.toInt
      let rises := decide (lim < t) && !c.pw.tempHot
      let d := { c with pw := { c.pw with
        temp := temp.setWidth 32, tempHot := decide (lim < t)
        tempSent := rises || (c.pw.tempSent && decide (lim - 40 < t)) } }
      if !rises then d
      else if c.pw.tempSent then d.note Event.PW_OVERTEMP none
      else d.report Event.PW_OVERTEMP

/-! ### Host reset (R366) -/

/-- The running regions stand as in a stop while HOST_RST_N is low. -/
def Chip.hostStops (c : Chip) : Chip :=
  (c.rt.taps.filter fun e => e.2.running && !e.2.stopped).foldl (fun c e =>
    (c.regionStop e.1).modTap e.1 fun x => { x with hostStop := true }) c

/-- The blocked waits of every core slot are withdrawn, and the request queues emptied. -/
def Chip.coresWithdraw (c : Chip) : Chip :=
  let c := ((c.sg.waits.map fun e => e.1).filter fun a => decide (a < 1024)).foldl Chip.withdraw c
  { c with sg := { c.sg with rq := [], busy := [] } }

/-- HOST_RESET (R366): HOST_RST_N goes low. -/
def execHostReset (s : State) : Host.Outcome State Fault Refusal :=
  s.apply fun c =>
    if c.pw.hostLow then c
    else
      let c := { c with pw := { c.pw with hostLow := true, hostAt := c.now } }
      if !c.pw.aon then c
      else if Word.bit (c.reg Reg.PW_RSTCFG) 0 then c.mainReset 3
      else
        let c := (if c.inReset then c else c.bump Reg.PW_HRSTCNT 1).report Event.PW_HOST_RST
        if c.inReset || c.id.hub then c else c.hostStops.coresWithdraw

/-- A region that stood for the host reset alone ends its stop at its next edge; where its region reset still stands,
at its first edge after the acknowledge (R328, R366). The span of the host reset counts once for the heartbeat timers
of a region under reset. -/
def TapState.hostRelease (x : TapState) (since span : Nat) : TapState :=
  { x with
    hostStop := false, rstAt := if x.rgnReset then min x.rstAt since + span else x.rstAt
    rstStop := x.rstStop || (x.hostStop && x.rgnReset)
    edgeDue := x.edgeDue || (x.hostStop && !x.rgnReset) }

/-- HOST_RESET_RELEASE (R366): the host interfaces resume, and heartbeat timers go on from where they stood. -/
def execHostResetRelease (s : State) : Host.Outcome State Fault Refusal :=
  s.apply fun c =>
    if !c.pw.hostLow then c
    else
      let d := c.now - c.pw.hostAt
      let c := ({ c with pw := { c.pw with hostLow := false } }).mwResume
      if c.inReset || c.id.hub then c
      else
        let engs := c.rt.engs.map fun e => (e.1, { e.2 with hbAt := e.2.hbAt + d })
        let taps := SMap.update c.rt.taps .reset fun _ x => x.hostRelease c.pw.hostAt d
        { c with rt := { c.rt with engs := engs, taps := taps } }

/-! ### LANEGO and memory-write errors -/

/-- LANEGO (R374): the lane ports are released, once per main reset. -/
def Chip.laneGo (c : Chip) : Chip := { c with pw := { c.pw with lanesReleased := true } }

/-- The newest operation that a test takes has had an error. -/
def MwOp.erred (own : MwOp → Bool) : List MwOp → List MwOp
  | [] => []
  | o :: rest => if own o then { o with err := true } :: rest else o :: MwOp.erred own rest

/-- Whether a beat belongs to the capsule's mirror operation under way. -/
def Chip.mirrorBeat (c : Chip) (addr : Nat) : Bool :=
  !c.id.hub && c.cp.mirroring && c.cp.mirror.any fun k => c.cp.mirBase + 32 * k == addr

/-- MW_ERR (R369): a beat that the port has issued is answered with an error. Each such beat is counted and flagged, and
the first of its mirror operation is recorded; of two operations with a beat at one address it is the newer's. -/
def execMwErr (addr : BitVec 64) (s : State) : Host.Outcome State Fault Refusal :=
  s.run fun c =>
    let a := addr.toNat
    let own : MwOp → Bool := fun o => o.beats.any fun w => w.1 == a
    let beat := c.mirrorBeat a
    if !beat && !(c.ev.mwOps.any own) then c
    else
      let before := if beat then c.cp.mwErr else ((c.ev.mwOps.find? own).map fun o => o.err).getD false
      let c := (c.bump Reg.PW_MWERR 1).note Event.PW_MW_ERR
      let c := if beat then { c with cp := { c.cp with mwErr := true } }
        else { c with ev := { c.ev with mwOps := MwOp.erred own c.ev.mwOps } }
      if before then c else c.record Event.PW_MW_ERR.code { p2 := some (Word.part a 0) }

end Sys2Proof.Machine
end

