-- ==== Sys2Proof/Machine/ViewsTime.lean ====
section
/-!
DEFINITION. Machine/ViewsTime.lean: what a read returns of the registers that show the global page, the
timekeeper, the time bases, the servo, the references, the lanes and the tree engine.
-/

namespace Sys2Proof.Machine

/-! ### GLB, TK and TB -/

def Chip.viewGlb (c : Chip) (off : Nat) : Option Word :=
  match off with
  | 0x040 => some (Word.flag c.id.hub 0)
  | 0x044 => some (Word.part c.id.uid 0)
  | 0x048 => some (fld (c.id.uid >>> 32) 16 0)
  | 0x050 => some (c.isum 0)
  | 0x054 => some (c.isum 1)
  | _ => none

/-- TK_TIME_QUAL, at the even tick of the LCLK cycle (R72). -/
def Chip.timeQual (c : Chip) : Word :=
  fld c.cycleMode.code 3 4 ||| fld c.sv.chan 1 3 ||| Word.flag c.tk.untraceable 1 ||| Word.flag c.tk.valid 0

def Chip.viewTk (c : Chip) (off : Nat) : Option Word :=
  let t := c.cycleTime
  let f := c.tk.frc - c.tk.frc % 2
  let r := c.tk.rateStage.getD c.tk.rate
  let a := (c.tk.tAnchor / 2 ^ 24) % 2 ^ 96
  match off with
  | 0x00C =>
    some (Word.flag c.tk.step.isSome 3 ||| Word.flag c.tk.rateStage.isSome 2 ||| Word.flag c.tk.untraceable 1
      ||| Word.flag c.tk.valid 0)
  | 0x040 => some (Word.part t 0)
  | 0x044 => some (Word.part t 1)
  | 0x048 => some (Word.part t 2)
  | 0x04C => some (Word.part f 0)
  | 0x050 => some (Word.part f 1)
  | 0x054 => some c.timeQual
  | 0x064 => some (Word.part r 1)
  | 0x068 => some (Word.part c.tk.rate 0)
  | 0x06C => some (Word.part c.tk.rate 1)
  | 0x070 => some (Word.part a 0)
  | 0x074 => some (Word.part a 1)
  | 0x078 => some (Word.part a 2)
  | 0x07C => some (Word.part c.tk.frcAnchor 0)
  | 0x080 => some (Word.part c.tk.frcAnchor 1)
  | 0x0A0 => some (BitVec.ofNat 32 c.tk.stepCnt)
  | 0x0B0 => if c.crownOn then none else some c.tk.utcMirror
  | _ => none

def Chip.viewTb (c : Chip) (off k : Nat) : Option Word :=
  let x := c.tbChan k
  let follow := c.tbMode k == 2
  match off with
  | 0x044 => some (Word.part c.tb.captT 0)
  | 0x048 => some (Word.part c.tb.captT 1)
  | 0x04C => some (Word.part c.tb.captT 2)
  | 0x404 => if follow then some (Word.part c.tk.rate 0) else none
  | 0x408 => if follow then some (Word.part c.tk.rate 1) else none
  | 0x410 => some (Word.part x.time 0)
  | 0x414 => some (Word.part x.time 1)
  | 0x418 => some (Word.part x.time 2)
  | 0x440 => some (Word.part x.cap 0)
  | 0x444 => some (Word.part x.cap 1)
  | 0x448 => some (Word.part x.cap 2)
  | _ => none

/-! ### SV and RF -/

/-- SV_CSTAT of a channel; in FREERUN none drives the servo (log entry 34). -/
def Chip.svCstat (c : Chip) (k : Nat) : Word :=
  let x := c.ch k
  let p := c.port (c.chPort k)
  Word.flag (c.sv.chan == k && c.sv.mode != .freerun) 31 ||| Word.flag (c.good k) 30 ||| Word.flag p.tqual 29
    ||| Word.flag p.qual.learnt 28 ||| Word.flag x.asymUncal 27 ||| Word.flag x.offValid 26
    ||| fld x.psv 3 23 ||| fld p.qual.qcount 7 0

/-- The PLL's loop moves the DCO's word, which no rule gives a value: once a second of lock has passed, and while
it has an input (R140, R151; log entry 3). -/
def Chip.dcoMoves (c : Chip) : Bool := c.sv.pllIn != 0 && c.dcoKnown

def Chip.viewSv (c : Chip) (off k : Nat) : Option Word :=
  match off with
  | 0x00C =>
    some (fld c.sv.mode.code 3 4 ||| fld c.sv.chan 1 3 ||| Word.flag c.sv.horeadyFlag 2
      ||| Word.flag c.freqLocked 1 ||| Word.flag c.phaseOk 0)
  | 0x05C => some (fld c.hoLeft 20 0)
  | 0x064 => some (wordOfInt (divRound c.sv.bo (10 ^ 9 * unit64)))
  | 0x068 =>
    some (match c.abDiff with
      | some d => wordOfInt (divRound d unit64)
      | none => 0)
  | 0x06C => some (fld c.sv.pllRef 3 4 ||| fld c.sv.pllIn 3 0)
  | 0x070 => some (if c.dcoMoves then fld (Config.freeWord c.free).toNat 24 0 else fld c.sv.dco 24 0)
  | 0x074 => some c.sv.pbo
  | 0x400 => some (c.svCstat k)
  | 0x404 => some (wordOfInt (divRound (c.ch k).offset unit64))
  | 0x408 => some (wordOfInt (divRound (c.ch k).offRaw unit64))
  | 0x40C => some (wordOfInt (c.port (c.chPort k)).qual.mpdRef)
  | _ => none

/-- RF_RSTAT of a reference. -/
def Chip.rfRstat (c : Chip) (r : Nat) : Word :=
  let x := c.ref r
  let left := match x.wtrStart with
    | some f => c.wtr - (c.tk.frc - f) / 1600000000
    | none => 0
  Word.flag (c.refOn r && c.refSignal r) 31 ||| Word.flag x.qualified 30 ||| Word.flag x.eligible 29
    ||| Word.flag x.wtrStart.isSome 28 ||| Word.flag (c.rf.selected == some r) 27
    ||| Word.flag (c.rf.standby == some r) 26 ||| Word.flag (c.rf.fsrc == some r) 25 ||| Word.flag x.refused 24
    ||| fld left 12 0

def Chip.viewRf (c : Chip) (off r : Nat) : Option Word :=
  let x := c.ref r
  let ph := if c.refType r = 6 then (divRound c.sv.peerOff unit64 % (2 ^ 64 : Nat)).toNat else x.phase.toNat
  let bo := ((divRound c.rf.bo (10 ^ 9 * unit64)) % (2 ^ 64 : Nat)).toNat
  let held := match c.rf.hoStart with
    | some f => satNat 24 ((c.tk.frc - f) / 1600000000)
    | none => 0
  match off with
  | 0x048 =>
    some (Word.flag c.rf.selected.isSome 31 ||| Word.flag c.rf.forced 30 ||| Word.flag c.rf.holdover 29
      ||| Word.flag c.rf.fsrc.isSome 28 ||| Word.flag c.rf.standby.isSome 27 ||| fld (c.rf.fsrc.getD 0) 3 8
      ||| fld (c.rf.standby.getD 0) 3 4 ||| fld (c.rf.selected.getD 0) 3 0)
  | 0x050 => some (Word.part bo 0)
  | 0x054 => some (Word.part bo 1)
  | 0x05C => some (Word.flag c.rf.ageingReady 31 ||| fld held 24 0)
  | 0x408 => some (c.rfRstat r)
  | 0x40C => some (if c.pllChoice == (3, r) then 0 else x.freq)
  | 0x410 => some (Word.part ph 0)
  | 0x414 => some (Word.part ph 1)
  | 0x418 => some x.wander
  | _ => none

/-! ### LN -/

def PortMode.code : PortMode → Nat
  | .down => 0
  | .cal => 1
  | .train => 2
  | .locking => 3
  | .ident => 4
  | .up => 5
  | .refused => 6

/-- LN_PSTAT of a port. -/
def Chip.lnPstat (c : Chip) (p : Nat) : Word :=
  let x := c.port p
  fld x.downRsn 4 28 ||| fld x.refRsn 4 24 ||| fld x.nver 4 20 ||| Word.flag x.freqOk 14 ||| Word.flag x.tqual 13
    ||| Word.flag x.pmaLatOk 12 ||| Word.flag x.rxinv 11 ||| Word.flag x.cwlock 10 ||| Word.flag x.restricted 9
    ||| Word.flag x.peerCrown 8 ||| fld x.mode.code 4 0

def Chip.viewLn (c : Chip) (off p : Nat) : Option Word :=
  let x := c.port p
  let has (f : Nat → Bool) (lo : Nat) : Word := mapWord fun j => decide (lo + j < c.nports) && f (lo + j)
  let hist (q : Nat) : Bool := c.reg Reg.LN_LHIST q != 0
  match off with
  | 0x00C =>
    some (Word.flag ((List.range c.nports).any fun q => (c.port q).mode == .cal) 1 ||| Word.flag c.anyUp 0)
  | 0x048 => some (has c.isUp 0)
  | 0x04C => some (has c.isUp 32)
  | 0x050 => some (has c.isUp 64)
  | 0x054 => some (has hist 0)
  | 0x058 => some (has hist 32)
  | 0x05C => some (has hist 64)
  | 0x400 => some (c.reg Reg.LN_PCTRL p ||| Word.flag (x.mode == .cal) 7)
  | 0x404 => some (c.lnPstat p)
  | 0x418 => some (fld x.meas 24 0)
  | 0x420 => some (x.peerWord 2)
  | 0x424 => some (x.peerWord 3)
  | 0x428 => some (x.peerWord 4)
  | 0x42C => some (fld (x.peerWord 5).toNat 16 0)
  | 0x434 => some x.featNeg
  | 0x438 => some (BitVec.ofNat 32 x.time.rtt)
  | 0x43C => some (wordOfInt x.time.mpd)
  | 0x444 => some (fld x.link.credB 8 16 ||| fld x.link.credS 8 8 ||| fld x.link.credM 8 0)
  | 0x448 =>
    some (fld x.q.txT.length 8 24 ||| fld x.q.txB.length 8 16 ||| fld x.q.txS.length 8 8
      ||| fld x.q.txM.length 8 0)
  | 0x44C => some (fld x.link.nextSeq 12 16 ||| fld x.link.lastAcc 12 0)
  | _ => none

/-! ### TR -/

def TreeMode.code : TreeMode → Nat
  | .idle => 0
  | .discover => 1
  | .rootwait => 2
  | .joined => 3
  | .crown => 4
  | .crownless => 5
  | .orphan => 6
  | .conflict => 7

/-- TR_STAT. -/
def Chip.trStat (c : Chip) : Word :=
  let n := c.members
  let all := c.tr.mode == .crown && n != 0 && c.lockedMembers == n
  fld c.tr.mode.code 4 28 ||| Word.flag (c.id.hub && c.slowBelow) 9 ||| Word.flag c.tr.startSlow 8
    ||| Word.flag all 7 ||| Word.flag (c.id.hub && c.tr.upAlt) 6 ||| Word.flag c.anyGroup 5

/-- The registers of the TR page. TR_HUBS of a hub with no lane UP reads 0, its reset value, though the hub counts
itself in a SUMMARY (DESIGN CHOICE, log entry 36). -/
def Chip.viewTr (c : Chip) (off : Nat) : Option Word :=
  let u := c.tr.crown.getD 0
  let r := c.tr.rrsp.head?
  let n := c.tr.inq.head?
  let l := c.tr.mlq.headD []
  match off with
  | 0x00C => some c.trStat
  | 0x04C =>
    some (Word.flag c.tr.addr.isSome 31 ||| fld (if c.id.hub then c.tr.level else if c.tr.addr.isSome then 5 else 0) 4 24
      ||| fld (c.tr.addr.getD 0) 24 0)
  | 0x050 => some (Word.part u 0)
  | 0x054 =>
    some (fld c.tr.crownPrio 8 24 ||| fld c.tr.crownLevel 4 20 ||| Word.flag c.tr.crown.isSome 16
      ||| fld (u >>> 32) 16 0)
  | 0x058 => some (fld c.tr.cepoch 16 0)
  | 0x05C => some (fld c.members 25 0)
  | 0x060 => some (fld c.lockedMembers 25 0)
  | 0x064 => if c.id.hub then some (fld (if c.anyUp then c.hubCount else 0) 19 0) else none
  | 0x068 => some (match c.bestBelow with | some k => Word.part k.2 0 | none => 0)
  | 0x06C =>
    some (match c.bestBelow with
      | some k => fld k.1 8 24 ||| Word.flag true 23 ||| fld (k.2 >>> 32) 16 0
      | none => 0)
  | 0x070 => some (BitVec.ofNat 32 (c.tr.tlock.getD 0))
  | 0x094 => some (mapWord fun k => decide (k < 16) && SMap.has c.tr.tags k)
  | 0x098 => some (match r with | some x => x.word0 | none => 0)
  | 0x09C => some (match r with | some x => x.data | none => 0)
  | 0x0A0 => some (match r with | some x => x.target | none => 0)
  | 0x0A4 => some (match n with | some e => Word.flag true 31 ||| fld e.1 24 0 | none => 0)
  | 0x0A8 => some (match n with | some e => e.2.1 | none => 0)
  | 0x0AC => some (match n with | some e => e.2.2 | none => 0)
  | 0x0B0 => some (l.getD 0 0)
  | 0x0B4 => some (l.getD 1 0)
  | 0x0B8 => some (l.getD 2 0)
  | 0x0BC => some (l.getD 3 0)
  | _ => none

end Sys2Proof.Machine
end

