-- ==== Sys2Proof/Machine/Registers.lean ====
section
/-!
DEFINITION. Machine/Registers.lean: the register space (R37 to R57): which register an address names, the
common header, page soft reset, and what a read returns and does.
-/

namespace Sys2Proof.Machine

/-! ### Addresses (R37 to R40) -/

/-- The page and the word-aligned offset of an address. -/
def addrPage (a : Nat) : Nat := a / 4096 % 64
def addrOff (a : Nat) : Nat := a % 4096 / 4 * 4

/-- A row is mapped in the role. -/
def RegRow.inRole (r : RegRow) (hub : Bool) : Bool :=
  match r.roles with
  | .both => true
  | .die => !hub
  | .hub => hub

/-- The row an offset of a page names in a role, and its element. -/
def pageRow (hub : Bool) (page off : Nat) : Option (RegRow × Nat) :=
  match findRow (Reg.ofPage page) off with
  | some (r, i) => if r.inRole hub then some (r, i) else none
  | none => none

/-- A header offset (R41). -/
def headerOff (off : Nat) : Bool := decide (off < 0x040)

/-! ### Page properties (R41, R42 and the page texts) -/

/-- ID.INST: the channels of a page; 1 on a page without a window. -/
def Chip.pageInst (c : Chip) (page : Nat) : Nat :=
  match page with
  | 0x02 => 4
  | 0x03 => 2
  | 0x04 => 8
  | 0x08 => c.nports
  | 0x0C => c.id.ntaps
  | 0x0D => 64
  | 0x0E => 8
  | 0x10 => 32
  | 0x15 => c.ngroups
  | 0x21 => 16
  | _ => 1

/-- CAPS.CHWIN, SRST_OK and LOCKABLE. -/
def pageChwin (page : Nat) : Bool := [0x02, 0x03, 0x04, 0x08, 0x0C, 0x0D, 0x0E, 0x10, 0x15, 0x21].contains page
def pageSrstOk (page : Nat) : Bool := [0x02, 0x04, 0x08, 0x0D, 0x0E, 0x10, 0x1A, 0x21].contains page
def pageLockable (page : Nat) : Bool :=
  [0x03, 0x04, 0x08, 0x09, 0x0C, 0x0D, 0x0E, 0x10, 0x11, 0x14, 0x19, 0x1A, 0x1C, 0x1D, 0x1E, 0x1F, 0x24,
    0x25].contains page

/-- The defined bits of a page's HIST, IEN and IPEND. -/
def histMask (page : Nat) : Word :=
  match page with
  | 0x00 => 0x3F
  | 0x01 => 0x7F
  | 0x03 => 0x7FF
  | 0x04 => 0xFF
  | 0x08 => 0x3FFFFF
  | 0x09 => 0x1FFFF
  | 0x0C => 0x7FF
  | 0x0D => 0x7F
  | 0x0E => 0x1FF
  | 0x10 => 0x3FFF
  | 0x11 => 0x7
  | 0x14 => 0xFFF
  | 0x15 => 0x7FF
  | 0x18 => 0x1F
  | 0x19 => 0x1F
  | 0x1A => 0x7
  | 0x1C => 0xFFF
  | 0x1D => 0x1FFF
  | 0x1E => 0xF
  | 0x1F => 0x7F
  | 0x20 => 0xF
  | 0x21 => 0x3
  | 0x24 => 0x7F
  | 0x25 => 0xFF
  | _ => 0

/-- The ID and CAPS words. -/
def Chip.idWord (c : Chip) (page : Nat) : Word :=
  Word.flag true 31 ||| fld page 6 24 ||| fld 2 8 16 ||| fld (c.pageInst page) 16 0
def Chip.capsWord (c : Chip) (page : Nat) : Word :=
  Word.flag (pageChwin page) 31 ||| Word.flag (pageSrstOk page) 30 ||| Word.flag (pageLockable page) 29
    ||| (if page = 0x08 then fld c.nports 8 0 else 0)

/-- Bits [7:0] from a test of each pulse output. -/
def outMap (f : Nat → Bool) : Nat := (List.range 8).foldl (fun n k => n + (if f k then 2 ^ k else 0)) 0

/-- STAT of a page. -/
def Chip.statWord (c : Chip) (page : Nat) : Word :=
  let th (f : ThMode → Bool) : Bool := c.sq.threads.any fun e => f e.2.mode
  let ent (f : GrEntry → Bool) : Bool := c.gr.entries.any fun e => f e.2
  match page with
  | 0x01 => (c.viewTk 0x00C).getD 0
  | 0x03 => (c.viewSv 0x00C 0).getD 0
  | 0x08 => (c.viewLn 0x00C 0).getD 0
  | 0x09 => (c.viewTr 0x00C).getD 0
  | 0x0C =>
    Word.flag ((List.range c.id.ntaps).all fun t => (c.tap t).calOk) 1 ||| Word.flag c.rt.calBusy 0
  | 0x0D => Word.flag (c.alarms != []) 0
  | 0x0E => fld (outMap fun k => (c.po1 k).disabled) 8 8 ||| fld (outMap fun k => (c.po1 k).armed.isSome) 8 0
  | 0x10 =>
    Word.flag (th fun m => m == .authHold) 2 ||| Word.flag (th fun m => m == .fault) 1
      ||| Word.flag (th fun m => !m.stopped) 0
  | 0x14 =>
    Word.flag (c.gr.held != []) 2 ||| Word.flag (ent fun e => e.barrier.isSome) 1
      ||| Word.flag c.gr.levelSat 0
  | 0x15 => Word.flag (ent fun e => e.state == .failed) 1 ||| Word.flag (ent fun e => e.state == .lossHeld) 0
  | 0x18 => Word.flag (c.sg.waits != []) 1 ||| Word.flag (decide (64 ≤ c.sg.rq.length)) 0
  | 0x19 => Word.flag (decide (512 ≤ c.gt.pend.length)) 1 ||| Word.flag (c.gt.pend != []) 0
  | 0x1A => Word.flag (ent fun e => e.dl.deadlock) 0
  | 0x1C =>
    let limits := [GuardLimit.rateWin, .rateSlew, .stepLim, .trigLim, .poLim, .wdCfg]
    Word.flag (limits.any fun l => c.reg (limitRow l) != (limitRow l).rst) 2 ||| Word.flag c.fw.trial 1
      ||| Word.flag c.gd.wdRun 0
  | 0x1D => Word.flag (c.hg.solo != .off) 2 ||| Word.flag c.escalating 1 ||| Word.flag c.hg.fenced 0
  | 0x1E =>
    Word.flag (c.cp.stage != .empty) 31 ||| Word.flag (c.cp.stage == .paused || c.cp.stage == .reading) 30
      ||| Word.flag c.cp.mirroring 29 ||| Word.flag c.cp.mirrored 28 ||| fld c.cp.reason 4 0
  | 0x1F => Word.flag c.ev.restored 1 ||| Word.flag (decide (64 ≤ c.ev.queue.length)) 0
  | 0x20 => Word.flag c.mn.armed.isSome 1 ||| Word.flag c.frozen 0
  | 0x21 => Word.flag c.frozen 16 ||| mapWord fun u => decide (u < 16) && (c.hsUnit u).stopped
  | 0x24 => Word.flag c.pw.io 3 ||| Word.flag c.pw.lys 2 ||| Word.flag c.pw.tclk 1 ||| Word.flag c.pw.aon 0
  | 0x25 =>
    Word.flag c.fw.running 31 ||| Word.flag (c.fw.held || c.fw.hostHeld) 30 ||| Word.flag c.fw.noImage 29
      ||| Word.flag c.id.norPresent 28
  | _ => 0

/-- A header word (R41): CTRL.SRST and LOCK.KEY read 0, and reserved words read 0. -/
def Chip.headerRead (c : Chip) (m : Master) (page off : Nat) : Word :=
  match off with
  | 0x000 => c.idWord page
  | 0x004 => c.capsWord page
  | 0x008 => c.reg (ctrlRow page)
  | 0x00C => c.statWord page
  | 0x010 => c.reg (histRow page)
  | 0x014 => c.reg (ienRow page)
  | 0x018 => c.ipend page
  | 0x020 => c.regOf m (chselRow page)
  | 0x028 => c.reg (lockRow page)
  | _ => 0

/-! ### Selected storage (R44) -/

/-- The channel a master's window shows. -/
def Chip.chanOf (c : Chip) (m : Master) (page : Nat) : Nat := Word.field (c.regOf m (chselRow page)) 0 16

/-- The index of the copy of a register that a master addresses: the channel of its window, or its select
register. -/
def Chip.rowIdx (c : Chip) (m : Master) (r : RegRow) : Nat :=
  match r.sel with
  | .one => 0
  | .chan => c.chanOf m r.page
  | .by off bits =>
    match findRow (Reg.ofPage r.page) off with
    | some (s, _) => Word.field (c.regOf m s) 0 bits
    | none => 0

/-! ### Reading (R46, R47) -/

/-- The current value of a register that a page shows from its own state, for a master. -/
def Chip.viewOf (c : Chip) (m : Master) (r : RegRow) (i idx : Nat) : Option Word :=
  match r.page with
  | 0x00 => c.viewGlb r.off
  | 0x01 => c.viewTk r.off
  | 0x02 => c.viewTb r.off idx
  | 0x03 => c.viewSv r.off idx
  | 0x04 => c.viewRf r.off idx
  | 0x08 => c.viewLn r.off idx
  | 0x09 => c.viewTr r.off
  | 0x0C => c.viewRt r.off idx i
  | 0x0D => c.viewTs r.off idx
  | 0x0E => c.viewPo r.off idx
  | 0x10 => c.viewSq r.off idx i
  | 0x11 => c.viewSqm r.off m
  | 0x14 => c.viewMt r.off (Word.field (c.regOf m Reg.MT_GSEL) 0 12) i
  | 0x15 => c.viewGr r.off idx m
  | 0x18 => c.viewSg r.off i m
  | 0x19 => c.viewGt r.off m
  | 0x1A => c.viewDl r.off i m
  | 0x1C => c.viewGd r.off
  | 0x1D => c.viewHg r.off i m
  | 0x1E => c.viewCp r.off m
  | 0x1F => c.viewEv r.off i m
  | 0x20 => c.viewMn r.off m
  | 0x21 => c.viewHs r.off idx i
  | 0x24 => c.viewPw r.off
  | 0x25 => c.viewFw r.off
  | _ => none

/-- The current value of a register. -/
def Chip.rowValue (c : Chip) (m : Master) (r : RegRow) (i idx : Nat) : Word :=
  match r.acc with
  | .wo => 0
  | _ => (c.viewOf m r i idx).getD (c.regOf m r idx i)

/-- The offsets that a read of an RS register latches (R47 and the page tables). -/
def latched (page off : Nat) : List Nat :=
  match page, off with
  | 0x00, 0x044 => [0x048]
  | 0x01, 0x040 => [0x044, 0x048, 0x04C, 0x050, 0x054]
  | 0x01, 0x068 => [0x06C]
  | 0x01, 0x070 => [0x074, 0x078, 0x07C, 0x080]
  | 0x02, 0x410 => [0x414, 0x418]
  | 0x04, 0x050 => [0x054]
  | 0x04, 0x410 => [0x414]
  | 0x08, 0x420 => [0x424, 0x428, 0x42C]
  | 0x09, 0x050 => [0x054, 0x058]
  | 0x09, 0x068 => [0x06C]
  | 0x09, 0x098 => [0x09C, 0x0A0]
  | 0x09, 0x0A4 => [0x0A8, 0x0AC]
  | 0x09, 0x0B0 => [0x0B4, 0x0B8, 0x0BC]
  | 0x0C, 0x420 => [0x424, 0x428]
  | 0x0D, 0x058 => [0x05C, 0x060, 0x064]
  | 0x0D, 0x414 => [0x418, 0x41C, 0x420]
  | 0x0D, 0x424 => [0x428, 0x42C]
  | 0x0E, 0x434 => [0x438, 0x43C]
  | 0x10, 0x424 => [0x428, 0x42C, 0x430]
  | 0x11, 0x04C => [0x050]
  | 0x14, 0x904 => [0x908, 0x90C]
  | 0x18, 0x064 => [0x068, 0x06C]
  | 0x19, 0x074 => [0x078, 0x07C, 0x080]
  | 0x1D, 0x060 => [0x064, 0x068]
  | 0x1D, 0x094 => [0x098, 0x09C]
  | 0x1F, 0x04C => [0x050, 0x054, 0x058, 0x05C, 0x060, 0x064, 0x068]
  | 0x1F, 0x094 => [0x098, 0x09C, 0x0A0, 0x0A4, 0x0A8, 0x0AC, 0x0B0, 0x0B4]
  | 0x20, 0x058 => [0x05C, 0x060]
  | 0x20, 0x070 => [0x074]
  | 0x20, 0x078 => [0x07C]
  | 0x20, 0x08C => [0x090]
  | 0x20, 0x094 => [0x098]
  | 0x21, 0x414 => [0x418]
  | 0x21, 0x41C => [0x420, 0x424]
  | 0x21, 0x428 => [0x42C, 0x430]
  | _, _ => []

/-- The key of a master's shadow copy of a sibling. -/
def shadowKey (m : Master) (r : RegRow) (i idx : Nat) : Nat := r.key idx i m.code

/-- The shadow index: a channel's siblings are the channel's own, every other sibling stands alone. -/
def shadowIdx (r : RegRow) (idx : Nat) : Nat := if r.sel = .chan then idx else 0

/-- Every sibling an RS read names is latched for the reading master. -/
def Chip.latch (c : Chip) (m : Master) (page off : Nat) (idx : Nat) : Chip :=
  (latched page off).foldl (fun x o =>
    match pageRow c.id.hub page o with
    | some (r, i) =>
      { x with shadows := SMap.insert x.shadows (shadowKey m r i (shadowIdx r idx)) (c.rowValue m r i idx) }
    | none => x) c

/-- The time siblings hold latched values only: before a first latch they read their reset values (log
entry 37). -/
def timeSibling (r : RegRow) : Bool := r.page == 0x01 && decide (0x044 ≤ r.off ∧ r.off ≤ 0x054)

/-- What a master reads: its shadow copy where it has one, else the current value. -/
def Chip.shown (c : Chip) (m : Master) (r : RegRow) (i idx : Nat) : Word :=
  let k := shadowKey m r i (shadowIdx r idx)
  if r.acc = .ro && SMap.has c.shadows k then SMap.find c.shadows k 0
  else if timeSibling r then r.rst
  else c.rowValue m r i idx

/-- A selector moves on by one, modulo a power of two, where AUTOINC is set. -/
def Chip.autoInc (c : Chip) (m : Master) (r : RegRow) (bits : Nat) : Chip :=
  let a := c.regOf m r
  if Word.bit a 31 then
    c.setRegOf m r (Word.merge a (fld (Word.field a 0 bits + 1) bits 0) (BitVec.ofNat 32 (2 ^ bits - 1)))
  else c

/-- What a read does besides returning a value: a clear, a pop or an advance. -/
def Chip.readEffect (c : Chip) (m : Master) (r : RegRow) (i idx : Nat) : Chip :=
  match r.page, r.off with
  | 0x03, 0x070 => if c.dcoMoves then { c with free := c.free + 1 } else c
  | 0x09, 0x098 => { c with tr := { c.tr with rrsp := c.tr.rrsp.drop 1 } }
  | 0x09, 0x0A4 => { c with tr := { c.tr with inq := c.tr.inq.drop 1 } }
  | 0x09, 0x0B0 => { c with tr := { c.tr with mlq := c.tr.mlq.drop 1 } }
  | 0x0C, 0x490 => (c.setReg r 0 idx i).modXc (4 * idx + i) fun x => { x with slipped := false }
  | 0x0D, 0x058 => { c with ts := { c.ts with swq := c.ts.swq.drop 1 } }
  | 0x0D, 0x414 => c.modTs idx fun x => { x with txq := x.txq.drop 1 }
  | 0x0D, 0x440 => c.modTs idx fun x => { x with skip := 0, valid := 0 }
  | 0x11, 0x04C => c.autoInc m Reg.SQM_ADDR 15
  | 0x14, 0x04C => { (c.setReg r 0) with gr := { c.gr with qmax := c.gr.qocc } }
  | 0x1E, 0x058 => c.autoInc m Reg.CP_RADDR 16
  | 0x1F, 0x094 => c.uploadPop.2
  | 0x20, 0x074 => if Word.bit (c.regOf m Reg.MN_CSEL) 30 then c else c.autoInc m Reg.MN_CSEL 9
  | 0x20, 0x07C => if Word.bit (c.regOf m Reg.MN_CSEL) 30 then c.autoInc m Reg.MN_CSEL 9 else c
  | 0x21, 0x434 => (c.setReg r 0 idx).modHs idx fun x => { x with dropRep := false }
  | _, _ => if r.acc = .rc then c.setReg r 0 idx i else c

/-- A read of a master (R40, R46, R47): the word returned, and what the read changes. -/
def Chip.masterRead (c : Chip) (m : Master) (addr : Nat) : Word × Chip :=
  let page := addrPage addr
  let off := addrOff addr
  if !(pagePresent c.id.hub page) then (0, c)
  else if headerOff off then (c.headerRead m page off, c)
  else
    match pageRow c.id.hub page off with
    | none => (0, c)
    | some (r, i) =>
      let idx := c.rowIdx m r
      let w := c.shown m r i idx
      (w, (if r.acc = .rs then c.latch m page off idx else c).readEffect m r i idx)

/-! ### Soft reset (R42) -/

/-- A stored register that a soft reset of a page returns to its reset value: its RW and RWL fields in every
channel, HIST, IEN and CTRL. -/
def softKey (page k : Nat) : Bool :=
  let off := k % 4096
  k / 4096 % 64 == page &&
    (off == 0x008 || off == 0x010 || off == 0x014 ||
      match findRow (Reg.ofPage page) off with
      | some (r, _) => decide (r.acc = .rw ∨ r.acc = .rwl)
      | none => false)

/-- The stored registers of a page after a soft reset. LN_PCTRL, mixed with a command bit, is an RW word. -/
def Chip.softRegs (c : Chip) (page : Nat) : Chip := { c with regs := c.regs.filter fun e => !(softKey page e.1) }

/-- A port is taken down by a reset of its page; a check that was under way is still due. -/
def Chip.portReset (c : Chip) (p : Nat) : Chip :=
  let due := (c.port p).mode == .cal || (c.port p).calDue
  (c.laneDown p 7).modPort p fun x => { x with calDue := due }

/-- The page's internal state machines return to their reset states. A time base keeps its value (log
entry 37). -/
def Chip.softMachines (c : Chip) (page : Nat) : Chip :=
  match page with
  | 0x02 => { c with tb := { c.tb with chans := SMap.update c.tb.chans .reset fun _ x => { x with load := none, adj := none } } }
  | 0x04 => c.rfSoftReset
  | 0x08 => (List.range c.nports).foldl Chip.portReset c
  | 0x0D => c.tsSoftReset
  | 0x0E => c.poSoftReset
  | 0x10 => c.sqSoftReset
  | 0x1A => c.dlSoftReset
  | 0x21 => { c with hs := [] }
  | _ => c

/-- An honoured page soft reset: what it resets stands at once, and the page holds. -/
def Chip.softReset (c : Chip) (page : Nat) : Chip :=
  let d := c.softMachines page
  let d := (d.softRegs page).irqEdges d
  let d := { d with held := SMap.insert d.held page [] }
  match page with
  | 0x04 | 0x08 => d.settle
  | 0x0E => d.poAllEdges c
  | _ => d

end Sys2Proof.Machine
end

