-- ==== Sys2Proof/Machine/RegWrites.lean ====
section
/-!
DEFINITION. Machine/RegWrites.lean: what a write that has rights does, page by page (R46 and the page
chapters). Each page's function takes the write and answers the part after it, with the KIND of a refusal
where the write is refused (R53, R128).
-/

namespace Sys2Proof.Machine

/-- A write on its way into a register: its master, the row with its element and selected index, and the
word with every locked field at its current value. -/
structure RegWrite where
  m : Master
  row : RegRow
  i : Nat
  idx : Nat
  w : Word
deriving DecidableEq, Repr

/-- A write's effect: the part after it, and the KIND of its refusal. -/
abbrev Written := Chip × Option Nat

def Chip.done (c : Chip) : Written := (c, none)

/-- The plain effect of a write by its access code (R46): reserved bits take nothing. -/
def Chip.store (c : Chip) (x : RegWrite) : Chip :=
  let cur := c.regOf x.m x.row x.idx x.i
  match x.row.acc with
  | .rw | .rwl => c.setRegOf x.m x.row (Word.merge cur x.w x.row.take) x.idx x.i
  | .w1c => c.setRegOf x.m x.row (cur &&& ~~~x.w) x.idx x.i
  | .ro | .w1s | .wo | .rc | .rs => c

/-- Command bits of one write act from the lowest up (log entry 37). -/
def Chip.onBit (c : Chip) (w : Word) (b : Nat) (f : Chip → Chip) : Chip := if Word.bit w b then f c else c

/-! ### GLB, TK and TB -/

/-- The routing and enable registers move the IRQ outputs at once. -/
def Chip.writeGlb (c : Chip) (x : RegWrite) : Written := ((c.store x).irqEdges c).done

def Chip.writeTk (c : Chip) (x : RegWrite) : Written :=
  match x.row.off with
  | 0x064 => c.rateWrite x.m x.w
  | 0x098 => (c.stepWrite x.m x.w).done
  | 0x0B0 | 0x0B4 => ((c.store x).settle).done
  | _ => (c.store x).done

def Chip.writeTb (c : Chip) (x : RegWrite) : Written :=
  match x.row.off with
  | 0x040 => (c.onBit x.w 0 Chip.tbCapture).done
  | 0x404 | 0x408 => (if c.tbMode x.idx == 2 then c else c.store x).done
  | 0x428 => ((c.store x).tbLoad x.m x.idx x.w).done
  | 0x438 => ((c.store x).tbAdjust x.m x.idx x.w).done
  | _ => (c.store x).done

/-! ### SV and RF -/

/-- A raise of a holdover bound by a master other than the host port is refused (R144). -/
def Chip.hoRaise (c : Chip) (x : RegWrite) (cap bits : Nat) : Written :=
  let old := c.regOf x.m x.row
  if x.m != .host && decide (min cap (Word.field old 0 bits) < min cap (Word.field x.w 0 bits)) then
    (c.guardRefuse Event.GD_HO_RAISE x.m x.row.addr x.w old, some 7)
  else ((c.store x).settle).done

def Chip.writeSv (c : Chip) (x : RegWrite) : Written :=
  match x.row.off with
  | 0x050 => c.hoRaise x 0xFFFF 16
  | 0x058 => c.hoRaise x 1000000 20
  | 0x060 => ((c.onBit x.w 0 Chip.svForceAcq).onBit x.w 1 Chip.svSwitchCmd).done
  | 0x410 =>
    let c := c.onBit x.w 0 fun c => c.modCh x.idx fun y => { y with asymUncal := false }
    ((c.onBit x.w 1 fun c => c.mpdForget (c.chPort x.idx)).settle).done
  | _ => ((c.store x).settle).done

def Chip.writeRf (c : Chip) (x : RegWrite) : Written :=
  match x.row.off with
  | 0x400 => ((c.refConfig x.idx x.w).settle).done
  | _ => ((c.store x).settle).done

/-! ### LN and TR -/

/-- An asymmetry correction is written: its channel is not calibrated (R136). -/
def Chip.asymWritten (c : Chip) (p : Nat) : Chip :=
  match c.portCh p with
  | some k => c.modCh k fun y => { y with asymUncal := true }
  | none => c

def Chip.writeLn (c : Chip) (x : RegWrite) : Written :=
  match x.row.off with
  | 0x400 => ((c.store x).pctrlApply x.idx (Word.bit x.w 7)).done
  | 0x40C | 0x410 | 0x414 => ((c.store x).latWritten x.idx).done
  | 0x440 => ((c.store x).asymWritten x.idx).done
  | _ => (c.store x).done

def Chip.writeTr (c : Chip) (x : RegWrite) : Written :=
  match x.row.off with
  | 0x040 =>
    let d := c.store x
    ((if d.reg x.row == c.reg x.row then d else d.identAll).settle).done
  | 0x048 =>
    (((c.onBit x.w 0 Chip.trClaim).onBit x.w 1 Chip.trYield).onBit x.w 2 Chip.trRevert).done
  | 0x08C => (c.rraIssue x.m x.w).done
  | _ => (c.store x).done

/-! ### RT, TS and PO -/

def Chip.writeRt (c : Chip) (x : RegWrite) : Written :=
  match x.row.off with
  | 0x044 => (c.reportConfig ((c.store x).reg x.row)).done
  | 0x048 => (c.onBit x.w 0 Chip.chainCal).done
  | 0x40C => (c.onBit x.w 0 fun c => c.xcalWrite x.idx).done
  | 0x480 => ((c.store x).xcalSeek x.idx).done
  | _ => (c.store x).done

def Chip.writeTs (c : Chip) (x : RegWrite) : Written :=
  match x.row.off with
  | 0x040 => ((c.store x).suspectEval).done
  | _ => (c.store x).done

/-- A write to the pulse outputs' registers: the timing fields, and MODE, stand while the output is armed
(R187); an input's polarity state starts afresh. -/
def Chip.writePo (c : Chip) (x : RegWrite) : Written :=
  let o := x.idx
  let busy := (c.po1 o).armed.isSome
  match x.row.off with
  | 0x400 =>
    let old := c.regOf x.m x.row o
    let modeMask : Word := 0xC0000000
    let w := if busy then Word.merge x.w old modeMask else x.w
    let d := if busy && (x.w ^^^ old) &&& modeMask != 0 then c.poBusy o else c
    (((d.store { x with w := w }).poEdges d o).poFell d o).done
  | 0x404 =>
    let armed := if Word.bit x.w 0 then c.poArm o x.m x.w else (c, false)
    (armed.1.onBit x.w 1 fun c => c.poDisarm o, if armed.2 then some 7 else none)
  | 0x408 | 0x40C | 0x410 | 0x414 | 0x418 | 0x41C | 0x420 => (if busy then c.poBusy o else c.store x).done
  | 0x440 =>
    ((c.store x).modPo o fun y => { y with pinHeld := false, inverted := false, corrected := false }).done
  | _ => (c.store x).done

/-! ### SQ and SQM -/

def Chip.writeSq (c : Chip) (x : RegWrite) : Written :=
  match x.row.off with
  | 0x404 => (c.tctrl x.idx x.w).done
  | 0x604 =>
    let lo := c.regOf x.m Reg.SQ_MB_LO x.idx x.i
    (c.setMbox x.idx x.i (Word.join x.w lo).toNat).done
  | _ => (c.store x).done

/-- SQM_WHI (R193): the word at SQM_ADDR.WORD is committed, or refused as RANGE or WPROT. -/
def Chip.sqmCommit (c : Chip) (m : Master) (w : Word) : Chip :=
  let n := Word.field (c.regOf m Reg.SQM_ADDR) 0 15
  let p := c.reg Reg.SQM_WPROT
  let rep : Rep := { p1 := BitVec.ofNat 32 n }
  if 0x4400 ≤ n then c.report Event.SQM_RANGE rep
  else if Word.bit p 31 && decide (n < Word.field p 0 15) then c.report Event.SQM_WPROT rep
  else
    let v := Word.join w (c.regOf m Reg.SQM_WLO)
    ({ c with sq := { c.sq with store := SMap.insert c.sq.store n v } }).autoInc m Reg.SQM_ADDR 15

def Chip.writeSqm (c : Chip) (x : RegWrite) : Written :=
  match x.row.off with
  | 0x048 => (c.sqmCommit x.m x.w).done
  | _ => (c.store x).done

/-! ### MT and GR -/

def Chip.mtCfgBad (c : Chip) (g : Nat) : Chip := c.report Event.MT_CFG_BAD (c.mtRep g 0 (c.ent g).current)

/-- A word that the mortar configuration takes (R227, R236, R238). -/
def mtWordGood (off : Nat) (w : Word) : Bool :=
  match off with
  | 0x800 => decide (Word.field w 0 4 ≤ 8 ∧ Word.field w 8 5 ≤ 16)
  | 0x820 => laneCfgGood w
  | 0x840 => finishWordGood w
  | 0x8A8 =>
    let lo := signedOf 8 (Word.field w 16 8)
    let hi := signedOf 8 (Word.field w 24 8)
    decide (-126 ≤ lo ∧ lo ≤ hi ∧ hi ≤ 127)
  | 0x8AC => decide (0 < Word.field w 23 8 ∧ Word.field w 23 8 < 255)
  | _ => true

/-- A write to the mortar part of the selected entry (R244, R278). -/
def Chip.writeMortar (c : Chip) (x : RegWrite) : Chip :=
  let g := x.idx
  let e := c.ent g
  if e.state == .quar then c.grQuarBusy g
  else if e.state == .free then c.mtCfgBad g
  else if e.state.isSealed && x.row.off != 0x8A0 then
    c.report Event.MT_CFG_SEALED (c.mtRep g 0 e.current)
  else if !(mtWordGood x.row.off x.w) then c.mtCfgBad g
  else if x.row.off = 0x8AC then c.store { x with w := x.w &&& 0x7F800000 }
  else c.store x

def Chip.writeMt (c : Chip) (x : RegWrite) : Written :=
  if x.row.off = 0x040 then
    (if c.ngroups ≤ Word.field x.w 0 12 then c.mtCfgBad (Word.field (c.regOf x.m Reg.MT_GSEL) 0 12)
     else c.store x).done
  else if x.row.off < 0x800 then (c.store x).satEval.done
  else (c.writeMortar x).done

/-- Half of a hub entry's port map replaced. -/
def mapHalf (pmap k : Nat) (w : Word) : Nat :=
  if k = 0 then pmap / 2 ^ 32 * 2 ^ 32 + w.toNat else w.toNat * 2 ^ 32 + pmap % 2 ^ 32

def Chip.writeGr (c : Chip) (x : RegWrite) : Written :=
  let g := x.idx
  match x.row.off with
  | 0x400 =>
    let r := c.grKey g x.m x.w
    (r.1, if r.2 then some 7 else none)
  | 0x404 => (c.grField g fun e => { e with mode := x.w &&& x.row.take }).done
  | 0x408 => (c.grField g fun e => { e with decl := Word.field x.w 0 25 }).done
  | 0x40C => (c.grField g fun e => { e with pmap := mapHalf e.pmap 0 x.w }).done
  | 0x410 => (c.grField g fun e => { e with pmap := mapHalf e.pmap 1 x.w }).done
  | 0x42C => (c.grCmd g x.m x.w).done
  | _ =>
    (if x.row.off < 0x400 then c.store x
     else match (c.ent g).state with
       | .free => c.grCfgBad g
       | .quar => c.grQuarBusy g
       | _ => c.store x).done

/-! ### SG, GT and DL -/

/-- SG_SEL and SG_WSEL out of range are refused, with the master and, for SG_WSEL, the value third. -/
def Chip.sgRange (c : Chip) (m : Master) (p1 p3 : Word) : Chip :=
  c.report Event.SG_SEM_RANGE { p1 := p1, p2 := (Who.master m).word, p3 := some p3 }

def Chip.writeSg (c : Chip) (x : RegWrite) : Written :=
  let n := x.idx
  let sel := Word.field (c.regOf x.m Reg.SG_SEL) 0 16
  match x.row.off with
  | 0x040 =>
    let v := Word.field x.w 0 16
    (if semCount ≤ v then c.sgRange x.m (BitVec.ofNat 32 v) 0 else c.store x).done
  | 0x044 =>
    (if (c.waitersOf n).isEmpty then c.modSem n fun s => { s with cfg := x.w &&& x.row.take }
     else c.semFault Event.SG_MODE n (.master x.m)).done
  | 0x048 => (c.modSem n fun s => { s with count := Word.field x.w 0 16 }).done
  | 0x050 =>
    (c.masterOps x.m ((if Word.bit x.w 0 then [.rstNext sel] else [])
      ++ if Word.bit x.w 1 then [.setevent sel] else [])).done
  | 0x054 => (c.masterOps x.m [.signal sel (oneIfZero (Word.field x.w 0 16))]).done
  | 0x060 =>
    let v := Word.field x.w 0 11
    (if 1056 ≤ v then c.sgRange x.m 0xFFFF (BitVec.ofNat 32 v) else c.store x).done
  | _ => (c.store x).done

/-! ### GD and HG -/

def Chip.writeGd (c : Chip) (x : RegWrite) : Written :=
  match x.row.off with
  | 0x040 => c.limitWrite .rateWin x.m x.w
  | 0x044 => c.limitWrite .rateSlew x.m x.w
  | 0x048 => c.limitWrite .stepLim x.m x.w
  | 0x04C => c.limitWrite .trigLim x.m x.w
  | 0x050 => let d := c.limitWrite .poLim x.m x.w; (d.1.poAllEdges c, d.2)
  | 0x054 => c.limitWrite .wdCfg x.m x.w
  | 0x058 => (c.onBit x.w 0 Chip.wdKick).done
  | 0x074 => (c.override x.m x.w).done
  | _ => (c.store x).done

/-- HG_CMD: UNFENCE belongs to the host port and remote management. -/
def Chip.hgCmd (c : Chip) (m : Master) (w : Word) : Written :=
  let bad := m == .firmware && Word.bit w 1
  let c := if bad then c.accRights m Reg.HG_CMD.addr w else c
  let c := c.onBit w 0 fun c => c.ereset (Word.field (c.regOf m Reg.HG_ESEL) 0 10)
  let c := if bad then c else c.onBit w 1 Chip.unfence
  ((c.onBit w 2 Chip.soloStart).onBit w 3 Chip.soloAbort, if bad then some 3 else none)

def Chip.writeHg (c : Chip) (x : RegWrite) : Written :=
  match x.row.off with
  | 0x078 => c.hgCmd x.m x.w
  | _ => (c.store x).done

/-! ### CP, EV, MN and HS -/

def Chip.writeCp (c : Chip) (x : RegWrite) : Written :=
  match x.row.off with
  | 0x04C => ((c.onBit x.w 0 Chip.cpTake).onBit x.w 1 Chip.cpRelease).done
  | _ => (c.store x).done

def Chip.writeEv (c : Chip) (x : RegWrite) : Written :=
  match x.row.off with
  | 0x044 => (c.rdseqWrite x.w).done
  | 0x06C => (c.mirseqWrite x.w).done
  | 0x07C => (c.evRestore x.m x.w).done
  | _ => (c.store x).done

/-- MN_SNAPCTL: T_s is taken from MN_SNAPT as written. -/
def Chip.snapCtl (c : Chip) (w : Word) : Chip :=
  let t := timeOf (c.reg Reg.MN_SNAPT_FRAC) (c.reg Reg.MN_SNAPT_NSLO) (c.reg Reg.MN_SNAPT_NSHI)
  ((c.onBit w 0 Chip.snapNow).onBit w 1 fun c => c.snapArm t).onBit w 2 Chip.snapCancel

def Chip.writeMn (c : Chip) (x : RegWrite) : Written :=
  let k := Word.field (c.regOf x.m Reg.MN_CSEL) 0 9
  let p := Word.field (c.regOf x.m Reg.MN_PSEL) 0 4
  match x.row.off with
  | 0x044 => (c.snapCtl x.w).done
  | 0x06C => ((c.store x).counterZero k).done
  | 0x080 => ((c.onBit x.w 0 fun c => c.counterZero k).onBit x.w 1 Chip.countersZero).done
  | 0x088 => (if pinCfgGood c.id.hub x.w then (c.store x).pinZero p else c.report Event.MN_PCFG_BAD).done
  | 0x09C => (c.onBit x.w 0 fun c => c.pinZero p).done
  | _ => (c.store x).done

def Chip.writeHs (c : Chip) (x : RegWrite) : Written :=
  match x.row.off with
  | 0x400 | 0x404 | 0x408 => ((c.store x).hsEmpty x.idx).done
  | 0x410 => ((c.onBit x.w 0 fun c => c.hsEmpty x.idx).onBit x.w 1 fun c => c.hsRestart x.idx).done
  | _ => (c.store x).done

/-! ### PW and FW -/

def Chip.writePw (c : Chip) (x : RegWrite) : Written :=
  match x.row.off with
  | 0x064 => (c.onBit x.w 0 Chip.laneGo).done
  | 0x05C =>
    -- COUPLE set while HOST_RST_N is low asserts main reset (R366)
    let d := c.store x
    (if d.pw.hostLow && Word.bit (d.reg Reg.PW_RSTCFG) 0 then d.mainReset 3 else d).done
  | _ => (c.store x).done

/-- The KIND of a refused FW_CMD bit. -/
def fwCmdKind (m : Master) (w : Word) : Option Nat :=
  if (m != .host && (Word.bit w 4 || Word.bit w 5)) || (m != .firmware && (Word.bit w 2 || Word.bit w 3)) then some 3
  else none

/-- FW_HOB takes no write while it is protected: no master has rights on it then (log entry 37). -/
def Chip.writeFw (c : Chip) (x : RegWrite) : Written :=
  match x.row.off with
  | 0x044 => (c.fwCmd x.m x.w, fwCmdKind x.m x.w)
  | 0x060 => (c.stgAddr x.m x.w).done
  | 0x064 => (c.stgData x.m x.w).done
  | 0x800 =>
    if c.fw.prot then (c.accRights x.m (x.row.addr x.i) x.w, some 3) else (c.store x).done
  | _ => (c.store x).done

/-! ### All pages -/

/-- A write that has rights takes its effect. -/
def Chip.rowWrite (c : Chip) (x : RegWrite) : Written :=
  match x.row.page with
  | 0x00 => c.writeGlb x
  | 0x01 => c.writeTk x
  | 0x02 => c.writeTb x
  | 0x03 => c.writeSv x
  | 0x04 => c.writeRf x
  | 0x08 => c.writeLn x
  | 0x09 => c.writeTr x
  | 0x0C => c.writeRt x
  | 0x0D => c.writeTs x
  | 0x0E => c.writePo x
  | 0x10 => c.writeSq x
  | 0x11 => c.writeSqm x
  | 0x14 => c.writeMt x
  | 0x15 => c.writeGr x
  | 0x18 => c.writeSg x
  | 0x1C => c.writeGd x
  | 0x1D => c.writeHg x
  | 0x1E => c.writeCp x
  | 0x1F => c.writeEv x
  | 0x20 => c.writeMn x
  | 0x21 => c.writeHs x
  | 0x24 => c.writePw x
  | 0x25 => c.writeFw x
  | _ => (c.store x).done

end Sys2Proof.Machine
end

