-- ==== Sys2Proof/Machine/Access.lean ====
section
/-!
DEFINITION. Machine/Access.lean: a master's access to the register space: rights, lock and refusal (R48 to R53,
R376), the header's writes, and accesses held while a page resets (R42). Remote register requests are
executed here (R128).
-/

namespace Sys2Proof.Machine

/-! ### Rights (R48) -/

/-- A master has write rights on a register. -/
def Chip.mayWrite (c : Chip) (m : Master) (r : RegRow) : Bool :=
  match r.rights with
  | .all => true
  | .host => m == .host
  | .hostFw => m == .host || m == .firmware
  | .hostRemote => m == .host || m.isRemote
  | .fw => m == .firmware
  | .crown => c.crownOn

/-- A master has write rights on a page's HIST and IEN: on the GD page the host port alone (R304). -/
def mayClear (m : Master) (page : Nat) : Bool := page != 0x1C || m == .host

/-! ### Fields that a role or a port lacks -/

/-- The word as the register takes it: fields that the role or the port does not have are ignored. -/
def Chip.fitWord (c : Chip) (r : RegRow) (idx : Nat) (w : Word) : Word :=
  match r.page, r.off with
  | 0x08, 0x400 => if c.id.hub && decide (idx < 64) then w else w &&& 0x7FFFFFFF
  | 0x09, 0x040 => if c.id.hub then w else 0
  | 0x0D, 0x400 => if c.id.hub then w &&& 0xBFFFFFFF else w
  | 0x0E, 0x440 => if c.id.hub then w else 0
  | 0x1F, 0x090 => if c.id.hub then w &&& 0x7FFFFFFF else w
  | _, _ => w

/-! ### Header writes (R41 to R45, R52) -/

/-- A write of 1 to HIST clears the bit. -/
def Chip.histWrite (c : Chip) (page : Nat) (w : Word) : Chip :=
  (c.setReg (histRow page) (c.reg (histRow page) &&& ~~~w)).irqEdges c

/-- Enabling a bit whose HIST bit is set makes IPEND pending at once. -/
def Chip.ienWrite (c : Chip) (page : Nat) (w : Word) : Chip :=
  ((c.setReg (ienRow page) (w &&& histMask page)).irqEdges c).inoteRaise page (c.ipend page)

/-- CTRL (R42, R376): EN is judged first, then SRST. The timekeeper's EN stays 1. -/
def Chip.ctrlWrite (c : Chip) (m : Master) (page addr : Nat) (w : Word) : Written :=
  let locked := c.locked page
  let differs := Word.bit w 0 != Word.bit (c.reg (ctrlRow page)) 0
  let r : Written :=
    if page = 0x01 then c.done
    else if locked then (if differs then (c.accLocked m addr w, some 4) else c.done)
    else (c.setReg (ctrlRow page) (w &&& 1)).done
  if !(Word.bit w 1) then r
  else if pageSrstOk page && !locked then (r.1.softReset page, r.2)
  else (r.1.accRefuse Event.GLB_ACC_SRST 6 m addr w, some 6)

/-- CHSEL (R45): a channel that does not exist is refused. -/
def Chip.chselWrite (c : Chip) (m : Master) (page addr : Nat) (w : Word) : Written :=
  let ch := Word.field w 0 16
  if c.pageInst page ≤ ch then (c.accRefuse Event.GLB_ACC_CHSEL 5 m addr w, some 5)
  else (c.setRegOf m (chselRow page) (fld ch 16 0)).done

/-- LOCK (R52). -/
def Chip.lockWrite (c : Chip) (m : Master) (page addr : Nat) (w : Word) : Written :=
  if !(pageLockable page) then c.done
  else if Word.bit w 0 then (c.setReg (lockRow page) 1).done
  else if !(c.locked page) then c.done
  else if m == .host && Word.field w 16 16 == 0xA55A then (c.setReg (lockRow page) 0).done
  else (c.accLocked m addr w, some 4)

/-- A write to a header word; reserved and read-only words ignore it. -/
def Chip.headerWrite (c : Chip) (m : Master) (page addr : Nat) (w : Word) : Written :=
  match addrOff addr with
  | 0x008 => c.ctrlWrite m page addr w
  | 0x010 => if mayClear m page then (c.histWrite page w).done else (c.accRights m addr w, some 3)
  | 0x014 => if mayClear m page then (c.ienWrite page w).done else (c.accRights m addr w, some 3)
  | 0x020 => c.chselWrite m page addr w
  | 0x028 => c.lockWrite m page addr w
  | _ => c.done

/-! ### Writes (R40, R48, R376) -/

/-- A write to a word that holds RWL fields while its page is locked (R376): every RWL field keeps its value,
which is reported once where the write would change one, and any other field is written as its own access code
says. A word made only of RWL fields is not written. -/
def Chip.lockedWrite (c : Chip) (x : RegWrite) (addr : Nat) (w : Word) : Written :=
  let cur := c.regOf x.m x.row x.idx x.i
  let differs := (x.w ^^^ cur) &&& x.row.rwl != 0
  let c := if differs then c.accLocked x.m addr w else c
  let kind : Option Nat := if differs then some 4 else none
  if x.row.take &&& ~~~x.row.rwl = 0 then (c, kind)
  else
    let d := c.rowWrite { x with w := Word.merge x.w cur x.row.rwl }
    (d.1, d.2.orElse fun _ => kind)

/-- A write to a mapped register: read-only ones ignore it, rights are asked, and a lock keeps every RWL
field at its value. -/
def Chip.mappedWrite (c : Chip) (m : Master) (r : RegRow) (i addr : Nat) (w : Word) : Written :=
  let idx := c.rowIdx m r
  match r.acc with
  | .ro | .rc | .rs => c.done
  | _ =>
    if !(c.mayWrite m r) then (c.accRights m addr w, some 3)
    else
      let x : RegWrite := { m := m, row := r, i := i, idx := idx, w := c.fitWord r idx w }
      if c.locked r.page && r.rwl != 0 then c.lockedWrite x addr w else c.rowWrite x

/-- A write of a master: the part after it, and the KIND of its refusal. -/
def Chip.masterWrite (c : Chip) (m : Master) (addr : Nat) (w : Word) : Written :=
  let page := addrPage addr
  if !(pagePresent c.id.hub page) then (c.accRefuse Event.GLB_ACC_ABSENT 1 m addr w, some 1)
  else if headerOff (addrOff addr) then c.headerWrite m page addr w
  else
    match pageRow c.id.hub page (addrOff addr) with
    | none => (c.accRefuse Event.GLB_ACC_UNMAPPED 2 m addr w, some 2)
    | some (r, i) => c.mappedWrite m r i addr w

/-! ### Accesses (R42, R50) -/

/-- An access executes: a remote register request is answered on the lane it came by, and counted as served in the
cycle of the access, so that a CLR which it writes keeps the occurrence (R346). -/
def Chip.accessNow (c : Chip) (a : HeldAccess) : Chip :=
  let r : Chip × Nat × Nat × Word :=
    match a.data with
    | some w =>
      let d := c.masterWrite a.master a.addr w
      match d.2 with
      | some k => (d.1, 3, k, 0)
      | none => (d.1, 0, 0, 0)
    | none =>
      let d := c.masterRead a.master a.addr
      (d.2, 0, 0, d.1)
  match a.req with
  | some q => (r.1.count 0x490 none).sendCells (if a.master = .remoteB then 1 else 0) clsM [rrspCell q r.2.1 r.2.2.1 r.2.2.2]
  | none => r.1

/-- Two remote register requests come from one issuer, over one lane. -/
def HeldAccess.sameIssuer (a b : HeldAccess) : Bool :=
  match a.req, b.req with
  | some x, some y => a.master == b.master && x.pay 5 == y.pay 5
  | _, _ => false

/-- The page for whose hold an access waits: that for which an earlier request of its issuer waits, so that all of
them wait in one line and execute in issue order, or its own (R42, R128). -/
def Chip.waitsFor (c : Chip) (a : HeldAccess) : Option Nat :=
  match c.held.find? fun e => e.2.any fun b => a.sameIssuer b with
  | some e => some e.1
  | none => if SMap.has c.held (addrPage a.addr) then some (addrPage a.addr) else none

/-- An access to a page in its soft-reset hold waits, and a request behind one of its issuer that waits; any other
executes. -/
def Chip.access (c : Chip) (a : HeldAccess) : Chip :=
  match c.waitsFor a with
  | some page => { c with held := SMap.insert c.held page (SMap.find c.held page [] ++ [a]) }
  | none => c.accessNow a

/-- A register write and a register read of a master. -/
def Chip.regWrite (c : Chip) (m : Master) (addr : Nat) (w : Word) : Chip :=
  c.access { master := m, addr := addr, data := some w, req := none }
def Chip.regRead (c : Chip) (m : Master) (addr : Nat) : Chip :=
  c.access { master := m, addr := addr, data := none, req := none }

/-- The end of a page's hold: the held accesses execute in the order they came; a soft reset among them
starts a further hold, for which the rest wait. -/
def Chip.holdEnd (c : Chip) (page : Nat) : Chip :=
  (SMap.find c.held page []).foldl Chip.access { c with held := SMap.erase c.held page }

/-- A remote register request at the head of a port's class M buffer executes at its target (R128). -/
def Chip.rreqTake (c : Chip) (p : Nat) : Chip :=
  match c.headM p 0x40 with
  | none => c
  | some x =>
    let c := c.popRx p clsM 1
    let m : Master := if p = 1 then .remoteB else .remoteA
    let addr := Word.field (x.pay 3) 0 18
    match Word.field (x.pay 2) 28 4 with
    | 1 => c.access { master := m, addr := addr, data := none, req := some x }
    | 2 => c.access { master := m, addr := addr, data := some (x.pay 4), req := some x }
    | _ => c

end Sys2Proof.Machine
end

