-- ==== Sys2Proof/Machine/AccessDie.lean ====
section
/-!
DEFINITION. Machine/AccessDie.lean: the register accesses of the region taps, the MAC taps, the pulse outputs, the sequencer,
the semaphores and the groups that are commands of their own.
-/

namespace Sys2Proof.Machine

/-- CHAIN_CAL (R156): RT_CMD.CAL. -/
def execChainCal (m : Master) (s : State) : Host.Outcome State Fault Refusal :=
  s.runMaster m fun c => c.regWrite m 0x0C048 1

/-- XCAL (R168): RT_TCMD.XCAL of the selected tap. -/
def execXcal (m : Master) (s : State) : Host.Outcome State Fault Refusal :=
  s.runMaster m fun c => c.regWrite m 0x0C40C 1

/-- TXQ_POP (R180): a read of TS_TXQ0 of the selected tap. -/
def execTxqPop (m : Master) (s : State) : Host.Outcome State Fault Refusal :=
  s.runMaster m fun c => c.regRead m 0x0D414

/-- SWQ_POP (R181): a read of TS_SWQ0. -/
def execSwqPop (m : Master) (s : State) : Host.Outcome State Fault Refusal :=
  s.runMaster m fun c => c.regRead m 0x0D058

/-- PULSE_ARM (R187): PO_CTRL.ARM of the selected output. -/
def execPulseArm (m : Master) (w : Word) (s : State) : Host.Outcome State Fault Refusal :=
  s.runMaster m fun c => c.regWrite m 0x0E404 (w &&& 0xFFFFFFFD ||| 1)

/-- PULSE_DISARM (R187): PO_CTRL.DISARM of the selected output. -/
def execPulseDisarm (m : Master) (s : State) : Host.Outcome State Fault Refusal :=
  s.runMaster m fun c => c.regWrite m 0x0E404 2

/-- THREAD_START (R195): SQ_TCTRL.START of the selected thread. -/
def execThreadStart (m : Master) (s : State) : Host.Outcome State Fault Refusal :=
  s.runMaster m fun c => c.regWrite m 0x10404 1

/-- THREAD_HALT (R196): SQ_TCTRL.HALT of the selected thread. -/
def execThreadHalt (m : Master) (s : State) : Host.Outcome State Fault Refusal :=
  s.runMaster m fun c => c.regWrite m 0x10404 2

/-- THREAD_RESUME (R196): SQ_TCTRL.RESUME of the selected thread. -/
def execThreadResume (m : Master) (s : State) : Host.Outcome State Fault Refusal :=
  s.runMaster m fun c => c.regWrite m 0x10404 4

/-- THREAD_CANCEL (R196): SQ_TCTRL.CANCEL of the selected thread. -/
def execThreadCancel (m : Master) (s : State) : Host.Outcome State Fault Refusal :=
  s.runMaster m fun c => c.regWrite m 0x10404 8

/-- MAILBOX_COMMIT (R197): SQ_MBn_HI of the selected thread. -/
def execMailboxCommit (m : Master) (n : Fin 64) (w : Word) (s : State) : Host.Outcome State Fault Refusal :=
  s.runMaster m fun c => c.regWrite m (0x10604 + 8 * n.val) w

/-- SQM_COMMIT (R193): SQM_WHI. -/
def execSqmCommit (m : Master) (w : Word) (s : State) : Host.Outcome State Fault Refusal :=
  s.runMaster m fun c => c.regWrite m 0x11048 w

/-- SQM_READ (R193): a read of SQM_RLO. -/
def execSqmRead (m : Master) (s : State) : Host.Outcome State Fault Refusal :=
  s.runMaster m fun c => c.regRead m 0x1104C

/-- SSIG (R247): SG_SSIG. -/
def execSsig (m : Master) (w : Word) (s : State) : Host.Outcome State Fault Refusal :=
  s.runMaster m fun c => c.regWrite m 0x18054 w

/-- SCMD_SETEVENT (R247): SG_SCMD.SETEVENT. -/
def execScmdSetevent (m : Master) (s : State) : Host.Outcome State Fault Refusal :=
  s.runMaster m fun c => c.regWrite m 0x18050 2

/-- RSTNEXT (R247): SG_SCMD.RSTNEXT. -/
def execRstnext (m : Master) (s : State) : Host.Outcome State Fault Refusal :=
  s.runMaster m fun c => c.regWrite m 0x18050 1

/-- SG_SCFG_WRITE (R254): SG_SCFG of the selected semaphore. -/
def execSgScfgWrite (m : Master) (w : Word) (s : State) : Host.Outcome State Fault Refusal :=
  s.runMaster m fun c => c.regWrite m 0x18044 w

/-- SG_SEL_WRITE (R245): SG_SEL, or SG_WSEL where an agent is selected. -/
def execSgSelWrite (m : Master) (agent : Bool) (w : Word) (s : State) : Host.Outcome State Fault Refusal :=
  s.runMaster m fun c => c.regWrite m (if agent then 0x18060 else 0x18040) w

/-- GR_GKEY_WRITE (R278): GR_GKEY of the selected entry. -/
def execGrGkeyWrite (m : Master) (w : Word) (s : State) : Host.Outcome State Fault Refusal :=
  s.runMaster m fun c => c.regWrite m 0x15400 w

/-- FIND_GID (R270): GR_FINDGID. -/
def execFindGid (m : Master) (w : Word) (s : State) : Host.Outcome State Fault Refusal :=
  s.runMaster m fun c => c.regWrite m 0x1504C w

/-- SEAL (R273): GR_GCMD with OP 1 at the selected entry. -/
def execSeal (m : Master) (w : Word) (s : State) : Host.Outcome State Fault Refusal :=
  s.runMaster m fun c => c.regWrite m 0x1542C (w &&& 0x0FFFFFFF ||| 0x10000000)

/-- DISSOLVE (R277): GR_GCMD with OP 2 at the selected entry. -/
def execDissolve (m : Master) (w : Word) (s : State) : Host.Outcome State Fault Refusal :=
  s.runMaster m fun c => c.regWrite m 0x1542C (w &&& 0x0FFFFFFF ||| 0x20000000)

/-- ADMIT (R280): GR_GCMD with OP 3 at the selected entry. -/
def execAdmit (m : Master) (w : Word) (s : State) : Host.Outcome State Fault Refusal :=
  s.runMaster m fun c => c.regWrite m 0x1542C (w &&& 0x0FFFFFFF ||| 0x30000000)

/-- EXPEL (R280): GR_GCMD with OP 4 at the selected entry. -/
def execExpel (m : Master) (w : Word) (s : State) : Host.Outcome State Fault Refusal :=
  s.runMaster m fun c => c.regWrite m 0x1542C (w &&& 0x0FFFFFFF ||| 0x40000000)

end Sys2Proof.Machine
end

