-- ==== Sys2Proof/Machine/AccessSys.lean ====
section
/-!
DEFINITION. Machine/AccessSys.lean: the register accesses of the Guard, the controller, hang recovery, the recorder, the monitors
and power that are commands of their own.
-/

namespace Sys2Proof.Machine

/-- GD_LIMIT_WRITE (R299): one of the six limit registers. -/
def execGdLimitWrite (m : Master) (which : GuardLimit) (w : Word) (s : State) : Host.Outcome State Fault Refusal :=
  s.runMaster m fun c => c.regWrite m (limitRow which).addr w

/-- BARRIER_OVERRIDE (R303): GD_OVR. -/
def execBarrierOverride (m : Master) (w : Word) (s : State) : Host.Outcome State Fault Refusal :=
  s.runMaster m fun c => c.regWrite m 0x1C074 w

/-- WATCHDOG_KICK (R312): GD_WDKICK. -/
def execWatchdogKick (m : Master) (s : State) : Host.Outcome State Fault Refusal :=
  s.runMaster m fun c => c.regWrite m 0x1C058 1

/-- STAGING_ERASE (R311): FW_STGADDR with WORD = 0. -/
def execStagingErase (m : Master) (w : Word) (s : State) : Host.Outcome State Fault Refusal :=
  s.runMaster m fun c => c.regWrite m 0x25060 (w &&& 0xFFFF0000)

/-- STAGING_WRITE (R311): FW_STGDATA. -/
def execStagingWrite (m : Master) (w : Word) (s : State) : Host.Outcome State Fault Refusal :=
  s.runMaster m fun c => c.regWrite m 0x25064 w

/-- VERIFY (R311): FW_CMD.VERIFY. -/
def execVerify (m : Master) (s : State) : Host.Outcome State Fault Refusal :=
  s.runMaster m fun c => c.regWrite m 0x25044 1

/-- HOLD (R311): FW_CMD.HOLD. -/
def execHold (m : Master) (s : State) : Host.Outcome State Fault Refusal :=
  s.runMaster m fun c => c.regWrite m 0x25044 16

/-- FW_RELEASE (R312): FW_CMD.RELEASE. -/
def execFwRelease (m : Master) (s : State) : Host.Outcome State Fault Refusal :=
  s.runMaster m fun c => c.regWrite m 0x25044 32

/-- FW_SWITCH (R314): FW_CMD.SWITCH. -/
def execFwSwitch (m : Master) (s : State) : Host.Outcome State Fault Refusal :=
  s.runMaster m fun c => c.regWrite m 0x25044 2

/-- HANDOVER (R314): FW_CMD.HANDOVER. -/
def execHandover (m : Master) (s : State) : Host.Outcome State Fault Refusal :=
  s.runMaster m fun c => c.regWrite m 0x25044 4

/-- COMMIT (R314): FW_CMD.COMMIT. -/
def execCommit (m : Master) (s : State) : Host.Outcome State Fault Refusal :=
  s.runMaster m fun c => c.regWrite m 0x25044 8

/-- CP_TAKE (R324): CP_CMD.TAKE. -/
def execCpTake (m : Master) (s : State) : Host.Outcome State Fault Refusal :=
  s.runMaster m fun c => c.regWrite m 0x1E04C 1

/-- CP_RELEASE (R324): CP_CMD.RELEASE. -/
def execCpRelease (m : Master) (s : State) : Host.Outcome State Fault Refusal :=
  s.runMaster m fun c => c.regWrite m 0x1E04C 2

/-- CAPSULE_READ (R326): a read of CP_RDATA. -/
def execCapsuleRead (m : Master) (s : State) : Host.Outcome State Fault Refusal :=
  s.runMaster m fun c => c.regRead m 0x1E058

/-- ERESET (R327): HG_CMD.ERESET for the selected engine. -/
def execEreset (m : Master) (s : State) : Host.Outcome State Fault Refusal :=
  s.runMaster m fun c => c.regWrite m 0x1D078 1

/-- UNFENCE (R330): HG_CMD.UNFENCE. -/
def execUnfence (m : Master) (s : State) : Host.Outcome State Fault Refusal :=
  s.runMaster m fun c => c.regWrite m 0x1D078 2

/-- SOLO (R334): HG_CMD.SOLO. -/
def execSolo (m : Master) (s : State) : Host.Outcome State Fault Refusal :=
  s.runMaster m fun c => c.regWrite m 0x1D078 4

/-- SOLO_ABORT (R334): HG_CMD.SOLO_ABORT. -/
def execSoloAbort (m : Master) (s : State) : Host.Outcome State Fault Refusal :=
  s.runMaster m fun c => c.regWrite m 0x1D078 8

/-- RESTORE (R338): EV_RSTPC. -/
def execRestore (m : Master) (w : Word) (s : State) : Host.Outcome State Fault Refusal :=
  s.runMaster m fun c => c.regWrite m 0x1F07C w

/-- UPLOAD_POP (R341): a read of EV_UQ0. -/
def execUploadPop (m : Master) (s : State) : Host.Outcome State Fault Refusal :=
  s.runMaster m fun c => c.regRead m 0x1F094

/-- SEVERITY_QUERY (R336): EV_SEVQ. -/
def execSeverityQuery (m : Master) (w : Word) (s : State) : Host.Outcome State Fault Refusal :=
  s.runMaster m fun c => c.regWrite m 0x1F0B8 w

/-- COUNTER_BIND (R343): MN_CCFG of the selected counter. -/
def execCounterBind (m : Master) (w : Word) (s : State) : Host.Outcome State Fault Refusal :=
  s.runMaster m fun c => c.regWrite m 0x2006C w

/-- CLR (R346): MN_CCMD.CLR. -/
def execClr (m : Master) (s : State) : Host.Outcome State Fault Refusal :=
  s.runMaster m fun c => c.regWrite m 0x20080 1

/-- CLRALL (R346): MN_CCMD.CLRALL. -/
def execClrall (m : Master) (s : State) : Host.Outcome State Fault Refusal :=
  s.runMaster m fun c => c.regWrite m 0x20080 2

/-- FREEZE (R347): MN_FREEZE. -/
def execFreeze (m : Master) (w : Word) (s : State) : Host.Outcome State Fault Refusal :=
  s.runMaster m fun c => c.regWrite m 0x20040 w

/-- SNAP_NOW (R349): MN_SNAPCTL.NOW. -/
def execSnapNow (m : Master) (s : State) : Host.Outcome State Fault Refusal :=
  s.runMaster m fun c => c.regWrite m 0x20044 1

/-- SNAP_ARM (R350): MN_SNAPCTL.ARM. -/
def execSnapArm (m : Master) (s : State) : Host.Outcome State Fault Refusal :=
  s.runMaster m fun c => c.regWrite m 0x20044 2

/-- SNAP_CANCEL (R350): MN_SNAPCTL.CANCEL. -/
def execSnapCancel (m : Master) (s : State) : Host.Outcome State Fault Refusal :=
  s.runMaster m fun c => c.regWrite m 0x20044 4

/-- PIN_BIND (R348): MN_PCFG of the selected pin counter. -/
def execPinBind (m : Master) (w : Word) (s : State) : Host.Outcome State Fault Refusal :=
  s.runMaster m fun c => c.regWrite m 0x20088 w

/-- PIN_CLR (R348): MN_PCMD.CLR. -/
def execPinClr (m : Master) (s : State) : Host.Outcome State Fault Refusal :=
  s.runMaster m fun c => c.regWrite m 0x2009C 1

/-- The address of a configuration register of the selected histogram unit. -/
def hsAddr : HsReg → Nat
  | .ucfg => 0x21400
  | .ubase => 0x21404
  | .uwidth => 0x21408

/-- HS_CONFIG (R356). -/
def execHsConfig (m : Master) (which : HsReg) (w : Word) (s : State) : Host.Outcome State Fault Refusal :=
  s.runMaster m fun c => c.regWrite m (hsAddr which) w

/-- HS_CLEAR (R356): HS_UCMD.CLEAR of the selected unit. -/
def execHsClear (m : Master) (s : State) : Host.Outcome State Fault Refusal :=
  s.runMaster m fun c => c.regWrite m 0x21410 1

/-- HS_RESTART (R356): HS_UCMD.RESTART of the selected unit. -/
def execHsRestart (m : Master) (s : State) : Host.Outcome State Fault Refusal :=
  s.runMaster m fun c => c.regWrite m 0x21410 2

/-- LANEGO (R374): PW_BOOT.LANEGO. -/
def execLanego (m : Master) (s : State) : Host.Outcome State Fault Refusal :=
  s.runMaster m fun c => c.regWrite m 0x24064 1

end Sys2Proof.Machine
end

