-- ==== Sys2Proof/Machine/AccessTime.lean ====
section
/-!
DEFINITION. Machine/AccessTime.lean: the register accesses of the global page, the timekeeper, the time bases, the lanes, the tree
engine, the servo and the references that are commands of their own.
-/

namespace Sys2Proof.Machine

/-- REGISTER_WRITE (R46): any register write. -/
def execRegisterWrite (m : Master) (a : BitVec 18) (w : Word) (s : State) : Host.Outcome State Fault Refusal :=
  s.runMaster m fun c => c.regWrite m a.toNat w

/-- PAGE_SOFT_RESET (R42): CTRL is written with SRST = 1 and EN at its present value. -/
def execPageSoftReset (m : Master) (page : Page) (s : State) : Host.Outcome State Fault Refusal :=
  s.runMaster m fun c => c.regWrite m (page.val * 4096 + 0x008) (c.reg (ctrlRow page.val) ||| 2)

/-- SOFT_RESET_HOLD_END (R42). -/
def execSoftResetHoldEnd (page : Page) (s : State) : Host.Outcome State Fault Refusal :=
  s.run fun c => c.holdEnd page.val

/-- CHSEL_WRITE (R45). -/
def execChselWrite (m : Master) (page : Page) (w : Word) (s : State) : Host.Outcome State Fault Refusal :=
  s.runMaster m fun c => c.regWrite m (page.val * 4096 + 0x020) w

/-- LOCK_SET (R52). -/
def execLockSet (m : Master) (page : Page) (s : State) : Host.Outcome State Fault Refusal :=
  s.runMaster m fun c => c.regWrite m (page.val * 4096 + 0x028) 1

/-- LOCK_CLEAR (R52): a write of LOCKED = 0, with its KEY. -/
def execLockClear (m : Master) (page : Page) (w : Word) (s : State) : Host.Outcome State Fault Refusal :=
  s.runMaster m fun c => c.regWrite m (page.val * 4096 + 0x028) (w &&& 0xFFFFFFFE)

/-- RATE_STAGE (R66): TK_RATE_HI. -/
def execRateStage (m : Master) (w : Word) (s : State) : Host.Outcome State Fault Refusal :=
  s.runMaster m fun c => c.regWrite m 0x01064 w

/-- STEP_ARM (R68): TK_STEP2. -/
def execStepArm (m : Master) (w : Word) (s : State) : Host.Outcome State Fault Refusal :=
  s.runMaster m fun c => c.regWrite m 0x01098 w

/-- TIME_READ (R72): TK_TIME_FRAC. -/
def execTimeRead (m : Master) (s : State) : Host.Outcome State Fault Refusal :=
  s.runMaster m fun c => c.regRead m 0x01040

/-- TB_CAPTURE (R77): TB_CAPT.GO. -/
def execTbCapture (m : Master) (s : State) : Host.Outcome State Fault Refusal :=
  s.runMaster m fun c => c.regWrite m 0x02040 1

/-- TB_LOAD (R77): TB_LOAD_NSHI of the selected time base. -/
def execTbLoad (m : Master) (w : Word) (s : State) : Host.Outcome State Fault Refusal :=
  s.runMaster m fun c => c.regWrite m 0x02428 w

/-- TB_ADJUST (R77): TB_ADJ_NSHI of the selected time base. -/
def execTbAdjust (m : Master) (w : Word) (s : State) : Host.Outcome State Fault Refusal :=
  s.runMaster m fun c => c.regWrite m 0x02438 w

/-- CAL (R81): LN_PCTRL of the selected port is written with CAL = 1 and its other fields at their present
values. -/
def execCal (m : Master) (s : State) : Host.Outcome State Fault Refusal :=
  s.runMaster m fun c => c.regWrite m 0x08400 (c.reg Reg.LN_PCTRL (c.chanOf m 0x08) ||| 0x80)

/-- The address of a declared PMA latency (R80). -/
def latAddr : LatReg → Nat
  | .tx => 0x0840C
  | .rx => 0x08410
  | .lb => 0x08414

/-- PMA_LAT_WRITE (R81). -/
def execPmaLatWrite (m : Master) (which : LatReg) (w : Word) (s : State) : Host.Outcome State Fault Refusal :=
  s.runMaster m fun c => c.regWrite m (latAddr which) w

/-- FORCE_DOWN (R107): a write of LN_PCTRL that sets FORCE_DOWN. -/
def execForceDown (m : Master) (w : Word) (s : State) : Host.Outcome State Fault Refusal :=
  s.runMaster m fun c => c.regWrite m 0x08400 (w ||| 0x40)

/-- PORT_DISABLE (R107): a write of LN_PCTRL that clears PEN. -/
def execPortDisable (m : Master) (w : Word) (s : State) : Host.Outcome State Fault Refusal :=
  s.runMaster m fun c => c.regWrite m 0x08400 (w &&& 0xFFFFFFFE)

/-- CLAIM (R118): TR_CTRL.CLAIM. -/
def execClaim (m : Master) (s : State) : Host.Outcome State Fault Refusal :=
  s.runMaster m fun c => c.regWrite m 0x09048 1

/-- YIELD (R117): TR_CTRL.YIELD. -/
def execYield (m : Master) (s : State) : Host.Outcome State Fault Refusal :=
  s.runMaster m fun c => c.regWrite m 0x09048 2

/-- REVERT_NOW (R126): TR_CTRL.REVERT_NOW. -/
def execRevertNow (m : Master) (s : State) : Host.Outcome State Fault Refusal :=
  s.runMaster m fun c => c.regWrite m 0x09048 4

/-- RRA_GO (R127): TR_RRA_GO. -/
def execRraGo (m : Master) (w : Word) (s : State) : Host.Outcome State Fault Refusal :=
  s.runMaster m fun c => c.regWrite m 0x0908C w

/-- RREQ_EXECUTE (R128): the request at the head of a port of a die executes there. -/
def execRreqExecute (port : Port) (s : State) : Host.Outcome State Fault Refusal :=
  s.runDiePort port fun c => c.rreqTake port.val

/-- RRSP_POP (R129): a read of TR_RRSP0. -/
def execRrspPop (m : Master) (s : State) : Host.Outcome State Fault Refusal :=
  s.runMaster m fun c => c.regRead m 0x09098

/-- INQ_POP (R130): a read of TR_INQ0. -/
def execInqPop (m : Master) (s : State) : Host.Outcome State Fault Refusal :=
  s.runMaster m fun c => c.regRead m 0x090A4

/-- MLQ_POP (R125): a read of TR_MLQ0. -/
def execMlqPop (m : Master) (s : State) : Host.Outcome State Fault Refusal :=
  s.runMaster m fun c => c.regRead m 0x090B0

/-- SV_SWITCH (R141): SV_CMD.SWITCH. -/
def execSvSwitch (m : Master) (s : State) : Host.Outcome State Fault Refusal :=
  s.runMaster m fun c => c.regWrite m 0x03060 2

/-- FORCE_ACQ (R137): SV_CMD.FORCE_ACQ. -/
def execForceAcq (m : Master) (s : State) : Host.Outcome State Fault Refusal :=
  s.runMaster m fun c => c.regWrite m 0x03060 1

/-- RELEARN (R134): SV_CCMD.RELEARN of the selected channel. -/
def execRelearn (m : Master) (s : State) : Host.Outcome State Fault Refusal :=
  s.runMaster m fun c => c.regWrite m 0x03410 2

/-- ASYM_OK (R136): SV_CCMD.ASYM_OK of the selected channel. -/
def execAsymOk (m : Master) (s : State) : Host.Outcome State Fault Refusal :=
  s.runMaster m fun c => c.regWrite m 0x03410 1

/-- ASYM_WRITE (R136): LN_ASYM of the selected port. -/
def execAsymWrite (m : Master) (w : Word) (s : State) : Host.Outcome State Fault Refusal :=
  s.runMaster m fun c => c.regWrite m 0x08440 w

/-- RF_RCFG_WRITE (R145): RF_RCFG of the selected reference. -/
def execRfRcfgWrite (m : Master) (w : Word) (s : State) : Host.Outcome State Fault Refusal :=
  s.runMaster m fun c => c.regWrite m 0x04400 w

/-- RF_FORCE_WRITE (R147): RF_FORCE. -/
def execRfForceWrite (m : Master) (w : Word) (s : State) : Host.Outcome State Fault Refusal :=
  s.runMaster m fun c => c.regWrite m 0x0404C w

end Sys2Proof.Machine
end

