-- ==== Sys2Proof/Machine/Dispatch.lean ====
section
/-!
DEFINITION. Machine/Dispatch.lean: the one table from commands to their meanings.
-/

namespace Sys2Proof.Machine

def exec (i : Instr) (s : State) : Host.Outcome State Fault Refusal :=
  match i with
  | .registerWrite m a w => Sys2Proof.Machine.execRegisterWrite m a w s
  | .pageSoftReset m page => Sys2Proof.Machine.execPageSoftReset m page s
  | .softResetHoldEnd page => Sys2Proof.Machine.execSoftResetHoldEnd page s
  | .chselWrite m page w => Sys2Proof.Machine.execChselWrite m page w s
  | .lockSet m page => Sys2Proof.Machine.execLockSet m page s
  | .lockClear m page w => Sys2Proof.Machine.execLockClear m page w s
  | .rateStage m w => Sys2Proof.Machine.execRateStage m w s
  | .stepArm m w => Sys2Proof.Machine.execStepArm m w s
  | .anchorBoundary faults => Sys2Proof.Machine.execAnchorBoundary faults s
  | .timeRead m => Sys2Proof.Machine.execTimeRead m s
  | .tbCapture m => Sys2Proof.Machine.execTbCapture m s
  | .tbLoad m w => Sys2Proof.Machine.execTbLoad m w s
  | .tbAdjust m w => Sys2Proof.Machine.execTbAdjust m w s
  | .cal m => Sys2Proof.Machine.execCal m s
  | .loopbackCheckDone port meas => Sys2Proof.Machine.execLoopbackCheckDone port meas s
  | .pmaLatWrite m which w => Sys2Proof.Machine.execPmaLatWrite m which w s
  | .forceDown m w => Sys2Proof.Machine.execForceDown m w s
  | .portDisable m w => Sys2Proof.Machine.execPortDisable m w s
  | .portStart port => Sys2Proof.Machine.execPortStart port s
  | .pmaReady port => Sys2Proof.Machine.execPmaReady port s
  | .pmaReadyLoss port => Sys2Proof.Machine.execPmaReadyLoss port s
  | .codewordReceive port cw => Sys2Proof.Machine.execCodewordReceive port cw s
  | .codewordLock port => Sys2Proof.Machine.execCodewordLock port s
  | .lockLoss port => Sys2Proof.Machine.execLockLoss port s
  | .cellSlot port phase => Sys2Proof.Machine.execCellSlot port phase s
  | .nakReceive port => Sys2Proof.Machine.execNakReceive port s
  | .replayTimeout port => Sys2Proof.Machine.execReplayTimeout port s
  | .tickSend port => Sys2Proof.Machine.execTickSend port s
  | .tickReceive port => Sys2Proof.Machine.execTickReceive port s
  | .preqSend port => Sys2Proof.Machine.execPreqSend port s
  | .preqReceive port => Sys2Proof.Machine.execPreqReceive port s
  | .prspReceive port => Sys2Proof.Machine.execPrspReceive port s
  | .probeAbandon port => Sys2Proof.Machine.execProbeAbandon port s
  | .mkrTimeout port => Sys2Proof.Machine.execMkrTimeout port s
  | .identSend port => Sys2Proof.Machine.execIdentSend port s
  | .identReceive port => Sys2Proof.Machine.execIdentReceive port s
  | .identAckReceive port => Sys2Proof.Machine.execIdentAckReceive port s
  | .laneReset port => Sys2Proof.Machine.execLaneReset port s
  | .traceReceive port => Sys2Proof.Machine.execTraceReceive port s
  | .rootTimerExpiry => Sys2Proof.Machine.execRootTimerExpiry s
  | .reflectReceive port => Sys2Proof.Machine.execReflectReceive port s
  | .summarySend => Sys2Proof.Machine.execSummarySend s
  | .summaryReceive port => Sys2Proof.Machine.execSummaryReceive port s
  | .claim m => Sys2Proof.Machine.execClaim m s
  | .yield m => Sys2Proof.Machine.execYield m s
  | .revertNow m => Sys2Proof.Machine.execRevertNow m s
  | .startSlow => Sys2Proof.Machine.execStartSlow s
  | .mlossReceive port => Sys2Proof.Machine.execMlossReceive port s
  | .rraGo m w => Sys2Proof.Machine.execRraGo m w s
  | .rreqReceive port => Sys2Proof.Machine.execRreqReceive port s
  | .rreqExecute port => Sys2Proof.Machine.execRreqExecute port s
  | .rrspReceive port => Sys2Proof.Machine.execRrspReceive port s
  | .rraTmo tag => Sys2Proof.Machine.execRraTmo tag s
  | .rrspPop m => Sys2Proof.Machine.execRrspPop m s
  | .inoteReceive port => Sys2Proof.Machine.execInoteReceive port s
  | .inqPop m => Sys2Proof.Machine.execInqPop m s
  | .mlqPop m => Sys2Proof.Machine.execMlqPop m s
  | .offsetWindowEnd => Sys2Proof.Machine.execOffsetWindowEnd s
  | .holdoverTimerExpiry => Sys2Proof.Machine.execHoldoverTimerExpiry s
  | .hordy => Sys2Proof.Machine.execHordy s
  | .freqLock => Sys2Proof.Machine.execFreqLock s
  | .flockLost => Sys2Proof.Machine.execFlockLost s
  | .svSwitch m => Sys2Proof.Machine.execSvSwitch m s
  | .forceAcq m => Sys2Proof.Machine.execForceAcq m s
  | .buildOutDecay => Sys2Proof.Machine.execBuildOutDecay s
  | .planeRevert => Sys2Proof.Machine.execPlaneRevert s
  | .relearn m => Sys2Proof.Machine.execRelearn m s
  | .asymOk m => Sys2Proof.Machine.execAsymOk m s
  | .asymWrite m w => Sys2Proof.Machine.execAsymWrite m w s
  | .refSignalLoss ref => Sys2Proof.Machine.execRefSignalLoss ref s
  | .refQual ref => Sys2Proof.Machine.execRefQual ref s
  | .refDisq ref => Sys2Proof.Machine.execRefDisq ref s
  | .wtrExpiry ref => Sys2Proof.Machine.execWtrExpiry ref s
  | .rfRcfgWrite m w => Sys2Proof.Machine.execRfRcfgWrite m w s
  | .rfForceWrite m w => Sys2Proof.Machine.execRfForceWrite m w s
  | .refEdge pin phase => Sys2Proof.Machine.execRefEdge pin phase s
  | .todSentence uart ok utc => Sys2Proof.Machine.execTodSentence uart ok utc s
  | .ptpMessage msg => Sys2Proof.Machine.execPtpMessage msg s
  | .hoTrace => Sys2Proof.Machine.execHoTrace s
  | .chainCal m => Sys2Proof.Machine.execChainCal m s
  | .chainCalDone hops => Sys2Proof.Machine.execChainCalDone hops s
  | .driftCheck tap trip => Sys2Proof.Machine.execDriftCheck tap trip s
  | .armArrive line => Sys2Proof.Machine.execArmArrive line s
  | .tapMoment line => Sys2Proof.Machine.execTapMoment line s
  | .fireEdge line phase => Sys2Proof.Machine.execFireEdge line phase s
  | .regionPeriodEnd edge period => Sys2Proof.Machine.execRegionPeriodEnd edge period s
  | .xcStrobe xc phase => Sys2Proof.Machine.execXcStrobe xc phase s
  | .xcRelease xc phase retaken => Sys2Proof.Machine.execXcRelease xc phase retaken s
  | .xcal m => Sys2Proof.Machine.execXcal m s
  | .xcalDone tap lat0 lat1 lat2 lat3 => Sys2Proof.Machine.execXcalDone tap lat0 lat1 lat2 lat3 s
  | .stopreq tap => Sys2Proof.Machine.execStopreq tap s
  | .regionRun edge op => Sys2Proof.Machine.execRegionRun edge op s
  | .opcalDone tap period => Sys2Proof.Machine.execOpcalDone tap period s
  | .heartbeat edge => Sys2Proof.Machine.execHeartbeat edge s
  | .engineDone edge => Sys2Proof.Machine.execEngineDone edge s
  | .engStart edge ctx => Sys2Proof.Machine.execEngStart edge ctx s
  | .engRack edge => Sys2Proof.Machine.execEngRack edge s
  | .rgnRack edge => Sys2Proof.Machine.execRgnRack edge s
  | .engStatus eng words => Sys2Proof.Machine.execEngStatus eng words s
  | .txSof tap fid cls phase => Sys2Proof.Machine.execTxSof tap fid cls phase s
  | .rxSof tap cls phase => Sys2Proof.Machine.execRxSof tap cls phase s
  | .plumbSend tap => Sys2Proof.Machine.execPlumbSend tap s
  | .plumbReceive tap pay => Sys2Proof.Machine.execPlumbReceive tap pay s
  | .plumbTimeout tap => Sys2Proof.Machine.execPlumbTimeout tap s
  | .txqPop m => Sys2Proof.Machine.execTxqPop m s
  | .swevt input => Sys2Proof.Machine.execSwevt input s
  | .swqPop m => Sys2Proof.Machine.execSwqPop m s
  | .pulseArm m w => Sys2Proof.Machine.execPulseArm m w s
  | .pulseDisarm m => Sys2Proof.Machine.execPulseDisarm m s
  | .pulseEdge out => Sys2Proof.Machine.execPulseEdge out s
  | .short out => Sys2Proof.Machine.execShort out s
  | .shortRetry out still => Sys2Proof.Machine.execShortRetry out still s
  | .openLoad out => Sys2Proof.Machine.execOpenLoad out s
  | .openIn pin => Sys2Proof.Machine.execOpenIn pin s
  | .ppsInv pin => Sys2Proof.Machine.execPpsInv pin s
  | .uartInv uart => Sys2Proof.Machine.execUartInv uart s
  | .threadStart m => Sys2Proof.Machine.execThreadStart m s
  | .threadHalt m => Sys2Proof.Machine.execThreadHalt m s
  | .threadResume m => Sys2Proof.Machine.execThreadResume m s
  | .threadCancel m => Sys2Proof.Machine.execThreadCancel m s
  | .mailboxCommit m n w => Sys2Proof.Machine.execMailboxCommit m n w s
  | .threadAged t => Sys2Proof.Machine.execThreadAged t s
  | .nop t => Sys2Proof.Machine.execNop t s
  | .halt t => Sys2Proof.Machine.execHalt t s
  | .jmp t => Sys2Proof.Machine.execJmp t s
  | .loop t => Sys2Proof.Machine.execLoop t s
  | .brf t => Sys2Proof.Machine.execBrf t s
  | .waitt t => Sys2Proof.Machine.execWaitt t s
  | .waittWake t => Sys2Proof.Machine.execWaittWake t s
  | .setb t => Sys2Proof.Machine.execSetb t s
  | .fire t => Sys2Proof.Machine.execFire t s
  | .fireat t => Sys2Proof.Machine.execFireat t s
  | .fireRetire t => Sys2Proof.Machine.execFireRetire t s
  | .arm t => Sys2Proof.Machine.execArm t s
  | .contrib t => Sys2Proof.Machine.execContrib t s
  | .sync t => Sys2Proof.Machine.execSync t s
  | .sig t => Sys2Proof.Machine.execSig t s
  | .sigEvt t => Sys2Proof.Machine.execSigEvt t s
  | .sigr t => Sys2Proof.Machine.execSigr t s
  | .waits t => Sys2Proof.Machine.execWaits t s
  | .fence t => Sys2Proof.Machine.execFence t s
  | .fenceDone tag => Sys2Proof.Machine.execFenceDone tag s
  | .fenceStall t => Sys2Proof.Machine.execFenceStall t s
  | .snap t => Sys2Proof.Machine.execSnap t s
  | .snapAt t => Sys2Proof.Machine.execSnapAt t s
  | .mark t => Sys2Proof.Machine.execMark t s
  | .badOp t => Sys2Proof.Machine.execBadOp t s
  | .parity t word => Sys2Proof.Machine.execParity t word s
  | .dieArrival gidx => Sys2Proof.Machine.execDieArrival gidx s
  | .sqmCommit m w => Sys2Proof.Machine.execSqmCommit m w s
  | .sqmRead m => Sys2Proof.Machine.execSqmRead m s
  | .arriveReceive port => Sys2Proof.Machine.execArriveReceive port s
  | .releaseReceive port => Sys2Proof.Machine.execReleaseReceive port s
  | .releaseDeliver port => Sys2Proof.Machine.execReleaseDeliver port s
  | .heldSend => Sys2Proof.Machine.execHeldSend s
  | .levelSat => Sys2Proof.Machine.execLevelSat s
  | .signal slot sem n dir tag => Sys2Proof.Machine.execSignal slot sem n dir tag s
  | .setevent slot sem => Sys2Proof.Machine.execSetevent slot sem s
  | .wait slot sem n dir ord rank tag => Sys2Proof.Machine.execWait slot sem n dir ord rank tag s
  | .coreSigr slot gte n dir tag => Sys2Proof.Machine.execCoreSigr slot gte n dir tag s
  | .cancel slot => Sys2Proof.Machine.execCancel slot s
  | .ssig m w => Sys2Proof.Machine.execSsig m w s
  | .scmdSetevent m => Sys2Proof.Machine.execScmdSetevent m s
  | .rstnext m => Sys2Proof.Machine.execRstnext m s
  | .sgScfgWrite m w => Sys2Proof.Machine.execSgScfgWrite m w s
  | .sgSelWrite m which w => Sys2Proof.Machine.execSgSelWrite m which w s
  | .grant sem => Sys2Proof.Machine.execGrant sem s
  | .stagingQuery => Sys2Proof.Machine.execStagingQuery s
  | .fcAnswer count => Sys2Proof.Machine.execFcAnswer count s
  | .fctrTmo => Sys2Proof.Machine.execFctrTmo s
  | .rsigForward port => Sys2Proof.Machine.execRsigForward port s
  | .rsigReceive port => Sys2Proof.Machine.execRsigReceive port s
  | .pendingEntry port => Sys2Proof.Machine.execPendingEntry port s
  | .fcUpdate src chan count => Sys2Proof.Machine.execFcUpdate src chan count s
  | .remoteSignalExecute => Sys2Proof.Machine.execRemoteSignalExecute s
  | .gateStall idx => Sys2Proof.Machine.execGateStall idx s
  | .deadlockSample gidx => Sys2Proof.Machine.execDeadlockSample gidx s
  | .qprobeSend gidx => Sys2Proof.Machine.execQprobeSend gidx s
  | .qprobeReceive port => Sys2Proof.Machine.execQprobeReceive port s
  | .qprobeVerdict port => Sys2Proof.Machine.execQprobeVerdict port s
  | .grGkeyWrite m w => Sys2Proof.Machine.execGrGkeyWrite m w s
  | .findGid m w => Sys2Proof.Machine.execFindGid m w s
  | .sealCmd m w => Sys2Proof.Machine.execSeal m w s
  | .dissolve m w => Sys2Proof.Machine.execDissolve m w s
  | .admitCmd m w => Sys2Proof.Machine.execAdmit m w s
  | .expel m w => Sys2Proof.Machine.execExpel m w s
  | .sealReceive port => Sys2Proof.Machine.execSealReceive port s
  | .dissolveReceive port => Sys2Proof.Machine.execDissolveReceive port s
  | .admitReceive port => Sys2Proof.Machine.execAdmitReceive port s
  | .expelReceive port => Sys2Proof.Machine.execExpelReceive port s
  | .hubCensusSend gidx => Sys2Proof.Machine.execHubCensusSend gidx s
  | .censusReceive port => Sys2Proof.Machine.execCensusReceive port s
  | .censusDownReceive port => Sys2Proof.Machine.execCensusDownReceive port s
  | .quarantineEnd gidx => Sys2Proof.Machine.execQuarantineEnd gidx s
  | .gdLimitWrite m which w => Sys2Proof.Machine.execGdLimitWrite m which w s
  | .barrierOverride m w => Sys2Proof.Machine.execBarrierOverride m w s
  | .watchdogKick m => Sys2Proof.Machine.execWatchdogKick m s
  | .watchdogExpiry => Sys2Proof.Machine.execWatchdogExpiry s
  | .expiryClear => Sys2Proof.Machine.execExpiryClear s
  | .sramPar => Sys2Proof.Machine.execSramPar s
  | .nvmProt addr => Sys2Proof.Machine.execNvmProt addr s
  | .imageLoad => Sys2Proof.Machine.execImageLoad s
  | .imageVerified ok => Sys2Proof.Machine.execImageVerified ok s
  | .stagingErase m w => Sys2Proof.Machine.execStagingErase m w s
  | .stagingEraseDone => Sys2Proof.Machine.execStagingEraseDone s
  | .stagingWrite m w => Sys2Proof.Machine.execStagingWrite m w s
  | .verify m => Sys2Proof.Machine.execVerify m s
  | .hold m => Sys2Proof.Machine.execHold m s
  | .fwRelease m => Sys2Proof.Machine.execFwRelease m s
  | .fwSwitch m => Sys2Proof.Machine.execFwSwitch m s
  | .handover m => Sys2Proof.Machine.execHandover m s
  | .commit m => Sys2Proof.Machine.execCommit m s
  | .swreqTmo => Sys2Proof.Machine.execSwreqTmo s
  | .trialTimeout => Sys2Proof.Machine.execTrialTimeout s
  | .mwErr addr => Sys2Proof.Machine.execMwErr addr s
  | .hbTmo eng => Sys2Proof.Machine.execHbTmo eng s
  | .overrun t => Sys2Proof.Machine.execOverrun t s
  | .waitTmo agent => Sys2Proof.Machine.execWaitTmo agent s
  | .sqWdog t => Sys2Proof.Machine.execSqWdog t s
  | .cpTake m => Sys2Proof.Machine.execCpTake m s
  | .capturePauseEnd => Sys2Proof.Machine.execCapturePauseEnd s
  | .estatTmo eng => Sys2Proof.Machine.execEstatTmo eng s
  | .capsuleComplete => Sys2Proof.Machine.execCapsuleComplete s
  | .cpRelease m => Sys2Proof.Machine.execCpRelease m s
  | .capsuleMirrored => Sys2Proof.Machine.execCapsuleMirrored s
  | .capsuleRead m => Sys2Proof.Machine.execCapsuleRead m s
  | .engResetTimeout eng => Sys2Proof.Machine.execEngResetTimeout eng s
  | .rgnResetTimeout tap => Sys2Proof.Machine.execRgnResetTimeout tap s
  | .ereset m => Sys2Proof.Machine.execEreset m s
  | .unfence m => Sys2Proof.Machine.execUnfence m s
  | .solo m => Sys2Proof.Machine.execSolo m s
  | .soloAbort m => Sys2Proof.Machine.execSoloAbort m s
  | .soloFire => Sys2Proof.Machine.execSoloFire s
  | .soloTmo => Sys2Proof.Machine.execSoloTmo s
  | .recordWrite => Sys2Proof.Machine.execRecordWrite s
  | .restore m w => Sys2Proof.Machine.execRestore m w s
  | .evupReceive port => Sys2Proof.Machine.execEvupReceive port s
  | .uploadPop m => Sys2Proof.Machine.execUploadPop m s
  | .severityQuery m w => Sys2Proof.Machine.execSeverityQuery m w s
  | .counterBind m w => Sys2Proof.Machine.execCounterBind m w s
  | .clr m => Sys2Proof.Machine.execClr m s
  | .clrall m => Sys2Proof.Machine.execClrall m s
  | .freeze m w => Sys2Proof.Machine.execFreeze m w s
  | .snapNow m => Sys2Proof.Machine.execSnapNow m s
  | .snapArm m => Sys2Proof.Machine.execSnapArm m s
  | .snapCancel m => Sys2Proof.Machine.execSnapCancel m s
  | .snapshotDue => Sys2Proof.Machine.execSnapshotDue s
  | .pinBind m w => Sys2Proof.Machine.execPinBind m w s
  | .pinClr m => Sys2Proof.Machine.execPinClr m s
  | .hsConfig m which w => Sys2Proof.Machine.execHsConfig m which w s
  | .hsClear m => Sys2Proof.Machine.execHsClear m s
  | .hsRestart m => Sys2Proof.Machine.execHsRestart m s
  | .railGood rail slow => Sys2Proof.Machine.execRailGood rail slow s
  | .railFail rail => Sys2Proof.Machine.execRailFail rail s
  | .tclkRail => Sys2Proof.Machine.execTclkRail s
  | .tempSample temp => Sys2Proof.Machine.execTempSample temp s
  | .mainReset => Sys2Proof.Machine.execMainReset s
  | .mainResetRelease => Sys2Proof.Machine.execMainResetRelease s
  | .hostReset => Sys2Proof.Machine.execHostReset s
  | .hostResetRelease => Sys2Proof.Machine.execHostResetRelease s
  | .lanego m => Sys2Proof.Machine.execLanego m s
  | .freqOk port ok => Sys2Proof.Machine.execFreqOk port ok s
  | .ageingReady => Sys2Proof.Machine.execAgeingReady s
  | .stagingProgram n => Sys2Proof.Machine.execStagingProgram n s
  | .debugReset => Sys2Proof.Machine.execDebugReset s

end Sys2Proof.Machine
end

