-- ==== Sys2Proof/Laws/PerInstr.lean ====
section
/-!
SUPPORT. Laws/PerInstr.lean: the family Shape, one lemma per command: what a well-formed command
carries in whole cells and in word lists has the size the spec gives it.
-/

namespace Sys2Proof.Laws.Shape

/-- The lane cells a command carries. -/
def cells : Instr → List Cell
  | .codewordReceive _ cw => cw.cells
  | _ => []

/-- The words a command carries besides its cells and single words. -/
def loose : Instr → List Word
  | .engStatus _ ws => ws
  | .plumbReceive _ ws => ws
  | _ => []

/-- A well-formed command carries no cell or eight of twenty words each, and at most 64 loose words. -/
def Statement (i : Instr) : Prop :=
  i.wf = true → ((cells i).length = 0 ∨ (cells i).length = 8) ∧ (∀ x ∈ cells i, x.length = 20)
    ∧ (loose i).length ≤ 64

/-- A command that carries neither has nothing to show. -/
theorem of_none {i : Instr} (hc : cells i = []) (hw : loose i = []) : Statement i := by
  intro _
  rw [hc, hw]
  simp

theorem registerWrite (m : Master) (a : BitVec 18) (w : Word) : Statement (.registerWrite m a w) := of_none rfl rfl
theorem pageSoftReset (m : Master) (page : Page) : Statement (.pageSoftReset m page) := of_none rfl rfl
theorem softResetHoldEnd (page : Page) : Statement (.softResetHoldEnd page) := of_none rfl rfl
theorem chselWrite (m : Master) (page : Page) (w : Word) : Statement (.chselWrite m page w) := of_none rfl rfl
theorem lockSet (m : Master) (page : Page) : Statement (.lockSet m page) := of_none rfl rfl
theorem lockClear (m : Master) (page : Page) (w : Word) : Statement (.lockClear m page w) := of_none rfl rfl
theorem rateStage (m : Master) (w : Word) : Statement (.rateStage m w) := of_none rfl rfl
theorem stepArm (m : Master) (w : Word) : Statement (.stepArm m w) := of_none rfl rfl
theorem anchorBoundary (faults : List Tap) : Statement (.anchorBoundary faults) := of_none rfl rfl
theorem timeRead (m : Master) : Statement (.timeRead m) := of_none rfl rfl
theorem tbCapture (m : Master) : Statement (.tbCapture m) := of_none rfl rfl
theorem tbLoad (m : Master) (w : Word) : Statement (.tbLoad m w) := of_none rfl rfl
theorem tbAdjust (m : Master) (w : Word) : Statement (.tbAdjust m w) := of_none rfl rfl
theorem cal (m : Master) : Statement (.cal m) := of_none rfl rfl
theorem loopbackCheckDone (port : Port) (meas : BitVec 24) : Statement (.loopbackCheckDone port meas) := of_none rfl rfl
theorem pmaLatWrite (m : Master) (which : LatReg) (w : Word) : Statement (.pmaLatWrite m which w) := of_none rfl rfl
theorem forceDown (m : Master) (w : Word) : Statement (.forceDown m w) := of_none rfl rfl
theorem portDisable (m : Master) (w : Word) : Statement (.portDisable m w) := of_none rfl rfl
theorem portStart (port : Port) : Statement (.portStart port) := of_none rfl rfl
theorem pmaReady (port : Port) : Statement (.pmaReady port) := of_none rfl rfl
theorem pmaReadyLoss (port : Port) : Statement (.pmaReadyLoss port) := of_none rfl rfl
theorem codewordReceive (port : Port) (cw : Codeword) : Statement (.codewordReceive port cw) := by
  intro h
  simp only [Instr.wf, Codeword.wf, Bool.and_eq_true, decide_eq_true_eq, List.all_eq_true] at h
  exact ⟨Or.inr h.1.1, h.1.2, Nat.zero_le _⟩
theorem codewordLock (port : Port) : Statement (.codewordLock port) := of_none rfl rfl
theorem lockLoss (port : Port) : Statement (.lockLoss port) := of_none rfl rfl
theorem cellSlot (port : Port) (phase : Fin 64) : Statement (.cellSlot port phase) := of_none rfl rfl
theorem nakReceive (port : Port) : Statement (.nakReceive port) := of_none rfl rfl
theorem replayTimeout (port : Port) : Statement (.replayTimeout port) := of_none rfl rfl
theorem tickSend (port : Port) : Statement (.tickSend port) := of_none rfl rfl
theorem tickReceive (port : Port) : Statement (.tickReceive port) := of_none rfl rfl
theorem preqSend (port : Port) : Statement (.preqSend port) := of_none rfl rfl
theorem preqReceive (port : Port) : Statement (.preqReceive port) := of_none rfl rfl
theorem prspReceive (port : Port) : Statement (.prspReceive port) := of_none rfl rfl
theorem probeAbandon (port : Port) : Statement (.probeAbandon port) := of_none rfl rfl
theorem mkrTimeout (port : Port) : Statement (.mkrTimeout port) := of_none rfl rfl
theorem identSend (port : Port) : Statement (.identSend port) := of_none rfl rfl
theorem identReceive (port : Port) : Statement (.identReceive port) := of_none rfl rfl
theorem identAckReceive (port : Port) : Statement (.identAckReceive port) := of_none rfl rfl
theorem laneReset (port : Port) : Statement (.laneReset port) := of_none rfl rfl
theorem traceReceive (port : Port) : Statement (.traceReceive port) := of_none rfl rfl
theorem rootTimerExpiry : Statement .rootTimerExpiry := of_none rfl rfl
theorem reflectReceive (port : Port) : Statement (.reflectReceive port) := of_none rfl rfl
theorem summarySend : Statement .summarySend := of_none rfl rfl
theorem summaryReceive (port : Port) : Statement (.summaryReceive port) := of_none rfl rfl
theorem claim (m : Master) : Statement (.claim m) := of_none rfl rfl
theorem yield (m : Master) : Statement (.yield m) := of_none rfl rfl
theorem revertNow (m : Master) : Statement (.revertNow m) := of_none rfl rfl
theorem startSlow : Statement .startSlow := of_none rfl rfl
theorem mlossReceive (port : Port) : Statement (.mlossReceive port) := of_none rfl rfl
theorem rraGo (m : Master) (w : Word) : Statement (.rraGo m w) := of_none rfl rfl
theorem rreqReceive (port : Port) : Statement (.rreqReceive port) := of_none rfl rfl
theorem rreqExecute (port : Port) : Statement (.rreqExecute port) := of_none rfl rfl
theorem rrspReceive (port : Port) : Statement (.rrspReceive port) := of_none rfl rfl
theorem rraTmo (tag : Tag) : Statement (.rraTmo tag) := of_none rfl rfl
theorem rrspPop (m : Master) : Statement (.rrspPop m) := of_none rfl rfl
theorem inoteReceive (port : Port) : Statement (.inoteReceive port) := of_none rfl rfl
theorem inqPop (m : Master) : Statement (.inqPop m) := of_none rfl rfl
theorem mlqPop (m : Master) : Statement (.mlqPop m) := of_none rfl rfl
theorem offsetWindowEnd : Statement .offsetWindowEnd := of_none rfl rfl
theorem holdoverTimerExpiry : Statement .holdoverTimerExpiry := of_none rfl rfl
theorem hordy : Statement .hordy := of_none rfl rfl
theorem freqLock : Statement .freqLock := of_none rfl rfl
theorem flockLost : Statement .flockLost := of_none rfl rfl
theorem svSwitch (m : Master) : Statement (.svSwitch m) := of_none rfl rfl
theorem forceAcq (m : Master) : Statement (.forceAcq m) := of_none rfl rfl
theorem buildOutDecay : Statement .buildOutDecay := of_none rfl rfl
theorem planeRevert : Statement .planeRevert := of_none rfl rfl
theorem relearn (m : Master) : Statement (.relearn m) := of_none rfl rfl
theorem asymOk (m : Master) : Statement (.asymOk m) := of_none rfl rfl
theorem asymWrite (m : Master) (w : Word) : Statement (.asymWrite m w) := of_none rfl rfl
theorem refSignalLoss (ref : RefIn) : Statement (.refSignalLoss ref) := of_none rfl rfl
theorem refQual (ref : RefIn) : Statement (.refQual ref) := of_none rfl rfl
theorem refDisq (ref : RefIn) : Statement (.refDisq ref) := of_none rfl rfl
theorem wtrExpiry (ref : RefIn) : Statement (.wtrExpiry ref) := of_none rfl rfl
theorem rfRcfgWrite (m : Master) (w : Word) : Statement (.rfRcfgWrite m w) := of_none rfl rfl
theorem rfForceWrite (m : Master) (w : Word) : Statement (.rfForceWrite m w) := of_none rfl rfl
theorem refEdge (pin : OutPin) (phase : Fin 64) : Statement (.refEdge pin phase) := of_none rfl rfl
theorem todSentence (uart : Fin 2) (ok : Bool) (utc : BitVec 40) : Statement (.todSentence uart ok utc) := of_none rfl rfl
theorem ptpMessage (msg : PtpMsg) : Statement (.ptpMessage msg) := of_none rfl rfl
theorem hoTrace : Statement .hoTrace := of_none rfl rfl
theorem chainCal (m : Master) : Statement (.chainCal m) := of_none rfl rfl
theorem chainCalDone (hops : List HopMeas) : Statement (.chainCalDone hops) := of_none rfl rfl
theorem driftCheck (tap : Tap) (trip : BitVec 16) : Statement (.driftCheck tap trip) := of_none rfl rfl
theorem armArrive (line : Line) : Statement (.armArrive line) := of_none rfl rfl
theorem tapMoment (line : Line) : Statement (.tapMoment line) := of_none rfl rfl
theorem fireEdge (line : Line) (phase : Fin 64) : Statement (.fireEdge line phase) := of_none rfl rfl
theorem regionPeriodEnd (edge : TapEdge) (period : BitVec 24) : Statement (.regionPeriodEnd edge period) := of_none rfl rfl
theorem xcStrobe (xc : Crossing) (phase : Fin 64) : Statement (.xcStrobe xc phase) := of_none rfl rfl
theorem xcRelease (xc : Crossing) (phase : Fin 64) (retaken : Bool) : Statement (.xcRelease xc phase retaken) := of_none rfl rfl
theorem xcal (m : Master) : Statement (.xcal m) := of_none rfl rfl
theorem xcalDone (tap : Tap) (lat0 : BitVec 8) (lat1 : BitVec 8) (lat2 : BitVec 8) (lat3 : BitVec 8) : Statement (.xcalDone tap lat0 lat1 lat2 lat3) := of_none rfl rfl
theorem stopreq (tap : Tap) : Statement (.stopreq tap) := of_none rfl rfl
theorem regionRun (edge : TapEdge) (op : Fin 4) : Statement (.regionRun edge op) := of_none rfl rfl
theorem opcalDone (tap : Tap) (period : BitVec 24) : Statement (.opcalDone tap period) := of_none rfl rfl
theorem heartbeat (edge : EngEdge) : Statement (.heartbeat edge) := of_none rfl rfl
theorem engineDone (edge : EngEdge) : Statement (.engineDone edge) := of_none rfl rfl
theorem engStart (edge : EngEdge) (ctx : Word) : Statement (.engStart edge ctx) := of_none rfl rfl
theorem engRack (edge : EngEdge) : Statement (.engRack edge) := of_none rfl rfl
theorem rgnRack (edge : TapEdge) : Statement (.rgnRack edge) := of_none rfl rfl
theorem engStatus (eng : Engine) (words : List Word) : Statement (.engStatus eng words) := by
  intro h
  simp only [Instr.wf, decide_eq_true_eq] at h
  simp [cells, loose, h]
theorem txSof (tap : MacTap) (fid : BitVec 16) (cls : BitVec 2) (phase : Fin 64) : Statement (.txSof tap fid cls phase) := of_none rfl rfl
theorem rxSof (tap : MacTap) (cls : BitVec 2) (phase : Fin 64) : Statement (.rxSof tap cls phase) := of_none rfl rfl
theorem plumbSend (tap : MacTap) : Statement (.plumbSend tap) := of_none rfl rfl
theorem plumbReceive (tap : MacTap) (pay : List Word) : Statement (.plumbReceive tap pay) := by
  intro h
  simp only [Instr.wf, decide_eq_true_eq] at h
  simp [cells, loose, h]
theorem plumbTimeout (tap : MacTap) : Statement (.plumbTimeout tap) := of_none rfl rfl
theorem txqPop (m : Master) : Statement (.txqPop m) := of_none rfl rfl
theorem swevt (input : Fin 4) : Statement (.swevt input) := of_none rfl rfl
theorem swqPop (m : Master) : Statement (.swqPop m) := of_none rfl rfl
theorem pulseArm (m : Master) (w : Word) : Statement (.pulseArm m w) := of_none rfl rfl
theorem pulseDisarm (m : Master) : Statement (.pulseDisarm m) := of_none rfl rfl
theorem pulseEdge (out : OutPin) : Statement (.pulseEdge out) := of_none rfl rfl
theorem short (out : OutPin) : Statement (.short out) := of_none rfl rfl
theorem shortRetry (out : OutPin) (still : Bool) : Statement (.shortRetry out still) := of_none rfl rfl
theorem openLoad (out : OutPin) : Statement (.openLoad out) := of_none rfl rfl
theorem openIn (pin : OutPin) : Statement (.openIn pin) := of_none rfl rfl
theorem ppsInv (pin : OutPin) : Statement (.ppsInv pin) := of_none rfl rfl
theorem uartInv (uart : Fin 2) : Statement (.uartInv uart) := of_none rfl rfl
theorem threadStart (m : Master) : Statement (.threadStart m) := of_none rfl rfl
theorem threadHalt (m : Master) : Statement (.threadHalt m) := of_none rfl rfl
theorem threadResume (m : Master) : Statement (.threadResume m) := of_none rfl rfl
theorem threadCancel (m : Master) : Statement (.threadCancel m) := of_none rfl rfl
theorem mailboxCommit (m : Master) (n : Fin 64) (w : Word) : Statement (.mailboxCommit m n w) := of_none rfl rfl
theorem threadAged (t : Thread) : Statement (.threadAged t) := of_none rfl rfl
theorem nop (t : Thread) : Statement (.nop t) := of_none rfl rfl
theorem halt (t : Thread) : Statement (.halt t) := of_none rfl rfl
theorem jmp (t : Thread) : Statement (.jmp t) := of_none rfl rfl
theorem loop (t : Thread) : Statement (.loop t) := of_none rfl rfl
theorem brf (t : Thread) : Statement (.brf t) := of_none rfl rfl
theorem waitt (t : Thread) : Statement (.waitt t) := of_none rfl rfl
theorem waittWake (t : Thread) : Statement (.waittWake t) := of_none rfl rfl
theorem setb (t : Thread) : Statement (.setb t) := of_none rfl rfl
theorem fire (t : Thread) : Statement (.fire t) := of_none rfl rfl
theorem fireat (t : Thread) : Statement (.fireat t) := of_none rfl rfl
theorem fireRetire (t : Thread) : Statement (.fireRetire t) := of_none rfl rfl
theorem arm (t : Thread) : Statement (.arm t) := of_none rfl rfl
theorem contrib (t : Thread) : Statement (.contrib t) := of_none rfl rfl
theorem sync (t : Thread) : Statement (.sync t) := of_none rfl rfl
theorem sig (t : Thread) : Statement (.sig t) := of_none rfl rfl
theorem sigEvt (t : Thread) : Statement (.sigEvt t) := of_none rfl rfl
theorem sigr (t : Thread) : Statement (.sigr t) := of_none rfl rfl
theorem waits (t : Thread) : Statement (.waits t) := of_none rfl rfl
theorem fence (t : Thread) : Statement (.fence t) := of_none rfl rfl
theorem fenceDone (tag : Fin 16) : Statement (.fenceDone tag) := of_none rfl rfl
theorem fenceStall (t : Thread) : Statement (.fenceStall t) := of_none rfl rfl
theorem snap (t : Thread) : Statement (.snap t) := of_none rfl rfl
theorem snapAt (t : Thread) : Statement (.snapAt t) := of_none rfl rfl
theorem mark (t : Thread) : Statement (.mark t) := of_none rfl rfl
theorem badOp (t : Thread) : Statement (.badOp t) := of_none rfl rfl
theorem parity (t : Thread) (word : BitVec 15) : Statement (.parity t word) := of_none rfl rfl
theorem dieArrival (gidx : DieGIdx) : Statement (.dieArrival gidx) := of_none rfl rfl
theorem sqmCommit (m : Master) (w : Word) : Statement (.sqmCommit m w) := of_none rfl rfl
theorem sqmRead (m : Master) : Statement (.sqmRead m) := of_none rfl rfl
theorem arriveReceive (port : Port) : Statement (.arriveReceive port) := of_none rfl rfl
theorem releaseReceive (port : Port) : Statement (.releaseReceive port) := of_none rfl rfl
theorem releaseDeliver (port : Port) : Statement (.releaseDeliver port) := of_none rfl rfl
theorem heldSend : Statement .heldSend := of_none rfl rfl
theorem levelSat : Statement .levelSat := of_none rfl rfl
theorem signal (slot : Slot) (sem : Sem) (n : BitVec 16) (dir : Bool) (tag : BitVec 8) : Statement (.signal slot sem n dir tag) := of_none rfl rfl
theorem setevent (slot : Slot) (sem : Sem) : Statement (.setevent slot sem) := of_none rfl rfl
theorem wait (slot : Slot) (sem : Sem) (n : BitVec 16) (dir : Bool) (ord : Bool) (rank : BitVec 8) (tag : BitVec 8) : Statement (.wait slot sem n dir ord rank tag) := of_none rfl rfl
theorem coreSigr (slot : Slot) (gte : GateIdx) (n : BitVec 16) (dir : Bool) (tag : BitVec 8) : Statement (.coreSigr slot gte n dir tag) := of_none rfl rfl
theorem cancel (slot : Slot) : Statement (.cancel slot) := of_none rfl rfl
theorem ssig (m : Master) (w : Word) : Statement (.ssig m w) := of_none rfl rfl
theorem scmdSetevent (m : Master) : Statement (.scmdSetevent m) := of_none rfl rfl
theorem rstnext (m : Master) : Statement (.rstnext m) := of_none rfl rfl
theorem sgScfgWrite (m : Master) (w : Word) : Statement (.sgScfgWrite m w) := of_none rfl rfl
theorem sgSelWrite (m : Master) (which : Bool) (w : Word) : Statement (.sgSelWrite m which w) := of_none rfl rfl
theorem grant (sem : SemIdx) : Statement (.grant sem) := of_none rfl rfl
theorem stagingQuery : Statement .stagingQuery := of_none rfl rfl
theorem fcAnswer (count : Word) : Statement (.fcAnswer count) := of_none rfl rfl
theorem fctrTmo : Statement .fctrTmo := of_none rfl rfl
theorem rsigForward (port : Port) : Statement (.rsigForward port) := of_none rfl rfl
theorem rsigReceive (port : Port) : Statement (.rsigReceive port) := of_none rfl rfl
theorem pendingEntry (port : Port) : Statement (.pendingEntry port) := of_none rfl rfl
theorem fcUpdate (src : BitVec 24) (chan : BitVec 12) (count : Word) : Statement (.fcUpdate src chan count) := of_none rfl rfl
theorem remoteSignalExecute : Statement .remoteSignalExecute := of_none rfl rfl
theorem gateStall (idx : PendIdx) : Statement (.gateStall idx) := of_none rfl rfl
theorem deadlockSample (gidx : DieGIdx) : Statement (.deadlockSample gidx) := of_none rfl rfl
theorem qprobeSend (gidx : DieGIdx) : Statement (.qprobeSend gidx) := of_none rfl rfl
theorem qprobeReceive (port : Port) : Statement (.qprobeReceive port) := of_none rfl rfl
theorem qprobeVerdict (port : Port) : Statement (.qprobeVerdict port) := of_none rfl rfl
theorem grGkeyWrite (m : Master) (w : Word) : Statement (.grGkeyWrite m w) := of_none rfl rfl
theorem findGid (m : Master) (w : Word) : Statement (.findGid m w) := of_none rfl rfl
theorem sealCmd (m : Master) (w : Word) : Statement (.sealCmd m w) := of_none rfl rfl
theorem dissolve (m : Master) (w : Word) : Statement (.dissolve m w) := of_none rfl rfl
theorem admitCmd (m : Master) (w : Word) : Statement (.admitCmd m w) := of_none rfl rfl
theorem expel (m : Master) (w : Word) : Statement (.expel m w) := of_none rfl rfl
theorem sealReceive (port : Port) : Statement (.sealReceive port) := of_none rfl rfl
theorem dissolveReceive (port : Port) : Statement (.dissolveReceive port) := of_none rfl rfl
theorem admitReceive (port : Port) : Statement (.admitReceive port) := of_none rfl rfl
theorem expelReceive (port : Port) : Statement (.expelReceive port) := of_none rfl rfl
theorem hubCensusSend (gidx : GIdx) : Statement (.hubCensusSend gidx) := of_none rfl rfl
theorem censusReceive (port : Port) : Statement (.censusReceive port) := of_none rfl rfl
theorem censusDownReceive (port : Port) : Statement (.censusDownReceive port) := of_none rfl rfl
theorem quarantineEnd (gidx : GIdx) : Statement (.quarantineEnd gidx) := of_none rfl rfl
theorem gdLimitWrite (m : Master) (which : GuardLimit) (w : Word) : Statement (.gdLimitWrite m which w) := of_none rfl rfl
theorem barrierOverride (m : Master) (w : Word) : Statement (.barrierOverride m w) := of_none rfl rfl
theorem watchdogKick (m : Master) : Statement (.watchdogKick m) := of_none rfl rfl
theorem watchdogExpiry : Statement .watchdogExpiry := of_none rfl rfl
theorem expiryClear : Statement .expiryClear := of_none rfl rfl
theorem sramPar : Statement .sramPar := of_none rfl rfl
theorem nvmProt (addr : BitVec 24) : Statement (.nvmProt addr) := of_none rfl rfl
theorem imageLoad : Statement .imageLoad := of_none rfl rfl
theorem imageVerified (ok : Bool) : Statement (.imageVerified ok) := of_none rfl rfl
theorem stagingErase (m : Master) (w : Word) : Statement (.stagingErase m w) := of_none rfl rfl
theorem stagingEraseDone : Statement .stagingEraseDone := of_none rfl rfl
theorem stagingWrite (m : Master) (w : Word) : Statement (.stagingWrite m w) := of_none rfl rfl
theorem verify (m : Master) : Statement (.verify m) := of_none rfl rfl
theorem hold (m : Master) : Statement (.hold m) := of_none rfl rfl
theorem fwRelease (m : Master) : Statement (.fwRelease m) := of_none rfl rfl
theorem fwSwitch (m : Master) : Statement (.fwSwitch m) := of_none rfl rfl
theorem handover (m : Master) : Statement (.handover m) := of_none rfl rfl
theorem commit (m : Master) : Statement (.commit m) := of_none rfl rfl
theorem swreqTmo : Statement .swreqTmo := of_none rfl rfl
theorem trialTimeout : Statement .trialTimeout := of_none rfl rfl
theorem mwErr (addr : BitVec 64) : Statement (.mwErr addr) := of_none rfl rfl
theorem hbTmo (eng : Engine) : Statement (.hbTmo eng) := of_none rfl rfl
theorem overrun (t : Thread) : Statement (.overrun t) := of_none rfl rfl
theorem waitTmo (agent : Agent) : Statement (.waitTmo agent) := of_none rfl rfl
theorem sqWdog (t : Thread) : Statement (.sqWdog t) := of_none rfl rfl
theorem cpTake (m : Master) : Statement (.cpTake m) := of_none rfl rfl
theorem capturePauseEnd : Statement .capturePauseEnd := of_none rfl rfl
theorem estatTmo (eng : Engine) : Statement (.estatTmo eng) := of_none rfl rfl
theorem capsuleComplete : Statement .capsuleComplete := of_none rfl rfl
theorem cpRelease (m : Master) : Statement (.cpRelease m) := of_none rfl rfl
theorem capsuleMirrored : Statement .capsuleMirrored := of_none rfl rfl
theorem capsuleRead (m : Master) : Statement (.capsuleRead m) := of_none rfl rfl
theorem engResetTimeout (eng : Engine) : Statement (.engResetTimeout eng) := of_none rfl rfl
theorem rgnResetTimeout (tap : Tap) : Statement (.rgnResetTimeout tap) := of_none rfl rfl
theorem ereset (m : Master) : Statement (.ereset m) := of_none rfl rfl
theorem unfence (m : Master) : Statement (.unfence m) := of_none rfl rfl
theorem solo (m : Master) : Statement (.solo m) := of_none rfl rfl
theorem soloAbort (m : Master) : Statement (.soloAbort m) := of_none rfl rfl
theorem soloFire : Statement .soloFire := of_none rfl rfl
theorem soloTmo : Statement .soloTmo := of_none rfl rfl
theorem recordWrite : Statement .recordWrite := of_none rfl rfl
theorem restore (m : Master) (w : Word) : Statement (.restore m w) := of_none rfl rfl
theorem evupReceive (port : Port) : Statement (.evupReceive port) := of_none rfl rfl
theorem uploadPop (m : Master) : Statement (.uploadPop m) := of_none rfl rfl
theorem severityQuery (m : Master) (w : Word) : Statement (.severityQuery m w) := of_none rfl rfl
theorem counterBind (m : Master) (w : Word) : Statement (.counterBind m w) := of_none rfl rfl
theorem clr (m : Master) : Statement (.clr m) := of_none rfl rfl
theorem clrall (m : Master) : Statement (.clrall m) := of_none rfl rfl
theorem freeze (m : Master) (w : Word) : Statement (.freeze m w) := of_none rfl rfl
theorem snapNow (m : Master) : Statement (.snapNow m) := of_none rfl rfl
theorem snapArm (m : Master) : Statement (.snapArm m) := of_none rfl rfl
theorem snapCancel (m : Master) : Statement (.snapCancel m) := of_none rfl rfl
theorem snapshotDue : Statement .snapshotDue := of_none rfl rfl
theorem pinBind (m : Master) (w : Word) : Statement (.pinBind m w) := of_none rfl rfl
theorem pinClr (m : Master) : Statement (.pinClr m) := of_none rfl rfl
theorem hsConfig (m : Master) (which : HsReg) (w : Word) : Statement (.hsConfig m which w) := of_none rfl rfl
theorem hsClear (m : Master) : Statement (.hsClear m) := of_none rfl rfl
theorem hsRestart (m : Master) : Statement (.hsRestart m) := of_none rfl rfl
theorem railGood (rail : Rail) (slow : Bool) : Statement (.railGood rail slow) := of_none rfl rfl
theorem railFail (rail : Rail) : Statement (.railFail rail) := of_none rfl rfl
theorem tclkRail : Statement .tclkRail := of_none rfl rfl
theorem tempSample (temp : BitVec 16) : Statement (.tempSample temp) := of_none rfl rfl
theorem mainReset : Statement .mainReset := of_none rfl rfl
theorem mainResetRelease : Statement .mainResetRelease := of_none rfl rfl
theorem hostReset : Statement .hostReset := of_none rfl rfl
theorem hostResetRelease : Statement .hostResetRelease := of_none rfl rfl
theorem lanego (m : Master) : Statement (.lanego m) := of_none rfl rfl
theorem freqOk (port : Port) (ok : Bool) : Statement (.freqOk port ok) := of_none rfl rfl
theorem ageingReady : Statement .ageingReady := of_none rfl rfl
theorem stagingProgram (n : BitVec 11) : Statement (.stagingProgram n) := of_none rfl rfl
theorem debugReset : Statement .debugReset := of_none rfl rfl

end Sys2Proof.Laws.Shape
end

