-- ==== Sys2Proof/Safety.lean ====
section
/-!
DEFINITION. Safety.lean: the terms the claims use: when the register port takes an access, what a report
may touch, and what counts as a well-kept state.
-/

namespace Sys2Proof.Machine

/-- The register port takes an access of a master to a page and executes it at once: main reset is over,
the master exists and is not stopped, and the page is present and in no soft-reset hold. -/
def Chip.opens (c : Chip) (m : Master) (page : Nat) : Bool :=
  !c.inReset && !(m.isRemote && c.id.hub) && !(m == .host && c.pw.hostLow)
    && pagePresent c.id.hub page && !(SMap.has c.held page)

/-- The part without what an event's report can touch: stored registers, monitors, the recorder,
histogram units, interrupt notices and the count of free values. -/
def Chip.calm (c : Chip) : Chip :=
  { c with regs := [], mn := .reset, ev := .reset, free := 0, ports := [], hs := [], tr := { c.tr with inoteWait := [] } }

/-- A port without its queues: a report can put an interrupt notice in one of them. -/
def Chip.lane (c : Chip) (p : Nat) : PortState := { c.port p with q := .reset }

/-- The part at the start of the LCLK cycle of a command (log entry 6). -/
abbrev Chip.fresh (c : Chip) : Chip := c.newCycle

/-- An addressed store (the NOR, the controller's SRAM) is in canonical form: addresses strictly rising, and
no entry equal to what an unlisted address reads as. -/
def Memory.wf (m : SMap (BitVec 8)) (d : BitVec 8) : Bool :=
  SMap.sorted 0 m && m.all fun e => decide (e.2 ≠ d)

/-- The timekeeper is in good order (R58, R63, R64): FRC is a 64-bit count, the anchor in force is that of the
last tick at which FRC[9:0] was 0, and the active and the staged RATE are 64-bit values. -/
def TkState.kept (t : TkState) : Prop :=
  t.frc < 2 ^ 64 ∧ t.frcAnchor = t.frc - t.frc % 1024 ∧ t.rate < 2 ^ 64 ∧ ∀ r ∈ t.rateStage, r < 2 ^ 64
/-- Whether the part has what a command speaks of: the role, and the port, tap, engine or group entry it
names. A remote agent's access is made at a die alone (R6, R38, R89). -/
def Chip.fits (c : Chip) (i : Instr) : Bool :=
  match i with
  | .quarantineEnd g => decide (g.val < c.ngroups)
  | .releaseReceive p | .rsigForward p => c.id.hub && decide (p.val < c.nports)
  | .fireEdge x .. | .xcStrobe x .. | .xcRelease x .. => !c.id.hub && decide (x.val / 4 < c.id.ntaps)
  | .rreqExecute p | .releaseDeliver p | .rsigReceive p | .pendingEntry p => !c.id.hub && decide (p.val < 2)
  | .engStatus e .. | .estatTmo e | .engResetTimeout e | .hbTmo e => !c.id.hub && decide (e.val / 4 < c.id.ntaps)
  | .engineDone x | .engRack x | .heartbeat x | .engStart x .. =>
    !c.id.hub && decide (x.eng.val / 4 < c.id.ntaps)
  | .rgnRack x | .regionPeriodEnd x .. | .regionRun x .. => !c.id.hub && decide (x.tap.val < c.id.ntaps)
  | .rgnResetTimeout t | .driftCheck t .. | .stopreq t | .opcalDone t .. | .xcalDone t .. => !c.id.hub && decide (t.val < c.id.ntaps)
  | .hubCensusSend .. | .openIn .. | .evupReceive .. | .refSignalLoss .. | .refQual .. | .refDisq ..
  | .wtrExpiry .. | .refEdge .. | .ppsInv .. | .ptpMessage .. | .hoTrace | .ageingReady | .rootTimerExpiry
  | .summarySend | .rraTmo .. => c.id.hub
  | .qprobeReceive p | .qprobeVerdict p | .sealReceive p | .dissolveReceive p | .admitReceive p
  | .expelReceive p | .censusReceive p | .censusDownReceive p | .portStart p | .loopbackCheckDone p ..
  | .pmaReady p | .pmaReadyLoss p | .freqOk p .. | .laneReset p | .codewordReceive p .. | .codewordLock p
  | .lockLoss p | .cellSlot p .. | .nakReceive p | .replayTimeout p | .identSend p | .identReceive p
  | .identAckReceive p | .tickSend p | .tickReceive p | .preqSend p | .preqReceive p | .prspReceive p
  | .probeAbandon p | .mkrTimeout p | .arriveReceive p | .traceReceive p | .reflectReceive p
  | .summaryReceive p | .mlossReceive p | .rreqReceive p | .rrspReceive p | .inoteReceive p => decide (p.val < c.nports)
  | .softResetHoldEnd .. | .imageLoad | .imageVerified .. | .stagingEraseDone | .stagingProgram ..
  | .swreqTmo | .trialTimeout | .watchdogExpiry | .expiryClear | .sramPar | .debugReset | .nvmProt ..
  | .snapshotDue | .heldSend | .levelSat | .mainReset | .mainResetRelease | .railGood .. | .railFail ..
  | .tclkRail | .tempSample .. | .hostReset | .hostResetRelease | .mwErr .. | .pulseEdge .. | .short ..
  | .shortRetry .. | .openLoad .. | .uartInv .. | .recordWrite | .anchorBoundary .. | .offsetWindowEnd
  | .holdoverTimerExpiry | .hordy | .freqLock | .flockLost | .buildOutDecay | .todSentence .. | .txSof ..
  | .rxSof .. | .swevt .. | .startSlow => true
  | .deadlockSample .. | .qprobeSend .. | .capturePauseEnd | .capsuleMirrored | .soloFire
  | .capsuleComplete | .overrun .. | .waitTmo .. | .sqWdog .. | .soloTmo | .dieArrival .. | .grant ..
  | .signal .. | .setevent .. | .wait .. | .coreSigr .. | .cancel .. | .stagingQuery | .fcAnswer ..
  | .fctrTmo | .fcUpdate .. | .remoteSignalExecute | .gateStall .. | .threadAged .. | .nop .. | .halt ..
  | .jmp .. | .loop .. | .brf .. | .badOp .. | .waitt .. | .waittWake .. | .setb .. | .fire .. | .fireat ..
  | .fireRetire .. | .parity .. | .arm .. | .contrib .. | .sync .. | .sig .. | .sigEvt .. | .sigr ..
  | .waits .. | .fence .. | .fenceDone .. | .fenceStall .. | .snap .. | .snapAt .. | .mark ..
  | .planeRevert | .plumbSend .. | .plumbReceive .. | .plumbTimeout .. | .chainCalDone .. | .armArrive ..
  | .tapMoment .. => !c.id.hub
  | .chainCal m | .xcal m | .txqPop m | .swqPop m | .pulseArm m .. | .pulseDisarm m | .threadStart m
  | .threadHalt m | .threadResume m | .threadCancel m | .mailboxCommit m .. | .sqmCommit m .. | .sqmRead m
  | .ssig m .. | .scmdSetevent m | .rstnext m | .sgScfgWrite m .. | .sgSelWrite m .. | .grGkeyWrite m ..
  | .findGid m .. | .sealCmd m .. | .dissolve m .. | .admitCmd m .. | .expel m .. | .gdLimitWrite m ..
  | .barrierOverride m .. | .watchdogKick m | .stagingErase m .. | .stagingWrite m .. | .verify m | .hold m
  | .fwRelease m | .fwSwitch m | .handover m | .commit m | .cpTake m | .cpRelease m | .capsuleRead m
  | .ereset m | .unfence m | .solo m | .soloAbort m | .restore m .. | .uploadPop m | .severityQuery m ..
  | .counterBind m .. | .clr m | .clrall m | .freeze m .. | .snapNow m | .snapArm m | .snapCancel m
  | .pinBind m .. | .pinClr m | .hsConfig m .. | .hsClear m | .hsRestart m | .lanego m
  | .registerWrite m .. | .pageSoftReset m .. | .chselWrite m .. | .lockSet m .. | .lockClear m ..
  | .rateStage m .. | .stepArm m .. | .timeRead m | .tbCapture m | .tbLoad m .. | .tbAdjust m .. | .cal m
  | .pmaLatWrite m .. | .forceDown m .. | .portDisable m .. | .claim m | .yield m | .revertNow m
  | .rraGo m .. | .rrspPop m | .inqPop m | .mlqPop m | .svSwitch m | .forceAcq m | .relearn m | .asymOk m
  | .asymWrite m .. | .rfRcfgWrite m .. | .rfForceWrite m .. => !(m.isRemote && c.id.hub)

/-- The commands that main reset does not hold: supplies, resets, time and temperature (R358
to R366), and the Guard's count of expiries, which runs on ACLK (R36). -/
def aonCommand (i : Instr) : Bool :=
  match i with
  | .mainReset | .mainResetRelease | .railGood .. | .railFail .. | .tclkRail | .tempSample .. | .hostReset
  | .hostResetRelease | .recordWrite | .anchorBoundary .. | .expiryClear | .holdoverTimerExpiry => true
  | .chainCal .. | .xcal .. | .txqPop .. | .swqPop .. | .pulseArm .. | .pulseDisarm .. | .threadStart ..
  | .threadHalt .. | .threadResume .. | .threadCancel .. | .mailboxCommit .. | .sqmCommit .. | .sqmRead ..
  | .ssig .. | .scmdSetevent .. | .rstnext .. | .sgScfgWrite .. | .sgSelWrite .. | .grGkeyWrite ..
  | .findGid .. | .sealCmd .. | .dissolve .. | .admitCmd .. | .expel .. | .gdLimitWrite ..
  | .barrierOverride .. | .watchdogKick .. | .stagingErase .. | .stagingWrite .. | .verify .. | .hold ..
  | .fwRelease .. | .fwSwitch .. | .handover .. | .commit .. | .cpTake .. | .cpRelease .. | .capsuleRead ..
  | .ereset .. | .unfence .. | .solo .. | .soloAbort .. | .restore .. | .uploadPop .. | .severityQuery ..
  | .counterBind .. | .clr .. | .clrall .. | .freeze .. | .snapNow .. | .snapArm .. | .snapCancel ..
  | .pinBind .. | .pinClr .. | .hsConfig .. | .hsClear .. | .hsRestart .. | .lanego .. | .registerWrite ..
  | .pageSoftReset .. | .softResetHoldEnd .. | .chselWrite .. | .lockSet .. | .lockClear .. | .rateStage ..
  | .stepArm .. | .timeRead .. | .tbCapture .. | .tbLoad .. | .tbAdjust .. | .cal .. | .pmaLatWrite ..
  | .forceDown .. | .portDisable .. | .claim .. | .yield .. | .revertNow .. | .rraGo .. | .rreqExecute ..
  | .rrspPop .. | .inqPop .. | .mlqPop .. | .svSwitch .. | .forceAcq .. | .relearn .. | .asymOk ..
  | .asymWrite .. | .rfRcfgWrite .. | .rfForceWrite .. | .deadlockSample .. | .qprobeSend ..
  | .qprobeReceive .. | .qprobeVerdict .. | .quarantineEnd .. | .sealReceive .. | .dissolveReceive ..
  | .admitReceive .. | .expelReceive .. | .hubCensusSend .. | .censusReceive .. | .censusDownReceive ..
  | .imageLoad | .imageVerified .. | .stagingEraseDone | .stagingProgram .. | .swreqTmo | .trialTimeout
  | .watchdogExpiry | .sramPar | .debugReset | .nvmProt .. | .capturePauseEnd
  | .engStatus .. | .estatTmo .. | .capsuleMirrored | .soloFire | .engineDone .. | .capsuleComplete
  | .engRack .. | .engResetTimeout .. | .rgnRack .. | .rgnResetTimeout .. | .hbTmo .. | .overrun ..
  | .waitTmo .. | .sqWdog .. | .soloTmo | .portStart .. | .loopbackCheckDone .. | .pmaReady ..
  | .pmaReadyLoss .. | .freqOk .. | .laneReset .. | .codewordReceive .. | .codewordLock .. | .lockLoss ..
  | .cellSlot .. | .nakReceive .. | .replayTimeout .. | .identSend .. | .identReceive ..
  | .identAckReceive .. | .tickSend .. | .tickReceive .. | .preqSend .. | .preqReceive .. | .prspReceive ..
  | .probeAbandon .. | .mkrTimeout .. | .snapshotDue | .heldSend | .dieArrival .. | .arriveReceive ..
  | .releaseReceive .. | .releaseDeliver .. | .levelSat | .mwErr .. | .pulseEdge .. | .short ..
  | .shortRetry .. | .openLoad .. | .openIn .. | .uartInv .. | .evupReceive .. | .grant .. | .signal ..
  | .setevent .. | .wait .. | .coreSigr .. | .cancel .. | .stagingQuery | .fcAnswer .. | .fctrTmo
  | .rsigForward .. | .rsigReceive .. | .pendingEntry .. | .fcUpdate .. | .remoteSignalExecute
  | .gateStall .. | .threadAged .. | .nop .. | .halt .. | .jmp .. | .loop .. | .brf .. | .badOp ..
  | .waitt .. | .waittWake .. | .setb .. | .fire .. | .fireat .. | .fireRetire .. | .parity .. | .arm ..
  | .contrib .. | .sync .. | .sig .. | .sigEvt .. | .sigr .. | .waits .. | .fence .. | .fenceDone ..
  | .fenceStall .. | .snap .. | .snapAt .. | .mark .. | .offsetWindowEnd | .hordy
  | .freqLock | .flockLost | .buildOutDecay | .planeRevert | .refSignalLoss .. | .refQual .. | .refDisq ..
  | .wtrExpiry .. | .refEdge .. | .ppsInv .. | .todSentence .. | .ptpMessage .. | .hoTrace | .ageingReady
  | .txSof .. | .rxSof .. | .swevt .. | .plumbSend .. | .plumbReceive .. | .plumbTimeout ..
  | .chainCalDone .. | .driftCheck .. | .armArrive .. | .tapMoment .. | .fireEdge .. | .regionPeriodEnd ..
  | .stopreq .. | .regionRun .. | .opcalDone .. | .xcStrobe .. | .xcRelease .. | .xcalDone ..
  | .heartbeat .. | .engStart .. | .traceReceive .. | .rootTimerExpiry | .reflectReceive .. | .summarySend
  | .summaryReceive .. | .mlossReceive .. | .startSlow | .rreqReceive .. | .rrspReceive .. | .rraTmo ..
  | .inoteReceive .. => false

end Sys2Proof.Machine
end

