-- ==== Sys2Proof/Certificates/Slice0/Obligations.lean ====
section
/-!
DEFINITION. Certificates/Slice0/Obligations.lean: the statements for the provers.
-/

open Sys2Proof Sys2Proof.Machine

/-- A step runs the command at the front of the queue. For every command i and state s whose queue begins with i, step of s is exec of i on s with the rest of the queue. -/
def Obligations.QueueStep : Prop :=
  ∀ (s : State) (i : Instr) (rest : List Instr),
    s.pending = i :: rest → step s = exec i { s with pending := rest }

/-- FRC advances on every TCLK tick, and nothing a master or a lane does moves it. On an empty queue, with TCLK running, step answers a next state with FRC one higher modulo 2^64, the queue empty, and, where the next tick is no anchor boundary, the anchor as it was and, unless a step beyond the bound takes the servo to ACQUIRE at that tick, the servo too; with TCLK absent nothing changes. Every command that answers a next state leaves FRC as it was, but for ANCHOR_BOUNDARY, in which time passes, and the rise or fall of VDD_AON; AON power-on sets FRC to 0. That an idle step is one tick, and that ANCHOR_BOUNDARY lets time pass to the boundary, are the model's choices (log entry 5). -/
def Obligations.FreeRunningCount : Prop :=
  (∀ s : State, s.pending = [] → s.chip.tk.tclk = true →
    ∃ t, step s = .next t ∧ t.pending = [] ∧ t.chip.tk.frc = (s.chip.tk.frc + 1) % 2 ^ 64
      ∧ (s.chip.tk.frc % 1024 ≠ 1023 → t.chip.tk.tAnchor = s.chip.tk.tAnchor)
      ∧ (s.chip.tk.frc % 1024 ≠ 1023 → s.chip.sv.stepFrom = none → t.chip.sv = s.chip.sv))
  ∧ (∀ s : State, s.pending = [] → s.chip.tk.tclk = false →
      step s = .next s)
  ∧ (∀ (s t : State) (i : Instr), exec i s = .next t →
      (∀ f, i ≠ .anchorBoundary f) → (∀ b, i ≠ .railGood .vddAon b) → i ≠ .railFail .vddAon →
      t.chip.tk.frc = s.chip.tk.frc)
  ∧ (∀ (s : State) (b : Bool), s.chip.pw.aon = false →
      ∃ t, exec (.railGood .vddAon b) s = .next t ∧ t.pending = s.pending ∧ t.chip.tk.frc = 0)

/-- LOCKED is set by any master and cleared by the host port with its key alone. On a lockable page, LOCK_SET sets LOCKED and moves no other page's lock; LOCK_CLEAR by the host port with KEY 0xA55A clears it; any other LOCK_CLEAR while LOCKED is 1 leaves it set and GLB_ACCFAULT names the refusal (ACC_LOCKED). -/
def Obligations.PageLock : Prop :=
  (∀ (s : State) (m : Master) (page : Page),
      s.chip.opens m page.val = true →
      pageLockable page.val = true →
      ∃ t, exec (.lockSet m page) s = .next t ∧ t.pending = s.pending
        ∧ t.chip.locked page.val = true
        ∧ (∀ q : Page, q ≠ page → t.chip.locked q.val = s.chip.locked q.val))
  ∧ (∀ (s : State) (page : Page) (w : Word),
      s.chip.opens .host page.val = true →
      pageLockable page.val = true →
      Word.field w 16 16 = 0xA55A →
      ∃ t, exec (.lockClear .host page w) s = .next t ∧ t.pending = s.pending
        ∧ t.chip.locked page.val = false
        ∧ (∀ q : Page, q ≠ page → t.chip.locked q.val = s.chip.locked q.val))
  ∧ (∀ (s : State) (m : Master) (page : Page) (w : Word),
      s.chip.opens m page.val = true →
      pageLockable page.val = true →
      s.chip.locked page.val = true →
      (m ≠ .host ∨ Word.field w 16 16 ≠ 0xA55A) →
      ∃ t, exec (.lockClear m page w) s = .next t ∧ t.pending = s.pending
        ∧ t.chip.locked page.val = true
        ∧ t.chip.reg Reg.GLB_ACCFAULT = (fld m.code 2 30 ||| fld 4 3 27 ||| fld (page.val * 4096 + 0x028) 18 0))

/-- CHSEL moves the writing master's window alone, and only to a channel that exists. CHSEL_WRITE with CH < ID.INST makes CH the writing master's channel and leaves every other master's. With CH >= ID.INST every window keeps its channel and nothing happens but the report of ACC_CHSEL, with the master, the kind and the word address in GLB_ACCFAULT. Whatever the word, a window that addressed a channel that exists still does, for every master. -/
def Obligations.ChannelSelect : Prop :=
  (∀ (s : State) (m : Master) (page : Page) (w : Word),
      s.chip.opens m page.val = true →
      Word.field w 0 16 < s.chip.pageInst page.val →
      ∃ t, exec (.chselWrite m page w) s = .next t ∧ t.pending = s.pending
        ∧ t.chip.chanOf m page.val = Word.field w 0 16
        ∧ (∀ m' : Master, m' ≠ m → t.chip.chanOf m' page.val = s.chip.chanOf m' page.val))
  ∧ (∀ (s : State) (m : Master) (page : Page) (w : Word),
      s.chip.opens m page.val = true →
      s.chip.pageInst page.val ≤ Word.field w 0 16 →
      ∃ t, exec (.chselWrite m page w) s = .next t ∧ t.pending = s.pending
        ∧ (∀ m' : Master, t.chip.chanOf m' page.val = s.chip.chanOf m' page.val)
        ∧ t.chip = s.chip.fresh.accRefuse Event.GLB_ACC_CHSEL 5 m (page.val * 4096 + 0x020) w
        ∧ t.chip.calm = s.chip.calm
        ∧ t.chip.reg Reg.GLB_ACCFAULT = (fld m.code 2 30 ||| fld 5 3 27 ||| fld (page.val * 4096 + 0x020) 18 0))
  ∧ (∀ (s : State) (m m' : Master) (page p' : Page) (w : Word),
      s.chip.opens m page.val = true →
      s.chip.chanOf m' p'.val < s.chip.pageInst p'.val →
      ∃ t, exec (.chselWrite m page w) s = .next t ∧ t.pending = s.pending
        ∧ t.chip.chanOf m' p'.val < t.chip.pageInst p'.val)

/-- A page soft reset starts the page's hold; held accesses wait, and the hold ends. An honoured PAGE_SOFT_RESET puts the page, and no other, in its hold with nothing waiting, and every RW and RWL register of the page, in every channel, is at its reset value; CHSEL and LOCK keep theirs, and HIST is cleared on the pages 0x02, 0x0D, 0x0E, 0x10, 0x1A and 0x21. Where the page has no soft reset or is locked it is refused as ACC_SRST. A write to a page in its hold waits at the end of the page's list and changes no register; SOFT_RESET_HOLD_END lifts the hold, and the accesses that wait execute in the order in which they came: with nothing waiting no register changes, and a waiting write of SQ_TCOURSE or SQ_CFG sets that register. -/
def Obligations.SoftResetHold : Prop :=
  (∀ (s : State) (m : Master) (page : Page),
      s.chip.opens m page.val = true →
      pageSrstOk page.val = true →
      s.chip.locked page.val = false →
      ∃ t, exec (.pageSoftReset m page) s = .next t ∧ t.pending = s.pending
        ∧ SMap.has t.chip.held page.val = true
        ∧ SMap.find t.chip.held page.val [] = []
        ∧ (∀ q : Page, q ≠ page → SMap.has t.chip.held q.val = SMap.has s.chip.held q.val)
        ∧ (∀ r ∈ Reg.ofPage page.val, (r.acc = .rw ∨ r.acc = .rwl) → ∀ idx i b, t.chip.reg r idx i b = r.resetAt t.chip.id.hub idx)
        ∧ (∀ m' : Master, t.chip.chanOf m' page.val = s.chip.chanOf m' page.val)
        ∧ t.chip.locked page.val = false
        ∧ (page.val ∈ [0x02, 0x0D, 0x0E, 0x10, 0x1A, 0x21] → t.chip.reg (histRow page.val) = 0))
  ∧ (∀ (s : State) (m : Master) (page : Page),
      s.chip.opens m page.val = true →
      (pageSrstOk page.val = false ∨ s.chip.locked page.val = true) →
      ∃ t, exec (.pageSoftReset m page) s = .next t ∧ t.pending = s.pending
        ∧ t.chip.held = s.chip.held
        ∧ t.chip.reg Reg.GLB_ACCFAULT = (fld m.code 2 30 ||| fld 6 3 27 ||| fld (page.val * 4096 + 0x008) 18 0))
  ∧ (∀ (s : State) (m : Master) (a : BitVec 18) (w : Word),
      s.chip.inReset = false →
      (m.isRemote && s.chip.id.hub) = false →
      (m == .host && s.chip.pw.hostLow) = false →
      SMap.has s.chip.held (addrPage a.toNat) = true →
      ∃ t, exec (.registerWrite m a w) s = .next t ∧ t.pending = s.pending
        ∧ SMap.find t.chip.held (addrPage a.toNat) [] = SMap.find s.chip.held (addrPage a.toNat) [] ++ [{ master := m, addr := a.toNat, data := some w, req := none }]
        ∧ t.chip.regs = s.chip.regs
        ∧ t.chip.calm = { s.chip.calm with held := t.chip.held })
  ∧ (∀ (s : State) (page : Page),
      s.chip.inReset = false →
      SMap.find s.chip.held page.val [] = [] →
      ∃ t, exec (.softResetHoldEnd page) s = .next t ∧ t.pending = s.pending
        ∧ SMap.has t.chip.held page.val = false
        ∧ t.chip.regs = s.chip.regs
        ∧ (∀ q : Page, q ≠ page → SMap.has t.chip.held q.val = SMap.has s.chip.held q.val))
  ∧ (∀ (s : State) (page : Page),
      s.chip.inReset = false →
      ∃ t, exec (.softResetHoldEnd page) s = .next t ∧ t.pending = s.pending
        ∧ t.chip = (SMap.find s.chip.held page.val []).foldl Chip.access { s.chip.fresh with held := SMap.erase s.chip.held page.val })
  ∧ (∀ (s : State) (m : Master) (r : RegRow) (w : Word),
      s.chip.inReset = false →
      r ∈ [Reg.SQ_TCOURSE, Reg.SQ_CFG] →
      s.chip.locked 0x10 = false →
      SMap.find s.chip.held 0x10 [] = [{ master := m, addr := r.addr, data := some w, req := none }] →
      s.chip.id.hub = false →
      SMap.has (SMap.erase s.chip.held 0x10) 0x10 = false →
      ∃ t, exec (.softResetHoldEnd 0x10) s = .next t ∧ t.pending = s.pending
        ∧ t.chip.regOf m r (s.chip.rowIdx m r) = Word.merge (s.chip.regOf m r (s.chip.rowIdx m r)) w r.take
        ∧ SMap.has t.chip.held 0x10 = false)

/-- A plain register takes the written bits, and nothing else of the part changes. REGISTER_WRITE of an unlocked plain RW register (TK_RATE_LO, TK_STEP0, TK_STEP1, SQM_WLO, MN_SNAPT_FRAC, MN_SNAPT_NSLO, MN_SNAPT_NSHI, MN_CSEL, MN_PSEL, EV_SEVQ) sets its writable bits to those written, in the writing master's bank, leaves every other stored register, and leaves the rest of the part as it was. -/
def Obligations.PlainRegisterWrite : Prop :=
  ∀ (s : State) (m : Master) (r : RegRow) (a : BitVec 18) (w : Word),
      r ∈ [Reg.TK_RATE_LO, Reg.TK_STEP0, Reg.TK_STEP1, Reg.SQM_WLO, Reg.MN_SNAPT_FRAC, Reg.MN_SNAPT_NSLO, Reg.MN_SNAPT_NSHI, Reg.MN_CSEL, Reg.MN_PSEL, Reg.EV_SEVQ] →
      a.toNat = r.addr →
      s.chip.opens m r.page = true →
      s.chip.locked r.page = false →
      ∃ t, exec (.registerWrite m a w) s = .next t ∧ t.pending = s.pending
        ∧ t.chip.regOf m r = Word.merge (s.chip.regOf m r) w r.take
        ∧ (∀ (q : RegRow) (i j b : Nat), q.key i j b ≠ r.key 0 0 (if r.banked then m.code else 0) → t.chip.reg q i j b = s.chip.reg q i j b)
        ∧ t.chip = { s.chip with regs := t.chip.regs, hs := t.chip.hs }

/-- What a register access leaves: refused, locked, and by its access code. REGISTER_WRITE to an absent page (ACC_ABSENT), to an offset of a present page that no register has in the role (ACC_UNMAPPED), of a writable register on which the master has no write rights (ACC_RIGHTS), or of a word of RWL fields alone on a locked page where it would change one (ACC_LOCKED) leaves every stored register but GLB_ACCFAULT and the HIST words of the GLB and EV pages, in which a report shows, and everything else of the part but what a report may touch; GLB_ACCFAULT holds the master, the kind and the word address. A write to such a word on a locked page that would change no field changes nothing at all; on an unlocked page PW_TEMPLIM, HG_SQWD and other RWL registers take the written bits. A write of HIST clears the bits written 1 and no other; a write of IEN by a master that may write it sets the bits the page has. An RREQ that reads an RC register answers its value and leaves it 0, every other stored register as it was; one that reads an RS register answers its value and latches each of its siblings at the value of that moment for its own master, and moves no shadow copy of another master. -/
def Obligations.RegisterAccess : Prop :=
  (∀ (s : State) (m : Master) (a : BitVec 18) (w : Word),
      s.chip.inReset = false →
      (m.isRemote && s.chip.id.hub) = false →
      (m == .host && s.chip.pw.hostLow) = false →
      SMap.has s.chip.held (addrPage a.toNat) = false →
      pagePresent s.chip.id.hub (addrPage a.toNat) = false →
      ∃ t, exec (.registerWrite m a w) s = .next t ∧ t.pending = s.pending
        ∧ t.chip.calm = s.chip.calm
        ∧ (∀ (q : RegRow) (i j b : Nat), q.key i j b ∉ [Reg.GLB_ACCFAULT.key 0 0 0, (histRow 0).key 0 0 0, (histRow 0x1F).key 0 0 0] → t.chip.reg q i j b = s.chip.reg q i j b)
        ∧ t.chip.reg Reg.GLB_ACCFAULT = (fld m.code 2 30 ||| fld 1 3 27 ||| fld (a.toNat / 4 * 4) 18 0))
  ∧ (∀ (s : State) (m : Master) (a : BitVec 18) (w : Word),
      s.chip.opens m (addrPage a.toNat) = true →
      headerOff (addrOff a.toNat) = false →
      pageRow s.chip.id.hub (addrPage a.toNat) (addrOff a.toNat) = none →
      ∃ t, exec (.registerWrite m a w) s = .next t ∧ t.pending = s.pending
        ∧ t.chip.calm = s.chip.calm
        ∧ (∀ (q : RegRow) (i j b : Nat), q.key i j b ∉ [Reg.GLB_ACCFAULT.key 0 0 0, (histRow 0).key 0 0 0, (histRow 0x1F).key 0 0 0] → t.chip.reg q i j b = s.chip.reg q i j b)
        ∧ t.chip.reg Reg.GLB_ACCFAULT = (fld m.code 2 30 ||| fld 2 3 27 ||| fld (a.toNat / 4 * 4) 18 0))
  ∧ (∀ (s : State) (m : Master) (a : BitVec 18) (w : Word) (r : RegRow) (i : Nat),
      s.chip.opens m (addrPage a.toNat) = true →
      headerOff (addrOff a.toNat) = false →
      pageRow s.chip.id.hub (addrPage a.toNat) (addrOff a.toNat) = some (r, i) →
      r.acc ∉ [.ro, .rc, .rs] →
      s.chip.mayWrite m r = false →
      ∃ t, exec (.registerWrite m a w) s = .next t ∧ t.pending = s.pending
        ∧ t.chip.calm = s.chip.calm
        ∧ (∀ (q : RegRow) (i j b : Nat), q.key i j b ∉ [Reg.GLB_ACCFAULT.key 0 0 0, (histRow 0).key 0 0 0, (histRow 0x1F).key 0 0 0] → t.chip.reg q i j b = s.chip.reg q i j b)
        ∧ t.chip.reg Reg.GLB_ACCFAULT = (fld m.code 2 30 ||| fld 3 3 27 ||| fld (a.toNat / 4 * 4) 18 0))
  ∧ (∀ (s : State) (m : Master) (a : BitVec 18) (w : Word) (r : RegRow) (i : Nat),
      s.chip.opens m (addrPage a.toNat) = true →
      headerOff (addrOff a.toNat) = false →
      pageRow s.chip.id.hub (addrPage a.toNat) (addrOff a.toNat) = some (r, i) →
      r.acc ∉ [.ro, .rc, .rs] →
      s.chip.mayWrite m r = true →
      s.chip.locked r.page = true →
      r.rwl ≠ 0 →
      r.take &&& ~~~r.rwl = 0 →
      (s.chip.fitWord r (s.chip.rowIdx m r) w ^^^ s.chip.regOf m r (s.chip.rowIdx m r) i) &&& r.rwl ≠ 0 →
      ∃ t, exec (.registerWrite m a w) s = .next t ∧ t.pending = s.pending
        ∧ t.chip.calm = s.chip.calm
        ∧ (∀ (q : RegRow) (i j b : Nat), q.key i j b ∉ [Reg.GLB_ACCFAULT.key 0 0 0, (histRow 0).key 0 0 0, (histRow 0x1F).key 0 0 0] → t.chip.reg q i j b = s.chip.reg q i j b)
        ∧ t.chip.reg Reg.GLB_ACCFAULT = (fld m.code 2 30 ||| fld 4 3 27 ||| fld (a.toNat / 4 * 4) 18 0))
  ∧ (∀ (s : State) (m : Master) (a : BitVec 18) (w : Word) (r : RegRow) (i : Nat),
      s.chip.opens m (addrPage a.toNat) = true →
      headerOff (addrOff a.toNat) = false →
      pageRow s.chip.id.hub (addrPage a.toNat) (addrOff a.toNat) = some (r, i) →
      r.acc ∉ [.ro, .rc, .rs] →
      s.chip.mayWrite m r = true →
      s.chip.locked r.page = true →
      r.rwl ≠ 0 →
      r.take &&& ~~~r.rwl = 0 →
      (s.chip.fitWord r (s.chip.rowIdx m r) w ^^^ s.chip.regOf m r (s.chip.rowIdx m r) i) &&& r.rwl = 0 →
      ∃ t, exec (.registerWrite m a w) s = .next t ∧ t.pending = s.pending
        ∧ t.chip = s.chip.fresh)
  ∧ (∀ (s : State) (m : Master) (r : RegRow) (a : BitVec 18) (w : Word),
      r ∈ [Reg.PW_TEMPLIM, Reg.HG_SQWD, Reg.HG_SUSWIN, Reg.HG_WAITTMO, Reg.HG_RSTCFG, Reg.HG_ACT] →
      a.toNat = r.addr →
      s.chip.opens m r.page = true →
      s.chip.locked r.page = false →
      s.chip.mayWrite m r = true →
      ∃ t, exec (.registerWrite m a w) s = .next t ∧ t.pending = s.pending
        ∧ t.chip.reg r = Word.merge (s.chip.reg r) w r.take
        ∧ (∀ (q : RegRow) (i j b : Nat), q.key i j b ≠ r.key 0 0 0 → t.chip.reg q i j b = s.chip.reg q i j b)
        ∧ t.chip = { s.chip.fresh with regs := t.chip.regs })
  ∧ (∀ (s : State) (m : Master) (page : Page) (a : BitVec 18) (w : Word),
      a.toNat = page.val * 4096 + 0x010 →
      s.chip.opens m page.val = true →
      mayClear m page.val = true →
      ∃ t, exec (.registerWrite m a w) s = .next t ∧ t.pending = s.pending
        ∧ t.chip.reg (histRow page.val) = s.chip.reg (histRow page.val) &&& ~~~w
        ∧ (∀ (q : RegRow) (i j b : Nat), q.key i j b ≠ (histRow page.val).key 0 0 0 → t.chip.reg q i j b = s.chip.reg q i j b)
        ∧ t.chip = { s.chip.fresh with regs := t.chip.regs, mn := t.chip.mn })
  ∧ (∀ (s : State) (m : Master) (page : Page) (a : BitVec 18) (w : Word),
      a.toNat = page.val * 4096 + 0x014 →
      s.chip.opens m page.val = true →
      mayClear m page.val = true →
      ∃ t, exec (.registerWrite m a w) s = .next t ∧ t.pending = s.pending
        ∧ t.chip.reg (ienRow page.val) = w &&& histMask page.val
        ∧ (∀ (q : RegRow) (i j b : Nat), q.key i j b ≠ (ienRow page.val).key 0 0 0 → t.chip.reg q i j b = s.chip.reg q i j b)
        ∧ t.chip.calm = s.chip.calm)
  ∧ (∀ (s : State) (p : Port) (x : Cell) (r : RegRow) (i : Nat),
      s.chip.id.hub = false →
      s.chip.inReset = false →
      p.val < 2 →
      s.chip.headM p.val 0x40 = some x →
      Word.field (x.pay 2) 28 4 = 1 →
      s.chip.held = [] →
      pagePresent false (addrPage (Word.field (x.pay 3) 0 18)) = true →
      headerOff (addrOff (Word.field (x.pay 3) 0 18)) = false →
      pageRow false (addrPage (Word.field (x.pay 3) 0 18)) (addrOff (Word.field (x.pay 3) 0 18)) = some (r, i) →
      r.acc = .rc →
      s.chip.viewOf (if p.val = 1 then Master.remoteB else Master.remoteA) r i ((s.chip.fresh.popRx p.val clsM 1).rowIdx (if p.val = 1 then Master.remoteB else Master.remoteA) r) = none →
      ∃ t, exec (.rreqExecute p) s = .next t ∧ t.pending = s.pending
        ∧ ((s.chip.fresh.popRx p.val clsM 1).masterRead (if p.val = 1 then Master.remoteB else Master.remoteA) (Word.field (x.pay 3) 0 18)).1 = s.chip.reg r ((s.chip.fresh.popRx p.val clsM 1).rowIdx (if p.val = 1 then Master.remoteB else Master.remoteA) r) i
        ∧ t.chip = (((s.chip.fresh.popRx p.val clsM 1).masterRead (if p.val = 1 then Master.remoteB else Master.remoteA) (Word.field (x.pay 3) 0 18)).2.count 0x490 none).sendCells p.val clsM [rrspCell x 0 0 ((s.chip.fresh.popRx p.val clsM 1).masterRead (if p.val = 1 then Master.remoteB else Master.remoteA) (Word.field (x.pay 3) 0 18)).1]
        ∧ t.chip.reg r ((s.chip.fresh.popRx p.val clsM 1).rowIdx (if p.val = 1 then Master.remoteB else Master.remoteA) r) i = 0
        ∧ (∀ (q : RegRow) (i j b : Nat), q.key i j b ≠ r.key ((s.chip.fresh.popRx p.val clsM 1).rowIdx (if p.val = 1 then Master.remoteB else Master.remoteA) r) i 0 → t.chip.reg q i j b = s.chip.reg q i j b))
  ∧ (∀ (s : State) (p : Port) (x : Cell) (r : RegRow) (i : Nat),
      s.chip.id.hub = false →
      s.chip.inReset = false →
      p.val < 2 →
      s.chip.headM p.val 0x40 = some x →
      Word.field (x.pay 2) 28 4 = 1 →
      s.chip.held = [] →
      pagePresent false (addrPage (Word.field (x.pay 3) 0 18)) = true →
      headerOff (addrOff (Word.field (x.pay 3) 0 18)) = false →
      pageRow false (addrPage (Word.field (x.pay 3) 0 18)) (addrOff (Word.field (x.pay 3) 0 18)) = some (r, i) →
      r.acc = .rs →
      ∃ t, exec (.rreqExecute p) s = .next t ∧ t.pending = s.pending
        ∧ ((s.chip.fresh.popRx p.val clsM 1).masterRead (if p.val = 1 then Master.remoteB else Master.remoteA) (Word.field (x.pay 3) 0 18)).1 = (s.chip.fresh.popRx p.val clsM 1).rowValue (if p.val = 1 then Master.remoteB else Master.remoteA) r i ((s.chip.fresh.popRx p.val clsM 1).rowIdx (if p.val = 1 then Master.remoteB else Master.remoteA) r)
        ∧ t.chip = (((s.chip.fresh.popRx p.val clsM 1).masterRead (if p.val = 1 then Master.remoteB else Master.remoteA) (Word.field (x.pay 3) 0 18)).2.count 0x490 none).sendCells p.val clsM [rrspCell x 0 0 ((s.chip.fresh.popRx p.val clsM 1).masterRead (if p.val = 1 then Master.remoteB else Master.remoteA) (Word.field (x.pay 3) 0 18)).1]
        ∧ ((latched (addrPage (Word.field (x.pay 3) 0 18)) (addrOff (Word.field (x.pay 3) 0 18))).all fun o => (pageRow false (addrPage (Word.field (x.pay 3) 0 18)) o).all fun q => t.chip.shown (if p.val = 1 then Master.remoteB else Master.remoteA) q.1 q.2 ((s.chip.fresh.popRx p.val clsM 1).rowIdx (if p.val = 1 then Master.remoteB else Master.remoteA) r) == (s.chip.fresh.popRx p.val clsM 1).rowValue (if p.val = 1 then Master.remoteB else Master.remoteA) q.1 q.2 ((s.chip.fresh.popRx p.val clsM 1).rowIdx (if p.val = 1 then Master.remoteB else Master.remoteA) r)) = true
        ∧ (∀ k, k / 262144 % 4 ≠ (if p.val = 1 then Master.remoteB else Master.remoteA).code → SMap.find t.chip.shadows k 0 = SMap.find s.chip.shadows k 0))

/-- A RATE write is staged from the writing master's banks, and does not act at once. RATE_STAGE with a RATE inside the window and slew stages (TK_RATE_HI, the same master's TK_RATE_LO) and leaves the active RATE; one outside is refused: nothing is staged anew and GD_LASTVAL holds the word. -/
def Obligations.RateStaging : Prop :=
  (∀ (s : State) (m : Master) (w : Word),
      s.chip.opens m 0x01 = true →
      rateOutside (w.toNat * 2 ^ 32 + (s.chip.regOf m Reg.TK_RATE_LO).toNat) (Word.field (s.chip.reg Reg.GD_RATEWIN) 0 20) = false →
      s.chip.rateSlewed (w.toNat * 2 ^ 32 + (s.chip.regOf m Reg.TK_RATE_LO).toNat) = false →
      ∃ t, exec (.rateStage m w) s = .next t ∧ t.pending = s.pending
        ∧ t.chip.tk = { s.chip.tk with rateStage := some (w.toNat * 2 ^ 32 + (s.chip.regOf m Reg.TK_RATE_LO).toNat) })
  ∧ (∀ (s : State) (m : Master) (w : Word),
      s.chip.opens m 0x01 = true →
      (rateOutside (w.toNat * 2 ^ 32 + (s.chip.regOf m Reg.TK_RATE_LO).toNat) (Word.field (s.chip.reg Reg.GD_RATEWIN) 0 20) = true ∨ s.chip.rateSlewed (w.toNat * 2 ^ 32 + (s.chip.regOf m Reg.TK_RATE_LO).toNat) = true) →
      ∃ t, exec (.rateStage m w) s = .next t ∧ t.pending = s.pending
        ∧ t.chip.tk = s.chip.tk
        ∧ t.chip.calm = s.chip.calm
        ∧ t.chip.reg Reg.GD_LASTVAL = w)

/-- A step is armed from the writing master's banks, one at a time. STEP_ARM with no step armed arms the signed 96-bit value of TK_STEP2 as written and the master's TK_STEP1 and TK_STEP0; with a step armed the armed step stays (STEP_BUSY). Time does not move in either case. -/
def Obligations.StepArming : Prop :=
  (∀ (s : State) (m : Master) (w : Word),
      s.chip.opens m 0x01 = true →
      s.chip.tk.step = none →
      ∃ t, exec (.stepArm m w) s = .next t ∧ t.pending = s.pending
        ∧ t.chip.tk = { s.chip.tk with step := some (signedOf 96 (w.toNat * 2 ^ 64 + (s.chip.regOf m Reg.TK_STEP1).toNat * 2 ^ 32 + (s.chip.regOf m Reg.TK_STEP0).toNat)) })
  ∧ (∀ (s : State) (m : Master) (w : Word),
      s.chip.opens m 0x01 = true →
      s.chip.tk.step.isSome = true →
      ∃ t, exec (.stepArm m w) s = .next t ∧ t.pending = s.pending
        ∧ t.chip.tk = s.chip.tk
        ∧ t.chip.calm = s.chip.calm)

/-- At a boundary the anchor advances with the old RATE, then the step, then the staged RATE. ANCHOR_BOUNDARY with TCLK running passes to the next FRC that is a multiple of 1,024. With no step armed the anchor is the exact time of that tick under the old RATE. With a step armed that keeps the anchor in range the step is added to it, VALID is set and the count of steps rises. The staged RATE, if any, is then the active one and nothing is staged or armed. -/
def Obligations.AnchorBoundary : Prop :=
  (∀ (s : State) (l : List Tap),
      s.chip.tk.tclk = true →
      s.chip.tk.frc < 2 ^ 64 - 1024 →
      s.chip.tk.frcAnchor ≤ s.chip.tk.frc →
      s.chip.tk.step = none →
      ∃ t, exec (.anchorBoundary l) s = .next t ∧ t.pending = s.pending
        ∧ t.chip.tk.frc = (s.chip.tk.frc / 1024 + 1) * 1024
        ∧ t.chip.tk.frcAnchor = t.chip.tk.frc
        ∧ t.chip.tk.tAnchor = s.chip.tk.tAnchor + s.chip.tk.rate * (t.chip.tk.frc - s.chip.tk.frcAnchor)
        ∧ t.chip.tk.rate = s.chip.tk.rateStage.getD s.chip.tk.rate
        ∧ t.chip.tk.rateStage = none
        ∧ t.chip.tk.step = none
        ∧ t.chip.tk.valid = s.chip.tk.valid
        ∧ t.chip.tk.stepCnt = s.chip.tk.stepCnt)
  ∧ (∀ (s : State) (l : List Tap) (x : Int),
      s.chip.tk.tclk = true →
      s.chip.tk.frc < 2 ^ 64 - 1024 →
      s.chip.tk.frcAnchor ≤ s.chip.tk.frc →
      s.chip.tk.step = some x →
      0 ≤ (s.chip.tk.tAnchor + s.chip.tk.rate * ((s.chip.tk.frc / 1024 + 1) * 1024 - s.chip.tk.frcAnchor) : Nat) + x * 2 ^ 24 →
      (s.chip.tk.tAnchor + s.chip.tk.rate * ((s.chip.tk.frc / 1024 + 1) * 1024 - s.chip.tk.frcAnchor) : Nat) + x * 2 ^ 24 < 2 ^ 120 →
      ∃ t, exec (.anchorBoundary l) s = .next t ∧ t.pending = s.pending
        ∧ t.chip.tk.frcAnchor = t.chip.tk.frc
        ∧ (t.chip.tk.tAnchor : Int) = (s.chip.tk.tAnchor + s.chip.tk.rate * (t.chip.tk.frc - s.chip.tk.frcAnchor) : Nat) + x * 2 ^ 24
        ∧ t.chip.tk.rate = s.chip.tk.rateStage.getD s.chip.tk.rate
        ∧ t.chip.tk.step = none
        ∧ t.chip.tk.valid = true
        ∧ t.chip.tk.stepCnt = (s.chip.tk.stepCnt + 1) % 2 ^ 32)

/-- A time read latches one tick's time for the reading master alone. TIME_READ leaves time and the stored registers as they are, and latches T[63:32], T[95:64], both FRC words and the qualifier, all of the even tick that begins the LCLK cycle, for the reading master; no other master's shadow copy changes. -/
def Obligations.TimeReadLatch : Prop :=
  ∀ (s : State) (m : Master),
      s.chip.opens m 0x01 = true →
      ∃ t, exec (.timeRead m) s = .next t ∧ t.pending = s.pending
        ∧ t.chip.tk = s.chip.tk
        ∧ t.chip.regs = s.chip.regs
        ∧ t.chip.calm = { s.chip.calm with shadows := t.chip.shadows }
        ∧ t.chip.shown m Reg.TK_TIME_NSLO 0 0 = Word.part s.chip.cycleTime 1
        ∧ t.chip.shown m Reg.TK_TIME_NSHI 0 0 = Word.part s.chip.cycleTime 2
        ∧ t.chip.shown m Reg.TK_TIME_FRCLO 0 0 = Word.part (s.chip.tk.frc - s.chip.tk.frc % 2) 0
        ∧ t.chip.shown m Reg.TK_TIME_FRCHI 0 0 = Word.part (s.chip.tk.frc - s.chip.tk.frc % 2) 1
        ∧ t.chip.shown m Reg.TK_TIME_QUAL 0 0 = s.chip.timeQual
        ∧ (∀ m' : Master, m' ≠ m → ∀ (r : RegRow) (idx : Nat), r ∈ Reg.ofPage 0x01 → SMap.find t.chip.shadows (shadowKey m' r 0 idx) 0 = SMap.find s.chip.shadows (shadowKey m' r 0 idx) 0)

/-- Time bases are captured together, loaded and adjusted. TB_CAPTURE latches every base at its present value and native T, moving none; TB_LOAD and TB_ADJUST set the waiting load and add to the waiting adjustment of the master's channel from its banks. Time itself never moves. -/
def Obligations.TimeBases : Prop :=
  (∀ (s : State) (m : Master),
      s.chip.opens m 0x02 = true →
      ∃ t, exec (.tbCapture m) s = .next t ∧ t.pending = s.pending
        ∧ (∀ k, k < 4 → (t.chip.tbChan k).cap = (s.chip.tbChan k).time ∧ (t.chip.tbChan k).value = (s.chip.tbChan k).value)
        ∧ t.chip.tb.captT = s.chip.now
        ∧ t.chip.tk = s.chip.tk
        ∧ t.chip.regs = s.chip.regs)
  ∧ (∀ (s : State) (m : Master) (w : Word),
      s.chip.opens m 0x02 = true →
      s.chip.locked 0x02 = false →
      ∃ t, exec (.tbLoad m w) s = .next t ∧ t.pending = s.pending
        ∧ (t.chip.tbChan (s.chip.chanOf m 0x02)).load = some (w.toNat * 2 ^ 64 + (s.chip.regOf m Reg.TB_LOAD_NSLO (s.chip.chanOf m 0x02)).toNat * 2 ^ 32 + (s.chip.regOf m Reg.TB_LOAD_FRAC (s.chip.chanOf m 0x02)).toNat)
        ∧ (t.chip.tbChan (s.chip.chanOf m 0x02)).value = (s.chip.tbChan (s.chip.chanOf m 0x02)).value
        ∧ (∀ k, k ≠ s.chip.chanOf m 0x02 → t.chip.tbChan k = s.chip.tbChan k)
        ∧ t.chip.tk = s.chip.tk)
  ∧ (∀ (s : State) (m : Master) (w : Word),
      s.chip.opens m 0x02 = true →
      s.chip.locked 0x02 = false →
      ∃ t, exec (.tbAdjust m w) s = .next t ∧ t.pending = s.pending
        ∧ (t.chip.tbChan (s.chip.chanOf m 0x02)).adj = some ((s.chip.tbChan (s.chip.chanOf m 0x02)).adj.getD 0 + signedOf 96 (w.toNat * 2 ^ 64 + (s.chip.regOf m Reg.TB_ADJ_NSLO (s.chip.chanOf m 0x02)).toNat * 2 ^ 32 + (s.chip.regOf m Reg.TB_ADJ_FRAC (s.chip.chanOf m 0x02)).toNat))
        ∧ (t.chip.tbChan (s.chip.chanOf m 0x02)).value = (s.chip.tbChan (s.chip.chanOf m 0x02)).value
        ∧ (∀ k, k ≠ s.chip.chanOf m 0x02 → t.chip.tbChan k = s.chip.tbChan k)
        ∧ t.chip.tk = s.chip.tk)

/-- The limits of the Guard, and the host's barrier override. A write of a limit register that does not loosen it, and leaves the RATEs in force inside, is taken from every master; one that loosens it is taken from the host port alone, while the page is not locked and within the extremes of the hardware, and from any other master it is refused and kept as the latest refusal. GD_OVR of the host port, with its key word, the generation and an open barrier of an apex entry selected, closes the barrier without determinism; a bad one, or one of another master, changes no entry. A NOR command of firmware in a range of the Guard changes nothing of the controller and is kept as the latest refusal. -/
def Obligations.GuardLimitsAndOverride : Prop :=
  (∀ (s : State) (m : Master) (k : GuardLimit) (w : Word),
      s.chip.opens m 0x1C = true →
      limitLoosens k (s.chip.reg (limitRow k)) (w &&& (limitRow k).take) = false →
      s.chip.winTooTight k (w &&& (limitRow k).take) = false →
      ∃ t, exec (.gdLimitWrite m k w) s = .next t ∧ t.pending = s.pending
        ∧ t.chip.reg (limitRow k) = (w &&& (limitRow k).take)
        ∧ t.chip.tk = s.chip.tk
        ∧ t.chip.reg Reg.GD_LASTVAL = s.chip.reg Reg.GD_LASTVAL)
  ∧ (∀ (s : State) (m : Master) (k : GuardLimit) (w : Word),
      s.chip.opens m 0x1C = true →
      limitLoosens k (s.chip.reg (limitRow k)) (w &&& (limitRow k).take) = true →
      m ≠ .host →
      ∃ t, exec (.gdLimitWrite m k w) s = .next t ∧ t.pending = s.pending
        ∧ t.chip.reg (limitRow k) = s.chip.reg (limitRow k)
        ∧ t.chip.reg Reg.GD_LASTVAL = w)
  ∧ (∀ (s : State) (m : Master) (k : GuardLimit) (w : Word),
      s.chip.opens m 0x1C = true →
      limitLoosens k (s.chip.reg (limitRow k)) (w &&& (limitRow k).take) = true →
      m = .host →
      s.chip.locked 0x1C = false →
      limitBeyond k (w &&& (limitRow k).take) = false →
      s.chip.winTooTight k (w &&& (limitRow k).take) = false →
      ∃ t, exec (.gdLimitWrite m k w) s = .next t ∧ t.pending = s.pending
        ∧ t.chip.reg (limitRow k) = (w &&& (limitRow k).take))
  ∧ (∀ (s : State) (m : Master) (k : GuardLimit) (w : Word),
      s.chip.opens m 0x1C = true →
      limitLoosens k (s.chip.reg (limitRow k)) (w &&& (limitRow k).take) = true →
      m = .host →
      (s.chip.locked 0x1C = true ∨ limitBeyond k (w &&& (limitRow k).take) = true) →
      ∃ t, exec (.gdLimitWrite m k w) s = .next t ∧ t.pending = s.pending
        ∧ t.chip.reg (limitRow k) = s.chip.reg (limitRow k))
  ∧ (∀ (s : State) (m : Master) (w : Word) (n : Nat),
      s.chip.opens m 0x1C = true →
      m = .host →
      s.chip.ovrGood w = true →
      (s.chip.ent (Word.field (s.chip.reg Reg.GD_OVRSEL) 0 12)).barrier = some n →
      ∃ t, exec (.barrierOverride m w) s = .next t ∧ t.pending = s.pending
        ∧ (t.chip.ent (Word.field (s.chip.reg Reg.GD_OVRSEL) 0 12)).latest.map (fun r => (r.course, r.det)) = some (n, false)
        ∧ ((t.chip.ent (Word.field (s.chip.reg Reg.GD_OVRSEL) 0 12)).closing = true ∨ (t.chip.ent (Word.field (s.chip.reg Reg.GD_OVRSEL) 0 12)).barrier = none)
        ∧ (t.chip.ent (Word.field (s.chip.reg Reg.GD_OVRSEL) 0 12)).expected = some (n + 1))
  ∧ (∀ (s : State) (m : Master) (w : Word),
      s.chip.opens m 0x1C = true →
      (m ≠ .host ∨ s.chip.ovrGood w = false) →
      ∃ t, exec (.barrierOverride m w) s = .next t ∧ t.pending = s.pending
        ∧ t.chip.gr = s.chip.gr
        ∧ t.chip.sq = s.chip.sq)
  ∧ (∀ (s : State) (a : BitVec 24),
      s.chip.inReset = false →
      s.chip.fw.running = true →
      s.chip.id.norPresent = true →
      guardOnly a.toNat = true →
      ∃ t, exec (.nvmProt a) s = .next t ∧ t.pending = s.pending
        ∧ t.chip.fw = s.chip.fw
        ∧ t.chip.reg Reg.GD_LASTVAL = BitVec.ofNat 32 a.toNat)
  ∧ (∀ (s : State) (a : BitVec 24),
      s.chip.inReset = false →
      guardOnly a.toNat = false →
      ∃ t, exec (.nvmProt a) s = .next t ∧ t.pending = s.pending
        ∧ t.chip.fw = s.chip.fw
        ∧ t.chip.regs = s.chip.regs)

/-- The controller's watchdog, its expiries and its resets. A kick of firmware restarts the watchdog; one of another master does not. An expiry outside a trial stops the controller and boots it again, or holds it in reset once the expiries reach the limit; the count of expiries is cleared after a time without one. A parity error in the SRAM and a debug reset stop the controller, clear its SRAM and boot it again; one that is held or has no image stays in reset (the model's choice, log entry 33). -/
def Obligations.ControllerWatchdog : Prop :=
  (∀ (s : State) (m : Master),
      s.chip.opens m 0x1C = true →
      m = .firmware →
      ∃ t, exec (.watchdogKick m) s = .next t ∧ t.pending = s.pending
        ∧ t.chip.gd = { s.chip.gd with kickAt := s.chip.tk.frc }
        ∧ t.chip.regs = s.chip.regs)
  ∧ (∀ (s : State) (m : Master),
      s.chip.opens m 0x1C = true →
      m ≠ .firmware →
      ∃ t, exec (.watchdogKick m) s = .next t ∧ t.pending = s.pending
        ∧ t.chip.gd = s.chip.gd)
  ∧ (∀ (s : State) ,
      s.chip.inReset = false →
      s.chip.gd.wdRun = true →
      s.chip.fw.trial = false →
      satNat 8 (s.chip.gd.expiries + 1) < Word.field (s.chip.reg Reg.GD_WDCFG) 16 4 →
      ∃ t, exec (.watchdogExpiry) s = .next t ∧ t.pending = s.pending
        ∧ t.chip.gd = { s.chip.gd with wdRun := false, expiries := satNat 8 (s.chip.gd.expiries + 1) }
        ∧ t.chip.fw.running = false
        ∧ t.chip.fw.phase = (if s.chip.fw.held || s.chip.fw.hostHeld then .off else .want)
        ∧ t.chip.fw.held = s.chip.fw.held
        ∧ t.chip.fw.sram = [])
  ∧ (∀ (s : State) ,
      s.chip.inReset = false →
      s.chip.gd.wdRun = true →
      s.chip.fw.trial = false →
      Word.field (s.chip.reg Reg.GD_WDCFG) 16 4 ≤ satNat 8 (s.chip.gd.expiries + 1) →
      ∃ t, exec (.watchdogExpiry) s = .next t ∧ t.pending = s.pending
        ∧ t.chip.fw.held = true
        ∧ t.chip.fw.running = false
        ∧ t.chip.fw.phase = .off
        ∧ t.chip.gd.expiries = satNat 8 (s.chip.gd.expiries + 1))
  ∧ (∀ (s : State) ,
      s.chip.inReset = false →
      s.chip.gd.wdRun = false →
      ∃ t, exec (.watchdogExpiry) s = .next t ∧ t.pending = s.pending
        ∧ t.chip.gd = s.chip.gd
        ∧ t.chip.fw = s.chip.fw)
  ∧ (∀ (s : State) ,
      s.chip.inReset = false →
      ∃ t, exec (.expiryClear) s = .next t ∧ t.pending = s.pending
        ∧ t.chip.gd = { s.chip.gd with expiries := 0 }
        ∧ t.chip.fw = s.chip.fw)
  ∧ (∀ (s : State) ,
      s.chip.inReset = false →
      s.chip.fw.running = true →
      ∃ t, exec (.sramPar) s = .next t ∧ t.pending = s.pending
        ∧ t.chip.fw.running = false
        ∧ t.chip.fw.sram = []
        ∧ t.chip.fw.phase = (if s.chip.fw.held || s.chip.fw.hostHeld then .off else .want)
        ∧ t.chip.gd.wdRun = false
        ∧ t.chip.fw.nor = s.chip.fw.nor)
  ∧ (∀ (s : State) ,
      s.chip.inReset = false →
      s.chip.fw.held = false →
      s.chip.fw.hostHeld = false →
      s.chip.fw.noImage = false →
      ∃ t, exec (.debugReset) s = .next t ∧ t.pending = s.pending
        ∧ t.chip.fw.running = false
        ∧ t.chip.fw.sram = []
        ∧ t.chip.fw.phase = .want
        ∧ t.chip.fw.bankB = s.chip.fw.bankB
        ∧ t.chip.regs = s.chip.regs)
  ∧ (∀ (s : State) ,
      s.chip.inReset = false →
      (s.chip.fw.held = true ∨ s.chip.fw.hostHeld = true ∨ s.chip.fw.noImage = true) →
      ∃ t, exec (.debugReset) s = .next t ∧ t.pending = s.pending
        ∧ t.chip.fw = { s.chip.fw with running := false, run := 0, sram := [], phase := .off }
        ∧ t.chip.gd = { s.chip.gd with wdRun := false }
        ∧ t.chip.regs = s.chip.regs)

/-- Loading, verifying, staging, handing over and committing controller images. IMAGE_LOAD begins to load a wanted image. IMAGE_VERIFIED of the first bank tried outside a trial starts the controller with its watchdog where the image has no fault, and else turns to the other bank. Staging erases the inactive bank, takes words into the buffer while there is room and no erase runs, and programs the oldest bytes meant for the inactive bank; once the erase of the inactive bank is done every byte of it reads 0xFF. VERIFY sets the status of the inactive bank. HOLD of the host stops the controller until RELEASE boots it. SWITCH asks for a handover; HANDOVER of firmware, or its time-out after SWITCH, begins a trial of the other bank, COMMIT of firmware in a trial makes it the bank to boot, and a trial that is not committed in time goes back. That a held controller stays in reset after a handover or a revert (log entry 33), that SHA-384, ECDSA and the fused digests are opaque, and reads in error free (log entries 38 and 39), and what NOR bytes hold before and after erase and program (log entry 40), are the model's choices. -/
def Obligations.ControllerImages : Prop :=
  (∀ (s : State) ,
      s.chip.inReset = false →
      s.chip.fw.phase = .want →
      ∃ t, exec (.imageLoad) s = .next t ∧ t.pending = s.pending
        ∧ t.chip.fw = { s.chip.fw with phase := .load })
  ∧ (∀ (s : State) (ok : Bool),
      s.chip.inReset = false →
      s.chip.fw.phase = .load →
      s.chip.fw.fromSram = false →
      s.chip.fw.trial = false →
      s.chip.fw.tried = [] →
      s.chip.id.norPresent = true →
      s.chip.fw.spoiled = none →
      ∃ t, exec (.imageVerified ok) s = .next t ∧ t.pending = s.pending
        ∧ t.chip.fw.phase = (if (s.chip.imgFault (some s.chip.fw.bankB) ok) = none then .off else .want)
        ∧ t.chip.fw.running = ((s.chip.imgFault (some s.chip.fw.bankB) ok).isNone || s.chip.fw.running)
        ∧ t.chip.fw.bankB = (if (s.chip.imgFault (some s.chip.fw.bankB) ok) = none then s.chip.fw.bankB else !s.chip.fw.bankB)
        ∧ t.chip.gd.wdRun = ((s.chip.imgFault (some s.chip.fw.bankB) ok).isNone || s.chip.gd.wdRun)
        ∧ t.chip.ts.swq = s.chip.ts.swq)
  ∧ (∀ (s : State) (m : Master) (w : Word),
      s.chip.opens m 0x25 = true →
      s.chip.id.norPresent = true →
      ∃ t, exec (.stagingErase m w) s = .next t ∧ t.pending = s.pending
        ∧ t.chip.fw = { s.chip.fw with erasing := true, eraseB := s.chip.fw.inactive, staging := true })
  ∧ (∀ (s : State) (a : Nat),
      s.chip.inReset = false →
      s.chip.fw.erasing = true →
      s.chip.fw.eraseB = s.chip.fw.inactive →
      ∃ t, exec (.stagingEraseDone) s = .next t ∧ t.pending = s.pending
        ∧ t.chip.fw.erasing = false
        ∧ SMap.find t.chip.fw.nor a 0xFF = (if bankBase s.chip.fw.inactive ≤ a ∧ a < bankBase s.chip.fw.inactive + 0x40000 then 0xFF else SMap.find s.chip.fw.nor a 0xFF)
        ∧ t.chip.fw.buffer = s.chip.fw.buffer)
  ∧ (∀ (s : State) (m : Master) (w : Word),
      s.chip.opens m 0x25 = true →
      s.chip.id.norPresent = true →
      s.chip.fw.erasing = false →
      s.chip.fw.buffer.length + 4 ≤ 1024 →
      ∃ t, exec (.stagingWrite m w) s = .next t ∧ t.pending = s.pending
        ∧ t.chip.fw.buffer = s.chip.fw.buffer ++ [((bankBase s.chip.fw.inactive + 4 * Word.field (s.chip.regOf m Reg.FW_STGADDR) 0 16), BitVec.ofNat 8 w.toNat), ((bankBase s.chip.fw.inactive + 4 * Word.field (s.chip.regOf m Reg.FW_STGADDR) 0 16) + 1, BitVec.ofNat 8 (w.toNat >>> 8)), ((bankBase s.chip.fw.inactive + 4 * Word.field (s.chip.regOf m Reg.FW_STGADDR) 0 16) + 2, BitVec.ofNat 8 (w.toNat >>> 16)), ((bankBase s.chip.fw.inactive + 4 * Word.field (s.chip.regOf m Reg.FW_STGADDR) 0 16) + 3, BitVec.ofNat 8 (w.toNat >>> 24))]
        ∧ t.chip.fw.staging = true
        ∧ t.chip.fw.nor = s.chip.fw.nor)
  ∧ (∀ (s : State) (m : Master) (w : Word),
      s.chip.opens m 0x25 = true →
      s.chip.id.norPresent = true →
      (s.chip.fw.erasing = true ∨ 1024 < s.chip.fw.buffer.length + 4) →
      ∃ t, exec (.stagingWrite m w) s = .next t ∧ t.pending = s.pending
        ∧ t.chip.fw = s.chip.fw)
  ∧ (∀ (s : State) (n : BitVec 11),
      s.chip.inReset = false →
      (∀ p ∈ s.chip.fw.buffer.take n.toNat, s.chip.fw.mayProgram p.1 = true) →
      ∃ t, exec (.stagingProgram n) s = .next t ∧ t.pending = s.pending
        ∧ t.chip.fw.buffer = s.chip.fw.buffer.drop n.toNat
        ∧ (∀ a, a ∉ (s.chip.fw.buffer.take n.toNat).map (fun e => e.1) → SMap.find t.chip.fw.nor a 0xFF = SMap.find s.chip.fw.nor a 0xFF)
        ∧ t.chip.regs = s.chip.regs)
  ∧ (∀ (s : State) (a : Nat) (b : BitVec 8) (r : List (Nat × BitVec 8)),
      s.chip.inReset = false →
      s.chip.fw.buffer = (a, b) :: r →
      s.chip.fw.mayProgram a = true →
      ∃ t, exec (.stagingProgram 1) s = .next t ∧ t.pending = s.pending
        ∧ t.chip.fw.buffer = r
        ∧ SMap.find t.chip.fw.nor a 0xFF = b)
  ∧ (∀ (s : State) (m : Master),
      s.chip.opens m 0x25 = true →
      s.chip.id.norPresent = true →
      s.chip.fw.spoiled = none →
      ∃ t, exec (.verify m) s = .next t ∧ t.pending = s.pending
        ∧ Word.bit (if s.chip.fw.bankB then t.chip.fw.bstatA else t.chip.fw.bstatB) 31 = (s.chip.imgFault (some s.chip.fw.inactive) true).isNone
        ∧ (if s.chip.fw.bankB then t.chip.fw.bstatB else t.chip.fw.bstatA) = (if s.chip.fw.bankB then s.chip.fw.bstatB else s.chip.fw.bstatA)
        ∧ t.chip.fw.running = s.chip.fw.running
        ∧ t.chip.fw.staging = false)
  ∧ (∀ (s : State) (m : Master),
      s.chip.opens m 0x25 = true →
      m = .host →
      ∃ t, exec (.hold m) s = .next t ∧ t.pending = s.pending
        ∧ t.chip.fw.running = false
        ∧ t.chip.fw.hostHeld = true
        ∧ t.chip.fw.sram = []
        ∧ t.chip.gd.wdRun = false
        ∧ t.chip.fw.nor = s.chip.fw.nor)
  ∧ (∀ (s : State) (m : Master),
      s.chip.opens m 0x25 = true →
      m ≠ .host →
      ∃ t, exec (.hold m) s = .next t ∧ t.pending = s.pending
        ∧ t.chip.fw = s.chip.fw
        ∧ t.chip.gd = s.chip.gd)
  ∧ (∀ (s : State) (m : Master),
      s.chip.opens m 0x25 = true →
      m = .host →
      (s.chip.fw.held = true ∨ s.chip.fw.hostHeld = true) →
      ∃ t, exec (.fwRelease m) s = .next t ∧ t.pending = s.pending
        ∧ t.chip.fw.held = false
        ∧ t.chip.fw.hostHeld = false
        ∧ t.chip.fw.phase = .want)
  ∧ (∀ (s : State) (m : Master),
      s.chip.opens m 0x25 = true →
      (m ≠ .host ∨ (s.chip.fw.held = false ∧ s.chip.fw.hostHeld = false)) →
      ∃ t, exec (.fwRelease m) s = .next t ∧ t.pending = s.pending
        ∧ t.chip.fw = s.chip.fw)
  ∧ (∀ (s : State) (m : Master),
      s.chip.opens m 0x25 = true →
      ∃ t, exec (.fwSwitch m) s = .next t ∧ t.pending = s.pending
        ∧ t.chip.fw = { s.chip.fw with swReq := s.chip.fw.swReq || !s.chip.fw.trial })
  ∧ (∀ (s : State) (m : Master),
      s.chip.opens m 0x25 = true →
      m = .firmware →
      s.chip.fw.trial = false →
      s.chip.id.norPresent = true →
      ∃ t, exec (.handover m) s = .next t ∧ t.pending = s.pending
        ∧ t.chip.fw.trial = true
        ∧ t.chip.fw.prot = true
        ∧ t.chip.fw.bankB = !s.chip.fw.bankB
        ∧ t.chip.fw.running = false
        ∧ t.chip.fw.phase = (if s.chip.fw.held || s.chip.fw.hostHeld then .off else .want))
  ∧ (∀ (s : State) (m : Master),
      s.chip.opens m 0x25 = true →
      (m ≠ .firmware ∨ s.chip.fw.trial = true) →
      ∃ t, exec (.handover m) s = .next t ∧ t.pending = s.pending
        ∧ t.chip.fw = s.chip.fw)
  ∧ (∀ (s : State) (m : Master),
      s.chip.opens m 0x25 = true →
      m = .firmware →
      s.chip.fw.trial = true →
      ∃ t, exec (.commit m) s = .next t ∧ t.pending = s.pending
        ∧ t.chip.fw.trial = false
        ∧ t.chip.fw.prot = false
        ∧ t.chip.fw.bootRec = some s.chip.fw.bankB
        ∧ t.chip.fw.running = s.chip.fw.running)
  ∧ (∀ (s : State) (m : Master),
      s.chip.opens m 0x25 = true →
      (m ≠ .firmware ∨ s.chip.fw.trial = false) →
      ∃ t, exec (.commit m) s = .next t ∧ t.pending = s.pending
        ∧ t.chip.fw = s.chip.fw)
  ∧ (∀ (s : State) ,
      s.chip.inReset = false →
      s.chip.fw.swReq = true →
      s.chip.fw.trial = false →
      s.chip.id.norPresent = true →
      ∃ t, exec (.swreqTmo) s = .next t ∧ t.pending = s.pending
        ∧ t.chip.fw.trial = true
        ∧ t.chip.fw.bankB = !s.chip.fw.bankB
        ∧ t.chip.fw.swReq = false
        ∧ t.chip.reg Reg.FW_HOBSTAT = 0)
  ∧ (∀ (s : State) ,
      s.chip.inReset = false →
      s.chip.fw.trial = true →
      ∃ t, exec (.trialTimeout) s = .next t ∧ t.pending = s.pending
        ∧ t.chip.fw.trial = false
        ∧ t.chip.fw.bankB = !s.chip.fw.bankB
        ∧ t.chip.fw.running = false
        ∧ t.chip.fw.phase = (if s.chip.fw.held || s.chip.fw.hostHeld then .off else .want))

/-- The detectors of hung engines, late courses, long waits and busy threads. HB_TMO of a watched engine that is not done, after its time, marks it as timed out and keeps its log; before its time it does nothing. OVERRUN of a thread whose deadline has passed without a SYNC marks the course as overrun and lets the thread go on. WAIT_TMO marks a wait that is older than its time-out, once. SQ_WDOG stops a thread in RUN that has issued nothing for its time in FAULT with code 7; a younger wait and a thread that issued within the time are left as they are. -/
def Obligations.HangDetectors : Prop :=
  (∀ (s : State) (e : Engine),
      s.chip.id.hub = false →
      s.chip.inReset = false →
      e.val / 4 < s.chip.id.ntaps →
      Word.bit (s.chip.reg Reg.HG_ECFG e.val) 31 = true →
      (s.chip.eng e.val).done = false →
      (s.chip.eng e.val).hbto = false →
      (s.chip.eng e.val).inEpisode = false →
      s.chip.pw.hostLow = false →
      (s.chip.tap (e.val / 4)).rgnReset = false →
      (s.chip.eng e.val).hbAt + s.chip.hbTmo e.val * 1000 * nsUnit ≤ s.chip.now →
      ∃ t, exec (.hbTmo e) s = .next t ∧ t.pending = s.pending
        ∧ (t.chip.eng e.val).hbto = true
        ∧ (t.chip.eng e.val).log = (s.chip.eng e.val).log
        ∧ (t.chip.eng e.val).done = false
        ∧ t.chip.sq = s.chip.sq
        ∧ t.chip.rt.taps = s.chip.rt.taps)
  ∧ (∀ (s : State) (e : Engine),
      s.chip.id.hub = false →
      s.chip.inReset = false →
      e.val / 4 < s.chip.id.ntaps →
      s.chip.now < (s.chip.eng e.val).hbAt + s.chip.hbTmo e.val * 1000 * nsUnit →
      ∃ t, exec (.hbTmo e) s = .next t ∧ t.pending = s.pending
        ∧ t.chip.rt = s.chip.rt
        ∧ t.chip.cp = s.chip.cp
        ∧ t.chip.hg = s.chip.hg)
  ∧ (∀ (s : State) (i : Thread),
      s.chip.id.hub = false →
      s.chip.inReset = false →
      Word.bit (s.chip.reg Reg.HG_TDEADLINE i.val) 31 = true →
      (s.chip.th i.val).mode.stopped = false →
      (s.chip.th i.val).mode ≠ .solo →
      (s.chip.th i.val).solo = false →
      (s.chip.th i.val).overrun = false →
      (s.chip.th i.val).synced ≠ some (s.chip.th i.val).course →
      (s.chip.th i.val).base + Word.field (s.chip.reg Reg.HG_TDEADLINE i.val) 0 24 * 1000 * nsUnit ≤ s.chip.now →
      ∃ t, exec (.overrun i) s = .next t ∧ t.pending = s.pending
        ∧ t.chip.th i.val = { s.chip.th i.val with overrun := true }
        ∧ (∀ j, j ≠ i.val → t.chip.th j = s.chip.th j))
  ∧ (∀ (s : State) (a : Agent) (w : WaitState),
      s.chip.id.hub = false →
      s.chip.inReset = false →
      (s.chip.sg.waits.find? fun v => v.1 == a.val) = some (a.val, w) →
      w.reported = false →
      Word.field (s.chip.reg Reg.HG_WAITTMO) 0 20 ≠ 0 →
      Word.field (s.chip.reg Reg.HG_WAITTMO) 0 20 < s.chip.waitAge a.val →
      ∃ t, exec (.waitTmo a) s = .next t ∧ t.pending = s.pending
        ∧ SMap.find (t.chip.sg.waits.map fun v => (v.1, some v.2)) a.val none = some { w with reported := true }
        ∧ t.chip.sg.sems = s.chip.sg.sems
        ∧ t.chip.sq = s.chip.sq)
  ∧ (∀ (s : State) (a : Agent),
      s.chip.id.hub = false →
      s.chip.inReset = false →
      s.chip.waitAge a.val ≤ Word.field (s.chip.reg Reg.HG_WAITTMO) 0 20 →
      ∃ t, exec (.waitTmo a) s = .next t ∧ t.pending = s.pending
        ∧ t.chip.sg = s.chip.sg
        ∧ t.chip.cp = s.chip.cp)
  ∧ (∀ (s : State) (i : Thread),
      s.chip.id.hub = false →
      s.chip.inReset = false →
      (s.chip.th i.val).mode = .run →
      Word.field (s.chip.reg Reg.HG_SQWD) 0 20 ≠ 0 →
      Word.field (s.chip.reg Reg.HG_SQWD) 0 20 ≤ s.chip.usSinceFrc (s.chip.th i.val).runAt →
      ∃ t, exec (.sqWdog i) s = .next t ∧ t.pending = s.pending
        ∧ t.chip.th i.val = { s.chip.th i.val with mode := .fault, fcode := 7 }
        ∧ (∀ j, j ≠ i.val → t.chip.th j = s.chip.th j))
  ∧ (∀ (s : State) (i : Thread),
      s.chip.id.hub = false →
      s.chip.inReset = false →
      s.chip.usSinceFrc (s.chip.th i.val).runAt < Word.field (s.chip.reg Reg.HG_SQWD) 0 20 →
      ∃ t, exec (.sqWdog i) s = .next t ∧ t.pending = s.pending
        ∧ t.chip.sq = s.chip.sq
        ∧ t.chip.cp = s.chip.cp)

/-- Capture, reading, release and mirroring of the capsule. TAKE with an empty store starts a capture of reason 6 with the next number and pauses issue; with one held it changes nothing of the capsule. At the end of the pause the engines are read; an engine that does not return its status is marked as timed out. Once none is left the capsule is complete, and it is mirrored once each of its 8,192 beats of eight words that lies in the window of the memory-write port has been put on that port. RELEASE empties the store of a complete capsule and is ignored otherwise. Reading CP_RDATA changes nothing of the capsule and, with AUTOINC, moves the address on by one. That a capsule takes its number as its capture starts, and that the mirror issues the beats inside the window, are the model's choices (log entry 26). -/
def Obligations.CapsuleCapture : Prop :=
  (∀ (s : State) (m : Master),
      s.chip.opens m 0x1E = true →
      s.chip.cp.stage = .empty →
      ∃ t, exec (.cpTake m) s = .next t ∧ t.pending = s.pending
        ∧ t.chip.cp.stage = .paused
        ∧ t.chip.cp.reason = 6
        ∧ t.chip.cp.seq = (s.chip.cp.seq + 1) % 2 ^ 32
        ∧ t.chip.cp.left = []
        ∧ t.chip.sq = s.chip.sq
        ∧ t.chip.gr = s.chip.gr)
  ∧ (∀ (s : State) (m : Master),
      s.chip.opens m 0x1E = true →
      s.chip.cp.stage ≠ .empty →
      ∃ t, exec (.cpTake m) s = .next t ∧ t.pending = s.pending
        ∧ t.chip.cp = s.chip.cp
        ∧ t.chip.sq = s.chip.sq)
  ∧ (∀ (s : State) ,
      s.chip.id.hub = false →
      s.chip.inReset = false →
      s.chip.cp.stage = .paused →
      ∃ t, exec (.capturePauseEnd) s = .next t ∧ t.pending = s.pending
        ∧ t.chip.cp = { s.chip.cp with stage := .reading }
        ∧ t.chip.sg = s.chip.sg
        ∧ t.chip.sq = s.chip.sq)
  ∧ (∀ (s : State) ,
      s.chip.id.hub = false →
      s.chip.inReset = false →
      s.chip.cp.stage ≠ .paused →
      ∃ t, exec (.capturePauseEnd) s = .next t ∧ t.pending = s.pending
        ∧ t.chip.cp = s.chip.cp
        ∧ t.chip.sg = s.chip.sg)
  ∧ (∀ (s : State) (e : Engine),
      s.chip.id.hub = false →
      s.chip.inReset = false →
      e.val / 4 < s.chip.id.ntaps →
      s.chip.readingEng e.val = true →
      ∃ t, exec (.estatTmo e) s = .next t ∧ t.pending = s.pending
        ∧ t.chip.cp.left = s.chip.cp.left.filter (fun k => k != e.val)
        ∧ t.chip.cp.timedOut = s.chip.cp.timedOut ++ [e.val]
        ∧ t.chip.cp.stage = .reading)
  ∧ (∀ (s : State) ,
      s.chip.id.hub = false →
      s.chip.inReset = false →
      s.chip.cp.stage = .reading →
      s.chip.cp.left = [] →
      ∃ t, exec (.capsuleComplete) s = .next t ∧ t.pending = s.pending
        ∧ t.chip.cp.stage = .done
        ∧ t.chip.cp.seq = s.chip.cp.seq
        ∧ t.chip.sq = s.chip.sq)
  ∧ (∀ (s : State) ,
      s.chip.id.hub = false →
      s.chip.inReset = false →
      s.chip.cp.stage ≠ .reading →
      ∃ t, exec (.capsuleComplete) s = .next t ∧ t.pending = s.pending
        ∧ t.chip.cp = s.chip.cp
        ∧ t.chip.rt = s.chip.rt)
  ∧ (∀ (s : State) ,
      s.chip.id.hub = false →
      s.chip.inReset = false →
      s.chip.cp.mirroring = true →
      s.chip.pw.hostLow = false →
      ∃ t, exec (.capsuleMirrored) s = .next t ∧ t.pending = s.pending
        ∧ t.chip.cp = { s.chip.cp with mirroring := false, mirrored := true }
        ∧ t.chip.ev.mwOps.head? = some { beats := s.chip.cp.mirror.map (fun k => (s.chip.cp.mirBase + 32 * k, (List.range 8).map fun j => SMap.find s.chip.cp.words (8 * k + j) 0)), err := s.chip.cp.mwErr }
        ∧ t.chip.ev.ring = s.chip.ev.ring)
  ∧ (∀ (s : State) (m : Master),
      s.chip.opens m 0x1E = true →
      s.chip.cp.stage = .done →
      ∃ t, exec (.cpRelease m) s = .next t ∧ t.pending = s.pending
        ∧ t.chip.cp = { CpState.reset with seq := s.chip.cp.seq }
        ∧ t.chip.regs = s.chip.regs)
  ∧ (∀ (s : State) (m : Master),
      s.chip.opens m 0x1E = true →
      s.chip.cp.stage ≠ .done →
      ∃ t, exec (.cpRelease m) s = .next t ∧ t.pending = s.pending
        ∧ t.chip.cp = s.chip.cp
        ∧ t.chip.regs = s.chip.regs)
  ∧ (∀ (s : State) (m : Master),
      s.chip.opens m 0x1E = true →
      ∃ t, exec (.capsuleRead m) s = .next t ∧ t.pending = s.pending
        ∧ t.chip.cp = s.chip.cp
        ∧ Word.field (t.chip.regOf m Reg.CP_RADDR) 0 16 = (if Word.bit (s.chip.regOf m Reg.CP_RADDR) 31 then (Word.field (s.chip.regOf m Reg.CP_RADDR) 0 16 + 1) % 2 ^ 16 else Word.field (s.chip.regOf m Reg.CP_RADDR) 0 16))

/-- Engine and region resets, the fence and its end. ERESET asks for the reset of an engine that is in no escalation. An acknowledgement in time, in a running region and outside a hung solo replay, ends the episode of the engine; without one the region reset is asked for and the region stops. Its acknowledgement ends the episodes of the engines that wait for it, and a region that the reset had stopped runs again from its next edge; without one they are fenced: the die is fenced, every thread that is not idle is halted and no line stays armed. UNFENCE of the host or of remote management lifts the fence, takes every region reset back and ends every episode, and the die ends fenced where a fence meets it at the same tick; of firmware it changes none of that. That UNFENCE and a fence meet where both come at one value of FRC is the model's choice (log entry 6), and so is the restart of the heartbeat timers by UNFENCE (log entry 29). -/
def Obligations.ResetEscalation : Prop :=
  (∀ (s : State) (m : Master),
      s.chip.opens m 0x1D = true →
      (s.chip.eng (Word.field (s.chip.regOf m Reg.HG_ESEL) 0 10)).inEpisode = false →
      (Word.field (s.chip.regOf m Reg.HG_ESEL) 0 10) / 4 < s.chip.id.ntaps →
      ∃ t, exec (.ereset m) s = .next t ∧ t.pending = s.pending
        ∧ (t.chip.eng (Word.field (s.chip.regOf m Reg.HG_ESEL) 0 10)).rstate = .engine
        ∧ (t.chip.eng (Word.field (s.chip.regOf m Reg.HG_ESEL) 0 10)).log = (s.chip.eng (Word.field (s.chip.regOf m Reg.HG_ESEL) 0 10)).log
        ∧ t.chip.rt.taps = s.chip.rt.taps)
  ∧ (∀ (s : State) (m : Master),
      s.chip.opens m 0x1D = true →
      ((s.chip.eng (Word.field (s.chip.regOf m Reg.HG_ESEL) 0 10)).inEpisode = true ∨ s.chip.id.ntaps ≤ (Word.field (s.chip.regOf m Reg.HG_ESEL) 0 10) / 4) →
      ∃ t, exec (.ereset m) s = .next t ∧ t.pending = s.pending
        ∧ t.chip.rt = s.chip.rt
        ∧ t.chip.cp = s.chip.cp)
  ∧ (∀ (s : State) (e : Engine) (p : Fin 64),
      s.chip.id.hub = false →
      s.chip.inReset = false →
      e.val / 4 < s.chip.id.ntaps →
      (s.chip.eng e.val).rstate = .engine →
      s.chip.hg.solo ≠ .hung →
      (s.chip.tap (e.val / 4)).stopped = false →
      ∃ t, exec (.engRack ⟨e, p⟩) s = .next t ∧ t.pending = s.pending
        ∧ (t.chip.eng e.val).rstate = .normal
        ∧ (t.chip.eng e.val).waiting = false
        ∧ (t.chip.eng e.val).hbto = false
        ∧ (t.chip.eng e.val).hbAt = s.chip.hbFrom (s.chip.tk.stamp s.chip.tk.frc p.val)
        ∧ t.chip.hg = s.chip.hg)
  ∧ (∀ (s : State) (e : Engine) (p : Fin 64),
      s.chip.id.hub = false →
      s.chip.inReset = false →
      e.val / 4 < s.chip.id.ntaps →
      (s.chip.eng e.val).rstate ≠ .engine →
      (s.chip.tap (e.val / 4)).stopped = false →
      ∃ t, exec (.engRack ⟨e, p⟩) s = .next t ∧ t.pending = s.pending
        ∧ t.chip.rt = s.chip.rt)
  ∧ (∀ (s : State) (e : Engine),
      s.chip.id.hub = false →
      s.chip.inReset = false →
      e.val / 4 < s.chip.id.ntaps →
      (s.chip.eng e.val).rstate = .engine →
      (s.chip.tap (e.val / 4)).rgnReset = false →
      ∃ t, exec (.engResetTimeout e) s = .next t ∧ t.pending = s.pending
        ∧ (t.chip.eng e.val).rstate = .region
        ∧ (t.chip.tap (e.val / 4)).rgnReset = true
        ∧ (t.chip.tap (e.val / 4)).stopped = true
        ∧ (∀ v ∈ t.chip.sg.rq, v.1 / 4 ≠ e.val / 4))
  ∧ (∀ (s : State) (tp : Tap) (ph : Fin 64) (e : Engine),
      s.chip.id.hub = false →
      s.chip.inReset = false →
      tp.val < s.chip.id.ntaps →
      (s.chip.tap tp.val).rgnReset = true →
      e.val / 4 = tp.val →
      (s.chip.eng e.val).rstate = .region →
      s.chip.hg.solo ≠ .hung →
      ∃ t, exec (.rgnRack ⟨tp, ph⟩) s = .next t ∧ t.pending = s.pending
        ∧ (t.chip.eng e.val).rstate = .normal
        ∧ (t.chip.eng e.val).hbAt = s.chip.hbFrom (s.chip.tk.stamp s.chip.tk.frc ph.val)
        ∧ (t.chip.tap tp.val).rgnReset = false
        ∧ (t.chip.tap tp.val).edgeDue = (s.chip.tap tp.val).rstStop
        ∧ t.chip.hg.fenced = s.chip.hg.fenced)
  ∧ (∀ (s : State) (tp : Tap) (e : Engine),
      s.chip.id.hub = false →
      s.chip.inReset = false →
      tp.val < s.chip.id.ntaps →
      e.val / 4 = tp.val →
      (s.chip.eng e.val).rstate = .region →
      s.chip.hg.fenced = false →
      ∃ t, exec (.rgnResetTimeout tp) s = .next t ∧ t.pending = s.pending
        ∧ (t.chip.eng e.val).rstate = .fenced
        ∧ t.chip.hg.fenced = true
        ∧ t.chip.hg.fenceT = s.chip.now
        ∧ (∀ j : Fin 32, (t.chip.th j.val).mode = .idle ∨ (t.chip.th j.val).mode = .halted)
        ∧ (∀ v ∈ t.chip.rt.lines, v.2.armed = none))
  ∧ (∀ (s : State) (m : Master),
      s.chip.opens m 0x1D = true →
      m ≠ .firmware →
      s.chip.hg.fenced = true →
      s.chip.hg.fenceAgain ≠ some s.chip.tk.frc →
      ∃ t, exec (.unfence m) s = .next t ∧ t.pending = s.pending
        ∧ t.chip.hg.fenced = false
        ∧ t.chip.hg.fenceT = s.chip.hg.fenceT
        ∧ t.chip.hg.suspects = s.chip.hg.suspects
        ∧ (∀ v ∈ t.chip.rt.engs, v.2.inEpisode = false)
        ∧ (∀ v ∈ t.chip.rt.taps, v.2.rgnReset = false)
        ∧ t.chip.sq = s.chip.sq)
  ∧ (∀ (s : State) (m : Master),
      s.chip.opens m 0x1D = true →
      m ≠ .firmware →
      s.chip.hg.fenced = true →
      s.chip.hg.fenceAgain = some s.chip.tk.frc →
      ∃ t, exec (.unfence m) s = .next t ∧ t.pending = s.pending
        ∧ t.chip.hg.fenced = true
        ∧ (∀ v ∈ t.chip.rt.engs, v.2.inEpisode = false))
  ∧ (∀ (s : State) (m : Master),
      s.chip.opens m 0x1D = true →
      (m = .firmware ∨ s.chip.hg.fenced = false) →
      ∃ t, exec (.unfence m) s = .next t ∧ t.pending = s.pending
        ∧ t.chip.hg = s.chip.hg
        ∧ t.chip.rt = s.chip.rt)

/-- Solo replay of the suspects. SOLO with suspects, a stopped thread, no fence and no escalation takes the suspects as its list and turns to the oldest: through the prologue where there is one, else to the fire; otherwise it is refused and changes nothing of the replay. SOLO_FIRE in its stage arms the suspect's line for the present time with its context and waits. SOLO_TMO gives the suspect the result hung, in the replay's list and in the shown one where no capture has built that afresh, and counts a hang. SOLO_ABORT ends a replay with its thread halted, and is ignored without one. -/
def Obligations.SoloReplay : Prop :=
  (∀ (s : State) (m : Master),
      s.chip.opens m 0x1D = true →
      s.chip.hg.suspects ≠ [] →
      (s.chip.th s.chip.soloThread).mode.stopped = true →
      s.chip.hg.fenced = false →
      s.chip.escalating = false →
      ∃ t, exec (.solo m) s = .next t ∧ t.pending = s.pending
        ∧ t.chip.hg = { s.chip.hg with replay := s.chip.hg.suspects, replayShown := true, soloIdx := 0, soloDone := false, hangs := 0, solo := (if Word.bit (s.chip.reg Reg.HG_SOLOCFG) 31 then .prologue else .fire) }
        ∧ (t.chip.th s.chip.soloThread).solo = true
        ∧ (t.chip.th s.chip.soloThread).mode = (if Word.bit (s.chip.reg Reg.HG_SOLOCFG) 31 then .run else .solo))
  ∧ (∀ (s : State) (m : Master),
      s.chip.opens m 0x1D = true →
      (s.chip.hg.suspects = [] ∨ (s.chip.th s.chip.soloThread).mode.stopped = false ∨ s.chip.hg.fenced = true ∨ s.chip.escalating = true) →
      ∃ t, exec (.solo m) s = .next t ∧ t.pending = s.pending
        ∧ t.chip.hg = s.chip.hg
        ∧ t.chip.sq = s.chip.sq)
  ∧ (∀ (s : State) (m : Master),
      s.chip.opens m 0x1D = true →
      s.chip.hg.solo ≠ .off →
      (s.chip.th s.chip.soloThread).mode ≠ .idle →
      ∃ t, exec (.soloAbort m) s = .next t ∧ t.pending = s.pending
        ∧ t.chip.hg = { s.chip.hg with solo := .off, soloDone := true }
        ∧ (t.chip.th s.chip.soloThread).mode = .halted
        ∧ (t.chip.th s.chip.soloThread).solo = false)
  ∧ (∀ (s : State) (m : Master),
      s.chip.opens m 0x1D = true →
      s.chip.hg.solo = .off →
      ∃ t, exec (.soloAbort m) s = .next t ∧ t.pending = s.pending
        ∧ t.chip.hg = s.chip.hg
        ∧ t.chip.sq = s.chip.sq)
  ∧ (∀ (s : State) (u : Suspect) (n : Nat),
      s.chip.id.hub = false →
      s.chip.inReset = false →
      s.chip.hg.solo = .fire →
      s.chip.soloSuspect = some u →
      (s.chip.th s.chip.soloThread).mode = .solo →
      u.line = some n →
      (s.chip.line n).armed = none →
      s.chip.trigBound n s.chip.now = none →
      ∃ t, exec (.soloFire) s = .next t ∧ t.pending = s.pending
        ∧ t.chip.hg = { s.chip.hg with solo := .wait }
        ∧ (t.chip.line n).armed = some { tf := s.chip.now, thread := s.chip.soloThread, course := 0, grp := 0, ctx := u.ctx, moment := none, calOk := false, withheld := false, inStop := false, solo := true }
        ∧ t.chip.sq = s.chip.sq)
  ∧ (∀ (s : State) (u : Suspect),
      s.chip.id.hub = false →
      s.chip.inReset = false →
      s.chip.hg.solo = .wait →
      s.chip.soloSuspect = some u →
      ∃ t, exec (.soloTmo) s = .next t ∧ t.pending = s.pending
        ∧ t.chip.hg.hangs = s.chip.hg.hangs + 1
        ∧ (t.chip.hg.replay[s.chip.hg.replay.length - 1 - s.chip.hg.soloIdx]?).map (fun v => v.res) = some 2
        ∧ t.chip.hg.replay.length = s.chip.hg.replay.length
        ∧ t.chip.hg.suspects = (if s.chip.hg.replayShown then withRes s.chip.hg.suspects s.chip.hg.soloIdx 2 else s.chip.hg.suspects))
  ∧ (∀ (s : State) ,
      s.chip.id.hub = false →
      s.chip.inReset = false →
      s.chip.hg.solo ≠ .wait →
      ∃ t, exec (.soloTmo) s = .next t ∧ t.pending = s.pending
        ∧ t.chip.hg = s.chip.hg
        ∧ t.chip.cp = s.chip.cp)

/-- Records, uploads, the restore and the severity query. RECORD_WRITE gives the head of the writer queue its eight words in the slot of its number, and the number moves on by one; with an unwritten slot, no host mirror and nothing lost the queue is the rest, and with an empty queue nothing of the recorder changes. The first restore of the host or of firmware adds the restored time and takes the next power cycle; a later one changes neither. A management hub queues an upload, another hub takes none; reading EV_UQ0 takes the oldest. A severity query keeps the code asked for. -/
def Obligations.EventRecorder : Prop :=
  (∀ (s : State) (r : RawRec) (l : List RawRec),
      s.chip.ev.queue = r :: l →
      ∃ t, exec (.recordWrite) s = .next t ∧ t.pending = s.pending
        ∧ SMap.find t.chip.ev.ring (s.chip.ev.wrSeq % 4096) [] = s.chip.recordWords r s.chip.ev.wrSeq
        ∧ t.chip.ev.wrSeq = (s.chip.ev.wrSeq + 1) % 2 ^ 32
        ∧ t.chip.tk = s.chip.tk
        ∧ (∀ j, j ≠ s.chip.ev.wrSeq % 4096 → SMap.find t.chip.ev.ring j [] = SMap.find s.chip.ev.ring j []))
  ∧ (∀ (s : State) (r : RawRec) (l : List RawRec),
      s.chip.ev.queue = r :: l →
      SMap.has s.chip.ev.ring (s.chip.ev.wrSeq % 4096) = false →
      Word.bit (s.chip.reg Reg.EV_HMCFG) 31 = false →
      s.chip.ev.lost = 0 →
      ∃ t, exec (.recordWrite) s = .next t ∧ t.pending = s.pending
        ∧ t.chip.ev.queue = l
        ∧ t.chip.regs = s.chip.regs)
  ∧ (∀ (s : State) ,
      s.chip.ev.queue = [] →
      ∃ t, exec (.recordWrite) s = .next t ∧ t.pending = s.pending
        ∧ t.chip.ev = s.chip.ev
        ∧ t.chip.regs = s.chip.regs)
  ∧ (∀ (s : State) (m : Master) (w : Word),
      s.chip.opens m 0x1F = true →
      (m = .host ∨ m = .firmware) →
      s.chip.ev.restored = false →
      ∃ t, exec (.restore m w) s = .next t ∧ t.pending = s.pending
        ∧ t.chip.ev.restored = true
        ∧ t.chip.ev.optOff = s.chip.ev.optOff + (s.chip.regOf m Reg.EV_RSTOPT).toNat
        ∧ t.chip.ev.pcyc = (Word.field w 0 24 + 1) % 2 ^ 24
        ∧ t.chip.ev.wrSeq = s.chip.ev.wrSeq)
  ∧ (∀ (s : State) (m : Master) (w : Word),
      s.chip.opens m 0x1F = true →
      ((m ≠ .host ∧ m ≠ .firmware) ∨ s.chip.ev.restored = true) →
      ∃ t, exec (.restore m w) s = .next t ∧ t.pending = s.pending
        ∧ t.chip.ev.restored = s.chip.ev.restored
        ∧ t.chip.ev.optOff = s.chip.ev.optOff
        ∧ t.chip.ev.pcyc = s.chip.ev.pcyc)
  ∧ (∀ (s : State) (p : Port) (x : Cell),
      s.chip.id.hub = true →
      s.chip.inReset = false →
      s.chip.headM p.val 0x43 = some x →
      Word.bit (s.chip.reg Reg.TR_CFG) 22 = true →
      s.chip.ev.uploads.length < 64 →
      ∃ t, exec (.evupReceive p) s = .next t ∧ t.pending = s.pending
        ∧ t.chip.ev.uploads.map (fun u => u.1) = s.chip.ev.uploads.map (fun u => u.1) ++ [Word.field (x.pay 10) 0 24]
        ∧ t.chip.ev.uploads.dropLast = s.chip.ev.uploads
        ∧ (t.chip.port p.val).q.rxM = (s.chip.port p.val).q.rxM.drop 1)
  ∧ (∀ (s : State) (p : Port) (x : Cell),
      s.chip.id.hub = true →
      s.chip.inReset = false →
      s.chip.headM p.val 0x43 = some x →
      Word.bit (s.chip.reg Reg.TR_CFG) 22 = false →
      ∃ t, exec (.evupReceive p) s = .next t ∧ t.pending = s.pending
        ∧ t.chip.ev = s.chip.ev
        ∧ (t.chip.port p.val).q.rxM = (s.chip.port p.val).q.rxM.drop 1)
  ∧ (∀ (s : State) (m : Master),
      s.chip.opens m 0x1F = true →
      s.chip.id.hub = true →
      ∃ t, exec (.uploadPop m) s = .next t ∧ t.pending = s.pending
        ∧ t.chip.ev = { s.chip.ev with uploads := s.chip.ev.uploads.drop 1 }
        ∧ t.chip.regs = s.chip.regs)
  ∧ (∀ (s : State) (m : Master) (w : Word),
      s.chip.opens m 0x1F = true →
      ∃ t, exec (.severityQuery m w) s = .next t ∧ t.pending = s.pending
        ∧ Word.field (t.chip.reg Reg.EV_SEVQ) 0 16 = Word.field w 0 16
        ∧ t.chip.ev = s.chip.ev
        ∧ t.chip.mn = s.chip.mn)

/-- Counters, snapshots, pin counters and histogram units. Binding a counter takes its event, instance and match bit and zeroes it; CLR zeroes the selected counter and CLRALL every one. FREEZE follows its bit and changes no count. A snapshot copies every counter and pin counter at the present time under the next number; an armed one is taken when it falls due while time is valid, withheld while it is not, and waits before. A pin counter takes a source and mode that the role has and is zeroed, and keeps its own for others; its clear zeroes it. A write to a unit's configuration, or CLEAR, empties the unit; RESTART lets it run on with its bins. -/
def Obligations.CountersAndHistograms : Prop :=
  (∀ (s : State) (m : Master) (w : Word),
      s.chip.opens m 0x20 = true →
      ∃ t, exec (.counterBind m w) s = .next t ∧ t.pending = s.pending
        ∧ Word.field (t.chip.ccfg (Word.field (s.chip.regOf m Reg.MN_CSEL) 0 9)) 16 12 = Word.field w 16 12
        ∧ Word.field (t.chip.ccfg (Word.field (s.chip.regOf m Reg.MN_CSEL) 0 9)) 0 12 = Word.field w 0 12
        ∧ Word.bit (t.chip.ccfg (Word.field (s.chip.regOf m Reg.MN_CSEL) 0 9)) 15 = Word.bit w 15
        ∧ SMap.find t.chip.mn.counts (Word.field (s.chip.regOf m Reg.MN_CSEL) 0 9) 0 = 0
        ∧ (∀ j, j ≠ (Word.field (s.chip.regOf m Reg.MN_CSEL) 0 9) → SMap.find t.chip.mn.counts j 0 = SMap.find s.chip.mn.counts j 0))
  ∧ (∀ (s : State) (m : Master),
      s.chip.opens m 0x20 = true →
      ∃ t, exec (.clr m) s = .next t ∧ t.pending = s.pending
        ∧ SMap.find t.chip.mn.counts (Word.field (s.chip.regOf m Reg.MN_CSEL) 0 9) 0 = 0
        ∧ (∀ j, j ≠ (Word.field (s.chip.regOf m Reg.MN_CSEL) 0 9) → SMap.find t.chip.mn.counts j 0 = SMap.find s.chip.mn.counts j 0)
        ∧ t.chip.mn.snap = s.chip.mn.snap
        ∧ t.chip.regs = s.chip.regs)
  ∧ (∀ (s : State) (m : Master),
      s.chip.opens m 0x20 = true →
      ∃ t, exec (.clrall m) s = .next t ∧ t.pending = s.pending
        ∧ t.chip.mn = { s.chip.mn with counts := [] }
        ∧ t.chip.regs = s.chip.regs)
  ∧ (∀ (s : State) (m : Master) (w : Word),
      s.chip.opens m 0x20 = true →
      ∃ t, exec (.freeze m w) s = .next t ∧ t.pending = s.pending
        ∧ t.chip.frozen = Word.bit w 0
        ∧ t.chip.mn = s.chip.mn)
  ∧ (∀ (s : State) (m : Master),
      s.chip.opens m 0x20 = true →
      ∃ t, exec (.snapNow m) s = .next t ∧ t.pending = s.pending
        ∧ t.chip.mn.snap = s.chip.mn.counts
        ∧ t.chip.mn.psnap = s.chip.mn.pins
        ∧ t.chip.mn.snapSeq = (s.chip.mn.snapSeq + 1) % 2 ^ 32
        ∧ t.chip.mn.snapAt = s.chip.cycleTime)
  ∧ (∀ (s : State) (m : Master),
      s.chip.opens m 0x20 = true →
      ∃ t, exec (.snapArm m) s = .next t ∧ t.pending = s.pending
        ∧ t.chip.mn.armed = some (timeOf (s.chip.reg Reg.MN_SNAPT_FRAC) (s.chip.reg Reg.MN_SNAPT_NSLO) (s.chip.reg Reg.MN_SNAPT_NSHI))
        ∧ t.chip.mn.snap = s.chip.mn.snap
        ∧ t.chip.mn.snapSeq = s.chip.mn.snapSeq)
  ∧ (∀ (s : State) (m : Master),
      s.chip.opens m 0x20 = true →
      ∃ t, exec (.snapCancel m) s = .next t ∧ t.pending = s.pending
        ∧ t.chip.mn = { s.chip.mn with armed := none }
        ∧ t.chip.regs = s.chip.regs)
  ∧ (∀ (s : State) (k : Nat),
      s.chip.inReset = false →
      s.chip.mn.armed = some k →
      k ≤ s.chip.cycleTime →
      s.chip.tk.valid = true →
      ∃ t, exec (.snapshotDue) s = .next t ∧ t.pending = s.pending
        ∧ t.chip.mn.snap = s.chip.mn.counts
        ∧ t.chip.mn.snapAt = s.chip.cycleTime
        ∧ t.chip.mn.snapSeq = (s.chip.mn.snapSeq + 1) % 2 ^ 32
        ∧ t.chip.mn.armed = none)
  ∧ (∀ (s : State) (k : Nat),
      s.chip.inReset = false →
      s.chip.mn.armed = some k →
      k ≤ s.chip.cycleTime →
      s.chip.tk.valid = false →
      ∃ t, exec (.snapshotDue) s = .next t ∧ t.pending = s.pending
        ∧ t.chip.mn.snap = s.chip.mn.snap
        ∧ t.chip.mn.snapSeq = s.chip.mn.snapSeq
        ∧ t.chip.mn.armed = none)
  ∧ (∀ (s : State) (k : Nat),
      s.chip.inReset = false →
      s.chip.mn.armed = some k →
      s.chip.cycleTime < k →
      ∃ t, exec (.snapshotDue) s = .next t ∧ t.pending = s.pending
        ∧ t.chip.mn = s.chip.mn
        ∧ t.chip.regs = s.chip.regs)
  ∧ (∀ (s : State) (m : Master) (w : Word),
      s.chip.opens m 0x20 = true →
      pinCfgGood s.chip.id.hub w = true →
      ∃ t, exec (.pinBind m w) s = .next t ∧ t.pending = s.pending
        ∧ Word.field (t.chip.reg Reg.MN_PCFG (Word.field (s.chip.regOf m Reg.MN_PSEL) 0 4)) 0 16 = Word.field w 0 16
        ∧ Word.field (t.chip.reg Reg.MN_PCFG (Word.field (s.chip.regOf m Reg.MN_PSEL) 0 4)) 28 3 = Word.field w 28 3
        ∧ SMap.find t.chip.mn.pins (Word.field (s.chip.regOf m Reg.MN_PSEL) 0 4) 0 = 0
        ∧ t.chip.mn.counts = s.chip.mn.counts)
  ∧ (∀ (s : State) (m : Master) (w : Word),
      s.chip.opens m 0x20 = true →
      pinCfgGood s.chip.id.hub w = false →
      ∃ t, exec (.pinBind m w) s = .next t ∧ t.pending = s.pending
        ∧ t.chip.reg Reg.MN_PCFG (Word.field (s.chip.regOf m Reg.MN_PSEL) 0 4) = s.chip.reg Reg.MN_PCFG (Word.field (s.chip.regOf m Reg.MN_PSEL) 0 4))
  ∧ (∀ (s : State) (m : Master),
      s.chip.opens m 0x20 = true →
      ∃ t, exec (.pinClr m) s = .next t ∧ t.pending = s.pending
        ∧ SMap.find t.chip.mn.pins (Word.field (s.chip.regOf m Reg.MN_PSEL) 0 4) 0 = 0
        ∧ (∀ j, j ≠ (Word.field (s.chip.regOf m Reg.MN_PSEL) 0 4) → SMap.find t.chip.mn.pins j 0 = SMap.find s.chip.mn.pins j 0)
        ∧ t.chip.mn.counts = s.chip.mn.counts)
  ∧ (∀ (s : State) (m : Master) (k : HsReg) (w : Word),
      s.chip.opens m 0x21 = true →
      ∃ t, exec (.hsConfig m k w) s = .next t ∧ t.pending = s.pending
        ∧ (t.chip.hsUnit (s.chip.chanOf m 0x21)).bins = []
        ∧ (t.chip.hsUnit (s.chip.chanOf m 0x21)).nsamp = 0
        ∧ (t.chip.hsUnit (s.chip.chanOf m 0x21)).stopped = (s.chip.hsUnit (s.chip.chanOf m 0x21)).stopped
        ∧ (∀ j, j ≠ (s.chip.chanOf m 0x21) → (t.chip.hsUnit j).bins = (s.chip.hsUnit j).bins))
  ∧ (∀ (s : State) (m : Master),
      s.chip.opens m 0x21 = true →
      ∃ t, exec (.hsClear m) s = .next t ∧ t.pending = s.pending
        ∧ (t.chip.hsUnit (s.chip.chanOf m 0x21)).bins = []
        ∧ (t.chip.hsUnit (s.chip.chanOf m 0x21)).nsamp = 0
        ∧ (t.chip.hsUnit (s.chip.chanOf m 0x21)).stopped = (s.chip.hsUnit (s.chip.chanOf m 0x21)).stopped
        ∧ t.chip.regs = s.chip.regs)
  ∧ (∀ (s : State) (m : Master),
      s.chip.opens m 0x21 = true →
      ∃ t, exec (.hsRestart m) s = .next t ∧ t.pending = s.pending
        ∧ (t.chip.hsUnit (s.chip.chanOf m 0x21)).stopped = false
        ∧ (t.chip.hsUnit (s.chip.chanOf m 0x21)).bins = (s.chip.hsUnit (s.chip.chanOf m 0x21)).bins
        ∧ (t.chip.hsUnit (s.chip.chanOf m 0x21)).nsamp = (s.chip.hsUnit (s.chip.chanOf m 0x21)).nsamp
        ∧ t.chip.regs = s.chip.regs)

/-- Main reset, its release, the supplies and the temperature. MAIN_RESET clears the main domain and keeps the timekeeper, the program store and the NOR; its release, where nothing else holds it, starts chain calibration and the boot of the controller. VDD_AON that rises puts every page at reset and holds main reset; the fall of VDD_LYS or of VDDA_TCLK asserts main reset with its cause, the latter with TCLK stopped and time not valid; VDDIO_T alone asserts no reset. An out-of-limits VDDA_TCLK is flagged. A temperature sample is kept, and its alarm stays until it is 5 degrees under the limit. LANEGO releases the lanes. An error that answers a beat which the port has issued is counted and no beat is put out again; of another beat it does nothing. That of any two causes which meet the lower code stands (R375 says it of LYS_RST_N with a host reset), that main reset is released by MAIN_RESET_RELEASE alone, and that a VDD_LYS loss is recorded late are the model's choices (log entry 19). -/
def Obligations.MainResetAndSupplies : Prop :=
  (∀ (s : State) ,
      s.chip.inReset = false →
      ∃ t, exec (.mainReset) s = .next t ∧ t.pending = s.pending
        ∧ t.chip.inReset = true
        ∧ t.chip.pw.rstLow = true
        ∧ t.chip.pw.rstCause = 2
        ∧ t.chip.tk.frc = s.chip.tk.frc
        ∧ t.chip.tk.tAnchor = s.chip.tk.tAnchor
        ∧ t.chip.sq.store = s.chip.sq.store
        ∧ t.chip.fw.nor = s.chip.fw.nor
        ∧ t.chip.fw.running = false
        ∧ t.chip.sg = SgState.reset
        ∧ t.chip.gt = GtState.reset
        ∧ t.chip.hg = HgState.reset
        ∧ t.chip.cp = CpState.reset
        ∧ t.chip.po = PoState.reset
        ∧ t.chip.ts = TsState.reset
        ∧ t.chip.reg Reg.GD_STEPLIM = s.chip.reg Reg.GD_STEPLIM
        ∧ t.chip.reg Reg.RT_CFG = Reg.RT_CFG.resetAt s.chip.id.hub 0)
  ∧ (∀ (s : State) ,
      s.chip.inReset = true →
      ∃ t, exec (.mainReset) s = .next t ∧ t.pending = s.pending
        ∧ t.chip.inReset = true
        ∧ t.chip.pw.rstCause = min s.chip.pw.rstCause 2
        ∧ t.chip.regs = s.chip.regs
        ∧ t.chip.tk = s.chip.tk)
  ∧ (∀ (s : State) ,
      s.chip.inReset = true →
      s.chip.resetHeld = false →
      ∃ t, exec (.mainResetRelease) s = .next t ∧ t.pending = s.pending
        ∧ t.chip.inReset = false
        ∧ t.chip.pw.rstLow = false
        ∧ t.chip.rt.calBusy = (s.chip.rt.calBusy || !s.chip.id.hub)
        ∧ t.chip.fw.phase = (if s.chip.fw.held || s.chip.fw.hostHeld then .off else .want)
        ∧ t.chip.tk = { s.chip.tk with lostUncounted := false })
  ∧ (∀ (s : State) ,
      s.chip.resetHeld = true →
      ∃ t, exec (.mainResetRelease) s = .next t ∧ t.pending = s.pending
        ∧ t.chip.inReset = s.chip.inReset
        ∧ t.chip.pw.rstLow = false
        ∧ t.chip.fw = s.chip.fw
        ∧ t.chip.regs = s.chip.regs)
  ∧ (∀ (s : State) (slow : Bool),
      s.chip.pw.aon = false →
      ∃ t, exec (.railGood .vddAon slow) s = .next t ∧ t.pending = s.pending
        ∧ t.chip.inReset = true
        ∧ t.chip.pw.aon = true
        ∧ t.chip.tk.frc = 0
        ∧ t.chip.tk.tAnchor = 0
        ∧ t.chip.tk.valid = false
        ∧ t.chip.gr = GrState.reset
        ∧ t.chip.sq.store = s.chip.sq.store
        ∧ t.chip.id.hub = s.chip.id.strapHub
        ∧ t.chip.ev = EvState.reset)
  ∧ (∀ (s : State) (slow : Bool),
      s.chip.pw.aon = true →
      s.chip.pw.tclk = false →
      ∃ t, exec (.railGood .vddaTclk slow) s = .next t ∧ t.pending = s.pending
        ∧ t.chip.pw.tclk = true
        ∧ t.chip.tk.tclk = true
        ∧ t.chip.inReset = s.chip.inReset
        ∧ t.chip.tk.frc = s.chip.tk.frc)
  ∧ (∀ (s : State) (slow : Bool),
      s.chip.pw.lys = false →
      ∃ t, exec (.railGood .vddLys slow) s = .next t ∧ t.pending = s.pending
        ∧ t.chip.pw.lys = true
        ∧ t.chip.pw.io = s.chip.pw.io
        ∧ t.chip.inReset = s.chip.inReset
        ∧ t.chip.tk = s.chip.tk)
  ∧ (∀ (s : State) (slow : Bool),
      s.chip.pw.io = false →
      ∃ t, exec (.railGood .vddioT slow) s = .next t ∧ t.pending = s.pending
        ∧ t.chip.pw.io = true
        ∧ t.chip.pw.lys = s.chip.pw.lys
        ∧ t.chip.inReset = s.chip.inReset
        ∧ t.chip.tk = s.chip.tk)
  ∧ (∀ (s : State) ,
      s.chip.inReset = false →
      s.chip.pw.aon = true →
      s.chip.pw.lys = true →
      ∃ t, exec (.railFail .vddLys) s = .next t ∧ t.pending = s.pending
        ∧ t.chip.inReset = true
        ∧ t.chip.pw.lys = false
        ∧ t.chip.pw.rstCause = 4
        ∧ t.chip.pw.lysDue = true
        ∧ t.chip.tk.frc = s.chip.tk.frc)
  ∧ (∀ (s : State) ,
      s.chip.inReset = false →
      s.chip.pw.aon = true →
      s.chip.pw.tclk = true →
      s.chip.tk.tclk = true →
      ∃ t, exec (.railFail .vddaTclk) s = .next t ∧ t.pending = s.pending
        ∧ t.chip.inReset = true
        ∧ t.chip.pw.tclk = false
        ∧ t.chip.pw.rstCause = 5
        ∧ t.chip.tk.tclk = false
        ∧ t.chip.tk.valid = false
        ∧ t.chip.tk.frc = s.chip.tk.frc)
  ∧ (∀ (s : State) ,
      s.chip.pw.io = true →
      ∃ t, exec (.railFail .vddioT) s = .next t ∧ t.pending = s.pending
        ∧ t.chip.pw = { s.chip.pw with io := false }
        ∧ t.chip.inReset = s.chip.inReset
        ∧ t.chip.tk = s.chip.tk
        ∧ t.chip.gr = s.chip.gr)
  ∧ (∀ (s : State) ,
      s.chip.pw.aon = true →
      ∃ t, exec (.railFail .vddAon) s = .next t ∧ t.pending = s.pending
        ∧ t.chip.pw.aon = false
        ∧ t.chip.inReset = true
        ∧ t.chip.tk.tclk = false
        ∧ t.chip.regs = [])
  ∧ (∀ (s : State) ,
      s.chip.pw.aon = true →
      s.chip.pw.tclk = true →
      ∃ t, exec (.tclkRail) s = .next t ∧ t.pending = s.pending
        ∧ Word.bit (t.chip.reg (histRow 0x24)) 3 = true
        ∧ t.chip.tk = s.chip.tk
        ∧ t.chip.pw = s.chip.pw)
  ∧ (∀ (s : State) (v : BitVec 16),
      s.chip.pw.aon = true →
      ∃ t, exec (.tempSample v) s = .next t ∧ t.pending = s.pending
        ∧ t.chip.pw = { s.chip.pw with temp := v.setWidth 32, tempHot := decide ((signedOf 16 (Word.field (s.chip.reg Reg.PW_TEMPLIM) 0 16)) < v.toInt), tempSent := (decide ((signedOf 16 (Word.field (s.chip.reg Reg.PW_TEMPLIM) 0 16)) < v.toInt) && !s.chip.pw.tempHot) || (s.chip.pw.tempSent && decide ((signedOf 16 (Word.field (s.chip.reg Reg.PW_TEMPLIM) 0 16)) - 40 < v.toInt)) }
        ∧ t.chip.tk = s.chip.tk)
  ∧ (∀ (s : State) (m : Master),
      s.chip.opens m 0x24 = true →
      ∃ t, exec (.lanego m) s = .next t ∧ t.pending = s.pending
        ∧ t.chip.pw = { s.chip.pw with lanesReleased := true }
        ∧ t.chip.ports = s.chip.ports
        ∧ t.chip.regs = s.chip.regs)
  ∧ (∀ (s : State) (a : BitVec 64),
      s.chip.inReset = false →
      s.chip.mirrorBeat a.toNat = true →
      ∃ t, exec (.mwErr a) s = .next t ∧ t.pending = s.pending
        ∧ (t.chip.reg Reg.PW_MWERR).toNat = satNat 32 ((s.chip.reg Reg.PW_MWERR).toNat + 1)
        ∧ t.chip.ev.ring = s.chip.ev.ring
        ∧ t.chip.ev.mwOps = s.chip.ev.mwOps
        ∧ t.chip.cp = { s.chip.cp with mwErr := true }
        ∧ Word.bit (t.chip.reg (histRow 0x24)) 6 = true
        ∧ (s.chip.cp.mwErr = true → s.chip.ev.queue.length < 64 → t.chip.ev.queue = s.chip.ev.queue)
        ∧ (s.chip.cp.mwErr = false → s.chip.ev.queue.length < 64 → (t.chip.ev.queue.drop s.chip.ev.queue.length).map (fun q => (q.code, q.p2)) = [(0x2407, a.setWidth 32)]))
  ∧ (∀ (s : State) (a : BitVec 64) (o : MwOp),
      s.chip.inReset = false →
      s.chip.mirrorBeat a.toNat = false →
      s.chip.ev.mwOps.find? (fun o : MwOp => o.beats.any fun v => v.1 == a.toNat) = some o →
      ∃ t, exec (.mwErr a) s = .next t ∧ t.pending = s.pending
        ∧ (t.chip.reg Reg.PW_MWERR).toNat = satNat 32 ((s.chip.reg Reg.PW_MWERR).toNat + 1)
        ∧ t.chip.ev.ring = s.chip.ev.ring
        ∧ t.chip.ev.mwOps = MwOp.erred (fun o : MwOp => o.beats.any fun v => v.1 == a.toNat) s.chip.ev.mwOps
        ∧ t.chip.cp = s.chip.cp
        ∧ Word.bit (t.chip.reg (histRow 0x24)) 6 = true
        ∧ (o.err = true → s.chip.ev.queue.length < 64 → t.chip.ev.queue = s.chip.ev.queue)
        ∧ (o.err = false → s.chip.ev.queue.length < 64 → (t.chip.ev.queue.drop s.chip.ev.queue.length).map (fun q => (q.code, q.p2)) = [(0x2407, a.setWidth 32)]))
  ∧ (∀ (s : State) (a : BitVec 64),
      s.chip.inReset = false →
      s.chip.mirrorBeat a.toNat = false →
      s.chip.ev.mwOps.any (fun o : MwOp => o.beats.any fun v => v.1 == a.toNat) = false →
      ∃ t, exec (.mwErr a) s = .next t ∧ t.pending = s.pending
        ∧ t.chip.regs = s.chip.regs
        ∧ t.chip.ev = s.chip.ev)

/-- What the host's own reset does to a die and to a hub. While HOST_RST_N falls, with main reset not bound to it, the part stays out of reset, notes the time, counts the fall, withdraws every wait of a core slot and empties the request queues of a die; at a hub it only counts. Where main reset is bound to it, main reset is asserted with cause 3. At its rise the heartbeat timers of the engines go on from where they stood, and no region stands for the host reset any longer. -/
def Obligations.HostReset : Prop :=
  (∀ (s : State) ,
      s.chip.inReset = false →
      s.chip.id.hub = false →
      s.chip.pw.aon = true →
      s.chip.pw.hostLow = false →
      Word.bit (s.chip.reg Reg.PW_RSTCFG) 0 = false →
      ∃ t, exec (.hostReset) s = .next t ∧ t.pending = s.pending
        ∧ t.chip.pw = { s.chip.pw with hostLow := true, hostAt := s.chip.now }
        ∧ t.chip.inReset = false
        ∧ t.chip.sg.rq = []
        ∧ t.chip.sg.busy = []
        ∧ (∀ v ∈ t.chip.sg.waits, 1024 ≤ v.1)
        ∧ t.chip.sg.sems = s.chip.sg.sems
        ∧ (t.chip.reg Reg.PW_HRSTCNT).toNat = satNat 32 ((s.chip.reg Reg.PW_HRSTCNT).toNat + 1))
  ∧ (∀ (s : State) ,
      s.chip.inReset = false →
      s.chip.id.hub = true →
      s.chip.pw.aon = true →
      s.chip.pw.hostLow = false →
      Word.bit (s.chip.reg Reg.PW_RSTCFG) 0 = false →
      ∃ t, exec (.hostReset) s = .next t ∧ t.pending = s.pending
        ∧ t.chip.pw = { s.chip.pw with hostLow := true, hostAt := s.chip.now }
        ∧ t.chip.inReset = false
        ∧ t.chip.gr = s.chip.gr
        ∧ (t.chip.reg Reg.PW_HRSTCNT).toNat = satNat 32 ((s.chip.reg Reg.PW_HRSTCNT).toNat + 1))
  ∧ (∀ (s : State) ,
      s.chip.inReset = false →
      s.chip.pw.aon = true →
      s.chip.pw.hostLow = false →
      Word.bit (s.chip.reg Reg.PW_RSTCFG) 0 = true →
      ∃ t, exec (.hostReset) s = .next t ∧ t.pending = s.pending
        ∧ t.chip.inReset = true
        ∧ t.chip.pw.hostLow = true
        ∧ t.chip.pw.rstCause = 3)
  ∧ (∀ (s : State) (e : Engine),
      s.chip.inReset = false →
      s.chip.id.hub = false →
      s.chip.pw.hostLow = true →
      SMap.has s.chip.rt.engs e.val = true →
      ∃ t, exec (.hostResetRelease) s = .next t ∧ t.pending = s.pending
        ∧ t.chip.pw = { s.chip.pw with hostLow := false }
        ∧ (t.chip.eng e.val).hbAt = (s.chip.eng e.val).hbAt + (s.chip.now - s.chip.pw.hostAt)
        ∧ (t.chip.eng e.val).log = (s.chip.eng e.val).log
        ∧ (∀ j, (t.chip.tap j).hostStop = false)
        ∧ (∀ j, (t.chip.tap j).running = (s.chip.tap j).running))
  ∧ (∀ (s : State) ,
      s.chip.pw.hostLow = false →
      ∃ t, exec (.hostResetRelease) s = .next t ∧ t.pending = s.pending
        ∧ t.chip.pw = s.chip.pw
        ∧ t.chip.rt = s.chip.rt
        ∧ t.chip.regs = s.chip.regs)

/-- GLB_ROLE is the role the strap gave at AON power-on, and no command changes it. Every master reads GLB_ROLE as the role, 1 for hub and 0 for die. Every command that answers a next state leaves the role as it was, whoever sends it, but for the rise of VDD_AON; so does an idle step. AON power-on samples the strap. -/
def Obligations.RoleIsSampled : Prop :=
  (∀ (s : State) (m : Master),
      (s.chip.masterRead m 0x00040).1 = (if s.chip.id.hub then 1 else 0))
  ∧ (∀ (s t : State) (i : Instr), exec i s = .next t → (∀ b, i ≠ .railGood .vddAon b) →
      t.chip.id.hub = s.chip.id.hub)
  ∧ (∀ s t : State, s.pending = [] → step s = .next t → t.chip.id.hub = s.chip.id.hub)
  ∧ (∀ (s : State) (b : Bool), s.chip.pw.aon = false →
      ∃ t, exec (.railGood .vddAon b) s = .next t ∧ t.pending = s.pending
        ∧ t.chip.id.hub = s.chip.id.strapHub)

/-- Every step keeps the timekeeper in good order. In every state whose FRC is below 2^64, whose FRC_ANCHOR is the last tick at which FRC[9:0] was 0, and whose active and staged RATE are 64-bit values, a step that answers a next state (a command, or an idle tick) answers one in which the same holds: FRC - FRC_ANCHOR stays between 0 and 1,023. -/
def Obligations.TimekeeperKept : Prop :=
  ∀ s t : State, s.chip.tk.kept → step s = .next t →
    t.chip.tk.kept ∧ t.chip.tk.frcAnchor ≤ t.chip.tk.frc ∧ t.chip.tk.frc - t.chip.tk.frcAnchor ≤ 1023

/-- The machine right after reset. Right after reset no command waits, FRC, T_ANCHOR and FRC_ANCHOR are 0, RATE is 0x00A0000000000000, no RATE is staged and no step armed, VALID is 0 and UNTRACEABLE is 1, the servo is in FREERUN, every stored register of a die is at its reset value, and the timekeeper is in good order. That the part is a die is the model's choice (log entry 1), and where the tables give a register no reset value the value is the model's (log entry 37). -/
def Obligations.ResetState : Prop :=
  State.reset.pending = [] ∧ State.reset.chip.tk.kept
  ∧ State.reset.chip.tk.frc = 0 ∧ State.reset.chip.tk.tAnchor = 0 ∧ State.reset.chip.tk.frcAnchor = 0
  ∧ State.reset.chip.tk.rate = 0x00A0000000000000 ∧ State.reset.chip.tk.rateStage = none
  ∧ State.reset.chip.tk.step = none ∧ State.reset.chip.tk.valid = false ∧ State.reset.chip.tk.untraceable = true
  ∧ State.reset.chip.sv.mode = .freerun
  ∧ ∀ (r : RegRow) (idx i bank : Nat), State.reset.chip.reg r idx i bank = r.resetAt false idx

/-- A command completes exactly where the part has what it speaks of, and main reset holds the main domain. Every command answers a next state, with the queue as it was, where the part has the role, port, tap, engine or group entry it names; elsewhere it stops as notPresent. While main reset is asserted, a command of the main domain changes nothing but that the histogram units begin a new LCLK cycle. That a command of a unit which the part lacks stops as notPresent, and that each command has an LCLK cycle of its own, are the model's choices (log entries 10 and 6). -/
def Obligations.WhereCommandsComplete : Prop :=
  (∀ (s : State) (i : Instr), s.chip.fits i = true →
      ∃ t, exec i s = .next t ∧ t.pending = s.pending)
  ∧ (∀ (s : State) (i : Instr), s.chip.fits i = false → exec i s = .fault .notPresent)
  ∧ (∀ (s : State) (i : Instr), s.chip.fits i = true → aonCommand i = false → s.chip.inReset = true →
      exec i s = .next { s with chip := s.chip.fresh })

/-- A port is checked, trained, locked and brought UP. CAL and PORT_START put a released port into its loopback check, or into training where none is due; LOOPBACK_CHECK_DONE keeps the mean round trip of the CALIB cells that came back, judges it against the declared latencies within 6 units and lets an enabled port train (with none back LN_PMA_MEAS is what the command carries, since the rule leaves it open: log entry 15); PMA_READY moves a training port to LOCKING; CODEWORD_LOCK moves it to IDENT with the polarity found; an acceptable IDENT of a peer without a twin is kept, sets the lane's version and features and is acknowledged, and one of an unknown version is refused; the acknowledgement of its own IDENT, once the peer's has been taken, brings it UP with the credits the peer's buffers give. No other port changes its state. The rounding of the mean round trip to the nearest 1/64 tick is the model's choice (log entry 7). -/
def Obligations.PortBringUp : Prop :=
  (∀ (s : State) (m : Master),
      s.chip.opens m 0x08 = true →
      s.chip.locked 0x08 = false →
      s.chip.pw.lanesReleased = true →
      (s.chip.port (s.chip.chanOf m 0x08)).mode ≠ .cal →
      ∃ t, exec (.cal m) s = .next t ∧ t.pending = s.pending
        ∧ (t.chip.port (s.chip.chanOf m 0x08)).mode = .cal
        ∧ (t.chip.port (s.chip.chanOf m 0x08)).link = .reset
        ∧ (∀ q, q ≠ s.chip.chanOf m 0x08 → (t.chip.port q).mode = (s.chip.port q).mode))
  ∧ (∀ (s : State) (p : Port),
      s.chip.inReset = false →
      p.val < s.chip.nports →
      (s.chip.port p.val).mode = .down →
      s.chip.pw.lanesReleased = true →
      s.chip.portOn p.val = true →
      ∃ t, exec (.portStart p) s = .next t ∧ t.pending = s.pending
        ∧ (t.chip.port p.val).mode = (if (s.chip.port p.val).calDue then .cal else if (s.chip.port p.val).pmaRdy then .locking else .train)
        ∧ (∀ q, q ≠ p.val → (t.chip.port q).mode = (s.chip.port q).mode))
  ∧ (∀ (s : State) (p : Port) (m : BitVec 24),
      s.chip.inReset = false →
      p.val < s.chip.nports →
      (s.chip.port p.val).mode = .cal →
      (s.chip.port p.val).check.got ≠ 0 →
      ∃ t, exec (.loopbackCheckDone p m) s = .next t ∧ t.pending = s.pending
        ∧ (t.chip.port p.val).meas = ((divRound (s.chip.port p.val).check.sum ((s.chip.port p.val).check.got * unit64)).toNat % 2 ^ 24)
        ∧ (t.chip.port p.val).pmaLatOk = decide (((((((divRound (s.chip.port p.val).check.sum ((s.chip.port p.val).check.got * unit64)).toNat % 2 ^ 24) : Nat) : Int) - ((Word.field (s.chip.reg Reg.LN_PMA_LAT_TX p.val) 0 24 + Word.field (s.chip.reg Reg.LN_PMA_LAT_RX p.val) 0 24 + Word.field (s.chip.reg Reg.LN_PMA_LAT_LB p.val) 0 24 : Nat) : Int)) : Int).natAbs ≤ 6)
        ∧ (t.chip.port p.val).calDue = false
        ∧ (t.chip.port p.val).mode = (if s.chip.portOn p.val then (if (s.chip.port p.val).pmaRdy then .locking else .train) else .down)
        ∧ (∀ q, q ≠ p.val → (t.chip.port q).mode = (s.chip.port q).mode))
  ∧ (∀ (s : State) (p : Port) (m : BitVec 24),
      s.chip.inReset = false →
      p.val < s.chip.nports →
      (s.chip.port p.val).mode = .cal →
      (s.chip.port p.val).check.got = 0 →
      ∃ t, exec (.loopbackCheckDone p m) s = .next t ∧ t.pending = s.pending
        ∧ (t.chip.port p.val).meas = m.toNat
        ∧ (t.chip.port p.val).pmaLatOk = decide (((m.toNat : Int) - ((Word.field (s.chip.reg Reg.LN_PMA_LAT_TX p.val) 0 24 + Word.field (s.chip.reg Reg.LN_PMA_LAT_RX p.val) 0 24 + Word.field (s.chip.reg Reg.LN_PMA_LAT_LB p.val) 0 24 : Nat) : Int)).natAbs ≤ 6)
        ∧ (t.chip.port p.val).calDue = false
        ∧ (t.chip.port p.val).mode = (if s.chip.portOn p.val then (if (s.chip.port p.val).pmaRdy then .locking else .train) else .down))
  ∧ (∀ (s : State) (p : Port),
      s.chip.inReset = false →
      p.val < s.chip.nports →
      (s.chip.port p.val).mode = .train →
      ∃ t, exec (.pmaReady p) s = .next t ∧ t.pending = s.pending
        ∧ (t.chip.port p.val).mode = .locking
        ∧ (t.chip.port p.val).pmaRdy = true
        ∧ (∀ q, q ≠ p.val → (t.chip.port q).mode = (s.chip.port q).mode))
  ∧ (∀ (s : State) (p : Port),
      s.chip.inReset = false →
      p.val < s.chip.nports →
      (s.chip.port p.val).mode = .locking →
      (4 ≤ (s.chip.port p.val).code.good ∨ 4 ≤ (s.chip.port p.val).code.goodInv) →
      ∃ t, exec (.codewordLock p) s = .next t ∧ t.pending = s.pending
        ∧ (t.chip.port p.val).mode = .ident
        ∧ (t.chip.port p.val).cwlock = true
        ∧ (t.chip.port p.val).rxinv = !decide (4 ≤ (s.chip.port p.val).code.good)
        ∧ (∀ q, q ≠ p.val → (t.chip.port q).mode = (s.chip.port q).mode))
  ∧ (∀ (s : State) (p : Port) (x : Cell),
      s.chip.inReset = false →
      p.val < s.chip.nports →
      (s.chip.port p.val).mode = .ident →
      (s.chip.port p.val).gotIdent = true →
      s.chip.headL p.val 0x03 = some x →
      x.pay 2 = Word.part s.chip.id.uid 0 →
      ∃ t, exec (.identAckReceive p) s = .next t ∧ t.pending = s.pending
        ∧ (t.chip.port p.val).mode = .up
        ∧ (t.chip.port p.val).link.credB = (if (s.chip.port p.val).restricted || (s.chip.port p.val).peerCrown then 0 else Word.field ((s.chip.port p.val).peerWord 7) 16 8)
        ∧ (t.chip.port p.val).link.credS = (if (s.chip.port p.val).restricted || (s.chip.port p.val).peerCrown then 0 else Word.field ((s.chip.port p.val).peerWord 7) 8 8)
        ∧ (t.chip.port p.val).link.credM = (if (s.chip.port p.val).restricted || (s.chip.port p.val).peerCrown then 0 else Word.field ((s.chip.port p.val).peerWord 7) 0 8)
        ∧ (t.chip.port p.val).link.nextSeq = 0
        ∧ (∀ q, q ≠ p.val → (t.chip.port q).mode = (s.chip.port q).mode))
  ∧ (∀ (s : State) (p : Port) (x : Cell) (y : PortState),
      s.chip.inReset = false →
      p.val < s.chip.nports →
      (s.chip.port p.val).mode = .ident →
      s.chip.headL p.val 0x02 = some x →
      y = { s.chip.port p.val with peer := some (x.payload.take 6), gotIdent := true } →
      (s.chip.modPort p.val fun _ => y).wiring p.val = none →
      (s.chip.modPort p.val fun _ => y).twins p.val y = [] →
      (s.chip.port p.val).gotAck = false →
      ∃ t, exec (.identReceive p) s = .next t ∧ t.pending = s.pending
        ∧ (t.chip.port p.val).peer = some (x.payload.take 6)
        ∧ (t.chip.port p.val).gotIdent = true
        ∧ (t.chip.port p.val).mode = .ident
        ∧ (t.chip.port p.val).nver = min 2 y.peerVersion
        ∧ (t.chip.port p.val).featNeg = s.chip.reg Reg.LN_FEAT p.val &&& x.pay 6 &&& (if y.peerVersion < 2 then 0xFFFFFFF9 else 0xFFFFFFFF)
        ∧ (t.chip.port p.val).q.txL = (s.chip.port p.val).q.txL ++ [mkCell clsL 0x03 0 [x.pay 4]]
        ∧ (t.chip.port p.val).q.rxL = (s.chip.port p.val).q.rxL.drop 1
        ∧ (∀ q, q ≠ p.val → (t.chip.port q).mode = (s.chip.port q).mode))
  ∧ (∀ (s : State) (p : Port) (x : Cell),
      s.chip.inReset = false →
      p.val < s.chip.nports →
      (s.chip.port p.val).mode = .ident →
      s.chip.headL p.val 0x02 = some x →
      (({ s.chip.port p.val with peer := some (x.payload.take 6) } : PortState).peerVersion = 0 ∨ 3 < ({ s.chip.port p.val with peer := some (x.payload.take 6) } : PortState).peerVersion) →
      ∃ t, exec (.identReceive p) s = .next t ∧ t.pending = s.pending
        ∧ (t.chip.port p.val).mode = .refused
        ∧ (t.chip.port p.val).refRsn = 1
        ∧ (t.chip.port p.val).peer = some (x.payload.take 6)
        ∧ (∀ q, q ≠ p.val → (t.chip.port q).mode = (s.chip.port q).mode))

/-- What takes a lane down, and with which reason. FORCE_DOWN and PORT_DISABLE (5), PMA_READY_LOSS (1), LOCK_LOSS (2), LANE_RESET (7) and a REPLAY_TIMEOUT past REPLAY_MAX (3) put a port that was not DOWN into DOWN with that reason, its sequencing and credits at reset, and no other port changes its state. A write of a declared latency on an unlocked page takes PMA_LAT_OK away and leaves the state; FREQ_OK takes what the SerDes says, and without it TQUAL is 0. -/
def Obligations.LaneDown : Prop :=
  (∀ (s : State) (m : Master) (w : Word),
      s.chip.opens m 0x08 = true →
      s.chip.locked 0x08 = false →
      Word.bit w 7 = false →
      (s.chip.port (s.chip.chanOf m 0x08)).mode ≠ .down →
      ∃ t, exec (.forceDown m w) s = .next t ∧ t.pending = s.pending
        ∧ (t.chip.port (s.chip.chanOf m 0x08)).mode = .down
        ∧ (t.chip.port (s.chip.chanOf m 0x08)).downRsn = 5
        ∧ (t.chip.port (s.chip.chanOf m 0x08)).link = .reset
        ∧ (∀ q, q ≠ (s.chip.chanOf m 0x08) → (t.chip.port q).mode = (s.chip.port q).mode)
        ∧ Word.bit (t.chip.reg Reg.LN_PCTRL (s.chip.chanOf m 0x08)) 6 = true)
  ∧ (∀ (s : State) (m : Master) (w : Word),
      s.chip.opens m 0x08 = true →
      s.chip.locked 0x08 = false →
      Word.bit w 7 = false →
      (s.chip.port (s.chip.chanOf m 0x08)).mode ≠ .down →
      ∃ t, exec (.portDisable m w) s = .next t ∧ t.pending = s.pending
        ∧ (t.chip.port (s.chip.chanOf m 0x08)).mode = .down
        ∧ (t.chip.port (s.chip.chanOf m 0x08)).downRsn = 5
        ∧ (t.chip.port (s.chip.chanOf m 0x08)).link = .reset
        ∧ (∀ q, q ≠ (s.chip.chanOf m 0x08) → (t.chip.port q).mode = (s.chip.port q).mode)
        ∧ Word.bit (t.chip.reg Reg.LN_PCTRL (s.chip.chanOf m 0x08)) 0 = false)
  ∧ (∀ (s : State) (p : Port),
      s.chip.inReset = false →
      p.val < s.chip.nports →
      (s.chip.port p.val).mode ∈ [.locking, .ident, .up, .refused] →
      ∃ t, exec (.pmaReadyLoss p) s = .next t ∧ t.pending = s.pending
        ∧ (t.chip.port p.val).mode = .down
        ∧ (t.chip.port p.val).downRsn = 1
        ∧ (t.chip.port p.val).link = .reset
        ∧ (∀ q, q ≠ p.val → (t.chip.port q).mode = (s.chip.port q).mode)
        ∧ (t.chip.port p.val).pmaRdy = false)
  ∧ (∀ (s : State) (p : Port),
      s.chip.inReset = false →
      p.val < s.chip.nports →
      (s.chip.port p.val).mode ≠ .down →
      (s.chip.port p.val).cwlock = true →
      8 ≤ (s.chip.port p.val).code.bad →
      ∃ t, exec (.lockLoss p) s = .next t ∧ t.pending = s.pending
        ∧ (t.chip.port p.val).mode = .down
        ∧ (t.chip.port p.val).downRsn = 2
        ∧ (t.chip.port p.val).link = .reset
        ∧ (∀ q, q ≠ p.val → (t.chip.port q).mode = (s.chip.port q).mode))
  ∧ (∀ (s : State) (p : Port),
      s.chip.inReset = false →
      p.val < s.chip.nports →
      (s.chip.port p.val).mode ≠ .down →
      ∃ t, exec (.laneReset p) s = .next t ∧ t.pending = s.pending
        ∧ (t.chip.port p.val).mode = .down
        ∧ (t.chip.port p.val).downRsn = 7
        ∧ (t.chip.port p.val).link = .reset
        ∧ (∀ q, q ≠ p.val → (t.chip.port q).mode = (s.chip.port q).mode))
  ∧ (∀ (s : State) (p : Port),
      s.chip.inReset = false →
      p.val < s.chip.nports →
      s.chip.isUp p.val = true →
      (s.chip.port p.val).link.timerOn = true →
      s.chip.replayMax ≤ (s.chip.port p.val).link.replays →
      ∃ t, exec (.replayTimeout p) s = .next t ∧ t.pending = s.pending
        ∧ (t.chip.port p.val).mode = .down
        ∧ (t.chip.port p.val).downRsn = 3
        ∧ (t.chip.port p.val).link = .reset
        ∧ (∀ q, q ≠ p.val → (t.chip.port q).mode = (s.chip.port q).mode))
  ∧ (∀ (s : State) (m : Master) (k : LatReg) (w : Word),
      s.chip.opens m 0x08 = true →
      s.chip.locked 0x08 = false →
      ∃ t, exec (.pmaLatWrite m k w) s = .next t ∧ t.pending = s.pending
        ∧ (t.chip.port (s.chip.chanOf m 0x08)).pmaLatOk = false
        ∧ (t.chip.port (s.chip.chanOf m 0x08)).mode = (s.chip.port (s.chip.chanOf m 0x08)).mode
        ∧ t.chip.reg (match k with | .tx => Reg.LN_PMA_LAT_TX | .rx => Reg.LN_PMA_LAT_RX | .lb => Reg.LN_PMA_LAT_LB) (s.chip.chanOf m 0x08) = w &&& 0x00FFFFFF)
  ∧ (∀ (s : State) (p : Port) (ok : Bool),
      s.chip.inReset = false →
      p.val < s.chip.nports →
      ∃ t, exec (.freqOk p ok) s = .next t ∧ t.pending = s.pending
        ∧ (t.chip.port p.val).freqOk = ok
        ∧ (∀ q, (t.chip.port q).mode = (s.chip.port q).mode)
        ∧ (ok = false → (t.chip.port p.val).tqual = false))

/-- What a cell slot sends, and how replay resends. On a lane that is UP a CELL_SLOT in slot 0 sends a waiting timing cell first; with no timing cell for the slot, no replay under way, no aged cell and the die not fenced, a class B cell that holds a credit and has turns left goes out for the first time: it takes the next sequence number, spends a credit and enters the replay buffer; with nothing ready a link-control cell or IDLE goes out. NAK_RECEIVE frees the cells before the expected one and starts the replay of the rest; REPLAY_TIMEOUT starts a replay. The turns and shares of the weighted round, the order of two heads aged at one tick, and the waiting of cells for a full queue are the model's choices (log entry 14). -/
def Obligations.CellTransmit : Prop :=
  (∀ (s : State) (p : Port) (phase : Fin 64) (x : TxCell) (r : List TxCell),
      s.chip.inReset = false →
      p.val < s.chip.nports →
      s.chip.isUp p.val = true →
      (s.chip.port p.val).code.txSlot = 0 →
      (s.chip.port p.val).q.txT = x :: r →
      ∃ t, exec (.cellSlot p phase) s = .next t ∧ t.pending = s.pending
        ∧ (t.chip.port p.val).q.txT = r
        ∧ (t.chip.port p.val).code.txSlot = 1
        ∧ (t.chip.port p.val).link.nextSeq = (s.chip.port p.val).link.nextSeq
        ∧ (t.chip.port p.val).q.txB = (s.chip.port p.val).q.txB)
  ∧ (∀ (s : State) (p : Port) (phase : Fin 64) (x : TxCell) (r : List TxCell),
      s.chip.inReset = false →
      p.val < s.chip.nports →
      s.chip.isUp p.val = true →
      s.chip.hg.fenced = false →
      (s.chip.port p.val).code.txSlot ≠ 0 →
      (s.chip.port p.val).link.resend = [] →
      s.chip.aged p.val = none →
      (s.chip.port p.val).q.txB = x :: r →
      ((s.chip.port p.val).q.wait.any fun w => w.1 == clsB) = false →
      0 < (s.chip.port p.val).link.credB →
      0 < (s.chip.port p.val).link.turnB →
      ∃ t, exec (.cellSlot p phase) s = .next t ∧ t.pending = s.pending
        ∧ (t.chip.port p.val).q.txB = r
        ∧ (t.chip.port p.val).link.credB = (s.chip.port p.val).link.credB - 1
        ∧ (t.chip.port p.val).link.nextSeq = ((s.chip.port p.val).link.nextSeq + 1) % 4096
        ∧ (t.chip.port p.val).link.replay.length = (s.chip.port p.val).link.replay.length + 1
        ∧ (t.chip.port p.val).link.timerOn = true
        ∧ (t.chip.port p.val).code.txSlot = ((s.chip.port p.val).code.txSlot + 1) % 8)
  ∧ (∀ (s : State) (p : Port) (phase : Fin 64),
      s.chip.inReset = false →
      p.val < s.chip.nports →
      s.chip.isUp p.val = true →
      (s.chip.port p.val).q.txT = [] →
      (s.chip.port p.val).link.resend = [] →
      s.chip.mayLeave p.val = [] →
      ∃ t, exec (.cellSlot p phase) s = .next t ∧ t.pending = s.pending
        ∧ (t.chip.port p.val).q.txL = (s.chip.port p.val).q.txL.drop 1
        ∧ (t.chip.port p.val).link.nextSeq = (s.chip.port p.val).link.nextSeq
        ∧ (t.chip.port p.val).link.rot = ((s.chip.port p.val).link.rot + 1) % 3)
  ∧ (∀ (s : State) (p : Port) (x : Cell),
      s.chip.inReset = false →
      p.val < s.chip.nports →
      s.chip.isUp p.val = true →
      s.chip.headL p.val 0x01 = some x →
      Word.field (x.pay 2) 0 12 ≠ (s.chip.port p.val).link.nextSeq →
      (Word.field (x.pay 2) 0 12 + 4096 - (s.chip.port p.val).link.oldest) % 4096 < (s.chip.port p.val).link.replay.length →
      (s.chip.port p.val).link.replays < s.chip.replayMax →
      ∃ t, exec (.nakReceive p) s = .next t ∧ t.pending = s.pending
        ∧ (t.chip.port p.val).link.replay = (s.chip.port p.val).link.replay.drop ((Word.field (x.pay 2) 0 12 + 4096 - (s.chip.port p.val).link.oldest) % 4096)
        ∧ (t.chip.port p.val).link.resend = (t.chip.port p.val).link.replay
        ∧ (t.chip.port p.val).link.replays = (s.chip.port p.val).link.replays + 1
        ∧ (t.chip.port p.val).mode = .up)
  ∧ (∀ (s : State) (p : Port),
      s.chip.inReset = false →
      p.val < s.chip.nports →
      s.chip.isUp p.val = true →
      (s.chip.port p.val).link.timerOn = true →
      (s.chip.port p.val).link.replays < s.chip.replayMax →
      (s.chip.port p.val).link.replay ≠ [] →
      ∃ t, exec (.replayTimeout p) s = .next t ∧ t.pending = s.pending
        ∧ (t.chip.port p.val).link.resend = (s.chip.port p.val).link.replay
        ∧ (t.chip.port p.val).link.replay = (s.chip.port p.val).link.replay
        ∧ (t.chip.port p.val).link.replays = (s.chip.port p.val).link.replays + 1
        ∧ (t.chip.port p.val).mode = .up)

/-- What a received codeword leaves in the receiver. A codeword received in LOCKING moves the search for lock in both polarities and nothing else of the port. On a lane that is UP an uncorrectable codeword leaves the receive buffers and the expected number as they are; a good one whose first cell is a class B cell with the expected number and buffer room, its other cells link-control ones, on a lane whose child is not excluded and at a part that is not fenced, puts that cell at the end of the class B buffer, and the expected number moves on by one. -/
def Obligations.CodewordReceive : Prop :=
  (∀ (s : State) (p : Port) (cw : Codeword),
      s.chip.inReset = false →
      p.val < s.chip.nports →
      (s.chip.port p.val).mode = .locking →
      ∃ t, exec (.codewordReceive p cw) s = .next t ∧ t.pending = s.pending
        ∧ t.chip.lane p.val = { s.chip.lane p.val with code := (s.chip.port p.val).code.seek cw.header }
        ∧ (t.chip.port p.val).q = (s.chip.port p.val).q)
  ∧ (∀ (s : State) (p : Port) (cw : Codeword),
      s.chip.inReset = false →
      p.val < s.chip.nports →
      s.chip.isUp p.val = true →
      cw.bad = true →
      ∃ t, exec (.codewordReceive p cw) s = .next t ∧ t.pending = s.pending
        ∧ (t.chip.port p.val).q.rxB = (s.chip.port p.val).q.rxB
        ∧ (t.chip.port p.val).q.rxS = (s.chip.port p.val).q.rxS
        ∧ (t.chip.port p.val).q.rxM = (s.chip.port p.val).q.rxM
        ∧ (t.chip.port p.val).q.rxT = (s.chip.port p.val).q.rxT
        ∧ (t.chip.port p.val).link.expected = (s.chip.port p.val).link.expected
        ∧ (t.chip.port p.val).code = (s.chip.port p.val).code.track cw)
  ∧ (∀ (s : State) (p : Port) (cw : Codeword) (x : Cell) (l : List Cell),
      s.chip.inReset = false →
      p.val < s.chip.nports →
      s.chip.isUp p.val = true →
      s.chip.hg.fenced = false →
      s.chip.excludedAt p.val = false →
      cw.bad = false →
      cw.cells = x :: l →
      l.length ≤ 7 →
      (∀ y ∈ l, Cell.parityGood y = true ∧ Cell.known y = true ∧ y.cls = clsL) →
      Cell.parityGood x = true →
      Cell.known x = true →
      x.cls = clsB →
      x.seq = (s.chip.port p.val).link.expected →
      (s.chip.port p.val).link.expected < 4096 →
      s.chip.rxRoom p.val clsB = true →
      x.typ ≠ 0x45 →
      ∃ t, exec (.codewordReceive p cw) s = .next t ∧ t.pending = s.pending
        ∧ (t.chip.port p.val).q.rxB = (s.chip.port p.val).q.rxB ++ [x]
        ∧ (t.chip.port p.val).q.rxS = (s.chip.port p.val).q.rxS
        ∧ (t.chip.port p.val).q.rxM = (s.chip.port p.val).q.rxM
        ∧ (t.chip.port p.val).link.expected = ((s.chip.port p.val).link.expected + 1) % 4096
        ∧ (t.chip.port p.val).link.lastAcc = (s.chip.port p.val).link.expected)

/-- IDENT, tick markers and delay probes. IDENT_SEND queues this port's IDENT. TICK_SEND queues a TICK before the probes, with the next marker number; PREQ_SEND queues a probe request with a new identifier; PREQ_RECEIVE answers with the receive stamp; PRSP_RECEIVE holds T2 and T4 with the probe; PROBE_ABANDON drops the oldest probe; TICK_RECEIVE keeps the marker number with its stamp and the flags of the sender; MKR_TIMEOUT forgets the last marker and takes time qualification away. -/
def Obligations.HandshakeAndMarkers : Prop :=
  (∀ (s : State) (p : Port),
      s.chip.inReset = false →
      p.val < s.chip.nports →
      (s.chip.port p.val).mode ∈ [.ident, .up, .refused] →
      ∃ t, exec (.identSend p) s = .next t ∧ t.pending = s.pending
        ∧ (t.chip.port p.val).q.txL = (s.chip.port p.val).q.txL ++ [s.chip.identCell p.val]
        ∧ t.chip.lane p.val = s.chip.lane p.val)
  ∧ (∀ (s : State) (p : Port),
      s.chip.inReset = false →
      p.val < s.chip.nports →
      s.chip.isUp p.val = true →
      (s.chip.port p.val).q.txT.length < 8 →
      ∃ t, exec (.tickSend p) s = .next t ∧ t.pending = s.pending
        ∧ (t.chip.port p.val).q.txT = { cell := mkCellW clsT 0x10 0 (List.replicate 11 0) (markerWord 1 (s.chip.port p.val).time.mseqTick 0), at_ := s.chip.tk.frc } :: (s.chip.port p.val).q.txT
        ∧ (t.chip.port p.val).time.mseqTick = ((s.chip.port p.val).time.mseqTick + 1) % 4096)
  ∧ (∀ (s : State) (p : Port),
      s.chip.inReset = false →
      p.val < s.chip.nports →
      s.chip.isUp p.val = true →
      (s.chip.port p.val).q.txT.length < 8 →
      ∃ t, exec (.preqSend p) s = .next t ∧ t.pending = s.pending
        ∧ (t.chip.port p.val).q.txT.length = (s.chip.port p.val).q.txT.length + 1
        ∧ (t.chip.port p.val).time.probes = (s.chip.port p.val).time.probes ++ [{ id := (s.chip.port p.val).time.nextId, t1 := none, t2 := none, t4 := none }]
        ∧ (t.chip.port p.val).time.nextId = ((s.chip.port p.val).time.nextId + 1) % 65536)
  ∧ (∀ (s : State) (p : Port) (r : RxT),
      s.chip.inReset = false →
      p.val < s.chip.nports →
      s.chip.headT p.val 0x11 = some r →
      (s.chip.port p.val).q.txT.length < 8 →
      ∃ t, exec (.preqReceive p) s = .next t ∧ t.pending = s.pending
        ∧ (t.chip.port p.val).q.rxT = (s.chip.port p.val).q.rxT.drop 1
        ∧ (t.chip.port p.val).q.txT = (s.chip.port p.val).q.txT ++ [{ cell := mkCellW clsT 0x12 0 (timeWords r.stamp) (markerWord 3 (s.chip.port p.val).time.mseqRsp (Word.field (Cell.word r.cell 19) 0 16)), at_ := s.chip.tk.frc }])
  ∧ (∀ (s : State) (p : Port) (r : RxT) (n : Nat),
      s.chip.inReset = false →
      p.val < s.chip.nports →
      s.chip.headT p.val 0x12 = some r →
      (s.chip.port p.val).time.probes = [{ id := Word.field (Cell.word r.cell 19) 0 16, t1 := some n, t2 := none, t4 := none }] →
      ∃ t, exec (.prspReceive p) s = .next t ∧ t.pending = s.pending
        ∧ (t.chip.port p.val).time.probes = [{ id := Word.field (Cell.word r.cell 19) 0 16, t1 := some n, t2 := some (Cell.time r.cell 2), t4 := some r.stamp }]
        ∧ (t.chip.port p.val).q.rxT = (s.chip.port p.val).q.rxT.drop 1)
  ∧ (∀ (s : State) (p : Port),
      s.chip.inReset = false →
      p.val < s.chip.nports →
      (s.chip.port p.val).time.probes ≠ [] →
      ∃ t, exec (.probeAbandon p) s = .next t ∧ t.pending = s.pending
        ∧ (t.chip.port p.val).time.probes = (s.chip.port p.val).time.probes.drop 1
        ∧ (t.chip.port p.val).mode = (s.chip.port p.val).mode)
  ∧ (∀ (s : State) (p : Port) (r : RxT),
      s.chip.inReset = false →
      p.val < s.chip.nports →
      s.chip.headT p.val 0x10 = some r →
      ∃ t, exec (.tickReceive p) s = .next t ∧ t.pending = s.pending
        ∧ (t.chip.port p.val).time.lastRx = some (Word.field (Cell.word r.cell 19) 16 12, r.stamp)
        ∧ (t.chip.port p.val).time.tickW5 = r.cell.pay 5
        ∧ (t.chip.port p.val).time.hops = Word.field (r.cell.pay 12) 16 8
        ∧ (t.chip.port p.val).q.rxT = (s.chip.port p.val).q.rxT.drop 1)
  ∧ (∀ (s : State) (p : Port),
      s.chip.inReset = false →
      p.val < s.chip.nports →
      s.chip.isUp p.val = true →
      ∃ t, exec (.mkrTimeout p) s = .next t ∧ t.pending = s.pending
        ∧ (t.chip.port p.val).time.lastRx = none
        ∧ (t.chip.port p.val).qual.ok = false
        ∧ (t.chip.port p.val).tqual = false
        ∧ (t.chip.port p.val).mode = .up)

/-- Claims, the root timer and the way a Lyspen takes and loses its crown. At a hub in ROOTWAIT that has not joined since reset and sees no usable upstream, ROOT_TIMER_EXPIRY makes an eligible hub crown with address 0 and the next epoch, and another hub crownless with address 0. CLAIM makes an ORPHAN or CONFLICT hub crown with address 0 and the next epoch; YIELD makes a CONFLICT hub with a usable upstream join; REVERT_NOW returns a JOINED hub to its qualified primary upstream. START_SLOW sets START_SLOW of a Lyspen that has had a lane UP and is not LOCKED, whether it locked before or not. SUMMARY_SEND numbers a changed summary with the next sequence number and puts it on the upstream lane. SUMMARY_RECEIVE replaces what is known of the child, and that of no other child. -/
def Obligations.TreeFormation : Prop :=
  (∀ (s : State) ,
      s.chip.id.hub = true →
      s.chip.inReset = false →
      s.chip.tr.mode = .rootwait →
      s.chip.tr.joinedSinceReset = false →
      s.chip.upUsable 64 = false →
      s.chip.upUsable 65 = false →
      ∃ t, exec (.rootTimerExpiry) s = .next t ∧ t.pending = s.pending
        ∧ t.chip.tr.mode = (if s.chip.crownElig then .crown else .crownless)
        ∧ t.chip.tr.addr = some 0
        ∧ t.chip.tr.crown = (if s.chip.crownElig then some s.chip.id.uid else none)
        ∧ t.chip.tr.cepoch = (if s.chip.crownElig then (s.chip.tr.cepoch + 1) % 2 ^ 16 else s.chip.tr.cepoch))
  ∧ (∀ (s : State) (m : Master),
      s.chip.id.hub = true →
      s.chip.opens m 0x09 = true →
      (s.chip.tr.mode = .orphan ∨ s.chip.tr.mode = .conflict) →
      ∃ t, exec (.claim m) s = .next t ∧ t.pending = s.pending
        ∧ t.chip.tr.mode = .crown
        ∧ t.chip.tr.addr = some 0
        ∧ t.chip.tr.crown = some s.chip.id.uid
        ∧ t.chip.tr.cepoch = (s.chip.tr.cepoch + 1) % 2 ^ 16)
  ∧ (∀ (s : State) (m : Master),
      s.chip.id.hub = true →
      s.chip.opens m 0x09 = true →
      s.chip.tr.mode = .conflict →
      (s.chip.upUsable 64 = true ∨ s.chip.upUsable 65 = true) →
      ∃ t, exec (.yield m) s = .next t ∧ t.pending = s.pending
        ∧ t.chip.tr.mode = .joined
        ∧ t.chip.tr.joinedSinceReset = true)
  ∧ (∀ (s : State) (m : Master),
      s.chip.id.hub = true →
      s.chip.opens m 0x09 = true →
      s.chip.tr.mode = .joined →
      s.chip.tr.upAlt = true →
      s.chip.upUsable 64 = true →
      (s.chip.port 64).tqual = true →
      (s.chip.port 64).qual.ok = true →
      (s.chip.port 64).pmaLatOk = true →
      (s.chip.port 64).freqOk = true →
      ∃ t, exec (.revertNow m) s = .next t ∧ t.pending = s.pending
        ∧ t.chip.tr.upAlt = false
        ∧ t.chip.tr.mode = .joined)
  ∧ (∀ (s : State) ,
      s.chip.inReset = false →
      s.chip.tr.firstUp = true →
      s.chip.sv.mode ≠ .locked →
      s.chip.tr.startSlow = false →
      ∃ t, exec (.startSlow) s = .next t ∧ t.pending = s.pending
        ∧ t.chip.tr.startSlow = true
        ∧ t.chip.tr.slowReported = true
        ∧ t.chip.tr.mode = s.chip.tr.mode)
  ∧ (∀ (s : State) (u : Nat),
      s.chip.id.hub = true →
      s.chip.inReset = false →
      s.chip.upPort = some u →
      (s.chip.tr.mode = .joined ∨ s.chip.tr.mode = .discover) →
      s.chip.tr.lastSummary ≠ some s.chip.summaryWords →
      s.chip.carries u = true →
      (s.chip.port u).q.txM.length < 64 →
      ((s.chip.port u).q.wait.any fun w => w.1 == clsM) = false →
      ∃ t, exec (.summarySend) s = .next t ∧ t.pending = s.pending
        ∧ t.chip.tr.lastSummary = some s.chip.summaryWords
        ∧ t.chip.tr.sseq = (s.chip.tr.sseq + 1) % 65536
        ∧ t.chip.tr.kids = s.chip.tr.kids
        ∧ (t.chip.port u).q.txM = (s.chip.port u).q.txM ++ [{ cell := mkCell clsM 0x45 0 ((s.chip.summaryWords.headD 0 ||| Word.place 1 24 ||| fld s.chip.tr.sseq 16 0) :: s.chip.summaryWords.drop 1), at_ := s.chip.tk.frc }])
  ∧ (∀ (s : State) (p : Port) (x : Cell),
      s.chip.id.hub = true →
      s.chip.inReset = false →
      p.val < 64 →
      s.chip.headM p.val 0x45 = some x →
      Word.field (x.pay 2) 24 8 = 1 →
      ∃ t, exec (.summaryReceive p) s = .next t ∧ t.pending = s.pending
        ∧ t.chip.kid p.val = { level := Word.field (x.pay 2) 20 4, slow := Word.bit (x.pay 2) 19, members := Word.field (x.pay 3) 0 25, locked := Word.field (x.pay 4) 0 25, hubs := Word.field (x.pay 5) 0 19, best := if Word.bit (x.pay 6) 23 then some (Word.field (x.pay 6) 24 8, Word.field (x.pay 6) 0 16 * 2 ^ 32 + (x.pay 7).toNat) else none }
        ∧ (t.chip.port p.val).q.rxM = (s.chip.port p.val).q.rxM.drop 1
        ∧ (∀ q, q ≠ p.val → t.chip.kid q = s.chip.kid q))

/-- REFLECT, TRACE and MLOSS cells as they are received. A REFLECT that is not older than the current epoch gives a die on an UP lane, whose other plane says no other address, its address. It joins a hub that is no crown when it comes by the active upstream and the other upstream is not usable: the hub takes the crown, the epoch and, where it holds no address from the other upstream, the address. By the upstream that is not active it is kept and joins nothing; by a downstream port of a hub it is stale and changes nothing that is kept. A TRACE of another hub at a hub that is no root goes on up the active upstream, with one more HOPS up to 8 and this hub's UID where that is higher; at a root it is dropped; one that carries this hub's own UID as sender and as the highest refuses the active upstream for a cycle. An MLOSS from a child hub takes the lost members from what is known of that child; one from a die child that counted marks it lost. -/
def Obligations.ReflectTraceLoss : Prop :=
  (∀ (s : State) (p : Port) (x : Cell),
      s.chip.id.hub = false →
      s.chip.inReset = false →
      p.val < 2 →
      s.chip.isUp p.val = true →
      s.chip.headM p.val 0x45 = some x →
      Word.field (x.pay 2) 24 8 = 2 →
      s.chip.reflOlder (x.payload.take 5) = false →
      (SMap.find s.chip.tr.kept (1 - p.val) [] = [] ∨ reflAddr (SMap.find s.chip.tr.kept (1 - p.val) []) = reflAddr (x.payload.take 5)) →
      ∃ t, exec (.reflectReceive p) s = .next t ∧ t.pending = s.pending
        ∧ SMap.find t.chip.tr.kept p.val [] = x.payload.take 5
        ∧ t.chip.tr.addr = some (reflAddr (x.payload.take 5))
        ∧ t.chip.tr.mode = .joined
        ∧ (t.chip.port p.val).q.rxM = (s.chip.port p.val).q.rxM.drop 1)
  ∧ (∀ (s : State) (p : Port) (x : Cell),
      s.chip.id.hub = true →
      s.chip.inReset = false →
      p.val = s.chip.activeUp →
      s.chip.upUsable p.val = true →
      s.chip.upUsable (129 - p.val) = false →
      s.chip.tr.mode ≠ .crown →
      s.chip.tr.mode ≠ .conflict →
      s.chip.headM p.val 0x45 = some x →
      Word.field (x.pay 2) 24 8 = 2 →
      s.chip.reflOlder (x.payload.take 5) = false →
      (s.chip.tr.addr = none ∨ s.chip.tr.addrFrom = none ∨ s.chip.tr.addrFrom = some p.val) →
      ∃ t, exec (.reflectReceive p) s = .next t ∧ t.pending = s.pending
        ∧ SMap.find t.chip.tr.kept p.val [] = x.payload.take 5
        ∧ t.chip.tr.mode = .joined
        ∧ t.chip.tr.addr = some (reflAddr (x.payload.take 5))
        ∧ t.chip.tr.crown = (if reflValid (x.payload.take 5) then some (reflUid (x.payload.take 5)) else none)
        ∧ t.chip.tr.cepoch = reflEpoch (x.payload.take 5)
        ∧ (t.chip.port p.val).q.rxM = (s.chip.port p.val).q.rxM.drop 1)
  ∧ (∀ (s : State) (p : Port) (x : Cell),
      s.chip.id.hub = true →
      s.chip.inReset = false →
      64 ≤ p.val →
      p.val < 66 →
      p.val ≠ s.chip.activeUp →
      s.chip.headM p.val 0x45 = some x →
      Word.field (x.pay 2) 24 8 = 2 →
      ∃ t, exec (.reflectReceive p) s = .next t ∧ t.pending = s.pending
        ∧ t.chip = ({ s.chip.fresh.popRx p.val clsM 1 with tr := { s.chip.tr with kept := SMap.insert s.chip.tr.kept p.val (x.payload.take 5) } }).settle)
  ∧ (∀ (s : State) (p : Port) (x : Cell),
      s.chip.id.hub = true →
      s.chip.inReset = false →
      p.val < 64 →
      s.chip.headM p.val 0x45 = some x →
      Word.field (x.pay 2) 24 8 = 2 →
      ∃ t, exec (.reflectReceive p) s = .next t ∧ t.pending = s.pending
        ∧ t.chip.tr.kept = s.chip.tr.kept
        ∧ (t.chip.port p.val).q.rxM = (s.chip.port p.val).q.rxM.drop 1)
  ∧ (∀ (s : State) (p : Port) (x : Cell),
      s.chip.id.hub = true →
      s.chip.inReset = false →
      p.val < 64 →
      s.chip.headM p.val 0x45 = some x →
      Word.field (x.pay 2) 24 8 = 4 →
      Word.field (x.pay 4) 0 16 * 2 ^ 32 + (x.pay 3).toNat = s.chip.id.uid →
      Word.field (x.pay 6) 0 16 * 2 ^ 32 + (x.pay 5).toNat = s.chip.id.uid →
      s.chip.upPort = some s.chip.activeUp →
      ∃ t, exec (.traceReceive p) s = .next t ∧ t.pending = s.pending
        ∧ (t.chip.port s.chip.activeUp).mode = .refused
        ∧ (t.chip.port s.chip.activeUp).refRsn = 3
        ∧ (t.chip.port p.val).q.rxM = (s.chip.port p.val).q.rxM.drop 1)
  ∧ (∀ (s : State) (p : Port) (x : Cell) (u : Nat),
      s.chip.id.hub = true →
      s.chip.inReset = false →
      p.val < 64 →
      s.chip.headM p.val 0x45 = some x →
      Word.field (x.pay 2) 24 8 = 4 →
      Word.field (x.pay 4) 0 16 * 2 ^ 32 + (x.pay 3).toNat ≠ s.chip.id.uid →
      Word.field (x.pay 2) 0 8 < 8 →
      s.chip.tr.mode ≠ .crown →
      s.chip.tr.mode ≠ .conflict →
      s.chip.tr.mode ≠ .crownless →
      s.chip.upPort = some u →
      ∃ t, exec (.traceReceive p) s = .next t ∧ t.pending = s.pending
        ∧ t.chip = ((s.chip.fresh.popRx p.val clsM 1).sendCells u clsM [mkCell clsM 0x45 0 [Word.place 4 24 ||| fld (Word.field (x.pay 2) 0 8 + 1) 8 0, x.pay 3, x.pay 4, Word.part (max (Word.field (x.pay 6) 0 16 * 2 ^ 32 + (x.pay 5).toNat) s.chip.id.uid) 0, Word.part (max (Word.field (x.pay 6) 0 16 * 2 ^ 32 + (x.pay 5).toNat) s.chip.id.uid % 2 ^ 48) 1]]).settle)
  ∧ (∀ (s : State) (p : Port) (x : Cell),
      s.chip.id.hub = true →
      s.chip.inReset = false →
      p.val < 64 →
      s.chip.headM p.val 0x45 = some x →
      Word.field (x.pay 2) 24 8 = 4 →
      Word.field (x.pay 4) 0 16 * 2 ^ 32 + (x.pay 3).toNat ≠ s.chip.id.uid →
      (s.chip.tr.mode = .crown ∨ s.chip.tr.mode = .conflict ∨ s.chip.tr.mode = .crownless) →
      ∃ t, exec (.traceReceive p) s = .next t ∧ t.pending = s.pending
        ∧ t.chip = (s.chip.fresh.popRx p.val clsM 1).settle)
  ∧ (∀ (s : State) (p : Port) (x : Cell),
      s.chip.id.hub = true →
      s.chip.inReset = false →
      p.val < 64 →
      s.chip.headM p.val 0x45 = some x →
      Word.field (x.pay 2) 24 8 = 3 →
      (s.chip.port p.val).peerHub = false →
      s.chip.dieCounts p.val = true →
      ∃ t, exec (.mlossReceive p) s = .next t ∧ t.pending = s.pending
        ∧ t.chip.tr.lostAt.contains p.val = true
        ∧ (t.chip.port p.val).q.rxM = (s.chip.port p.val).q.rxM.drop 1)
  ∧ (∀ (s : State) (p : Port) (x : Cell),
      s.chip.id.hub = true →
      s.chip.inReset = false →
      p.val < 64 →
      s.chip.headM p.val 0x45 = some x →
      Word.field (x.pay 2) 24 8 = 3 →
      (s.chip.port p.val).peerHub = true →
      ∃ t, exec (.mlossReceive p) s = .next t ∧ t.pending = s.pending
        ∧ (t.chip.kid p.val).members = (s.chip.kid p.val).members - Word.field (x.pay 4) 0 25
        ∧ (t.chip.kid p.val).hubs = (s.chip.kid p.val).hubs
        ∧ (t.chip.port p.val).q.rxM = (s.chip.port p.val).q.rxM.drop 1)

/-- Remote register requests at their issuer, and the management queues. RRA_GO with a read or write of a target below the hub, with the tag free, response room and the way UP, puts the tag in flight, numbers the request and puts it on the lane of the target, for a target that is not below queues a NOROUTE response, and for a tag in flight a BUSY one. RRSP_RECEIVE of the awaited response frees the tag and queues the response; one whose tag is not in flight, or whose number is another, is discarded; one for another issuer goes on up. RRA_TMO frees the tag and queues a TIMEOUT. Each queued response holds VALID, its number, status, kind and tag, its data and its target. RRSP_POP, INQ_POP and MLQ_POP take one entry from their queues, and INOTE_RECEIVE at a hub with MGMT_NOTE puts a new member's notice at the end of the notice queue, and at another hub sends it on up. The places of a notice's words in its cell are the model's choice (log entry 12). -/
def Obligations.RemoteAccessIssue : Prop :=
  (∀ (s : State) (m : Master) (w : Word) (q : Nat),
      s.chip.id.hub = true →
      s.chip.opens m 0x09 = true →
      (Word.field w 28 4 = 1 ∨ Word.field w 28 4 = 2) →
      s.chip.tr.rrsp.length < 16 →
      s.chip.below (Word.field (s.chip.regOf m Reg.TR_RRA_TGT) 0 24) = true →
      SMap.has s.chip.tr.tags (Word.field w 0 4) = false →
      s.chip.rraPort (Word.field (s.chip.regOf m Reg.TR_RRA_TGT) 0 24) = some q →
      s.chip.carries q = true →
      (s.chip.port q).q.txM.length < 64 →
      ((s.chip.port q).q.wait.any fun w => w.1 == clsM) = false →
      ∃ t, exec (.rraGo m w) s = .next t ∧ t.pending = s.pending
        ∧ (t.chip.port q).q.txM = (s.chip.port q).q.txM ++ [{ cell := mkCell clsM 0x40 0 [fld (Word.field w 28 4) 4 28 ||| fld (Word.field (s.chip.regOf m Reg.TR_RRA_TGT) 0 24) 24 0, fld (Word.field w 0 4) 4 28 ||| fld s.chip.tr.rseq 8 20 ||| fld (s.chip.regOf m Reg.TR_RRA_REG).toNat 18 0, s.chip.regOf m Reg.TR_RRA_DATA, s.chip.issuerWord], at_ := s.chip.tk.frc }]
        ∧ SMap.find (t.chip.tr.tags.map fun e => (e.1, some e.2)) (Word.field w 0 4) none = some { target := Word.field (s.chip.regOf m Reg.TR_RRA_TGT) 0 24, rseq := s.chip.tr.rseq }
        ∧ t.chip.tr.rseq = (s.chip.tr.rseq + 1) % 256
        ∧ t.chip.tr.rrsp = s.chip.tr.rrsp)
  ∧ (∀ (s : State) (m : Master) (w : Word),
      s.chip.id.hub = true →
      s.chip.opens m 0x09 = true →
      (Word.field w 28 4 = 1 ∨ Word.field w 28 4 = 2) →
      s.chip.tr.rrsp.length < 16 →
      s.chip.below (Word.field (s.chip.regOf m Reg.TR_RRA_TGT) 0 24) = false →
      ∃ t, exec (.rraGo m w) s = .next t ∧ t.pending = s.pending
        ∧ t.chip.tr.tags = s.chip.tr.tags
        ∧ t.chip.tr.rrsp = s.chip.tr.rrsp ++ [{ word0 := Word.flag true 31 ||| fld (s.chip.tr.rseq) 8 20 ||| fld 1 4 16 ||| fld (0) 3 12 ||| fld (Word.field w 0 4) 4 0, data := 0, target := BitVec.ofNat 32 (Word.field (s.chip.regOf m Reg.TR_RRA_TGT) 0 24) }]
        ∧ t.chip.tr.rseq = (s.chip.tr.rseq + 1) % 256)
  ∧ (∀ (s : State) (m : Master) (w : Word),
      s.chip.id.hub = true →
      s.chip.opens m 0x09 = true →
      (Word.field w 28 4 = 1 ∨ Word.field w 28 4 = 2) →
      s.chip.tr.rrsp.length < 16 →
      s.chip.below (Word.field (s.chip.regOf m Reg.TR_RRA_TGT) 0 24) = true →
      SMap.has s.chip.tr.tags (Word.field w 0 4) = true →
      ∃ t, exec (.rraGo m w) s = .next t ∧ t.pending = s.pending
        ∧ t.chip.tr.tags = s.chip.tr.tags
        ∧ t.chip.tr.rrsp = s.chip.tr.rrsp ++ [{ word0 := Word.flag true 31 ||| fld (s.chip.tr.rseq) 8 20 ||| fld 4 4 16 ||| fld (0) 3 12 ||| fld (Word.field w 0 4) 4 0, data := 0, target := BitVec.ofNat 32 (Word.field (s.chip.regOf m Reg.TR_RRA_TGT) 0 24) }]
        ∧ t.chip.tr.rseq = (s.chip.tr.rseq + 1) % 256)
  ∧ (∀ (s : State) (p : Port) (x : Cell) (o : RraOut),
      s.chip.id.hub = true →
      s.chip.inReset = false →
      s.chip.headM p.val 0x41 = some x →
      x.pay 4 = s.chip.issuerWord →
      SMap.find (s.chip.tr.tags.map fun e => (e.1, some e.2)) (Word.field (x.pay 2) 28 4) none = some o →
      o.rseq = Word.field (x.pay 2) 20 8 →
      s.chip.tr.rrsp.length < 16 →
      ∃ t, exec (.rrspReceive p) s = .next t ∧ t.pending = s.pending
        ∧ SMap.has t.chip.tr.tags (Word.field (x.pay 2) 28 4) = false
        ∧ t.chip.tr.rrsp = s.chip.tr.rrsp ++ [{ word0 := Word.flag true 31 ||| fld (o.rseq) 8 20 ||| fld (Word.field (x.pay 2) 16 4) 4 16 ||| fld (Word.field (x.pay 2) 12 3) 3 12 ||| fld (Word.field (x.pay 2) 28 4) 4 0, data := x.pay 3, target := BitVec.ofNat 32 (o.target) }])
  ∧ (∀ (s : State) (p : Port) (x : Cell),
      s.chip.id.hub = true →
      s.chip.inReset = false →
      s.chip.headM p.val 0x41 = some x →
      x.pay 4 = s.chip.issuerWord →
      ((SMap.find (s.chip.tr.tags.map fun e => (e.1, some e.2)) (Word.field (x.pay 2) 28 4) none).all fun o => o.rseq != Word.field (x.pay 2) 20 8) = true →
      ∃ t, exec (.rrspReceive p) s = .next t ∧ t.pending = s.pending
        ∧ t.chip.tr.tags = s.chip.tr.tags
        ∧ t.chip.tr.rrsp = s.chip.tr.rrsp
        ∧ (t.chip.port p.val).q.rxM = (s.chip.port p.val).q.rxM.drop 1)
  ∧ (∀ (s : State) (p : Port) (x : Cell) (u : Nat),
      s.chip.id.hub = true →
      s.chip.inReset = false →
      s.chip.headM p.val 0x41 = some x →
      x.pay 4 ≠ s.chip.issuerWord →
      s.chip.upPort = some u →
      u ≠ p.val →
      s.chip.carries u = true →
      (s.chip.port u).q.txM.length < 64 →
      ((s.chip.port u).q.wait.any fun w => w.1 == clsM) = false →
      ∃ t, exec (.rrspReceive p) s = .next t ∧ t.pending = s.pending
        ∧ (t.chip.port u).q.txM = (s.chip.port u).q.txM ++ [{ cell := mkCell clsM 0x41 0 (x.payload.take 3), at_ := s.chip.tk.frc }]
        ∧ (t.chip.port p.val).q.rxM = (s.chip.port p.val).q.rxM.drop 1
        ∧ t.chip.tr = s.chip.tr)
  ∧ (∀ (s : State) (tag : Tag) (o : RraOut),
      s.chip.id.hub = true →
      s.chip.inReset = false →
      SMap.find (s.chip.tr.tags.map fun e => (e.1, some e.2)) tag.val none = some o →
      s.chip.tr.rrsp.length < 16 →
      ∃ t, exec (.rraTmo tag) s = .next t ∧ t.pending = s.pending
        ∧ SMap.has t.chip.tr.tags tag.val = false
        ∧ t.chip.tr.rrsp = s.chip.tr.rrsp ++ [{ word0 := Word.flag true 31 ||| fld (o.rseq) 8 20 ||| fld 2 4 16 ||| fld (0) 3 12 ||| fld (tag.val) 4 0, data := 0, target := BitVec.ofNat 32 (o.target) }])
  ∧ (∀ (s : State) (m : Master),
      s.chip.id.hub = true →
      s.chip.opens m 0x09 = true →
      ∃ t, exec (.rrspPop m) s = .next t ∧ t.pending = s.pending
        ∧ t.chip.tr = { s.chip.tr with rrsp := s.chip.tr.rrsp.drop 1 }
        ∧ t.chip.regs = s.chip.regs)
  ∧ (∀ (s : State) (m : Master),
      s.chip.id.hub = true →
      s.chip.opens m 0x09 = true →
      ∃ t, exec (.inqPop m) s = .next t ∧ t.pending = s.pending
        ∧ t.chip.tr = { s.chip.tr with inq := s.chip.tr.inq.drop 1 }
        ∧ t.chip.regs = s.chip.regs)
  ∧ (∀ (s : State) (m : Master),
      s.chip.id.hub = true →
      s.chip.opens m 0x09 = true →
      ∃ t, exec (.mlqPop m) s = .next t ∧ t.pending = s.pending
        ∧ t.chip.tr = { s.chip.tr with mlq := s.chip.tr.mlq.drop 1 }
        ∧ t.chip.regs = s.chip.regs)
  ∧ (∀ (s : State) (p : Port) (x : Cell),
      s.chip.id.hub = true →
      s.chip.inReset = false →
      s.chip.mgmtNote = true →
      s.chip.headM p.val 0x44 = some x →
      (s.chip.tr.inq.any fun e => e.1 == Word.field (x.pay 4) 0 24) = false →
      s.chip.tr.inq.length < 32 →
      ∃ t, exec (.inoteReceive p) s = .next t ∧ t.pending = s.pending
        ∧ t.chip.tr.inq = s.chip.tr.inq ++ [(Word.field (x.pay 4) 0 24, x.pay 2, x.pay 3)])
  ∧ (∀ (s : State) (p : Port) (x : Cell) (u : Nat),
      s.chip.id.hub = true →
      s.chip.inReset = false →
      s.chip.mgmtNote = false →
      s.chip.headM p.val 0x44 = some x →
      s.chip.upPort = some u →
      u ≠ p.val →
      s.chip.carries u = true →
      (s.chip.port u).q.txM.length < 64 →
      ((s.chip.port u).q.wait.any fun w => w.1 == clsM) = false →
      ∃ t, exec (.inoteReceive p) s = .next t ∧ t.pending = s.pending
        ∧ (t.chip.port u).q.txM = (s.chip.port u).q.txM ++ [{ cell := mkCell clsM 0x44 0 (x.payload.take 3), at_ := s.chip.tk.frc }]
        ∧ (t.chip.port p.val).q.rxM = (s.chip.port p.val).q.rxM.drop 1
        ∧ t.chip.tr = s.chip.tr)

/-- A request is routed at a hub and executed at its die. RREQ_RECEIVE at a hub takes the request from the buffer of the port it came by and sends it on to the port of its target, where that is another port that carries class M and has room. RREQ_EXECUTE at a die, while no access waits for a hold, takes the request from the buffer, counts it and carries it out, a read or a write, as an access of remote management over that plane; a write of TK_STEP0 is so found in that plane's bank. -/
def Obligations.RemoteAccessRoute : Prop :=
  (∀ (s : State) (p : Port) (x : Cell) (q : Nat),
      s.chip.id.hub = true →
      s.chip.inReset = false →
      s.chip.headM p.val 0x40 = some x →
      s.chip.rraPort (Word.field (x.pay 2) 0 24) = some q →
      q ≠ p.val →
      s.chip.carries q = true →
      (s.chip.port q).q.txM.length < 64 →
      ((s.chip.port q).q.wait.any fun w => w.1 == clsM) = false →
      ∃ t, exec (.rreqReceive p) s = .next t ∧ t.pending = s.pending
        ∧ (t.chip.port p.val).q.rxM = (s.chip.port p.val).q.rxM.drop 1
        ∧ (t.chip.port q).q.txM = (s.chip.port q).q.txM ++ [{ cell := mkCell clsM 0x40 0 (x.payload.take 4), at_ := s.chip.tk.frc }]
        ∧ (t.chip.port q).q.rxM = (s.chip.port q).q.rxM)
  ∧ (∀ (s : State) (p : Port) (x : Cell),
      s.chip.id.hub = false →
      s.chip.inReset = false →
      p.val < 2 →
      s.chip.headM p.val 0x40 = some x →
      (Word.field (x.pay 2) 28 4 = 1 ∨ Word.field (x.pay 2) 28 4 = 2) →
      s.chip.held = [] →
      ∃ t, exec (.rreqExecute p) s = .next t ∧ t.pending = s.pending
        ∧ t.chip = (s.chip.fresh.popRx p.val clsM 1).accessNow { master := if p.val = 1 then .remoteB else .remoteA, addr := Word.field (x.pay 3) 0 18, data := if Word.field (x.pay 2) 28 4 = 2 then some (x.pay 4) else none, req := some x })
  ∧ (∀ (s : State) (p : Port) (x : Cell),
      s.chip.id.hub = false →
      s.chip.inReset = false →
      p.val < 2 →
      s.chip.headM p.val 0x40 = some x →
      Word.field (x.pay 2) 28 4 = 2 →
      Word.field (x.pay 3) 0 18 = 0x01090 →
      s.chip.held = [] →
      ∃ t, exec (.rreqExecute p) s = .next t ∧ t.pending = s.pending
        ∧ t.chip.regOf (if p.val = 1 then .remoteB else .remoteA) Reg.TK_STEP0 = x.pay 4
        ∧ (t.chip.port p.val).q.rxM = (s.chip.port p.val).q.rxM.drop 1
        ∧ t.chip.tk = s.chip.tk)

/-- Offset windows, build-out, relearning and calibration marks. OFFSET_WINDOW_END at a Lyspen that is no crown empties each channel's window: with 32 samples or more the offset is their mean and valid, with fewer it is not valid and keeps its value; at a crown the offset of a channel with a qualified reference other than a peer crown is the measured offset less the build-out. BUILD_OUT_DECAY moves the servo's build-out towards 0 by 1 ps, and that of a crown with BO_REMOVE by its slew. RELEARN discards the learnt delay of the channel's lane, ASYM_OK clears ASYM_UNCAL, and a write of LN_ASYM sets it and takes the value. HORDY sets the flag in LOCKED alone. The offset of a crown's channel, as measured offset less build-out, is the model's choice (log entry 34). -/
def Obligations.ServoWindows : Prop :=
  (∀ (s : State) (k : Nat),
      s.chip.inReset = false →
      s.chip.crownOn = false →
      ∃ t, exec (.offsetWindowEnd) s = .next t ∧ t.pending = s.pending
        ∧ t.chip.ch k = (if (s.chip.ch k).window.length < 32 then { s.chip.ch k with window := [], offValid := false } else { s.chip.ch k with window := [], offset := meanOf (s.chip.ch k).window, offValid := true, offKnown := true }))
  ∧ (∀ (s : State) (k r : Nat),
      s.chip.id.hub = true →
      s.chip.inReset = false →
      s.chip.crownOn = true →
      k < 2 →
      s.chip.chRef k = some r →
      s.chip.refType r ≠ 6 →
      (s.chip.ref r).qualified = true →
      ∃ t, exec (.offsetWindowEnd) s = .next t ∧ t.pending = s.pending
        ∧ (t.chip.ch k).offset = signedOf 64 (s.chip.ref r).phase.toNat * unit64 - divRound s.chip.rf.bo 1000000000
        ∧ (t.chip.ch k).offValid = true)
  ∧ (∀ (s : State) ,
      s.chip.inReset = false →
      ∃ t, exec (.buildOutDecay) s = .next t ∧ t.pending = s.pending
        ∧ t.chip.sv.bo = boDecay s.chip.sv.bo (1000000 * 2 ^ 32)
        ∧ t.chip.rf.bo = (if s.chip.crownOn && Word.bit (s.chip.reg Reg.RF_CFG) 29 then boDecay s.chip.rf.bo (s.chip.boSlew * 2 ^ 32) else s.chip.rf.bo)
        ∧ t.chip.sv.mode = s.chip.sv.mode
        ∧ t.chip.regs = s.chip.regs)
  ∧ (∀ (s : State) (m : Master),
      s.chip.opens m 0x03 = true →
      ∃ t, exec (.relearn m) s = .next t ∧ t.pending = s.pending
        ∧ (t.chip.port (s.chip.chPort (s.chip.chanOf m 0x03))).qual.learnt = false
        ∧ (t.chip.port (s.chip.chPort (s.chip.chanOf m 0x03))).qual.mpdRef = 0
        ∧ (t.chip.port (s.chip.chPort (s.chip.chanOf m 0x03))).qual.hist = []
        ∧ (t.chip.port (s.chip.chPort (s.chip.chanOf m 0x03))).qual.ok = false)
  ∧ (∀ (s : State) (m : Master),
      s.chip.opens m 0x03 = true →
      ∃ t, exec (.asymOk m) s = .next t ∧ t.pending = s.pending
        ∧ (t.chip.ch (s.chip.chanOf m 0x03)).asymUncal = false
        ∧ (t.chip.ch (s.chip.chanOf m 0x03)).offset = (s.chip.ch (s.chip.chanOf m 0x03)).offset)
  ∧ (∀ (s : State) (m : Master) (w : Word) (k : Nat),
      s.chip.opens m 0x08 = true →
      s.chip.portCh (s.chip.chanOf m 0x08) = some k →
      ∃ t, exec (.asymWrite m w) s = .next t ∧ t.pending = s.pending
        ∧ (t.chip.ch k).asymUncal = true
        ∧ t.chip.reg Reg.LN_ASYM (s.chip.chanOf m 0x08) = w)
  ∧ (∀ (s : State) ,
      s.chip.inReset = false →
      s.chip.sv.mode = .locked →
      s.chip.sv.horeadyFlag = false →
      ∃ t, exec (.hordy) s = .next t ∧ t.pending = s.pending
        ∧ t.chip.sv = { s.chip.sv with horeadyFlag := true })

/-- The servo's commanded and timed transitions at a die. FORCE_ACQ leaves LOCKED or holdover for ACQUIRE and asks for requalification while time is valid. The end of the holdover timer with both lanes down, or during main reset, enters HOLD_EXPIRED. FREQ_LOCK sets and FLOCK_LOST clears FREQ_LOCKED. SV_SWITCH takes the other channel if that is good and its lane stays qualified, and is refused if it is not good; PLANE_REVERT returns to channel 0. -/
def Obligations.ServoTransitions : Prop :=
  (∀ (s : State) (m : Master),
      s.chip.opens m 0x03 = true →
      s.chip.tk.valid = true →
      s.chip.sv.mode ∈ [.locked, .holdover, .holdExpired] →
      ∃ t, exec (.forceAcq m) s = .next t ∧ t.pending = s.pending
        ∧ t.chip.sv.mode = .acquire
        ∧ t.chip.sv.requal = true)
  ∧ (∀ (s : State) ,
      s.chip.id.hub = false →
      s.chip.inReset = false →
      s.chip.tk.valid = true →
      s.chip.sv.mode = .holdover →
      s.chip.isUp 0 = false →
      s.chip.isUp 1 = false →
      ∃ t, exec (.holdoverTimerExpiry) s = .next t ∧ t.pending = s.pending
        ∧ t.chip.sv.mode = .holdExpired
        ∧ t.chip.sv.hoTimer = none)
  ∧ (∀ (s : State) ,
      s.chip.inReset = true →
      s.chip.sv.mode = .holdover →
      ∃ t, exec (.holdoverTimerExpiry) s = .next t ∧ t.pending = s.pending
        ∧ t.chip.sv.mode = .holdExpired
        ∧ t.chip.sv.hoTimer = none
        ∧ t.chip.inReset = true
        ∧ t.chip.tk = s.chip.tk)
  ∧ (∀ (s : State) ,
      s.chip.id.hub = false →
      s.chip.inReset = false →
      s.chip.pllChoice.1 ≠ 0 →
      s.chip.sv.freqLocked = false →
      ∃ t, exec (.freqLock) s = .next t ∧ t.pending = s.pending
        ∧ t.chip.sv.freqLocked = true)
  ∧ (∀ (s : State) ,
      s.chip.inReset = false →
      s.chip.pllChoice.1 ≠ 0 →
      s.chip.sv.freqLocked = true →
      ∃ t, exec (.flockLost) s = .next t ∧ t.pending = s.pending
        ∧ t.chip.sv.freqLocked = false)
  ∧ (∀ (s : State) (m : Master),
      s.chip.id.hub = false →
      s.chip.opens m 0x03 = true →
      s.chip.sv.chan ≤ 1 →
      s.chip.good (1 - s.chip.sv.chan) = true →
      (s.chip.port (s.chip.chPort (1 - s.chip.sv.chan))).qual.ok = true →
      (s.chip.port (s.chip.chPort (1 - s.chip.sv.chan))).pmaLatOk = true →
      (s.chip.port (s.chip.chPort (1 - s.chip.sv.chan))).freqOk = true →
      ∃ t, exec (.svSwitch m) s = .next t ∧ t.pending = s.pending
        ∧ t.chip.sv.chan = 1 - s.chip.sv.chan)
  ∧ (∀ (s : State) (m : Master),
      s.chip.opens m 0x03 = true →
      s.chip.good (1 - s.chip.sv.chan) = false →
      ∃ t, exec (.svSwitch m) s = .next t ∧ t.pending = s.pending
        ∧ t.chip.sv = s.chip.sv
        ∧ t.chip.calm = s.chip.calm)
  ∧ (∀ (s : State) ,
      s.chip.id.hub = false →
      s.chip.inReset = false →
      Word.bit (s.chip.reg Reg.SV_CFG) 31 = true →
      s.chip.sv.chan = 1 →
      s.chip.good 0 = true →
      (s.chip.port (s.chip.chPort 0)).qual.ok = true →
      (s.chip.port (s.chip.chPort 0)).pmaLatOk = true →
      (s.chip.port (s.chip.chPort 0)).freqOk = true →
      ∃ t, exec (.planeRevert) s = .next t ∧ t.pending = s.pending
        ∧ t.chip.sv.chan = 0)

/-- References are qualified, disqualified, restored, configured and selected at a hub. REF_QUAL qualifies an enabled reference with its signal and within its limits, eligible at once unless it must wait to restore; REF_DISQ and REF_SIGNAL_LOSS take qualification and eligibility away and make it wait; WTR_EXPIRY makes it eligible again. A configuration that R145 refuses is kept and held disabled, another is taken. RF_FORCE takes its bits. Without a force, a selected reference that is disqualified gives way to the best eligible one that carries time, lower PRIO before higher and lower index before higher, the switch is flagged and recorded with both, and a crown's build-out takes up the difference of their offsets; with none left nothing is selected and reference holdover stands. A better reference that becomes eligible by the end of its wait to restore is selected where selection is revertive, and else the selected one stays. A qualified reference that carries time is selected while RF_FORCE names it. -/
def Obligations.ReferenceQualification : Prop :=
  (∀ (s : State) (r : RefIn),
      s.chip.id.hub = true →
      s.chip.inReset = false →
      s.chip.refOn r.val = true →
      s.chip.refSignal r.val = true →
      s.chip.refWithin r.val = true →
      (s.chip.refType r.val ≠ 6 ∨ ((s.chip.port 65).mode = .up ∧ (s.chip.port 65).qual.ok = true ∧ (s.chip.port 65).pmaLatOk = true ∧ (s.chip.port 65).freqOk = true)) →
      (s.chip.ref r.val).qualified = false →
      ∃ t, exec (.refQual r) s = .next t ∧ t.pending = s.pending
        ∧ (t.chip.ref r.val).qualified = true
        ∧ (t.chip.ref r.val).eligible = !((s.chip.ref r.val).wasDisq && decide (0 < s.chip.wtr)))
  ∧ (∀ (s : State) (r : RefIn),
      s.chip.id.hub = true →
      s.chip.inReset = false →
      (s.chip.ref r.val).qualified = true →
      ∃ t, exec (.refDisq r) s = .next t ∧ t.pending = s.pending
        ∧ (t.chip.ref r.val).qualified = false
        ∧ (t.chip.ref r.val).eligible = false
        ∧ (t.chip.ref r.val).wasDisq = true)
  ∧ (∀ (s : State) (r : RefIn),
      s.chip.id.hub = true →
      s.chip.inReset = false →
      s.chip.refOn r.val = true →
      s.chip.refType r.val ≠ 6 →
      (s.chip.ref r.val).qualified = true →
      ∃ t, exec (.refSignalLoss r) s = .next t ∧ t.pending = s.pending
        ∧ (t.chip.ref r.val).signal = false
        ∧ (t.chip.ref r.val).qualified = false
        ∧ (t.chip.ref r.val).wasDisq = true)
  ∧ (∀ (s : State) (r : RefIn),
      s.chip.id.hub = true →
      s.chip.inReset = false →
      (s.chip.refType r.val ≠ 6 ∨ ((s.chip.port 65).mode = .up ∧ (s.chip.port 65).qual.ok = true ∧ (s.chip.port 65).pmaLatOk = true ∧ (s.chip.port 65).freqOk = true)) →
      (s.chip.ref r.val).qualified = true →
      (s.chip.ref r.val).wtrStart.isSome = true →
      ∃ t, exec (.wtrExpiry r) s = .next t ∧ t.pending = s.pending
        ∧ (t.chip.ref r.val).eligible = true
        ∧ (t.chip.ref r.val).qualified = true
        ∧ (t.chip.ref r.val).wtrStart = none
        ∧ (t.chip.ref r.val).wasDisq = false)
  ∧ (∀ (s : State) (m : Master) (w : Word),
      s.chip.opens m 0x04 = true →
      s.chip.locked 0x04 = false →
      ∃ t, exec (.rfRcfgWrite m w) s = .next t ∧ t.pending = s.pending
        ∧ t.chip.refCfg (s.chip.chanOf m 0x04) = w &&& 0x870FFFFF
        ∧ (t.chip.ref (s.chip.chanOf m 0x04)).refused = (Word.bit w 31 && s.chip.refRefused (s.chip.chanOf m 0x04) (w &&& 0x870FFFFF)))
  ∧ (∀ (s : State) (m : Master) (w : Word),
      s.chip.opens m 0x04 = true →
      ∃ t, exec (.rfForceWrite m w) s = .next t ∧ t.pending = s.pending
        ∧ t.chip.reg Reg.RF_FORCE = Word.merge (s.chip.reg Reg.RF_FORCE) w 0x80000007)
  ∧ (∀ (s : State) (r q : RefIn),
      s.chip.id.hub = true →
      s.chip.inReset = false →
      s.chip.rf.selected = some r.val →
      (s.chip.ref r.val).qualified = true →
      Word.bit (s.chip.reg Reg.RF_FORCE) 31 = false →
      q.val ≠ r.val →
      (s.chip.refOn q.val && (s.chip.ref q.val).eligible && s.chip.timeCapable q.val) = true →
      (((List.range 8).all fun j => j == r.val || !(s.chip.refOn j && (s.chip.ref j).eligible && s.chip.timeCapable j) || decide (s.chip.refPrio q.val < s.chip.refPrio j ∨ (s.chip.refPrio q.val = s.chip.refPrio j ∧ q.val ≤ j))) = true) →
      s.chip.ev.queue.length < 32 →
      ∃ t, exec (.refDisq r) s = .next t ∧ t.pending = s.pending
        ∧ t.chip.rf.selected = some q.val
        ∧ Word.bit (t.chip.reg (histRow 0x04)) 2 = true
        ∧ (t.chip.ev.queue.any fun e => e.code == 0x0403 && e.p1 == BitVec.ofNat 32 q.val && e.p2 == BitVec.ofNat 32 r.val) = true
        ∧ (s.chip.crownOn = true → t.chip.crownOn = true → t.chip.rf.bo = s.chip.rf.bo + (s.chip.refOffset q.val - s.chip.refOffset r.val)))
  ∧ (∀ (s : State) (r : RefIn),
      s.chip.id.hub = true →
      s.chip.inReset = false →
      s.chip.rf.selected = some r.val →
      (s.chip.ref r.val).qualified = true →
      Word.bit (s.chip.reg Reg.RF_FORCE) 31 = false →
      ((List.range 8).all fun j => j == r.val || !(s.chip.refOn j && (s.chip.ref j).eligible && s.chip.timeCapable j)) = true →
      ∃ t, exec (.refDisq r) s = .next t ∧ t.pending = s.pending
        ∧ t.chip.rf.selected = none
        ∧ t.chip.rf.holdover = true)
  ∧ (∀ (s : State) (r q : RefIn),
      s.chip.id.hub = true →
      s.chip.inReset = false →
      s.chip.rf.selected = some r.val →
      (s.chip.ref r.val).eligible = true →
      s.chip.refOn r.val = true →
      s.chip.timeCapable r.val = true →
      s.chip.refType r.val ≠ 6 →
      Word.bit (s.chip.reg Reg.RF_FORCE) 31 = false →
      q.val ≠ r.val →
      s.chip.refOn q.val = true →
      s.chip.timeCapable q.val = true →
      s.chip.refType q.val ≠ 6 →
      (s.chip.ref q.val).qualified = true →
      (s.chip.ref q.val).wtrStart.isSome = true →
      (((List.range 8).all fun j => j == q.val || !(s.chip.refOn j && (s.chip.ref j).eligible && s.chip.timeCapable j) || decide (s.chip.refPrio q.val < s.chip.refPrio j ∨ (s.chip.refPrio q.val = s.chip.refPrio j ∧ q.val ≤ j))) = true) →
      ∃ t, exec (.wtrExpiry q) s = .next t ∧ t.pending = s.pending
        ∧ t.chip.rf.selected = some (if Word.bit (s.chip.reg Reg.RF_CFG) 31 then q.val else r.val))
  ∧ (∀ (s : State) (m : Master) (w : Word) (q : RefIn),
      s.chip.opens m 0x04 = true →
      Word.bit w 31 = true →
      Word.field w 0 3 = q.val →
      s.chip.refOn q.val = true →
      s.chip.timeCapable q.val = true →
      s.chip.refType q.val ≠ 6 →
      (s.chip.ref q.val).qualified = true →
      ∃ t, exec (.rfForceWrite m w) s = .next t ∧ t.pending = s.pending
        ∧ t.chip.rf.selected = some q.val
        ∧ t.chip.rf.forced = true)

/-- Edges, sentences and messages of references, and crown holdover. While the pins have their supply, a REF_EDGE stamps every enabled reference of its pin and shows the pin's activity; PPS_INV marks an inverted 1PPS input, corrected where PO_ICFG asks for it; a good TOD_SENTENCE labels the pulse before it: the reference has its signal and its phase is the pulse's stamp less the labelled time; a stamped two-step Sync is kept with its sender, and its Follow_Up within a second gives the signal. HO_TRACE clears TRACEABLE and AGEING_READY is set while controller firmware runs. That the sender of any Sync of the domain stands for its master, and that a Follow_Up is matched by its sequence number alone, are the model's choices (log entry 35). -/
def Obligations.ReferenceTime : Prop :=
  (∀ (s : State) (pin : OutPin) (phase : Fin 64),
      s.chip.id.hub = true →
      s.chip.inReset = false →
      s.chip.pw.io = true →
      ∃ t, exec (.refEdge pin phase) s = .next t ∧ t.pending = s.pending
        ∧ (∀ r ∈ s.chip.pinRefs pin.val, (t.chip.ref r).lastEdge = some (s.chip.tk.stamp s.chip.tk.frc phase.val))
        ∧ (∀ r ∈ s.chip.pinRefs pin.val, s.chip.refType r ≠ 1 → (t.chip.ref r).signal = true)
        ∧ (t.chip.po1 pin.val).activity = true)
  ∧ (∀ (s : State) (pin : OutPin),
      s.chip.id.hub = true →
      s.chip.inReset = false →
      s.chip.pw.io = true →
      ((s.chip.pinRefs pin.val).filter fun r => s.chip.refType r == 1) ≠ [] →
      (s.chip.po1 pin.val).inverted = false →
      ∃ t, exec (.ppsInv pin) s = .next t ∧ t.pending = s.pending
        ∧ (t.chip.po1 pin.val).inverted = true
        ∧ (t.chip.po1 pin.val).corrected = Word.bit (s.chip.reg Reg.PO_ICFG pin.val) 29
        ∧ (t.chip.po1 pin.val).pinHeld = !Word.bit (s.chip.reg Reg.PO_ICFG pin.val) 29)
  ∧ (∀ (s : State) (u : Fin 2) (utc : BitVec 40) (r n : Nat),
      s.chip.id.hub = true →
      s.chip.inReset = false →
      s.chip.pw.io = true →
      s.chip.fw.running = true →
      r < 8 →
      s.chip.refOn r = true →
      s.chip.refType r = 1 →
      s.chip.refSrc r % 2 = u.val →
      (s.chip.ref r).lastEdge = some n →
      10 * 1000000 * nsUnit ≤ timeDiff s.chip.now n →
      timeDiff s.chip.now n ≤ 950 * 1000000 * nsUnit →
      ∃ t, exec (.todSentence u true utc) s = .next t ∧ t.pending = s.pending
        ∧ (t.chip.ref r).signal = !(s.chip.po1 (s.chip.refSrc r / 16)).pinHeld
        ∧ (t.chip.ref r).phase = BitVec.ofInt 64 (divRound ((n : Int) - ((utc.toNat : Int) + s.chip.utcOffset) * 1000000000 * nsUnit) unit64)
        ∧ t.chip.po.uartAct = s.chip.po.uartAct ||| 2 ^ u.val)
  ∧ (∀ (s : State) (msg : PtpMsg) (r : Nat),
      s.chip.id.hub = true →
      s.chip.inReset = false →
      s.chip.fw.running = true →
      (((List.range 8).filter fun r => s.chip.refOn r && s.chip.refType r == 4 && s.chip.refSrc r % 64 == msg.tap.val).find? fun r => Word.field (s.chip.refCfg r) 0 8 == msg.domain.toNat) = some r →
      msg.kind = .sync →
      msg.stamped = true →
      msg.twoStep = true →
      ∃ t, exec (.ptpMessage msg) s = .next t ∧ t.pending = s.pending
        ∧ (t.chip.ref r).ptpSrc = some msg.src
        ∧ (t.chip.ref r).ptpSync = some (msg.seq.toNat, s.chip.tk.frc))
  ∧ (∀ (s : State) (msg : PtpMsg) (r f : Nat),
      s.chip.id.hub = true →
      s.chip.inReset = false →
      s.chip.fw.running = true →
      (((List.range 8).filter fun r => s.chip.refOn r && s.chip.refType r == 4 && s.chip.refSrc r % 64 == msg.tap.val).find? fun r => Word.field (s.chip.refCfg r) 0 8 == msg.domain.toNat) = some r →
      msg.kind = .followUp →
      (s.chip.ref r).ptpSync = some (msg.seq.toNat, f) →
      s.chip.tk.frc - f ≤ 1600000000 →
      ∃ t, exec (.ptpMessage msg) s = .next t ∧ t.pending = s.pending
        ∧ (t.chip.ref r).signal = true
        ∧ (t.chip.ref r).ptpSync = none)
  ∧ (∀ (s : State) ,
      s.chip.id.hub = true →
      s.chip.inReset = false →
      s.chip.fw.running = true →
      s.chip.crownOn = true →
      s.chip.rf.holdover = true →
      s.chip.rf.hoTraceDone = false →
      ∃ t, exec (.hoTrace) s = .next t ∧ t.pending = s.pending
        ∧ Word.bit (t.chip.reg Reg.TK_EPOCH) 0 = false)
  ∧ (∀ (s : State) ,
      s.chip.id.hub = true →
      s.chip.inReset = false →
      s.chip.fw.running = true →
      s.chip.rf.selected.isSome = true →
      ∃ t, exec (.ageingReady) s = .next t ∧ t.pending = s.pending
        ∧ t.chip.rf = { s.chip.rf with ageingReady := true }
        ∧ t.chip.regs = s.chip.regs)

/-- Chain calibration and drift correction of the region taps. RT_CMD.CAL starts chain calibration. CHAIN_CAL_DONE, while it runs, ends it and marks the chain as done for power sequencing: a tap whose hop and every earlier hop of its branch of 64 measured at most 1,024 steps with a spread of at most 4 is calibrated with half its round trip as hop ticks and TRIM, and with the sum of the hop ticks from the branch head, a first calibration at once and a later one from the next boundary on; a tap whose hop measured more is not calibrated. DRIFT_CHECK of a calibrated tap asks for one TRIM step in the direction in which the round trip has left its calibrated value, and for none where it has not. The step comes at the next boundary, and is not taken, with CAL_OK lost, where the drift would pass 8 steps. Branches of 64 taps, and the step or the loss of CAL_OK at the next boundary, are the model's choices (log entry 42). -/
def Obligations.TapCalibration : Prop :=
  (∀ (s : State) (m : Master),
      s.chip.opens m 0x0C = true →
      ∃ t, exec (.chainCal m) s = .next t ∧ t.pending = s.pending
        ∧ t.chip.rt = { s.chip.rt with calBusy := true }
        ∧ t.chip.pw = s.chip.pw
        ∧ t.chip.regs = s.chip.regs)
  ∧ (∀ (s : State) (hops : List HopMeas) (k : Nat),
      s.chip.id.hub = false →
      s.chip.inReset = false →
      s.chip.rt.calBusy = true →
      k < s.chip.id.ntaps →
      (s.chip.tap k).chainOk = false →
      (∀ j, j < k + 1 → 64 * (k / 64) ≤ j → (hops.getD j ⟨2048, 0⟩).trip ≤ 1024 ∧ (hops.getD j ⟨2048, 0⟩).spread ≤ 4 ∧ s.chip.calTakes j = true) →
      ∃ t, exec (.chainCalDone hops) s = .next t ∧ t.pending = s.pending
        ∧ (t.chip.tap k).calOk = true
        ∧ (t.chip.tap k).chainOk = true
        ∧ (t.chip.tap k).echo = (hops.getD k ⟨2048, 0⟩).trip
        ∧ (t.chip.tap k).trim = (hops.getD k ⟨2048, 0⟩).trip / 2 % 64
        ∧ (t.chip.tap k).hopTicks = (hops.getD k ⟨2048, 0⟩).trip / 2 / 64
        ∧ (t.chip.tap k).cumTicks = ((List.range (k % 64 + 1)).map fun j => (hops.getD (64 * (k / 64) + j) ⟨2048, 0⟩).trip / 2 / 64).sum
        ∧ t.chip.rt.calBusy = false
        ∧ t.chip.pw = { s.chip.pw with chainDone := true })
  ∧ (∀ (s : State) (hops : List HopMeas) (k : Nat),
      s.chip.id.hub = false →
      s.chip.inReset = false →
      s.chip.rt.calBusy = true →
      k < s.chip.id.ntaps →
      (s.chip.tap k).chainOk = true →
      (∀ j, j < k + 1 → 64 * (k / 64) ≤ j → (hops.getD j ⟨2048, 0⟩).trip ≤ 1024 ∧ (hops.getD j ⟨2048, 0⟩).spread ≤ 4 ∧ s.chip.calTakes j = true) →
      ∃ t, exec (.chainCalDone hops) s = .next t ∧ t.pending = s.pending
        ∧ (t.chip.tap k).calOk = true
        ∧ (t.chip.tap k).drift = 0
        ∧ (t.chip.tap k).trim = (s.chip.tap k).trim
        ∧ (t.chip.tap k).recal = some ((hops.getD k ⟨2048, 0⟩).trip / 2 % 64, (hops.getD k ⟨2048, 0⟩).trip / 2 / 64, ((List.range (k % 64 + 1)).map fun j => (hops.getD (64 * (k / 64) + j) ⟨2048, 0⟩).trip / 2 / 64).sum)
        ∧ t.chip.rt.calBusy = false)
  ∧ (∀ (s : State) (hops : List HopMeas) (k : Nat),
      s.chip.id.hub = false →
      s.chip.inReset = false →
      s.chip.rt.calBusy = true →
      k < s.chip.id.ntaps →
      s.chip.calTakes k = true →
      (1024 < (hops.getD k ⟨2048, 0⟩).trip ∨ 4 < (hops.getD k ⟨2048, 0⟩).spread) →
      ∃ t, exec (.chainCalDone hops) s = .next t ∧ t.pending = s.pending
        ∧ (t.chip.tap k).calOk = false
        ∧ t.chip.rt.calBusy = false)
  ∧ (∀ (s : State) (tp : Tap) (trip : BitVec 16),
      s.chip.id.hub = false →
      s.chip.inReset = false →
      tp.val < s.chip.id.ntaps →
      (s.chip.tap tp.val).calOk = true →
      ∃ t, exec (.driftCheck tp trip) s = .next t ∧ t.pending = s.pending
        ∧ t.chip.tap tp.val = { s.chip.tap tp.val with move := if (s.chip.tap tp.val).echo < (trip.toNat : Int) then 1 else if (trip.toNat : Int) < (s.chip.tap tp.val).echo then -1 else 0 }
        ∧ (∀ j, j ≠ tp.val → t.chip.tap j = s.chip.tap j)
        ∧ t.chip.sq = s.chip.sq
        ∧ t.chip.regs = s.chip.regs)
  ∧ (∀ (s : State) (faults : List Tap) (k : Nat) (m : Int),
      s.chip.id.hub = false →
      s.chip.inReset = false →
      s.chip.tk.tclk = true →
      s.chip.sv.stepFrom = none →
      s.chip.sharedBusy = false →
      s.chip.hsBusy = false →
      (s.chip.tap k).recal = none →
      (s.chip.tap k).move = m →
      m ≠ 0 →
      -8 ≤ (s.chip.tap k).drift + m →
      (s.chip.tap k).drift + m ≤ 8 →
      ∃ t, exec (.anchorBoundary faults) s = .next t ∧ t.pending = s.pending
        ∧ (t.chip.tap k).trim = (((s.chip.tap k).trim : Int) + m) % 64
        ∧ (t.chip.tap k).drift = (s.chip.tap k).drift + m
        ∧ (t.chip.tap k).move = 0)
  ∧ (∀ (s : State) (faults : List Tap) (k : Nat) (m : Int),
      s.chip.id.hub = false →
      s.chip.inReset = false →
      s.chip.tk.tclk = true →
      s.chip.sv.stepFrom = none →
      s.chip.sharedBusy = false →
      s.chip.hsBusy = false →
      (s.chip.tap k).recal = none →
      (s.chip.tap k).move = m →
      m ≠ 0 →
      ((s.chip.tap k).drift + m < -8 ∨ 8 < (s.chip.tap k).drift + m) →
      ∃ t, exec (.anchorBoundary faults) s = .next t ∧ t.pending = s.pending
        ∧ (t.chip.tap k).calOk = false
        ∧ (t.chip.tap k).trim = (s.chip.tap k).trim
        ∧ (t.chip.tap k).move = 0)

/-- An arm reaches its tap, its moment comes, and its line fires. ARM_ARRIVE takes the first arm under way to the line: one not yet due arms a free line within the bounds of the Guard; one that finds the line armed leaves it armed as it was; a cancelled one does nothing. TAP_MOMENT, in the tick that holds the tap moment, passes the arm of a live tap on to the next region edge where there is launch authority at the start of that tick, withholds it where there is none, and disarms it on a tap that is not live. FIRE_EDGE on a running region, at or after the tap moment and without a fence, fires the line once: it is disarmed, its flat time in 1/64 tick and its lateness are kept, and the time of the fire. -/
def Obligations.TriggerAtTheTap : Prop :=
  (∀ (s : State) (l : Line) (a : ArmFlight) (r : List ArmFlight),
      s.chip.id.hub = false →
      s.chip.inReset = false →
      takeFlight l.val s.chip.sq.flights = some (a, r) →
      a.cancelled = false →
      (s.chip.line l.val).armed = none →
      s.chip.trigBound l.val a.tf = none →
      s.chip.now ≤ a.tf →
      ∃ t, exec (.armArrive l) s = .next t ∧ t.pending = s.pending
        ∧ (t.chip.line l.val) = { s.chip.line l.val with armed := some { tf := a.tf, thread := a.thread, course := a.course, grp := a.grp, ctx := a.ctx, moment := none, calOk := false, withheld := false, inStop := false, solo := false } }
        ∧ t.chip.sq = { s.chip.sq with flights := r })
  ∧ (∀ (s : State) (l : Line) (a : ArmFlight) (r : List ArmFlight),
      s.chip.id.hub = false →
      s.chip.inReset = false →
      takeFlight l.val s.chip.sq.flights = some (a, r) →
      a.cancelled = false →
      (s.chip.line l.val).armed ≠ none →
      ∃ t, exec (.armArrive l) s = .next t ∧ t.pending = s.pending
        ∧ t.chip.rt = s.chip.rt
        ∧ t.chip.sq.flights = r)
  ∧ (∀ (s : State) (l : Line) (a : ArmFlight) (r : List ArmFlight),
      s.chip.id.hub = false →
      s.chip.inReset = false →
      takeFlight l.val s.chip.sq.flights = some (a, r) →
      a.cancelled = true →
      ∃ t, exec (.armArrive l) s = .next t ∧ t.pending = s.pending
        ∧ t.chip.rt = s.chip.rt
        ∧ t.chip.sq = { s.chip.sq with flights := r })
  ∧ (∀ (s : State) (l : Line) (a : LineArm),
      s.chip.id.hub = false →
      s.chip.inReset = false →
      (s.chip.line l.val).armed = some a →
      a.moment = none →
      a.withheld = false →
      a.tf < s.chip.tk.stamp (s.chip.tk.frc + 1) 0 →
      s.chip.tapLive (l.val / 4) = true →
      (a.solo = true ∨ s.chip.tapAuthority a.grp = true) →
      ∃ t, exec (.tapMoment l) s = .next t ∧ t.pending = s.pending
        ∧ t.chip.line l.val = { s.chip.line l.val with armed := some { a with moment := some a.tf, calOk := (s.chip.tap (l.val / 4)).calOk, inStop := (s.chip.tap (l.val / 4)).stopped } }
        ∧ t.chip.sq = s.chip.sq)
  ∧ (∀ (s : State) (l : Line) (a : LineArm),
      s.chip.id.hub = false →
      s.chip.inReset = false →
      (s.chip.line l.val).armed = some a →
      a.moment = none →
      a.withheld = false →
      a.tf < s.chip.tk.stamp (s.chip.tk.frc + 1) 0 →
      s.chip.tapLive (l.val / 4) = true →
      a.solo = false →
      s.chip.tapAuthority a.grp = false →
      ∃ t, exec (.tapMoment l) s = .next t ∧ t.pending = s.pending
        ∧ t.chip.line l.val = { s.chip.line l.val with armed := some { a with withheld := true } })
  ∧ (∀ (s : State) (l : Line) (a : LineArm),
      s.chip.id.hub = false →
      s.chip.inReset = false →
      (s.chip.line l.val).armed = some a →
      a.moment = none →
      a.withheld = false →
      a.tf < s.chip.tk.stamp (s.chip.tk.frc + 1) 0 →
      s.chip.tapLive (l.val / 4) = false →
      ∃ t, exec (.tapMoment l) s = .next t ∧ t.pending = s.pending
        ∧ t.chip.line l.val = { s.chip.line l.val with armed := none })
  ∧ (∀ (s : State) (l : Line) (phase : Fin 64) (a : LineArm) (at_ : Nat),
      s.chip.id.hub = false →
      s.chip.inReset = false →
      l.val / 4 < s.chip.id.ntaps →
      (s.chip.line l.val).armed = some a →
      a.moment = some at_ →
      at_ ≤ s.chip.tk.stamp s.chip.tk.frc phase.val →
      (s.chip.tap (l.val / 4)).running = true →
      (s.chip.tap (l.val / 4)).stopped = false →
      (s.chip.tap (l.val / 4)).edgeDue = false →
      s.chip.hg.fenced = false →
      ∃ t, exec (.fireEdge l phase) s = .next t ∧ t.pending = s.pending
        ∧ (t.chip.line l.val).armed = none
        ∧ (t.chip.line l.val).lastFire = some (s.chip.tk.stamp s.chip.tk.frc phase.val)
        ∧ (t.chip.line l.val).flat = satNat 24 ((s.chip.tk.stamp s.chip.tk.frc phase.val - a.tf) / unit64)
        ∧ (t.chip.line l.val).late = (decide (s.chip.fireBudget (l.val / 4) < satNat 24 ((s.chip.tk.stamp s.chip.tk.frc phase.val - a.tf) / unit64)) || a.inStop)
        ∧ (t.chip.tap (l.val / 4)).acc = 0
        ∧ (∀ j, j ≠ l.val → t.chip.line j = s.chip.line j))
  ∧ (∀ (s : State) (l : Line) (phase : Fin 64),
      s.chip.id.hub = false →
      s.chip.inReset = false →
      l.val / 4 < s.chip.id.ntaps →
      (s.chip.tap (l.val / 4)).edgeDue = false →
      s.chip.hg.fenced = true →
      ∃ t, exec (.fireEdge l phase) s = .next t ∧ t.pending = s.pending
        ∧ t.chip.rt = s.chip.rt
        ∧ t.chip.sq = s.chip.sq
        ∧ t.chip.mn = s.chip.mn)

/-- Region periods, stops and operating points. REGION_PERIOD_END of a running region adds what the period exceeds its nominal one by to the accumulated extension, where it exceeds it by more than 2 steps, and nothing otherwise. STOPREQ stops a running region at the present tick; that it makes a region that stands already one that stands for the host alone is the model's choice (log entry 42). REGION_RUN of a standing region whose region reset still stands keeps it standing, to run at the operating point given once the reset is acknowledged. REGION_RUN, without a region reset and with the host out of reset, runs a region that is stopped or has never run at the operating point given, takes its calibrated period where there is one and measures it where there is none, and clears the extension; the length of the stop it ends is kept in ns, with the longest; OPCAL_DONE stores the period measured. -/
def Obligations.RegionPeriodsAndStops : Prop :=
  (∀ (s : State) (tp : Tap) (ph : Fin 64) (p : BitVec 24),
      s.chip.id.hub = false →
      s.chip.inReset = false →
      tp.val < s.chip.id.ntaps →
      (s.chip.tap tp.val).running = true →
      (s.chip.tap tp.val).stopped = false →
      (s.chip.tap tp.val).edgeDue = false →
      (s.chip.tap tp.val).rper ≠ 0 →
      (s.chip.tap tp.val).rper + 2 < p.toNat →
      ∃ t, exec (.regionPeriodEnd ⟨tp, ph⟩ p) s = .next t ∧ t.pending = s.pending
        ∧ (t.chip.tap tp.val).acc = satNat 24 ((s.chip.tap tp.val).acc + (p.toNat - (s.chip.tap tp.val).rper))
        ∧ (t.chip.tap tp.val).rper = (s.chip.tap tp.val).rper
        ∧ t.chip.rt.engs = s.chip.rt.engs
        ∧ (∀ j, (t.chip.line j).armed = (s.chip.line j).armed))
  ∧ (∀ (s : State) (tp : Tap) (ph : Fin 64) (p : BitVec 24),
      s.chip.id.hub = false →
      s.chip.inReset = false →
      tp.val < s.chip.id.ntaps →
      (s.chip.tap tp.val).running = true →
      (s.chip.tap tp.val).stopped = false →
      (s.chip.tap tp.val).edgeDue = false →
      p.toNat ≤ (s.chip.tap tp.val).rper + 2 →
      ∃ t, exec (.regionPeriodEnd ⟨tp, ph⟩ p) s = .next t ∧ t.pending = s.pending
        ∧ (t.chip.tap tp.val).acc = (s.chip.tap tp.val).acc
        ∧ (t.chip.tap tp.val).running = true)
  ∧ (∀ (s : State) (tp : Tap),
      s.chip.id.hub = false →
      s.chip.inReset = false →
      tp.val < s.chip.id.ntaps →
      (s.chip.tap tp.val).running = true →
      (s.chip.tap tp.val).stopped = false →
      ∃ t, exec (.stopreq tp) s = .next t ∧ t.pending = s.pending
        ∧ t.chip.tap tp.val = { s.chip.tap tp.val with stopped := true, stopAt := s.chip.tk.frc, wakeOut := [] }
        ∧ (∀ j, j ≠ tp.val → t.chip.tap j = s.chip.tap j)
        ∧ t.chip.sq = s.chip.sq)
  ∧ (∀ (s : State) (tp : Tap),
      s.chip.id.hub = false →
      s.chip.inReset = false →
      tp.val < s.chip.id.ntaps →
      ((s.chip.tap tp.val).running = false ∨ (s.chip.tap tp.val).stopped = true) →
      ∃ t, exec (.stopreq tp) s = .next t ∧ t.pending = s.pending
        ∧ t.chip.tap tp.val = { s.chip.tap tp.val with hostStop := false, rstStop := false, edgeDue := false }
        ∧ (∀ j, j ≠ tp.val → t.chip.tap j = s.chip.tap j)
        ∧ t.chip.sq = s.chip.sq)
  ∧ (∀ (s : State) (tp : Tap) (ph : Fin 64) (op : Fin 4),
      s.chip.id.hub = false →
      s.chip.inReset = false →
      tp.val < s.chip.id.ntaps →
      (s.chip.tap tp.val).stopped = true →
      (s.chip.tap tp.val).rgnReset = false →
      s.chip.pw.hostLow = false →
      ∃ t, exec (.regionRun ⟨tp, ph⟩ op) s = .next t ∧ t.pending = s.pending
        ∧ (t.chip.tap tp.val).stopLast = satNat 16 ((s.chip.tk.frc - (s.chip.tap tp.val).stopAt) * 5 / 8)
        ∧ (t.chip.tap tp.val).stopLong = max (s.chip.tap tp.val).stopLong (satNat 16 ((s.chip.tk.frc - (s.chip.tap tp.val).stopAt) * 5 / 8))
        ∧ (t.chip.tap tp.val).stopped = false
        ∧ (t.chip.tap tp.val).heldIn = [])
  ∧ (∀ (s : State) (tp : Tap) (ph : Fin 64) (op : Fin 4),
      s.chip.id.hub = false →
      s.chip.inReset = false →
      tp.val < s.chip.id.ntaps →
      ((s.chip.tap tp.val).running = false ∨ (s.chip.tap tp.val).stopped = true) →
      (s.chip.tap tp.val).rgnReset = false →
      s.chip.pw.hostLow = false →
      ∃ t, exec (.regionRun ⟨tp, ph⟩ op) s = .next t ∧ t.pending = s.pending
        ∧ (t.chip.tap tp.val).running = true
        ∧ (t.chip.tap tp.val).stopped = false
        ∧ (t.chip.tap tp.val).opsel = op.val
        ∧ (t.chip.tap tp.val).acc = 0
        ∧ (t.chip.tap tp.val).measuring = !(SMap.has (s.chip.tap tp.val).opcal op.val)
        ∧ (t.chip.tap tp.val).rper = (if SMap.has (s.chip.tap tp.val).opcal op.val then SMap.find (s.chip.tap tp.val).opcal op.val 0 else (s.chip.tap tp.val).rper))
  ∧ (∀ (s : State) (tp : Tap) (ph : Fin 64) (op : Fin 4),
      s.chip.id.hub = false →
      s.chip.inReset = false →
      tp.val < s.chip.id.ntaps →
      ((s.chip.tap tp.val).running = false ∨ (s.chip.tap tp.val).stopped = true) →
      (s.chip.tap tp.val).rgnReset = true →
      ∃ t, exec (.regionRun ⟨tp, ph⟩ op) s = .next t ∧ t.pending = s.pending
        ∧ (t.chip.tap tp.val).stopped = true
        ∧ (t.chip.tap tp.val).running = true
        ∧ (t.chip.tap tp.val).opsel = op.val
        ∧ (t.chip.tap tp.val).rstStop = true
        ∧ t.chip.rt.lines = s.chip.rt.lines
        ∧ t.chip.sq = s.chip.sq)
  ∧ (∀ (s : State) (tp : Tap) (p : BitVec 24),
      s.chip.id.hub = false →
      s.chip.inReset = false →
      tp.val < s.chip.id.ntaps →
      (s.chip.tap tp.val).running = true →
      (s.chip.tap tp.val).stopped = false →
      (s.chip.tap tp.val).measuring = true →
      ∃ t, exec (.opcalDone tp p) s = .next t ∧ t.pending = s.pending
        ∧ (t.chip.tap tp.val).rper = p.toNat
        ∧ SMap.find (t.chip.tap tp.val).opcal (s.chip.tap tp.val).opsel 0 = p.toNat
        ∧ (t.chip.tap tp.val).measuring = false
        ∧ (t.chip.tap tp.val).trim = (s.chip.tap tp.val).trim
        ∧ t.chip.regs = s.chip.regs)

/-- Crossings: a strobe gets its boundary and a release keeps to it. XC_STROBE on a crossing in DET mode that is calibrated and is not being calibrated puts a write in flight with the boundary of its source time, path latency and allowance; on a crossing in ASYNC mode, or in calibration, one without a boundary; on a crossing that is off it does nothing. XC_RELEASE between running regions before the boundary does nothing; at or after it the oldest write is presented; a write taken again counts as a slip. RT_TCMD.XCAL starts the calibration of a tap and ends the ASYNC running of the crossings that touch it, and XCAL_DONE stores each latency of up to 15 ticks and leaves a crossing with a longer one uncalibrated at the current point. That XCAL ends the ASYNC running of every crossing that touches the tap, that a crossing found too long loses its calibration, and that writes run as ASYNC while their crossing is calibrated are the model's choices (log entry 42). -/
def Obligations.CrossingsInDeterministicMode : Prop :=
  (∀ (s : State) (x : Crossing) (phase : Fin 64) (n : Nat),
      s.chip.id.hub = false →
      s.chip.inReset = false →
      x.val / 4 < s.chip.id.ntaps →
      s.chip.xcMode x.val = 2 →
      (s.chip.xc x.val).busy = false →
      s.chip.xcCal x.val = some n →
      ∃ t, exec (.xcStrobe x phase) s = .next t ∧ t.pending = s.pending
        ∧ (t.chip.xc x.val).writes = (s.chip.xc x.val).writes ++ [{ boundary := some ((s.chip.frc64 phase.val - (s.chip.tap (s.chip.xcSrc x.val)).acc + 63) / 64 + n + Word.field (s.chip.reg Reg.RT_XALLOW (x.val / 4) (x.val % 4)) 0 8), slipped := false }]
        ∧ t.chip.rt.taps = s.chip.rt.taps
        ∧ t.chip.sq = s.chip.sq)
  ∧ (∀ (s : State) (x : Crossing) (phase : Fin 64),
      s.chip.id.hub = false →
      s.chip.inReset = false →
      x.val / 4 < s.chip.id.ntaps →
      (s.chip.xcMode x.val = 1 ∨ (s.chip.xcMode x.val = 2 ∧ ((s.chip.xc x.val).busy = true ∨ s.chip.xcCal x.val = none))) →
      ∃ t, exec (.xcStrobe x phase) s = .next t ∧ t.pending = s.pending
        ∧ (t.chip.xc x.val).writes = (s.chip.xc x.val).writes ++ [{ boundary := none, slipped := false }]
        ∧ t.chip.rt.taps = s.chip.rt.taps
        ∧ t.chip.sq = s.chip.sq)
  ∧ (∀ (s : State) (x : Crossing) (phase : Fin 64),
      s.chip.id.hub = false →
      s.chip.inReset = false →
      x.val / 4 < s.chip.id.ntaps →
      s.chip.xcMode x.val = 0 →
      ∃ t, exec (.xcStrobe x phase) s = .next t ∧ t.pending = s.pending
        ∧ t.chip.rt = s.chip.rt)
  ∧ (∀ (s : State) (x : Crossing) (phase : Fin 64) (again : Bool) (w : XcWrite) (r : List XcWrite) (n : Nat),
      s.chip.id.hub = false →
      s.chip.inReset = false →
      x.val / 4 < s.chip.id.ntaps →
      s.chip.xcMode x.val ≠ 0 →
      (s.chip.tap (x.val / 4)).stopped = false →
      (s.chip.tap (s.chip.xcSrc x.val)).stopped = false →
      (s.chip.xc x.val).writes = w :: r →
      w.boundary = some n →
      s.chip.frc64 phase.val - (s.chip.tap (x.val / 4)).acc < n * 64 →
      ∃ t, exec (.xcRelease x phase again) s = .next t ∧ t.pending = s.pending
        ∧ t.chip.rt = s.chip.rt
        ∧ t.chip.gr = s.chip.gr)
  ∧ (∀ (s : State) (x : Crossing) (phase : Fin 64) (again : Bool) (w : XcWrite) (r : List XcWrite) (n : Nat),
      s.chip.id.hub = false →
      s.chip.inReset = false →
      x.val / 4 < s.chip.id.ntaps →
      s.chip.xcMode x.val ≠ 0 →
      (s.chip.tap (x.val / 4)).stopped = false →
      (s.chip.tap (s.chip.xcSrc x.val)).stopped = false →
      (s.chip.xc x.val).writes = w :: r →
      w.boundary = some n →
      n * 64 ≤ s.chip.frc64 phase.val - (s.chip.tap (x.val / 4)).acc →
      ∃ t, exec (.xcRelease x phase again) s = .next t ∧ t.pending = s.pending
        ∧ (t.chip.xc x.val).writes = r
        ∧ (t.chip.xc x.val).slipped = ((s.chip.xc x.val).slipped || again || w.slipped)
        ∧ t.chip.rt.taps = s.chip.rt.taps)
  ∧ (∀ (s : State) (m : Master),
      s.chip.opens m 0x0C = true →
      ∃ t, exec (.xcal m) s = .next t ∧ t.pending = s.pending
        ∧ t.chip.tap (s.chip.chanOf m 0x0C) = { s.chip.tap (s.chip.chanOf m 0x0C) with xcal := true }
        ∧ (∀ n ∈ s.chip.xcTouching (s.chip.chanOf m 0x0C), (t.chip.xc n).uncal = false)
        ∧ (∀ n, n / 4 = s.chip.chanOf m 0x0C → s.chip.xcMode n ≠ 0 → (t.chip.xc n).busy = true)
        ∧ t.chip.rt.lines = s.chip.rt.lines
        ∧ t.chip.regs = s.chip.regs)
  ∧ (∀ (s : State) (tp : Tap) (a0 a1 a2 a3 : BitVec 8),
      s.chip.id.hub = false →
      s.chip.inReset = false →
      tp.val < s.chip.id.ntaps →
      (s.chip.tap tp.val).xcal = true →
      (s.chip.tap tp.val).stopped = false →
      s.chip.xcMode (4 * tp.val) ≠ 0 →
      s.chip.xcMode (4 * tp.val + 1) ≠ 0 →
      s.chip.xcMode (4 * tp.val + 2) ≠ 0 →
      s.chip.xcMode (4 * tp.val + 3) ≠ 0 →
      (∀ j, j < 4 → (s.chip.xc (4 * tp.val + j)).busy = true) →
      ∃ t, exec (.xcalDone tp a0 a1 a2 a3) s = .next t ∧ t.pending = s.pending
        ∧ (t.chip.tap tp.val).xcal = false
        ∧ (t.chip.xc (4 * tp.val)).lpath = (if a0.toNat ≤ 15 then SMap.insert (s.chip.xc (4 * tp.val)).lpath (s.chip.tap tp.val).opsel a0.toNat else SMap.erase (s.chip.xc (4 * tp.val)).lpath (s.chip.tap tp.val).opsel)
        ∧ (t.chip.xc (4 * tp.val + 1)).lpath = (if a1.toNat ≤ 15 then SMap.insert (s.chip.xc (4 * tp.val + 1)).lpath (s.chip.tap tp.val).opsel a1.toNat else SMap.erase (s.chip.xc (4 * tp.val + 1)).lpath (s.chip.tap tp.val).opsel)
        ∧ (t.chip.xc (4 * tp.val + 2)).lpath = (if a2.toNat ≤ 15 then SMap.insert (s.chip.xc (4 * tp.val + 2)).lpath (s.chip.tap tp.val).opsel a2.toNat else SMap.erase (s.chip.xc (4 * tp.val + 2)).lpath (s.chip.tap tp.val).opsel)
        ∧ (t.chip.xc (4 * tp.val + 3)).lpath = (if a3.toNat ≤ 15 then SMap.insert (s.chip.xc (4 * tp.val + 3)).lpath (s.chip.tap tp.val).opsel a3.toNat else SMap.erase (s.chip.xc (4 * tp.val + 3)).lpath (s.chip.tap tp.val).opsel))

/-- Engine starts, heartbeats, done inputs and their status words. While its region runs, ENG_START puts a context in front of the engine log of eight, with its word, its stamp as start time and no done time, and the engine is not done. HEARTBEAT restarts the heartbeat timer and keeps the log. ENGINE_DONE outside a solo replay marks the engine done and gives the newest open context its stamp as done time. An input of an engine whose region stands is held at the tap. ENG_STATUS of the engine under reading takes it from those left, and stores its words in its place. That an input of an engine whose region stands is held at the tap and taken at the first edge is the model's choice (log entry 29). -/
def Obligations.EnginesAtTheTap : Prop :=
  (∀ (s : State) (e : Engine) (w : Word) (phase : Fin 64),
      s.chip.id.hub = false →
      s.chip.inReset = false →
      e.val / 4 < s.chip.id.ntaps →
      (s.chip.tap (e.val / 4)).stopped = false →
      ∃ t, exec (.engStart ⟨e, phase⟩ w) s = .next t ∧ t.pending = s.pending
        ∧ (t.chip.eng e.val).log.head?.map (fun k => (k.ctx, k.startT, k.done)) = some (w, (s.chip.tk.stamp s.chip.tk.frc phase.val), none)
        ∧ (t.chip.eng e.val).log.drop 1 = (s.chip.eng e.val).log.take 7
        ∧ (t.chip.eng e.val).done = false
        ∧ (t.chip.eng e.val).hbAt = (if (s.chip.eng e.val).done = true then s.chip.hbFrom (s.chip.tk.stamp s.chip.tk.frc phase.val) else (s.chip.eng e.val).hbAt)
        ∧ (∀ j, j ≠ e.val → t.chip.eng j = s.chip.eng j))
  ∧ (∀ (s : State) (e : Engine) (w : Word) (phase : Fin 64),
      s.chip.id.hub = false →
      s.chip.inReset = false →
      e.val / 4 < s.chip.id.ntaps →
      (s.chip.tap (e.val / 4)).stopped = true →
      ∃ t, exec (.engStart ⟨e, phase⟩ w) s = .next t ∧ t.pending = s.pending
        ∧ t.chip.tap (e.val / 4) = { s.chip.tap (e.val / 4) with heldIn := (s.chip.tap (e.val / 4)).heldIn ++ [(e.val, .start w)] }
        ∧ t.chip.rt.engs = s.chip.rt.engs
        ∧ t.chip.hg = s.chip.hg)
  ∧ (∀ (s : State) (e : Engine) (phase : Fin 64),
      s.chip.id.hub = false →
      s.chip.inReset = false →
      e.val / 4 < s.chip.id.ntaps →
      (s.chip.tap (e.val / 4)).stopped = true →
      ∃ t, exec (.heartbeat ⟨e, phase⟩) s = .next t ∧ t.pending = s.pending
        ∧ t.chip.tap (e.val / 4) = { s.chip.tap (e.val / 4) with heldIn := (s.chip.tap (e.val / 4)).heldIn ++ [(e.val, .heartbeat)] }
        ∧ t.chip.rt.engs = s.chip.rt.engs
        ∧ t.chip.hg = s.chip.hg)
  ∧ (∀ (s : State) (e : Engine) (phase : Fin 64),
      s.chip.id.hub = false →
      s.chip.inReset = false →
      e.val / 4 < s.chip.id.ntaps →
      (s.chip.tap (e.val / 4)).stopped = true →
      ∃ t, exec (.engineDone ⟨e, phase⟩) s = .next t ∧ t.pending = s.pending
        ∧ t.chip.tap (e.val / 4) = { s.chip.tap (e.val / 4) with heldIn := (s.chip.tap (e.val / 4)).heldIn ++ [(e.val, .done)] }
        ∧ t.chip.rt.engs = s.chip.rt.engs
        ∧ t.chip.hg = s.chip.hg)
  ∧ (∀ (s : State) (e : Engine) (phase : Fin 64),
      s.chip.id.hub = false →
      s.chip.inReset = false →
      e.val / 4 < s.chip.id.ntaps →
      (s.chip.tap (e.val / 4)).stopped = false →
      ∃ t, exec (.heartbeat ⟨e, phase⟩) s = .next t ∧ t.pending = s.pending
        ∧ (t.chip.eng e.val).hbAt = s.chip.hbFrom (s.chip.tk.stamp s.chip.tk.frc phase.val)
        ∧ (t.chip.eng e.val).log = (s.chip.eng e.val).log
        ∧ (t.chip.eng e.val).done = (s.chip.eng e.val).done
        ∧ t.chip.rt.taps = s.chip.rt.taps
        ∧ t.chip.hg = s.chip.hg)
  ∧ (∀ (s : State) (e : Engine) (phase : Fin 64),
      s.chip.id.hub = false →
      s.chip.inReset = false →
      e.val / 4 < s.chip.id.ntaps →
      (s.chip.tap (e.val / 4)).stopped = false →
      s.chip.hg.solo ≠ .wait →
      ∃ t, exec (.engineDone ⟨e, phase⟩) s = .next t ∧ t.pending = s.pending
        ∧ (t.chip.eng e.val).done = true
        ∧ (t.chip.eng e.val).log = markDone (s.chip.tk.stamp s.chip.tk.frc phase.val) (s.chip.eng e.val).log
        ∧ t.chip.hg = s.chip.hg
        ∧ t.chip.rt.lines = s.chip.rt.lines)
  ∧ (∀ (s : State) (e : Engine) (l : List Word),
      s.chip.id.hub = false →
      s.chip.inReset = false →
      e.val / 4 < s.chip.id.ntaps →
      s.chip.readingEng e.val = true →
      l.length = 64 →
      ∃ t, exec (.engStatus e l) s = .next t ∧ t.pending = s.pending
        ∧ t.chip.cp.left = s.chip.cp.left.filter (fun k => k != e.val)
        ∧ (∀ k, k < 64 → SMap.find t.chip.cp.words (0xB000 + 64 * indexOf e.val s.chip.cp.engs 0 + k) 0 = l.getD k 0)
        ∧ t.chip.cp.stage = s.chip.cp.stage
        ∧ t.chip.rt = s.chip.rt)

/-- Transmit and receive stamps at the MAC taps, and their queue. A transmit strobe of class 1 or 2 at an enabled tap that queues its stamps, not missed and with room in the queue of 16, puts its stamp at the end of the queue: the Lyspen time of the strobe with the egress correction, modulo 2^96. A receive strobe gives the tap its receive stamp with the ingress correction taken off. At a tap that is not enabled a strobe does nothing. Reading TS_TXQ0 takes one stamp from the queue of the selected tap. -/
def Obligations.MacTapStamps : Prop :=
  (∀ (s : State) (mt : MacTap) (fid : BitVec 16) (cls : BitVec 2) (phase : Fin 64),
      s.chip.inReset = false →
      (cls = 1 ∨ cls = 2) →
      Word.bit (s.chip.tsCfg mt.val) 31 = true →
      Word.bit (s.chip.tsCfg mt.val) 29 = true →
      strobeMissed (s.chip.tsTap mt.val).lastTx (s.chip.frc64 phase.val) = false →
      (s.chip.tsTap mt.val).txq.length < 16 →
      ∃ t, exec (.txSof mt fid cls phase) s = .next t ∧ t.pending = s.pending
        ∧ (t.chip.tsTap mt.val).txq = (s.chip.tsTap mt.val).txq ++ [{ fid := fid.toNat, missed := false, ovrBefore := (s.chip.tsTap mt.val).ovr, time := (s.chip.tk.stamp s.chip.tk.frc phase.val + Word.field (s.chip.reg Reg.TS_EGR mt.val) 0 24 * unit64) % 2 ^ 96 }]
        ∧ (t.chip.tsTap mt.val).lastTx = some (s.chip.frc64 phase.val)
        ∧ (t.chip.tsTap mt.val).ovr = false
        ∧ (∀ j, j ≠ mt.val → t.chip.tsTap j = s.chip.tsTap j)
        ∧ t.chip.regs = s.chip.regs)
  ∧ (∀ (s : State) (mt : MacTap) (cls : BitVec 2) (phase : Fin 64),
      s.chip.inReset = false →
      cls ≠ 0 →
      Word.bit (s.chip.tsCfg mt.val) 31 = true →
      strobeMissed (s.chip.tsTap mt.val).lastRx (s.chip.frc64 phase.val) = false →
      ∃ t, exec (.rxSof mt cls phase) s = .next t ∧ t.pending = s.pending
        ∧ (t.chip.tsTap mt.val).rxts = some { fid := cls.toNat, missed := false, ovrBefore := false, time := (s.chip.tk.stamp s.chip.tk.frc phase.val + 2 ^ 96 - Word.field (s.chip.reg Reg.TS_ING mt.val) 0 24 * unit64) % 2 ^ 96 }
        ∧ (t.chip.tsTap mt.val).rxl = (s.chip.tk.stamp s.chip.tk.frc phase.val + 2 ^ 96 - Word.field (s.chip.reg Reg.TS_ING mt.val) 0 24 * unit64) % 2 ^ 96
        ∧ (t.chip.tsTap mt.val).rxlCls = cls.toNat
        ∧ (t.chip.tsTap mt.val).txq = (s.chip.tsTap mt.val).txq)
  ∧ (∀ (s : State) (mt : MacTap) (fid : BitVec 16) (cls : BitVec 2) (phase : Fin 64),
      s.chip.inReset = false →
      Word.bit (s.chip.tsCfg mt.val) 31 = false →
      ∃ t, exec (.txSof mt fid cls phase) s = .next t ∧ t.pending = s.pending
        ∧ t.chip.ts = s.chip.ts
        ∧ t.chip.regs = s.chip.regs)
  ∧ (∀ (s : State) (mt : MacTap) (cls : BitVec 2) (phase : Fin 64),
      s.chip.inReset = false →
      Word.bit (s.chip.tsCfg mt.val) 31 = false →
      ∃ t, exec (.rxSof mt cls phase) s = .next t ∧ t.pending = s.pending
        ∧ t.chip.ts = s.chip.ts
        ∧ t.chip.regs = s.chip.regs)
  ∧ (∀ (s : State) (m : Master),
      s.chip.opens m 0x0D = true →
      ∃ t, exec (.txqPop m) s = .next t ∧ t.pending = s.pending
        ∧ (t.chip.tsTap (s.chip.chanOf m 0x0D)) = { s.chip.tsTap (s.chip.chanOf m 0x0D) with txq := (s.chip.tsTap (s.chip.chanOf m 0x0D)).txq.drop 1 }
        ∧ (∀ j, j ≠ s.chip.chanOf m 0x0D → t.chip.tsTap j = s.chip.tsTap j)
        ∧ t.chip.regs = s.chip.regs)
  ∧ (∀ (s : State) (m : Master),
      s.chip.opens m 0x0D = true →
      ∃ t, exec (.swqPop m) s = .next t ∧ t.pending = s.pending
        ∧ t.chip.ts = { s.chip.ts with swq := s.chip.ts.swq.drop 1 }
        ∧ t.chip.regs = s.chip.regs)
  ∧ (∀ (s : State) (i : Fin 4),
      s.chip.inReset = false →
      s.chip.ts.swWait.contains i.val = false →
      s.chip.fw.running = true →
      s.chip.ts.swq.length < 8 →
      ∃ t, exec (.swevt i) s = .next t ∧ t.pending = s.pending
        ∧ t.chip.ts.swq.dropLast = s.chip.ts.swq
        ∧ (t.chip.ts.swq.map fun e => e.1) = (s.chip.ts.swq.map fun e => e.1) ++ [i.val]
        ∧ (∀ e ∈ t.chip.ts.swq.drop s.chip.ts.swq.length, e.2 ≤ s.chip.now + 2000 * nsUnit ∧ s.chip.now ≤ e.2 + 2000 * nsUnit)
        ∧ t.chip.ts.taps = s.chip.ts.taps)
  ∧ (∀ (s : State) (i : Fin 4),
      s.chip.inReset = false →
      s.chip.ts.swWait.contains i.val = false →
      s.chip.fw.running = false →
      ∃ t, exec (.swevt i) s = .next t ∧ t.pending = s.pending
        ∧ t.chip.ts.swq = s.chip.ts.swq
        ∧ t.chip.ts.swWait = i.val :: s.chip.ts.swWait)
  ∧ (∀ (s : State) (i : Fin 4),
      s.chip.inReset = false →
      s.chip.ts.swWait.contains i.val = true →
      ∃ t, exec (.swevt i) s = .next t ∧ t.pending = s.pending
        ∧ t.chip.ts.swq = s.chip.ts.swq
        ∧ t.chip.ts.swWait = s.chip.ts.swWait)

/-- Plumb payloads as they are offered, taken and discarded, their exchanges, windows and alarms. PLUMB_SEND at a tap whose plumb check runs offers the payload made of its time, its last stamps and its steps. A payload of format 1 with an address that follows a plumb strobe becomes what was received from that neighbour, with the stamp of the strobe and the count of steps at it; one of another format, or without an address, is discarded, as is a strobe whose payload does not come in time. A payload of the neighbour known forms an exchange of t1 to t4: where both ends are valid, the stamps held and no step between, twice THETA and twice DELAY are added to the window's sums; else the exchange is skipped and counted. The sixteenth exchange ends the window: THETA and DELAY become the means, the alarm is entered above LIMIT and left at LIMIT less 1 ns, and SUSPECT stands while a quorum of taps in alarm show one sign; when it comes to stand it names the active channel. -/
def Obligations.PlumbPayloads : Prop :=
  (∀ (s : State) (mt : MacTap),
      s.chip.inReset = false →
      s.chip.id.hub = false →
      s.chip.plumbOn mt.val = true →
      ∃ t, exec (.plumbSend mt) s = .next t ∧ t.pending = s.pending
        ∧ t.chip.tsTap mt.val = { s.chip.tsTap mt.val with offer := some (s.chip.plumbPayload mt.val) }
        ∧ t.chip.regs = s.chip.regs)
  ∧ (∀ (s : State) (mt : MacTap) (l : List Word),
      s.chip.inReset = false →
      s.chip.id.hub = false →
      s.chip.plumbOn mt.val = true →
      (s.chip.tsTap mt.val).strobe ≠ none →
      Word.field (l.getD 0 0) 28 4 = 1 →
      Word.bit (l.getD 1 0) 31 = true →
      ∃ t, exec (.plumbReceive mt l) s = .next t ∧ t.pending = s.pending
        ∧ (t.chip.tsTap mt.val).got = ((s.chip.tsTap mt.val).strobe.getD none).map (fun v => (Word.field (l.getD 0 0) 16 12, v.1, v.2))
        ∧ (t.chip.tsTap mt.val).nb = some (Word.field (l.getD 1 0) 0 24)
        ∧ (t.chip.tsTap mt.val).strobe = none
        ∧ (t.chip.tsTap mt.val).sent = (s.chip.tsTap mt.val).sent)
  ∧ (∀ (s : State) (mt : MacTap) (l : List Word),
      s.chip.inReset = false →
      s.chip.id.hub = false →
      s.chip.plumbOn mt.val = true →
      (s.chip.tsTap mt.val).strobe ≠ none →
      (Word.field (l.getD 0 0) 28 4 ≠ 1 ∨ Word.bit (l.getD 1 0) 31 = false) →
      ∃ t, exec (.plumbReceive mt l) s = .next t ∧ t.pending = s.pending
        ∧ t.chip.tsTap mt.val = { s.chip.tsTap mt.val with strobe := none })
  ∧ (∀ (s : State) (mt : MacTap),
      s.chip.inReset = false →
      s.chip.id.hub = false →
      (s.chip.tsTap mt.val).strobe ≠ none →
      ∃ t, exec (.plumbTimeout mt) s = .next t ∧ t.pending = s.pending
        ∧ t.chip.tsTap mt.val = { s.chip.tsTap mt.val with strobe := none }
        ∧ t.chip.ts.swq = s.chip.ts.swq)
  ∧ (∀ (s : State) (mt : MacTap) (l : List Word) (g e : Nat × Nat × Nat),
      s.chip.inReset = false →
      s.chip.id.hub = false →
      s.chip.plumbOn mt.val = true →
      (s.chip.tsTap mt.val).strobe ≠ none →
      Word.field (l.getD 0 0) 28 4 = 1 →
      Word.bit (l.getD 1 0) 31 = true →
      (s.chip.tsTap mt.val).nb = some (Word.field (l.getD 1 0) 0 24) →
      (s.chip.tsTap mt.val).got = some g →
      ((s.chip.tsTap mt.val).sent.find? fun e => e.1 == Word.field (l.getD 6 0) 16 12) = some e →
      Word.bit (l.getD 0 0) 12 = true →
      (Word.field (l.getD 0 0) 13 3 = 2 ∨ Word.field (l.getD 0 0) 13 3 = 3) →
      Word.bit (l.getD 0 0) 11 = true →
      Word.bit (l.getD 0 0) 10 = true →
      Word.bit (l.getD 0 0) 9 = false →
      s.chip.tk.valid = true →
      (s.chip.sv.mode = .locked ∨ s.chip.sv.mode = .holdover) →
      (g.1 + 1) % 4096 = Word.field (l.getD 0 0) 16 12 →
      g.2.2 = e.2.2 →
      (s.chip.tsTap mt.val).n + 1 < 16 →
      ∃ t, exec (.plumbReceive mt l) s = .next t ∧ t.pending = s.pending
        ∧ (t.chip.tsTap mt.val).n = (s.chip.tsTap mt.val).n + 1
        ∧ (t.chip.tsTap mt.val).sumTheta = (s.chip.tsTap mt.val).sumTheta + (plumbDiff (g.2.1 % 2 ^ 64) (Word.join (l.getD 2 0) (l.getD 3 0)).toNat - plumbDiff (Word.join (l.getD 4 0) (l.getD 5 0)).toNat (e.2.1 % 2 ^ 64))
        ∧ (t.chip.tsTap mt.val).sumDelay = (s.chip.tsTap mt.val).sumDelay + (plumbDiff (g.2.1 % 2 ^ 64) (Word.join (l.getD 2 0) (l.getD 3 0)).toNat + plumbDiff (Word.join (l.getD 4 0) (l.getD 5 0)).toNat (e.2.1 % 2 ^ 64))
        ∧ (t.chip.tsTap mt.val).valid = satNat 16 ((s.chip.tsTap mt.val).valid + 1)
        ∧ (t.chip.tsTap mt.val).skip = (s.chip.tsTap mt.val).skip
        ∧ (t.chip.tsTap mt.val).theta = (s.chip.tsTap mt.val).theta
        ∧ (t.chip.tsTap mt.val).alarm = (s.chip.tsTap mt.val).alarm)
  ∧ (∀ (s : State) (mt : MacTap) (l : List Word) (g e : Nat × Nat × Nat),
      s.chip.inReset = false →
      s.chip.id.hub = false →
      s.chip.plumbOn mt.val = true →
      (s.chip.tsTap mt.val).strobe ≠ none →
      Word.field (l.getD 0 0) 28 4 = 1 →
      Word.bit (l.getD 1 0) 31 = true →
      (s.chip.tsTap mt.val).nb = some (Word.field (l.getD 1 0) 0 24) →
      (s.chip.tsTap mt.val).got = some g →
      ((s.chip.tsTap mt.val).sent.find? fun e => e.1 == Word.field (l.getD 6 0) 16 12) = some e →
      Word.bit (l.getD 0 0) 12 = true →
      (Word.field (l.getD 0 0) 13 3 = 2 ∨ Word.field (l.getD 0 0) 13 3 = 3) →
      Word.bit (l.getD 0 0) 11 = true →
      Word.bit (l.getD 0 0) 10 = true →
      Word.bit (l.getD 0 0) 9 = false →
      s.chip.tk.valid = true →
      (s.chip.sv.mode = .locked ∨ s.chip.sv.mode = .holdover) →
      (g.1 + 1) % 4096 = Word.field (l.getD 0 0) 16 12 →
      g.2.2 = e.2.2 →
      (s.chip.tsTap mt.val).n + 1 = 16 →
      ∃ t, exec (.plumbReceive mt l) s = .next t ∧ t.pending = s.pending
        ∧ (t.chip.tsTap mt.val).theta = (divRound ((s.chip.tsTap mt.val).sumTheta + (plumbDiff (g.2.1 % 2 ^ 64) (Word.join (l.getD 2 0) (l.getD 3 0)).toNat - plumbDiff (Word.join (l.getD 4 0) (l.getD 5 0)).toNat (e.2.1 % 2 ^ 64))) (32 * unit64))
        ∧ (t.chip.tsTap mt.val).delay = divRound ((s.chip.tsTap mt.val).sumDelay + (plumbDiff (g.2.1 % 2 ^ 64) (Word.join (l.getD 2 0) (l.getD 3 0)).toNat + plumbDiff (Word.join (l.getD 4 0) (l.getD 5 0)).toNat (e.2.1 % 2 ^ 64))) (32 * unit64)
        ∧ (t.chip.tsTap mt.val).n = 0
        ∧ (t.chip.tsTap mt.val).sumTheta = 0
        ∧ (t.chip.tsTap mt.val).sumDelay = 0
        ∧ (t.chip.tsTap mt.val).plValid = true
        ∧ (t.chip.tsTap mt.val).alarm = (if (s.chip.tsTap mt.val).alarm then thetaAbove (divRound ((s.chip.tsTap mt.val).sumTheta + (plumbDiff (g.2.1 % 2 ^ 64) (Word.join (l.getD 2 0) (l.getD 3 0)).toNat - plumbDiff (Word.join (l.getD 4 0) (l.getD 5 0)).toNat (e.2.1 % 2 ^ 64))) (32 * unit64)) ((Word.field (s.chip.reg Reg.TS_PLCFG) 0 16 : Int) - 1000) else thetaAbove (divRound ((s.chip.tsTap mt.val).sumTheta + (plumbDiff (g.2.1 % 2 ^ 64) (Word.join (l.getD 2 0) (l.getD 3 0)).toNat - plumbDiff (Word.join (l.getD 4 0) (l.getD 5 0)).toNat (e.2.1 % 2 ^ 64))) (32 * unit64)) (Word.field (s.chip.reg Reg.TS_PLCFG) 0 16 : Int))
        ∧ t.chip.ts.suspect = (decide (oneIfZero (Word.field (s.chip.reg Reg.TS_PLCFG) 16 4) ≤ t.chip.alarms.length) && ((t.chip.alarms.all fun v => decide (0 < v.2.theta)) || (t.chip.alarms.all fun v => decide (v.2.theta < 0))))
        ∧ (t.chip.ts.suspect = true → s.chip.ts.suspect = false → t.chip.ts.suspectPort = s.chip.sv.chan ∧ Word.bit (t.chip.reg (histRow 0x0D)) 3 = true)
        ∧ t.chip.tk = s.chip.tk
        ∧ t.chip.sv = s.chip.sv)
  ∧ (∀ (s : State) (mt : MacTap) (l : List Word),
      s.chip.inReset = false →
      s.chip.id.hub = false →
      s.chip.plumbOn mt.val = true →
      (s.chip.tsTap mt.val).strobe ≠ none →
      Word.field (l.getD 0 0) 28 4 = 1 →
      Word.bit (l.getD 1 0) 31 = true →
      (s.chip.tsTap mt.val).nb = some (Word.field (l.getD 1 0) 0 24) →
      s.chip.plumbValid mt.val l = none →
      ∃ t, exec (.plumbReceive mt l) s = .next t ∧ t.pending = s.pending
        ∧ (t.chip.tsTap mt.val).skip = satNat 16 ((s.chip.tsTap mt.val).skip + 1)
        ∧ (t.chip.tsTap mt.val).n = (s.chip.tsTap mt.val).n
        ∧ (t.chip.tsTap mt.val).sumTheta = (s.chip.tsTap mt.val).sumTheta
        ∧ (t.chip.tsTap mt.val).theta = (s.chip.tsTap mt.val).theta
        ∧ (t.chip.tsTap mt.val).alarm = (s.chip.tsTap mt.val).alarm
        ∧ t.chip.ts.suspect = s.chip.ts.suspect)
  ∧ (∀ (s : State) (mt : MacTap) (l : List Word) (g e : Nat × Nat × Nat),
      s.chip.inReset = false →
      s.chip.id.hub = false →
      s.chip.plumbOn mt.val = true →
      (s.chip.tsTap mt.val).strobe ≠ none →
      Word.field (l.getD 0 0) 28 4 = 1 →
      Word.bit (l.getD 1 0) 31 = true →
      (s.chip.tsTap mt.val).nb = some (Word.field (l.getD 1 0) 0 24) →
      (s.chip.tsTap mt.val).got = some g →
      ((s.chip.tsTap mt.val).sent.find? fun e => e.1 == Word.field (l.getD 6 0) 16 12) = some e →
      (Word.bit (l.getD 0 0) 12 = false ∨ Word.bit (l.getD 0 0) 11 = false ∨ Word.bit (l.getD 0 0) 10 = false ∨ Word.bit (l.getD 0 0) 9 = true ∨ s.chip.tk.valid = false ∨ (s.chip.sv.mode ≠ .locked ∧ s.chip.sv.mode ≠ .holdover) ∨ (g.1 + 1) % 4096 ≠ Word.field (l.getD 0 0) 16 12 ∨ g.2.2 ≠ e.2.2) →
      ∃ t, exec (.plumbReceive mt l) s = .next t ∧ t.pending = s.pending
        ∧ (t.chip.tsTap mt.val).skip = satNat 16 ((s.chip.tsTap mt.val).skip + 1)
        ∧ (t.chip.tsTap mt.val).n = (s.chip.tsTap mt.val).n
        ∧ (t.chip.tsTap mt.val).sumTheta = (s.chip.tsTap mt.val).sumTheta
        ∧ (t.chip.tsTap mt.val).sumDelay = (s.chip.tsTap mt.val).sumDelay)

/-- Arming, edges and disarming of a pulse output, and its pin faults. ARM of an output that is not armed, within the bounds of the Guard and of the longest period, arms it with its timing fields and its first due time, no pulse done; ARM of an armed output changes nothing of it, and an ARM that breaks a bound arms nothing. A rising edge that is due drives the output high from its due time on and for its width, or is withheld while time is not valid and the output asks for valid time; a falling edge that is due ends the pulse and counts it; before its time no edge comes. DISARM leaves a high pulse to complete. While the pins have their supply, a short disables a driven output until a retry finds it gone; open loads, open inputs and inverted lines are flagged once. -/
def Obligations.PulseOutputs : Prop :=
  (∀ (s : State) (m : Master) (w : Word),
      s.chip.opens m 0x0E = true →
      (s.chip.po1 (s.chip.chanOf m 0x0E)).armed = none →
      s.chip.poBreaks (s.chip.poArmOf (s.chip.chanOf m 0x0E)) = false →
      poTooLong (s.chip.poArmOf (s.chip.chanOf m 0x0E)) = false →
      ∃ t, exec (.pulseArm m w) s = .next t ∧ t.pending = s.pending
        ∧ (t.chip.po1 (s.chip.chanOf m 0x0E)).armed = some { s.chip.poArmOf (s.chip.chanOf m 0x0E) with start := firstDue (s.chip.poArmOf (s.chip.chanOf m 0x0E)) s.chip.now (s.chip.tk.stamp (s.chip.tk.frc + 1) 0) }
        ∧ (t.chip.po1 (s.chip.chanOf m 0x0E)).next = firstDue (s.chip.poArmOf (s.chip.chanOf m 0x0E)) s.chip.now (s.chip.tk.stamp (s.chip.tk.frc + 1) 0)
        ∧ (t.chip.po1 (s.chip.chanOf m 0x0E)).k = 0
        ∧ (t.chip.po1 (s.chip.chanOf m 0x0E)).done = 0
        ∧ (t.chip.po1 (s.chip.chanOf m 0x0E)).high = (s.chip.po1 (s.chip.chanOf m 0x0E)).high
        ∧ t.chip.regs = s.chip.regs)
  ∧ (∀ (s : State) (m : Master) (w : Word),
      s.chip.opens m 0x0E = true →
      (s.chip.po1 (s.chip.chanOf m 0x0E)).armed ≠ none →
      ∃ t, exec (.pulseArm m w) s = .next t ∧ t.pending = s.pending
        ∧ t.chip.po = s.chip.po)
  ∧ (∀ (s : State) (m : Master) (w : Word),
      s.chip.opens m 0x0E = true →
      (s.chip.po1 (s.chip.chanOf m 0x0E)).armed = none →
      s.chip.poBreaks (s.chip.poArmOf (s.chip.chanOf m 0x0E)) = true →
      ∃ t, exec (.pulseArm m w) s = .next t ∧ t.pending = s.pending
        ∧ t.chip.po = s.chip.po)
  ∧ (∀ (s : State) (m : Master),
      s.chip.opens m 0x0E = true →
      ∃ t, exec (.pulseDisarm m) s = .next t ∧ t.pending = s.pending
        ∧ t.chip.po1 (s.chip.chanOf m 0x0E) = { s.chip.po1 (s.chip.chanOf m 0x0E) with armed := none }
        ∧ t.chip.regs = s.chip.regs)
  ∧ (∀ (s : State) (o : OutPin),
      s.chip.inReset = false →
      (s.chip.po1 o.val).high = true →
      (s.chip.po1 o.val).fall ≤ s.chip.now + s.chip.poLead o.val →
      ∃ t, exec (.pulseEdge o) s = .next t ∧ t.pending = s.pending
        ∧ (t.chip.po1 o.val).high = false
        ∧ (t.chip.po1 o.val).done = ((s.chip.po1 o.val).done + 1) % 2 ^ 32
        ∧ (t.chip.po1 o.val).lastFall = some (max (s.chip.po1 o.val).fall (s.chip.po1 o.val).rose)
        ∧ t.chip.regs = s.chip.regs)
  ∧ (∀ (s : State) (o : OutPin),
      s.chip.inReset = false →
      (s.chip.po1 o.val).high = false →
      (s.chip.po1 o.val).rising = true →
      s.chip.poEarliest (s.chip.po1 o.val) ≤ s.chip.now + s.chip.poLead o.val →
      (Word.bit (s.chip.poCfg o.val) 28 = false ∨ s.chip.tk.valid = true) →
      ∃ t, exec (.pulseEdge o) s = .next t ∧ t.pending = s.pending
        ∧ (t.chip.po1 o.val).high = true
        ∧ (t.chip.po1 o.val).rose = s.chip.poEarliest (s.chip.po1 o.val)
        ∧ (t.chip.po1 o.val).fall = s.chip.poEarliest (s.chip.po1 o.val) + ((s.chip.po1 o.val).armed.map fun a => a.wid).getD 0
        ∧ (t.chip.po1 o.val).k = (s.chip.po1 o.val).k + 1)
  ∧ (∀ (s : State) (o : OutPin),
      s.chip.inReset = false →
      (s.chip.po1 o.val).high = false →
      (s.chip.po1 o.val).rising = true →
      s.chip.poEarliest (s.chip.po1 o.val) ≤ s.chip.now + s.chip.poLead o.val →
      Word.bit (s.chip.poCfg o.val) 28 = true →
      s.chip.tk.valid = false →
      ∃ t, exec (.pulseEdge o) s = .next t ∧ t.pending = s.pending
        ∧ (t.chip.po1 o.val).high = false
        ∧ (t.chip.po1 o.val).k = (s.chip.po1 o.val).k + 1
        ∧ (t.chip.po1 o.val).done = (s.chip.po1 o.val).done)
  ∧ (∀ (s : State) (o : OutPin),
      s.chip.inReset = false →
      (s.chip.po1 o.val).high = false →
      s.chip.now + s.chip.poLead o.val < s.chip.poEarliest (s.chip.po1 o.val) →
      ∃ t, exec (.pulseEdge o) s = .next t ∧ t.pending = s.pending
        ∧ t.chip.po = s.chip.po
        ∧ t.chip.regs = s.chip.regs)
  ∧ (∀ (s : State) (o : OutPin),
      s.chip.inReset = false →
      s.chip.pw.io = true →
      s.chip.poDrive o.val ≠ 0 →
      (s.chip.po1 o.val).disabled = false →
      ∃ t, exec (.short o) s = .next t ∧ t.pending = s.pending
        ∧ t.chip.po1 o.val = { s.chip.po1 o.val with disabled := true })
  ∧ (∀ (s : State) (o : OutPin) (still : Bool),
      s.chip.inReset = false →
      s.chip.pw.io = true →
      (s.chip.po1 o.val).disabled = true →
      ∃ t, exec (.shortRetry o still) s = .next t ∧ t.pending = s.pending
        ∧ t.chip.po1 o.val = (if still then { s.chip.po1 o.val with retries := satNat 16 ((s.chip.po1 o.val).retries + 1) } else { s.chip.po1 o.val with disabled := false })
        ∧ t.chip.regs = s.chip.regs)
  ∧ (∀ (s : State) (o : OutPin),
      s.chip.inReset = false →
      s.chip.pw.io = true →
      s.chip.poDrive o.val = 2 →
      s.chip.poLevel o.val = true →
      (s.chip.po1 o.val).disabled = false →
      ∃ t, exec (.openLoad o) s = .next t ∧ t.pending = s.pending
        ∧ t.chip.po1 o.val = { s.chip.po1 o.val with openLoad := true })
  ∧ (∀ (s : State) (o : OutPin),
      s.chip.id.hub = true →
      s.chip.inReset = false →
      s.chip.pw.io = true →
      Word.bit (s.chip.reg Reg.PO_ICFG o.val) 28 = true →
      ∃ t, exec (.openIn o) s = .next t ∧ t.pending = s.pending
        ∧ t.chip.po1 o.val = { s.chip.po1 o.val with openIn := true })
  ∧ (∀ (s : State) (u : Fin 2),
      s.chip.inReset = false →
      s.chip.pw.io = true →
      s.chip.po.uartInv.testBit u.val = false →
      ∃ t, exec (.uartInv u) s = .next t ∧ t.pending = s.pending
        ∧ t.chip.po = { s.chip.po with uartInv := s.chip.po.uartInv + 2 ^ u.val })

/-- NOP, HALT, JMP, LOOP, BRF and a word that is no instruction. A thread that has the issue slot and meets NOP goes on with the next word and changes no other thread. HALT halts it after the word, or ends the prologue of a solo replay. JMP goes to operand B. LOOP with a mailbox that is not 0 takes one from it and goes to operand B, and otherwise goes on. BRF goes to operand B where the flag it names equals its sense, else it goes on; a flag number over 18 stops the thread in FAULT with code 2. A word of no opcode or with an unused bit set stops it with code 1. Aging raises a thread that has been in RUN for a further AGE without issuing by one level. -/
def Obligations.SequencerControlFlow : Prop :=
  (∀ (s : State) (i : Thread),
      s.chip.id.hub = false →
      s.chip.inReset = false →
      s.chip.paused = false →
      s.chip.pick = some i.val →
      Iw.op (s.chip.fetch i.val) = 0x00 →
      Iw.good (s.chip.fetch i.val) = true →
      ∃ t, exec (.nop i) s = .next t ∧ t.pending = s.pending
        ∧ t.chip.th i.val = { (s.chip.th i.val).hasIssued s.chip.tk.frc with pc := pcNext (s.chip.th i.val).pc }
        ∧ (∀ j, j ≠ i.val → t.chip.th j = s.chip.th j)
        ∧ t.chip.regs = s.chip.regs
        ∧ t.chip.gr = s.chip.gr)
  ∧ (∀ (s : State) (i : Thread),
      s.chip.id.hub = false →
      s.chip.inReset = false →
      s.chip.paused = false →
      s.chip.pick = some i.val →
      Iw.op (s.chip.fetch i.val) = 0x01 →
      Iw.good (s.chip.fetch i.val) = true →
      (s.chip.th i.val).solo = false →
      ∃ t, exec (.halt i) s = .next t ∧ t.pending = s.pending
        ∧ t.chip.th i.val = { (s.chip.th i.val).hasIssued s.chip.tk.frc with mode := .halted, pc := pcNext (s.chip.th i.val).pc }
        ∧ t.chip.hg = s.chip.hg)
  ∧ (∀ (s : State) (i : Thread),
      s.chip.id.hub = false →
      s.chip.inReset = false →
      s.chip.paused = false →
      s.chip.pick = some i.val →
      Iw.op (s.chip.fetch i.val) = 0x01 →
      Iw.good (s.chip.fetch i.val) = true →
      (s.chip.th i.val).solo = true →
      ∃ t, exec (.halt i) s = .next t ∧ t.pending = s.pending
        ∧ (t.chip.th i.val).mode = .solo
        ∧ t.chip.hg = { s.chip.hg with solo := .fire })
  ∧ (∀ (s : State) (i : Thread),
      s.chip.id.hub = false →
      s.chip.inReset = false →
      s.chip.paused = false →
      s.chip.pick = some i.val →
      Iw.op (s.chip.fetch i.val) = 0x08 →
      Iw.good (s.chip.fetch i.val) = true →
      ∃ t, exec (.jmp i) s = .next t ∧ t.pending = s.pending
        ∧ t.chip.th i.val = { (s.chip.th i.val).hasIssued s.chip.tk.frc with pc := Iw.b (s.chip.fetch i.val) }
        ∧ (∀ j, j ≠ i.val → t.chip.th j = s.chip.th j))
  ∧ (∀ (s : State) (i : Thread),
      s.chip.id.hub = false →
      s.chip.inReset = false →
      s.chip.paused = false →
      s.chip.pick = some i.val →
      Iw.op (s.chip.fetch i.val) = 0x09 →
      Iw.good (s.chip.fetch i.val) = true →
      s.chip.mbox i.val (Iw.a (s.chip.fetch i.val)) ≠ 0 →
      ∃ t, exec (.loop i) s = .next t ∧ t.pending = s.pending
        ∧ t.chip.mbox i.val (Iw.a (s.chip.fetch i.val)) = (s.chip.mbox i.val (Iw.a (s.chip.fetch i.val)) - 1) % 2 ^ 64
        ∧ (t.chip.th i.val).pc = Iw.b (s.chip.fetch i.val)
        ∧ (∀ j, j ≠ Iw.a (s.chip.fetch i.val) → t.chip.mbox i.val j = s.chip.mbox i.val j))
  ∧ (∀ (s : State) (i : Thread),
      s.chip.id.hub = false →
      s.chip.inReset = false →
      s.chip.paused = false →
      s.chip.pick = some i.val →
      Iw.op (s.chip.fetch i.val) = 0x09 →
      Iw.good (s.chip.fetch i.val) = true →
      s.chip.mbox i.val (Iw.a (s.chip.fetch i.val)) = 0 →
      ∃ t, exec (.loop i) s = .next t ∧ t.pending = s.pending
        ∧ t.chip.th i.val = { (s.chip.th i.val).hasIssued s.chip.tk.frc with pc := pcNext (s.chip.th i.val).pc })
  ∧ (∀ (s : State) (i : Thread),
      s.chip.id.hub = false →
      s.chip.inReset = false →
      s.chip.paused = false →
      s.chip.pick = some i.val →
      Iw.op (s.chip.fetch i.val) = 0x0A →
      Iw.good (s.chip.fetch i.val) = true →
      Iw.a (s.chip.fetch i.val) ≤ 18 →
      ∃ t, exec (.brf i) s = .next t ∧ t.pending = s.pending
        ∧ t.chip.th i.val = { (s.chip.th i.val).hasIssued s.chip.tk.frc with pc := if (s.chip.th i.val).brFlag (Iw.a (s.chip.fetch i.val)) == (Iw.fl (s.chip.fetch i.val)).testBit 0 then Iw.b (s.chip.fetch i.val) else pcNext (s.chip.th i.val).pc })
  ∧ (∀ (s : State) (i : Thread),
      s.chip.id.hub = false →
      s.chip.inReset = false →
      s.chip.paused = false →
      s.chip.pick = some i.val →
      Iw.op (s.chip.fetch i.val) = 0x0A →
      Iw.good (s.chip.fetch i.val) = true →
      18 < Iw.a (s.chip.fetch i.val) →
      ∃ t, exec (.brf i) s = .next t ∧ t.pending = s.pending
        ∧ t.chip.th i.val = { (s.chip.th i.val).hasIssued s.chip.tk.frc with mode := .fault, fcode := 2 })
  ∧ (∀ (s : State) (i : Thread),
      s.chip.id.hub = false →
      s.chip.inReset = false →
      s.chip.paused = false →
      s.chip.pick = some i.val →
      Iw.good (s.chip.fetch i.val) = false →
      ∃ t, exec (.badOp i) s = .next t ∧ t.pending = s.pending
        ∧ t.chip.th i.val = { (s.chip.th i.val).hasIssued s.chip.tk.frc with mode := .fault, fcode := 1 })
  ∧ (∀ (s : State) (i : Thread),
      s.chip.id.hub = false →
      s.chip.inReset = false →
      (s.chip.th i.val).mode = .run →
      s.chip.effPrio i.val < 3 →
      ((s.chip.th i.val).aged + 1) * s.chip.sqAge ≤ s.chip.usSinceFrc (s.chip.th i.val).runAt →
      ∃ t, exec (.threadAged i) s = .next t ∧ t.pending = s.pending
        ∧ t.chip.th i.val = { (s.chip.th i.val) with aged := (s.chip.th i.val).aged + 1 }
        ∧ t.chip.sq.store = s.chip.sq.store)

/-- WAITT, SETB and the wake of a waiting thread. WAITT moves the cursor to its operand's time and goes on, and waits where its wake time, which is the cursor less the lead, or the cursor itself with EXACT, has not come; a wake time already past neither blocks nor faults. WAITT_WAKE puts the thread back in RUN from its wake time on, and not before. SETB sets base and cursor and no course: to the latest release received, to the base and the offset, to the first grid slot not before the latest release received, or to the time in a mailbox; slots skipped on a grid are counted, flagged and recorded with their number, and take DET from the thread's course; a grid of 0 stops the thread in FAULT with code 2. -/
def Obligations.SequencerTime : Prop :=
  (∀ (s : State) (i : Thread),
      s.chip.id.hub = false →
      s.chip.inReset = false →
      s.chip.paused = false →
      s.chip.pick = some i.val →
      Iw.op (s.chip.fetch i.val) = 0x10 →
      Iw.good (s.chip.fetch i.val) = true →
      ∃ t, exec (.waitt i) s = .next t ∧ t.pending = s.pending
        ∧ t.chip.th i.val = { (s.chip.th i.val).hasIssued s.chip.tk.frc with pc := pcNext (s.chip.th i.val).pc, cursor := s.chip.opTimeOf i.val (s.chip.fetch i.val), wake := (if (Iw.fl (s.chip.fetch i.val)).testBit 0 then s.chip.opTimeOf i.val (s.chip.fetch i.val) else s.chip.opTimeOf i.val (s.chip.fetch i.val) - Word.field (s.chip.reg Reg.SQ_CFG) 16 10 * nsUnit), mode := (if (if (Iw.fl (s.chip.fetch i.val)).testBit 0 then s.chip.opTimeOf i.val (s.chip.fetch i.val) else s.chip.opTimeOf i.val (s.chip.fetch i.val) - Word.field (s.chip.reg Reg.SQ_CFG) 16 10 * nsUnit) ≤ s.chip.now then (s.chip.th i.val).mode else .waitT) })
  ∧ (∀ (s : State) (i : Thread),
      s.chip.id.hub = false →
      s.chip.inReset = false →
      (s.chip.th i.val).mode = .waitT →
      (s.chip.th i.val).wake ≤ s.chip.now →
      ∃ t, exec (.waittWake i) s = .next t ∧ t.pending = s.pending
        ∧ t.chip.th i.val = (s.chip.th i.val).enterRun s.chip.tk.frc
        ∧ (∀ j, j ≠ i.val → t.chip.th j = s.chip.th j))
  ∧ (∀ (s : State) (i : Thread),
      s.chip.id.hub = false →
      s.chip.inReset = false →
      s.chip.now < (s.chip.th i.val).wake →
      ∃ t, exec (.waittWake i) s = .next t ∧ t.pending = s.pending
        ∧ t.chip.sq = s.chip.sq)
  ∧ (∀ (s : State) (i : Thread) (r : Nat),
      s.chip.id.hub = false →
      s.chip.inReset = false →
      s.chip.paused = false →
      s.chip.pick = some i.val →
      Iw.op (s.chip.fetch i.val) = 0x11 →
      Iw.good (s.chip.fetch i.val) = true →
      Iw.fl (s.chip.fetch i.val) % 4 = 0 →
      (s.chip.th i.val).lastRel = some r →
      ∃ t, exec (.setb i) s = .next t ∧ t.pending = s.pending
        ∧ t.chip.th i.val = { (s.chip.th i.val).hasIssued s.chip.tk.frc with pc := pcNext (s.chip.th i.val).pc, base := r % 2 ^ 96, cursor := r % 2 ^ 96 })
  ∧ (∀ (s : State) (i : Thread),
      s.chip.id.hub = false →
      s.chip.inReset = false →
      s.chip.paused = false →
      s.chip.pick = some i.val →
      Iw.op (s.chip.fetch i.val) = 0x11 →
      Iw.good (s.chip.fetch i.val) = true →
      Iw.fl (s.chip.fetch i.val) % 4 = 1 →
      ∃ t, exec (.setb i) s = .next t ∧ t.pending = s.pending
        ∧ t.chip.th i.val = { (s.chip.th i.val).hasIssued s.chip.tk.frc with pc := pcNext (s.chip.th i.val).pc, base := ((s.chip.th i.val).base + Iw.offset (s.chip.fetch i.val)) % 2 ^ 96, cursor := ((s.chip.th i.val).base + Iw.offset (s.chip.fetch i.val)) % 2 ^ 96 })
  ∧ (∀ (s : State) (i : Thread) (r : Nat),
      s.chip.id.hub = false →
      s.chip.inReset = false →
      s.chip.paused = false →
      s.chip.pick = some i.val →
      Iw.op (s.chip.fetch i.val) = 0x11 →
      Iw.good (s.chip.fetch i.val) = true →
      Iw.fl (s.chip.fetch i.val) % 4 = 2 →
      Iw.offset (s.chip.fetch i.val) ≠ 0 →
      (s.chip.th i.val).lastRel = some r →
      ∃ t, exec (.setb i) s = .next t ∧ t.pending = s.pending
        ∧ t.chip.th i.val = { (s.chip.th i.val).hasIssued s.chip.tk.frc with pc := pcNext (s.chip.th i.val).pc, base := ((s.chip.th i.val).base + (cadSlot (s.chip.th i.val).base (Iw.offset (s.chip.fetch i.val)) (some r)) * Iw.offset (s.chip.fetch i.val)) % 2 ^ 96, cursor := ((s.chip.th i.val).base + (cadSlot (s.chip.th i.val).base (Iw.offset (s.chip.fetch i.val)) (some r)) * Iw.offset (s.chip.fetch i.val)) % 2 ^ 96 }
        ∧ 1 ≤ (cadSlot (s.chip.th i.val).base (Iw.offset (s.chip.fetch i.val)) (some r))
        ∧ r ≤ (s.chip.th i.val).base + (cadSlot (s.chip.th i.val).base (Iw.offset (s.chip.fetch i.val)) (some r)) * Iw.offset (s.chip.fetch i.val)
        ∧ (1 < (cadSlot (s.chip.th i.val).base (Iw.offset (s.chip.fetch i.val)) (some r)) → (s.chip.th i.val).base + ((cadSlot (s.chip.th i.val).base (Iw.offset (s.chip.fetch i.val)) (some r)) - 1) * Iw.offset (s.chip.fetch i.val) < r))
  ∧ (∀ (s : State) (i : Thread) (r : Nat),
      s.chip.id.hub = false →
      s.chip.inReset = false →
      s.chip.paused = false →
      s.chip.pick = some i.val →
      Iw.op (s.chip.fetch i.val) = 0x11 →
      Iw.good (s.chip.fetch i.val) = true →
      Iw.fl (s.chip.fetch i.val) % 4 = 2 →
      Iw.offset (s.chip.fetch i.val) ≠ 0 →
      (s.chip.th i.val).lastRel = some r →
      1 < (cadSlot (s.chip.th i.val).base (Iw.offset (s.chip.fetch i.val)) (some r)) →
      s.chip.frozen = false →
      bindingTakes (s.chip.ccfg 0x106) 0x106 (some i.val) = true →
      reboundCounters s.chip.regs = [] →
      SMap.find s.chip.mn.counts 0x106 0 < 2 ^ 32 →
      s.chip.ev.queue.length < 64 →
      ∃ t, exec (.setb i) s = .next t ∧ t.pending = s.pending
        ∧ SMap.find t.chip.mn.counts 0x106 0 = SMap.find s.chip.mn.counts 0x106 0 + 1
        ∧ Word.bit (t.chip.reg Reg.SQ_THIST i.val) 6 = true
        ∧ t.chip.ev.queue.map (fun e => (e.code, e.p3)) = s.chip.ev.queue.map (fun e => (e.code, e.p3)) ++ [(0x1008, BitVec.ofNat 32 ((cadSlot (s.chip.th i.val).base (Iw.offset (s.chip.fetch i.val)) (some r)) - 1))]
        ∧ (t.chip.ent (s.chip.th i.val).grp).detLost.contains (s.chip.th i.val).course = true)
  ∧ (∀ (s : State) (i : Thread),
      s.chip.id.hub = false →
      s.chip.inReset = false →
      s.chip.paused = false →
      s.chip.pick = some i.val →
      Iw.op (s.chip.fetch i.val) = 0x11 →
      Iw.good (s.chip.fetch i.val) = true →
      Iw.fl (s.chip.fetch i.val) % 4 = 2 →
      Iw.offset (s.chip.fetch i.val) = 0 →
      ∃ t, exec (.setb i) s = .next t ∧ t.pending = s.pending
        ∧ t.chip.th i.val = { (s.chip.th i.val).hasIssued s.chip.tk.frc with mode := .fault, fcode := 2 })
  ∧ (∀ (s : State) (i : Thread),
      s.chip.id.hub = false →
      s.chip.inReset = false →
      s.chip.paused = false →
      s.chip.pick = some i.val →
      Iw.op (s.chip.fetch i.val) = 0x11 →
      Iw.good (s.chip.fetch i.val) = true →
      Iw.fl (s.chip.fetch i.val) % 4 = 3 →
      ∃ t, exec (.setb i) s = .next t ∧ t.pending = s.pending
        ∧ t.chip.th i.val = { (s.chip.th i.val).hasIssued s.chip.tk.frc with pc := pcNext (s.chip.th i.val).pc, base := (s.chip.mbox i.val (Iw.a (s.chip.fetch i.val)) * nsUnit) % 2 ^ 96, cursor := (s.chip.mbox i.val (Iw.a (s.chip.fetch i.val)) * nsUnit) % 2 ^ 96 })

/-- FIRE and FIREAT send their arms and retire once every line is done. FIRE and FIREAT of a set that has lines, by a thread whose group entry is usable, send one arm for each line of the set, all with one time (the cursor, or the operand's time), with the course and context word, and the thread waits on the instruction for them; where the entry is not usable the thread stops in FAULT with code 4. FIRE_RETIRE, once no line is outstanding, goes on with the next word. A fetch that meets a parity error stops the thread with code 5 and keeps the address. -/
def Obligations.SequencerTriggers : Prop :=
  (∀ (s : State) (i : Thread),
      s.chip.id.hub = false →
      s.chip.inReset = false →
      s.chip.paused = false →
      s.chip.pick = some i.val →
      Iw.op (s.chip.fetch i.val) = 0x18 →
      Iw.good (s.chip.fetch i.val) = true →
      s.chip.setLines (Iw.a (s.chip.fetch i.val)) ≠ [] →
      s.chip.grpUsable i.val (s.chip.th i.val).course = true →
      ∃ t, exec (.fire i) s = .next t ∧ t.pending = s.pending
        ∧ (t.chip.th i.val).mode = .waitF
        ∧ (t.chip.th i.val).lines = s.chip.setLines (Iw.a (s.chip.fetch i.val))
        ∧ (t.chip.th i.val).cursor = (s.chip.th i.val).cursor
        ∧ (t.chip.th i.val).pc = (s.chip.th i.val).pc
        ∧ t.chip.sq.flights = s.chip.sq.flights ++ (s.chip.setLines (Iw.a (s.chip.fetch i.val))).map (fun n => { line := n, tf := (s.chip.th i.val).cursor, thread := i.val, course := (s.chip.th i.val).course, grp := (s.chip.th i.val).grp, ctx := fireCtx (s.chip.th i.val).course (Iw.a (s.chip.fetch i.val)) i.val, cancelled := false })
        ∧ t.chip.rt = s.chip.rt)
  ∧ (∀ (s : State) (i : Thread),
      s.chip.id.hub = false →
      s.chip.inReset = false →
      s.chip.paused = false →
      s.chip.pick = some i.val →
      Iw.op (s.chip.fetch i.val) = 0x18 →
      Iw.good (s.chip.fetch i.val) = true →
      s.chip.setLines (Iw.a (s.chip.fetch i.val)) ≠ [] →
      s.chip.grpUsable i.val (s.chip.th i.val).course = false →
      ∃ t, exec (.fire i) s = .next t ∧ t.pending = s.pending
        ∧ (t.chip.th i.val).mode = .fault
        ∧ (t.chip.th i.val).fcode = 4
        ∧ t.chip.sq.flights = s.chip.sq.flights)
  ∧ (∀ (s : State) (i : Thread),
      s.chip.id.hub = false →
      s.chip.inReset = false →
      s.chip.paused = false →
      s.chip.pick = some i.val →
      Iw.op (s.chip.fetch i.val) = 0x19 →
      Iw.good (s.chip.fetch i.val) = true →
      s.chip.setLines (Iw.a (s.chip.fetch i.val)) ≠ [] →
      s.chip.grpUsable i.val (s.chip.th i.val).course = true →
      ∃ t, exec (.fireat i) s = .next t ∧ t.pending = s.pending
        ∧ (t.chip.th i.val).mode = .waitF
        ∧ (t.chip.th i.val).lines = s.chip.setLines (Iw.a (s.chip.fetch i.val))
        ∧ (t.chip.th i.val).cursor = s.chip.opTimeOf i.val (s.chip.fetch i.val)
        ∧ (t.chip.th i.val).pc = (s.chip.th i.val).pc
        ∧ t.chip.sq.flights = s.chip.sq.flights ++ (s.chip.setLines (Iw.a (s.chip.fetch i.val))).map (fun n => { line := n, tf := s.chip.opTimeOf i.val (s.chip.fetch i.val), thread := i.val, course := (s.chip.th i.val).course, grp := (s.chip.th i.val).grp, ctx := fireCtx (s.chip.th i.val).course (Iw.a (s.chip.fetch i.val)) i.val, cancelled := false })
        ∧ t.chip.rt = s.chip.rt)
  ∧ (∀ (s : State) (i : Thread),
      s.chip.id.hub = false →
      s.chip.inReset = false →
      s.chip.paused = false →
      s.chip.pick = some i.val →
      Iw.op (s.chip.fetch i.val) = 0x19 →
      Iw.good (s.chip.fetch i.val) = true →
      s.chip.setLines (Iw.a (s.chip.fetch i.val)) ≠ [] →
      s.chip.grpUsable i.val (s.chip.th i.val).course = false →
      ∃ t, exec (.fireat i) s = .next t ∧ t.pending = s.pending
        ∧ (t.chip.th i.val).mode = .fault
        ∧ (t.chip.th i.val).fcode = 4
        ∧ t.chip.sq.flights = s.chip.sq.flights)
  ∧ (∀ (s : State) (i : Thread),
      s.chip.id.hub = false →
      s.chip.inReset = false →
      (s.chip.th i.val).mode = .waitF →
      (s.chip.th i.val).lines = [] →
      ∃ t, exec (.fireRetire i) s = .next t ∧ t.pending = s.pending
        ∧ t.chip.th i.val = { (s.chip.th i.val).enterRun s.chip.tk.frc with pc := pcNext (s.chip.th i.val).pc }
        ∧ t.chip.sq.flights = s.chip.sq.flights)
  ∧ (∀ (s : State) (i : Thread) (n : BitVec 15),
      s.chip.id.hub = false →
      s.chip.inReset = false →
      s.chip.paused = false →
      s.chip.pick = some i.val →
      n.toNat = (s.chip.th i.val).pc →
      ∃ t, exec (.parity i n) s = .next t ∧ t.pending = s.pending
        ∧ (t.chip.th i.val).mode = .fault
        ∧ (t.chip.th i.val).fcode = 5
        ∧ t.chip.sq.perr = n.toNat
        ∧ (t.chip.th i.val).pc = (s.chip.th i.val).pc)

/-- ARM, CONTRIB, SYNC, the release that ends a wait, and SETB before the first release. ARM by a thread whose group entry is usable sets the number of contributions of its current course and keeps those made, and leaves the counts of its other courses in reach and those of other threads as they are; a number below those made stops it in FAULT with code 2. CONTRIB to a lane of the mortar, of a course within the depth that still has contributions outstanding and whose arrival has not left, joins the value of its mailbox to the lane and counts as made; one without a usable group entry stops the thread in FAULT with code 4, and one to a lane that is not there with code 2. SYNC with contributions of the course that its barrier reduces outstanding stops the thread with code 3; any other SYNC, with no release of its barrier or a later one known, waits at its barrier with its PC on the instruction, and with one known takes it at once. A RELEASE delivered to a die that knows none wakes a thread that waits for its barrier or an earlier one. A release taken makes its time base and cursor, unless the thread keeps its base, its course plus one the course, and the next word the PC. SETB by a thread that has received no release leaves the base with REL and takes the first slot with CAD, which is the model's choice (log entry 21). -/
def Obligations.SequencerBarriers : Prop :=
  (∀ (s : State) (i : Thread),
      s.chip.id.hub = false →
      s.chip.inReset = false →
      s.chip.paused = false →
      s.chip.pick = some i.val →
      Iw.op (s.chip.fetch i.val) = 0x20 →
      Iw.good (s.chip.fetch i.val) = true →
      s.chip.grpUsable i.val (s.chip.th i.val).course = true →
      (((s.chip.th i.val).armOf (s.chip.th i.val).course).map fun a => a.made).getD 0 ≤ Iw.a (s.chip.fetch i.val) →
      ∃ t, exec (.arm i) s = .next t ∧ t.pending = s.pending
        ∧ ((t.chip.th i.val).armOf (s.chip.th i.val).course).map (fun a => (a.k, a.made)) = some (Iw.a (s.chip.fetch i.val), (((s.chip.th i.val).armOf (s.chip.th i.val).course).map fun a => a.made).getD 0)
        ∧ (∀ n, n ≠ (s.chip.th i.val).course → (s.chip.th i.val).course ≤ n + 4 → (t.chip.th i.val).armOf n = (s.chip.th i.val).armOf n)
        ∧ (t.chip.th i.val).pc = pcNext (s.chip.th i.val).pc
        ∧ (t.chip.th i.val).mode = (s.chip.th i.val).mode
        ∧ (∀ j, j ≠ i.val → t.chip.th j = s.chip.th j)
        ∧ t.chip.gr = s.chip.gr)
  ∧ (∀ (s : State) (i : Thread) (a : ArmCount),
      s.chip.id.hub = false →
      s.chip.inReset = false →
      s.chip.paused = false →
      s.chip.pick = some i.val →
      Iw.op (s.chip.fetch i.val) = 0x20 →
      Iw.good (s.chip.fetch i.val) = true →
      s.chip.grpUsable i.val (s.chip.th i.val).course = true →
      (s.chip.th i.val).armOf (s.chip.th i.val).course = some a →
      Iw.a (s.chip.fetch i.val) < a.made →
      ∃ t, exec (.arm i) s = .next t ∧ t.pending = s.pending
        ∧ t.chip.th i.val = { (s.chip.th i.val).hasIssued s.chip.tk.frc with mode := .fault, fcode := 2 }
        ∧ t.chip.gr = s.chip.gr)
  ∧ (∀ (s : State) (i : Thread) (l : LaneCfg),
      s.chip.id.hub = false →
      s.chip.inReset = false →
      s.chip.paused = false →
      s.chip.pick = some i.val →
      Iw.op (s.chip.fetch i.val) = 0x21 →
      Iw.good (s.chip.fetch i.val) = true →
      ((Iw.a (s.chip.fetch i.val) >>> 8) % 8) < s.chip.mtLen ((s.chip.th i.val).grp) →
      s.chip.grpUsable i.val (((s.chip.th i.val).course - Iw.fl (s.chip.fetch i.val) % 4)) = true →
      (Iw.fl (s.chip.fetch i.val) % 4) < (s.chip.ent ((s.chip.th i.val).grp)).depth →
      (s.chip.th i.val).n0 + (Iw.fl (s.chip.fetch i.val) % 4) ≤ (s.chip.th i.val).course →
      (s.chip.ent ((s.chip.th i.val).grp)).admitted = false →
      (s.chip.ent ((s.chip.th i.val).grp)).dropped.contains (((s.chip.th i.val).course - Iw.fl (s.chip.fetch i.val) % 4)) = false →
      (s.chip.th i.val).outstanding (((s.chip.th i.val).course - Iw.fl (s.chip.fetch i.val) % 4)) ≠ 0 →
      (s.chip.ent ((s.chip.th i.val).grp)).closedTo (((s.chip.th i.val).course - Iw.fl (s.chip.fetch i.val) % 4)) = false →
      (s.chip.mtCfgs ((s.chip.th i.val).grp))[((Iw.a (s.chip.fetch i.val) >>> 8) % 8)]? = some l →
      ∃ t, exec (.contrib i) s = .next t ∧ t.pending = s.pending
        ∧ t.chip.th i.val = { (s.chip.th i.val).hasIssued s.chip.tk.frc with pc := pcNext (s.chip.th i.val).pc, arms := (s.chip.th i.val).arms.map (fun a => if a.grp == (s.chip.th i.val).grp && a.course == ((s.chip.th i.val).course - Iw.fl (s.chip.fetch i.val) % 4) then { a with made := a.made + 1 } else a) }
        ∧ SMap.find (t.chip.ent ((s.chip.th i.val).grp)).lanes (((s.chip.th i.val).course - Iw.fl (s.chip.fetch i.val) % 4)) [] = (SMap.find (s.chip.ent ((s.chip.th i.val).grp)).lanes (((s.chip.th i.val).course - Iw.fl (s.chip.fetch i.val) % 4)) ((s.chip.mtCfgs ((s.chip.th i.val).grp)).map laneIdentity)).set ((Iw.a (s.chip.fetch i.val) >>> 8) % 8) (l.merge ((SMap.find (s.chip.ent ((s.chip.th i.val).grp)).lanes (((s.chip.th i.val).course - Iw.fl (s.chip.fetch i.val) % 4)) ((s.chip.mtCfgs ((s.chip.th i.val).grp)).map laneIdentity)).getD ((Iw.a (s.chip.fetch i.val) >>> 8) % 8) (laneIdentity l)) (l.contribute (s.chip.mbox i.val (Iw.a (s.chip.fetch i.val) % 64)) (s.chip.tr.addr.getD 0)).1))
  ∧ (∀ (s : State) (i : Thread),
      s.chip.id.hub = false →
      s.chip.inReset = false →
      s.chip.paused = false →
      s.chip.pick = some i.val →
      Iw.op (s.chip.fetch i.val) = 0x21 →
      Iw.good (s.chip.fetch i.val) = true →
      s.chip.grpUsable i.val (((s.chip.th i.val).course - Iw.fl (s.chip.fetch i.val) % 4)) = true →
      s.chip.mtLen ((s.chip.th i.val).grp) ≤ ((Iw.a (s.chip.fetch i.val) >>> 8) % 8) →
      ∃ t, exec (.contrib i) s = .next t ∧ t.pending = s.pending
        ∧ t.chip.th i.val = { (s.chip.th i.val).hasIssued s.chip.tk.frc with mode := .fault, fcode := 2 }
        ∧ t.chip.gr = s.chip.gr)
  ∧ (∀ (s : State) (i : Thread),
      s.chip.id.hub = false →
      s.chip.inReset = false →
      s.chip.paused = false →
      s.chip.pick = some i.val →
      Iw.op (s.chip.fetch i.val) = 0x21 →
      Iw.good (s.chip.fetch i.val) = true →
      s.chip.grpUsable i.val (((s.chip.th i.val).course - Iw.fl (s.chip.fetch i.val) % 4)) = false →
      ∃ t, exec (.contrib i) s = .next t ∧ t.pending = s.pending
        ∧ t.chip.th i.val = { (s.chip.th i.val).hasIssued s.chip.tk.frc with mode := .fault, fcode := 4 }
        ∧ t.chip.gr = s.chip.gr)
  ∧ (∀ (s : State) (i : Thread),
      s.chip.id.hub = false →
      s.chip.inReset = false →
      s.chip.paused = false →
      s.chip.pick = some i.val →
      Iw.op (s.chip.fetch i.val) = 0x22 →
      Iw.good (s.chip.fetch i.val) = true →
      s.chip.grpUsable i.val (s.chip.th i.val).course = true →
      ((s.chip.ent ((s.chip.th i.val).grp)).depth ≤ (s.chip.th i.val).course + 1 → (s.chip.th i.val).outstanding ((s.chip.th i.val).course + 1 - (s.chip.ent ((s.chip.th i.val).grp)).depth) = 0) →
      ((s.chip.ent ((s.chip.th i.val).grp)).latest.all fun r => decide (r.course < (s.chip.th i.val).course)) = true →
      ∃ t, exec (.sync i) s = .next t ∧ t.pending = s.pending
        ∧ (t.chip.th i.val).mode = .waitB
        ∧ (t.chip.th i.val).pc = (s.chip.th i.val).pc
        ∧ (t.chip.th i.val).synced = some (s.chip.th i.val).course
        ∧ (t.chip.th i.val).course = (s.chip.th i.val).course
        ∧ (t.chip.th i.val).base = (s.chip.th i.val).base)
  ∧ (∀ (s : State) (i : Thread) (r : Release),
      s.chip.id.hub = false →
      s.chip.inReset = false →
      s.chip.paused = false →
      s.chip.pick = some i.val →
      Iw.op (s.chip.fetch i.val) = 0x22 →
      Iw.good (s.chip.fetch i.val) = true →
      s.chip.grpUsable i.val (s.chip.th i.val).course = true →
      ((s.chip.ent ((s.chip.th i.val).grp)).depth ≤ (s.chip.th i.val).course + 1 → (s.chip.th i.val).outstanding ((s.chip.th i.val).course + 1 - (s.chip.ent ((s.chip.th i.val).grp)).depth) = 0) →
      (s.chip.ent ((s.chip.th i.val).grp)).latest = some r →
      (s.chip.th i.val).course ≤ r.course →
      ∃ t, exec (.sync i) s = .next t ∧ t.pending = s.pending
        ∧ (t.chip.th i.val).mode = .run
        ∧ (t.chip.th i.val).course = (r.course + 1) % 2 ^ 32
        ∧ (t.chip.th i.val).pc = pcNext (s.chip.th i.val).pc
        ∧ (t.chip.th i.val).rdet = r.det
        ∧ (t.chip.th i.val).lastRel = some r.trel
        ∧ (t.chip.th i.val).base = (if (Iw.fl (s.chip.fetch i.val)).testBit 0 then (s.chip.th i.val).base else r.trel)
        ∧ (t.chip.th i.val).cursor = (if (Iw.fl (s.chip.fetch i.val)).testBit 0 then (s.chip.th i.val).cursor else r.trel))
  ∧ (∀ (s : State) (i : Thread),
      s.chip.id.hub = false →
      s.chip.inReset = false →
      s.chip.paused = false →
      s.chip.pick = some i.val →
      Iw.op (s.chip.fetch i.val) = 0x22 →
      Iw.good (s.chip.fetch i.val) = true →
      s.chip.grpUsable i.val (s.chip.th i.val).course = true →
      (s.chip.ent ((s.chip.th i.val).grp)).depth ≤ (s.chip.th i.val).course + 1 →
      (s.chip.th i.val).outstanding ((s.chip.th i.val).course + 1 - (s.chip.ent ((s.chip.th i.val).grp)).depth) ≠ 0 →
      ∃ t, exec (.sync i) s = .next t ∧ t.pending = s.pending
        ∧ t.chip.th i.val = { (s.chip.th i.val).hasIssued s.chip.tk.frc with mode := .fault, fcode := 3 })
  ∧ (∀ (s : State) (i : Thread) (p : Port) (x : Cell) (g : Nat) (l : List Cell),
      s.chip.id.hub = false →
      s.chip.inReset = false →
      p.val < 2 →
      s.chip.headB p.val 0x21 = some x →
      s.chip.meet x = .inl g →
      s.chip.messageB p.val 0x21 x.group (if s.chip.mtTwo g then 2 else 1) = some l →
      (s.chip.ent g).latest = none →
      (s.chip.ent g).admDue = false →
      (s.chip.ent g).expDue = false →
      (s.chip.th i.val).mode = .waitB →
      (s.chip.th i.val).grp = g →
      (s.chip.th i.val).course ≤ (releaseRead l).course →
      ∃ t, exec (.releaseDeliver p) s = .next t ∧ t.pending = s.pending
        ∧ (t.chip.th i.val).mode = .run
        ∧ (t.chip.th i.val).course = ((releaseRead l).course + 1) % 2 ^ 32
        ∧ (t.chip.th i.val).pc = pcNext (s.chip.th i.val).pc
        ∧ (t.chip.th i.val).rdet = (releaseRead l).det
        ∧ (t.chip.th i.val).lastRel = some (releaseRead l).trel
        ∧ (t.chip.th i.val).base = (if (s.chip.th i.val).noBase = true then (s.chip.th i.val).base else (releaseRead l).trel)
        ∧ (t.chip.th i.val).cursor = (if (s.chip.th i.val).noBase = true then (s.chip.th i.val).cursor else (releaseRead l).trel)
        ∧ (t.chip.ent g).latest = some (releaseRead l))
  ∧ (∀ (s : State) (i : Thread),
      s.chip.id.hub = false →
      s.chip.inReset = false →
      s.chip.paused = false →
      s.chip.pick = some i.val →
      Iw.op (s.chip.fetch i.val) = 0x11 →
      Iw.good (s.chip.fetch i.val) = true →
      Iw.fl (s.chip.fetch i.val) % 4 = 0 →
      (s.chip.th i.val).lastRel = none →
      ∃ t, exec (.setb i) s = .next t ∧ t.pending = s.pending
        ∧ t.chip.th i.val = { (s.chip.th i.val).hasIssued s.chip.tk.frc with pc := pcNext (s.chip.th i.val).pc, base := (s.chip.th i.val).base % 2 ^ 96, cursor := (s.chip.th i.val).base % 2 ^ 96 })
  ∧ (∀ (s : State) (i : Thread),
      s.chip.id.hub = false →
      s.chip.inReset = false →
      s.chip.paused = false →
      s.chip.pick = some i.val →
      Iw.op (s.chip.fetch i.val) = 0x11 →
      Iw.good (s.chip.fetch i.val) = true →
      Iw.fl (s.chip.fetch i.val) % 4 = 2 →
      Iw.offset (s.chip.fetch i.val) ≠ 0 →
      (s.chip.th i.val).lastRel = none →
      ∃ t, exec (.setb i) s = .next t ∧ t.pending = s.pending
        ∧ t.chip.th i.val = { (s.chip.th i.val).hasIssued s.chip.tk.frc with pc := pcNext (s.chip.th i.val).pc, base := ((s.chip.th i.val).base + Iw.offset (s.chip.fetch i.val)) % 2 ^ 96, cursor := ((s.chip.th i.val).base + Iw.offset (s.chip.fetch i.val)) % 2 ^ 96 })

/-- SIG, SIGR, WAITS, FENCE, SNAP and MARK. SIG of an undirected signal that does not overflow adds to the count of its semaphore and the thread goes on; one that overflows leaves the count and stops the thread in FAULT with code 6. SIG with EVT leaves nobody waiting on the semaphore. SIGR through a valid gate entry with a usable group is staged; WAITS on a semaphore registers a wait and the thread waits. FENCE asks about its tag and waits until FENCE_DONE answers it: the oldest question under a tag is answered first, and an answer whose thread waits no longer wakes none; a stall is reported once. SNAP takes a snapshot of the counters at the present time, or with AT arms one at the cursor. MARK with an operand of 0x80 or more records its own code. -/
def Obligations.SequencerSignals : Prop :=
  (∀ (s : State) (i : Thread),
      s.chip.id.hub = false →
      s.chip.inReset = false →
      s.chip.paused = false →
      s.chip.pick = some i.val →
      Iw.op (s.chip.fetch i.val) = 0x28 →
      Iw.good (s.chip.fetch i.val) = true →
      (Iw.fl (s.chip.fetch i.val)).testBit 0 = false →
      (Iw.fl (s.chip.fetch i.val)).testBit 1 = false →
      (Iw.a (s.chip.fetch i.val)) < semCount →
      (s.chip.sem (Iw.a (s.chip.fetch i.val))).count + (oneIfZero (Iw.b (s.chip.fetch i.val) % 65536)) ≤ 65535 →
      ∃ t, exec (.sig i) s = .next t ∧ t.pending = s.pending
        ∧ t.chip.sem (Iw.a (s.chip.fetch i.val)) = { s.chip.sem (Iw.a (s.chip.fetch i.val)) with count := (s.chip.sem (Iw.a (s.chip.fetch i.val))).count + (oneIfZero (Iw.b (s.chip.fetch i.val) % 65536)) }
        ∧ (t.chip.th i.val).pc = pcNext (s.chip.th i.val).pc
        ∧ (t.chip.th i.val).mode = (s.chip.th i.val).mode
        ∧ t.chip.sg.waits = s.chip.sg.waits)
  ∧ (∀ (s : State) (i : Thread),
      s.chip.id.hub = false →
      s.chip.inReset = false →
      s.chip.paused = false →
      s.chip.pick = some i.val →
      Iw.op (s.chip.fetch i.val) = 0x28 →
      Iw.good (s.chip.fetch i.val) = true →
      (Iw.fl (s.chip.fetch i.val)).testBit 0 = false →
      (Iw.fl (s.chip.fetch i.val)).testBit 1 = false →
      (Iw.a (s.chip.fetch i.val)) < semCount →
      65535 < (s.chip.sem (Iw.a (s.chip.fetch i.val))).count + (oneIfZero (Iw.b (s.chip.fetch i.val) % 65536)) →
      ∃ t, exec (.sig i) s = .next t ∧ t.pending = s.pending
        ∧ t.chip.sg = s.chip.sg
        ∧ t.chip.th i.val = { (s.chip.th i.val).hasIssued s.chip.tk.frc with mode := .fault, fcode := 6 })
  ∧ (∀ (s : State) (i : Thread),
      s.chip.id.hub = false →
      s.chip.inReset = false →
      s.chip.paused = false →
      s.chip.pick = some i.val →
      Iw.op (s.chip.fetch i.val) = 0x28 →
      Iw.good (s.chip.fetch i.val) = true →
      (Iw.fl (s.chip.fetch i.val)).testBit 0 = true →
      (Iw.a (s.chip.fetch i.val)) < semCount →
      s.chip.waitersOf (Iw.a (s.chip.fetch i.val)) = [] →
      ∃ t, exec (.sigEvt i) s = .next t ∧ t.pending = s.pending
        ∧ t.chip.sg.waits = s.chip.sg.waits
        ∧ t.chip.sg.sems = s.chip.sg.sems
        ∧ (t.chip.th i.val).pc = pcNext (s.chip.th i.val).pc)
  ∧ (∀ (s : State) (i : Thread),
      s.chip.id.hub = false →
      s.chip.inReset = false →
      s.chip.paused = false →
      s.chip.pick = some i.val →
      Iw.op (s.chip.fetch i.val) = 0x28 →
      Iw.good (s.chip.fetch i.val) = true →
      (Iw.fl (s.chip.fetch i.val)).testBit 0 = true →
      (Iw.a (s.chip.fetch i.val)) < semCount →
      ∃ t, exec (.sigEvt i) s = .next t ∧ t.pending = s.pending
        ∧ t.chip.waitersOf (Iw.a (s.chip.fetch i.val)) = []
        ∧ t.chip.sg.sems = s.chip.sg.sems)
  ∧ (∀ (s : State) (i : Thread),
      s.chip.id.hub = false →
      s.chip.inReset = false →
      s.chip.paused = false →
      s.chip.pick = some i.val →
      Iw.op (s.chip.fetch i.val) = 0x29 →
      Iw.good (s.chip.fetch i.val) = true →
      Word.bit (s.chip.gteDst (Iw.a (s.chip.fetch i.val))) 31 = true →
      (s.chip.ent (Word.field (s.chip.gteSem (Iw.a (s.chip.fetch i.val))) 16 8)).state.usable = true →
      (Iw.fl (s.chip.fetch i.val)).testBit 1 = false →
      ∃ t, exec (.sigr i) s = .next t ∧ t.pending = s.pending
        ∧ t.chip.gt.staging = s.chip.gt.staging ++ [{ agent := 1024 + i.val, dest := Word.field (s.chip.gteDst (Iw.a (s.chip.fetch i.val))) 0 24, sem := Word.field (s.chip.gteSem (Iw.a (s.chip.fetch i.val))) 0 16, chan := Word.field (s.chip.gteChan (Iw.a (s.chip.fetch i.val))) 0 12, grp := Word.field (s.chip.gteSem (Iw.a (s.chip.fetch i.val))) 16 8, gid := (s.chip.ent (Word.field (s.chip.gteSem (Iw.a (s.chip.fetch i.val))) 16 8)).gid, gen := (s.chip.ent (Word.field (s.chip.gteSem (Iw.a (s.chip.fetch i.val))) 16 8)).gen, n := (oneIfZero (Iw.b (s.chip.fetch i.val) % 65536)), dir := false, tag := 0 }]
        ∧ (t.chip.th i.val).pc = pcNext (s.chip.th i.val).pc
        ∧ t.chip.sg = s.chip.sg)
  ∧ (∀ (s : State) (i : Thread),
      s.chip.id.hub = false →
      s.chip.inReset = false →
      s.chip.paused = false →
      s.chip.pick = some i.val →
      Iw.op (s.chip.fetch i.val) = 0x2A →
      Iw.good (s.chip.fetch i.val) = true →
      (Iw.fl (s.chip.fetch i.val)).testBit 1 = false →
      (Iw.fl (s.chip.fetch i.val)).testBit 2 = false →
      (Iw.a (s.chip.fetch i.val)) < semCount →
      SMap.has s.chip.sg.waits (1024 + i.val) = false →
      (s.chip.sem (Iw.a (s.chip.fetch i.val))).ord = false →
      ∃ t, exec (.waits i) s = .next t ∧ t.pending = s.pending
        ∧ (t.chip.th i.val).mode = .waitS
        ∧ (t.chip.th i.val).pc = pcNext (s.chip.th i.val).pc
        ∧ SMap.has t.chip.sg.waits (1024 + i.val) = true
        ∧ (t.chip.waitersOf (Iw.a (s.chip.fetch i.val))).length = (s.chip.waitersOf (Iw.a (s.chip.fetch i.val))).length + 1
        ∧ t.chip.sg.sems = s.chip.sg.sems)
  ∧ (∀ (s : State) (i : Thread),
      s.chip.id.hub = false →
      s.chip.inReset = false →
      s.chip.paused = false →
      s.chip.pick = some i.val →
      Iw.op (s.chip.fetch i.val) = 0x30 →
      Iw.good (s.chip.fetch i.val) = true →
      ∃ t, exec (.fence i) s = .next t ∧ t.pending = s.pending
        ∧ t.chip.th i.val = { (s.chip.th i.val).hasIssued s.chip.tk.frc with pc := pcNext (s.chip.th i.val).pc, mode := .waitN, tag := ((s.chip.th i.val).course + 16 - Iw.fl (s.chip.fetch i.val) % 4) % 16, stalled := false }
        ∧ t.chip.sq.fences = (s.chip.sq.fences.map fun f => if f.1 = some i.val then (none, f.2) else f) ++ [(some i.val, ((s.chip.th i.val).course + 16 - Iw.fl (s.chip.fetch i.val) % 4) % 16)])
  ∧ (∀ (s : State) (i : Thread) (g : Fin 16) (l : List (Option Nat × Nat)),
      s.chip.id.hub = false →
      s.chip.inReset = false →
      (s.chip.th i.val).mode = .waitN →
      takeFence g.val s.chip.sq.fences = (some (some i.val), l) →
      ∃ t, exec (.fenceDone g) s = .next t ∧ t.pending = s.pending
        ∧ (t.chip.th i.val).mode = .run
        ∧ (t.chip.th i.val).pc = (s.chip.th i.val).pc
        ∧ t.chip.sq.fences = l)
  ∧ (∀ (s : State) (j : Nat) (g : Fin 16) (l : List (Option Nat × Nat)),
      s.chip.id.hub = false →
      s.chip.inReset = false →
      ((takeFence g.val s.chip.sq.fences).1 = none ∨ (takeFence g.val s.chip.sq.fences).1 = some none ∨ takeFence g.val s.chip.sq.fences = (some (some j), l) ∧ (s.chip.th j).mode ≠ .waitN) →
      ∃ t, exec (.fenceDone g) s = .next t ∧ t.pending = s.pending
        ∧ t.chip.sq.threads = s.chip.sq.threads
        ∧ t.chip.sq.fences = (takeFence g.val s.chip.sq.fences).2)
  ∧ (∀ (s : State) (i : Thread),
      s.chip.id.hub = false →
      s.chip.inReset = false →
      (s.chip.th i.val).mode = .waitN →
      ∃ t, exec (.fenceStall i) s = .next t ∧ t.pending = s.pending
        ∧ t.chip.th i.val = { (s.chip.th i.val) with stalled := true })
  ∧ (∀ (s : State) (i : Thread),
      s.chip.id.hub = false →
      s.chip.inReset = false →
      s.chip.paused = false →
      s.chip.pick = some i.val →
      Iw.op (s.chip.fetch i.val) = 0x38 →
      Iw.good (s.chip.fetch i.val) = true →
      (Iw.fl (s.chip.fetch i.val)).testBit 0 = false →
      ∃ t, exec (.snap i) s = .next t ∧ t.pending = s.pending
        ∧ t.chip.mn.snapSeq = (s.chip.mn.snapSeq + 1) % 2 ^ 32
        ∧ t.chip.mn.snapAt = s.chip.cycleTime
        ∧ t.chip.mn.psnap = s.chip.mn.pins
        ∧ (t.chip.th i.val).pc = pcNext (s.chip.th i.val).pc)
  ∧ (∀ (s : State) (i : Thread),
      s.chip.id.hub = false →
      s.chip.inReset = false →
      s.chip.paused = false →
      s.chip.pick = some i.val →
      Iw.op (s.chip.fetch i.val) = 0x38 →
      Iw.good (s.chip.fetch i.val) = true →
      (Iw.fl (s.chip.fetch i.val)).testBit 0 = true →
      ∃ t, exec (.snapAt i) s = .next t ∧ t.pending = s.pending
        ∧ t.chip.mn.armed = some (s.chip.th i.val).cursor
        ∧ (t.chip.th i.val).pc = pcNext (s.chip.th i.val).pc
        ∧ t.chip.mn.snap = s.chip.mn.snap)
  ∧ (∀ (s : State) (i : Thread),
      s.chip.id.hub = false →
      s.chip.inReset = false →
      s.chip.paused = false →
      s.chip.pick = some i.val →
      Iw.op (s.chip.fetch i.val) = 0x39 →
      Iw.good (s.chip.fetch i.val) = true →
      0x80 ≤ Iw.a (s.chip.fetch i.val) →
      s.chip.ev.queue.length < 64 →
      ∃ t, exec (.mark i) s = .next t ∧ t.pending = s.pending
        ∧ t.chip.ev.queue = s.chip.ev.queue ++ [{ code := 0x1000 + Iw.a (s.chip.fetch i.val), src := i.val, sev := Iw.fl (s.chip.fetch i.val) % 4, late := false, p1 := BitVec.ofNat 32 i.val ||| Word.place (s.chip.th i.val).pc 16, p2 := BitVec.ofNat 32 (s.chip.th i.val).course, p3 := BitVec.ofNat 32 (Iw.b (s.chip.fetch i.val)) }]
        ∧ (t.chip.th i.val).pc = pcNext (s.chip.th i.val).pc)
  ∧ (∀ (s : State) (i : Thread),
      s.chip.id.hub = false →
      s.chip.inReset = false →
      s.chip.paused = false →
      s.chip.pick = some i.val →
      Iw.op (s.chip.fetch i.val) = 0x39 →
      Iw.good (s.chip.fetch i.val) = true →
      Iw.a (s.chip.fetch i.val) < 0x80 →
      ∃ t, exec (.mark i) s = .next t ∧ t.pending = s.pending
        ∧ t.chip.th i.val = { (s.chip.th i.val).hasIssued s.chip.tk.frc with mode := .fault, fcode := 2 })

/-- The thread controls, the mailboxes and the program store. START of a stopped thread latches its program counter, group, course and base, to which its cursor goes, and waits for the census, or runs where the census of its entry is complete; on another thread it does nothing. HALT halts a thread that is not idle and withdraws its wait, RESUME lets one in AUTH_HOLD wait for its lines again, CANCEL of a stopped one leaves none of its lines armed and cancels its arms under way. A mailbox takes its two words at once, the low one from the writing master's bank. A write of SQM_WHI stores the word at SQM_ADDR and, with AUTOINC, the address moves on by one; a word in the protected range, or at an address of 0x4400 or more, is not stored. Reading SQM_RLO moves the address in the same way and stores nothing. -/
def Obligations.SequencerControls : Prop :=
  (∀ (s : State) (m : Master),
      s.chip.opens m 0x10 = true →
      (s.chip.th (s.chip.chanOf m 0x10)).mode.stopped = true →
      ∃ t, exec (.threadStart m) s = .next t ∧ t.pending = s.pending
        ∧ (t.chip.th (s.chip.chanOf m 0x10)).mode = (if (s.chip.ent (Word.field (s.chip.reg Reg.SQ_TCFG (s.chip.chanOf m 0x10)) 16 8)).censusOk then .run else .cwait)
        ∧ (t.chip.th (s.chip.chanOf m 0x10)).pc = Word.field (s.chip.reg Reg.SQ_TCFG (s.chip.chanOf m 0x10)) 0 14
        ∧ (t.chip.th (s.chip.chanOf m 0x10)).grp = Word.field (s.chip.reg Reg.SQ_TCFG (s.chip.chanOf m 0x10)) 16 8
        ∧ (t.chip.th (s.chip.chanOf m 0x10)).course = (s.chip.reg Reg.SQ_TCOURSE (s.chip.chanOf m 0x10)).toNat
        ∧ (t.chip.th (s.chip.chanOf m 0x10)).fcode = 0
        ∧ ((s.chip.ent (Word.field (s.chip.reg Reg.SQ_TCFG (s.chip.chanOf m 0x10)) 16 8)).admitted = false → (t.chip.th (s.chip.chanOf m 0x10)).base = timeOf (s.chip.reg Reg.SQ_SBASE_FRAC (s.chip.chanOf m 0x10)) (s.chip.reg Reg.SQ_SBASE_NSLO (s.chip.chanOf m 0x10)) (s.chip.reg Reg.SQ_SBASE_NSHI (s.chip.chanOf m 0x10)))
        ∧ (t.chip.th (s.chip.chanOf m 0x10)).cursor = (t.chip.th (s.chip.chanOf m 0x10)).base
        ∧ (∀ j, j ≠ (s.chip.chanOf m 0x10) → t.chip.th j = s.chip.th j))
  ∧ (∀ (s : State) (m : Master),
      s.chip.opens m 0x10 = true →
      (s.chip.th (s.chip.chanOf m 0x10)).mode.stopped = false →
      ∃ t, exec (.threadStart m) s = .next t ∧ t.pending = s.pending
        ∧ t.chip.sq = s.chip.sq)
  ∧ (∀ (s : State) (m : Master),
      s.chip.opens m 0x10 = true →
      (s.chip.th (s.chip.chanOf m 0x10)).mode ≠ .idle →
      ∃ t, exec (.threadHalt m) s = .next t ∧ t.pending = s.pending
        ∧ t.chip.th (s.chip.chanOf m 0x10) = { (s.chip.th (s.chip.chanOf m 0x10)) with mode := .halted, pc := (s.chip.th (s.chip.chanOf m 0x10)).shownPc }
        ∧ SMap.has t.chip.sg.waits (1024 + (s.chip.chanOf m 0x10)) = false
        ∧ t.chip.rt = s.chip.rt)
  ∧ (∀ (s : State) (m : Master),
      s.chip.opens m 0x10 = true →
      (s.chip.th (s.chip.chanOf m 0x10)).mode = .authHold →
      ∃ t, exec (.threadResume m) s = .next t ∧ t.pending = s.pending
        ∧ t.chip.th (s.chip.chanOf m 0x10) = { (s.chip.th (s.chip.chanOf m 0x10)) with mode := .waitF })
  ∧ (∀ (s : State) (m : Master),
      s.chip.opens m 0x10 = true →
      (s.chip.th (s.chip.chanOf m 0x10)).mode ≠ .authHold →
      ∃ t, exec (.threadResume m) s = .next t ∧ t.pending = s.pending
        ∧ t.chip.sq = s.chip.sq
        ∧ t.chip.rt = s.chip.rt)
  ∧ (∀ (s : State) (m : Master),
      s.chip.opens m 0x10 = true →
      (s.chip.th (s.chip.chanOf m 0x10)).mode.stopped = true →
      ∃ t, exec (.threadCancel m) s = .next t ∧ t.pending = s.pending
        ∧ t.chip.sq.flights = s.chip.sq.flights.map (fun a => if a.thread == (s.chip.chanOf m 0x10) then { a with cancelled := true } else a)
        ∧ (∀ e ∈ t.chip.rt.lines, (match e.2.armed with | some a => a.solo || a.thread != (s.chip.chanOf m 0x10) | none => true) = true)
        ∧ t.chip.sq.threads = s.chip.sq.threads)
  ∧ (∀ (s : State) (m : Master) (n : Fin 64) (w : Word),
      s.chip.opens m 0x10 = true →
      ∃ t, exec (.mailboxCommit m n w) s = .next t ∧ t.pending = s.pending
        ∧ t.chip.mbox (s.chip.chanOf m 0x10) n.val = (Word.join w (s.chip.regOf m Reg.SQ_MB_LO (s.chip.chanOf m 0x10) n.val)).toNat
        ∧ (∀ j, j ≠ n.val → t.chip.mbox (s.chip.chanOf m 0x10) j = s.chip.mbox (s.chip.chanOf m 0x10) j)
        ∧ t.chip.gr = s.chip.gr)
  ∧ (∀ (s : State) (m : Master) (w : Word),
      s.chip.opens m 0x11 = true →
      Word.field (s.chip.regOf m Reg.SQM_ADDR) 0 15 < 0x4400 →
      (Word.bit (s.chip.reg Reg.SQM_WPROT) 31 = false ∨ Word.field (s.chip.reg Reg.SQM_WPROT) 0 15 ≤ Word.field (s.chip.regOf m Reg.SQM_ADDR) 0 15) →
      ∃ t, exec (.sqmCommit m w) s = .next t ∧ t.pending = s.pending
        ∧ t.chip.sqmWord (Word.field (s.chip.regOf m Reg.SQM_ADDR) 0 15) = Word.join w (s.chip.regOf m Reg.SQM_WLO)
        ∧ (∀ j, j ≠ Word.field (s.chip.regOf m Reg.SQM_ADDR) 0 15 → t.chip.sqmWord j = s.chip.sqmWord j)
        ∧ Word.field (t.chip.regOf m Reg.SQM_ADDR) 0 15 = (if Word.bit (s.chip.regOf m Reg.SQM_ADDR) 31 then (Word.field (s.chip.regOf m Reg.SQM_ADDR) 0 15 + 1) % 2 ^ 15 else Word.field (s.chip.regOf m Reg.SQM_ADDR) 0 15)
        ∧ t.chip.sq.threads = s.chip.sq.threads)
  ∧ (∀ (s : State) (m : Master) (w : Word),
      s.chip.opens m 0x11 = true →
      Word.field (s.chip.regOf m Reg.SQM_ADDR) 0 15 < 0x4400 →
      Word.bit (s.chip.reg Reg.SQM_WPROT) 31 = true →
      Word.field (s.chip.regOf m Reg.SQM_ADDR) 0 15 < Word.field (s.chip.reg Reg.SQM_WPROT) 0 15 →
      ∃ t, exec (.sqmCommit m w) s = .next t ∧ t.pending = s.pending
        ∧ t.chip.sq = s.chip.sq)
  ∧ (∀ (s : State) (m : Master) (w : Word),
      s.chip.opens m 0x11 = true →
      0x4400 ≤ Word.field (s.chip.regOf m Reg.SQM_ADDR) 0 15 →
      ∃ t, exec (.sqmCommit m w) s = .next t ∧ t.pending = s.pending
        ∧ t.chip.sq = s.chip.sq
        ∧ t.chip.regOf m Reg.SQM_ADDR = s.chip.regOf m Reg.SQM_ADDR)
  ∧ (∀ (s : State) (m : Master),
      s.chip.opens m 0x11 = true →
      ∃ t, exec (.sqmRead m) s = .next t ∧ t.pending = s.pending
        ∧ t.chip.sq = s.chip.sq
        ∧ Word.field (t.chip.regOf m Reg.SQM_ADDR) 0 15 = (if Word.bit (s.chip.regOf m Reg.SQM_ADDR) 31 then (Word.field (s.chip.regOf m Reg.SQM_ADDR) 0 15 + 1) % 2 ^ 15 else Word.field (s.chip.regOf m Reg.SQM_ADDR) 0 15))

/-- Arrivals and releases at the mortar of a hub and of a die. DIE_ARRIVAL, where the armed course is complete at a die that is no apex, opens the barrier with the die's own arrival; with nothing armed it does nothing. An ARRIVE that the entry meets, from a listed port whose arrival is expected and not yet there, becomes that port's arrival and the backlog rises by one; one from a port that is not listed leaves the entry as it is; a stale one leaves the buffer with every cell of its message, and nothing else. A RELEASE of the expected barrier becomes the latest release of the entry and the next is expected; the barrier closes, or is closing until the release has left every port it is held on. One of another barrier, or at an apex, is stray and changes no entry, and so is one at a die that has had it. A held arrival that can move leaves the order of held messages. The backlog flag is set once the backlog is above its depth. That a barrier is closing until its release has left on every port, and that a stale message waits for the rest of its cells (log entry 22), the order of the reasons for which a cell is stale, and the waiting of an arrival for a closing barrier (log entry 27), are the model's choices. -/
def Obligations.MortarBarriers : Prop :=
  (∀ (s : State) (i : DieGIdx) (n : Nat),
      s.chip.id.hub = false →
      s.chip.inReset = false →
      s.chip.hg.fenced = false →
      (s.chip.ent i.val).state.usable = true →
      (s.chip.ent i.val).barrier = none →
      s.chip.armedCourse i.val = some n →
      (s.chip.ent i.val).expelled = false →
      (n + 1 < (s.chip.ent i.val).depth ∨ s.chip.courseDone i.val (n + 1 - (s.chip.ent i.val).depth) = true) →
      (s.chip.ent i.val).apex = false →
      ∃ t, exec (.dieArrival i) s = .next t ∧ t.pending = s.pending
        ∧ (t.chip.ent i.val).barrier = some n
        ∧ SMap.has (t.chip.ent i.val).arrivals 99 = true
        ∧ (t.chip.ent i.val).state = (s.chip.ent i.val).state
        ∧ (t.chip.ent i.val).latest = (s.chip.ent i.val).latest
        ∧ t.chip.sq = s.chip.sq)
  ∧ (∀ (s : State) (i : DieGIdx),
      s.chip.id.hub = false →
      s.chip.inReset = false →
      s.chip.armedCourse i.val = none →
      ∃ t, exec (.dieArrival i) s = .next t ∧ t.pending = s.pending
        ∧ t.chip.gr = s.chip.gr
        ∧ t.chip.ports = s.chip.ports)
  ∧ (∀ (s : State) (p : Port) (x : Cell) (g n q : Nat) (l : List Cell),
      s.chip.id.hub = true →
      s.chip.inReset = false →
      p.val < 64 →
      s.chip.headB p.val 0x20 = some x →
      s.chip.meet x = .inl g →
      s.chip.messageB p.val 0x20 x.group (arriveLen (s.chip.mtLen g)) = some l →
      (s.chip.ent g).barrier = some n →
      (s.chip.ent g).closing = false →
      ((arriveSlots (s.chip.mtLen g) l).headD 0) / 16 % 8 = n % 8 →
      (s.chip.ent g).expects p.val n = true →
      SMap.has (s.chip.ent g).arrivals p.val = false →
      q ∈ (s.chip.ent g).awaited n →
      q ≠ p.val →
      ∃ t, exec (.arriveReceive p) s = .next t ∧ t.pending = s.pending
        ∧ SMap.find (t.chip.ent g).arrivals p.val { lanes := [], det := false } = { lanes := ((s.chip.mtCfgs g).zip (arriveSlots (s.chip.mtLen g) l)).map (fun y => slotRead y.1 y.2), det := ((arriveSlots (s.chip.mtLen g) l).headD 0).testBit 0 }
        ∧ (t.chip.ent g).barrier = some n
        ∧ t.chip.gr.qocc = s.chip.gr.qocc + 1
        ∧ (t.chip.port p.val).q.rxB = (s.chip.port p.val).q.rxB.drop (arriveLen (s.chip.mtLen g))
        ∧ (∀ j, j ≠ p.val → SMap.has (t.chip.ent g).arrivals j = SMap.has (s.chip.ent g).arrivals j))
  ∧ (∀ (s : State) (p : Port) (x : Cell) (g : Nat) (l : List Cell),
      s.chip.id.hub = true →
      s.chip.inReset = false →
      p.val < 64 →
      s.chip.headB p.val 0x20 = some x →
      s.chip.meet x = .inl g →
      s.chip.messageB p.val 0x20 x.group (arriveLen (s.chip.mtLen g)) = some l →
      (s.chip.ent g).pmap.testBit p.val = false →
      (s.chip.ent g).closing = false →
      ∃ t, exec (.arriveReceive p) s = .next t ∧ t.pending = s.pending
        ∧ t.chip.gr = s.chip.gr
        ∧ (t.chip.port p.val).q.rxB = (s.chip.port p.val).q.rxB.drop (arriveLen (s.chip.mtLen g)))
  ∧ (∀ (s : State) (p : Port) (x : Cell) (k : Nat),
      s.chip.inReset = false →
      p.val < s.chip.nports →
      s.chip.headB p.val 0x20 = some x →
      s.chip.meet x = .inr k →
      s.chip.messageLen x ≤ (s.chip.port p.val).q.rxB.length →
      ∃ t, exec (.arriveReceive p) s = .next t ∧ t.pending = s.pending
        ∧ t.chip.gr = s.chip.gr
        ∧ (t.chip.port p.val).q.rxB = (s.chip.port p.val).q.rxB.drop ((((s.chip.port p.val).q.rxB.take (s.chip.messageLen x)).takeWhile fun y => y.typ == x.typ && y.group == x.group).length))
  ∧ (∀ (s : State) (p : Port) (x : Cell) (g : Nat) (l : List Cell),
      s.chip.id.hub = true →
      s.chip.inReset = false →
      p.val < 66 →
      s.chip.headB p.val 0x21 = some x →
      s.chip.meet x = .inl g →
      s.chip.messageB p.val 0x21 x.group (if s.chip.mtTwo g then 2 else 1) = some l →
      (s.chip.ent g).apex = false →
      (s.chip.ent g).closing = false →
      (s.chip.ent g).expected = some (releaseRead l).course →
      ((s.chip.ent g).barrier = none ∨ (s.chip.ent g).barrier = some (releaseRead l).course) →
      ∃ t, exec (.releaseReceive p) s = .next t ∧ t.pending = s.pending
        ∧ (t.chip.ent g).latest = some (releaseRead l)
        ∧ (t.chip.ent g).expected = some ((releaseRead l).course + 1)
        ∧ ((t.chip.ent g).closing = true ∨ ((t.chip.ent g).barrier = none ∧ (t.chip.ent g).arrivals = []))
        ∧ (t.chip.port p.val).q.rxB = (s.chip.port p.val).q.rxB.drop (if s.chip.mtTwo g then 2 else 1))
  ∧ (∀ (s : State) (p : Port) (x : Cell) (g : Nat) (l : List Cell),
      s.chip.id.hub = true →
      s.chip.inReset = false →
      p.val < 66 →
      s.chip.headB p.val 0x21 = some x →
      s.chip.meet x = .inl g →
      s.chip.messageB p.val 0x21 x.group (if s.chip.mtTwo g then 2 else 1) = some l →
      ((s.chip.ent g).apex = true ∨ ((s.chip.ent g).barrier = none ∧ (s.chip.ent g).expected ≠ none ∧ (s.chip.ent g).expected ≠ some (releaseRead l).course)) →
      ∃ t, exec (.releaseReceive p) s = .next t ∧ t.pending = s.pending
        ∧ t.chip.gr = s.chip.gr
        ∧ (t.chip.port p.val).q.rxB = (s.chip.port p.val).q.rxB.drop (if s.chip.mtTwo g then 2 else 1))
  ∧ (∀ (s : State) (p : Port) (x : Cell) (g : Nat) (l : List Cell),
      s.chip.id.hub = false →
      s.chip.inReset = false →
      p.val < 2 →
      s.chip.headB p.val 0x21 = some x →
      s.chip.meet x = .inl g →
      s.chip.messageB p.val 0x21 x.group (if s.chip.mtTwo g then 2 else 1) = some l →
      (s.chip.ent g).latest = none →
      ∃ t, exec (.releaseDeliver p) s = .next t ∧ t.pending = s.pending
        ∧ (t.chip.ent g).latest = some (releaseRead l)
        ∧ (t.chip.port p.val).q.rxB = (s.chip.port p.val).q.rxB.drop (if s.chip.mtTwo g then 2 else 1))
  ∧ (∀ (s : State) (p : Port) (x : Cell) (g : Nat) (l : List Cell) (r : Release),
      s.chip.id.hub = false →
      s.chip.inReset = false →
      p.val < 2 →
      s.chip.headB p.val 0x21 = some x →
      s.chip.meet x = .inl g →
      s.chip.messageB p.val 0x21 x.group (if s.chip.mtTwo g then 2 else 1) = some l →
      (s.chip.ent g).latest = some r →
      (releaseRead l).course ≤ r.course →
      ∃ t, exec (.releaseDeliver p) s = .next t ∧ t.pending = s.pending
        ∧ t.chip.gr = s.chip.gr
        ∧ t.chip.sq = s.chip.sq
        ∧ (t.chip.port p.val).q.rxB = (s.chip.port p.val).q.rxB.drop (if s.chip.mtTwo g then 2 else 1))
  ∧ (∀ (s : State) (g n : Nat) (l : List Cell),
      s.chip.inReset = false →
      s.chip.gr.held.find? s.chip.heldReady = some (g, .arrival n l) →
      ∃ t, exec (.heldSend) s = .next t ∧ t.pending = s.pending
        ∧ t.chip.gr.held = s.chip.gr.held.filter (fun y => y != (g, HeldMsg.arrival n l))
        ∧ (∀ j, { t.chip.ent j with spread := [] } = { s.chip.ent j with spread := [] })
        ∧ t.chip.regs = s.chip.regs)
  ∧ (∀ (s : State) ,
      s.chip.inReset = false →
      s.chip.gr.held.find? s.chip.heldReady = none →
      (s.chip.gr.entries.map fun e => e.1).find? s.chip.probeReady = none →
      ((s.chip.gr.entries.map fun e => e.1).find? fun g => !(s.chip.keptReady g).isEmpty) = none →
      ∃ t, exec (.heldSend) s = .next t ∧ t.pending = s.pending
        ∧ t.chip.gr = s.chip.gr
        ∧ t.chip.ports = s.chip.ports)
  ∧ (∀ (s : State) ,
      s.chip.inReset = false →
      Word.field (s.chip.reg Reg.MT_SATCFG) 0 8 < s.chip.gr.qocc →
      ∃ t, exec (.levelSat) s = .next t ∧ t.pending = s.pending
        ∧ t.chip.gr = { s.chip.gr with levelSat := true })
  ∧ (∀ (s : State) ,
      s.chip.inReset = false →
      s.chip.gr.qocc ≤ Word.field (s.chip.reg Reg.MT_SATCFG) 0 8 →
      ∃ t, exec (.levelSat) s = .next t ∧ t.pending = s.pending
        ∧ t.chip.gr = s.chip.gr
        ∧ t.chip.regs = s.chip.regs)

/-- Signals, events, waits, cancels and grants on the semaphores of a die. While the host holds no reset: a core signal of a semaphore that exists, while the shared port is free, adds its number (0 taken as 1) to the count of the semaphore or, directed, to the credit of its tag, and one that would pass 65,535 changes no count; of a number above 49,151 it changes nothing and is flagged. SETEVENT leaves nobody waiting. WAIT registers the wait of a slot that waits nowhere, in the mode of the semaphore; CANCEL takes the wait of the slot away. In a capture pause, while other operations wait for the shared port, or where the turn is a released signal's, a core request is queued. That a core request is not taken while HOST_RST_N is low is the model's choice (log entry 19). GRANT ends the wait of the winner, takes its number from the count and remembers the agent. While the shared port is free the operations of a master act on its selected semaphore: a signal, an event, the next rank back to 0, a mode that is written only while nobody waits, and the selection itself, which keeps its value where the new one is out of range. -/
def Obligations.SemaphoreOperations : Prop :=
  (∀ (s : State) (t0 : Slot) (n : Sem) (k : BitVec 16) (tag : BitVec 8),
      s.chip.id.hub = false →
      s.chip.inReset = false →
      s.chip.portTaken = false →
      s.chip.pw.hostLow = false →
      n.toNat < semCount →
      (s.chip.sem n.toNat).count + oneIfZero k.toNat ≤ 65535 →
      ∃ t, exec (.signal t0 n k false tag) s = .next t ∧ t.pending = s.pending
        ∧ t.chip.sem n.toNat = { s.chip.sem n.toNat with count := (s.chip.sem n.toNat).count + oneIfZero k.toNat }
        ∧ (∀ j, j ≠ n.toNat → t.chip.sem j = s.chip.sem j)
        ∧ t.chip.sg.waits = s.chip.sg.waits
        ∧ t.chip.sg.dirs = s.chip.sg.dirs)
  ∧ (∀ (s : State) (t0 : Slot) (n : Sem) (k : BitVec 16) (dir : Bool) (tag : BitVec 8),
      s.chip.id.hub = false →
      s.chip.inReset = false →
      s.chip.portTaken = false →
      s.chip.pw.hostLow = false →
      semCount ≤ n.toNat →
      ∃ t, exec (.signal t0 n k dir tag) s = .next t ∧ t.pending = s.pending
        ∧ t.chip.sg.sems = s.chip.sg.sems
        ∧ t.chip.sg.waits = s.chip.sg.waits
        ∧ t.chip.sg.dirs = s.chip.sg.dirs
        ∧ Word.bit (t.chip.reg (histRow 0x18)) 2 = true)
  ∧ (∀ (s : State) (t0 : Slot) (n : Sem) (k : BitVec 16) (tag : BitVec 8),
      s.chip.id.hub = false →
      s.chip.inReset = false →
      s.chip.portTaken = false →
      s.chip.pw.hostLow = false →
      n.toNat < semCount →
      65535 < (s.chip.sem n.toNat).count + oneIfZero k.toNat →
      ∃ t, exec (.signal t0 n k false tag) s = .next t ∧ t.pending = s.pending
        ∧ t.chip.sg.sems = s.chip.sg.sems
        ∧ t.chip.sg.waits = s.chip.sg.waits)
  ∧ (∀ (s : State) (t0 : Slot) (n : Sem) (k : BitVec 16) (tag : BitVec 8),
      s.chip.id.hub = false →
      s.chip.inReset = false →
      s.chip.portTaken = false →
      s.chip.pw.hostLow = false →
      n.toNat < semCount →
      (findDir s.chip.sg.dirs n.toNat tag.toNat).getD 0 + oneIfZero k.toNat ≤ 65535 →
      ((findDir s.chip.sg.dirs n.toNat tag.toNat).isSome = true ∨ s.chip.sg.dirs.length < 1024) →
      ∃ t, exec (.signal t0 n k true tag) s = .next t ∧ t.pending = s.pending
        ∧ findDir t.chip.sg.dirs n.toNat tag.toNat = some ((findDir s.chip.sg.dirs n.toNat tag.toNat).getD 0 + oneIfZero k.toNat)
        ∧ t.chip.sg.sems = s.chip.sg.sems)
  ∧ (∀ (s : State) (t0 : Slot) (n : Sem) (k : BitVec 16) (dir : Bool) (tag : BitVec 8),
      s.chip.id.hub = false →
      s.chip.inReset = false →
      s.chip.portTaken = true →
      s.chip.pw.hostLow = false →
      s.chip.sg.rq.length < 64 →
      ∃ t, exec (.signal t0 n k dir tag) s = .next t ∧ t.pending = s.pending
        ∧ t.chip.sg = { s.chip.sg with rq := s.chip.sg.rq ++ [(t0.val, .signal n.toNat (oneIfZero k.toNat) dir tag.toNat)] })
  ∧ (∀ (s : State) (t0 : Slot) (n : Sem),
      s.chip.id.hub = false →
      s.chip.inReset = false →
      s.chip.portTaken = false →
      s.chip.pw.hostLow = false →
      n.toNat < semCount →
      ∃ t, exec (.setevent t0 n) s = .next t ∧ t.pending = s.pending
        ∧ t.chip.waitersOf n.toNat = []
        ∧ t.chip.sg.sems = s.chip.sg.sems
        ∧ t.chip.sg.dirs = s.chip.sg.dirs)
  ∧ (∀ (s : State) (t0 : Slot) (n : Sem) (k : BitVec 16) (dir : Bool) (rank tag : BitVec 8),
      s.chip.id.hub = false →
      s.chip.inReset = false →
      s.chip.portTaken = false →
      s.chip.pw.hostLow = false →
      n.toNat < semCount →
      SMap.has s.chip.sg.waits t0.val = false →
      (s.chip.sem n.toNat).ord = false →
      ∃ t, exec (.wait t0 n k dir false rank tag) s = .next t ∧ t.pending = s.pending
        ∧ (SMap.find (t.chip.sg.waits.map fun e => (e.1, some e.2)) t0.val none).map (fun w => (w.sem, w.n, w.dir, w.ord, w.tag)) = some (n.toNat, oneIfZero k.toNat, dir, false, tag.toNat)
        ∧ t.chip.sg.sems = s.chip.sg.sems
        ∧ t.chip.sq = s.chip.sq)
  ∧ (∀ (s : State) (t0 : Slot) (n : Sem) (k : BitVec 16) (dir : Bool) (rank tag : BitVec 8),
      s.chip.id.hub = false →
      s.chip.inReset = false →
      s.chip.portTaken = false →
      s.chip.pw.hostLow = false →
      n.toNat < semCount →
      SMap.has s.chip.sg.waits t0.val = false →
      (s.chip.sem n.toNat).ord = true →
      rank.toNat < (s.chip.sem n.toNat).nrank →
      ∃ t, exec (.wait t0 n k dir true rank tag) s = .next t ∧ t.pending = s.pending
        ∧ (SMap.find (t.chip.sg.waits.map fun e => (e.1, some e.2)) t0.val none).map (fun w => (w.sem, w.n, w.ord, w.rank)) = some (n.toNat, oneIfZero k.toNat, true, rank.toNat)
        ∧ t.chip.sg.sems = s.chip.sg.sems)
  ∧ (∀ (s : State) (t0 : Slot) (n : Sem) (k : BitVec 16) (dir ord : Bool) (rank tag : BitVec 8),
      s.chip.id.hub = false →
      s.chip.inReset = false →
      s.chip.portTaken = false →
      s.chip.pw.hostLow = false →
      n.toNat < semCount →
      SMap.has s.chip.sg.waits t0.val = true →
      ∃ t, exec (.wait t0 n k dir ord rank tag) s = .next t ∧ t.pending = s.pending
        ∧ t.chip.sg.waits = s.chip.sg.waits
        ∧ t.chip.sg.sems = s.chip.sg.sems)
  ∧ (∀ (s : State) (t0 : Slot),
      s.chip.id.hub = false →
      s.chip.inReset = false →
      s.chip.portTaken = false →
      s.chip.pw.hostLow = false →
      ∃ t, exec (.cancel t0) s = .next t ∧ t.pending = s.pending
        ∧ SMap.has t.chip.sg.waits t0.val = false
        ∧ (∀ j, j ≠ t0.val → SMap.has t.chip.sg.waits j = SMap.has s.chip.sg.waits j)
        ∧ t.chip.sg.sems = s.chip.sg.sems)
  ∧ (∀ (s : State) (n : SemIdx) (a : Nat) (w : WaitState),
      s.chip.id.hub = false →
      s.chip.inReset = false →
      s.chip.winner n.val = some (a, w) →
      w.dir = false →
      ∃ t, exec (.grant n) s = .next t ∧ t.pending = s.pending
        ∧ SMap.has t.chip.sg.waits a = false
        ∧ (t.chip.sem n.val).count = (s.chip.sem n.val).count - w.n
        ∧ (t.chip.sem n.val).last = a
        ∧ t.chip.sg.dirs = s.chip.sg.dirs
        ∧ (∀ j, j ≠ a → SMap.has t.chip.sg.waits j = SMap.has s.chip.sg.waits j))
  ∧ (∀ (s : State) (n : SemIdx),
      s.chip.id.hub = false →
      s.chip.inReset = false →
      s.chip.winner n.val = none →
      ∃ t, exec (.grant n) s = .next t ∧ t.pending = s.pending
        ∧ t.chip.sg = s.chip.sg
        ∧ t.chip.sq = s.chip.sq)
  ∧ (∀ (s : State) (m : Master) (w : Word),
      s.chip.opens m 0x18 = true →
      s.chip.portTaken = false →
      Word.field (s.chip.regOf m Reg.SG_SEL) 0 16 < semCount →
      (s.chip.sem (Word.field (s.chip.regOf m Reg.SG_SEL) 0 16)).count + oneIfZero (Word.field w 0 16) ≤ 65535 →
      ∃ t, exec (.ssig m w) s = .next t ∧ t.pending = s.pending
        ∧ (t.chip.sem (Word.field (s.chip.regOf m Reg.SG_SEL) 0 16)).count = (s.chip.sem (Word.field (s.chip.regOf m Reg.SG_SEL) 0 16)).count + oneIfZero (Word.field w 0 16)
        ∧ t.chip.sg.waits = s.chip.sg.waits)
  ∧ (∀ (s : State) (m : Master),
      s.chip.opens m 0x18 = true →
      s.chip.portTaken = false →
      Word.field (s.chip.regOf m Reg.SG_SEL) 0 16 < semCount →
      ∃ t, exec (.scmdSetevent m) s = .next t ∧ t.pending = s.pending
        ∧ t.chip.waitersOf (Word.field (s.chip.regOf m Reg.SG_SEL) 0 16) = []
        ∧ t.chip.sg.sems = s.chip.sg.sems)
  ∧ (∀ (s : State) (m : Master),
      s.chip.opens m 0x18 = true →
      s.chip.portTaken = false →
      ∃ t, exec (.rstnext m) s = .next t ∧ t.pending = s.pending
        ∧ t.chip.sem (Word.field (s.chip.regOf m Reg.SG_SEL) 0 16) = { s.chip.sem (Word.field (s.chip.regOf m Reg.SG_SEL) 0 16) with next := 0 }
        ∧ t.chip.sg.waits = s.chip.sg.waits)
  ∧ (∀ (s : State) (m : Master) (w : Word),
      s.chip.opens m 0x18 = true →
      s.chip.waitersOf (Word.field (s.chip.regOf m Reg.SG_SEL) 0 16) = [] →
      ∃ t, exec (.sgScfgWrite m w) s = .next t ∧ t.pending = s.pending
        ∧ t.chip.sem (Word.field (s.chip.regOf m Reg.SG_SEL) 0 16) = { s.chip.sem (Word.field (s.chip.regOf m Reg.SG_SEL) 0 16) with cfg := w &&& 0xC0FF00FF }
        ∧ t.chip.regs = s.chip.regs)
  ∧ (∀ (s : State) (m : Master) (w : Word),
      s.chip.opens m 0x18 = true →
      s.chip.waitersOf (Word.field (s.chip.regOf m Reg.SG_SEL) 0 16) ≠ [] →
      ∃ t, exec (.sgScfgWrite m w) s = .next t ∧ t.pending = s.pending
        ∧ t.chip.sg = s.chip.sg)
  ∧ (∀ (s : State) (m : Master) (agent : Bool) (w : Word),
      s.chip.opens m 0x18 = true →
      (if agent then Word.field w 0 11 < 1056 else Word.field w 0 16 < semCount) →
      ∃ t, exec (.sgSelWrite m agent w) s = .next t ∧ t.pending = s.pending
        ∧ (if agent then Word.field (t.chip.regOf m Reg.SG_WSEL) 0 11 = Word.field w 0 11 else Word.field (t.chip.regOf m Reg.SG_SEL) 0 16 = Word.field w 0 16)
        ∧ t.chip.sg = s.chip.sg)
  ∧ (∀ (s : State) (m : Master) (agent : Bool) (w : Word),
      s.chip.opens m 0x18 = true →
      (if agent then 1056 ≤ Word.field w 0 11 else semCount ≤ Word.field w 0 16) →
      ∃ t, exec (.sgSelWrite m agent w) s = .next t ∧ t.pending = s.pending
        ∧ t.chip.regOf m Reg.SG_SEL = s.chip.regOf m Reg.SG_SEL
        ∧ t.chip.regOf m Reg.SG_WSEL = s.chip.regOf m Reg.SG_WSEL
        ∧ t.chip.sg = s.chip.sg)

/-- Remote signals: staging, their gates, the pending buffer and their execution. A core SIGR through a valid gate entry with a usable group joins the staging queue where it has room, and else the slot is busy. STAGING_QUERY asks for the transmit count of the first staged signal unless one is asked for. An answer to a transmit query sends the first staged signal for another die with that gate where its lane has room; an answer to a receive query and FC_UPDATE give the count to the entries of that source and channel and release those whose gate it meets. A hub sends an RSIG on to the port of its target where there is room; a die keeps a good one until PENDING_ENTRY takes it into the lowest free entry, and drops a misrouted one. REMOTE_SIGNAL_EXECUTE, when the turn of the shared port is the release's, signals the first released entry and frees it. GATE_STALL marks a gate that has stayed unmet for the stall time once. That the staging head asks once, and that an answer is taken for the oldest query and thrown away where its entry is gone, are the model's choices (log entry 24). -/
def Obligations.RemoteSignals : Prop :=
  (∀ (s : State) (t0 : Slot) (e0 : GateIdx) (k : BitVec 16) (tag : BitVec 8),
      s.chip.id.hub = false →
      s.chip.inReset = false →
      s.chip.portTaken = false →
      s.chip.pw.hostLow = false →
      s.chip.gt.staging.length < 64 →
      Word.bit (s.chip.gteDst e0.val) 31 = true →
      (s.chip.ent (Word.field (s.chip.gteSem e0.val) 16 8)).state.usable = true →
      ∃ t, exec (.coreSigr t0 e0 k false tag) s = .next t ∧ t.pending = s.pending
        ∧ t.chip.gt = { s.chip.gt with staging := s.chip.gt.staging ++ [{ agent := t0.val, dest := Word.field (s.chip.gteDst e0.val) 0 24, sem := Word.field (s.chip.gteSem e0.val) 0 16, chan := Word.field (s.chip.gteChan e0.val) 0 12, grp := Word.field (s.chip.gteSem e0.val) 16 8, gid := (s.chip.ent (Word.field (s.chip.gteSem e0.val) 16 8)).gid, gen := (s.chip.ent (Word.field (s.chip.gteSem e0.val) 16 8)).gen, n := oneIfZero k.toNat, dir := false, tag := 0 }] })
  ∧ (∀ (s : State) (t0 : Slot) (e0 : GateIdx) (k : BitVec 16) (dir : Bool) (tag : BitVec 8),
      s.chip.id.hub = false →
      s.chip.inReset = false →
      s.chip.portTaken = false →
      s.chip.pw.hostLow = false →
      64 ≤ s.chip.gt.staging.length →
      ∃ t, exec (.coreSigr t0 e0 k dir tag) s = .next t ∧ t.pending = s.pending
        ∧ t.chip.gt = s.chip.gt
        ∧ t0.val ∈ t.chip.sg.busy)
  ∧ (∀ (s : State) (x : Staged),
      s.chip.id.hub = false →
      s.chip.inReset = false →
      s.chip.gt.staging.head? = some x →
      (s.chip.gt.queries.any fun q => match q with | .tx _ => true | .rx _ _ | .gone _ => false) = false →
      ∃ t, exec (.stagingQuery) s = .next t ∧ t.pending = s.pending
        ∧ t.chip.gt = { s.chip.gt with queries := s.chip.gt.queries ++ [.tx x.chan] })
  ∧ (∀ (s : State) (k : Word) (a b : Nat) (r : List FcQuery),
      s.chip.id.hub = false →
      s.chip.inReset = false →
      s.chip.gt.queries = .rx a b :: r →
      ∃ t, exec (.fcAnswer k) s = .next t ∧ t.pending = s.pending
        ∧ t.chip.gt = { s.chip.gt with queries := r, pend := s.chip.gt.pend.map (fun e => if e.2.src = a && e.2.chan = b then (e.1, { e.2 with rx := some k.toNat, met := e.2.met || gateMet k.toNat e.2.gate }) else e) })
  ∧ (∀ (s : State) (k : Word) (b : Nat) (r : List FcQuery) (x : Staged),
      s.chip.id.hub = false →
      s.chip.inReset = false →
      s.chip.gt.queries = .tx b :: r →
      s.chip.gt.staging.head? = some x →
      s.chip.tr.addr ≠ some x.dest →
      x.dir = false →
      s.chip.carries (if s.chip.planeOf x.grp then 1 else 0) = true →
      (s.chip.port (if s.chip.planeOf x.grp then 1 else 0)).q.txS.length < 128 →
      ((s.chip.port (if s.chip.planeOf x.grp then 1 else 0)).q.wait.any fun w => w.1 == clsS) = false →
      s.chip.tr.excluded.contains (if s.chip.planeOf x.grp then 1 else 0) = false →
      s.chip.hg.fenced = false →
      ∃ t, exec (.fcAnswer k) s = .next t ∧ t.pending = s.pending
        ∧ t.chip.gt = { s.chip.gt with queries := r, staging := s.chip.gt.staging.drop 1 }
        ∧ (t.chip.port (if s.chip.planeOf x.grp then 1 else 0)).q.txS = (s.chip.port (if s.chip.planeOf x.grp then 1 else 0)).q.txS ++ [{ cell := rsigCell x (s.chip.tr.addr.getD 0) k.toNat, at_ := s.chip.tk.frc }])
  ∧ (∀ (s : State) (q : FcQuery) (r : List FcQuery),
      s.chip.id.hub = false →
      s.chip.inReset = false →
      s.chip.gt.queries = q :: r →
      ∃ t, exec (.fctrTmo) s = .next t ∧ t.pending = s.pending
        ∧ t.chip.gt = s.chip.gt
        ∧ Word.bit (t.chip.reg (histRow 0x19)) 3 = true)
  ∧ (∀ (s : State) (p : Port) (x : Cell) (g q : Nat),
      s.chip.id.hub = true →
      s.chip.inReset = false →
      p.val < 66 →
      s.chip.headS p.val = some x →
      s.chip.meet x = .inl g →
      s.chip.rsigOut x = some q →
      q ≠ p.val →
      (s.chip.port q).nver ≠ 1 →
      (s.chip.port q).q.txS.length < 128 →
      ((s.chip.port q).q.wait.any fun w => w.1 == clsS) = false →
      ∃ t, exec (.rsigForward p) s = .next t ∧ t.pending = s.pending
        ∧ (t.chip.port p.val).q.rxS = (s.chip.port p.val).q.rxS.drop 1
        ∧ (t.chip.port q).q.txS = (s.chip.port q).q.txS ++ [{ cell := mkCell clsS x.typ x.group (x.payload.take x.len), at_ := s.chip.tk.frc }]
        ∧ t.chip.gr = s.chip.gr)
  ∧ (∀ (s : State) (p : Port) (x : Cell) (g : Nat),
      s.chip.id.hub = false →
      s.chip.inReset = false →
      p.val < 2 →
      s.chip.headS p.val = some x →
      s.chip.rsigCheck p.val x = .good g →
      ∃ t, exec (.rsigReceive p) s = .next t ∧ t.pending = s.pending
        ∧ t.chip.ports = s.chip.ports
        ∧ t.chip.gt = s.chip.gt)
  ∧ (∀ (s : State) (p : Port) (x : Cell),
      s.chip.id.hub = false →
      s.chip.inReset = false →
      p.val < 2 →
      s.chip.headS p.val = some x →
      s.chip.rsigCheck p.val x = .bad →
      ∃ t, exec (.rsigReceive p) s = .next t ∧ t.pending = s.pending
        ∧ (t.chip.port p.val).q.rxS = (s.chip.port p.val).q.rxS.drop 1
        ∧ t.chip.gt = s.chip.gt)
  ∧ (∀ (s : State) (p : Port) (x : Cell) (g i : Nat),
      s.chip.id.hub = false →
      s.chip.inReset = false →
      p.val < 2 →
      s.chip.headS p.val = some x →
      s.chip.rsigCheck p.val x = .good g →
      freePend s.chip.gt.pend 512 0 = some i →
      ∃ t, exec (.pendingEntry p) s = .next t ∧ t.pending = s.pending
        ∧ (SMap.find (t.chip.gt.pend.map fun e => (e.1, some e.2)) i none).map (fun e => (e.src, e.sem, e.n, e.gate, e.chan, e.met)) = some (rsigSrc x, rsigSem x, Word.field (x.pay 4) 0 16, (x.pay 5).toNat, rsigChan x, false)
        ∧ (t.chip.port p.val).q.rxS = (s.chip.port p.val).q.rxS.drop 1
        ∧ t.chip.gt.queries = s.chip.gt.queries ++ [.rx (rsigSrc x) (rsigChan x)]
        ∧ t.chip.gt.staging = s.chip.gt.staging)
  ∧ (∀ (s : State) (a : BitVec 24) (b : BitVec 12) (k : Word),
      s.chip.id.hub = false →
      s.chip.inReset = false →
      ∃ t, exec (.fcUpdate a b k) s = .next t ∧ t.pending = s.pending
        ∧ t.chip.gt = { s.chip.gt with pend := s.chip.gt.pend.map (fun e => if e.2.src = a.toNat && e.2.chan = b.toNat then (e.1, { e.2 with rx := some k.toNat, met := e.2.met || gateMet k.toNat e.2.gate }) else e) }
        ∧ t.chip.sg = s.chip.sg)
  ∧ (∀ (s : State) (i : Nat) (x : PendEntry),
      s.chip.id.hub = false →
      s.chip.inReset = false →
      s.chip.paused = false →
      (s.chip.sharedBusy = false ∨ s.chip.sg.turn = true) →
      s.chip.nextMet = some (i, x) →
      x.dir = false →
      x.sem < semCount →
      (s.chip.sem x.sem).count + oneIfZero x.n ≤ 65535 →
      ∃ t, exec (.remoteSignalExecute) s = .next t ∧ t.pending = s.pending
        ∧ SMap.has t.chip.gt.pend i = false
        ∧ (t.chip.sem x.sem).count = (s.chip.sem x.sem).count + oneIfZero x.n
        ∧ t.chip.gt.staging = s.chip.gt.staging)
  ∧ (∀ (s : State) ,
      s.chip.id.hub = false →
      s.chip.inReset = false →
      s.chip.paused = false →
      s.chip.nextMet = none →
      ∃ t, exec (.remoteSignalExecute) s = .next t ∧ t.pending = s.pending
        ∧ t.chip.gt = s.chip.gt
        ∧ t.chip.sg = s.chip.sg)
  ∧ (∀ (s : State) (i : PendIdx) (x : PendEntry),
      s.chip.id.hub = false →
      s.chip.inReset = false →
      SMap.has s.chip.gt.pend i.val = true →
      (s.chip.gt.pend.find? fun e => e.1 == i.val) = some (i.val, x) →
      x.met = false →
      x.stalled = false →
      max 1 (Word.field (s.chip.reg Reg.GT_CFG) 0 20) ≤ s.chip.usSinceFrc x.since →
      ∃ t, exec (.gateStall i) s = .next t ∧ t.pending = s.pending
        ∧ (SMap.find (t.chip.gt.pend.map fun e => (e.1, some e.2)) i.val none) = some { x with stalled := true }
        ∧ t.chip.sg = s.chip.sg)

/-- Samples, probes and verdicts of the deadlock detector. DEADLOCK_SAMPLE of an entry under detection keeps whether the local condition holds, with the activity count; two samples in a row that hold with no activity between them make the group locally quiet, and at an apex open a deadlock episode. QPROBE_SEND of a member in a new round keeps the condition of the round and sends one probe. A probe that opens a round at a hub is kept until every listed port's probe is in; a second one of a port in the same round leaves it as it is. A verdict that reaches a member is remembered, and declares a global deadlock where the member's own condition still holds with no activity since its probe. -/
def Obligations.DeadlockDetection : Prop :=
  (∀ (s : State) (i : DieGIdx),
      s.chip.id.hub = false →
      s.chip.inReset = false →
      s.chip.dlOn i.val = true →
      (s.chip.ent i.val).state ≠ .free →
      ∃ t, exec (.deadlockSample i) s = .next t ∧ t.pending = s.pending
        ∧ (t.chip.ent i.val).dl.sampled = some (s.chip.localCond i.val, (s.chip.ent i.val).dl.act)
        ∧ (t.chip.ent i.val).dl.lquiet = (s.chip.localCond i.val && (s.chip.ent i.val).dl.sampled == some (true, (s.chip.ent i.val).dl.act))
        ∧ (t.chip.ent i.val).dl.deadlock = ((s.chip.ent i.val).dl.deadlock || (s.chip.localCond i.val && (s.chip.ent i.val).dl.sampled == some (true, (s.chip.ent i.val).dl.act) && (s.chip.ent i.val).apex))
        ∧ (t.chip.ent i.val).state = (s.chip.ent i.val).state
        ∧ t.chip.sq = s.chip.sq
        ∧ t.chip.sg = s.chip.sg)
  ∧ (∀ (s : State) (i : DieGIdx),
      s.chip.id.hub = false →
      s.chip.inReset = false →
      s.chip.dlOn i.val = false →
      ∃ t, exec (.deadlockSample i) s = .next t ∧ t.pending = s.pending
        ∧ t.chip.gr = s.chip.gr
        ∧ t.chip.regs = s.chip.regs)
  ∧ (∀ (s : State) (i : DieGIdx),
      s.chip.id.hub = false →
      s.chip.inReset = false →
      s.chip.dlOn i.val = true →
      (s.chip.ent i.val).state.isSealed = true →
      (s.chip.ent i.val).apex = false →
      (s.chip.ent i.val).dieCount = 1 →
      s.chip.tk.valid = true →
      s.chip.hg.fenced = false →
      s.chip.carries (s.chip.groupUp i.val) = true →
      (s.chip.port (s.chip.groupUp i.val)).nver ≠ 1 →
      (s.chip.port (s.chip.groupUp i.val)).q.txB.length < 128 →
      ((s.chip.port (s.chip.groupUp i.val)).q.wait.any fun w => w.1 == clsB) = false →
      s.chip.tr.excluded.contains (s.chip.groupUp i.val) = false →
      (s.chip.ent i.val).dl.epProbe ≠ some (s.chip.now / s.chip.gper) →
      ∃ t, exec (.qprobeSend i) s = .next t ∧ t.pending = s.pending
        ∧ (t.chip.ent i.val).dl.round = some (s.chip.localCond i.val, (s.chip.ent i.val).dl.act)
        ∧ (t.chip.ent i.val).dl.epProbe = some (s.chip.now / s.chip.gper)
        ∧ (t.chip.port (s.chip.groupUp i.val)).q.txB.length = (s.chip.port (s.chip.groupUp i.val)).q.txB.length + 1
        ∧ t.chip.regs = s.chip.regs)
  ∧ (∀ (s : State) (p : Port) (x : Cell) (g : Nat),
      s.chip.id.hub = true →
      s.chip.inReset = false →
      p.val < 64 →
      s.chip.headB p.val 0x23 = some x →
      Word.bit (x.pay 2) 31 = false →
      s.chip.meet x = .inl g →
      (s.chip.ent g).pmap.testBit p.val = true →
      (s.chip.ent g).probe = none →
      (s.chip.ent g).probeFull (probeRead x p.val) = false →
      ∃ t, exec (.qprobeReceive p) s = .next t ∧ t.pending = s.pending
        ∧ (t.chip.ent g).probe = some (probeRead x p.val)
        ∧ (t.chip.port p.val).q.rxB = (s.chip.port p.val).q.rxB.drop 1
        ∧ (∀ j, j ≠ g → t.chip.ent j = s.chip.ent j))
  ∧ (∀ (s : State) (p : Port) (x : Cell) (g : Nat) (r : ProbeRound),
      s.chip.id.hub = true →
      s.chip.inReset = false →
      p.val < 64 →
      s.chip.headB p.val 0x23 = some x →
      Word.bit (x.pay 2) 31 = false →
      s.chip.meet x = .inl g →
      (s.chip.ent g).pmap.testBit p.val = true →
      (s.chip.ent g).probe = some r →
      (probeRead x p.val).epoch = r.epoch % 65536 →
      r.got.contains p.val = true →
      ∃ t, exec (.qprobeReceive p) s = .next t ∧ t.pending = s.pending
        ∧ t.chip.gr = s.chip.gr
        ∧ (t.chip.port p.val).q.rxB = (s.chip.port p.val).q.rxB.drop 1)
  ∧ (∀ (s : State) (p : Port) (x : Cell) (g : Nat) (r : Bool × Nat),
      s.chip.id.hub = false →
      s.chip.inReset = false →
      p.val < 2 →
      s.chip.headB p.val 0x23 = some x →
      Word.bit (x.pay 2) 31 = true →
      s.chip.meet x = .inl g →
      (s.chip.ent g).apex = false →
      p.val = s.chip.groupUp g →
      (s.chip.ent g).dl.round = some r →
      ∃ t, exec (.qprobeVerdict p) s = .next t ∧ t.pending = s.pending
        ∧ (t.chip.ent g).dl.epVerdict = Word.field (x.pay 2) 0 16
        ∧ (t.chip.ent g).dl.deadlock = ((s.chip.ent g).dl.deadlock || (Word.bit (x.pay 2) 27 && s.chip.dlOn g && s.chip.localCond g && r.2 == (s.chip.ent g).dl.act && (s.chip.ent g).dl.epProbe.any (fun n => n % 65536 == Word.field (x.pay 2) 0 16)))
        ∧ (t.chip.ent g).state = (s.chip.ent g).state
        ∧ (t.chip.port p.val).q.rxB = (s.chip.port p.val).q.rxB.drop 1)
  ∧ (∀ (s : State) (p : Port) (x : Cell) (g : Nat),
      s.chip.id.hub = true →
      s.chip.inReset = false →
      p.val < 66 →
      s.chip.headB p.val 0x23 = some x →
      Word.bit (x.pay 2) 31 = true →
      s.chip.meet x = .inl g →
      (s.chip.ent g).apex = false →
      p.val = s.chip.groupUp g →
      ∃ t, exec (.qprobeVerdict p) s = .next t ∧ t.pending = s.pending
        ∧ t.chip.gr = s.chip.gr
        ∧ (t.chip.port p.val).q.rxB = (s.chip.port p.val).q.rxB.drop 1)

/-- The commands of a master on a group entry. GR_GKEY with VALID at a FREE or OPEN entry whose ID no other entry holds opens the entry with its ID and a generation above the last one kept for that ID; without VALID it frees the entry; on a sealed entry, or with a generation that goes back, it changes no entry. SEAL of an open apex entry with its generation and a declared count seals it; DISSOLVE with the generation puts a used entry in quarantine with no barrier and no arrival. ADMIT and EXPEL at a hub that is the apex of an active group, acceptable by level, target and course, leave the change pending from its course. With another generation no entry changes. QUARANTINE_END frees the entry with every field at reset. -/
def Obligations.GroupCommands : Prop :=
  (∀ (s : State) (m : Master) (w : Word),
      s.chip.opens m 0x15 = true →
      Word.bit w 31 = true →
      ((s.chip.ent (s.chip.chanOf m 0x15)).state = .free ∨ (s.chip.ent (s.chip.chanOf m 0x15)).state = .opened) →
      s.chip.findGid (if s.chip.id.hub then (s.chip.chanOf m 0x15) else Word.field w 16 12) = none →
      (SMap.has s.chip.gr.lastGen (if s.chip.id.hub then (s.chip.chanOf m 0x15) else Word.field w 16 12) = false ∨ SMap.find s.chip.gr.lastGen (if s.chip.id.hub then (s.chip.chanOf m 0x15) else Word.field w 16 12) 0 < Word.field w 0 16) →
      ∃ t, exec (.grGkeyWrite m w) s = .next t ∧ t.pending = s.pending
        ∧ (t.chip.ent (s.chip.chanOf m 0x15)).state = .opened
        ∧ (t.chip.ent (s.chip.chanOf m 0x15)).gid = (if s.chip.id.hub then (s.chip.chanOf m 0x15) else Word.field w 16 12)
        ∧ (t.chip.ent (s.chip.chanOf m 0x15)).gen = Word.field w 0 16
        ∧ SMap.find t.chip.gr.lastGen (if s.chip.id.hub then (s.chip.chanOf m 0x15) else Word.field w 16 12) 0 = Word.field w 0 16
        ∧ (∀ j, j ≠ (s.chip.chanOf m 0x15) → t.chip.ent j = s.chip.ent j))
  ∧ (∀ (s : State) (m : Master) (w : Word),
      s.chip.opens m 0x15 = true →
      Word.bit w 31 = false →
      ((s.chip.ent (s.chip.chanOf m 0x15)).state = .free ∨ (s.chip.ent (s.chip.chanOf m 0x15)).state = .opened) →
      ∃ t, exec (.grGkeyWrite m w) s = .next t ∧ t.pending = s.pending
        ∧ (t.chip.ent (s.chip.chanOf m 0x15)).state = .free
        ∧ t.chip.gr.lastGen = s.chip.gr.lastGen)
  ∧ (∀ (s : State) (m : Master) (w : Word),
      s.chip.opens m 0x15 = true →
      ((s.chip.ent (s.chip.chanOf m 0x15)).state.isSealed = true ∨ (s.chip.ent (s.chip.chanOf m 0x15)).state = .quar) →
      ∃ t, exec (.grGkeyWrite m w) s = .next t ∧ t.pending = s.pending
        ∧ t.chip.gr = s.chip.gr)
  ∧ (∀ (s : State) (m : Master) (w : Word),
      s.chip.opens m 0x15 = true →
      Word.bit w 31 = true →
      (s.chip.ent (s.chip.chanOf m 0x15)).state = .free →
      s.chip.findGid (if s.chip.id.hub then (s.chip.chanOf m 0x15) else Word.field w 16 12) = none →
      SMap.has s.chip.gr.lastGen (if s.chip.id.hub then (s.chip.chanOf m 0x15) else Word.field w 16 12) = true →
      Word.field w 0 16 ≤ SMap.find s.chip.gr.lastGen (if s.chip.id.hub then (s.chip.chanOf m 0x15) else Word.field w 16 12) 0 →
      ∃ t, exec (.grGkeyWrite m w) s = .next t ∧ t.pending = s.pending
        ∧ t.chip.gr = s.chip.gr)
  ∧ (∀ (s : State) (m : Master) (w : Word),
      s.chip.opens m 0x15 = true →
      ∃ t, exec (.findGid m w) s = .next t ∧ t.pending = s.pending
        ∧ Word.field (t.chip.regOf m Reg.GR_FINDGID) 0 12 = Word.field w 0 12
        ∧ t.chip.gr = s.chip.gr)
  ∧ (∀ (s : State) (m : Master) (w : Word),
      s.chip.opens m 0x15 = true →
      (s.chip.ent (s.chip.chanOf m 0x15)).state = .opened →
      (s.chip.ent (s.chip.chanOf m 0x15)).apex = true →
      Word.field w 0 16 = (s.chip.ent (s.chip.chanOf m 0x15)).gen →
      (s.chip.ent (s.chip.chanOf m 0x15)).decl ≠ 0 →
      (s.chip.usesMtext (s.chip.chanOf m 0x15) = false ∨ Word.bit (s.chip.ent (s.chip.chanOf m 0x15)).mode 2 = true) →
      ∃ t, exec (.sealCmd m w) s = .next t ∧ t.pending = s.pending
        ∧ (t.chip.ent (s.chip.chanOf m 0x15)).state.isSealed = true
        ∧ (t.chip.ent (s.chip.chanOf m 0x15)).gen = (s.chip.ent (s.chip.chanOf m 0x15)).gen
        ∧ (t.chip.ent (s.chip.chanOf m 0x15)).gid = (s.chip.ent (s.chip.chanOf m 0x15)).gid)
  ∧ (∀ (s : State) (m : Master) (w : Word),
      s.chip.opens m 0x15 = true →
      ((s.chip.ent (s.chip.chanOf m 0x15)).state ≠ .opened ∨ Word.field w 0 16 ≠ (s.chip.ent (s.chip.chanOf m 0x15)).gen) →
      ∃ t, exec (.sealCmd m w) s = .next t ∧ t.pending = s.pending
        ∧ t.chip.gr = s.chip.gr)
  ∧ (∀ (s : State) (m : Master) (w : Word),
      s.chip.opens m 0x15 = true →
      (s.chip.ent (s.chip.chanOf m 0x15)).state ≠ .free →
      (s.chip.ent (s.chip.chanOf m 0x15)).state ≠ .quar →
      Word.field w 0 16 = (s.chip.ent (s.chip.chanOf m 0x15)).gen →
      ∃ t, exec (.dissolve m w) s = .next t ∧ t.pending = s.pending
        ∧ (t.chip.ent (s.chip.chanOf m 0x15)).state = .quar
        ∧ (t.chip.ent (s.chip.chanOf m 0x15)).quarAt = s.chip.tk.frc
        ∧ (t.chip.ent (s.chip.chanOf m 0x15)).barrier = none
        ∧ (t.chip.ent (s.chip.chanOf m 0x15)).arrivals = []
        ∧ (t.chip.ent (s.chip.chanOf m 0x15)).censusOk = false)
  ∧ (∀ (s : State) (m : Master) (w : Word),
      s.chip.opens m 0x15 = true →
      (s.chip.ent (s.chip.chanOf m 0x15)).state ≠ .quar →
      Word.field w 0 16 ≠ (s.chip.ent (s.chip.chanOf m 0x15)).gen →
      ∃ t, exec (.dissolve m w) s = .next t ∧ t.pending = s.pending
        ∧ t.chip.gr = s.chip.gr)
  ∧ (∀ (s : State) (m : Master) (w : Word),
      s.chip.opens m 0x15 = true →
      s.chip.id.hub = true →
      s.chip.tr.addr ≠ none →
      (s.chip.ent (s.chip.chanOf m 0x15)).apex = true →
      (s.chip.ent (s.chip.chanOf m 0x15)).state = .active →
      Word.field w 0 16 = (s.chip.ent (s.chip.chanOf m 0x15)).gen →
      5 ≤ Word.field (s.chip.regOf m Reg.GR_GCARG0 (s.chip.chanOf m 0x15)) 24 4 →
      Word.field (s.chip.regOf m Reg.GR_GCARG0 (s.chip.chanOf m 0x15)) 24 4 ≤ 8 →
      Word.field (s.chip.regOf m Reg.GR_GCARG0 (s.chip.chanOf m 0x15)) 24 4 < s.chip.tr.level →
      s.chip.below (Word.field (s.chip.regOf m Reg.GR_GCARG0 (s.chip.chanOf m 0x15)) 0 24) = true →
      (s.chip.ent (s.chip.chanOf m 0x15)).barrier = none →
      (s.chip.ent (s.chip.chanOf m 0x15)).pend = none →
      (s.chip.ent (s.chip.chanOf m 0x15)).courseOk { op := 3, prune := Word.field w 24 4, tlevel := Word.field (s.chip.regOf m Reg.GR_GCARG0 (s.chip.chanOf m 0x15)) 24 4, gen := Word.field w 0 16, target := Word.field (s.chip.regOf m Reg.GR_GCARG0 (s.chip.chanOf m 0x15)) 0 24, course := (s.chip.regOf m Reg.GR_GCARG1 (s.chip.chanOf m 0x15)).toNat, nmem := Word.field (s.chip.regOf m Reg.GR_GCARG2 (s.chip.chanOf m 0x15)) 0 25 } = true →
      (s.chip.ent (s.chip.chanOf m 0x15)).decl + Word.field (s.chip.regOf m Reg.GR_GCARG2 (s.chip.chanOf m 0x15)) 0 25 ≤ 16777216 →
      1 ≤ (s.chip.ent (s.chip.chanOf m 0x15)).decl + Word.field (s.chip.regOf m Reg.GR_GCARG2 (s.chip.chanOf m 0x15)) 0 25 →
      ∃ t, exec (.admitCmd m w) s = .next t ∧ t.pending = s.pending
        ∧ (t.chip.ent (s.chip.chanOf m 0x15)).pend = some ((s.chip.regOf m Reg.GR_GCARG1 (s.chip.chanOf m 0x15)).toNat, (Word.field (s.chip.regOf m Reg.GR_GCARG2 (s.chip.chanOf m 0x15)) 0 25 : Int))
        ∧ (t.chip.ent (s.chip.chanOf m 0x15)).decl = (s.chip.ent (s.chip.chanOf m 0x15)).decl
        ∧ (t.chip.ent (s.chip.chanOf m 0x15)).changed = (s.chip.regOf m Reg.GR_GCARG1 (s.chip.chanOf m 0x15)).toNat :: (s.chip.ent (s.chip.chanOf m 0x15)).changed)
  ∧ (∀ (s : State) (m : Master) (w : Word),
      s.chip.opens m 0x15 = true →
      s.chip.id.hub = true →
      s.chip.tr.addr ≠ none →
      (s.chip.ent (s.chip.chanOf m 0x15)).apex = true →
      (s.chip.ent (s.chip.chanOf m 0x15)).state = .active →
      Word.field w 0 16 = (s.chip.ent (s.chip.chanOf m 0x15)).gen →
      5 ≤ Word.field (s.chip.regOf m Reg.GR_GCARG0 (s.chip.chanOf m 0x15)) 24 4 →
      Word.field (s.chip.regOf m Reg.GR_GCARG0 (s.chip.chanOf m 0x15)) 24 4 ≤ 8 →
      Word.field (s.chip.regOf m Reg.GR_GCARG0 (s.chip.chanOf m 0x15)) 24 4 < s.chip.tr.level →
      s.chip.below (Word.field (s.chip.regOf m Reg.GR_GCARG0 (s.chip.chanOf m 0x15)) 0 24) = true →
      (s.chip.ent (s.chip.chanOf m 0x15)).barrier = none →
      (s.chip.ent (s.chip.chanOf m 0x15)).pend = none →
      (s.chip.ent (s.chip.chanOf m 0x15)).courseOk { op := 4, prune := Word.field w 24 4, tlevel := Word.field (s.chip.regOf m Reg.GR_GCARG0 (s.chip.chanOf m 0x15)) 24 4, gen := Word.field w 0 16, target := Word.field (s.chip.regOf m Reg.GR_GCARG0 (s.chip.chanOf m 0x15)) 0 24, course := (s.chip.regOf m Reg.GR_GCARG1 (s.chip.chanOf m 0x15)).toNat, nmem := Word.field (s.chip.regOf m Reg.GR_GCARG2 (s.chip.chanOf m 0x15)) 0 25 } = true →
      1 + Word.field (s.chip.regOf m Reg.GR_GCARG2 (s.chip.chanOf m 0x15)) 0 25 ≤ (s.chip.ent (s.chip.chanOf m 0x15)).decl →
      (s.chip.ent (s.chip.chanOf m 0x15)).decl ≤ 16777216 →
      ∃ t, exec (.expel m w) s = .next t ∧ t.pending = s.pending
        ∧ (t.chip.ent (s.chip.chanOf m 0x15)).pend = some ((s.chip.regOf m Reg.GR_GCARG1 (s.chip.chanOf m 0x15)).toNat, -(Word.field (s.chip.regOf m Reg.GR_GCARG2 (s.chip.chanOf m 0x15)) 0 25 : Int))
        ∧ (t.chip.ent (s.chip.chanOf m 0x15)).decl = (s.chip.ent (s.chip.chanOf m 0x15)).decl)
  ∧ (∀ (s : State) (m : Master) (w : Word),
      s.chip.opens m 0x15 = true →
      (s.chip.ent (s.chip.chanOf m 0x15)).state ≠ .quar →
      (s.chip.ent (s.chip.chanOf m 0x15)).apex = false →
      ∃ t, exec (.admitCmd m w) s = .next t ∧ t.pending = s.pending
        ∧ t.chip.gr = s.chip.gr)
  ∧ (∀ (s : State) (m : Master) (w : Word),
      s.chip.opens m 0x15 = true →
      (s.chip.ent (s.chip.chanOf m 0x15)).state ≠ .quar →
      (s.chip.ent (s.chip.chanOf m 0x15)).apex = false →
      ∃ t, exec (.expel m w) s = .next t ∧ t.pending = s.pending
        ∧ t.chip.gr = s.chip.gr)
  ∧ (∀ (s : State) (i : GIdx),
      s.chip.inReset = false →
      i.val < s.chip.ngroups →
      (s.chip.ent i.val).state = .quar →
      ∃ t, exec (.quarantineEnd i) s = .next t ∧ t.pending = s.pending
        ∧ t.chip.ent i.val = GrEntry.reset
        ∧ (∀ j, j ≠ i.val → t.chip.ent j = s.chip.ent j)
        ∧ t.chip.gr.lastGen = s.chip.gr.lastGen)
  ∧ (∀ (s : State) (i : GIdx),
      s.chip.inReset = false →
      i.val < s.chip.ngroups →
      (s.chip.ent i.val).state ≠ .quar →
      ∃ t, exec (.quarantineEnd i) s = .next t ∧ t.pending = s.pending
        ∧ t.chip.gr = s.chip.gr
        ∧ t.chip.regs = s.chip.regs)

/-- Group commands and censuses as they are received. At a Lyspen below the apex, on the group's upward port, a SEAL seals an open entry and a DISSOLVE puts the entry in quarantine; at a die with no release yet an ADMIT admits an open entry from its course and an EXPEL expels a sealed one from its course; on another port each is stale and no entry changes. HUB_CENSUS_SEND sends a changed sum upwards and keeps it as sent. A census from a listed port is kept with that port and the count of the entry becomes the sum; a complete census from above makes an entry active that has not failed, and a failed one makes it failed. That a group command by a port which is not of the group's working plane is stale at a die, and that a FAILED entry stays FAILED but for QUAR, are the model's choices (log entry 25). -/
def Obligations.GroupCells : Prop :=
  (∀ (s : State) (p : Port) (x : Cell) (g : Nat),
      s.chip.inReset = false →
      p.val < s.chip.nports →
      s.chip.headM p.val 0x42 = some x →
      (Gcmd.read x).op = 1 →
      s.chip.meet x = .inl g →
      (s.chip.ent g).apex = false →
      p.val = s.chip.groupUp g →
      (s.chip.ent g).state = .opened →
      ∃ t, exec (.sealReceive p) s = .next t ∧ t.pending = s.pending
        ∧ (t.chip.ent g).state = .sealed
        ∧ (t.chip.ent g).gen = (s.chip.ent g).gen
        ∧ (t.chip.port p.val).q.rxM = (s.chip.port p.val).q.rxM.drop 1)
  ∧ (∀ (s : State) (p : Port) (x : Cell) (g : Nat),
      s.chip.inReset = false →
      p.val < s.chip.nports →
      s.chip.headM p.val 0x42 = some x →
      (Gcmd.read x).op = 2 →
      s.chip.meet x = .inl g →
      (s.chip.ent g).apex = false →
      p.val = s.chip.groupUp g →
      ∃ t, exec (.dissolveReceive p) s = .next t ∧ t.pending = s.pending
        ∧ (t.chip.ent g).state = .quar
        ∧ (t.chip.ent g).barrier = none
        ∧ (t.chip.ent g).arrivals = [])
  ∧ (∀ (s : State) (p : Port) (x : Cell) (g : Nat),
      s.chip.id.hub = false →
      s.chip.inReset = false →
      p.val < 2 →
      s.chip.headM p.val 0x42 = some x →
      (Gcmd.read x).op = 3 →
      s.chip.meet x = .inl g →
      (s.chip.ent g).apex = false →
      p.val = s.chip.groupUp g →
      (s.chip.ent g).state = .opened →
      (s.chip.ent g).latest = none →
      ∃ t, exec (.admitReceive p) s = .next t ∧ t.pending = s.pending
        ∧ (t.chip.ent g).state = .sealed
        ∧ (t.chip.ent g).admitted = true
        ∧ (t.chip.ent g).admDue = true
        ∧ (t.chip.ent g).admCourse = (Gcmd.read x).course
        ∧ (t.chip.port p.val).q.rxM = (s.chip.port p.val).q.rxM.drop 1)
  ∧ (∀ (s : State) (p : Port) (x : Cell) (g : Nat),
      s.chip.id.hub = false →
      s.chip.inReset = false →
      p.val < 2 →
      s.chip.headM p.val 0x42 = some x →
      (Gcmd.read x).op = 4 →
      s.chip.meet x = .inl g →
      (s.chip.ent g).apex = false →
      p.val = s.chip.groupUp g →
      (s.chip.ent g).state.isSealed = true →
      (s.chip.ent g).latest = none →
      ∃ t, exec (.expelReceive p) s = .next t ∧ t.pending = s.pending
        ∧ (t.chip.ent g).expelled = true
        ∧ (t.chip.ent g).expDue = true
        ∧ (t.chip.ent g).expCourse = (Gcmd.read x).course
        ∧ (t.chip.ent g).state = (s.chip.ent g).state)
  ∧ (∀ (s : State) (p : Port) (x : Cell) (g : Nat),
      s.chip.inReset = false →
      p.val < s.chip.nports →
      s.chip.headM p.val 0x42 = some x →
      (Gcmd.read x).op = 1 →
      s.chip.meet x = .inl g →
      ((s.chip.ent g).apex = true ∨ p.val ≠ s.chip.groupUp g) →
      ∃ t, exec (.sealReceive p) s = .next t ∧ t.pending = s.pending
        ∧ t.chip.gr = s.chip.gr
        ∧ (t.chip.port p.val).q.rxM = (s.chip.port p.val).q.rxM.drop 1)
  ∧ (∀ (s : State) (p : Port) (x : Cell) (g : Nat),
      s.chip.inReset = false →
      p.val < s.chip.nports →
      s.chip.headM p.val 0x42 = some x →
      (Gcmd.read x).op = 2 →
      s.chip.meet x = .inl g →
      ((s.chip.ent g).apex = true ∨ p.val ≠ s.chip.groupUp g) →
      ∃ t, exec (.dissolveReceive p) s = .next t ∧ t.pending = s.pending
        ∧ t.chip.gr = s.chip.gr
        ∧ (t.chip.port p.val).q.rxM = (s.chip.port p.val).q.rxM.drop 1)
  ∧ (∀ (s : State) (p : Port) (x : Cell) (g : Nat),
      s.chip.inReset = false →
      p.val < s.chip.nports →
      s.chip.headM p.val 0x42 = some x →
      (Gcmd.read x).op = 3 →
      s.chip.meet x = .inl g →
      ((s.chip.ent g).apex = true ∨ p.val ≠ s.chip.groupUp g) →
      ∃ t, exec (.admitReceive p) s = .next t ∧ t.pending = s.pending
        ∧ t.chip.gr = s.chip.gr
        ∧ (t.chip.port p.val).q.rxM = (s.chip.port p.val).q.rxM.drop 1)
  ∧ (∀ (s : State) (p : Port) (x : Cell) (g : Nat),
      s.chip.inReset = false →
      p.val < s.chip.nports →
      s.chip.headM p.val 0x42 = some x →
      (Gcmd.read x).op = 4 →
      s.chip.meet x = .inl g →
      ((s.chip.ent g).apex = true ∨ p.val ≠ s.chip.groupUp g) →
      ∃ t, exec (.expelReceive p) s = .next t ∧ t.pending = s.pending
        ∧ t.chip.gr = s.chip.gr
        ∧ (t.chip.port p.val).q.rxM = (s.chip.port p.val).q.rxM.drop 1)
  ∧ (∀ (s : State) (i : GIdx),
      s.chip.id.hub = true →
      s.chip.inReset = false →
      (s.chip.ent i.val).state.isSealed = true →
      (s.chip.ent i.val).apex = false →
      s.chip.carries (s.chip.groupUp i.val) = true →
      (s.chip.port (s.chip.groupUp i.val)).q.txB.length < 128 →
      ((s.chip.port (s.chip.groupUp i.val)).q.wait.any fun w => w.1 == clsB) = false →
      s.chip.tr.excluded.contains (s.chip.groupUp i.val) = false →
      (s.chip.ent i.val).upSent ≠ some (s.chip.censusUp i.val) →
      s.chip.hg.fenced = false →
      ∃ t, exec (.hubCensusSend i) s = .next t ∧ t.pending = s.pending
        ∧ (t.chip.ent i.val).upSent = some (s.chip.censusUp i.val)
        ∧ (t.chip.port (s.chip.groupUp i.val)).q.txB = (s.chip.port (s.chip.groupUp i.val)).q.txB ++ [{ cell := mkCell clsB 0x22 i.val (s.chip.censusUp i.val), at_ := s.chip.tk.frc }]
        ∧ t.chip.regs = s.chip.regs)
  ∧ (∀ (s : State) (p : Port) (x : Cell) (g : Nat),
      s.chip.id.hub = true →
      s.chip.inReset = false →
      p.val < 64 →
      s.chip.headB p.val 0x22 = some x →
      Word.bit (x.pay 2) 31 = false →
      s.chip.meet x = .inl g →
      (s.chip.ent g).pmap.testBit p.val = true →
      (s.chip.ent g).barrier = none →
      ∃ t, exec (.censusReceive p) s = .next t ∧ t.pending = s.pending
        ∧ SMap.find (t.chip.ent g).ports p.val { count := 0, fsup := 0, dp := 0, calculated := false } = { count := Word.field (x.pay 3) 0 25, fsup := Word.field (x.pay 4) 8 8, dp := Word.field (x.pay 5) 0 24, calculated := Word.bit (x.pay 5) 31 }
        ∧ (t.chip.ent g).gcount = (t.chip.ent g).sums.1
        ∧ (t.chip.port p.val).q.rxB = (s.chip.port p.val).q.rxB.drop 1)
  ∧ (∀ (s : State) (p : Port) (x : Cell) (g : Nat),
      s.chip.id.hub = true →
      s.chip.inReset = false →
      p.val < 64 →
      s.chip.headB p.val 0x22 = some x →
      Word.bit (x.pay 2) 31 = false →
      s.chip.meet x = .inl g →
      (s.chip.ent g).pmap.testBit p.val = false →
      ∃ t, exec (.censusReceive p) s = .next t ∧ t.pending = s.pending
        ∧ t.chip.gr = s.chip.gr)
  ∧ (∀ (s : State) (p : Port) (x : Cell) (g : Nat),
      s.chip.inReset = false →
      p.val < s.chip.nports →
      s.chip.headB p.val 0x22 = some x →
      Word.bit (x.pay 2) 31 = true →
      s.chip.meet x = .inl g →
      (s.chip.ent g).apex = false →
      p.val = s.chip.groupUp g →
      ∃ t, exec (.censusDownReceive p) s = .next t ∧ t.pending = s.pending
        ∧ (t.chip.ent g).state = (if Word.bit (x.pay 2) 29 || (s.chip.ent g).state == .failed then .failed else if Word.bit (x.pay 2) 30 then .active else (s.chip.ent g).state)
        ∧ (t.chip.ent g).fen = Word.field (x.pay 4) 0 8
        ∧ (t.chip.ent g).featShort = Word.bit (x.pay 2) 28
        ∧ (t.chip.port p.val).q.rxB = (s.chip.port p.val).q.rxB.drop 1)
end

