-- ==== Sys2Proof/Laws/Maps.lean ====
section
/-!
SUPPORT. Laws/Maps.lean: the laws of sparse maps. A value read back is the value put, every other key reads
as before, and every operation keeps the canonical form.
-/

namespace Sys2Proof.Machine.SMap

variable {α : Type}

theorem sorted_mono {m : SMap α} {lo lo' : Nat} (h : sorted lo m = true) (hle : lo' ≤ lo) :
    sorted lo' m = true := by
  cases m with
  | nil => rfl
  | cons e r =>
    simp only [sorted, Bool.and_eq_true, decide_eq_true_eq] at h ⊢
    exact ⟨le_trans hle h.1, h.2⟩

@[simp] theorem find_insert_self (m : SMap α) (k : Nat) (v d : α) : find (insert m k v) k d = v := by
  induction m with
  | nil => simp [insert, find]
  | cons e r ih =>
    simp only [insert]
    split_ifs with h1 h2
    · simp [find]
    · simp [find]
    · simp [find, h2, ih]

theorem find_insert_ne {m : SMap α} {k k' : Nat} (h : k' ≠ k) (v d : α) :
    find (insert m k v) k' d = find m k' d := by
  induction m with
  | nil => simp [insert, find, h]
  | cons e r ih =>
    simp only [insert]
    split_ifs with h1 h2
    · simp [find, h]
    · subst h2; simp [find, h]
    · simp only [find, ih]

@[simp] theorem find_erase_self (m : SMap α) (k : Nat) (d : α) : find (erase m k) k d = d := by
  induction m with
  | nil => rfl
  | cons e r ih =>
    simp only [erase]
    split_ifs with h
    · exact ih
    · simp only [find, h, if_false]
      exact ih

theorem find_erase_ne {m : SMap α} {k k' : Nat} (h : k' ≠ k) (d : α) :
    find (erase m k) k' d = find m k' d := by
  induction m with
  | nil => rfl
  | cons e r ih =>
    simp only [erase]
    split_ifs with h1
    · subst h1; simp [find, h, ih]
    · simp only [find, ih]

/-- What was put is what is read. -/
@[simp] theorem find_put_self [DecidableEq α] (m : SMap α) (k : Nat) (d v : α) : find (put m k d v) k d = v := by
  simp only [put]
  split_ifs with h
  · rw [find_erase_self, h]
  · exact find_insert_self m k v d

/-- Every other key reads as before. -/
theorem find_put_ne [DecidableEq α] {m : SMap α} {k k' : Nat} (h : k' ≠ k) (d v d' : α) :
    find (put m k d v) k' d' = find m k' d' := by
  simp only [put]
  split_ifs
  · exact find_erase_ne h d'
  · exact find_insert_ne h v d'

theorem sorted_insert {m : SMap α} {lo : Nat} (hs : sorted lo m = true) {k : Nat} (hk : lo ≤ k) (v : α) :
    sorted lo (insert m k v) = true := by
  induction m generalizing lo with
  | nil => simp [insert, sorted, hk]
  | cons e r ih =>
    simp only [sorted, Bool.and_eq_true, decide_eq_true_eq] at hs
    simp only [insert]
    split_ifs with h1 h2
    · simp only [sorted, Bool.and_eq_true, decide_eq_true_eq]
      exact ⟨hk, by omega, hs.2⟩
    · subst h2
      simp only [sorted, Bool.and_eq_true, decide_eq_true_eq]
      exact ⟨hk, hs.2⟩
    · simp only [sorted, Bool.and_eq_true, decide_eq_true_eq]
      exact ⟨hs.1, ih hs.2 (by omega)⟩

theorem sorted_erase {m : SMap α} {lo : Nat} (hs : sorted lo m = true) (k : Nat) :
    sorted lo (erase m k) = true := by
  induction m generalizing lo with
  | nil => rfl
  | cons e r ih =>
    simp only [sorted, Bool.and_eq_true, decide_eq_true_eq] at hs
    simp only [erase]
    split_ifs with h
    · exact sorted_mono (ih hs.2) (by omega)
    · simp only [sorted, Bool.and_eq_true, decide_eq_true_eq]
      exact ⟨hs.1, ih hs.2⟩

/-- A put keeps the canonical form. -/
theorem sorted_put [DecidableEq α] {m : SMap α} (hs : sorted 0 m = true) (k : Nat) (d v : α) :
    sorted 0 (put m k d v) = true := by
  simp only [put]
  split_ifs
  · exact sorted_erase hs k
  · exact sorted_insert hs (Nat.zero_le k) v

/-- Entries taken out by a test leave the canonical form. -/
theorem sorted_filter {m : SMap α} {lo : Nat} (hs : sorted lo m = true) (p : Nat × α → Bool) :
    sorted lo (m.filter p) = true := by
  induction m generalizing lo with
  | nil => rfl
  | cons e r ih =>
    simp only [sorted, Bool.and_eq_true, decide_eq_true_eq] at hs
    simp only [List.filter]
    split
    · simp only [sorted, Bool.and_eq_true, decide_eq_true_eq]
      exact ⟨hs.1, ih hs.2⟩
    · exact sorted_mono (ih hs.2) (by omega)

end Sys2Proof.Machine.SMap
end

