-- ==== Sys2Proof/Laws/Memory.lean ====
section
/-!
SUPPORT. Laws/Memory.lean: every operation on the NOR and on the controller's SRAM keeps the canonical form,
and the stores after reset have it.
-/

namespace Sys2Proof.Machine

theorem mem_insert {α : Type} {m : SMap α} {k : Nat} {v : α} {e : Nat × α}
    (h : e ∈ SMap.insert m k v) : e = (k, v) ∨ e ∈ m := by
  induction m with
  | nil => simpa [SMap.insert] using h
  | cons a r ih =>
    simp only [SMap.insert] at h
    split_ifs at h with h1 h2
    · simpa using h
    · rcases List.mem_cons.1 h with h | h
      · exact .inl h
      · exact .inr (List.mem_cons_of_mem _ h)
    · rcases List.mem_cons.1 h with h | h
      · exact .inr (h ▸ List.mem_cons_self)
      · exact (ih h).imp id (List.mem_cons_of_mem _)

theorem mem_erase {α : Type} {m : SMap α} {k : Nat} {e : Nat × α} (h : e ∈ SMap.erase m k) : e ∈ m := by
  induction m with
  | nil => simp [SMap.erase] at h
  | cons a r ih =>
    simp only [SMap.erase] at h
    split_ifs at h
    · exact List.mem_cons_of_mem _ (ih h)
    · rcases List.mem_cons.1 h with h | h
      · exact h ▸ List.mem_cons_self
      · exact List.mem_cons_of_mem _ (ih h)

/-- A byte put keeps the canonical form. -/
theorem Memory.wf_put {m : SMap (BitVec 8)} {d : BitVec 8} (h : Memory.wf m d = true) (k : Nat) (v : BitVec 8) :
    Memory.wf (SMap.put m k d v) d = true := by
  simp only [Memory.wf, Bool.and_eq_true, List.all_eq_true, decide_eq_true_eq] at h ⊢
  refine ⟨SMap.sorted_put h.1 k d v, fun e he => ?_⟩
  simp only [SMap.put] at he
  split_ifs at he with hv
  · exact h.2 e (mem_erase he)
  · rcases mem_insert he with rfl | he
    · exact hv
    · exact h.2 e he

/-- Bytes put one after another keep the canonical form. -/
theorem Memory.wf_puts {β : Type} (l : List β) (at_ : β → Nat) (v : β → BitVec 8) {m : SMap (BitVec 8)}
    {d : BitVec 8} (h : Memory.wf m d = true) :
    Memory.wf (l.foldl (fun m p => SMap.put m (at_ p) d (v p)) m) d = true := by
  induction l generalizing m with
  | nil => exact h
  | cons a r ih => exact ih (Memory.wf_put h _ _)

/-- An erased stretch keeps the canonical form. -/
theorem Memory.wf_filter {m : SMap (BitVec 8)} {d : BitVec 8} (h : Memory.wf m d = true) (p : Nat × BitVec 8 → Bool) :
    Memory.wf (m.filter p) d = true := by
  simp only [Memory.wf, Bool.and_eq_true, List.all_eq_true, decide_eq_true_eq] at h ⊢
  exact ⟨SMap.sorted_filter h.1 p, fun e he => h.2 e (List.mem_filter.1 he).1⟩

theorem Memory.wf_reset :
    Memory.wf State.reset.chip.fw.nor 0xFF = true ∧ Memory.wf State.reset.chip.fw.sram 0 = true := by decide

end Sys2Proof.Machine
end

