-- ==== Sys2Proof/Laws/State.lean ====
section
/-!
SUPPORT. Laws/State.lean: what the plain updates of the part leave alone: one lemma for each field and
update.
-/

namespace Sys2Proof.Machine

variable (c : Chip) (s : State)

@[simp] theorem Chip.setReg_id (r : RegRow) (w : Word) (i j b : Nat) : (c.setReg r w i j b).id = c.id := rfl
@[simp] theorem Chip.setReg_shadows (r : RegRow) (w : Word) (i j b : Nat) : (c.setReg r w i j b).shadows = c.shadows := rfl
@[simp] theorem Chip.setReg_held (r : RegRow) (w : Word) (i j b : Nat) : (c.setReg r w i j b).held = c.held := rfl
@[simp] theorem Chip.setReg_tk (r : RegRow) (w : Word) (i j b : Nat) : (c.setReg r w i j b).tk = c.tk := rfl
@[simp] theorem Chip.setReg_tb (r : RegRow) (w : Word) (i j b : Nat) : (c.setReg r w i j b).tb = c.tb := rfl
@[simp] theorem Chip.setReg_sv (r : RegRow) (w : Word) (i j b : Nat) : (c.setReg r w i j b).sv = c.sv := rfl
@[simp] theorem Chip.setReg_rf (r : RegRow) (w : Word) (i j b : Nat) : (c.setReg r w i j b).rf = c.rf := rfl
@[simp] theorem Chip.setReg_ports (r : RegRow) (w : Word) (i j b : Nat) : (c.setReg r w i j b).ports = c.ports := rfl
@[simp] theorem Chip.setReg_tr (r : RegRow) (w : Word) (i j b : Nat) : (c.setReg r w i j b).tr = c.tr := rfl
@[simp] theorem Chip.setReg_ev (r : RegRow) (w : Word) (i j b : Nat) : (c.setReg r w i j b).ev = c.ev := rfl
@[simp] theorem Chip.setReg_mn (r : RegRow) (w : Word) (i j b : Nat) : (c.setReg r w i j b).mn = c.mn := rfl
@[simp] theorem Chip.setReg_hs (r : RegRow) (w : Word) (i j b : Nat) : (c.setReg r w i j b).hs = c.hs := rfl
@[simp] theorem Chip.setReg_gr (r : RegRow) (w : Word) (i j b : Nat) : (c.setReg r w i j b).gr = c.gr := rfl
@[simp] theorem Chip.setReg_sq (r : RegRow) (w : Word) (i j b : Nat) : (c.setReg r w i j b).sq = c.sq := rfl
@[simp] theorem Chip.setReg_rt (r : RegRow) (w : Word) (i j b : Nat) : (c.setReg r w i j b).rt = c.rt := rfl
@[simp] theorem Chip.setReg_ts (r : RegRow) (w : Word) (i j b : Nat) : (c.setReg r w i j b).ts = c.ts := rfl
@[simp] theorem Chip.setReg_po (r : RegRow) (w : Word) (i j b : Nat) : (c.setReg r w i j b).po = c.po := rfl
@[simp] theorem Chip.setReg_sg (r : RegRow) (w : Word) (i j b : Nat) : (c.setReg r w i j b).sg = c.sg := rfl
@[simp] theorem Chip.setReg_gt (r : RegRow) (w : Word) (i j b : Nat) : (c.setReg r w i j b).gt = c.gt := rfl
@[simp] theorem Chip.setReg_gd (r : RegRow) (w : Word) (i j b : Nat) : (c.setReg r w i j b).gd = c.gd := rfl
@[simp] theorem Chip.setReg_fw (r : RegRow) (w : Word) (i j b : Nat) : (c.setReg r w i j b).fw = c.fw := rfl
@[simp] theorem Chip.setReg_hg (r : RegRow) (w : Word) (i j b : Nat) : (c.setReg r w i j b).hg = c.hg := rfl
@[simp] theorem Chip.setReg_cp (r : RegRow) (w : Word) (i j b : Nat) : (c.setReg r w i j b).cp = c.cp := rfl
@[simp] theorem Chip.setReg_pw (r : RegRow) (w : Word) (i j b : Nat) : (c.setReg r w i j b).pw = c.pw := rfl
@[simp] theorem Chip.setReg_inReset (r : RegRow) (w : Word) (i j b : Nat) : (c.setReg r w i j b).inReset = c.inReset := rfl
@[simp] theorem Chip.setReg_powerOnDue (r : RegRow) (w : Word) (i j b : Nat) : (c.setReg r w i j b).powerOnDue = c.powerOnDue := rfl
@[simp] theorem Chip.setReg_free (r : RegRow) (w : Word) (i j b : Nat) : (c.setReg r w i j b).free = c.free := rfl

@[simp] theorem Chip.modPort_id (p : Nat) (f : PortState → PortState) : (c.modPort p f).id = c.id := rfl
@[simp] theorem Chip.modPort_regs (p : Nat) (f : PortState → PortState) : (c.modPort p f).regs = c.regs := rfl
@[simp] theorem Chip.modPort_shadows (p : Nat) (f : PortState → PortState) : (c.modPort p f).shadows = c.shadows := rfl
@[simp] theorem Chip.modPort_held (p : Nat) (f : PortState → PortState) : (c.modPort p f).held = c.held := rfl
@[simp] theorem Chip.modPort_tk (p : Nat) (f : PortState → PortState) : (c.modPort p f).tk = c.tk := rfl
@[simp] theorem Chip.modPort_tb (p : Nat) (f : PortState → PortState) : (c.modPort p f).tb = c.tb := rfl
@[simp] theorem Chip.modPort_sv (p : Nat) (f : PortState → PortState) : (c.modPort p f).sv = c.sv := rfl
@[simp] theorem Chip.modPort_rf (p : Nat) (f : PortState → PortState) : (c.modPort p f).rf = c.rf := rfl
@[simp] theorem Chip.modPort_tr (p : Nat) (f : PortState → PortState) : (c.modPort p f).tr = c.tr := rfl
@[simp] theorem Chip.modPort_ev (p : Nat) (f : PortState → PortState) : (c.modPort p f).ev = c.ev := rfl
@[simp] theorem Chip.modPort_mn (p : Nat) (f : PortState → PortState) : (c.modPort p f).mn = c.mn := rfl
@[simp] theorem Chip.modPort_hs (p : Nat) (f : PortState → PortState) : (c.modPort p f).hs = c.hs := rfl
@[simp] theorem Chip.modPort_gr (p : Nat) (f : PortState → PortState) : (c.modPort p f).gr = c.gr := rfl
@[simp] theorem Chip.modPort_sq (p : Nat) (f : PortState → PortState) : (c.modPort p f).sq = c.sq := rfl
@[simp] theorem Chip.modPort_rt (p : Nat) (f : PortState → PortState) : (c.modPort p f).rt = c.rt := rfl
@[simp] theorem Chip.modPort_ts (p : Nat) (f : PortState → PortState) : (c.modPort p f).ts = c.ts := rfl
@[simp] theorem Chip.modPort_po (p : Nat) (f : PortState → PortState) : (c.modPort p f).po = c.po := rfl
@[simp] theorem Chip.modPort_sg (p : Nat) (f : PortState → PortState) : (c.modPort p f).sg = c.sg := rfl
@[simp] theorem Chip.modPort_gt (p : Nat) (f : PortState → PortState) : (c.modPort p f).gt = c.gt := rfl
@[simp] theorem Chip.modPort_gd (p : Nat) (f : PortState → PortState) : (c.modPort p f).gd = c.gd := rfl
@[simp] theorem Chip.modPort_fw (p : Nat) (f : PortState → PortState) : (c.modPort p f).fw = c.fw := rfl
@[simp] theorem Chip.modPort_hg (p : Nat) (f : PortState → PortState) : (c.modPort p f).hg = c.hg := rfl
@[simp] theorem Chip.modPort_cp (p : Nat) (f : PortState → PortState) : (c.modPort p f).cp = c.cp := rfl
@[simp] theorem Chip.modPort_pw (p : Nat) (f : PortState → PortState) : (c.modPort p f).pw = c.pw := rfl
@[simp] theorem Chip.modPort_inReset (p : Nat) (f : PortState → PortState) : (c.modPort p f).inReset = c.inReset := rfl
@[simp] theorem Chip.modPort_powerOnDue (p : Nat) (f : PortState → PortState) : (c.modPort p f).powerOnDue = c.powerOnDue := rfl
@[simp] theorem Chip.modPort_free (p : Nat) (f : PortState → PortState) : (c.modPort p f).free = c.free := rfl

@[simp] theorem Chip.modQ_id (p : Nat) (f : PortQueues → PortQueues) : (c.modQ p f).id = c.id := rfl
@[simp] theorem Chip.modQ_regs (p : Nat) (f : PortQueues → PortQueues) : (c.modQ p f).regs = c.regs := rfl
@[simp] theorem Chip.modQ_shadows (p : Nat) (f : PortQueues → PortQueues) : (c.modQ p f).shadows = c.shadows := rfl
@[simp] theorem Chip.modQ_held (p : Nat) (f : PortQueues → PortQueues) : (c.modQ p f).held = c.held := rfl
@[simp] theorem Chip.modQ_tk (p : Nat) (f : PortQueues → PortQueues) : (c.modQ p f).tk = c.tk := rfl
@[simp] theorem Chip.modQ_tb (p : Nat) (f : PortQueues → PortQueues) : (c.modQ p f).tb = c.tb := rfl
@[simp] theorem Chip.modQ_sv (p : Nat) (f : PortQueues → PortQueues) : (c.modQ p f).sv = c.sv := rfl
@[simp] theorem Chip.modQ_rf (p : Nat) (f : PortQueues → PortQueues) : (c.modQ p f).rf = c.rf := rfl
@[simp] theorem Chip.modQ_tr (p : Nat) (f : PortQueues → PortQueues) : (c.modQ p f).tr = c.tr := rfl
@[simp] theorem Chip.modQ_ev (p : Nat) (f : PortQueues → PortQueues) : (c.modQ p f).ev = c.ev := rfl
@[simp] theorem Chip.modQ_mn (p : Nat) (f : PortQueues → PortQueues) : (c.modQ p f).mn = c.mn := rfl
@[simp] theorem Chip.modQ_hs (p : Nat) (f : PortQueues → PortQueues) : (c.modQ p f).hs = c.hs := rfl
@[simp] theorem Chip.modQ_gr (p : Nat) (f : PortQueues → PortQueues) : (c.modQ p f).gr = c.gr := rfl
@[simp] theorem Chip.modQ_sq (p : Nat) (f : PortQueues → PortQueues) : (c.modQ p f).sq = c.sq := rfl
@[simp] theorem Chip.modQ_rt (p : Nat) (f : PortQueues → PortQueues) : (c.modQ p f).rt = c.rt := rfl
@[simp] theorem Chip.modQ_ts (p : Nat) (f : PortQueues → PortQueues) : (c.modQ p f).ts = c.ts := rfl
@[simp] theorem Chip.modQ_po (p : Nat) (f : PortQueues → PortQueues) : (c.modQ p f).po = c.po := rfl
@[simp] theorem Chip.modQ_sg (p : Nat) (f : PortQueues → PortQueues) : (c.modQ p f).sg = c.sg := rfl
@[simp] theorem Chip.modQ_gt (p : Nat) (f : PortQueues → PortQueues) : (c.modQ p f).gt = c.gt := rfl
@[simp] theorem Chip.modQ_gd (p : Nat) (f : PortQueues → PortQueues) : (c.modQ p f).gd = c.gd := rfl
@[simp] theorem Chip.modQ_fw (p : Nat) (f : PortQueues → PortQueues) : (c.modQ p f).fw = c.fw := rfl
@[simp] theorem Chip.modQ_hg (p : Nat) (f : PortQueues → PortQueues) : (c.modQ p f).hg = c.hg := rfl
@[simp] theorem Chip.modQ_cp (p : Nat) (f : PortQueues → PortQueues) : (c.modQ p f).cp = c.cp := rfl
@[simp] theorem Chip.modQ_pw (p : Nat) (f : PortQueues → PortQueues) : (c.modQ p f).pw = c.pw := rfl
@[simp] theorem Chip.modQ_inReset (p : Nat) (f : PortQueues → PortQueues) : (c.modQ p f).inReset = c.inReset := rfl
@[simp] theorem Chip.modQ_powerOnDue (p : Nat) (f : PortQueues → PortQueues) : (c.modQ p f).powerOnDue = c.powerOnDue := rfl
@[simp] theorem Chip.modQ_free (p : Nat) (f : PortQueues → PortQueues) : (c.modQ p f).free = c.free := rfl

@[simp] theorem Chip.modLink_id (p : Nat) (f : PortLink → PortLink) : (c.modLink p f).id = c.id := rfl
@[simp] theorem Chip.modLink_regs (p : Nat) (f : PortLink → PortLink) : (c.modLink p f).regs = c.regs := rfl
@[simp] theorem Chip.modLink_shadows (p : Nat) (f : PortLink → PortLink) : (c.modLink p f).shadows = c.shadows := rfl
@[simp] theorem Chip.modLink_held (p : Nat) (f : PortLink → PortLink) : (c.modLink p f).held = c.held := rfl
@[simp] theorem Chip.modLink_tk (p : Nat) (f : PortLink → PortLink) : (c.modLink p f).tk = c.tk := rfl
@[simp] theorem Chip.modLink_tb (p : Nat) (f : PortLink → PortLink) : (c.modLink p f).tb = c.tb := rfl
@[simp] theorem Chip.modLink_sv (p : Nat) (f : PortLink → PortLink) : (c.modLink p f).sv = c.sv := rfl
@[simp] theorem Chip.modLink_rf (p : Nat) (f : PortLink → PortLink) : (c.modLink p f).rf = c.rf := rfl
@[simp] theorem Chip.modLink_tr (p : Nat) (f : PortLink → PortLink) : (c.modLink p f).tr = c.tr := rfl
@[simp] theorem Chip.modLink_ev (p : Nat) (f : PortLink → PortLink) : (c.modLink p f).ev = c.ev := rfl
@[simp] theorem Chip.modLink_mn (p : Nat) (f : PortLink → PortLink) : (c.modLink p f).mn = c.mn := rfl
@[simp] theorem Chip.modLink_hs (p : Nat) (f : PortLink → PortLink) : (c.modLink p f).hs = c.hs := rfl
@[simp] theorem Chip.modLink_gr (p : Nat) (f : PortLink → PortLink) : (c.modLink p f).gr = c.gr := rfl
@[simp] theorem Chip.modLink_sq (p : Nat) (f : PortLink → PortLink) : (c.modLink p f).sq = c.sq := rfl
@[simp] theorem Chip.modLink_rt (p : Nat) (f : PortLink → PortLink) : (c.modLink p f).rt = c.rt := rfl
@[simp] theorem Chip.modLink_ts (p : Nat) (f : PortLink → PortLink) : (c.modLink p f).ts = c.ts := rfl
@[simp] theorem Chip.modLink_po (p : Nat) (f : PortLink → PortLink) : (c.modLink p f).po = c.po := rfl
@[simp] theorem Chip.modLink_sg (p : Nat) (f : PortLink → PortLink) : (c.modLink p f).sg = c.sg := rfl
@[simp] theorem Chip.modLink_gt (p : Nat) (f : PortLink → PortLink) : (c.modLink p f).gt = c.gt := rfl
@[simp] theorem Chip.modLink_gd (p : Nat) (f : PortLink → PortLink) : (c.modLink p f).gd = c.gd := rfl
@[simp] theorem Chip.modLink_fw (p : Nat) (f : PortLink → PortLink) : (c.modLink p f).fw = c.fw := rfl
@[simp] theorem Chip.modLink_hg (p : Nat) (f : PortLink → PortLink) : (c.modLink p f).hg = c.hg := rfl
@[simp] theorem Chip.modLink_cp (p : Nat) (f : PortLink → PortLink) : (c.modLink p f).cp = c.cp := rfl
@[simp] theorem Chip.modLink_pw (p : Nat) (f : PortLink → PortLink) : (c.modLink p f).pw = c.pw := rfl
@[simp] theorem Chip.modLink_inReset (p : Nat) (f : PortLink → PortLink) : (c.modLink p f).inReset = c.inReset := rfl
@[simp] theorem Chip.modLink_powerOnDue (p : Nat) (f : PortLink → PortLink) : (c.modLink p f).powerOnDue = c.powerOnDue := rfl
@[simp] theorem Chip.modLink_free (p : Nat) (f : PortLink → PortLink) : (c.modLink p f).free = c.free := rfl

@[simp] theorem Chip.modCode_id (p : Nat) (f : PortCode → PortCode) : (c.modCode p f).id = c.id := rfl
@[simp] theorem Chip.modCode_regs (p : Nat) (f : PortCode → PortCode) : (c.modCode p f).regs = c.regs := rfl
@[simp] theorem Chip.modCode_shadows (p : Nat) (f : PortCode → PortCode) : (c.modCode p f).shadows = c.shadows := rfl
@[simp] theorem Chip.modCode_held (p : Nat) (f : PortCode → PortCode) : (c.modCode p f).held = c.held := rfl
@[simp] theorem Chip.modCode_tk (p : Nat) (f : PortCode → PortCode) : (c.modCode p f).tk = c.tk := rfl
@[simp] theorem Chip.modCode_tb (p : Nat) (f : PortCode → PortCode) : (c.modCode p f).tb = c.tb := rfl
@[simp] theorem Chip.modCode_sv (p : Nat) (f : PortCode → PortCode) : (c.modCode p f).sv = c.sv := rfl
@[simp] theorem Chip.modCode_rf (p : Nat) (f : PortCode → PortCode) : (c.modCode p f).rf = c.rf := rfl
@[simp] theorem Chip.modCode_tr (p : Nat) (f : PortCode → PortCode) : (c.modCode p f).tr = c.tr := rfl
@[simp] theorem Chip.modCode_ev (p : Nat) (f : PortCode → PortCode) : (c.modCode p f).ev = c.ev := rfl
@[simp] theorem Chip.modCode_mn (p : Nat) (f : PortCode → PortCode) : (c.modCode p f).mn = c.mn := rfl
@[simp] theorem Chip.modCode_hs (p : Nat) (f : PortCode → PortCode) : (c.modCode p f).hs = c.hs := rfl
@[simp] theorem Chip.modCode_gr (p : Nat) (f : PortCode → PortCode) : (c.modCode p f).gr = c.gr := rfl
@[simp] theorem Chip.modCode_sq (p : Nat) (f : PortCode → PortCode) : (c.modCode p f).sq = c.sq := rfl
@[simp] theorem Chip.modCode_rt (p : Nat) (f : PortCode → PortCode) : (c.modCode p f).rt = c.rt := rfl
@[simp] theorem Chip.modCode_ts (p : Nat) (f : PortCode → PortCode) : (c.modCode p f).ts = c.ts := rfl
@[simp] theorem Chip.modCode_po (p : Nat) (f : PortCode → PortCode) : (c.modCode p f).po = c.po := rfl
@[simp] theorem Chip.modCode_sg (p : Nat) (f : PortCode → PortCode) : (c.modCode p f).sg = c.sg := rfl
@[simp] theorem Chip.modCode_gt (p : Nat) (f : PortCode → PortCode) : (c.modCode p f).gt = c.gt := rfl
@[simp] theorem Chip.modCode_gd (p : Nat) (f : PortCode → PortCode) : (c.modCode p f).gd = c.gd := rfl
@[simp] theorem Chip.modCode_fw (p : Nat) (f : PortCode → PortCode) : (c.modCode p f).fw = c.fw := rfl
@[simp] theorem Chip.modCode_hg (p : Nat) (f : PortCode → PortCode) : (c.modCode p f).hg = c.hg := rfl
@[simp] theorem Chip.modCode_cp (p : Nat) (f : PortCode → PortCode) : (c.modCode p f).cp = c.cp := rfl
@[simp] theorem Chip.modCode_pw (p : Nat) (f : PortCode → PortCode) : (c.modCode p f).pw = c.pw := rfl
@[simp] theorem Chip.modCode_inReset (p : Nat) (f : PortCode → PortCode) : (c.modCode p f).inReset = c.inReset := rfl
@[simp] theorem Chip.modCode_powerOnDue (p : Nat) (f : PortCode → PortCode) : (c.modCode p f).powerOnDue = c.powerOnDue := rfl
@[simp] theorem Chip.modCode_free (p : Nat) (f : PortCode → PortCode) : (c.modCode p f).free = c.free := rfl

@[simp] theorem Chip.modTime_id (p : Nat) (f : PortTime → PortTime) : (c.modTime p f).id = c.id := rfl
@[simp] theorem Chip.modTime_regs (p : Nat) (f : PortTime → PortTime) : (c.modTime p f).regs = c.regs := rfl
@[simp] theorem Chip.modTime_shadows (p : Nat) (f : PortTime → PortTime) : (c.modTime p f).shadows = c.shadows := rfl
@[simp] theorem Chip.modTime_held (p : Nat) (f : PortTime → PortTime) : (c.modTime p f).held = c.held := rfl
@[simp] theorem Chip.modTime_tk (p : Nat) (f : PortTime → PortTime) : (c.modTime p f).tk = c.tk := rfl
@[simp] theorem Chip.modTime_tb (p : Nat) (f : PortTime → PortTime) : (c.modTime p f).tb = c.tb := rfl
@[simp] theorem Chip.modTime_sv (p : Nat) (f : PortTime → PortTime) : (c.modTime p f).sv = c.sv := rfl
@[simp] theorem Chip.modTime_rf (p : Nat) (f : PortTime → PortTime) : (c.modTime p f).rf = c.rf := rfl
@[simp] theorem Chip.modTime_tr (p : Nat) (f : PortTime → PortTime) : (c.modTime p f).tr = c.tr := rfl
@[simp] theorem Chip.modTime_ev (p : Nat) (f : PortTime → PortTime) : (c.modTime p f).ev = c.ev := rfl
@[simp] theorem Chip.modTime_mn (p : Nat) (f : PortTime → PortTime) : (c.modTime p f).mn = c.mn := rfl
@[simp] theorem Chip.modTime_hs (p : Nat) (f : PortTime → PortTime) : (c.modTime p f).hs = c.hs := rfl
@[simp] theorem Chip.modTime_gr (p : Nat) (f : PortTime → PortTime) : (c.modTime p f).gr = c.gr := rfl
@[simp] theorem Chip.modTime_sq (p : Nat) (f : PortTime → PortTime) : (c.modTime p f).sq = c.sq := rfl
@[simp] theorem Chip.modTime_rt (p : Nat) (f : PortTime → PortTime) : (c.modTime p f).rt = c.rt := rfl
@[simp] theorem Chip.modTime_ts (p : Nat) (f : PortTime → PortTime) : (c.modTime p f).ts = c.ts := rfl
@[simp] theorem Chip.modTime_po (p : Nat) (f : PortTime → PortTime) : (c.modTime p f).po = c.po := rfl
@[simp] theorem Chip.modTime_sg (p : Nat) (f : PortTime → PortTime) : (c.modTime p f).sg = c.sg := rfl
@[simp] theorem Chip.modTime_gt (p : Nat) (f : PortTime → PortTime) : (c.modTime p f).gt = c.gt := rfl
@[simp] theorem Chip.modTime_gd (p : Nat) (f : PortTime → PortTime) : (c.modTime p f).gd = c.gd := rfl
@[simp] theorem Chip.modTime_fw (p : Nat) (f : PortTime → PortTime) : (c.modTime p f).fw = c.fw := rfl
@[simp] theorem Chip.modTime_hg (p : Nat) (f : PortTime → PortTime) : (c.modTime p f).hg = c.hg := rfl
@[simp] theorem Chip.modTime_cp (p : Nat) (f : PortTime → PortTime) : (c.modTime p f).cp = c.cp := rfl
@[simp] theorem Chip.modTime_pw (p : Nat) (f : PortTime → PortTime) : (c.modTime p f).pw = c.pw := rfl
@[simp] theorem Chip.modTime_inReset (p : Nat) (f : PortTime → PortTime) : (c.modTime p f).inReset = c.inReset := rfl
@[simp] theorem Chip.modTime_powerOnDue (p : Nat) (f : PortTime → PortTime) : (c.modTime p f).powerOnDue = c.powerOnDue := rfl
@[simp] theorem Chip.modTime_free (p : Nat) (f : PortTime → PortTime) : (c.modTime p f).free = c.free := rfl

@[simp] theorem Chip.modHs_id (u : Nat) (f : HsUnit → HsUnit) : (c.modHs u f).id = c.id := rfl
@[simp] theorem Chip.modHs_regs (u : Nat) (f : HsUnit → HsUnit) : (c.modHs u f).regs = c.regs := rfl
@[simp] theorem Chip.modHs_shadows (u : Nat) (f : HsUnit → HsUnit) : (c.modHs u f).shadows = c.shadows := rfl
@[simp] theorem Chip.modHs_held (u : Nat) (f : HsUnit → HsUnit) : (c.modHs u f).held = c.held := rfl
@[simp] theorem Chip.modHs_tk (u : Nat) (f : HsUnit → HsUnit) : (c.modHs u f).tk = c.tk := rfl
@[simp] theorem Chip.modHs_tb (u : Nat) (f : HsUnit → HsUnit) : (c.modHs u f).tb = c.tb := rfl
@[simp] theorem Chip.modHs_sv (u : Nat) (f : HsUnit → HsUnit) : (c.modHs u f).sv = c.sv := rfl
@[simp] theorem Chip.modHs_rf (u : Nat) (f : HsUnit → HsUnit) : (c.modHs u f).rf = c.rf := rfl
@[simp] theorem Chip.modHs_ports (u : Nat) (f : HsUnit → HsUnit) : (c.modHs u f).ports = c.ports := rfl
@[simp] theorem Chip.modHs_tr (u : Nat) (f : HsUnit → HsUnit) : (c.modHs u f).tr = c.tr := rfl
@[simp] theorem Chip.modHs_ev (u : Nat) (f : HsUnit → HsUnit) : (c.modHs u f).ev = c.ev := rfl
@[simp] theorem Chip.modHs_mn (u : Nat) (f : HsUnit → HsUnit) : (c.modHs u f).mn = c.mn := rfl
@[simp] theorem Chip.modHs_gr (u : Nat) (f : HsUnit → HsUnit) : (c.modHs u f).gr = c.gr := rfl
@[simp] theorem Chip.modHs_sq (u : Nat) (f : HsUnit → HsUnit) : (c.modHs u f).sq = c.sq := rfl
@[simp] theorem Chip.modHs_rt (u : Nat) (f : HsUnit → HsUnit) : (c.modHs u f).rt = c.rt := rfl
@[simp] theorem Chip.modHs_ts (u : Nat) (f : HsUnit → HsUnit) : (c.modHs u f).ts = c.ts := rfl
@[simp] theorem Chip.modHs_po (u : Nat) (f : HsUnit → HsUnit) : (c.modHs u f).po = c.po := rfl
@[simp] theorem Chip.modHs_sg (u : Nat) (f : HsUnit → HsUnit) : (c.modHs u f).sg = c.sg := rfl
@[simp] theorem Chip.modHs_gt (u : Nat) (f : HsUnit → HsUnit) : (c.modHs u f).gt = c.gt := rfl
@[simp] theorem Chip.modHs_gd (u : Nat) (f : HsUnit → HsUnit) : (c.modHs u f).gd = c.gd := rfl
@[simp] theorem Chip.modHs_fw (u : Nat) (f : HsUnit → HsUnit) : (c.modHs u f).fw = c.fw := rfl
@[simp] theorem Chip.modHs_hg (u : Nat) (f : HsUnit → HsUnit) : (c.modHs u f).hg = c.hg := rfl
@[simp] theorem Chip.modHs_cp (u : Nat) (f : HsUnit → HsUnit) : (c.modHs u f).cp = c.cp := rfl
@[simp] theorem Chip.modHs_pw (u : Nat) (f : HsUnit → HsUnit) : (c.modHs u f).pw = c.pw := rfl
@[simp] theorem Chip.modHs_inReset (u : Nat) (f : HsUnit → HsUnit) : (c.modHs u f).inReset = c.inReset := rfl
@[simp] theorem Chip.modHs_powerOnDue (u : Nat) (f : HsUnit → HsUnit) : (c.modHs u f).powerOnDue = c.powerOnDue := rfl
@[simp] theorem Chip.modHs_free (u : Nat) (f : HsUnit → HsUnit) : (c.modHs u f).free = c.free := rfl

/-! ### A thread that enters RUN or has issued -/

variable (x : ThreadState) (frc : Nat)

@[simp] theorem ThreadState.enterRun_mode : (x.enterRun frc).mode = ThMode.run := rfl
@[simp] theorem ThreadState.enterRun_aged : (x.enterRun frc).aged = 0 := rfl
@[simp] theorem ThreadState.enterRun_runAt : (x.enterRun frc).runAt = frc := rfl
@[simp] theorem ThreadState.enterRun_issued : (x.enterRun frc).issued = x.issued := rfl
@[simp] theorem ThreadState.enterRun_pc : (x.enterRun frc).pc = x.pc := rfl
@[simp] theorem ThreadState.enterRun_grp : (x.enterRun frc).grp = x.grp := rfl
@[simp] theorem ThreadState.enterRun_course : (x.enterRun frc).course = x.course := rfl
@[simp] theorem ThreadState.enterRun_n0 : (x.enterRun frc).n0 = x.n0 := rfl
@[simp] theorem ThreadState.enterRun_base : (x.enterRun frc).base = x.base := rfl
@[simp] theorem ThreadState.enterRun_cursor : (x.enterRun frc).cursor = x.cursor := rfl
@[simp] theorem ThreadState.enterRun_mb : (x.enterRun frc).mb = x.mb := rfl
@[simp] theorem ThreadState.enterRun_rvalid : (x.enterRun frc).rvalid = x.rvalid := rfl
@[simp] theorem ThreadState.enterRun_rdet : (x.enterRun frc).rdet = x.rdet := rfl
@[simp] theorem ThreadState.enterRun_rflags : (x.enterRun frc).rflags = x.rflags := rfl
@[simp] theorem ThreadState.enterRun_rcourse : (x.enterRun frc).rcourse = x.rcourse := rfl
@[simp] theorem ThreadState.enterRun_lastRel : (x.enterRun frc).lastRel = x.lastRel := rfl
@[simp] theorem ThreadState.enterRun_fcode : (x.enterRun frc).fcode = x.fcode := rfl
@[simp] theorem ThreadState.enterRun_arms : (x.enterRun frc).arms = x.arms := rfl
@[simp] theorem ThreadState.enterRun_wake : (x.enterRun frc).wake = x.wake := rfl
@[simp] theorem ThreadState.enterRun_lines : (x.enterRun frc).lines = x.lines := rfl
@[simp] theorem ThreadState.enterRun_set : (x.enterRun frc).set = x.set := rfl
@[simp] theorem ThreadState.enterRun_noBase : (x.enterRun frc).noBase = x.noBase := rfl
@[simp] theorem ThreadState.enterRun_rload : (x.enterRun frc).rload = x.rload := rfl
@[simp] theorem ThreadState.enterRun_tag : (x.enterRun frc).tag = x.tag := rfl
@[simp] theorem ThreadState.enterRun_stalled : (x.enterRun frc).stalled = x.stalled := rfl
@[simp] theorem ThreadState.enterRun_solo : (x.enterRun frc).solo = x.solo := rfl
@[simp] theorem ThreadState.enterRun_overrun : (x.enterRun frc).overrun = x.overrun := rfl
@[simp] theorem ThreadState.enterRun_synced : (x.enterRun frc).synced = x.synced := rfl

@[simp] theorem ThreadState.hasIssued_mode : (x.hasIssued frc).mode = x.mode := rfl
@[simp] theorem ThreadState.hasIssued_aged : (x.hasIssued frc).aged = 0 := rfl
@[simp] theorem ThreadState.hasIssued_runAt : (x.hasIssued frc).runAt = frc := rfl
@[simp] theorem ThreadState.hasIssued_issued : (x.hasIssued frc).issued = true := rfl
@[simp] theorem ThreadState.hasIssued_pc : (x.hasIssued frc).pc = x.pc := rfl
@[simp] theorem ThreadState.hasIssued_grp : (x.hasIssued frc).grp = x.grp := rfl
@[simp] theorem ThreadState.hasIssued_course : (x.hasIssued frc).course = x.course := rfl
@[simp] theorem ThreadState.hasIssued_n0 : (x.hasIssued frc).n0 = x.n0 := rfl
@[simp] theorem ThreadState.hasIssued_base : (x.hasIssued frc).base = x.base := rfl
@[simp] theorem ThreadState.hasIssued_cursor : (x.hasIssued frc).cursor = x.cursor := rfl
@[simp] theorem ThreadState.hasIssued_mb : (x.hasIssued frc).mb = x.mb := rfl
@[simp] theorem ThreadState.hasIssued_rvalid : (x.hasIssued frc).rvalid = x.rvalid := rfl
@[simp] theorem ThreadState.hasIssued_rdet : (x.hasIssued frc).rdet = x.rdet := rfl
@[simp] theorem ThreadState.hasIssued_rflags : (x.hasIssued frc).rflags = x.rflags := rfl
@[simp] theorem ThreadState.hasIssued_rcourse : (x.hasIssued frc).rcourse = x.rcourse := rfl
@[simp] theorem ThreadState.hasIssued_lastRel : (x.hasIssued frc).lastRel = x.lastRel := rfl
@[simp] theorem ThreadState.hasIssued_fcode : (x.hasIssued frc).fcode = x.fcode := rfl
@[simp] theorem ThreadState.hasIssued_arms : (x.hasIssued frc).arms = x.arms := rfl
@[simp] theorem ThreadState.hasIssued_wake : (x.hasIssued frc).wake = x.wake := rfl
@[simp] theorem ThreadState.hasIssued_lines : (x.hasIssued frc).lines = x.lines := rfl
@[simp] theorem ThreadState.hasIssued_set : (x.hasIssued frc).set = x.set := rfl
@[simp] theorem ThreadState.hasIssued_noBase : (x.hasIssued frc).noBase = x.noBase := rfl
@[simp] theorem ThreadState.hasIssued_rload : (x.hasIssued frc).rload = x.rload := rfl
@[simp] theorem ThreadState.hasIssued_tag : (x.hasIssued frc).tag = x.tag := rfl
@[simp] theorem ThreadState.hasIssued_stalled : (x.hasIssued frc).stalled = x.stalled := rfl
@[simp] theorem ThreadState.hasIssued_solo : (x.hasIssued frc).solo = x.solo := rfl
@[simp] theorem ThreadState.hasIssued_overrun : (x.hasIssued frc).overrun = x.overrun := rfl
@[simp] theorem ThreadState.hasIssued_synced : (x.hasIssued frc).synced = x.synced := rfl

/-! ### What an updated port and register read as -/

@[simp] theorem Chip.port_modPort (p : Nat) (f : PortState → PortState) : (c.modPort p f).port p = f (c.port p) := by
  simp [Chip.modPort, Chip.port]

theorem Chip.port_modPort_ne {p q : Nat} (h : q ≠ p) (f : PortState → PortState) :
    (c.modPort p f).port q = c.port q := by
  simp only [Chip.modPort, Chip.port]
  exact SMap.find_put_ne h _ _ _

@[simp] theorem Chip.port_setReg (r : RegRow) (w : Word) (i j b p : Nat) : (c.setReg r w i j b).port p = c.port p := rfl

@[simp] theorem Chip.reg_setReg (r : RegRow) (w : Word) (i j b : Nat) : (c.setReg r w i j b).reg r i j b = w := by
  simp [Chip.setReg, Chip.reg]

theorem Chip.reg_setReg_ne {r r' : RegRow} {i j b i' j' b' : Nat} (h : r'.key i' j' b' ≠ r.key i j b) (w : Word) :
    (c.setReg r w i j b).reg r' i' j' b' = c.reg r' i' j' b' := by
  simp only [Chip.setReg, Chip.reg]
  exact SMap.find_put_ne h _ _ _

end Sys2Proof.Machine
end

