-- ==== Sys2Proof/Laws/Ops.lean ====
section
/-!
SUPPORT. Laws/Ops.lean: what reporting and sampling can touch. An event's report changes stored
registers, the monitors, the recorder's queue, histogram units, the queues of interrupt notices and the
count of free values, and nothing else of the part.
-/

namespace Sys2Proof.Machine

/-- A fold of steps that each keep a view keeps the view. -/
theorem foldl_keeps {α β γ : Type} (v : α → γ) (f : α → β → α) (l : List β) (a : α)
    (h : ∀ x b, v (f x b) = v x) : v (l.foldl f a) = v a := by
  induction l generalizing a with
  | nil => rfl
  | cons b r ih => simp only [List.foldl_cons, ih, h]

variable (c : Chip)

@[simp] theorem Chip.setReg_calm (r : RegRow) (w : Word) (i j b : Nat) : (c.setReg r w i j b).calm = c.calm := rfl
@[simp] theorem Chip.modPort_calm (p : Nat) (f : PortState → PortState) : (c.modPort p f).calm = c.calm := rfl
@[simp] theorem Chip.modQ_calm (p : Nat) (f : PortQueues → PortQueues) : (c.modQ p f).calm = c.calm := rfl
@[simp] theorem Chip.modHs_calm (u : Nat) (f : HsUnit → HsUnit) : (c.modHs u f).calm = c.calm := rfl
@[simp] theorem Chip.bump_calm (r : RegRow) (n i j : Nat) : (c.bump r n i j).calm = c.calm := rfl

@[simp] theorem Chip.count_calm (n : Nat) (i : Option Nat) (k : Nat) : (c.count n i k).calm = c.calm := by
  unfold Chip.count; split <;> rfl

@[simp] theorem Chip.pinEdges_calm (s r f : Nat) : (c.pinEdges s r f).calm = c.calm := by
  unfold Chip.pinEdges; split <;> rfl

@[simp] theorem Chip.sendCells_calm (p cls : Nat) (l : List Cell) : (c.sendCells p cls l).calm = c.calm := by
  unfold Chip.sendCells; split <;> rfl

@[simp] theorem Chip.irqEdges_calm (b : Chip) : (c.irqEdges b).calm = c.calm := by
  unfold Chip.irqEdges
  apply foldl_keeps Chip.calm
  intro x n
  split
  · split <;> simp
  · rfl

@[simp] theorem Chip.inoteOn_calm (p : Nat) : (c.inoteOn p).calm = c.calm := by
  unfold Chip.inoteOn
  split
  · simp
  · split <;> rfl

@[simp] theorem Chip.inoteRaise_calm (p : Nat) (b : Word) : (c.inoteRaise p b).calm = c.calm := by
  unfold Chip.inoteRaise
  split
  · exact foldl_keeps Chip.calm _ _ _ (fun x q => Chip.inoteOn_calm x q)
  · rfl

@[simp] theorem Chip.flag_calm (p b : Nat) (i : Option Nat) : (c.flag p b i).calm = c.calm := by
  unfold Chip.flag
  dsimp only
  split
  · rfl
  · split <;> simp

@[simp] theorem Chip.enqueueRec_calm (r : RawRec) : (c.enqueueRec r).calm = c.calm := by
  unfold Chip.enqueueRec
  split
  · rfl
  · simp only [Chip.flag_calm, Chip.count_calm]; rfl

@[simp] theorem Chip.note_calm (e : Ev) (i : Option Nat) : (c.note e i).calm = c.calm := by simp [Chip.note]

@[simp] theorem Chip.param_calm (p : Option Word) : (c.param p).2.calm = c.calm := by
  unfold Chip.param; split <;> rfl

@[simp] theorem Chip.record_calm (n : Nat) (r : Rep) : (c.record n r).calm = c.calm := by simp [Chip.record]

@[simp] theorem Chip.report_calm (e : Ev) (r : Rep) : (c.report e r).calm = c.calm := by
  unfold Chip.report
  dsimp only
  split <;> simp

@[simp] theorem Chip.hsTake_calm (u : Nat) (v : Int) : (c.hsTake u v).calm = c.calm := by
  unfold Chip.hsTake
  dsimp only
  split <;> simp

@[simp] theorem Chip.hsOffer_calm (a i : Nat) (v : Int) (u : Nat) : (c.hsOffer a i v u).calm = c.calm := by
  unfold Chip.hsOffer
  dsimp only
  split
  · split
    · simp
    · split
      · simp
      · split <;> simp
  · rfl

@[simp] theorem Chip.sample_calm (a i : Nat) (v : Int) : (c.sample a i v).calm = c.calm := by
  unfold Chip.sample
  split
  · rfl
  · exact foldl_keeps Chip.calm _ _ _ (fun x q => Chip.hsOffer_calm x a i v q)

/-! ### Field by field -/

@[simp] theorem Chip.bump_id (r : RegRow) (n i j : Nat) : (c.bump r n i j).id = c.id := (congrArg Chip.id (c.bump_calm r n i j) :)
@[simp] theorem Chip.bump_shadows (r : RegRow) (n i j : Nat) : (c.bump r n i j).shadows = c.shadows := (congrArg Chip.shadows (c.bump_calm r n i j) :)
@[simp] theorem Chip.bump_held (r : RegRow) (n i j : Nat) : (c.bump r n i j).held = c.held := (congrArg Chip.held (c.bump_calm r n i j) :)
@[simp] theorem Chip.bump_tk (r : RegRow) (n i j : Nat) : (c.bump r n i j).tk = c.tk := (congrArg Chip.tk (c.bump_calm r n i j) :)
@[simp] theorem Chip.bump_tb (r : RegRow) (n i j : Nat) : (c.bump r n i j).tb = c.tb := (congrArg Chip.tb (c.bump_calm r n i j) :)
@[simp] theorem Chip.bump_sv (r : RegRow) (n i j : Nat) : (c.bump r n i j).sv = c.sv := (congrArg Chip.sv (c.bump_calm r n i j) :)
@[simp] theorem Chip.bump_rf (r : RegRow) (n i j : Nat) : (c.bump r n i j).rf = c.rf := (congrArg Chip.rf (c.bump_calm r n i j) :)
@[simp] theorem Chip.bump_gr (r : RegRow) (n i j : Nat) : (c.bump r n i j).gr = c.gr := (congrArg Chip.gr (c.bump_calm r n i j) :)
@[simp] theorem Chip.bump_sq (r : RegRow) (n i j : Nat) : (c.bump r n i j).sq = c.sq := (congrArg Chip.sq (c.bump_calm r n i j) :)
@[simp] theorem Chip.bump_rt (r : RegRow) (n i j : Nat) : (c.bump r n i j).rt = c.rt := (congrArg Chip.rt (c.bump_calm r n i j) :)
@[simp] theorem Chip.bump_ts (r : RegRow) (n i j : Nat) : (c.bump r n i j).ts = c.ts := (congrArg Chip.ts (c.bump_calm r n i j) :)
@[simp] theorem Chip.bump_po (r : RegRow) (n i j : Nat) : (c.bump r n i j).po = c.po := (congrArg Chip.po (c.bump_calm r n i j) :)
@[simp] theorem Chip.bump_sg (r : RegRow) (n i j : Nat) : (c.bump r n i j).sg = c.sg := (congrArg Chip.sg (c.bump_calm r n i j) :)
@[simp] theorem Chip.bump_gt (r : RegRow) (n i j : Nat) : (c.bump r n i j).gt = c.gt := (congrArg Chip.gt (c.bump_calm r n i j) :)
@[simp] theorem Chip.bump_gd (r : RegRow) (n i j : Nat) : (c.bump r n i j).gd = c.gd := (congrArg Chip.gd (c.bump_calm r n i j) :)
@[simp] theorem Chip.bump_fw (r : RegRow) (n i j : Nat) : (c.bump r n i j).fw = c.fw := (congrArg Chip.fw (c.bump_calm r n i j) :)
@[simp] theorem Chip.bump_hg (r : RegRow) (n i j : Nat) : (c.bump r n i j).hg = c.hg := (congrArg Chip.hg (c.bump_calm r n i j) :)
@[simp] theorem Chip.bump_cp (r : RegRow) (n i j : Nat) : (c.bump r n i j).cp = c.cp := (congrArg Chip.cp (c.bump_calm r n i j) :)
@[simp] theorem Chip.bump_pw (r : RegRow) (n i j : Nat) : (c.bump r n i j).pw = c.pw := (congrArg Chip.pw (c.bump_calm r n i j) :)
@[simp] theorem Chip.bump_inReset (r : RegRow) (n i j : Nat) : (c.bump r n i j).inReset = c.inReset := (congrArg Chip.inReset (c.bump_calm r n i j) :)
@[simp] theorem Chip.bump_powerOnDue (r : RegRow) (n i j : Nat) : (c.bump r n i j).powerOnDue = c.powerOnDue := (congrArg Chip.powerOnDue (c.bump_calm r n i j) :)

@[simp] theorem Chip.count_id (n : Nat) (i : Option Nat) (k : Nat) : (c.count n i k).id = c.id := (congrArg Chip.id (c.count_calm n i k) :)
@[simp] theorem Chip.count_shadows (n : Nat) (i : Option Nat) (k : Nat) : (c.count n i k).shadows = c.shadows := (congrArg Chip.shadows (c.count_calm n i k) :)
@[simp] theorem Chip.count_held (n : Nat) (i : Option Nat) (k : Nat) : (c.count n i k).held = c.held := (congrArg Chip.held (c.count_calm n i k) :)
@[simp] theorem Chip.count_tk (n : Nat) (i : Option Nat) (k : Nat) : (c.count n i k).tk = c.tk := (congrArg Chip.tk (c.count_calm n i k) :)
@[simp] theorem Chip.count_tb (n : Nat) (i : Option Nat) (k : Nat) : (c.count n i k).tb = c.tb := (congrArg Chip.tb (c.count_calm n i k) :)
@[simp] theorem Chip.count_sv (n : Nat) (i : Option Nat) (k : Nat) : (c.count n i k).sv = c.sv := (congrArg Chip.sv (c.count_calm n i k) :)
@[simp] theorem Chip.count_rf (n : Nat) (i : Option Nat) (k : Nat) : (c.count n i k).rf = c.rf := (congrArg Chip.rf (c.count_calm n i k) :)
@[simp] theorem Chip.count_gr (n : Nat) (i : Option Nat) (k : Nat) : (c.count n i k).gr = c.gr := (congrArg Chip.gr (c.count_calm n i k) :)
@[simp] theorem Chip.count_sq (n : Nat) (i : Option Nat) (k : Nat) : (c.count n i k).sq = c.sq := (congrArg Chip.sq (c.count_calm n i k) :)
@[simp] theorem Chip.count_rt (n : Nat) (i : Option Nat) (k : Nat) : (c.count n i k).rt = c.rt := (congrArg Chip.rt (c.count_calm n i k) :)
@[simp] theorem Chip.count_ts (n : Nat) (i : Option Nat) (k : Nat) : (c.count n i k).ts = c.ts := (congrArg Chip.ts (c.count_calm n i k) :)
@[simp] theorem Chip.count_po (n : Nat) (i : Option Nat) (k : Nat) : (c.count n i k).po = c.po := (congrArg Chip.po (c.count_calm n i k) :)
@[simp] theorem Chip.count_sg (n : Nat) (i : Option Nat) (k : Nat) : (c.count n i k).sg = c.sg := (congrArg Chip.sg (c.count_calm n i k) :)
@[simp] theorem Chip.count_gt (n : Nat) (i : Option Nat) (k : Nat) : (c.count n i k).gt = c.gt := (congrArg Chip.gt (c.count_calm n i k) :)
@[simp] theorem Chip.count_gd (n : Nat) (i : Option Nat) (k : Nat) : (c.count n i k).gd = c.gd := (congrArg Chip.gd (c.count_calm n i k) :)
@[simp] theorem Chip.count_fw (n : Nat) (i : Option Nat) (k : Nat) : (c.count n i k).fw = c.fw := (congrArg Chip.fw (c.count_calm n i k) :)
@[simp] theorem Chip.count_hg (n : Nat) (i : Option Nat) (k : Nat) : (c.count n i k).hg = c.hg := (congrArg Chip.hg (c.count_calm n i k) :)
@[simp] theorem Chip.count_cp (n : Nat) (i : Option Nat) (k : Nat) : (c.count n i k).cp = c.cp := (congrArg Chip.cp (c.count_calm n i k) :)
@[simp] theorem Chip.count_pw (n : Nat) (i : Option Nat) (k : Nat) : (c.count n i k).pw = c.pw := (congrArg Chip.pw (c.count_calm n i k) :)
@[simp] theorem Chip.count_inReset (n : Nat) (i : Option Nat) (k : Nat) : (c.count n i k).inReset = c.inReset := (congrArg Chip.inReset (c.count_calm n i k) :)
@[simp] theorem Chip.count_powerOnDue (n : Nat) (i : Option Nat) (k : Nat) : (c.count n i k).powerOnDue = c.powerOnDue := (congrArg Chip.powerOnDue (c.count_calm n i k) :)

@[simp] theorem Chip.flag_id (p b : Nat) (i : Option Nat) : (c.flag p b i).id = c.id := (congrArg Chip.id (c.flag_calm p b i) :)
@[simp] theorem Chip.flag_shadows (p b : Nat) (i : Option Nat) : (c.flag p b i).shadows = c.shadows := (congrArg Chip.shadows (c.flag_calm p b i) :)
@[simp] theorem Chip.flag_held (p b : Nat) (i : Option Nat) : (c.flag p b i).held = c.held := (congrArg Chip.held (c.flag_calm p b i) :)
@[simp] theorem Chip.flag_tk (p b : Nat) (i : Option Nat) : (c.flag p b i).tk = c.tk := (congrArg Chip.tk (c.flag_calm p b i) :)
@[simp] theorem Chip.flag_tb (p b : Nat) (i : Option Nat) : (c.flag p b i).tb = c.tb := (congrArg Chip.tb (c.flag_calm p b i) :)
@[simp] theorem Chip.flag_sv (p b : Nat) (i : Option Nat) : (c.flag p b i).sv = c.sv := (congrArg Chip.sv (c.flag_calm p b i) :)
@[simp] theorem Chip.flag_rf (p b : Nat) (i : Option Nat) : (c.flag p b i).rf = c.rf := (congrArg Chip.rf (c.flag_calm p b i) :)
@[simp] theorem Chip.flag_gr (p b : Nat) (i : Option Nat) : (c.flag p b i).gr = c.gr := (congrArg Chip.gr (c.flag_calm p b i) :)
@[simp] theorem Chip.flag_sq (p b : Nat) (i : Option Nat) : (c.flag p b i).sq = c.sq := (congrArg Chip.sq (c.flag_calm p b i) :)
@[simp] theorem Chip.flag_rt (p b : Nat) (i : Option Nat) : (c.flag p b i).rt = c.rt := (congrArg Chip.rt (c.flag_calm p b i) :)
@[simp] theorem Chip.flag_ts (p b : Nat) (i : Option Nat) : (c.flag p b i).ts = c.ts := (congrArg Chip.ts (c.flag_calm p b i) :)
@[simp] theorem Chip.flag_po (p b : Nat) (i : Option Nat) : (c.flag p b i).po = c.po := (congrArg Chip.po (c.flag_calm p b i) :)
@[simp] theorem Chip.flag_sg (p b : Nat) (i : Option Nat) : (c.flag p b i).sg = c.sg := (congrArg Chip.sg (c.flag_calm p b i) :)
@[simp] theorem Chip.flag_gt (p b : Nat) (i : Option Nat) : (c.flag p b i).gt = c.gt := (congrArg Chip.gt (c.flag_calm p b i) :)
@[simp] theorem Chip.flag_gd (p b : Nat) (i : Option Nat) : (c.flag p b i).gd = c.gd := (congrArg Chip.gd (c.flag_calm p b i) :)
@[simp] theorem Chip.flag_fw (p b : Nat) (i : Option Nat) : (c.flag p b i).fw = c.fw := (congrArg Chip.fw (c.flag_calm p b i) :)
@[simp] theorem Chip.flag_hg (p b : Nat) (i : Option Nat) : (c.flag p b i).hg = c.hg := (congrArg Chip.hg (c.flag_calm p b i) :)
@[simp] theorem Chip.flag_cp (p b : Nat) (i : Option Nat) : (c.flag p b i).cp = c.cp := (congrArg Chip.cp (c.flag_calm p b i) :)
@[simp] theorem Chip.flag_pw (p b : Nat) (i : Option Nat) : (c.flag p b i).pw = c.pw := (congrArg Chip.pw (c.flag_calm p b i) :)
@[simp] theorem Chip.flag_inReset (p b : Nat) (i : Option Nat) : (c.flag p b i).inReset = c.inReset := (congrArg Chip.inReset (c.flag_calm p b i) :)
@[simp] theorem Chip.flag_powerOnDue (p b : Nat) (i : Option Nat) : (c.flag p b i).powerOnDue = c.powerOnDue := (congrArg Chip.powerOnDue (c.flag_calm p b i) :)

@[simp] theorem Chip.note_id (e : Ev) (i : Option Nat) : (c.note e i).id = c.id := (congrArg Chip.id (c.note_calm e i) :)
@[simp] theorem Chip.note_shadows (e : Ev) (i : Option Nat) : (c.note e i).shadows = c.shadows := (congrArg Chip.shadows (c.note_calm e i) :)
@[simp] theorem Chip.note_held (e : Ev) (i : Option Nat) : (c.note e i).held = c.held := (congrArg Chip.held (c.note_calm e i) :)
@[simp] theorem Chip.note_tk (e : Ev) (i : Option Nat) : (c.note e i).tk = c.tk := (congrArg Chip.tk (c.note_calm e i) :)
@[simp] theorem Chip.note_tb (e : Ev) (i : Option Nat) : (c.note e i).tb = c.tb := (congrArg Chip.tb (c.note_calm e i) :)
@[simp] theorem Chip.note_sv (e : Ev) (i : Option Nat) : (c.note e i).sv = c.sv := (congrArg Chip.sv (c.note_calm e i) :)
@[simp] theorem Chip.note_rf (e : Ev) (i : Option Nat) : (c.note e i).rf = c.rf := (congrArg Chip.rf (c.note_calm e i) :)
@[simp] theorem Chip.note_gr (e : Ev) (i : Option Nat) : (c.note e i).gr = c.gr := (congrArg Chip.gr (c.note_calm e i) :)
@[simp] theorem Chip.note_sq (e : Ev) (i : Option Nat) : (c.note e i).sq = c.sq := (congrArg Chip.sq (c.note_calm e i) :)
@[simp] theorem Chip.note_rt (e : Ev) (i : Option Nat) : (c.note e i).rt = c.rt := (congrArg Chip.rt (c.note_calm e i) :)
@[simp] theorem Chip.note_ts (e : Ev) (i : Option Nat) : (c.note e i).ts = c.ts := (congrArg Chip.ts (c.note_calm e i) :)
@[simp] theorem Chip.note_po (e : Ev) (i : Option Nat) : (c.note e i).po = c.po := (congrArg Chip.po (c.note_calm e i) :)
@[simp] theorem Chip.note_sg (e : Ev) (i : Option Nat) : (c.note e i).sg = c.sg := (congrArg Chip.sg (c.note_calm e i) :)
@[simp] theorem Chip.note_gt (e : Ev) (i : Option Nat) : (c.note e i).gt = c.gt := (congrArg Chip.gt (c.note_calm e i) :)
@[simp] theorem Chip.note_gd (e : Ev) (i : Option Nat) : (c.note e i).gd = c.gd := (congrArg Chip.gd (c.note_calm e i) :)
@[simp] theorem Chip.note_fw (e : Ev) (i : Option Nat) : (c.note e i).fw = c.fw := (congrArg Chip.fw (c.note_calm e i) :)
@[simp] theorem Chip.note_hg (e : Ev) (i : Option Nat) : (c.note e i).hg = c.hg := (congrArg Chip.hg (c.note_calm e i) :)
@[simp] theorem Chip.note_cp (e : Ev) (i : Option Nat) : (c.note e i).cp = c.cp := (congrArg Chip.cp (c.note_calm e i) :)
@[simp] theorem Chip.note_pw (e : Ev) (i : Option Nat) : (c.note e i).pw = c.pw := (congrArg Chip.pw (c.note_calm e i) :)
@[simp] theorem Chip.note_inReset (e : Ev) (i : Option Nat) : (c.note e i).inReset = c.inReset := (congrArg Chip.inReset (c.note_calm e i) :)
@[simp] theorem Chip.note_powerOnDue (e : Ev) (i : Option Nat) : (c.note e i).powerOnDue = c.powerOnDue := (congrArg Chip.powerOnDue (c.note_calm e i) :)

@[simp] theorem Chip.record_id (n : Nat) (r : Rep) : (c.record n r).id = c.id := (congrArg Chip.id (c.record_calm n r) :)
@[simp] theorem Chip.record_shadows (n : Nat) (r : Rep) : (c.record n r).shadows = c.shadows := (congrArg Chip.shadows (c.record_calm n r) :)
@[simp] theorem Chip.record_held (n : Nat) (r : Rep) : (c.record n r).held = c.held := (congrArg Chip.held (c.record_calm n r) :)
@[simp] theorem Chip.record_tk (n : Nat) (r : Rep) : (c.record n r).tk = c.tk := (congrArg Chip.tk (c.record_calm n r) :)
@[simp] theorem Chip.record_tb (n : Nat) (r : Rep) : (c.record n r).tb = c.tb := (congrArg Chip.tb (c.record_calm n r) :)
@[simp] theorem Chip.record_sv (n : Nat) (r : Rep) : (c.record n r).sv = c.sv := (congrArg Chip.sv (c.record_calm n r) :)
@[simp] theorem Chip.record_rf (n : Nat) (r : Rep) : (c.record n r).rf = c.rf := (congrArg Chip.rf (c.record_calm n r) :)
@[simp] theorem Chip.record_gr (n : Nat) (r : Rep) : (c.record n r).gr = c.gr := (congrArg Chip.gr (c.record_calm n r) :)
@[simp] theorem Chip.record_sq (n : Nat) (r : Rep) : (c.record n r).sq = c.sq := (congrArg Chip.sq (c.record_calm n r) :)
@[simp] theorem Chip.record_rt (n : Nat) (r : Rep) : (c.record n r).rt = c.rt := (congrArg Chip.rt (c.record_calm n r) :)
@[simp] theorem Chip.record_ts (n : Nat) (r : Rep) : (c.record n r).ts = c.ts := (congrArg Chip.ts (c.record_calm n r) :)
@[simp] theorem Chip.record_po (n : Nat) (r : Rep) : (c.record n r).po = c.po := (congrArg Chip.po (c.record_calm n r) :)
@[simp] theorem Chip.record_sg (n : Nat) (r : Rep) : (c.record n r).sg = c.sg := (congrArg Chip.sg (c.record_calm n r) :)
@[simp] theorem Chip.record_gt (n : Nat) (r : Rep) : (c.record n r).gt = c.gt := (congrArg Chip.gt (c.record_calm n r) :)
@[simp] theorem Chip.record_gd (n : Nat) (r : Rep) : (c.record n r).gd = c.gd := (congrArg Chip.gd (c.record_calm n r) :)
@[simp] theorem Chip.record_fw (n : Nat) (r : Rep) : (c.record n r).fw = c.fw := (congrArg Chip.fw (c.record_calm n r) :)
@[simp] theorem Chip.record_hg (n : Nat) (r : Rep) : (c.record n r).hg = c.hg := (congrArg Chip.hg (c.record_calm n r) :)
@[simp] theorem Chip.record_cp (n : Nat) (r : Rep) : (c.record n r).cp = c.cp := (congrArg Chip.cp (c.record_calm n r) :)
@[simp] theorem Chip.record_pw (n : Nat) (r : Rep) : (c.record n r).pw = c.pw := (congrArg Chip.pw (c.record_calm n r) :)
@[simp] theorem Chip.record_inReset (n : Nat) (r : Rep) : (c.record n r).inReset = c.inReset := (congrArg Chip.inReset (c.record_calm n r) :)
@[simp] theorem Chip.record_powerOnDue (n : Nat) (r : Rep) : (c.record n r).powerOnDue = c.powerOnDue := (congrArg Chip.powerOnDue (c.record_calm n r) :)

@[simp] theorem Chip.report_id (e : Ev) (r : Rep) : (c.report e r).id = c.id := (congrArg Chip.id (c.report_calm e r) :)
@[simp] theorem Chip.report_shadows (e : Ev) (r : Rep) : (c.report e r).shadows = c.shadows := (congrArg Chip.shadows (c.report_calm e r) :)
@[simp] theorem Chip.report_held (e : Ev) (r : Rep) : (c.report e r).held = c.held := (congrArg Chip.held (c.report_calm e r) :)
@[simp] theorem Chip.report_tk (e : Ev) (r : Rep) : (c.report e r).tk = c.tk := (congrArg Chip.tk (c.report_calm e r) :)
@[simp] theorem Chip.report_tb (e : Ev) (r : Rep) : (c.report e r).tb = c.tb := (congrArg Chip.tb (c.report_calm e r) :)
@[simp] theorem Chip.report_sv (e : Ev) (r : Rep) : (c.report e r).sv = c.sv := (congrArg Chip.sv (c.report_calm e r) :)
@[simp] theorem Chip.report_rf (e : Ev) (r : Rep) : (c.report e r).rf = c.rf := (congrArg Chip.rf (c.report_calm e r) :)
@[simp] theorem Chip.report_gr (e : Ev) (r : Rep) : (c.report e r).gr = c.gr := (congrArg Chip.gr (c.report_calm e r) :)
@[simp] theorem Chip.report_sq (e : Ev) (r : Rep) : (c.report e r).sq = c.sq := (congrArg Chip.sq (c.report_calm e r) :)
@[simp] theorem Chip.report_rt (e : Ev) (r : Rep) : (c.report e r).rt = c.rt := (congrArg Chip.rt (c.report_calm e r) :)
@[simp] theorem Chip.report_ts (e : Ev) (r : Rep) : (c.report e r).ts = c.ts := (congrArg Chip.ts (c.report_calm e r) :)
@[simp] theorem Chip.report_po (e : Ev) (r : Rep) : (c.report e r).po = c.po := (congrArg Chip.po (c.report_calm e r) :)
@[simp] theorem Chip.report_sg (e : Ev) (r : Rep) : (c.report e r).sg = c.sg := (congrArg Chip.sg (c.report_calm e r) :)
@[simp] theorem Chip.report_gt (e : Ev) (r : Rep) : (c.report e r).gt = c.gt := (congrArg Chip.gt (c.report_calm e r) :)
@[simp] theorem Chip.report_gd (e : Ev) (r : Rep) : (c.report e r).gd = c.gd := (congrArg Chip.gd (c.report_calm e r) :)
@[simp] theorem Chip.report_fw (e : Ev) (r : Rep) : (c.report e r).fw = c.fw := (congrArg Chip.fw (c.report_calm e r) :)
@[simp] theorem Chip.report_hg (e : Ev) (r : Rep) : (c.report e r).hg = c.hg := (congrArg Chip.hg (c.report_calm e r) :)
@[simp] theorem Chip.report_cp (e : Ev) (r : Rep) : (c.report e r).cp = c.cp := (congrArg Chip.cp (c.report_calm e r) :)
@[simp] theorem Chip.report_pw (e : Ev) (r : Rep) : (c.report e r).pw = c.pw := (congrArg Chip.pw (c.report_calm e r) :)
@[simp] theorem Chip.report_inReset (e : Ev) (r : Rep) : (c.report e r).inReset = c.inReset := (congrArg Chip.inReset (c.report_calm e r) :)
@[simp] theorem Chip.report_powerOnDue (e : Ev) (r : Rep) : (c.report e r).powerOnDue = c.powerOnDue := (congrArg Chip.powerOnDue (c.report_calm e r) :)

@[simp] theorem Chip.sample_id (a i : Nat) (v : Int) : (c.sample a i v).id = c.id := (congrArg Chip.id (c.sample_calm a i v) :)
@[simp] theorem Chip.sample_shadows (a i : Nat) (v : Int) : (c.sample a i v).shadows = c.shadows := (congrArg Chip.shadows (c.sample_calm a i v) :)
@[simp] theorem Chip.sample_held (a i : Nat) (v : Int) : (c.sample a i v).held = c.held := (congrArg Chip.held (c.sample_calm a i v) :)
@[simp] theorem Chip.sample_tk (a i : Nat) (v : Int) : (c.sample a i v).tk = c.tk := (congrArg Chip.tk (c.sample_calm a i v) :)
@[simp] theorem Chip.sample_tb (a i : Nat) (v : Int) : (c.sample a i v).tb = c.tb := (congrArg Chip.tb (c.sample_calm a i v) :)
@[simp] theorem Chip.sample_sv (a i : Nat) (v : Int) : (c.sample a i v).sv = c.sv := (congrArg Chip.sv (c.sample_calm a i v) :)
@[simp] theorem Chip.sample_rf (a i : Nat) (v : Int) : (c.sample a i v).rf = c.rf := (congrArg Chip.rf (c.sample_calm a i v) :)
@[simp] theorem Chip.sample_gr (a i : Nat) (v : Int) : (c.sample a i v).gr = c.gr := (congrArg Chip.gr (c.sample_calm a i v) :)
@[simp] theorem Chip.sample_sq (a i : Nat) (v : Int) : (c.sample a i v).sq = c.sq := (congrArg Chip.sq (c.sample_calm a i v) :)
@[simp] theorem Chip.sample_rt (a i : Nat) (v : Int) : (c.sample a i v).rt = c.rt := (congrArg Chip.rt (c.sample_calm a i v) :)
@[simp] theorem Chip.sample_ts (a i : Nat) (v : Int) : (c.sample a i v).ts = c.ts := (congrArg Chip.ts (c.sample_calm a i v) :)
@[simp] theorem Chip.sample_po (a i : Nat) (v : Int) : (c.sample a i v).po = c.po := (congrArg Chip.po (c.sample_calm a i v) :)
@[simp] theorem Chip.sample_sg (a i : Nat) (v : Int) : (c.sample a i v).sg = c.sg := (congrArg Chip.sg (c.sample_calm a i v) :)
@[simp] theorem Chip.sample_gt (a i : Nat) (v : Int) : (c.sample a i v).gt = c.gt := (congrArg Chip.gt (c.sample_calm a i v) :)
@[simp] theorem Chip.sample_gd (a i : Nat) (v : Int) : (c.sample a i v).gd = c.gd := (congrArg Chip.gd (c.sample_calm a i v) :)
@[simp] theorem Chip.sample_fw (a i : Nat) (v : Int) : (c.sample a i v).fw = c.fw := (congrArg Chip.fw (c.sample_calm a i v) :)
@[simp] theorem Chip.sample_hg (a i : Nat) (v : Int) : (c.sample a i v).hg = c.hg := (congrArg Chip.hg (c.sample_calm a i v) :)
@[simp] theorem Chip.sample_cp (a i : Nat) (v : Int) : (c.sample a i v).cp = c.cp := (congrArg Chip.cp (c.sample_calm a i v) :)
@[simp] theorem Chip.sample_pw (a i : Nat) (v : Int) : (c.sample a i v).pw = c.pw := (congrArg Chip.pw (c.sample_calm a i v) :)
@[simp] theorem Chip.sample_inReset (a i : Nat) (v : Int) : (c.sample a i v).inReset = c.inReset := (congrArg Chip.inReset (c.sample_calm a i v) :)
@[simp] theorem Chip.sample_powerOnDue (a i : Nat) (v : Int) : (c.sample a i v).powerOnDue = c.powerOnDue := (congrArg Chip.powerOnDue (c.sample_calm a i v) :)

@[simp] theorem Chip.sendCells_id (p cls : Nat) (l : List Cell) : (c.sendCells p cls l).id = c.id := (congrArg Chip.id (c.sendCells_calm p cls l) :)
@[simp] theorem Chip.sendCells_shadows (p cls : Nat) (l : List Cell) : (c.sendCells p cls l).shadows = c.shadows := (congrArg Chip.shadows (c.sendCells_calm p cls l) :)
@[simp] theorem Chip.sendCells_held (p cls : Nat) (l : List Cell) : (c.sendCells p cls l).held = c.held := (congrArg Chip.held (c.sendCells_calm p cls l) :)
@[simp] theorem Chip.sendCells_tk (p cls : Nat) (l : List Cell) : (c.sendCells p cls l).tk = c.tk := (congrArg Chip.tk (c.sendCells_calm p cls l) :)
@[simp] theorem Chip.sendCells_tb (p cls : Nat) (l : List Cell) : (c.sendCells p cls l).tb = c.tb := (congrArg Chip.tb (c.sendCells_calm p cls l) :)
@[simp] theorem Chip.sendCells_sv (p cls : Nat) (l : List Cell) : (c.sendCells p cls l).sv = c.sv := (congrArg Chip.sv (c.sendCells_calm p cls l) :)
@[simp] theorem Chip.sendCells_rf (p cls : Nat) (l : List Cell) : (c.sendCells p cls l).rf = c.rf := (congrArg Chip.rf (c.sendCells_calm p cls l) :)
@[simp] theorem Chip.sendCells_gr (p cls : Nat) (l : List Cell) : (c.sendCells p cls l).gr = c.gr := (congrArg Chip.gr (c.sendCells_calm p cls l) :)
@[simp] theorem Chip.sendCells_sq (p cls : Nat) (l : List Cell) : (c.sendCells p cls l).sq = c.sq := (congrArg Chip.sq (c.sendCells_calm p cls l) :)
@[simp] theorem Chip.sendCells_rt (p cls : Nat) (l : List Cell) : (c.sendCells p cls l).rt = c.rt := (congrArg Chip.rt (c.sendCells_calm p cls l) :)
@[simp] theorem Chip.sendCells_ts (p cls : Nat) (l : List Cell) : (c.sendCells p cls l).ts = c.ts := (congrArg Chip.ts (c.sendCells_calm p cls l) :)
@[simp] theorem Chip.sendCells_po (p cls : Nat) (l : List Cell) : (c.sendCells p cls l).po = c.po := (congrArg Chip.po (c.sendCells_calm p cls l) :)
@[simp] theorem Chip.sendCells_sg (p cls : Nat) (l : List Cell) : (c.sendCells p cls l).sg = c.sg := (congrArg Chip.sg (c.sendCells_calm p cls l) :)
@[simp] theorem Chip.sendCells_gt (p cls : Nat) (l : List Cell) : (c.sendCells p cls l).gt = c.gt := (congrArg Chip.gt (c.sendCells_calm p cls l) :)
@[simp] theorem Chip.sendCells_gd (p cls : Nat) (l : List Cell) : (c.sendCells p cls l).gd = c.gd := (congrArg Chip.gd (c.sendCells_calm p cls l) :)
@[simp] theorem Chip.sendCells_fw (p cls : Nat) (l : List Cell) : (c.sendCells p cls l).fw = c.fw := (congrArg Chip.fw (c.sendCells_calm p cls l) :)
@[simp] theorem Chip.sendCells_hg (p cls : Nat) (l : List Cell) : (c.sendCells p cls l).hg = c.hg := (congrArg Chip.hg (c.sendCells_calm p cls l) :)
@[simp] theorem Chip.sendCells_cp (p cls : Nat) (l : List Cell) : (c.sendCells p cls l).cp = c.cp := (congrArg Chip.cp (c.sendCells_calm p cls l) :)
@[simp] theorem Chip.sendCells_pw (p cls : Nat) (l : List Cell) : (c.sendCells p cls l).pw = c.pw := (congrArg Chip.pw (c.sendCells_calm p cls l) :)
@[simp] theorem Chip.sendCells_inReset (p cls : Nat) (l : List Cell) : (c.sendCells p cls l).inReset = c.inReset := (congrArg Chip.inReset (c.sendCells_calm p cls l) :)
@[simp] theorem Chip.sendCells_powerOnDue (p cls : Nat) (l : List Cell) : (c.sendCells p cls l).powerOnDue = c.powerOnDue := (congrArg Chip.powerOnDue (c.sendCells_calm p cls l) :)

/-! ### The rest of the tree engine and of the ports -/

/-- A report changes nothing of the tree engine but the ports on which a notice waits. -/
theorem Chip.report_tr (e : Ev) (r : Rep) :
    (c.report e r).tr = { c.tr with inoteWait := (c.report e r).tr.inoteWait } := by
  have h : ({ (c.report e r).tr with inoteWait := [] } : TrState) = { c.tr with inoteWait := [] } :=
    (congrArg Chip.tr (c.report_calm e r) :)
  exact (congrArg (fun x : TrState => { x with inoteWait := (c.report e r).tr.inoteWait }) h :)

theorem Chip.lane_modQ (p q : Nat) (f : PortQueues → PortQueues) : (c.modQ p f).lane q = c.lane q := by
  by_cases h : q = p
  · subst h; simp [Chip.lane, Chip.modQ]
  · simp [Chip.lane, Chip.modQ, Chip.port_modPort_ne c h]

@[simp] theorem Chip.sendCells_lane (p cls : Nat) (l : List Cell) (q : Nat) :
    (c.sendCells p cls l).lane q = c.lane q := by
  unfold Chip.sendCells
  split
  · exact Chip.lane_modQ c p q _
  · rfl

@[simp] theorem Chip.count_lane (n : Nat) (i : Option Nat) (k q : Nat) : (c.count n i k).lane q = c.lane q := by
  unfold Chip.count; split <;> rfl

@[simp] theorem Chip.pinEdges_lane (s r f q : Nat) : (c.pinEdges s r f).lane q = c.lane q := by
  unfold Chip.pinEdges; split <;> rfl

@[simp] theorem Chip.setReg_lane (r : RegRow) (w : Word) (i j b q : Nat) : (c.setReg r w i j b).lane q = c.lane q :=
  rfl

@[simp] theorem Chip.irqEdges_lane (b : Chip) (q : Nat) : (c.irqEdges b).lane q = c.lane q := by
  unfold Chip.irqEdges
  apply foldl_keeps (Chip.lane · q)
  intro x n
  split
  · split <;> simp
  · rfl

@[simp] theorem Chip.inoteOn_lane (p q : Nat) : (c.inoteOn p).lane q = c.lane q := by
  unfold Chip.inoteOn
  split
  · simp
  · split <;> rfl

@[simp] theorem Chip.inoteRaise_lane (p : Nat) (b : Word) (q : Nat) : (c.inoteRaise p b).lane q = c.lane q := by
  unfold Chip.inoteRaise
  split
  · exact foldl_keeps (Chip.lane · q) _ _ _ (fun x n => Chip.inoteOn_lane x n q)
  · rfl

@[simp] theorem Chip.flag_lane (p b : Nat) (i : Option Nat) (q : Nat) : (c.flag p b i).lane q = c.lane q := by
  unfold Chip.flag
  dsimp only
  split
  · rfl
  · split <;> simp

@[simp] theorem Chip.note_lane (e : Ev) (i : Option Nat) (q : Nat) : (c.note e i).lane q = c.lane q := by
  simp [Chip.note]

@[simp] theorem Chip.param_lane (p : Option Word) (q : Nat) : (c.param p).2.lane q = c.lane q := by
  unfold Chip.param; split <;> rfl

@[simp] theorem Chip.enqueueRec_lane (r : RawRec) (q : Nat) : (c.enqueueRec r).lane q = c.lane q := by
  unfold Chip.enqueueRec
  split
  · rfl
  · simp only [Chip.flag_lane, Chip.count_lane]; rfl

@[simp] theorem Chip.record_lane (n : Nat) (r : Rep) (q : Nat) : (c.record n r).lane q = c.lane q := by
  simp [Chip.record]

/-- A report changes nothing of a port but its queues. -/
@[simp] theorem Chip.report_lane (e : Ev) (r : Rep) (q : Nat) : (c.report e r).lane q = c.lane q := by
  unfold Chip.report
  dsimp only
  split <;> simp

end Sys2Proof.Machine
end

