-- ==== Sys2Proof/Tests/Slice0.lean ====
section
/-!
SUPPORT. Tests/Slice0.lean: witnesses for the premises of the statements, ill-formed commands that the
check refuses, and small steps whose results the spec gives.
-/

namespace Sys2Proof.Tests

open Sys2Proof.Machine

set_option maxRecDepth 20000
set_option linter.unusedVariables false

/-- A die and a hub right after reset, changed by `f`. -/
def stOf (f : Chip → Chip) : State := { chip := f Chip.reset, pending := [] }
def hubOf (f : Chip → Chip) : State :=
  { chip := f { Chip.reset with id := { Ident.reset with hub := true, strapHub := true } }, pending := [] }

def bCell : Cell := ((PortLink.reset).seal (mkCell clsB 0x20 0 []) 0)
def lane0 : LaneCfg := { op := .sum, fmt := .fp32 }

/-! ### Witnesses: the premises of every statement are met together -/

theorem wit_QueueStep : ∃ (s : State) (i : Instr) (rest : List Instr), s.pending = i :: rest := ⟨{ State.reset with pending := [.rootTimerExpiry] }, _, _, rfl⟩

theorem wit_FreeRunningCount : ∃ s : State, s.pending = [] ∧ s.chip.tk.tclk = true ∧ s.chip.tk.frc % 1024 ≠ 1023 ∧ s.chip.sv.stepFrom = none := ⟨State.reset, by decide⟩

theorem wit_FreeRunningCount1 : ∃ s : State, s.pending = [] ∧ s.chip.tk.tclk = false := ⟨stOf fun c => { c with tk := { c.tk with tclk := false } }, by decide⟩

theorem wit_FreeRunningCount2 : ∃ (s t : State) (i : Instr), exec i s = .next t ∧ (∀ f, i ≠ .anchorBoundary f) ∧ (∀ b, i ≠ .railGood .vddAon b) ∧ i ≠ .railFail .vddAon := ⟨State.reset, State.reset, .levelSat, rfl, by simp, by simp, by simp⟩

theorem wit_FreeRunningCount3 : ∃ s : State, s.chip.pw.aon = false := ⟨stOf fun c => { c with pw := { c.pw with aon := false } }, by decide⟩

theorem wit_PageLock_1 : ∃ (s : State) (m : Master) (page : Page),
    (s.chip.opens m page.val = true) ∧ (pageLockable page.val = true) :=
  ⟨State.reset, .firmware, 8, by decide⟩

theorem wit_PageLock_2 : ∃ (s : State) (page : Page) (w : Word),
    (s.chip.opens .host page.val = true) ∧ (pageLockable page.val = true) ∧ (Word.field w 16 16 = 0xA55A) :=
  ⟨stOf fun c => c.setReg (lockRow 8) 1, 8, 0xA55A0000, by decide⟩

theorem wit_PageLock_3 : ∃ (s : State) (m : Master) (page : Page) (w : Word),
    (s.chip.opens m page.val = true) ∧ (pageLockable page.val = true) ∧ (s.chip.locked page.val = true) ∧ (m ≠ .host ∨ Word.field w 16 16 ≠ 0xA55A) :=
  ⟨stOf fun c => c.setReg (lockRow 8) 1, .firmware, 8, 0xA55A0000, by decide⟩

theorem wit_ChannelSelect_1 : ∃ (s : State) (m : Master) (page : Page) (w : Word),
    (s.chip.opens m page.val = true) ∧ (Word.field w 0 16 < s.chip.pageInst page.val) :=
  ⟨State.reset, .remoteA, 2, 3, by decide⟩

theorem wit_ChannelSelect_2 : ∃ (s : State) (m : Master) (page : Page) (w : Word),
    (s.chip.opens m page.val = true) ∧ (s.chip.pageInst page.val ≤ Word.field w 0 16) :=
  ⟨State.reset, .host, 2, 4, by decide⟩

theorem wit_ChannelSelect_3 : ∃ (s : State) (m m' : Master) (page p' : Page) (w : Word),
    (s.chip.opens m page.val = true) ∧ (s.chip.chanOf m' p'.val < s.chip.pageInst p'.val) :=
  ⟨State.reset, .host, .remoteA, 2, 2, 4, by decide⟩

theorem wit_SoftResetHold_1 : ∃ (s : State) (m : Master) (page : Page),
    (s.chip.opens m page.val = true) ∧ (pageSrstOk page.val = true) ∧ (s.chip.locked page.val = false) :=
  ⟨State.reset, .host, 2, by decide⟩

theorem wit_SoftResetHold_2 : ∃ (s : State) (m : Master) (page : Page),
    (s.chip.opens m page.val = true) ∧ (pageSrstOk page.val = false ∨ s.chip.locked page.val = true) :=
  ⟨State.reset, .host, 1, by decide⟩

theorem wit_SoftResetHold_3 : ∃ (s : State) (m : Master) (a : BitVec 18) (w : Word),
    (s.chip.inReset = false) ∧ ((m.isRemote && s.chip.id.hub) = false) ∧ ((m == .host && s.chip.pw.hostLow) = false) ∧ (SMap.has s.chip.held (addrPage a.toNat) = true) :=
  ⟨stOf fun c => { c with held := [(2, [])] }, .host, 0x02400, 1, by decide⟩

theorem wit_SoftResetHold_4 : ∃ (s : State) (page : Page),
    (s.chip.inReset = false) ∧ (SMap.find s.chip.held page.val [] = []) :=
  ⟨stOf fun c => { c with held := [(2, [])] }, 2, by decide⟩

theorem wit_SoftResetHold_5 : ∃ (s : State) (page : Page),
    (s.chip.inReset = false) :=
  ⟨stOf fun c => { c with held := [(2, [{ master := .host, addr := 0x02400, data := some 1, req := none }])] }, 2, by decide⟩

theorem wit_SoftResetHold_6 : ∃ (s : State) (m : Master) (r : RegRow) (w : Word),
    (s.chip.inReset = false) ∧ (r ∈ [Reg.SQ_TCOURSE, Reg.SQ_CFG]) ∧ (s.chip.locked 0x10 = false) ∧ (SMap.find s.chip.held 0x10 [] = [{ master := m, addr := r.addr, data := some w, req := none }]) ∧ (s.chip.id.hub = false) ∧ (SMap.has (SMap.erase s.chip.held 0x10) 0x10 = false) :=
  ⟨stOf fun c => { c with held := [(0x10, [{ master := .firmware, addr := Reg.SQ_TCOURSE.addr, data := some 77, req := none }])] }, .firmware, Reg.SQ_TCOURSE, 77, by decide⟩

theorem wit_PlainRegisterWrite_1 : ∃ (s : State) (m : Master) (r : RegRow) (a : BitVec 18) (w : Word),
    (r ∈ [Reg.TK_RATE_LO, Reg.TK_STEP0, Reg.TK_STEP1, Reg.SQM_WLO, Reg.MN_SNAPT_FRAC, Reg.MN_SNAPT_NSLO, Reg.MN_SNAPT_NSHI, Reg.MN_CSEL, Reg.MN_PSEL, Reg.EV_SEVQ]) ∧ (a.toNat = r.addr) ∧ (s.chip.opens m r.page = true) ∧ (s.chip.locked r.page = false) :=
  ⟨State.reset, .remoteB, Reg.TK_STEP0, 0x01090, 5, by decide⟩

theorem wit_RegisterAccess_1 : ∃ (s : State) (m : Master) (a : BitVec 18) (w : Word),
    (s.chip.inReset = false) ∧ ((m.isRemote && s.chip.id.hub) = false) ∧ ((m == .host && s.chip.pw.hostLow) = false) ∧ (SMap.has s.chip.held (addrPage a.toNat) = false) ∧ (pagePresent s.chip.id.hub (addrPage a.toNat) = false) :=
  ⟨State.reset, .host, 0x3F000, 1, by decide⟩

theorem wit_RegisterAccess_2 : ∃ (s : State) (m : Master) (a : BitVec 18) (w : Word),
    (s.chip.opens m (addrPage a.toNat) = true) ∧ (headerOff (addrOff a.toNat) = false) ∧ (pageRow s.chip.id.hub (addrPage a.toNat) (addrOff a.toNat) = none) :=
  ⟨State.reset, .host, 0x01FFC, 1, by decide⟩

theorem wit_RegisterAccess_3 : ∃ (s : State) (m : Master) (a : BitVec 18) (w : Word) (r : RegRow) (i : Nat),
    (s.chip.opens m (addrPage a.toNat) = true) ∧ (headerOff (addrOff a.toNat) = false) ∧ (pageRow s.chip.id.hub (addrPage a.toNat) (addrOff a.toNat) = some (r, i)) ∧ (r.acc ∉ [.ro, .rc, .rs]) ∧ (s.chip.mayWrite m r = false) :=
  ⟨State.reset, .host, 0x1C058, 1, Reg.GD_WDKICK, 0, by decide⟩

theorem wit_RegisterAccess_4 : ∃ (s : State) (m : Master) (a : BitVec 18) (w : Word) (r : RegRow) (i : Nat),
    (s.chip.opens m (addrPage a.toNat) = true) ∧ (headerOff (addrOff a.toNat) = false) ∧ (pageRow s.chip.id.hub (addrPage a.toNat) (addrOff a.toNat) = some (r, i)) ∧ (r.acc ∉ [.ro, .rc, .rs]) ∧ (s.chip.mayWrite m r = true) ∧ (s.chip.locked r.page = true) ∧ (r.rwl ≠ 0) ∧ (r.take &&& ~~~r.rwl = 0) ∧ ((s.chip.fitWord r (s.chip.rowIdx m r) w ^^^ s.chip.regOf m r (s.chip.rowIdx m r) i) &&& r.rwl ≠ 0) :=
  ⟨stOf fun c => c.setReg (lockRow 0x1D) 1, .host, 0x1D044, 77, Reg.HG_SQWD, 0, by decide⟩

theorem wit_RegisterAccess_5 : ∃ (s : State) (m : Master) (a : BitVec 18) (w : Word) (r : RegRow) (i : Nat),
    (s.chip.opens m (addrPage a.toNat) = true) ∧ (headerOff (addrOff a.toNat) = false) ∧ (pageRow s.chip.id.hub (addrPage a.toNat) (addrOff a.toNat) = some (r, i)) ∧ (r.acc ∉ [.ro, .rc, .rs]) ∧ (s.chip.mayWrite m r = true) ∧ (s.chip.locked r.page = true) ∧ (r.rwl ≠ 0) ∧ (r.take &&& ~~~r.rwl = 0) ∧ ((s.chip.fitWord r (s.chip.rowIdx m r) w ^^^ s.chip.regOf m r (s.chip.rowIdx m r) i) &&& r.rwl = 0) :=
  ⟨stOf fun c => c.setReg (lockRow 0x1D) 1, .host, 0x1D044, 0x3E8, Reg.HG_SQWD, 0, by decide⟩

theorem wit_RegisterAccess_6 : ∃ (s : State) (m : Master) (r : RegRow) (a : BitVec 18) (w : Word),
    (r ∈ [Reg.PW_TEMPLIM, Reg.HG_SQWD, Reg.HG_SUSWIN, Reg.HG_WAITTMO, Reg.HG_RSTCFG, Reg.HG_ACT]) ∧ (a.toNat = r.addr) ∧ (s.chip.opens m r.page = true) ∧ (s.chip.locked r.page = false) ∧ (s.chip.mayWrite m r = true) :=
  ⟨State.reset, .firmware, Reg.HG_SQWD, 0x1D044, 77, by decide⟩

theorem wit_RegisterAccess_7 : ∃ (s : State) (m : Master) (page : Page) (a : BitVec 18) (w : Word),
    (a.toNat = page.val * 4096 + 0x010) ∧ (s.chip.opens m page.val = true) ∧ (mayClear m page.val = true) :=
  ⟨stOf fun c => c.setReg (histRow 8) 0xF, .host, 8, 0x08010, 5, by decide⟩

theorem wit_RegisterAccess_8 : ∃ (s : State) (m : Master) (page : Page) (a : BitVec 18) (w : Word),
    (a.toNat = page.val * 4096 + 0x014) ∧ (s.chip.opens m page.val = true) ∧ (mayClear m page.val = true) :=
  ⟨State.reset, .host, 8, 0x08014, 5, by decide⟩

theorem wit_RegisterAccess_9 : ∃ (s : State) (p : Port) (x : Cell) (r : RegRow) (i : Nat),
    (s.chip.id.hub = false) ∧ (s.chip.inReset = false) ∧ (p.val < 2) ∧ (s.chip.headM p.val 0x40 = some x) ∧ (Word.field (x.pay 2) 28 4 = 1) ∧ (s.chip.held = []) ∧ (pagePresent false (addrPage (Word.field (x.pay 3) 0 18)) = true) ∧ (headerOff (addrOff (Word.field (x.pay 3) 0 18)) = false) ∧ (pageRow false (addrPage (Word.field (x.pay 3) 0 18)) (addrOff (Word.field (x.pay 3) 0 18)) = some (r, i)) ∧ (r.acc = .rc) ∧ (s.chip.viewOf (if p.val = 1 then Master.remoteB else Master.remoteA) r i ((s.chip.fresh.popRx p.val clsM 1).rowIdx (if p.val = 1 then Master.remoteB else Master.remoteA) r) = none) :=
  ⟨stOf fun c => c.modPort 0 fun x => { x with mode := .up, q := { x.q with rxM := [mkCell clsM 0x40 0 [0x10000001, 0x08450, 0, 0]] } }, 0, mkCell clsM 0x40 0 [0x10000001, 0x08450, 0, 0], Reg.LN_CNT_CELLERR, 0, by decide⟩

theorem wit_RegisterAccess_10 : ∃ (s : State) (p : Port) (x : Cell) (r : RegRow) (i : Nat),
    (s.chip.id.hub = false) ∧ (s.chip.inReset = false) ∧ (p.val < 2) ∧ (s.chip.headM p.val 0x40 = some x) ∧ (Word.field (x.pay 2) 28 4 = 1) ∧ (s.chip.held = []) ∧ (pagePresent false (addrPage (Word.field (x.pay 3) 0 18)) = true) ∧ (headerOff (addrOff (Word.field (x.pay 3) 0 18)) = false) ∧ (pageRow false (addrPage (Word.field (x.pay 3) 0 18)) (addrOff (Word.field (x.pay 3) 0 18)) = some (r, i)) ∧ (r.acc = .rs) :=
  ⟨stOf fun c => c.modPort 0 fun x => { x with mode := .up, q := { x.q with rxM := [mkCell clsM 0x40 0 [0x10000001, 0x01068, 0, 0]] } }, 0, mkCell clsM 0x40 0 [0x10000001, 0x01068, 0, 0], Reg.TK_RATEA_LO, 0, by decide⟩

theorem wit_RateStaging_1 : ∃ (s : State) (m : Master) (w : Word),
    (s.chip.opens m 0x01 = true) ∧ (rateOutside (w.toNat * 2 ^ 32 + (s.chip.regOf m Reg.TK_RATE_LO).toNat) (Word.field (s.chip.reg Reg.GD_RATEWIN) 0 20) = false) ∧ (s.chip.rateSlewed (w.toNat * 2 ^ 32 + (s.chip.regOf m Reg.TK_RATE_LO).toNat) = false) :=
  ⟨State.reset, .firmware, 0x00A00000, by decide⟩

theorem wit_RateStaging_2 : ∃ (s : State) (m : Master) (w : Word),
    (s.chip.opens m 0x01 = true) ∧ (rateOutside (w.toNat * 2 ^ 32 + (s.chip.regOf m Reg.TK_RATE_LO).toNat) (Word.field (s.chip.reg Reg.GD_RATEWIN) 0 20) = true ∨ s.chip.rateSlewed (w.toNat * 2 ^ 32 + (s.chip.regOf m Reg.TK_RATE_LO).toNat) = true) :=
  ⟨State.reset, .firmware, 0x00B00000, by decide⟩

theorem wit_StepArming_1 : ∃ (s : State) (m : Master) (w : Word),
    (s.chip.opens m 0x01 = true) ∧ (s.chip.tk.step = none) :=
  ⟨State.reset, .host, 0xFFFFFFFF, by decide⟩

theorem wit_StepArming_2 : ∃ (s : State) (m : Master) (w : Word),
    (s.chip.opens m 0x01 = true) ∧ (s.chip.tk.step.isSome = true) :=
  ⟨stOf fun c => { c with tk := { c.tk with step := some 5 } }, .host, 1, by decide⟩

theorem wit_AnchorBoundary_1 : ∃ (s : State) (l : List Tap),
    (s.chip.tk.tclk = true) ∧ (s.chip.tk.frc < 2 ^ 64 - 1024) ∧ (s.chip.tk.frcAnchor ≤ s.chip.tk.frc) ∧ (s.chip.tk.step = none) :=
  ⟨State.reset, [], by decide⟩

theorem wit_AnchorBoundary_2 : ∃ (s : State) (l : List Tap) (x : Int),
    (s.chip.tk.tclk = true) ∧ (s.chip.tk.frc < 2 ^ 64 - 1024) ∧ (s.chip.tk.frcAnchor ≤ s.chip.tk.frc) ∧ (s.chip.tk.step = some x) ∧ (0 ≤ (s.chip.tk.tAnchor + s.chip.tk.rate * ((s.chip.tk.frc / 1024 + 1) * 1024 - s.chip.tk.frcAnchor) : Nat) + x * 2 ^ 24) ∧ ((s.chip.tk.tAnchor + s.chip.tk.rate * ((s.chip.tk.frc / 1024 + 1) * 1024 - s.chip.tk.frcAnchor) : Nat) + x * 2 ^ 24 < 2 ^ 120) :=
  ⟨stOf fun c => { c with tk := { c.tk with step := some 4294967296 } }, [], 4294967296, by decide⟩

theorem wit_TimeReadLatch_1 : ∃ (s : State) (m : Master),
    (s.chip.opens m 0x01 = true) :=
  ⟨State.reset, .host, by decide⟩

theorem wit_TimeBases_1 : ∃ (s : State) (m : Master),
    (s.chip.opens m 0x02 = true) :=
  ⟨State.reset, .host, by decide⟩

theorem wit_TimeBases_2 : ∃ (s : State) (m : Master) (w : Word),
    (s.chip.opens m 0x02 = true) ∧ (s.chip.locked 0x02 = false) :=
  ⟨State.reset, .host, 7, by decide⟩

theorem wit_TimeBases_3 : ∃ (s : State) (m : Master) (w : Word),
    (s.chip.opens m 0x02 = true) ∧ (s.chip.locked 0x02 = false) :=
  ⟨State.reset, .host, 7, by decide⟩

theorem wit_GuardLimitsAndOverride_1 : ∃ (s : State) (m : Master) (k : GuardLimit) (w : Word),
    (s.chip.opens m 0x1C = true) ∧ (limitLoosens k (s.chip.reg (limitRow k)) (w &&& (limitRow k).take) = false) ∧ (s.chip.winTooTight k (w &&& (limitRow k).take) = false) :=
  ⟨State.reset, .firmware, .stepLim, 100, by decide⟩

theorem wit_GuardLimitsAndOverride_2 : ∃ (s : State) (m : Master) (k : GuardLimit) (w : Word),
    (s.chip.opens m 0x1C = true) ∧ (limitLoosens k (s.chip.reg (limitRow k)) (w &&& (limitRow k).take) = true) ∧ (m ≠ .host) :=
  ⟨State.reset, .firmware, .trigLim, 0x80000000, by decide⟩

theorem wit_GuardLimitsAndOverride_3 : ∃ (s : State) (m : Master) (k : GuardLimit) (w : Word),
    (s.chip.opens m 0x1C = true) ∧ (limitLoosens k (s.chip.reg (limitRow k)) (w &&& (limitRow k).take) = true) ∧ (m = .host) ∧ (s.chip.locked 0x1C = false) ∧ (limitBeyond k (w &&& (limitRow k).take) = false) ∧ (s.chip.winTooTight k (w &&& (limitRow k).take) = false) :=
  ⟨stOf fun c => c.setReg Reg.GD_RATESLEW 100, .host, .rateSlew, 200, by decide⟩

theorem wit_GuardLimitsAndOverride_4 : ∃ (s : State) (m : Master) (k : GuardLimit) (w : Word),
    (s.chip.opens m 0x1C = true) ∧ (limitLoosens k (s.chip.reg (limitRow k)) (w &&& (limitRow k).take) = true) ∧ (m = .host) ∧ (s.chip.locked 0x1C = true ∨ limitBeyond k (w &&& (limitRow k).take) = true) :=
  ⟨State.reset, .host, .trigLim, 0, by decide⟩

theorem wit_GuardLimitsAndOverride_5 : ∃ (s : State) (m : Master) (w : Word) (n : Nat),
    (s.chip.opens m 0x1C = true) ∧ (m = .host) ∧ (s.chip.ovrGood w = true) ∧ ((s.chip.ent (Word.field (s.chip.reg Reg.GD_OVRSEL) 0 12)).barrier = some n) :=
  ⟨hubOf fun c => { c with gr := { c.gr with entries := [(0, { GrEntry.reset with state := .active, mode := 0x90000000, decl := 1, barrier := some 0 })] } }, .host, 0x0B7A0000, 0, by decide⟩

theorem wit_GuardLimitsAndOverride_6 : ∃ (s : State) (m : Master) (w : Word),
    (s.chip.opens m 0x1C = true) ∧ (m ≠ .host ∨ s.chip.ovrGood w = false) :=
  ⟨State.reset, .firmware, 0, by decide⟩

theorem wit_GuardLimitsAndOverride_7 : ∃ (s : State) (a : BitVec 24),
    (s.chip.inReset = false) ∧ (s.chip.fw.running = true) ∧ (s.chip.id.norPresent = true) ∧ (guardOnly a.toNat = true) :=
  ⟨stOf fun c => { c with fw := { c.fw with running := true } }, 0x1234, by decide⟩

theorem wit_GuardLimitsAndOverride_8 : ∃ (s : State) (a : BitVec 24),
    (s.chip.inReset = false) ∧ (guardOnly a.toNat = false) :=
  ⟨State.reset, 0x081234, by decide⟩

theorem wit_ControllerWatchdog_1 : ∃ (s : State) (m : Master),
    (s.chip.opens m 0x1C = true) ∧ (m = .firmware) :=
  ⟨State.reset, .firmware, by decide⟩

theorem wit_ControllerWatchdog_2 : ∃ (s : State) (m : Master),
    (s.chip.opens m 0x1C = true) ∧ (m ≠ .firmware) :=
  ⟨State.reset, .host, by decide⟩

theorem wit_ControllerWatchdog_3 : ∃ (s : State) ,
    (s.chip.inReset = false) ∧ (s.chip.gd.wdRun = true) ∧ (s.chip.fw.trial = false) ∧ (satNat 8 (s.chip.gd.expiries + 1) < Word.field (s.chip.reg Reg.GD_WDCFG) 16 4) :=
  ⟨stOf fun c => { c with gd := { c.gd with wdRun := true } }, by decide⟩

theorem wit_ControllerWatchdog_4 : ∃ (s : State) ,
    (s.chip.inReset = false) ∧ (s.chip.gd.wdRun = true) ∧ (s.chip.fw.trial = false) ∧ (Word.field (s.chip.reg Reg.GD_WDCFG) 16 4 ≤ satNat 8 (s.chip.gd.expiries + 1)) :=
  ⟨stOf fun c => { c with gd := { c.gd with wdRun := true, expiries := 2 } }, by decide⟩

theorem wit_ControllerWatchdog_5 : ∃ (s : State) ,
    (s.chip.inReset = false) ∧ (s.chip.gd.wdRun = false) :=
  ⟨State.reset, by decide⟩

theorem wit_ControllerWatchdog_6 : ∃ (s : State) ,
    (s.chip.inReset = false) :=
  ⟨stOf fun c => { c with gd := { c.gd with expiries := 2 } }, by decide⟩

theorem wit_ControllerWatchdog_7 : ∃ (s : State) ,
    (s.chip.inReset = false) ∧ (s.chip.fw.running = true) :=
  ⟨stOf fun c => { c with fw := { c.fw with running := true } }, by decide⟩

theorem wit_ControllerWatchdog_8 : ∃ (s : State) ,
    (s.chip.inReset = false) ∧ (s.chip.fw.held = false) ∧ (s.chip.fw.hostHeld = false) ∧ (s.chip.fw.noImage = false) :=
  ⟨State.reset, by decide⟩

theorem wit_ControllerWatchdog_9 : ∃ (s : State) ,
    (s.chip.inReset = false) ∧ (s.chip.fw.held = true ∨ s.chip.fw.hostHeld = true ∨ s.chip.fw.noImage = true) :=
  ⟨stOf fun c => { c with fw := { c.fw with held := true } }, by decide⟩

theorem wit_ControllerImages_1 : ∃ (s : State) ,
    (s.chip.inReset = false) ∧ (s.chip.fw.phase = .want) :=
  ⟨stOf fun c => { c with fw := { c.fw with phase := .want } }, by decide⟩

theorem wit_ControllerImages_2 : ∃ (s : State) (ok : Bool),
    (s.chip.inReset = false) ∧ (s.chip.fw.phase = .load) ∧ (s.chip.fw.fromSram = false) ∧ (s.chip.fw.trial = false) ∧ (s.chip.fw.tried = []) ∧ (s.chip.id.norPresent = true) ∧ (s.chip.fw.spoiled = none) :=
  ⟨stOf fun c => { c with fw := { c.fw with phase := .load } }, true, by decide⟩

theorem wit_ControllerImages_3 : ∃ (s : State) (m : Master) (w : Word),
    (s.chip.opens m 0x25 = true) ∧ (s.chip.id.norPresent = true) :=
  ⟨State.reset, .host, 0x80000000, by decide⟩

theorem wit_ControllerImages_4 : ∃ (s : State) (a : Nat),
    (s.chip.inReset = false) ∧ (s.chip.fw.erasing = true) ∧ (s.chip.fw.eraseB = s.chip.fw.inactive) :=
  ⟨stOf fun c => { c with fw := { c.fw with erasing := true, eraseB := true, nor := [(5, 1), (0x40001, 7)] } }, 0x40001, by decide⟩

theorem wit_ControllerImages_5 : ∃ (s : State) (m : Master) (w : Word),
    (s.chip.opens m 0x25 = true) ∧ (s.chip.id.norPresent = true) ∧ (s.chip.fw.erasing = false) ∧ (s.chip.fw.buffer.length + 4 ≤ 1024) :=
  ⟨State.reset, .host, 0x12345678, by decide⟩

theorem wit_ControllerImages_6 : ∃ (s : State) (m : Master) (w : Word),
    (s.chip.opens m 0x25 = true) ∧ (s.chip.id.norPresent = true) ∧ (s.chip.fw.erasing = true ∨ 1024 < s.chip.fw.buffer.length + 4) :=
  ⟨stOf fun c => { c with fw := { c.fw with erasing := true } }, .host, 0x12345678, by decide⟩

theorem wit_ControllerImages_7 : ∃ (s : State) (n : BitVec 11),
    (s.chip.inReset = false) ∧ (∀ p ∈ s.chip.fw.buffer.take n.toNat, s.chip.fw.mayProgram p.1 = true) :=
  ⟨stOf fun c => { c with fw := { c.fw with buffer := [(0x40000, 1)] } }, 3, by decide⟩

theorem wit_ControllerImages_8 : ∃ (s : State) (a : Nat) (b : BitVec 8) (r : List (Nat × BitVec 8)),
    (s.chip.inReset = false) ∧ (s.chip.fw.buffer = (a, b) :: r) ∧ (s.chip.fw.mayProgram a = true) :=
  ⟨stOf fun c => { c with fw := { c.fw with buffer := [(0x40000, 1)] } }, 0x40000, 1, [], by decide⟩

theorem wit_ControllerImages_9 : ∃ (s : State) (m : Master),
    (s.chip.opens m 0x25 = true) ∧ (s.chip.id.norPresent = true) ∧ (s.chip.fw.spoiled = none) :=
  ⟨State.reset, .host, by decide⟩

theorem wit_ControllerImages_10 : ∃ (s : State) (m : Master),
    (s.chip.opens m 0x25 = true) ∧ (m = .host) :=
  ⟨stOf fun c => { c with fw := { c.fw with running := true } }, .host, by decide⟩

theorem wit_ControllerImages_11 : ∃ (s : State) (m : Master),
    (s.chip.opens m 0x25 = true) ∧ (m ≠ .host) :=
  ⟨stOf fun c => { c with fw := { c.fw with running := true } }, .firmware, by decide⟩

theorem wit_ControllerImages_12 : ∃ (s : State) (m : Master),
    (s.chip.opens m 0x25 = true) ∧ (m = .host) ∧ (s.chip.fw.held = true ∨ s.chip.fw.hostHeld = true) :=
  ⟨stOf fun c => { c with fw := { c.fw with held := true } }, .host, by decide⟩

theorem wit_ControllerImages_13 : ∃ (s : State) (m : Master),
    (s.chip.opens m 0x25 = true) ∧ (m ≠ .host ∨ (s.chip.fw.held = false ∧ s.chip.fw.hostHeld = false)) :=
  ⟨State.reset, .host, by decide⟩

theorem wit_ControllerImages_14 : ∃ (s : State) (m : Master),
    (s.chip.opens m 0x25 = true) :=
  ⟨State.reset, .host, by decide⟩

theorem wit_ControllerImages_15 : ∃ (s : State) (m : Master),
    (s.chip.opens m 0x25 = true) ∧ (m = .firmware) ∧ (s.chip.fw.trial = false) ∧ (s.chip.id.norPresent = true) :=
  ⟨stOf fun c => { c with fw := { c.fw with running := true } }, .firmware, by decide⟩

theorem wit_ControllerImages_16 : ∃ (s : State) (m : Master),
    (s.chip.opens m 0x25 = true) ∧ (m ≠ .firmware ∨ s.chip.fw.trial = true) :=
  ⟨stOf fun c => { c with fw := { c.fw with running := true } }, .host, by decide⟩

theorem wit_ControllerImages_17 : ∃ (s : State) (m : Master),
    (s.chip.opens m 0x25 = true) ∧ (m = .firmware) ∧ (s.chip.fw.trial = true) :=
  ⟨stOf fun c => { c with fw := { c.fw with trial := true, prot := true } }, .firmware, by decide⟩

theorem wit_ControllerImages_18 : ∃ (s : State) (m : Master),
    (s.chip.opens m 0x25 = true) ∧ (m ≠ .firmware ∨ s.chip.fw.trial = false) :=
  ⟨stOf fun c => { c with fw := { c.fw with trial := true } }, .host, by decide⟩

theorem wit_ControllerImages_19 : ∃ (s : State) ,
    (s.chip.inReset = false) ∧ (s.chip.fw.swReq = true) ∧ (s.chip.fw.trial = false) ∧ (s.chip.id.norPresent = true) :=
  ⟨stOf fun c => { c with fw := { c.fw with swReq := true } }, by decide⟩

theorem wit_ControllerImages_20 : ∃ (s : State) ,
    (s.chip.inReset = false) ∧ (s.chip.fw.trial = true) :=
  ⟨stOf fun c => { c with fw := { c.fw with trial := true } }, by decide⟩

theorem wit_HangDetectors_1 : ∃ (s : State) (e : Engine),
    (s.chip.id.hub = false) ∧ (s.chip.inReset = false) ∧ (e.val / 4 < s.chip.id.ntaps) ∧ (Word.bit (s.chip.reg Reg.HG_ECFG e.val) 31 = true) ∧ ((s.chip.eng e.val).done = false) ∧ ((s.chip.eng e.val).hbto = false) ∧ ((s.chip.eng e.val).inEpisode = false) ∧ (s.chip.pw.hostLow = false) ∧ ((s.chip.tap (e.val / 4)).rgnReset = false) ∧ ((s.chip.eng e.val).hbAt + s.chip.hbTmo e.val * 1000 * nsUnit ≤ s.chip.now) :=
  ⟨stOf fun c => { (c.setReg Reg.HG_ECFG 0x80000001 0).modEng 0 (fun x => { x with done := false }) with tk := { c.tk with frc := 16000000 } }, 0, by decide⟩

theorem wit_HangDetectors_2 : ∃ (s : State) (e : Engine),
    (s.chip.id.hub = false) ∧ (s.chip.inReset = false) ∧ (e.val / 4 < s.chip.id.ntaps) ∧ (s.chip.now < (s.chip.eng e.val).hbAt + s.chip.hbTmo e.val * 1000 * nsUnit) :=
  ⟨State.reset, 0, by decide⟩

theorem wit_HangDetectors_3 : ∃ (s : State) (i : Thread),
    (s.chip.id.hub = false) ∧ (s.chip.inReset = false) ∧ (Word.bit (s.chip.reg Reg.HG_TDEADLINE i.val) 31 = true) ∧ ((s.chip.th i.val).mode.stopped = false) ∧ ((s.chip.th i.val).mode ≠ .solo) ∧ ((s.chip.th i.val).solo = false) ∧ ((s.chip.th i.val).overrun = false) ∧ ((s.chip.th i.val).synced ≠ some (s.chip.th i.val).course) ∧ ((s.chip.th i.val).base + Word.field (s.chip.reg Reg.HG_TDEADLINE i.val) 0 24 * 1000 * nsUnit ≤ s.chip.now) :=
  ⟨stOf fun c => { c.setReg Reg.HG_TDEADLINE 0x80000001 0 with tk := { c.tk with frc := 16000000 }, sq := { c.sq with threads := [(0, { ThreadState.reset with mode := .run })] } }, 0, by decide⟩

theorem wit_HangDetectors_4 : ∃ (s : State) (a : Agent) (w : WaitState),
    (s.chip.id.hub = false) ∧ (s.chip.inReset = false) ∧ ((s.chip.sg.waits.find? fun v => v.1 == a.val) = some (a.val, w)) ∧ (w.reported = false) ∧ (Word.field (s.chip.reg Reg.HG_WAITTMO) 0 20 ≠ 0) ∧ (Word.field (s.chip.reg Reg.HG_WAITTMO) 0 20 < s.chip.waitAge a.val) :=
  ⟨stOf fun c => { c.setReg Reg.HG_WAITTMO 5 with sg := { c.sg with waits := [(7, { sem := 5, n := 1, dir := false, ord := false, rank := 0, tag := 0, since := 0, reported := false })] }, tk := { c.tk with frc := 16000 } }, 7, { sem := 5, n := 1, dir := false, ord := false, rank := 0, tag := 0, since := 0, reported := false }, by decide⟩

theorem wit_HangDetectors_5 : ∃ (s : State) (a : Agent),
    (s.chip.id.hub = false) ∧ (s.chip.inReset = false) ∧ (s.chip.waitAge a.val ≤ Word.field (s.chip.reg Reg.HG_WAITTMO) 0 20) :=
  ⟨State.reset, 7, by decide⟩

theorem wit_HangDetectors_6 : ∃ (s : State) (i : Thread),
    (s.chip.id.hub = false) ∧ (s.chip.inReset = false) ∧ ((s.chip.th i.val).mode = .run) ∧ (Word.field (s.chip.reg Reg.HG_SQWD) 0 20 ≠ 0) ∧ (Word.field (s.chip.reg Reg.HG_SQWD) 0 20 ≤ s.chip.usSinceFrc (s.chip.th i.val).runAt) :=
  ⟨stOf fun c => { c.setReg Reg.HG_SQWD 5 with tk := { c.tk with frc := 16000 }, sq := { c.sq with threads := [(0, { ThreadState.reset with mode := .run })] } }, 0, by decide⟩

theorem wit_HangDetectors_7 : ∃ (s : State) (i : Thread),
    (s.chip.id.hub = false) ∧ (s.chip.inReset = false) ∧ (s.chip.usSinceFrc (s.chip.th i.val).runAt < Word.field (s.chip.reg Reg.HG_SQWD) 0 20) :=
  ⟨stOf fun c => { c.setReg Reg.HG_SQWD 5 with sq := { c.sq with threads := [(0, { ThreadState.reset with mode := .run })] } }, 0, by decide⟩

theorem wit_CapsuleCapture_1 : ∃ (s : State) (m : Master),
    (s.chip.opens m 0x1E = true) ∧ (s.chip.cp.stage = .empty) :=
  ⟨State.reset, .host, by decide⟩

theorem wit_CapsuleCapture_2 : ∃ (s : State) (m : Master),
    (s.chip.opens m 0x1E = true) ∧ (s.chip.cp.stage ≠ .empty) :=
  ⟨stOf fun c => { c with cp := { c.cp with stage := .done } }, .host, by decide⟩

theorem wit_CapsuleCapture_3 : ∃ (s : State) ,
    (s.chip.id.hub = false) ∧ (s.chip.inReset = false) ∧ (s.chip.cp.stage = .paused) :=
  ⟨stOf fun c => { c with cp := { c.cp with stage := .paused }, sg := { c.sg with rq := [(1, .setevent 5)] } }, by decide⟩

theorem wit_CapsuleCapture_4 : ∃ (s : State) ,
    (s.chip.id.hub = false) ∧ (s.chip.inReset = false) ∧ (s.chip.cp.stage ≠ .paused) :=
  ⟨State.reset, by decide⟩

theorem wit_CapsuleCapture_5 : ∃ (s : State) (e : Engine),
    (s.chip.id.hub = false) ∧ (s.chip.inReset = false) ∧ (e.val / 4 < s.chip.id.ntaps) ∧ (s.chip.readingEng e.val = true) :=
  ⟨stOf fun c => { c with cp := { c.cp with stage := .reading, engs := [0], left := [0] } }, 0, by decide⟩

theorem wit_CapsuleCapture_6 : ∃ (s : State) ,
    (s.chip.id.hub = false) ∧ (s.chip.inReset = false) ∧ (s.chip.cp.stage = .reading) ∧ (s.chip.cp.left = []) :=
  ⟨stOf fun c => { c with cp := { c.cp with stage := .reading } }, by decide⟩

theorem wit_CapsuleCapture_7 : ∃ (s : State) ,
    (s.chip.id.hub = false) ∧ (s.chip.inReset = false) ∧ (s.chip.cp.stage ≠ .reading) :=
  ⟨State.reset, by decide⟩

theorem wit_CapsuleCapture_8 : ∃ (s : State) ,
    (s.chip.id.hub = false) ∧ (s.chip.inReset = false) ∧ (s.chip.cp.mirroring = true) ∧ (s.chip.pw.hostLow = false) :=
  ⟨stOf fun c => { c with cp := { c.cp with stage := .done, mirroring := true } }, by decide⟩

theorem wit_CapsuleCapture_9 : ∃ (s : State) (m : Master),
    (s.chip.opens m 0x1E = true) ∧ (s.chip.cp.stage = .done) :=
  ⟨stOf fun c => { c with cp := { c.cp with stage := .done, seq := 4 } }, .host, by decide⟩

theorem wit_CapsuleCapture_10 : ∃ (s : State) (m : Master),
    (s.chip.opens m 0x1E = true) ∧ (s.chip.cp.stage ≠ .done) :=
  ⟨stOf fun c => { c with cp := { c.cp with stage := .reading, seq := 4 } }, .host, by decide⟩

theorem wit_CapsuleCapture_11 : ∃ (s : State) (m : Master),
    (s.chip.opens m 0x1E = true) :=
  ⟨stOf fun c => c.setReg Reg.CP_RADDR 0x8000FFFF, .host, by decide⟩

theorem wit_ResetEscalation_1 : ∃ (s : State) (m : Master),
    (s.chip.opens m 0x1D = true) ∧ ((s.chip.eng (Word.field (s.chip.regOf m Reg.HG_ESEL) 0 10)).inEpisode = false) ∧ ((Word.field (s.chip.regOf m Reg.HG_ESEL) 0 10) / 4 < s.chip.id.ntaps) :=
  ⟨State.reset, .host, by decide⟩

theorem wit_ResetEscalation_2 : ∃ (s : State) (m : Master),
    (s.chip.opens m 0x1D = true) ∧ ((s.chip.eng (Word.field (s.chip.regOf m Reg.HG_ESEL) 0 10)).inEpisode = true ∨ s.chip.id.ntaps ≤ (Word.field (s.chip.regOf m Reg.HG_ESEL) 0 10) / 4) :=
  ⟨stOf fun c => { c with rt := { c.rt with engs := [(0, { EngState.reset with done := false, rstate := .engine })] } }, .host, by decide⟩

theorem wit_ResetEscalation_3 : ∃ (s : State) (e : Engine) (p : Fin 64),
    (s.chip.id.hub = false) ∧ (s.chip.inReset = false) ∧ (e.val / 4 < s.chip.id.ntaps) ∧ ((s.chip.eng e.val).rstate = .engine) ∧ (s.chip.hg.solo ≠ .hung) ∧ ((s.chip.tap (e.val / 4)).stopped = false) :=
  ⟨stOf fun c => { c with rt := { c.rt with engs := [(0, { EngState.reset with done := false, rstate := .engine })] } }, 0, 3, by decide⟩

theorem wit_ResetEscalation_4 : ∃ (s : State) (e : Engine) (p : Fin 64),
    (s.chip.id.hub = false) ∧ (s.chip.inReset = false) ∧ (e.val / 4 < s.chip.id.ntaps) ∧ ((s.chip.eng e.val).rstate ≠ .engine) ∧ ((s.chip.tap (e.val / 4)).stopped = false) :=
  ⟨State.reset, 0, 3, by decide⟩

theorem wit_ResetEscalation_5 : ∃ (s : State) (e : Engine),
    (s.chip.id.hub = false) ∧ (s.chip.inReset = false) ∧ (e.val / 4 < s.chip.id.ntaps) ∧ ((s.chip.eng e.val).rstate = .engine) ∧ ((s.chip.tap (e.val / 4)).rgnReset = false) :=
  ⟨stOf fun c => { c with rt := { c.rt with engs := [(0, { EngState.reset with done := false, rstate := .engine })] } }, 0, by decide⟩

theorem wit_ResetEscalation_6 : ∃ (s : State) (tp : Tap) (ph : Fin 64) (e : Engine),
    (s.chip.id.hub = false) ∧ (s.chip.inReset = false) ∧ (tp.val < s.chip.id.ntaps) ∧ ((s.chip.tap tp.val).rgnReset = true) ∧ (e.val / 4 = tp.val) ∧ ((s.chip.eng e.val).rstate = .region) ∧ (s.chip.hg.solo ≠ .hung) :=
  ⟨stOf fun c => { c with rt := { c.rt with engs := [(0, { EngState.reset with done := false, rstate := .region })], taps := [(0, { TapState.reset with stopped := true, rstStop := true, rgnReset := true })] } }, 0, 5, 0, by decide⟩

theorem wit_ResetEscalation_7 : ∃ (s : State) (tp : Tap) (e : Engine),
    (s.chip.id.hub = false) ∧ (s.chip.inReset = false) ∧ (tp.val < s.chip.id.ntaps) ∧ (e.val / 4 = tp.val) ∧ ((s.chip.eng e.val).rstate = .region) ∧ (s.chip.hg.fenced = false) :=
  ⟨stOf fun c => { c with rt := { c.rt with engs := [(0, { EngState.reset with done := false, rstate := .region })], taps := [(0, { TapState.reset with rgnReset := true })] } }, 0, 0, by decide⟩

theorem wit_ResetEscalation_8 : ∃ (s : State) (m : Master),
    (s.chip.opens m 0x1D = true) ∧ (m ≠ .firmware) ∧ (s.chip.hg.fenced = true) ∧ (s.chip.hg.fenceAgain ≠ some s.chip.tk.frc) :=
  ⟨stOf fun c => { { c with rt := { c.rt with engs := [(0, { EngState.reset with done := false, rstate := .fenced })] } } with hg := { c.hg with fenced := true } }, .host, by decide⟩

theorem wit_ResetEscalation_9 : ∃ (s : State) (m : Master),
    (s.chip.opens m 0x1D = true) ∧ (m ≠ .firmware) ∧ (s.chip.hg.fenced = true) ∧ (s.chip.hg.fenceAgain = some s.chip.tk.frc) :=
  ⟨stOf fun c => { c with hg := { c.hg with fenced := true, fenceAgain := some 0 } }, .host, by decide⟩

theorem wit_ResetEscalation_10 : ∃ (s : State) (m : Master),
    (s.chip.opens m 0x1D = true) ∧ (m = .firmware ∨ s.chip.hg.fenced = false) :=
  ⟨stOf fun c => { c with hg := { c.hg with fenced := true } }, .firmware, by decide⟩

theorem wit_SoloReplay_1 : ∃ (s : State) (m : Master),
    (s.chip.opens m 0x1D = true) ∧ (s.chip.hg.suspects ≠ []) ∧ ((s.chip.th s.chip.soloThread).mode.stopped = true) ∧ (s.chip.hg.fenced = false) ∧ (s.chip.escalating = false) :=
  ⟨stOf fun c => { c with hg := { c.hg with suspects := [{ ctx := 5, eng := 0, line := some 0, res := 0 }], replay := [{ ctx := 5, eng := 0, line := some 0, res := 0 }], replayShown := true, soloIdx := 0 }, sq := { c.sq with threads := [(0, { ThreadState.reset with mode := .halted })] }, rt := { c.rt with engs := [(0, { EngState.reset with done := false })], taps := [(0, { TapState.reset with rper := 1600000 })] } }, .host, by decide⟩

theorem wit_SoloReplay_2 : ∃ (s : State) (m : Master),
    (s.chip.opens m 0x1D = true) ∧ (s.chip.hg.suspects = [] ∨ (s.chip.th s.chip.soloThread).mode.stopped = false ∨ s.chip.hg.fenced = true ∨ s.chip.escalating = true) :=
  ⟨State.reset, .host, by decide⟩

theorem wit_SoloReplay_3 : ∃ (s : State) (m : Master),
    (s.chip.opens m 0x1D = true) ∧ (s.chip.hg.solo ≠ .off) ∧ ((s.chip.th s.chip.soloThread).mode ≠ .idle) :=
  ⟨stOf fun c => { c with hg := { c.hg with suspects := [{ ctx := 5, eng := 0, line := some 0, res := 0 }], replay := [{ ctx := 5, eng := 0, line := some 0, res := 0 }], replayShown := true, solo := .fire }, sq := { c.sq with threads := [(0, { ThreadState.reset with mode := .solo, solo := true })] }, rt := { c.rt with engs := [(0, { EngState.reset with done := false })], taps := [(0, { TapState.reset with rper := 1600000 })] } }, .host, by decide⟩

theorem wit_SoloReplay_4 : ∃ (s : State) (m : Master),
    (s.chip.opens m 0x1D = true) ∧ (s.chip.hg.solo = .off) :=
  ⟨State.reset, .host, by decide⟩

theorem wit_SoloReplay_5 : ∃ (s : State) (u : Suspect) (n : Nat),
    (s.chip.id.hub = false) ∧ (s.chip.inReset = false) ∧ (s.chip.hg.solo = .fire) ∧ (s.chip.soloSuspect = some u) ∧ ((s.chip.th s.chip.soloThread).mode = .solo) ∧ (u.line = some n) ∧ ((s.chip.line n).armed = none) ∧ (s.chip.trigBound n s.chip.now = none) :=
  ⟨stOf fun c => { c with hg := { c.hg with suspects := [{ ctx := 5, eng := 0, line := some 0, res := 0 }], replay := [{ ctx := 5, eng := 0, line := some 0, res := 0 }], replayShown := true, solo := .fire }, sq := { c.sq with threads := [(0, { ThreadState.reset with mode := .solo, solo := true })] }, rt := { c.rt with engs := [(0, { EngState.reset with done := false })], taps := [(0, { TapState.reset with rper := 1600000 })] } }, { ctx := 5, eng := 0, line := some 0, res := 0 }, 0, by decide⟩

theorem wit_SoloReplay_6 : ∃ (s : State) (u : Suspect),
    (s.chip.id.hub = false) ∧ (s.chip.inReset = false) ∧ (s.chip.hg.solo = .wait) ∧ (s.chip.soloSuspect = some u) :=
  ⟨stOf fun c => { c with hg := { c.hg with suspects := [{ ctx := 5, eng := 0, line := some 0, res := 0 }], replay := [{ ctx := 5, eng := 0, line := some 0, res := 0 }], replayShown := true, solo := .wait }, sq := { c.sq with threads := [(0, { ThreadState.reset with mode := .solo, solo := true })] }, rt := { c.rt with engs := [(0, { EngState.reset with done := false })], taps := [(0, { TapState.reset with rper := 1600000 })] } }, { ctx := 5, eng := 0, line := some 0, res := 0 }, by decide⟩

theorem wit_SoloReplay_7 : ∃ (s : State) ,
    (s.chip.id.hub = false) ∧ (s.chip.inReset = false) ∧ (s.chip.hg.solo ≠ .wait) :=
  ⟨State.reset, by decide⟩

theorem wit_EventRecorder_1 : ∃ (s : State) (r : RawRec) (l : List RawRec),
    (s.chip.ev.queue = r :: l) :=
  ⟨stOf fun c => { c with ev := { c.ev with queue := [{ code := 0x101, src := 0, sev := 1, late := false, p1 := 1, p2 := 2, p3 := 3 }] } }, { code := 0x101, src := 0, sev := 1, late := false, p1 := 1, p2 := 2, p3 := 3 }, [], by decide⟩

theorem wit_EventRecorder_2 : ∃ (s : State) (r : RawRec) (l : List RawRec),
    (s.chip.ev.queue = r :: l) ∧ (SMap.has s.chip.ev.ring (s.chip.ev.wrSeq % 4096) = false) ∧ (Word.bit (s.chip.reg Reg.EV_HMCFG) 31 = false) ∧ (s.chip.ev.lost = 0) :=
  ⟨stOf fun c => { c with ev := { c.ev with queue := [{ code := 0x101, src := 0, sev := 1, late := false, p1 := 1, p2 := 2, p3 := 3 }] } }, { code := 0x101, src := 0, sev := 1, late := false, p1 := 1, p2 := 2, p3 := 3 }, [], by decide⟩

theorem wit_EventRecorder_3 : ∃ (s : State) ,
    (s.chip.ev.queue = []) :=
  ⟨State.reset, by decide⟩

theorem wit_EventRecorder_4 : ∃ (s : State) (m : Master) (w : Word),
    (s.chip.opens m 0x1F = true) ∧ (m = .host ∨ m = .firmware) ∧ (s.chip.ev.restored = false) :=
  ⟨State.reset, .host, 7, by decide⟩

theorem wit_EventRecorder_5 : ∃ (s : State) (m : Master) (w : Word),
    (s.chip.opens m 0x1F = true) ∧ ((m ≠ .host ∧ m ≠ .firmware) ∨ s.chip.ev.restored = true) :=
  ⟨stOf fun c => { c with ev := { c.ev with restored := true } }, .host, 7, by decide⟩

theorem wit_EventRecorder_6 : ∃ (s : State) (p : Port) (x : Cell),
    (s.chip.id.hub = true) ∧ (s.chip.inReset = false) ∧ (s.chip.headM p.val 0x43 = some x) ∧ (Word.bit (s.chip.reg Reg.TR_CFG) 22 = true) ∧ (s.chip.ev.uploads.length < 64) :=
  ⟨hubOf fun c => (c.setReg Reg.TR_CFG 0x00400000).modPort 0 fun x => { x with mode := .up, q := { x.q with rxM := [mkCell clsM 0x43 0 [1, 2, 3, 4, 5, 6, 7, 8, 9]] } }, 0, mkCell clsM 0x43 0 [1, 2, 3, 4, 5, 6, 7, 8, 9], by decide⟩

theorem wit_EventRecorder_7 : ∃ (s : State) (p : Port) (x : Cell),
    (s.chip.id.hub = true) ∧ (s.chip.inReset = false) ∧ (s.chip.headM p.val 0x43 = some x) ∧ (Word.bit (s.chip.reg Reg.TR_CFG) 22 = false) :=
  ⟨hubOf fun c => (c.setReg Reg.TR_CFG 0).modPort 0 fun x => { x with mode := .up, q := { x.q with rxM := [mkCell clsM 0x43 0 [1, 2, 3, 4, 5, 6, 7, 8, 9]] } }, 0, mkCell clsM 0x43 0 [1, 2, 3, 4, 5, 6, 7, 8, 9], by decide⟩

theorem wit_EventRecorder_8 : ∃ (s : State) (m : Master),
    (s.chip.opens m 0x1F = true) ∧ (s.chip.id.hub = true) :=
  ⟨hubOf fun c => { c with ev := { c.ev with uploads := [(1, [2])] } }, .host, by decide⟩

theorem wit_EventRecorder_9 : ∃ (s : State) (m : Master) (w : Word),
    (s.chip.opens m 0x1F = true) :=
  ⟨State.reset, .host, 0x105, by decide⟩

theorem wit_CountersAndHistograms_1 : ∃ (s : State) (m : Master) (w : Word),
    (s.chip.opens m 0x20 = true) :=
  ⟨stOf fun c => { c with mn := { c.mn with counts := [(0, 5), (1, 6)] } }, .host, 0x00108001, by decide⟩

theorem wit_CountersAndHistograms_2 : ∃ (s : State) (m : Master),
    (s.chip.opens m 0x20 = true) :=
  ⟨stOf fun c => { c with mn := { c.mn with counts := [(0, 5), (1, 6)] } }, .host, by decide⟩

theorem wit_CountersAndHistograms_3 : ∃ (s : State) (m : Master),
    (s.chip.opens m 0x20 = true) :=
  ⟨stOf fun c => { c with mn := { c.mn with counts := [(0, 5), (1, 6)] } }, .host, by decide⟩

theorem wit_CountersAndHistograms_4 : ∃ (s : State) (m : Master) (w : Word),
    (s.chip.opens m 0x20 = true) :=
  ⟨State.reset, .host, 1, by decide⟩

theorem wit_CountersAndHistograms_5 : ∃ (s : State) (m : Master),
    (s.chip.opens m 0x20 = true) :=
  ⟨stOf fun c => { c with mn := { c.mn with counts := [(0, 5), (1, 6)] } }, .host, by decide⟩

theorem wit_CountersAndHistograms_6 : ∃ (s : State) (m : Master),
    (s.chip.opens m 0x20 = true) :=
  ⟨State.reset, .host, by decide⟩

theorem wit_CountersAndHistograms_7 : ∃ (s : State) (m : Master),
    (s.chip.opens m 0x20 = true) :=
  ⟨stOf fun c => { c with mn := { c.mn with armed := some 5 } }, .host, by decide⟩

theorem wit_CountersAndHistograms_8 : ∃ (s : State) (k : Nat),
    (s.chip.inReset = false) ∧ (s.chip.mn.armed = some k) ∧ (k ≤ s.chip.cycleTime) ∧ (s.chip.tk.valid = true) :=
  ⟨stOf fun c => { { c with mn := { c.mn with armed := some 0, counts := [(3, 4)] } } with tk := { c.tk with valid := true } }, 0, by decide⟩

theorem wit_CountersAndHistograms_9 : ∃ (s : State) (k : Nat),
    (s.chip.inReset = false) ∧ (s.chip.mn.armed = some k) ∧ (k ≤ s.chip.cycleTime) ∧ (s.chip.tk.valid = false) :=
  ⟨stOf fun c => { c with mn := { c.mn with armed := some 0, counts := [(3, 4)] } }, 0, by decide⟩

theorem wit_CountersAndHistograms_10 : ∃ (s : State) (k : Nat),
    (s.chip.inReset = false) ∧ (s.chip.mn.armed = some k) ∧ (s.chip.cycleTime < k) :=
  ⟨stOf fun c => { c with mn := { c.mn with armed := some 9 } }, 9, by decide⟩

theorem wit_CountersAndHistograms_11 : ∃ (s : State) (m : Master) (w : Word),
    (s.chip.opens m 0x20 = true) ∧ (pinCfgGood s.chip.id.hub w = true) :=
  ⟨stOf fun c => { c with mn := { c.mn with pins := [(0, 4)] } }, .host, 0x10000400, by decide⟩

theorem wit_CountersAndHistograms_12 : ∃ (s : State) (m : Master) (w : Word),
    (s.chip.opens m 0x20 = true) ∧ (pinCfgGood s.chip.id.hub w = false) :=
  ⟨State.reset, .host, 0x70000400, by decide⟩

theorem wit_CountersAndHistograms_13 : ∃ (s : State) (m : Master),
    (s.chip.opens m 0x20 = true) :=
  ⟨stOf fun c => { c with mn := { c.mn with pins := [(0, 4)] } }, .host, by decide⟩

theorem wit_CountersAndHistograms_14 : ∃ (s : State) (m : Master) (k : HsReg) (w : Word),
    (s.chip.opens m 0x21 = true) :=
  ⟨stOf fun c => { c with hs := [(0, { HsUnit.reset with bins := [(1, 5)], nsamp := 5, stopped := true })] }, .host, .ubase, 5, by decide⟩

theorem wit_CountersAndHistograms_15 : ∃ (s : State) (m : Master),
    (s.chip.opens m 0x21 = true) :=
  ⟨stOf fun c => { c with hs := [(0, { HsUnit.reset with bins := [(1, 5)], nsamp := 5, stopped := true })] }, .host, by decide⟩

theorem wit_CountersAndHistograms_16 : ∃ (s : State) (m : Master),
    (s.chip.opens m 0x21 = true) :=
  ⟨stOf fun c => { c with hs := [(0, { HsUnit.reset with bins := [(1, 5)], nsamp := 5, stopped := true })] }, .host, by decide⟩

theorem wit_MainResetAndSupplies_1 : ∃ (s : State) ,
    (s.chip.inReset = false) :=
  ⟨stOf fun c => { c.setReg Reg.RT_CFG 5 with sg := { c.sg with sems := [(1, { SemState.reset with count := 3 })] } }, by decide⟩

theorem wit_MainResetAndSupplies_2 : ∃ (s : State) ,
    (s.chip.inReset = true) :=
  ⟨stOf fun c => { c with inReset := true }, by decide⟩

theorem wit_MainResetAndSupplies_3 : ∃ (s : State) ,
    (s.chip.inReset = true) ∧ (s.chip.resetHeld = false) :=
  ⟨stOf fun c => { c with inReset := true }, by decide⟩

theorem wit_MainResetAndSupplies_4 : ∃ (s : State) ,
    (s.chip.resetHeld = true) :=
  ⟨stOf fun c => { c with pw := { c.pw with lys := false }, inReset := true }, by decide⟩

theorem wit_MainResetAndSupplies_5 : ∃ (s : State) (slow : Bool),
    (s.chip.pw.aon = false) :=
  ⟨stOf fun c => { c with pw := { c.pw with aon := false } }, false, by decide⟩

theorem wit_MainResetAndSupplies_6 : ∃ (s : State) (slow : Bool),
    (s.chip.pw.aon = true) ∧ (s.chip.pw.tclk = false) :=
  ⟨stOf fun c => { c with pw := { c.pw with tclk := false }, tk := { c.tk with tclk := false } }, false, by decide⟩

theorem wit_MainResetAndSupplies_7 : ∃ (s : State) (slow : Bool),
    (s.chip.pw.lys = false) :=
  ⟨stOf fun c => { c with pw := { c.pw with lys := false } }, true, by decide⟩

theorem wit_MainResetAndSupplies_8 : ∃ (s : State) (slow : Bool),
    (s.chip.pw.io = false) :=
  ⟨stOf fun c => { c with pw := { c.pw with io := false } }, true, by decide⟩

theorem wit_MainResetAndSupplies_9 : ∃ (s : State) ,
    (s.chip.inReset = false) ∧ (s.chip.pw.aon = true) ∧ (s.chip.pw.lys = true) :=
  ⟨State.reset, by decide⟩

theorem wit_MainResetAndSupplies_10 : ∃ (s : State) ,
    (s.chip.inReset = false) ∧ (s.chip.pw.aon = true) ∧ (s.chip.pw.tclk = true) ∧ (s.chip.tk.tclk = true) :=
  ⟨State.reset, by decide⟩

theorem wit_MainResetAndSupplies_11 : ∃ (s : State) ,
    (s.chip.pw.io = true) :=
  ⟨State.reset, by decide⟩

theorem wit_MainResetAndSupplies_12 : ∃ (s : State) ,
    (s.chip.pw.aon = true) :=
  ⟨State.reset, by decide⟩

theorem wit_MainResetAndSupplies_13 : ∃ (s : State) ,
    (s.chip.pw.aon = true) ∧ (s.chip.pw.tclk = true) :=
  ⟨State.reset, by decide⟩

theorem wit_MainResetAndSupplies_14 : ∃ (s : State) (v : BitVec 16),
    (s.chip.pw.aon = true) :=
  ⟨State.reset, 0x7FF, by decide⟩

theorem wit_MainResetAndSupplies_15 : ∃ (s : State) (m : Master),
    (s.chip.opens m 0x24 = true) :=
  ⟨State.reset, .host, by decide⟩

theorem wit_MainResetAndSupplies_16 : ∃ (s : State) (a : BitVec 64),
    (s.chip.inReset = false) ∧ (s.chip.mirrorBeat a.toNat = true) :=
  ⟨stOf fun c => { c with cp := { c.cp with mirroring := true, mirBase := 64, mirror := [0] } }, 64, by decide⟩

theorem wit_MainResetAndSupplies_17 : ∃ (s : State) (a : BitVec 64) (o : MwOp),
    (s.chip.inReset = false) ∧ (s.chip.mirrorBeat a.toNat = false) ∧ (s.chip.ev.mwOps.find? (fun o : MwOp => o.beats.any fun v => v.1 == a.toNat) = some o) :=
  ⟨stOf fun c => { c with ev := { c.ev with mwOps := [{ beats := [(64, [])], err := false }] } }, 64, { beats := [(64, [])], err := false }, by decide⟩

theorem wit_MainResetAndSupplies_18 : ∃ (s : State) (a : BitVec 64),
    (s.chip.inReset = false) ∧ (s.chip.mirrorBeat a.toNat = false) ∧ (s.chip.ev.mwOps.any (fun o : MwOp => o.beats.any fun v => v.1 == a.toNat) = false) :=
  ⟨State.reset, 64, by decide⟩

theorem wit_HostReset_1 : ∃ (s : State) ,
    (s.chip.inReset = false) ∧ (s.chip.id.hub = false) ∧ (s.chip.pw.aon = true) ∧ (s.chip.pw.hostLow = false) ∧ (Word.bit (s.chip.reg Reg.PW_RSTCFG) 0 = false) :=
  ⟨stOf fun c => { c with sg := { c.sg with rq := [(1, .setevent 5)] } }, by decide⟩

theorem wit_HostReset_2 : ∃ (s : State) ,
    (s.chip.inReset = false) ∧ (s.chip.id.hub = true) ∧ (s.chip.pw.aon = true) ∧ (s.chip.pw.hostLow = false) ∧ (Word.bit (s.chip.reg Reg.PW_RSTCFG) 0 = false) :=
  ⟨hubOf fun c => c, by decide⟩

theorem wit_HostReset_3 : ∃ (s : State) ,
    (s.chip.inReset = false) ∧ (s.chip.pw.aon = true) ∧ (s.chip.pw.hostLow = false) ∧ (Word.bit (s.chip.reg Reg.PW_RSTCFG) 0 = true) :=
  ⟨stOf fun c => c.setReg Reg.PW_RSTCFG 1, by decide⟩

theorem wit_HostReset_4 : ∃ (s : State) (e : Engine),
    (s.chip.inReset = false) ∧ (s.chip.id.hub = false) ∧ (s.chip.pw.hostLow = true) ∧ (SMap.has s.chip.rt.engs e.val = true) :=
  ⟨stOf fun c => { c with pw := { c.pw with hostLow := true }, rt := { c.rt with engs := [(0, { EngState.reset with done := false })] } }, 0, by decide⟩

theorem wit_HostReset_5 : ∃ (s : State) ,
    (s.chip.pw.hostLow = false) :=
  ⟨State.reset, by decide⟩

theorem wit_RoleIsSampled : ∃ (s t : State) (i : Instr), exec i s = .next t ∧ ∀ b, i ≠ .railGood .vddAon b := ⟨State.reset, State.reset, .levelSat, rfl, by simp⟩

theorem wit_RoleIsSampled1 : ∃ s t : State, s.pending = [] ∧ step s = .next t := ⟨State.reset, _, rfl, rfl⟩

theorem wit_RoleIsSampled2 : ∃ s : State, s.chip.pw.aon = false ∧ s.chip.id.strapHub = true := ⟨stOf fun c => { c with id := { c.id with strapHub := true }, pw := { c.pw with aon := false } }, by decide⟩

theorem wit_TimekeeperKept : ∃ s t : State, s.chip.tk.kept ∧ step s = .next t := ⟨State.reset, _, by unfold TkState.kept; decide, rfl⟩

theorem wit_WhereCommandsComplete : ∃ (s : State) (i : Instr), s.chip.fits i = true := ⟨State.reset, .levelSat, rfl⟩

theorem wit_WhereCommandsComplete1 : ∃ (s : State) (i : Instr), s.chip.fits i = false := ⟨State.reset, .hoTrace, rfl⟩

theorem wit_WhereCommandsComplete2 : ∃ (s : State) (i : Instr), s.chip.fits i = true ∧ aonCommand i = false ∧ s.chip.inReset = true := ⟨stOf fun c => { c with inReset := true }, .levelSat, by decide⟩

theorem wit_PortBringUp_1 : ∃ (s : State) (m : Master),
    (s.chip.opens m 0x08 = true) ∧ (s.chip.locked 0x08 = false) ∧ (s.chip.pw.lanesReleased = true) ∧ ((s.chip.port (s.chip.chanOf m 0x08)).mode ≠ .cal) :=
  ⟨stOf fun c => { c with pw := { c.pw with lanesReleased := true } }, .host, by decide⟩

theorem wit_PortBringUp_2 : ∃ (s : State) (p : Port),
    (s.chip.inReset = false) ∧ (p.val < s.chip.nports) ∧ ((s.chip.port p.val).mode = .down) ∧ (s.chip.pw.lanesReleased = true) ∧ (s.chip.portOn p.val = true) :=
  ⟨stOf fun c => { c with pw := { c.pw with lanesReleased := true } }, 0, by decide⟩

theorem wit_PortBringUp_3 : ∃ (s : State) (p : Port) (m : BitVec 24),
    (s.chip.inReset = false) ∧ (p.val < s.chip.nports) ∧ ((s.chip.port p.val).mode = .cal) ∧ ((s.chip.port p.val).check.got ≠ 0) :=
  ⟨stOf fun c => c.modPort 0 fun x => { x with mode := .cal, check := { x.check with sent := 2, got := 2, sum := 12 * unit64 } }, 0, 5, by decide⟩

theorem wit_PortBringUp_4 : ∃ (s : State) (p : Port) (m : BitVec 24),
    (s.chip.inReset = false) ∧ (p.val < s.chip.nports) ∧ ((s.chip.port p.val).mode = .cal) ∧ ((s.chip.port p.val).check.got = 0) :=
  ⟨stOf fun c => c.modPort 0 fun x => { x with mode := .cal }, 0, 5, by decide⟩

theorem wit_PortBringUp_5 : ∃ (s : State) (p : Port),
    (s.chip.inReset = false) ∧ (p.val < s.chip.nports) ∧ ((s.chip.port p.val).mode = .train) :=
  ⟨stOf fun c => c.modPort 0 fun x => { x with mode := .train }, 0, by decide⟩

theorem wit_PortBringUp_6 : ∃ (s : State) (p : Port),
    (s.chip.inReset = false) ∧ (p.val < s.chip.nports) ∧ ((s.chip.port p.val).mode = .locking) ∧ (4 ≤ (s.chip.port p.val).code.good ∨ 4 ≤ (s.chip.port p.val).code.goodInv) :=
  ⟨stOf fun c => c.modPort 0 fun x => { x with mode := .locking, code := { x.code with goodInv := 4 } }, 0, by decide⟩

theorem wit_PortBringUp_7 : ∃ (s : State) (p : Port) (x : Cell),
    (s.chip.inReset = false) ∧ (p.val < s.chip.nports) ∧ ((s.chip.port p.val).mode = .ident) ∧ ((s.chip.port p.val).gotIdent = true) ∧ (s.chip.headL p.val 0x03 = some x) ∧ (x.pay 2 = Word.part s.chip.id.uid 0) :=
  ⟨stOf fun c => c.modPort 0 fun x => { x with mode := .ident, gotIdent := true, peer := some [0x10000, 0, 5, 0, 0, 0x404020], q := { x.q with rxL := [mkCell clsL 0x03 0 [0]] } }, 0, mkCell clsL 0x03 0 [0], by decide⟩

theorem wit_PortBringUp_8 : ∃ (s : State) (p : Port) (x : Cell) (y : PortState),
    (s.chip.inReset = false) ∧ (p.val < s.chip.nports) ∧ ((s.chip.port p.val).mode = .ident) ∧ (s.chip.headL p.val 0x02 = some x) ∧ (y = { s.chip.port p.val with peer := some (x.payload.take 6), gotIdent := true }) ∧ ((s.chip.modPort p.val fun _ => y).wiring p.val = none) ∧ ((s.chip.modPort p.val fun _ => y).twins p.val y = []) ∧ ((s.chip.port p.val).gotAck = false) :=
  ⟨stOf fun c => c.modPort 0 fun x => { x with mode := .ident, q := { x.q with rxL := [mkCell clsL 0x02 0 [0x80000200, 0, 5, 0, 7, 0x404020]] } }, 0, mkCell clsL 0x02 0 [0x80000200, 0, 5, 0, 7, 0x404020], { PortState.reset with mode := .ident, q := { PortQueues.reset with rxL := [mkCell clsL 0x02 0 [0x80000200, 0, 5, 0, 7, 0x404020]] }, peer := some [0x80000200, 0, 5, 0, 7, 0x404020], gotIdent := true }, by decide⟩

theorem wit_PortBringUp_9 : ∃ (s : State) (p : Port) (x : Cell),
    (s.chip.inReset = false) ∧ (p.val < s.chip.nports) ∧ ((s.chip.port p.val).mode = .ident) ∧ (s.chip.headL p.val 0x02 = some x) ∧ ((({ s.chip.port p.val with peer := some (x.payload.take 6) } : PortState).peerVersion = 0 ∨ 3 < ({ s.chip.port p.val with peer := some (x.payload.take 6) } : PortState).peerVersion)) :=
  ⟨stOf fun c => c.modPort 0 fun x => { x with mode := .ident, q := { x.q with rxL := [mkCell clsL 0x02 0 [0]] } }, 0, mkCell clsL 0x02 0 [0], by decide⟩

theorem wit_LaneDown_1 : ∃ (s : State) (m : Master) (w : Word),
    (s.chip.opens m 0x08 = true) ∧ (s.chip.locked 0x08 = false) ∧ (Word.bit w 7 = false) ∧ ((s.chip.port (s.chip.chanOf m 0x08)).mode ≠ .down) :=
  ⟨stOf fun c => c.modPort 0 fun x => { x with mode := .up }, .host, 1, by decide⟩

theorem wit_LaneDown_2 : ∃ (s : State) (m : Master) (w : Word),
    (s.chip.opens m 0x08 = true) ∧ (s.chip.locked 0x08 = false) ∧ (Word.bit w 7 = false) ∧ ((s.chip.port (s.chip.chanOf m 0x08)).mode ≠ .down) :=
  ⟨stOf fun c => c.modPort 0 fun x => { x with mode := .up }, .host, 0, by decide⟩

theorem wit_LaneDown_3 : ∃ (s : State) (p : Port),
    (s.chip.inReset = false) ∧ (p.val < s.chip.nports) ∧ ((s.chip.port p.val).mode ∈ [.locking, .ident, .up, .refused]) :=
  ⟨stOf fun c => c.modPort 1 fun x => { x with mode := .up }, 1, by decide⟩

theorem wit_LaneDown_4 : ∃ (s : State) (p : Port),
    (s.chip.inReset = false) ∧ (p.val < s.chip.nports) ∧ ((s.chip.port p.val).mode ≠ .down) ∧ ((s.chip.port p.val).cwlock = true) ∧ (8 ≤ (s.chip.port p.val).code.bad) :=
  ⟨stOf fun c => c.modPort 0 fun x => { x with mode := .up, cwlock := true, code := { x.code with bad := 8 } }, 0, by decide⟩

theorem wit_LaneDown_5 : ∃ (s : State) (p : Port),
    (s.chip.inReset = false) ∧ (p.val < s.chip.nports) ∧ ((s.chip.port p.val).mode ≠ .down) :=
  ⟨stOf fun c => c.modPort 0 fun x => { x with mode := .up }, 0, by decide⟩

theorem wit_LaneDown_6 : ∃ (s : State) (p : Port),
    (s.chip.inReset = false) ∧ (p.val < s.chip.nports) ∧ (s.chip.isUp p.val = true) ∧ ((s.chip.port p.val).link.timerOn = true) ∧ (s.chip.replayMax ≤ (s.chip.port p.val).link.replays) :=
  ⟨stOf fun c => c.modPort 0 fun x => { x with mode := .up, link := { x.link with timerOn := true, replays := 300 } }, 0, by decide⟩

theorem wit_LaneDown_7 : ∃ (s : State) (m : Master) (k : LatReg) (w : Word),
    (s.chip.opens m 0x08 = true) ∧ (s.chip.locked 0x08 = false) :=
  ⟨stOf fun c => c.modPort 0 fun x => { x with pmaLatOk := true }, .host, .tx, 5, by decide⟩

theorem wit_LaneDown_8 : ∃ (s : State) (p : Port) (ok : Bool),
    (s.chip.inReset = false) ∧ (p.val < s.chip.nports) :=
  ⟨State.reset, 0, true, by decide⟩

theorem wit_CellTransmit_1 : ∃ (s : State) (p : Port) (phase : Fin 64) (x : TxCell) (r : List TxCell),
    (s.chip.inReset = false) ∧ (p.val < s.chip.nports) ∧ (s.chip.isUp p.val = true) ∧ ((s.chip.port p.val).code.txSlot = 0) ∧ ((s.chip.port p.val).q.txT = x :: r) :=
  ⟨stOf fun c => c.modPort 0 fun x => { x with mode := .up, q := { x.q with txT := [{ cell := mkCell clsT 0x10 0 [], at_ := 0 }] } }, 0, 0, { cell := mkCell clsT 0x10 0 [], at_ := 0 }, [], by decide⟩

theorem wit_CellTransmit_2 : ∃ (s : State) (p : Port) (phase : Fin 64) (x : TxCell) (r : List TxCell),
    (s.chip.inReset = false) ∧ (p.val < s.chip.nports) ∧ (s.chip.isUp p.val = true) ∧ (s.chip.hg.fenced = false) ∧ ((s.chip.port p.val).code.txSlot ≠ 0) ∧ ((s.chip.port p.val).link.resend = []) ∧ (s.chip.aged p.val = none) ∧ ((s.chip.port p.val).q.txB = x :: r) ∧ (((s.chip.port p.val).q.wait.any fun w => w.1 == clsB) = false) ∧ (0 < (s.chip.port p.val).link.credB) ∧ (0 < (s.chip.port p.val).link.turnB) :=
  ⟨stOf fun c => c.modPort 0 fun x => { x with mode := .up, code := { x.code with txSlot := 1 }, link := { x.link with credB := 3 }, q := { x.q with txB := [{ cell := mkCell clsB 0x20 0 [], at_ := 0 }] } }, 0, 0, { cell := mkCell clsB 0x20 0 [], at_ := 0 }, [], by decide⟩

theorem wit_CellTransmit_3 : ∃ (s : State) (p : Port) (phase : Fin 64),
    (s.chip.inReset = false) ∧ (p.val < s.chip.nports) ∧ (s.chip.isUp p.val = true) ∧ ((s.chip.port p.val).q.txT = []) ∧ ((s.chip.port p.val).link.resend = []) ∧ (s.chip.mayLeave p.val = []) :=
  ⟨stOf fun c => c.modPort 0 fun x => { x with mode := .up }, 0, 0, by decide⟩

theorem wit_CellTransmit_4 : ∃ (s : State) (p : Port) (x : Cell),
    (s.chip.inReset = false) ∧ (p.val < s.chip.nports) ∧ (s.chip.isUp p.val = true) ∧ (s.chip.headL p.val 0x01 = some x) ∧ (Word.field (x.pay 2) 0 12 ≠ (s.chip.port p.val).link.nextSeq) ∧ ((Word.field (x.pay 2) 0 12 + 4096 - (s.chip.port p.val).link.oldest) % 4096 < (s.chip.port p.val).link.replay.length) ∧ ((s.chip.port p.val).link.replays < s.chip.replayMax) :=
  ⟨stOf fun c => c.modPort 0 fun x => { x with mode := .up, link := { x.link with nextSeq := 1, replay := [mkCell clsB 0x20 0 []] }, q := { x.q with rxL := [mkCell clsL 0x01 0 [0]] } }, 0, mkCell clsL 0x01 0 [0], by decide⟩

theorem wit_CellTransmit_5 : ∃ (s : State) (p : Port),
    (s.chip.inReset = false) ∧ (p.val < s.chip.nports) ∧ (s.chip.isUp p.val = true) ∧ ((s.chip.port p.val).link.timerOn = true) ∧ ((s.chip.port p.val).link.replays < s.chip.replayMax) ∧ ((s.chip.port p.val).link.replay ≠ []) :=
  ⟨stOf fun c => c.modPort 0 fun x => { x with mode := .up, link := { x.link with timerOn := true, nextSeq := 1, replay := [mkCell clsB 0x20 0 []] } }, 0, by decide⟩

theorem wit_CodewordReceive_1 : ∃ (s : State) (p : Port) (cw : Codeword),
    (s.chip.inReset = false) ∧ (p.val < s.chip.nports) ∧ ((s.chip.port p.val).mode = .locking) :=
  ⟨stOf fun c => c.modPort 0 fun x => { x with mode := .locking }, 0, { header := 0xD3400, cells := [], errors := [], phase := 0 }, by decide⟩

theorem wit_CodewordReceive_2 : ∃ (s : State) (p : Port) (cw : Codeword),
    (s.chip.inReset = false) ∧ (p.val < s.chip.nports) ∧ (s.chip.isUp p.val = true) ∧ (cw.bad = true) :=
  ⟨stOf fun c => c.modPort 0 fun x => { x with mode := .up }, 0, { header := 0xD3400, cells := [idleCell], errors := [(0, 1), (1, 1), (2, 1), (3, 1), (4, 1), (5, 1), (6, 1), (7, 1), (8, 1), (9, 1), (10, 1), (11, 1), (12, 1), (13, 1), (14, 1), (15, 1)], phase := 0 }, by decide⟩

theorem wit_CodewordReceive_3 : ∃ (s : State) (p : Port) (cw : Codeword) (x : Cell) (l : List Cell),
    (s.chip.inReset = false) ∧ (p.val < s.chip.nports) ∧ (s.chip.isUp p.val = true) ∧ (s.chip.hg.fenced = false) ∧ (s.chip.excludedAt p.val = false) ∧ (cw.bad = false) ∧ (cw.cells = x :: l) ∧ (l.length ≤ 7) ∧ ((∀ y ∈ l, Cell.parityGood y = true ∧ Cell.known y = true ∧ y.cls = clsL)) ∧ (Cell.parityGood x = true) ∧ (Cell.known x = true) ∧ (x.cls = clsB) ∧ (x.seq = (s.chip.port p.val).link.expected) ∧ ((s.chip.port p.val).link.expected < 4096) ∧ (s.chip.rxRoom p.val clsB = true) ∧ (x.typ ≠ 0x45) :=
  ⟨stOf fun c => c.modPort 0 fun x => { x with mode := .up }, 0, { header := 0xD3400, cells := [bCell], errors := [], phase := 0 }, bCell, [], by decide⟩

theorem wit_HandshakeAndMarkers_1 : ∃ (s : State) (p : Port),
    (s.chip.inReset = false) ∧ (p.val < s.chip.nports) ∧ ((s.chip.port p.val).mode ∈ [.ident, .up, .refused]) :=
  ⟨stOf fun c => c.modPort 0 fun x => { x with mode := .ident }, 0, by decide⟩

theorem wit_HandshakeAndMarkers_2 : ∃ (s : State) (p : Port),
    (s.chip.inReset = false) ∧ (p.val < s.chip.nports) ∧ (s.chip.isUp p.val = true) ∧ ((s.chip.port p.val).q.txT.length < 8) :=
  ⟨stOf fun c => c.modPort 0 fun x => { x with mode := .up }, 0, by decide⟩

theorem wit_HandshakeAndMarkers_3 : ∃ (s : State) (p : Port),
    (s.chip.inReset = false) ∧ (p.val < s.chip.nports) ∧ (s.chip.isUp p.val = true) ∧ ((s.chip.port p.val).q.txT.length < 8) :=
  ⟨stOf fun c => c.modPort 0 fun x => { x with mode := .up }, 0, by decide⟩

theorem wit_HandshakeAndMarkers_4 : ∃ (s : State) (p : Port) (r : RxT),
    (s.chip.inReset = false) ∧ (p.val < s.chip.nports) ∧ (s.chip.headT p.val 0x11 = some r) ∧ ((s.chip.port p.val).q.txT.length < 8) :=
  ⟨stOf fun c => c.modPort 0 fun x => { x with mode := .up, q := { x.q with rxT := [{ cell := mkCellW clsT 0x11 0 [] 0x20000007, stamp := 9 }] } }, 0, { cell := mkCellW clsT 0x11 0 [] 0x20000007, stamp := 9 }, by decide⟩

theorem wit_HandshakeAndMarkers_5 : ∃ (s : State) (p : Port) (r : RxT) (n : Nat),
    (s.chip.inReset = false) ∧ (p.val < s.chip.nports) ∧ (s.chip.headT p.val 0x12 = some r) ∧ ((s.chip.port p.val).time.probes = [{ id := Word.field (Cell.word r.cell 19) 0 16, t1 := some n, t2 := none, t4 := none }]) :=
  ⟨stOf fun c => c.modPort 0 fun x => { x with mode := .up, time := { x.time with probes := [{ id := 7, t1 := some 5, t2 := none, t4 := none }] }, q := { x.q with rxT := [{ cell := mkCellW clsT 0x12 0 [] 0x30000007, stamp := 9 }] } }, 0, { cell := mkCellW clsT 0x12 0 [] 0x30000007, stamp := 9 }, 5, by decide⟩

theorem wit_HandshakeAndMarkers_6 : ∃ (s : State) (p : Port),
    (s.chip.inReset = false) ∧ (p.val < s.chip.nports) ∧ ((s.chip.port p.val).time.probes ≠ []) :=
  ⟨stOf fun c => c.modPort 0 fun x => { x with mode := .up, time := { x.time with probes := [{ id := 7, t1 := some 5, t2 := none, t4 := none }] } }, 0, by decide⟩

theorem wit_HandshakeAndMarkers_7 : ∃ (s : State) (p : Port) (r : RxT),
    (s.chip.inReset = false) ∧ (p.val < s.chip.nports) ∧ (s.chip.headT p.val 0x10 = some r) :=
  ⟨stOf fun c => c.modPort 0 fun x => { x with mode := .up, q := { x.q with rxT := [{ cell := mkCellW clsT 0x10 0 [] 0x10030000, stamp := 9 }] } }, 0, { cell := mkCellW clsT 0x10 0 [] 0x10030000, stamp := 9 }, by decide⟩

theorem wit_HandshakeAndMarkers_8 : ∃ (s : State) (p : Port),
    (s.chip.inReset = false) ∧ (p.val < s.chip.nports) ∧ (s.chip.isUp p.val = true) :=
  ⟨stOf fun c => c.modPort 0 fun x => { x with mode := .up, tqual := true, qual := { x.qual with ok := true } }, 0, by decide⟩

theorem wit_TreeFormation_1 : ∃ (s : State) ,
    (s.chip.id.hub = true) ∧ (s.chip.inReset = false) ∧ (s.chip.tr.mode = .rootwait) ∧ (s.chip.tr.joinedSinceReset = false) ∧ (s.chip.upUsable 64 = false) ∧ (s.chip.upUsable 65 = false) :=
  ⟨hubOf fun c => { c with tr := { c.tr with mode := .rootwait } }, by decide⟩

theorem wit_TreeFormation_2 : ∃ (s : State) (m : Master),
    (s.chip.id.hub = true) ∧ (s.chip.opens m 0x09 = true) ∧ (s.chip.tr.mode = .orphan ∨ s.chip.tr.mode = .conflict) :=
  ⟨hubOf fun c => { c with tr := { c.tr with mode := .orphan } }, .host, by decide⟩

theorem wit_TreeFormation_3 : ∃ (s : State) (m : Master),
    (s.chip.id.hub = true) ∧ (s.chip.opens m 0x09 = true) ∧ (s.chip.tr.mode = .conflict) ∧ (s.chip.upUsable 64 = true ∨ s.chip.upUsable 65 = true) :=
  ⟨hubOf fun c => ({ c with tr := { c.tr with mode := .conflict } }).modPort 64 fun x => { x with mode := .up }, .host, by decide⟩

theorem wit_TreeFormation_4 : ∃ (s : State) (m : Master),
    (s.chip.id.hub = true) ∧ (s.chip.opens m 0x09 = true) ∧ (s.chip.tr.mode = .joined) ∧ (s.chip.tr.upAlt = true) ∧ (s.chip.upUsable 64 = true) ∧ ((s.chip.port 64).tqual = true) ∧ ((s.chip.port 64).qual.ok = true) ∧ ((s.chip.port 64).pmaLatOk = true) ∧ ((s.chip.port 64).freqOk = true) :=
  ⟨hubOf fun c => ({ c with tr := { c.tr with mode := .joined, upAlt := true } }).modPort 64 fun x => { x with mode := .up, tqual := true, pmaLatOk := true, freqOk := true, qual := { x.qual with ok := true } }, .host, by decide⟩

theorem wit_TreeFormation_5 : ∃ (s : State) ,
    (s.chip.inReset = false) ∧ (s.chip.tr.firstUp = true) ∧ (s.chip.sv.mode ≠ .locked) ∧ (s.chip.tr.startSlow = false) :=
  ⟨stOf fun c => { c with tr := { c.tr with firstUp := true } }, by decide⟩

theorem wit_TreeFormation_6 : ∃ (s : State) (u : Nat),
    (s.chip.id.hub = true) ∧ (s.chip.inReset = false) ∧ (s.chip.upPort = some u) ∧ (s.chip.tr.mode = .joined ∨ s.chip.tr.mode = .discover) ∧ (s.chip.tr.lastSummary ≠ some s.chip.summaryWords) ∧ (s.chip.carries u = true) ∧ ((s.chip.port u).q.txM.length < 64) ∧ (((s.chip.port u).q.wait.any fun w => w.1 == clsM) = false) :=
  ⟨hubOf fun c => ({ c with tr := { c.tr with mode := .joined } }).modPort 64 fun x => { x with mode := .up }, 64, by decide⟩

theorem wit_TreeFormation_7 : ∃ (s : State) (p : Port) (x : Cell),
    (s.chip.id.hub = true) ∧ (s.chip.inReset = false) ∧ (p.val < 64) ∧ (s.chip.headM p.val 0x45 = some x) ∧ (Word.field (x.pay 2) 24 8 = 1) :=
  ⟨hubOf fun c => c.modPort 0 fun x => { x with mode := .up, q := { x.q with rxM := [mkCell clsM 0x45 0 [0x01600000, 3, 2, 1, 0, 0]] } }, 0, mkCell clsM 0x45 0 [0x01600000, 3, 2, 1, 0, 0], by decide⟩

theorem wit_ReflectTraceLoss_1 : ∃ (s : State) (p : Port) (x : Cell),
    (s.chip.id.hub = false) ∧ (s.chip.inReset = false) ∧ (p.val < 2) ∧ (s.chip.isUp p.val = true) ∧ (s.chip.headM p.val 0x45 = some x) ∧ (Word.field (x.pay 2) 24 8 = 2) ∧ (s.chip.reflOlder (x.payload.take 5) = false) ∧ (SMap.find s.chip.tr.kept (1 - p.val) [] = [] ∨ reflAddr (SMap.find s.chip.tr.kept (1 - p.val) []) = reflAddr (x.payload.take 5)) :=
  ⟨stOf fun c => c.modPort 0 fun x => { x with mode := .up, q := { x.q with rxM := [mkCell clsM 0x45 0 [0x02580001, 0x41, 0x01600000, 9, 0]] } }, 0, mkCell clsM 0x45 0 [0x02580001, 0x41, 0x01600000, 9, 0], by decide⟩

theorem wit_ReflectTraceLoss_2 : ∃ (s : State) (p : Port) (x : Cell),
    (s.chip.id.hub = true) ∧ (s.chip.inReset = false) ∧ (p.val = s.chip.activeUp) ∧ (s.chip.upUsable p.val = true) ∧ (s.chip.upUsable (129 - p.val) = false) ∧ (s.chip.tr.mode ≠ .crown) ∧ (s.chip.tr.mode ≠ .conflict) ∧ (s.chip.headM p.val 0x45 = some x) ∧ (Word.field (x.pay 2) 24 8 = 2) ∧ (s.chip.reflOlder (x.payload.take 5) = false) ∧ (s.chip.tr.addr = none ∨ s.chip.tr.addrFrom = none ∨ s.chip.tr.addrFrom = some p.val) :=
  ⟨hubOf fun c => ({ c with tr := { c.tr with mode := .discover } }).modPort 64 fun x => { x with mode := .up, q := { x.q with rxM := [mkCell clsM 0x45 0 [0x02680001, 0x40, 0x01700000, 9, 0]] } }, 64, mkCell clsM 0x45 0 [0x02680001, 0x40, 0x01700000, 9, 0], by decide⟩

theorem wit_ReflectTraceLoss_3 : ∃ (s : State) (p : Port) (x : Cell),
    (s.chip.id.hub = true) ∧ (s.chip.inReset = false) ∧ (64 ≤ p.val) ∧ (p.val < 66) ∧ (p.val ≠ s.chip.activeUp) ∧ (s.chip.headM p.val 0x45 = some x) ∧ (Word.field (x.pay 2) 24 8 = 2) :=
  ⟨hubOf fun c => ({ c with tr := { c.tr with mode := .joined } }).modPort 65 fun x => { x with mode := .up, q := { x.q with rxM := [mkCell clsM 0x45 0 [0x02680001, 0x40, 0x01700000, 9, 0]] } }, 65, mkCell clsM 0x45 0 [0x02680001, 0x40, 0x01700000, 9, 0], by decide⟩

theorem wit_ReflectTraceLoss_4 : ∃ (s : State) (p : Port) (x : Cell),
    (s.chip.id.hub = true) ∧ (s.chip.inReset = false) ∧ (p.val < 64) ∧ (s.chip.headM p.val 0x45 = some x) ∧ (Word.field (x.pay 2) 24 8 = 2) :=
  ⟨hubOf fun c => c.modPort 0 fun x => { x with mode := .up, q := { x.q with rxM := [mkCell clsM 0x45 0 [0x02580001, 0x41, 0x01600000, 9, 0]] } }, 0, mkCell clsM 0x45 0 [0x02580001, 0x41, 0x01600000, 9, 0], by decide⟩

theorem wit_ReflectTraceLoss_5 : ∃ (s : State) (p : Port) (x : Cell),
    (s.chip.id.hub = true) ∧ (s.chip.inReset = false) ∧ (p.val < 64) ∧ (s.chip.headM p.val 0x45 = some x) ∧ (Word.field (x.pay 2) 24 8 = 4) ∧ (Word.field (x.pay 4) 0 16 * 2 ^ 32 + (x.pay 3).toNat = s.chip.id.uid) ∧ (Word.field (x.pay 6) 0 16 * 2 ^ 32 + (x.pay 5).toNat = s.chip.id.uid) ∧ (s.chip.upPort = some s.chip.activeUp) :=
  ⟨hubOf fun c => (c.modPort 64 fun x => { x with mode := .up }).modPort 0 fun x => { x with mode := .up, q := { x.q with rxM := [mkCell clsM 0x45 0 [0x04000001, 0, 0, 0, 0]] } }, 0, mkCell clsM 0x45 0 [0x04000001, 0, 0, 0, 0], by decide⟩

theorem wit_ReflectTraceLoss_6 : ∃ (s : State) (p : Port) (x : Cell) (u : Nat),
    (s.chip.id.hub = true) ∧ (s.chip.inReset = false) ∧ (p.val < 64) ∧ (s.chip.headM p.val 0x45 = some x) ∧ (Word.field (x.pay 2) 24 8 = 4) ∧ (Word.field (x.pay 4) 0 16 * 2 ^ 32 + (x.pay 3).toNat ≠ s.chip.id.uid) ∧ (Word.field (x.pay 2) 0 8 < 8) ∧ (s.chip.tr.mode ≠ .crown) ∧ (s.chip.tr.mode ≠ .conflict) ∧ (s.chip.tr.mode ≠ .crownless) ∧ (s.chip.upPort = some u) :=
  ⟨hubOf fun c => ((({ c with tr := { c.tr with mode := .joined } }).modPort 64 fun x => { x with mode := .up }).modPort 0 fun x => { x with mode := .up, q := { x.q with rxM := [mkCell clsM 0x45 0 [0x04000001, 7, 0, 7, 0]] } }), 0, mkCell clsM 0x45 0 [0x04000001, 7, 0, 7, 0], 64, by decide⟩

theorem wit_ReflectTraceLoss_7 : ∃ (s : State) (p : Port) (x : Cell),
    (s.chip.id.hub = true) ∧ (s.chip.inReset = false) ∧ (p.val < 64) ∧ (s.chip.headM p.val 0x45 = some x) ∧ (Word.field (x.pay 2) 24 8 = 4) ∧ (Word.field (x.pay 4) 0 16 * 2 ^ 32 + (x.pay 3).toNat ≠ s.chip.id.uid) ∧ (s.chip.tr.mode = .crown ∨ s.chip.tr.mode = .conflict ∨ s.chip.tr.mode = .crownless) :=
  ⟨hubOf fun c => ((({ c with tr := { c.tr with mode := .crown } }).modPort 64 fun x => { x with mode := .up }).modPort 0 fun x => { x with mode := .up, q := { x.q with rxM := [mkCell clsM 0x45 0 [0x04000001, 7, 0, 7, 0]] } }), 0, mkCell clsM 0x45 0 [0x04000001, 7, 0, 7, 0], by decide⟩

theorem wit_ReflectTraceLoss_8 : ∃ (s : State) (p : Port) (x : Cell),
    (s.chip.id.hub = true) ∧ (s.chip.inReset = false) ∧ (p.val < 64) ∧ (s.chip.headM p.val 0x45 = some x) ∧ (Word.field (x.pay 2) 24 8 = 3) ∧ ((s.chip.port p.val).peerHub = false) ∧ (s.chip.dieCounts p.val = true) :=
  ⟨hubOf fun c => ({ c with tr := { c.tr with mode := .crown, level := 6, sentReflect := [(0, [0])] } }).modPort 0 fun x => { x with mode := .up, peer := some [0, 0x80000000], q := { x.q with rxM := [mkCell clsM 0x45 0 [0x03530000, 0x41, 1, 0, 0, 0]] } }, 0, mkCell clsM 0x45 0 [0x03530000, 0x41, 1, 0, 0, 0], by decide⟩

theorem wit_ReflectTraceLoss_9 : ∃ (s : State) (p : Port) (x : Cell),
    (s.chip.id.hub = true) ∧ (s.chip.inReset = false) ∧ (p.val < 64) ∧ (s.chip.headM p.val 0x45 = some x) ∧ (Word.field (x.pay 2) 24 8 = 3) ∧ ((s.chip.port p.val).peerHub = true) :=
  ⟨hubOf fun c => (c.modKid 0 fun k => { k with level := 6, members := 5 }).modPort 0 fun x => { x with mode := .up, peer := some [0x80000000], q := { x.q with rxM := [mkCell clsM 0x45 0 [0x03510000, 0x41, 2, 0, 0, 0]] } }, 0, mkCell clsM 0x45 0 [0x03510000, 0x41, 2, 0, 0, 0], by decide⟩

theorem wit_RemoteAccessIssue_1 : ∃ (s : State) (m : Master) (w : Word) (q : Nat),
    (s.chip.id.hub = true) ∧ (s.chip.opens m 0x09 = true) ∧ (Word.field w 28 4 = 1 ∨ Word.field w 28 4 = 2) ∧ (s.chip.tr.rrsp.length < 16) ∧ (s.chip.below (Word.field (s.chip.regOf m Reg.TR_RRA_TGT) 0 24) = true) ∧ (SMap.has s.chip.tr.tags (Word.field w 0 4) = false) ∧ (s.chip.rraPort (Word.field (s.chip.regOf m Reg.TR_RRA_TGT) 0 24) = some q) ∧ (s.chip.carries q = true) ∧ ((s.chip.port q).q.txM.length < 64) ∧ (((s.chip.port q).q.wait.any fun w => w.1 == clsM) = false) :=
  ⟨hubOf fun c => (({ c with tr := { c.tr with mode := .crown, level := 6, addr := some 0 } }).modPort 1 fun x => { x with mode := .up }).setReg Reg.TR_RRA_TGT 1, .host, 0x10000003, 1, by decide⟩

theorem wit_RemoteAccessIssue_2 : ∃ (s : State) (m : Master) (w : Word),
    (s.chip.id.hub = true) ∧ (s.chip.opens m 0x09 = true) ∧ (Word.field w 28 4 = 1 ∨ Word.field w 28 4 = 2) ∧ (s.chip.tr.rrsp.length < 16) ∧ (s.chip.below (Word.field (s.chip.regOf m Reg.TR_RRA_TGT) 0 24) = false) :=
  ⟨hubOf fun c => ({ c with tr := { c.tr with mode := .crown, level := 6, addr := some 0 } }).setReg Reg.TR_RRA_TGT 0x800000, .host, 0x10000003, by decide⟩

theorem wit_RemoteAccessIssue_3 : ∃ (s : State) (m : Master) (w : Word),
    (s.chip.id.hub = true) ∧ (s.chip.opens m 0x09 = true) ∧ (Word.field w 28 4 = 1 ∨ Word.field w 28 4 = 2) ∧ (s.chip.tr.rrsp.length < 16) ∧ (s.chip.below (Word.field (s.chip.regOf m Reg.TR_RRA_TGT) 0 24) = true) ∧ (SMap.has s.chip.tr.tags (Word.field w 0 4) = true) :=
  ⟨hubOf fun c => ({ c with tr := { c.tr with mode := .crown, level := 6, addr := some 0, tags := [(3, { target := 1, rseq := 0 })] } }).setReg Reg.TR_RRA_TGT 1, .host, 0x10000003, by decide⟩

theorem wit_RemoteAccessIssue_4 : ∃ (s : State) (p : Port) (x : Cell) (o : RraOut),
    (s.chip.id.hub = true) ∧ (s.chip.inReset = false) ∧ (s.chip.headM p.val 0x41 = some x) ∧ (x.pay 4 = s.chip.issuerWord) ∧ (SMap.find (s.chip.tr.tags.map fun e => (e.1, some e.2)) (Word.field (x.pay 2) 28 4) none = some o) ∧ (o.rseq = Word.field (x.pay 2) 20 8) ∧ (s.chip.tr.rrsp.length < 16) :=
  ⟨hubOf fun c => ({ c with tr := { c.tr with tags := [(3, { target := 1, rseq := 0 })], level := 0 } }).modPort 0 fun x => { x with mode := .up, q := { x.q with rxM := [mkCell clsM 0x41 0 [0x30000000, 77, 0]] } }, 0, mkCell clsM 0x41 0 [0x30000000, 77, 0], { target := 1, rseq := 0 }, by decide⟩

theorem wit_RemoteAccessIssue_5 : ∃ (s : State) (p : Port) (x : Cell),
    (s.chip.id.hub = true) ∧ (s.chip.inReset = false) ∧ (s.chip.headM p.val 0x41 = some x) ∧ (x.pay 4 = s.chip.issuerWord) ∧ (((SMap.find (s.chip.tr.tags.map fun e => (e.1, some e.2)) (Word.field (x.pay 2) 28 4) none).all fun o => o.rseq != Word.field (x.pay 2) 20 8) = true) :=
  ⟨hubOf fun c => ({ c with tr := { c.tr with tags := [(3, { target := 1, rseq := 0 })], level := 0 } }).modPort 0 fun x => { x with mode := .up, q := { x.q with rxM := [mkCell clsM 0x41 0 [0x30100000, 77, 0]] } }, 0, mkCell clsM 0x41 0 [0x30100000, 77, 0], by decide⟩

theorem wit_RemoteAccessIssue_6 : ∃ (s : State) (p : Port) (x : Cell) (u : Nat),
    (s.chip.id.hub = true) ∧ (s.chip.inReset = false) ∧ (s.chip.headM p.val 0x41 = some x) ∧ (x.pay 4 ≠ s.chip.issuerWord) ∧ (s.chip.upPort = some u) ∧ (u ≠ p.val) ∧ (s.chip.carries u = true) ∧ ((s.chip.port u).q.txM.length < 64) ∧ (((s.chip.port u).q.wait.any fun w => w.1 == clsM) = false) :=
  ⟨hubOf fun c => ((({ c with tr := { c.tr with mode := .joined } }).modPort 64 fun x => { x with mode := .up }).modPort 0 fun x => { x with mode := .up, q := { x.q with rxM := [mkCell clsM 0x41 0 [0x30000000, 77, 0x07000040]] } }), 0, mkCell clsM 0x41 0 [0x30000000, 77, 0x07000040], 64, by decide⟩

theorem wit_RemoteAccessIssue_7 : ∃ (s : State) (tag : Tag) (o : RraOut),
    (s.chip.id.hub = true) ∧ (s.chip.inReset = false) ∧ (SMap.find (s.chip.tr.tags.map fun e => (e.1, some e.2)) tag.val none = some o) ∧ (s.chip.tr.rrsp.length < 16) :=
  ⟨hubOf fun c => { c with tr := { c.tr with tags := [(3, { target := 1, rseq := 0 })] } }, 3, { target := 1, rseq := 0 }, by decide⟩

theorem wit_RemoteAccessIssue_8 : ∃ (s : State) (m : Master),
    (s.chip.id.hub = true) ∧ (s.chip.opens m 0x09 = true) :=
  ⟨hubOf fun c => c, .host, by decide⟩

theorem wit_RemoteAccessIssue_9 : ∃ (s : State) (m : Master),
    (s.chip.id.hub = true) ∧ (s.chip.opens m 0x09 = true) :=
  ⟨hubOf fun c => c, .host, by decide⟩

theorem wit_RemoteAccessIssue_10 : ∃ (s : State) (m : Master),
    (s.chip.id.hub = true) ∧ (s.chip.opens m 0x09 = true) :=
  ⟨hubOf fun c => c, .host, by decide⟩

theorem wit_RemoteAccessIssue_11 : ∃ (s : State) (p : Port) (x : Cell),
    (s.chip.id.hub = true) ∧ (s.chip.inReset = false) ∧ (s.chip.mgmtNote = true) ∧ (s.chip.headM p.val 0x44 = some x) ∧ ((s.chip.tr.inq.any fun e => e.1 == Word.field (x.pay 4) 0 24) = false) ∧ (s.chip.tr.inq.length < 32) :=
  ⟨hubOf fun c => (c.setReg Reg.TR_CFG 0x00400000).modPort 0 fun x => { x with mode := .up, q := { x.q with rxM := [mkCell clsM 0x44 0 [1, 2, 3]] } }, 0, mkCell clsM 0x44 0 [1, 2, 3], by decide⟩

theorem wit_RemoteAccessIssue_12 : ∃ (s : State) (p : Port) (x : Cell) (u : Nat),
    (s.chip.id.hub = true) ∧ (s.chip.inReset = false) ∧ (s.chip.mgmtNote = false) ∧ (s.chip.headM p.val 0x44 = some x) ∧ (s.chip.upPort = some u) ∧ (u ≠ p.val) ∧ (s.chip.carries u = true) ∧ ((s.chip.port u).q.txM.length < 64) ∧ (((s.chip.port u).q.wait.any fun w => w.1 == clsM) = false) :=
  ⟨hubOf fun c => ((({ c with tr := { c.tr with mode := .joined } }).setReg Reg.TR_CFG 0).modPort 64 fun x => { x with mode := .up }).modPort 0 fun x => { x with mode := .up, q := { x.q with rxM := [mkCell clsM 0x44 0 [1, 2, 3]] } }, 0, mkCell clsM 0x44 0 [1, 2, 3], 64, by decide⟩

theorem wit_RemoteAccessRoute_1 : ∃ (s : State) (p : Port) (x : Cell) (q : Nat),
    (s.chip.id.hub = true) ∧ (s.chip.inReset = false) ∧ (s.chip.headM p.val 0x40 = some x) ∧ (s.chip.rraPort (Word.field (x.pay 2) 0 24) = some q) ∧ (q ≠ p.val) ∧ (s.chip.carries q = true) ∧ ((s.chip.port q).q.txM.length < 64) ∧ (((s.chip.port q).q.wait.any fun w => w.1 == clsM) = false) :=
  ⟨hubOf fun c => (({ c with tr := { c.tr with mode := .joined, level := 6, addr := some 0 } }).modPort 1 fun x => { x with mode := .up }).modPort 64 fun x => { x with mode := .up, q := { x.q with rxM := [mkCell clsM 0x40 0 [0x10000001, 0, 0, 0]] } }, 64, mkCell clsM 0x40 0 [0x10000001, 0, 0, 0], 1, by decide⟩

theorem wit_RemoteAccessRoute_2 : ∃ (s : State) (p : Port) (x : Cell),
    (s.chip.id.hub = false) ∧ (s.chip.inReset = false) ∧ (p.val < 2) ∧ (s.chip.headM p.val 0x40 = some x) ∧ (Word.field (x.pay 2) 28 4 = 1 ∨ Word.field (x.pay 2) 28 4 = 2) ∧ (s.chip.held = []) :=
  ⟨stOf fun c => c.modPort 1 fun x => { x with mode := .up, q := { x.q with rxM := [mkCell clsM 0x40 0 [0x10000001, 0x01090, 55, 0]] } }, 1, mkCell clsM 0x40 0 [0x10000001, 0x01090, 55, 0], by decide⟩

theorem wit_RemoteAccessRoute_3 : ∃ (s : State) (p : Port) (x : Cell),
    (s.chip.id.hub = false) ∧ (s.chip.inReset = false) ∧ (p.val < 2) ∧ (s.chip.headM p.val 0x40 = some x) ∧ (Word.field (x.pay 2) 28 4 = 2) ∧ (Word.field (x.pay 3) 0 18 = 0x01090) ∧ (s.chip.held = []) :=
  ⟨stOf fun c => c.modPort 0 fun x => { x with mode := .up, q := { x.q with rxM := [mkCell clsM 0x40 0 [0x20000001, 0x01090, 55, 0]] } }, 0, mkCell clsM 0x40 0 [0x20000001, 0x01090, 55, 0], by decide⟩

theorem wit_ServoWindows_1 : ∃ (s : State) (k : Nat),
    (s.chip.inReset = false) ∧ (s.chip.crownOn = false) :=
  ⟨stOf fun c => c.modCh 1 fun y => { y with window := List.replicate 40 7 }, 1, by decide⟩

theorem wit_ServoWindows_2 : ∃ (s : State) (k r : Nat),
    (s.chip.id.hub = true) ∧ (s.chip.inReset = false) ∧ (s.chip.crownOn = true) ∧ (k < 2) ∧ (s.chip.chRef k = some r) ∧ (s.chip.refType r ≠ 6) ∧ ((s.chip.ref r).qualified = true) :=
  ⟨hubOf fun c => ({ c with tr := { c.tr with mode := .crown }, rf := { c.rf with selected := some 2 } }).modRef 2 fun x => { x with qualified := true, phase := 9 }, 0, 2, by decide⟩

theorem wit_ServoWindows_3 : ∃ (s : State) ,
    (s.chip.inReset = false) :=
  ⟨State.reset, by decide⟩

theorem wit_ServoWindows_4 : ∃ (s : State) (m : Master),
    (s.chip.opens m 0x03 = true) :=
  ⟨State.reset, .host, by decide⟩

theorem wit_ServoWindows_5 : ∃ (s : State) (m : Master),
    (s.chip.opens m 0x03 = true) :=
  ⟨State.reset, .host, by decide⟩

theorem wit_ServoWindows_6 : ∃ (s : State) (m : Master) (w : Word) (k : Nat),
    (s.chip.opens m 0x08 = true) ∧ (s.chip.portCh (s.chip.chanOf m 0x08) = some k) :=
  ⟨State.reset, .host, 3, 0, by decide⟩

theorem wit_ServoWindows_7 : ∃ (s : State) ,
    (s.chip.inReset = false) ∧ (s.chip.sv.mode = .locked) ∧ (s.chip.sv.horeadyFlag = false) :=
  ⟨stOf fun c => { c with sv := { c.sv with mode := .locked } }, by decide⟩

theorem wit_ServoTransitions_1 : ∃ (s : State) (m : Master),
    (s.chip.opens m 0x03 = true) ∧ (s.chip.tk.valid = true) ∧ (s.chip.sv.mode ∈ [.locked, .holdover, .holdExpired]) :=
  ⟨stOf fun c => { c with tk := { c.tk with valid := true }, sv := { c.sv with mode := .locked } }, .host, by decide⟩

theorem wit_ServoTransitions_2 : ∃ (s : State) ,
    (s.chip.id.hub = false) ∧ (s.chip.inReset = false) ∧ (s.chip.tk.valid = true) ∧ (s.chip.sv.mode = .holdover) ∧ (s.chip.isUp 0 = false) ∧ (s.chip.isUp 1 = false) :=
  ⟨stOf fun c => { c with tk := { c.tk with valid := true }, sv := { c.sv with mode := .holdover } }, by decide⟩

theorem wit_ServoTransitions_3 : ∃ (s : State) ,
    (s.chip.inReset = true) ∧ (s.chip.sv.mode = .holdover) :=
  ⟨stOf fun c => { c with inReset := true, sv := { c.sv with mode := .holdover } }, by decide⟩

theorem wit_ServoTransitions_4 : ∃ (s : State) ,
    (s.chip.id.hub = false) ∧ (s.chip.inReset = false) ∧ (s.chip.pllChoice.1 ≠ 0) ∧ (s.chip.sv.freqLocked = false) :=
  ⟨stOf fun c => c.modPort 0 fun x => { x with mode := .up, tqual := true, pmaLatOk := true, freqOk := true, qual := { x.qual with ok := true } }, by decide⟩

theorem wit_ServoTransitions_5 : ∃ (s : State) ,
    (s.chip.inReset = false) ∧ (s.chip.pllChoice.1 ≠ 0) ∧ (s.chip.sv.freqLocked = true) :=
  ⟨stOf fun c => ({ c with sv := { c.sv with freqLocked := true } }).modPort 0 fun x => { x with mode := .up, tqual := true, pmaLatOk := true, freqOk := true, qual := { x.qual with ok := true } }, by decide⟩

theorem wit_ServoTransitions_6 : ∃ (s : State) (m : Master),
    (s.chip.id.hub = false) ∧ (s.chip.opens m 0x03 = true) ∧ (s.chip.sv.chan ≤ 1) ∧ (s.chip.good (1 - s.chip.sv.chan) = true) ∧ ((s.chip.port (s.chip.chPort (1 - s.chip.sv.chan))).qual.ok = true) ∧ ((s.chip.port (s.chip.chPort (1 - s.chip.sv.chan))).pmaLatOk = true) ∧ ((s.chip.port (s.chip.chPort (1 - s.chip.sv.chan))).freqOk = true) :=
  ⟨stOf fun c => (c.modCh 1 fun y => { y with offValid := true, pvalid := true, psv := 2 }).modPort 1 fun x => { x with mode := .up, tqual := true, pmaLatOk := true, freqOk := true, qual := { x.qual with ok := true } }, .host, by decide⟩

theorem wit_ServoTransitions_7 : ∃ (s : State) (m : Master),
    (s.chip.opens m 0x03 = true) ∧ (s.chip.good (1 - s.chip.sv.chan) = false) :=
  ⟨State.reset, .host, by decide⟩

theorem wit_ServoTransitions_8 : ∃ (s : State) ,
    (s.chip.id.hub = false) ∧ (s.chip.inReset = false) ∧ (Word.bit (s.chip.reg Reg.SV_CFG) 31 = true) ∧ (s.chip.sv.chan = 1) ∧ (s.chip.good 0 = true) ∧ ((s.chip.port (s.chip.chPort 0)).qual.ok = true) ∧ ((s.chip.port (s.chip.chPort 0)).pmaLatOk = true) ∧ ((s.chip.port (s.chip.chPort 0)).freqOk = true) :=
  ⟨stOf fun c => (({ c with sv := { c.sv with chan := 1 } }).setReg Reg.SV_CFG 0x80000000).modCh 0 (fun y => { y with offValid := true, pvalid := true, psv := 2 }) |>.modPort 0 fun x => { x with mode := .up, tqual := true, pmaLatOk := true, freqOk := true, qual := { x.qual with ok := true } }, by decide⟩

theorem wit_ReferenceQualification_1 : ∃ (s : State) (r : RefIn),
    (s.chip.id.hub = true) ∧ (s.chip.inReset = false) ∧ (s.chip.refOn r.val = true) ∧ (s.chip.refSignal r.val = true) ∧ (s.chip.refWithin r.val = true) ∧ (s.chip.refType r.val ≠ 6 ∨ ((s.chip.port 65).mode = .up ∧ (s.chip.port 65).qual.ok = true ∧ (s.chip.port 65).pmaLatOk = true ∧ (s.chip.port 65).freqOk = true)) ∧ ((s.chip.ref r.val).qualified = false) :=
  ⟨hubOf fun c => (c.setReg Reg.RF_RCFG 0x87020000 0).modRef 0 fun x => { x with signal := true }, 0, by decide⟩

theorem wit_ReferenceQualification_2 : ∃ (s : State) (r : RefIn),
    (s.chip.id.hub = true) ∧ (s.chip.inReset = false) ∧ ((s.chip.ref r.val).qualified = true) :=
  ⟨hubOf fun c => c.modRef 0 fun x => { x with qualified := true, eligible := true }, 0, by decide⟩

theorem wit_ReferenceQualification_3 : ∃ (s : State) (r : RefIn),
    (s.chip.id.hub = true) ∧ (s.chip.inReset = false) ∧ (s.chip.refOn r.val = true) ∧ (s.chip.refType r.val ≠ 6) ∧ ((s.chip.ref r.val).qualified = true) :=
  ⟨hubOf fun c => (c.setReg Reg.RF_RCFG 0x87020000 0).modRef 0 fun x => { x with signal := true, qualified := true }, 0, by decide⟩

theorem wit_ReferenceQualification_4 : ∃ (s : State) (r : RefIn),
    (s.chip.id.hub = true) ∧ (s.chip.inReset = false) ∧ (s.chip.refType r.val ≠ 6 ∨ ((s.chip.port 65).mode = .up ∧ (s.chip.port 65).qual.ok = true ∧ (s.chip.port 65).pmaLatOk = true ∧ (s.chip.port 65).freqOk = true)) ∧ ((s.chip.ref r.val).qualified = true) ∧ ((s.chip.ref r.val).wtrStart.isSome = true) :=
  ⟨hubOf fun c => c.modRef 0 fun x => { x with qualified := true, wtrStart := some 0, wasDisq := true }, 0, by decide⟩

theorem wit_ReferenceQualification_5 : ∃ (s : State) (m : Master) (w : Word),
    (s.chip.opens m 0x04 = true) ∧ (s.chip.locked 0x04 = false) :=
  ⟨hubOf fun c => c, .host, 0x87020000, by decide⟩

theorem wit_ReferenceQualification_6 : ∃ (s : State) (m : Master) (w : Word),
    (s.chip.opens m 0x04 = true) :=
  ⟨hubOf fun c => c, .host, 0x80000003, by decide⟩

theorem wit_ReferenceQualification_7 : ∃ (s : State) (r q : RefIn),
    (s.chip.id.hub = true) ∧ (s.chip.inReset = false) ∧ (s.chip.rf.selected = some r.val) ∧ ((s.chip.ref r.val).qualified = true) ∧ (Word.bit (s.chip.reg Reg.RF_FORCE) 31 = false) ∧ (q.val ≠ r.val) ∧ ((s.chip.refOn q.val && (s.chip.ref q.val).eligible && s.chip.timeCapable q.val) = true) ∧ (((List.range 8).all fun j => j == r.val || !(s.chip.refOn j && (s.chip.ref j).eligible && s.chip.timeCapable j) || decide (s.chip.refPrio q.val < s.chip.refPrio j ∨ (s.chip.refPrio q.val = s.chip.refPrio j ∧ q.val ≤ j))) = true) ∧ (s.chip.ev.queue.length < 32) :=
  ⟨hubOf fun c => ((((c.setReg Reg.RF_RCFG 0x82010000 0).setReg Reg.RF_RCFG 0x83010100 1).modRef 0 fun x => { x with signal := true, qualified := true, eligible := true }).modRef 1 fun x => { x with signal := true, qualified := true, eligible := true }) |> fun c => { c with rf := { c.rf with selected := some 0 } }, 0, 1, by decide⟩

theorem wit_ReferenceQualification_8 : ∃ (s : State) (r : RefIn),
    (s.chip.id.hub = true) ∧ (s.chip.inReset = false) ∧ (s.chip.rf.selected = some r.val) ∧ ((s.chip.ref r.val).qualified = true) ∧ (Word.bit (s.chip.reg Reg.RF_FORCE) 31 = false) ∧ (((List.range 8).all fun j => j == r.val || !(s.chip.refOn j && (s.chip.ref j).eligible && s.chip.timeCapable j)) = true) :=
  ⟨hubOf fun c => ((((c.setReg Reg.RF_RCFG 0x82010000 0).setReg Reg.RF_RCFG 0x83010100 1).modRef 0 fun x => { x with signal := true, qualified := true, eligible := true }).modRef 1 fun x => { x with signal := true, qualified := true }) |> fun c => { c with rf := { c.rf with selected := some 0 } }, 0, by decide⟩

theorem wit_ReferenceQualification_9 : ∃ (s : State) (r q : RefIn),
    (s.chip.id.hub = true) ∧ (s.chip.inReset = false) ∧ (s.chip.rf.selected = some r.val) ∧ ((s.chip.ref r.val).eligible = true) ∧ (s.chip.refOn r.val = true) ∧ (s.chip.timeCapable r.val = true) ∧ (s.chip.refType r.val ≠ 6) ∧ (Word.bit (s.chip.reg Reg.RF_FORCE) 31 = false) ∧ (q.val ≠ r.val) ∧ (s.chip.refOn q.val = true) ∧ (s.chip.timeCapable q.val = true) ∧ (s.chip.refType q.val ≠ 6) ∧ ((s.chip.ref q.val).qualified = true) ∧ ((s.chip.ref q.val).wtrStart.isSome = true) ∧ (((List.range 8).all fun j => j == q.val || !(s.chip.refOn j && (s.chip.ref j).eligible && s.chip.timeCapable j) || decide (s.chip.refPrio q.val < s.chip.refPrio j ∨ (s.chip.refPrio q.val = s.chip.refPrio j ∧ q.val ≤ j))) = true) :=
  ⟨hubOf fun c => (((((c.setReg Reg.RF_RCFG 0x82010000 0).setReg Reg.RF_RCFG 0x83010100 1).setReg Reg.RF_CFG 0x80000000).modRef 0 fun x => { x with signal := true, qualified := true, wtrStart := some 0, wasDisq := true }).modRef 1 fun x => { x with signal := true, qualified := true, eligible := true }) |> fun c => { c with rf := { c.rf with selected := some 1 } }, 1, 0, by decide⟩

theorem wit_ReferenceQualification_10 : ∃ (s : State) (m : Master) (w : Word) (q : RefIn),
    (s.chip.opens m 0x04 = true) ∧ (Word.bit w 31 = true) ∧ (Word.field w 0 3 = q.val) ∧ (s.chip.refOn q.val = true) ∧ (s.chip.timeCapable q.val = true) ∧ (s.chip.refType q.val ≠ 6) ∧ ((s.chip.ref q.val).qualified = true) :=
  ⟨hubOf fun c => ((((c.setReg Reg.RF_RCFG 0x82010000 0).setReg Reg.RF_RCFG 0x83010100 1).modRef 0 fun x => { x with signal := true, qualified := true, eligible := true }).modRef 1 fun x => { x with signal := true, qualified := true }) |> fun c => { c with rf := { c.rf with selected := some 0 } }, .host, 0x80000001, 1, by decide⟩

theorem wit_ReferenceTime_1 : ∃ (s : State) (pin : OutPin) (phase : Fin 64),
    (s.chip.id.hub = true) ∧ (s.chip.inReset = false) ∧ (s.chip.pw.io = true) :=
  ⟨hubOf fun c => c.setReg Reg.RF_RCFG 0x87020000 0, 0, 3, by decide⟩

theorem wit_ReferenceTime_2 : ∃ (s : State) (pin : OutPin),
    (s.chip.id.hub = true) ∧ (s.chip.inReset = false) ∧ (s.chip.pw.io = true) ∧ (((s.chip.pinRefs pin.val).filter fun r => s.chip.refType r == 1) ≠ []) ∧ ((s.chip.po1 pin.val).inverted = false) :=
  ⟨hubOf fun c => c.setReg Reg.RF_RCFG 0x87010000 0, 0, by decide⟩

theorem wit_ReferenceTime_3 : ∃ (s : State) (u : Fin 2) (utc : BitVec 40) (r n : Nat),
    (s.chip.id.hub = true) ∧ (s.chip.inReset = false) ∧ (s.chip.pw.io = true) ∧ (s.chip.fw.running = true) ∧ (r < 8) ∧ (s.chip.refOn r = true) ∧ (s.chip.refType r = 1) ∧ (s.chip.refSrc r % 2 = u.val) ∧ ((s.chip.ref r).lastEdge = some n) ∧ (10 * 1000000 * nsUnit ≤ timeDiff s.chip.now n) ∧ (timeDiff s.chip.now n ≤ 950 * 1000000 * nsUnit) :=
  ⟨hubOf fun c => ({ c with fw := { c.fw with running := true }, tk := { c.tk with tAnchor := 100000000 * 2 ^ 56 } }.setReg Reg.RF_RCFG 0x87010000 0).modRef 0 fun x => { x with lastEdge := some 0 }, 0, 9, 0, 0, by decide⟩

theorem wit_ReferenceTime_4 : ∃ (s : State) (msg : PtpMsg) (r : Nat),
    (s.chip.id.hub = true) ∧ (s.chip.inReset = false) ∧ (s.chip.fw.running = true) ∧ ((((List.range 8).filter fun r => s.chip.refOn r && s.chip.refType r == 4 && s.chip.refSrc r % 64 == msg.tap.val).find? fun r => Word.field (s.chip.refCfg r) 0 8 == msg.domain.toNat) = some r) ∧ (msg.kind = .sync) ∧ (msg.stamped = true) ∧ (msg.twoStep = true) :=
  ⟨hubOf fun c => { c with fw := { c.fw with running := true } }.setReg Reg.RF_RCFG 0x87040100 0, { tap := 1, domain := 0, src := 5, kind := .sync, seq := 3, twoStep := true, stamped := true }, 0, by decide⟩

theorem wit_ReferenceTime_5 : ∃ (s : State) (msg : PtpMsg) (r f : Nat),
    (s.chip.id.hub = true) ∧ (s.chip.inReset = false) ∧ (s.chip.fw.running = true) ∧ ((((List.range 8).filter fun r => s.chip.refOn r && s.chip.refType r == 4 && s.chip.refSrc r % 64 == msg.tap.val).find? fun r => Word.field (s.chip.refCfg r) 0 8 == msg.domain.toNat) = some r) ∧ (msg.kind = .followUp) ∧ ((s.chip.ref r).ptpSync = some (msg.seq.toNat, f)) ∧ (s.chip.tk.frc - f ≤ 1600000000) :=
  ⟨hubOf fun c => ({ c with fw := { c.fw with running := true } }.setReg Reg.RF_RCFG 0x87040100 0).modRef 0 fun x => { x with ptpSync := some (3, 0) }, { tap := 1, domain := 0, src := 5, kind := .followUp, seq := 3, twoStep := true, stamped := false }, 0, 0, by decide⟩

theorem wit_ReferenceTime_6 : ∃ (s : State) ,
    (s.chip.id.hub = true) ∧ (s.chip.inReset = false) ∧ (s.chip.fw.running = true) ∧ (s.chip.crownOn = true) ∧ (s.chip.rf.holdover = true) ∧ (s.chip.rf.hoTraceDone = false) :=
  ⟨hubOf fun c => { c with fw := { c.fw with running := true }, tr := { c.tr with mode := .crown }, rf := { c.rf with holdover := true } }.setReg Reg.TK_EPOCH 1, by decide⟩

theorem wit_ReferenceTime_7 : ∃ (s : State) ,
    (s.chip.id.hub = true) ∧ (s.chip.inReset = false) ∧ (s.chip.fw.running = true) ∧ (s.chip.rf.selected.isSome = true) :=
  ⟨hubOf fun c => { c with fw := { c.fw with running := true }, rf := { c.rf with selected := some 0 } }, by decide⟩

theorem wit_TapCalibration_1 : ∃ (s : State) (m : Master),
    (s.chip.opens m 0x0C = true) :=
  ⟨State.reset, .host, by decide⟩

theorem wit_TapCalibration_2 : ∃ (s : State) (hops : List HopMeas) (k : Nat),
    (s.chip.id.hub = false) ∧ (s.chip.inReset = false) ∧ (s.chip.rt.calBusy = true) ∧ (k < s.chip.id.ntaps) ∧ ((s.chip.tap k).chainOk = false) ∧ (∀ j, j < k + 1 → 64 * (k / 64) ≤ j → (hops.getD j ⟨2048, 0⟩).trip ≤ 1024 ∧ (hops.getD j ⟨2048, 0⟩).spread ≤ 4 ∧ s.chip.calTakes j = true) :=
  ⟨stOf fun c => { c with id := { c.id with ntaps := 2 }, rt := { c.rt with calBusy := true } }, [⟨130, 0⟩, ⟨260, 4⟩], 1, by decide⟩

theorem wit_TapCalibration_3 : ∃ (s : State) (hops : List HopMeas) (k : Nat),
    (s.chip.id.hub = false) ∧ (s.chip.inReset = false) ∧ (s.chip.rt.calBusy = true) ∧ (k < s.chip.id.ntaps) ∧ ((s.chip.tap k).chainOk = true) ∧ (∀ j, j < k + 1 → 64 * (k / 64) ≤ j → (hops.getD j ⟨2048, 0⟩).trip ≤ 1024 ∧ (hops.getD j ⟨2048, 0⟩).spread ≤ 4 ∧ s.chip.calTakes j = true) :=
  ⟨stOf fun c => { c with id := { c.id with ntaps := 2 }, rt := { c.rt with calBusy := true } }.modTap 1 fun x => { x with chainOk := true, trim := 5 }, [⟨130, 0⟩, ⟨260, 4⟩], 1, by decide⟩

theorem wit_TapCalibration_4 : ∃ (s : State) (hops : List HopMeas) (k : Nat),
    (s.chip.id.hub = false) ∧ (s.chip.inReset = false) ∧ (s.chip.rt.calBusy = true) ∧ (k < s.chip.id.ntaps) ∧ (s.chip.calTakes k = true) ∧ (1024 < (hops.getD k ⟨2048, 0⟩).trip ∨ 4 < (hops.getD k ⟨2048, 0⟩).spread) :=
  ⟨stOf fun c => { c with id := { c.id with ntaps := 2 }, rt := { c.rt with calBusy := true } }, [⟨130, 5⟩], 0, by decide⟩

theorem wit_TapCalibration_5 : ∃ (s : State) (tp : Tap) (trip : BitVec 16),
    (s.chip.id.hub = false) ∧ (s.chip.inReset = false) ∧ (tp.val < s.chip.id.ntaps) ∧ ((s.chip.tap tp.val).calOk = true) :=
  ⟨stOf fun c => c.modTap 0 fun x => { x with calOk := true, echo := 7 }, 0, 9, by decide⟩

theorem wit_TapCalibration_6 : ∃ (s : State) (faults : List Tap) (k : Nat) (m : Int),
    (s.chip.id.hub = false) ∧ (s.chip.inReset = false) ∧ (s.chip.tk.tclk = true) ∧ (s.chip.sv.stepFrom = none) ∧ (s.chip.sharedBusy = false) ∧ (s.chip.hsBusy = false) ∧ ((s.chip.tap k).recal = none) ∧ ((s.chip.tap k).move = m) ∧ (m ≠ 0) ∧ (-8 ≤ (s.chip.tap k).drift + m) ∧ ((s.chip.tap k).drift + m ≤ 8) :=
  ⟨stOf fun c => c.modTap 0 fun x => { x with calOk := true, move := -1 }, [], 0, -1, by decide⟩

theorem wit_TapCalibration_7 : ∃ (s : State) (faults : List Tap) (k : Nat) (m : Int),
    (s.chip.id.hub = false) ∧ (s.chip.inReset = false) ∧ (s.chip.tk.tclk = true) ∧ (s.chip.sv.stepFrom = none) ∧ (s.chip.sharedBusy = false) ∧ (s.chip.hsBusy = false) ∧ ((s.chip.tap k).recal = none) ∧ ((s.chip.tap k).move = m) ∧ (m ≠ 0) ∧ ((s.chip.tap k).drift + m < -8 ∨ 8 < (s.chip.tap k).drift + m) :=
  ⟨stOf fun c => c.modTap 0 fun x => { x with calOk := true, move := 1, drift := 8 }, [], 0, 1, by decide⟩

theorem wit_TriggerAtTheTap_1 : ∃ (s : State) (l : Line) (a : ArmFlight) (r : List ArmFlight),
    (s.chip.id.hub = false) ∧ (s.chip.inReset = false) ∧ (takeFlight l.val s.chip.sq.flights = some (a, r)) ∧ (a.cancelled = false) ∧ ((s.chip.line l.val).armed = none) ∧ (s.chip.trigBound l.val a.tf = none) ∧ (s.chip.now ≤ a.tf) :=
  ⟨stOf fun c => { (c.modTap 0 fun x => { x with rper := 1600000 }) with sq := { c.sq with flights := [{ line := 0, tf := 10, thread := 3, course := 2, grp := 0, ctx := 5, cancelled := false }] } }, 0, { line := 0, tf := 10, thread := 3, course := 2, grp := 0, ctx := 5, cancelled := false }, [], by decide⟩

theorem wit_TriggerAtTheTap_2 : ∃ (s : State) (l : Line) (a : ArmFlight) (r : List ArmFlight),
    (s.chip.id.hub = false) ∧ (s.chip.inReset = false) ∧ (takeFlight l.val s.chip.sq.flights = some (a, r)) ∧ (a.cancelled = false) ∧ ((s.chip.line l.val).armed ≠ none) :=
  ⟨stOf fun c => { (c.modLine 0 fun x => { x with armed := some { tf := 9, thread := 3, course := 0, grp := 0, ctx := 5, moment := none, calOk := true, withheld := false, inStop := false, solo := false } }) with sq := { c.sq with flights := [{ line := 0, tf := 10, thread := 3, course := 2, grp := 0, ctx := 5, cancelled := false }] } }, 0, { line := 0, tf := 10, thread := 3, course := 2, grp := 0, ctx := 5, cancelled := false }, [], by decide⟩

theorem wit_TriggerAtTheTap_3 : ∃ (s : State) (l : Line) (a : ArmFlight) (r : List ArmFlight),
    (s.chip.id.hub = false) ∧ (s.chip.inReset = false) ∧ (takeFlight l.val s.chip.sq.flights = some (a, r)) ∧ (a.cancelled = true) :=
  ⟨stOf fun c => { c with sq := { c.sq with flights := [{ line := 0, tf := 10, thread := 3, course := 2, grp := 0, ctx := 5, cancelled := true }] } }, 0, { line := 0, tf := 10, thread := 3, course := 2, grp := 0, ctx := 5, cancelled := true }, [], by decide⟩

theorem wit_TriggerAtTheTap_4 : ∃ (s : State) (l : Line) (a : LineArm),
    (s.chip.id.hub = false) ∧ (s.chip.inReset = false) ∧ ((s.chip.line l.val).armed = some a) ∧ (a.moment = none) ∧ (a.withheld = false) ∧ (a.tf < s.chip.tk.stamp (s.chip.tk.frc + 1) 0) ∧ (s.chip.tapLive (l.val / 4) = true) ∧ (a.solo = true ∨ s.chip.tapAuthority a.grp = true) :=
  ⟨stOf fun c => ((c.modTap 0 fun x => { x with chainOk := true, running := true, calOk := true, rper := 1600000 }).setReg Reg.RT_TCFG 0x80000000).modLine 0 fun x => { x with armed := some { tf := 0, thread := 3, course := 0, grp := 0, ctx := 5, moment := none, calOk := true, withheld := false, inStop := false, solo := true } }, 0, { tf := 0, thread := 3, course := 0, grp := 0, ctx := 5, moment := none, calOk := true, withheld := false, inStop := false, solo := true }, by decide⟩

theorem wit_TriggerAtTheTap_5 : ∃ (s : State) (l : Line) (a : LineArm),
    (s.chip.id.hub = false) ∧ (s.chip.inReset = false) ∧ ((s.chip.line l.val).armed = some a) ∧ (a.moment = none) ∧ (a.withheld = false) ∧ (a.tf < s.chip.tk.stamp (s.chip.tk.frc + 1) 0) ∧ (s.chip.tapLive (l.val / 4) = true) ∧ (a.solo = false) ∧ (s.chip.tapAuthority a.grp = false) :=
  ⟨stOf fun c => ((c.modTap 0 fun x => { x with chainOk := true, running := true, calOk := true, rper := 1600000 }).setReg Reg.RT_TCFG 0x80000000).modLine 0 fun x => { x with armed := some { tf := 0, thread := 3, course := 0, grp := 0, ctx := 5, moment := none, calOk := true, withheld := false, inStop := false, solo := false } }, 0, { tf := 0, thread := 3, course := 0, grp := 0, ctx := 5, moment := none, calOk := true, withheld := false, inStop := false, solo := false }, by decide⟩

theorem wit_TriggerAtTheTap_6 : ∃ (s : State) (l : Line) (a : LineArm),
    (s.chip.id.hub = false) ∧ (s.chip.inReset = false) ∧ ((s.chip.line l.val).armed = some a) ∧ (a.moment = none) ∧ (a.withheld = false) ∧ (a.tf < s.chip.tk.stamp (s.chip.tk.frc + 1) 0) ∧ (s.chip.tapLive (l.val / 4) = false) :=
  ⟨stOf fun c => c.modLine 0 fun x => { x with armed := some { tf := 0, thread := 3, course := 0, grp := 0, ctx := 5, moment := none, calOk := true, withheld := false, inStop := false, solo := false } }, 0, { tf := 0, thread := 3, course := 0, grp := 0, ctx := 5, moment := none, calOk := true, withheld := false, inStop := false, solo := false }, by decide⟩

theorem wit_TriggerAtTheTap_7 : ∃ (s : State) (l : Line) (phase : Fin 64) (a : LineArm) (at_ : Nat),
    (s.chip.id.hub = false) ∧ (s.chip.inReset = false) ∧ (l.val / 4 < s.chip.id.ntaps) ∧ ((s.chip.line l.val).armed = some a) ∧ (a.moment = some at_) ∧ (at_ ≤ s.chip.tk.stamp s.chip.tk.frc phase.val) ∧ ((s.chip.tap (l.val / 4)).running = true) ∧ ((s.chip.tap (l.val / 4)).stopped = false) ∧ ((s.chip.tap (l.val / 4)).edgeDue = false) ∧ (s.chip.hg.fenced = false) :=
  ⟨stOf fun c => ((c.modTap 0 fun x => { x with chainOk := true, running := true, calOk := true, rper := 1600000 }).setReg Reg.RT_TCFG 0x80000000).modLine 0 fun x => { x with armed := some { tf := 0, thread := 3, course := 0, grp := 0, ctx := 5, moment := some 0, calOk := true, withheld := false, inStop := false, solo := false } }, 0, 7, { tf := 0, thread := 3, course := 0, grp := 0, ctx := 5, moment := some 0, calOk := true, withheld := false, inStop := false, solo := false }, 0, by decide⟩

theorem wit_TriggerAtTheTap_8 : ∃ (s : State) (l : Line) (phase : Fin 64),
    (s.chip.id.hub = false) ∧ (s.chip.inReset = false) ∧ (l.val / 4 < s.chip.id.ntaps) ∧ ((s.chip.tap (l.val / 4)).edgeDue = false) ∧ (s.chip.hg.fenced = true) :=
  ⟨stOf fun c => { c with hg := { c.hg with fenced := true } }, 0, 0, by decide⟩

theorem wit_RegionPeriodsAndStops_1 : ∃ (s : State) (tp : Tap) (ph : Fin 64) (p : BitVec 24),
    (s.chip.id.hub = false) ∧ (s.chip.inReset = false) ∧ (tp.val < s.chip.id.ntaps) ∧ ((s.chip.tap tp.val).running = true) ∧ ((s.chip.tap tp.val).stopped = false) ∧ ((s.chip.tap tp.val).edgeDue = false) ∧ ((s.chip.tap tp.val).rper ≠ 0) ∧ ((s.chip.tap tp.val).rper + 2 < p.toNat) :=
  ⟨stOf fun c => c.modTap 0 fun x => { x with running := true, rper := 100 }, 0, 3, 110, by decide⟩

theorem wit_RegionPeriodsAndStops_2 : ∃ (s : State) (tp : Tap) (ph : Fin 64) (p : BitVec 24),
    (s.chip.id.hub = false) ∧ (s.chip.inReset = false) ∧ (tp.val < s.chip.id.ntaps) ∧ ((s.chip.tap tp.val).running = true) ∧ ((s.chip.tap tp.val).stopped = false) ∧ ((s.chip.tap tp.val).edgeDue = false) ∧ (p.toNat ≤ (s.chip.tap tp.val).rper + 2) :=
  ⟨stOf fun c => c.modTap 0 fun x => { x with running := true, rper := 100 }, 0, 3, 102, by decide⟩

theorem wit_RegionPeriodsAndStops_3 : ∃ (s : State) (tp : Tap),
    (s.chip.id.hub = false) ∧ (s.chip.inReset = false) ∧ (tp.val < s.chip.id.ntaps) ∧ ((s.chip.tap tp.val).running = true) ∧ ((s.chip.tap tp.val).stopped = false) :=
  ⟨stOf fun c => c.modTap 0 fun x => { x with running := true, rper := 100 }, 0, by decide⟩

theorem wit_RegionPeriodsAndStops_4 : ∃ (s : State) (tp : Tap),
    (s.chip.id.hub = false) ∧ (s.chip.inReset = false) ∧ (tp.val < s.chip.id.ntaps) ∧ ((s.chip.tap tp.val).running = false ∨ (s.chip.tap tp.val).stopped = true) :=
  ⟨stOf fun c => c.modTap 0 fun x => { x with running := true, stopped := true, rstStop := true }, 0, by decide⟩

theorem wit_RegionPeriodsAndStops_5 : ∃ (s : State) (tp : Tap) (ph : Fin 64) (op : Fin 4),
    (s.chip.id.hub = false) ∧ (s.chip.inReset = false) ∧ (tp.val < s.chip.id.ntaps) ∧ ((s.chip.tap tp.val).stopped = true) ∧ ((s.chip.tap tp.val).rgnReset = false) ∧ (s.chip.pw.hostLow = false) :=
  ⟨stOf fun c => c.modTap 0 fun x => { x with running := true, stopped := true }, 0, 3, 1, by decide⟩

theorem wit_RegionPeriodsAndStops_6 : ∃ (s : State) (tp : Tap) (ph : Fin 64) (op : Fin 4),
    (s.chip.id.hub = false) ∧ (s.chip.inReset = false) ∧ (tp.val < s.chip.id.ntaps) ∧ ((s.chip.tap tp.val).running = false ∨ (s.chip.tap tp.val).stopped = true) ∧ ((s.chip.tap tp.val).rgnReset = false) ∧ (s.chip.pw.hostLow = false) :=
  ⟨State.reset, 0, 3, 2, by decide⟩

theorem wit_RegionPeriodsAndStops_7 : ∃ (s : State) (tp : Tap) (ph : Fin 64) (op : Fin 4),
    (s.chip.id.hub = false) ∧ (s.chip.inReset = false) ∧ (tp.val < s.chip.id.ntaps) ∧ ((s.chip.tap tp.val).running = false ∨ (s.chip.tap tp.val).stopped = true) ∧ ((s.chip.tap tp.val).rgnReset = true) :=
  ⟨stOf fun c => c.modTap 0 fun x => { x with rgnReset := true }, 0, 3, 2, by decide⟩

theorem wit_RegionPeriodsAndStops_8 : ∃ (s : State) (tp : Tap) (p : BitVec 24),
    (s.chip.id.hub = false) ∧ (s.chip.inReset = false) ∧ (tp.val < s.chip.id.ntaps) ∧ ((s.chip.tap tp.val).running = true) ∧ ((s.chip.tap tp.val).stopped = false) ∧ ((s.chip.tap tp.val).measuring = true) :=
  ⟨stOf fun c => c.modTap 0 fun x => { x with running := true, measuring := true }, 0, 100, by decide⟩

theorem wit_CrossingsInDeterministicMode_1 : ∃ (s : State) (x : Crossing) (phase : Fin 64) (n : Nat),
    (s.chip.id.hub = false) ∧ (s.chip.inReset = false) ∧ (x.val / 4 < s.chip.id.ntaps) ∧ (s.chip.xcMode x.val = 2) ∧ ((s.chip.xc x.val).busy = false) ∧ (s.chip.xcCal x.val = some n) :=
  ⟨stOf fun c => (c.setReg Reg.RT_XCFG 0x80000001 0 0).modXc 0 fun y => { y with lpath := [(0, 6)], srcPoint := [(0, 0)] }, 0, 5, 6, by decide⟩

theorem wit_CrossingsInDeterministicMode_2 : ∃ (s : State) (x : Crossing) (phase : Fin 64),
    (s.chip.id.hub = false) ∧ (s.chip.inReset = false) ∧ (x.val / 4 < s.chip.id.ntaps) ∧ (s.chip.xcMode x.val = 1 ∨ (s.chip.xcMode x.val = 2 ∧ ((s.chip.xc x.val).busy = true ∨ s.chip.xcCal x.val = none))) :=
  ⟨stOf fun c => (c.setReg Reg.RT_XCFG 0x80000001 0 0), 0, 5, by decide⟩

theorem wit_CrossingsInDeterministicMode_3 : ∃ (s : State) (x : Crossing) (phase : Fin 64),
    (s.chip.id.hub = false) ∧ (s.chip.inReset = false) ∧ (x.val / 4 < s.chip.id.ntaps) ∧ (s.chip.xcMode x.val = 0) :=
  ⟨State.reset, 0, 5, by decide⟩

theorem wit_CrossingsInDeterministicMode_4 : ∃ (s : State) (x : Crossing) (phase : Fin 64) (again : Bool) (w : XcWrite) (r : List XcWrite) (n : Nat),
    (s.chip.id.hub = false) ∧ (s.chip.inReset = false) ∧ (x.val / 4 < s.chip.id.ntaps) ∧ (s.chip.xcMode x.val ≠ 0) ∧ ((s.chip.tap (x.val / 4)).stopped = false) ∧ ((s.chip.tap (s.chip.xcSrc x.val)).stopped = false) ∧ ((s.chip.xc x.val).writes = w :: r) ∧ (w.boundary = some n) ∧ (s.chip.frc64 phase.val - (s.chip.tap (x.val / 4)).acc < n * 64) :=
  ⟨stOf fun c => (c.setReg Reg.RT_XCFG 0x80000001 0 0).modXc 0 fun y => { y with writes := [{ boundary := some 3, slipped := false }] }, 0, 0, false, { boundary := some 3, slipped := false }, [], 3, by decide⟩

theorem wit_CrossingsInDeterministicMode_5 : ∃ (s : State) (x : Crossing) (phase : Fin 64) (again : Bool) (w : XcWrite) (r : List XcWrite) (n : Nat),
    (s.chip.id.hub = false) ∧ (s.chip.inReset = false) ∧ (x.val / 4 < s.chip.id.ntaps) ∧ (s.chip.xcMode x.val ≠ 0) ∧ ((s.chip.tap (x.val / 4)).stopped = false) ∧ ((s.chip.tap (s.chip.xcSrc x.val)).stopped = false) ∧ ((s.chip.xc x.val).writes = w :: r) ∧ (w.boundary = some n) ∧ (n * 64 ≤ s.chip.frc64 phase.val - (s.chip.tap (x.val / 4)).acc) :=
  ⟨stOf fun c => { (c.setReg Reg.RT_XCFG 0x80000001 0 0).modXc 0 (fun y => { y with writes := [{ boundary := some 3, slipped := false }] }) with tk := { c.tk with frc := 3 } }, 0, 0, true, { boundary := some 3, slipped := false }, [], 3, by decide⟩

theorem wit_CrossingsInDeterministicMode_6 : ∃ (s : State) (m : Master),
    (s.chip.opens m 0x0C = true) :=
  ⟨State.reset, .host, by decide⟩

theorem wit_CrossingsInDeterministicMode_7 : ∃ (s : State) (tp : Tap) (a0 a1 a2 a3 : BitVec 8),
    (s.chip.id.hub = false) ∧ (s.chip.inReset = false) ∧ (tp.val < s.chip.id.ntaps) ∧ ((s.chip.tap tp.val).xcal = true) ∧ ((s.chip.tap tp.val).stopped = false) ∧ (s.chip.xcMode (4 * tp.val) ≠ 0) ∧ (s.chip.xcMode (4 * tp.val + 1) ≠ 0) ∧ (s.chip.xcMode (4 * tp.val + 2) ≠ 0) ∧ (s.chip.xcMode (4 * tp.val + 3) ≠ 0) ∧ (∀ j, j < 4 → (s.chip.xc (4 * tp.val + j)).busy = true) :=
  ⟨stOf fun c => ((((((((c.setReg Reg.RT_XCFG 0x80000001 0 0).setReg Reg.RT_XCFG 0x80000001 0 1).setReg Reg.RT_XCFG 0x80000001 0 2).setReg Reg.RT_XCFG 0x80000001 0 3).modXc 0 fun x => { x with busy := true }) |>.modXc 1 fun x => { x with busy := true }) |>.modXc 2 fun x => { x with busy := true }) |>.modXc 3 fun x => { x with busy := true }) |>.modTap 0 fun x => { x with xcal := true }, 0, 15, 16, 3, 0, by decide⟩

theorem wit_EnginesAtTheTap_1 : ∃ (s : State) (e : Engine) (w : Word) (phase : Fin 64),
    (s.chip.id.hub = false) ∧ (s.chip.inReset = false) ∧ (e.val / 4 < s.chip.id.ntaps) ∧ ((s.chip.tap (e.val / 4)).stopped = false) :=
  ⟨State.reset, 0, 9, 3, by decide⟩

theorem wit_EnginesAtTheTap_2 : ∃ (s : State) (e : Engine) (w : Word) (phase : Fin 64),
    (s.chip.id.hub = false) ∧ (s.chip.inReset = false) ∧ (e.val / 4 < s.chip.id.ntaps) ∧ ((s.chip.tap (e.val / 4)).stopped = true) :=
  ⟨stOf fun c => c.modTap 0 fun x => { x with running := true, stopped := true }, 0, 9, 3, by decide⟩

theorem wit_EnginesAtTheTap_3 : ∃ (s : State) (e : Engine) (phase : Fin 64),
    (s.chip.id.hub = false) ∧ (s.chip.inReset = false) ∧ (e.val / 4 < s.chip.id.ntaps) ∧ ((s.chip.tap (e.val / 4)).stopped = true) :=
  ⟨stOf fun c => c.modTap 0 fun x => { x with running := true, stopped := true }, 0, 3, by decide⟩

theorem wit_EnginesAtTheTap_4 : ∃ (s : State) (e : Engine) (phase : Fin 64),
    (s.chip.id.hub = false) ∧ (s.chip.inReset = false) ∧ (e.val / 4 < s.chip.id.ntaps) ∧ ((s.chip.tap (e.val / 4)).stopped = true) :=
  ⟨stOf fun c => c.modTap 0 fun x => { x with running := true, stopped := true }, 0, 3, by decide⟩

theorem wit_EnginesAtTheTap_5 : ∃ (s : State) (e : Engine) (phase : Fin 64),
    (s.chip.id.hub = false) ∧ (s.chip.inReset = false) ∧ (e.val / 4 < s.chip.id.ntaps) ∧ ((s.chip.tap (e.val / 4)).stopped = false) :=
  ⟨State.reset, 0, 3, by decide⟩

theorem wit_EnginesAtTheTap_6 : ∃ (s : State) (e : Engine) (phase : Fin 64),
    (s.chip.id.hub = false) ∧ (s.chip.inReset = false) ∧ (e.val / 4 < s.chip.id.ntaps) ∧ ((s.chip.tap (e.val / 4)).stopped = false) ∧ (s.chip.hg.solo ≠ .wait) :=
  ⟨State.reset, 0, 3, by decide⟩

theorem wit_EnginesAtTheTap_7 : ∃ (s : State) (e : Engine) (l : List Word),
    (s.chip.id.hub = false) ∧ (s.chip.inReset = false) ∧ (e.val / 4 < s.chip.id.ntaps) ∧ (s.chip.readingEng e.val = true) ∧ (l.length = 64) :=
  ⟨stOf fun c => { c with cp := { c.cp with stage := .reading, engs := [0], left := [0] } }, 0, List.replicate 64 7, by decide⟩

theorem wit_MacTapStamps_1 : ∃ (s : State) (mt : MacTap) (fid : BitVec 16) (cls : BitVec 2) (phase : Fin 64),
    (s.chip.inReset = false) ∧ (cls = 1 ∨ cls = 2) ∧ (Word.bit (s.chip.tsCfg mt.val) 31 = true) ∧ (Word.bit (s.chip.tsCfg mt.val) 29 = true) ∧ (strobeMissed (s.chip.tsTap mt.val).lastTx (s.chip.frc64 phase.val) = false) ∧ ((s.chip.tsTap mt.val).txq.length < 16) :=
  ⟨stOf fun c => (c.setReg Reg.TS_TCFG 0xE0000000), 0, 7, 1, 9, by decide⟩

theorem wit_MacTapStamps_2 : ∃ (s : State) (mt : MacTap) (cls : BitVec 2) (phase : Fin 64),
    (s.chip.inReset = false) ∧ (cls ≠ 0) ∧ (Word.bit (s.chip.tsCfg mt.val) 31 = true) ∧ (strobeMissed (s.chip.tsTap mt.val).lastRx (s.chip.frc64 phase.val) = false) :=
  ⟨stOf fun c => (c.setReg Reg.TS_TCFG 0xE0000000), 0, 1, 9, by decide⟩

theorem wit_MacTapStamps_3 : ∃ (s : State) (mt : MacTap) (fid : BitVec 16) (cls : BitVec 2) (phase : Fin 64),
    (s.chip.inReset = false) ∧ (Word.bit (s.chip.tsCfg mt.val) 31 = false) :=
  ⟨State.reset, 0, 7, 1, 9, by decide⟩

theorem wit_MacTapStamps_4 : ∃ (s : State) (mt : MacTap) (cls : BitVec 2) (phase : Fin 64),
    (s.chip.inReset = false) ∧ (Word.bit (s.chip.tsCfg mt.val) 31 = false) :=
  ⟨State.reset, 0, 1, 9, by decide⟩

theorem wit_MacTapStamps_5 : ∃ (s : State) (m : Master),
    (s.chip.opens m 0x0D = true) :=
  ⟨State.reset, .host, by decide⟩

theorem wit_MacTapStamps_6 : ∃ (s : State) (m : Master),
    (s.chip.opens m 0x0D = true) :=
  ⟨stOf fun c => { c with ts := { c.ts with swq := [(1, 2), (3, 4)] } }, .host, by decide⟩

theorem wit_MacTapStamps_7 : ∃ (s : State) (i : Fin 4),
    (s.chip.inReset = false) ∧ (s.chip.ts.swWait.contains i.val = false) ∧ (s.chip.fw.running = true) ∧ (s.chip.ts.swq.length < 8) :=
  ⟨stOf fun c => { c with fw := { c.fw with running := true } }, 2, by decide⟩

theorem wit_MacTapStamps_8 : ∃ (s : State) (i : Fin 4),
    (s.chip.inReset = false) ∧ (s.chip.ts.swWait.contains i.val = false) ∧ (s.chip.fw.running = false) :=
  ⟨State.reset, 2, by decide⟩

theorem wit_MacTapStamps_9 : ∃ (s : State) (i : Fin 4),
    (s.chip.inReset = false) ∧ (s.chip.ts.swWait.contains i.val = true) :=
  ⟨stOf fun c => { c with ts := { c.ts with swWait := [2] } }, 2, by decide⟩

theorem wit_PlumbPayloads_1 : ∃ (s : State) (mt : MacTap),
    (s.chip.inReset = false) ∧ (s.chip.id.hub = false) ∧ (s.chip.plumbOn mt.val = true) :=
  ⟨stOf fun c => (c.setReg Reg.TS_TCFG 0xE0000000), 0, by decide⟩

theorem wit_PlumbPayloads_2 : ∃ (s : State) (mt : MacTap) (l : List Word),
    (s.chip.inReset = false) ∧ (s.chip.id.hub = false) ∧ (s.chip.plumbOn mt.val = true) ∧ ((s.chip.tsTap mt.val).strobe ≠ none) ∧ (Word.field (l.getD 0 0) 28 4 = 1) ∧ (Word.bit (l.getD 1 0) 31 = true) :=
  ⟨stOf fun c => (c.setReg Reg.TS_TCFG 0xE0000000).modTs 0 fun x => { x with strobe := some (some (77, 4)) }, 0, [0x10001000, 0x80000009, 0, 0, 0, 0, 0, 0], by decide⟩

theorem wit_PlumbPayloads_3 : ∃ (s : State) (mt : MacTap) (l : List Word),
    (s.chip.inReset = false) ∧ (s.chip.id.hub = false) ∧ (s.chip.plumbOn mt.val = true) ∧ ((s.chip.tsTap mt.val).strobe ≠ none) ∧ (Word.field (l.getD 0 0) 28 4 ≠ 1 ∨ Word.bit (l.getD 1 0) 31 = false) :=
  ⟨stOf fun c => (c.setReg Reg.TS_TCFG 0xE0000000).modTs 0 fun x => { x with strobe := some (some (77, 4)) }, 0, [], by decide⟩

theorem wit_PlumbPayloads_4 : ∃ (s : State) (mt : MacTap),
    (s.chip.inReset = false) ∧ (s.chip.id.hub = false) ∧ ((s.chip.tsTap mt.val).strobe ≠ none) :=
  ⟨stOf fun c => (c.setReg Reg.TS_TCFG 0xE0000000).modTs 0 fun x => { x with strobe := some none }, 0, by decide⟩

theorem wit_PlumbPayloads_5 : ∃ (s : State) (mt : MacTap) (l : List Word) (g e : Nat × Nat × Nat),
    (s.chip.inReset = false) ∧ (s.chip.id.hub = false) ∧ (s.chip.plumbOn mt.val = true) ∧ ((s.chip.tsTap mt.val).strobe ≠ none) ∧ (Word.field (l.getD 0 0) 28 4 = 1) ∧ (Word.bit (l.getD 1 0) 31 = true) ∧ ((s.chip.tsTap mt.val).nb = some (Word.field (l.getD 1 0) 0 24)) ∧ ((s.chip.tsTap mt.val).got = some g) ∧ (((s.chip.tsTap mt.val).sent.find? fun e => e.1 == Word.field (l.getD 6 0) 16 12) = some e) ∧ (Word.bit (l.getD 0 0) 12 = true) ∧ (Word.field (l.getD 0 0) 13 3 = 2 ∨ Word.field (l.getD 0 0) 13 3 = 3) ∧ (Word.bit (l.getD 0 0) 11 = true) ∧ (Word.bit (l.getD 0 0) 10 = true) ∧ (Word.bit (l.getD 0 0) 9 = false) ∧ (s.chip.tk.valid = true) ∧ (s.chip.sv.mode = .locked ∨ s.chip.sv.mode = .holdover) ∧ ((g.1 + 1) % 4096 = Word.field (l.getD 0 0) 16 12) ∧ (g.2.2 = e.2.2) ∧ ((s.chip.tsTap mt.val).n + 1 < 16) :=
  ⟨stOf fun c => { ((c.setReg Reg.TS_TCFG 0xE0000000).modTs 0 fun x => { x with nb := some 9, strobe := some (some (99, 0)), got := some (1, 77, 0), sent := [(0, 5, 0)] }) with tk := { c.tk with valid := true }, sv := { c.sv with mode := .locked } }, 0, [0x10025C00, 0x80000009, 0, 0, 0, 0, 0, 0], (1, 77, 0), (0, 5, 0), by decide⟩

theorem wit_PlumbPayloads_6 : ∃ (s : State) (mt : MacTap) (l : List Word) (g e : Nat × Nat × Nat),
    (s.chip.inReset = false) ∧ (s.chip.id.hub = false) ∧ (s.chip.plumbOn mt.val = true) ∧ ((s.chip.tsTap mt.val).strobe ≠ none) ∧ (Word.field (l.getD 0 0) 28 4 = 1) ∧ (Word.bit (l.getD 1 0) 31 = true) ∧ ((s.chip.tsTap mt.val).nb = some (Word.field (l.getD 1 0) 0 24)) ∧ ((s.chip.tsTap mt.val).got = some g) ∧ (((s.chip.tsTap mt.val).sent.find? fun e => e.1 == Word.field (l.getD 6 0) 16 12) = some e) ∧ (Word.bit (l.getD 0 0) 12 = true) ∧ (Word.field (l.getD 0 0) 13 3 = 2 ∨ Word.field (l.getD 0 0) 13 3 = 3) ∧ (Word.bit (l.getD 0 0) 11 = true) ∧ (Word.bit (l.getD 0 0) 10 = true) ∧ (Word.bit (l.getD 0 0) 9 = false) ∧ (s.chip.tk.valid = true) ∧ (s.chip.sv.mode = .locked ∨ s.chip.sv.mode = .holdover) ∧ ((g.1 + 1) % 4096 = Word.field (l.getD 0 0) 16 12) ∧ (g.2.2 = e.2.2) ∧ ((s.chip.tsTap mt.val).n + 1 = 16) :=
  ⟨stOf fun c => { ((c.setReg Reg.TS_TCFG 0xE0000000).modTs 0 fun x => { x with nb := some 9, strobe := some (some (99, 0)), got := some (1, 77, 0), sent := [(0, 5, 0)], n := 15, sumTheta := 2 ^ 50 }) with tk := { c.tk with valid := true }, sv := { c.sv with mode := .locked } }, 0, [0x10025C00, 0x80000009, 0, 0, 0, 0, 0, 0], (1, 77, 0), (0, 5, 0), by decide⟩

theorem wit_PlumbPayloads_7 : ∃ (s : State) (mt : MacTap) (l : List Word),
    (s.chip.inReset = false) ∧ (s.chip.id.hub = false) ∧ (s.chip.plumbOn mt.val = true) ∧ ((s.chip.tsTap mt.val).strobe ≠ none) ∧ (Word.field (l.getD 0 0) 28 4 = 1) ∧ (Word.bit (l.getD 1 0) 31 = true) ∧ ((s.chip.tsTap mt.val).nb = some (Word.field (l.getD 1 0) 0 24)) ∧ (s.chip.plumbValid mt.val l = none) :=
  ⟨stOf fun c => (c.setReg Reg.TS_TCFG 0xE0000000).modTs 0 fun x => { x with nb := some 9, strobe := some (some (77, 4)) }, 0, [0x10001000, 0x80000009, 0, 0, 0, 0, 0, 0], by decide⟩

theorem wit_PlumbPayloads_8 : ∃ (s : State) (mt : MacTap) (l : List Word) (g e : Nat × Nat × Nat),
    (s.chip.inReset = false) ∧ (s.chip.id.hub = false) ∧ (s.chip.plumbOn mt.val = true) ∧ ((s.chip.tsTap mt.val).strobe ≠ none) ∧ (Word.field (l.getD 0 0) 28 4 = 1) ∧ (Word.bit (l.getD 1 0) 31 = true) ∧ ((s.chip.tsTap mt.val).nb = some (Word.field (l.getD 1 0) 0 24)) ∧ ((s.chip.tsTap mt.val).got = some g) ∧ (((s.chip.tsTap mt.val).sent.find? fun e => e.1 == Word.field (l.getD 6 0) 16 12) = some e) ∧ (Word.bit (l.getD 0 0) 12 = false ∨ Word.bit (l.getD 0 0) 11 = false ∨ Word.bit (l.getD 0 0) 10 = false ∨ Word.bit (l.getD 0 0) 9 = true ∨ s.chip.tk.valid = false ∨ (s.chip.sv.mode ≠ .locked ∧ s.chip.sv.mode ≠ .holdover) ∨ (g.1 + 1) % 4096 ≠ Word.field (l.getD 0 0) 16 12 ∨ g.2.2 ≠ e.2.2) :=
  ⟨stOf fun c => (c.setReg Reg.TS_TCFG 0xE0000000).modTs 0 fun x => { x with nb := some 9, strobe := some (some (77, 4)), got := some (1, 77, 0), sent := [(0, 5, 0)] }, 0, [0x10001000, 0x80000009, 0, 0, 0, 0, 0, 0], (1, 77, 0), (0, 5, 0), by decide⟩

theorem wit_PulseOutputs_1 : ∃ (s : State) (m : Master) (w : Word),
    (s.chip.opens m 0x0E = true) ∧ ((s.chip.po1 (s.chip.chanOf m 0x0E)).armed = none) ∧ (s.chip.poBreaks (s.chip.poArmOf (s.chip.chanOf m 0x0E)) = false) ∧ (poTooLong (s.chip.poArmOf (s.chip.chanOf m 0x0E)) = false) :=
  ⟨stOf fun c => ((c.setReg Reg.PO_PER_LO 0x10000).setReg Reg.PO_WID 16), .host, 1, by decide⟩

theorem wit_PulseOutputs_2 : ∃ (s : State) (m : Master) (w : Word),
    (s.chip.opens m 0x0E = true) ∧ ((s.chip.po1 (s.chip.chanOf m 0x0E)).armed ≠ none) :=
  ⟨stOf fun c => c.modPo 0 fun x => { x with armed := some { mode := 1, start := 5, per := 0, wid := 8, count := 0 } }, .host, 1, by decide⟩

theorem wit_PulseOutputs_3 : ∃ (s : State) (m : Master) (w : Word),
    (s.chip.opens m 0x0E = true) ∧ ((s.chip.po1 (s.chip.chanOf m 0x0E)).armed = none) ∧ (s.chip.poBreaks (s.chip.poArmOf (s.chip.chanOf m 0x0E)) = true) :=
  ⟨stOf fun c => (c.setReg Reg.PO_OCFG 0x40000000).setReg Reg.GD_POLIM 0x00100010, .host, 1, by decide⟩

theorem wit_PulseOutputs_4 : ∃ (s : State) (m : Master),
    (s.chip.opens m 0x0E = true) :=
  ⟨stOf fun c => c.modPo 0 fun x => { x with armed := some { mode := 1, start := 5, per := 0, wid := 8, count := 0 }, high := true }, .host, by decide⟩

theorem wit_PulseOutputs_5 : ∃ (s : State) (o : OutPin),
    (s.chip.inReset = false) ∧ ((s.chip.po1 o.val).high = true) ∧ ((s.chip.po1 o.val).fall ≤ s.chip.now + s.chip.poLead o.val) :=
  ⟨stOf fun c => c.modPo 0 fun x => { x with armed := some { mode := 1, start := 5, per := 0, wid := 8, count := 0 }, high := true }, 0, by decide⟩

theorem wit_PulseOutputs_6 : ∃ (s : State) (o : OutPin),
    (s.chip.inReset = false) ∧ ((s.chip.po1 o.val).high = false) ∧ ((s.chip.po1 o.val).rising = true) ∧ (s.chip.poEarliest (s.chip.po1 o.val) ≤ s.chip.now + s.chip.poLead o.val) ∧ (Word.bit (s.chip.poCfg o.val) 28 = false ∨ s.chip.tk.valid = true) :=
  ⟨stOf fun c => (c.setReg Reg.PO_OCFG 0x40000000).modPo 0 fun x => { x with armed := some { mode := 1, start := 5, per := 0, wid := 8, count := 0 } }, 0, by decide⟩

theorem wit_PulseOutputs_7 : ∃ (s : State) (o : OutPin),
    (s.chip.inReset = false) ∧ ((s.chip.po1 o.val).high = false) ∧ ((s.chip.po1 o.val).rising = true) ∧ (s.chip.poEarliest (s.chip.po1 o.val) ≤ s.chip.now + s.chip.poLead o.val) ∧ (Word.bit (s.chip.poCfg o.val) 28 = true) ∧ (s.chip.tk.valid = false) :=
  ⟨stOf fun c => (c.setReg Reg.PO_OCFG 0x50000000).modPo 0 fun x => { x with armed := some { mode := 1, start := 5, per := 0, wid := 8, count := 0 } }, 0, by decide⟩

theorem wit_PulseOutputs_8 : ∃ (s : State) (o : OutPin),
    (s.chip.inReset = false) ∧ ((s.chip.po1 o.val).high = false) ∧ (s.chip.now + s.chip.poLead o.val < s.chip.poEarliest (s.chip.po1 o.val)) :=
  ⟨stOf fun c => c.modPo 0 fun x => { x with next := 9999999999 }, 0, by decide⟩

theorem wit_PulseOutputs_9 : ∃ (s : State) (o : OutPin),
    (s.chip.inReset = false) ∧ (s.chip.pw.io = true) ∧ (s.chip.poDrive o.val ≠ 0) ∧ ((s.chip.po1 o.val).disabled = false) :=
  ⟨stOf fun c => c.setReg Reg.PO_OCFG 0x02000000, 0, by decide⟩

theorem wit_PulseOutputs_10 : ∃ (s : State) (o : OutPin) (still : Bool),
    (s.chip.inReset = false) ∧ (s.chip.pw.io = true) ∧ ((s.chip.po1 o.val).disabled = true) :=
  ⟨stOf fun c => c.modPo 0 fun x => { x with disabled := true }, 0, true, by decide⟩

theorem wit_PulseOutputs_11 : ∃ (s : State) (o : OutPin),
    (s.chip.inReset = false) ∧ (s.chip.pw.io = true) ∧ (s.chip.poDrive o.val = 2) ∧ (s.chip.poLevel o.val = true) ∧ ((s.chip.po1 o.val).disabled = false) :=
  ⟨stOf fun c => (c.setReg Reg.PO_OCFG 0x02000000).modPo 0 fun x => { x with high := true }, 0, by decide⟩

theorem wit_PulseOutputs_12 : ∃ (s : State) (o : OutPin),
    (s.chip.id.hub = true) ∧ (s.chip.inReset = false) ∧ (s.chip.pw.io = true) ∧ (Word.bit (s.chip.reg Reg.PO_ICFG o.val) 28 = true) :=
  ⟨hubOf fun c => c.setReg Reg.PO_ICFG 0x10000000, 0, by decide⟩

theorem wit_PulseOutputs_13 : ∃ (s : State) (u : Fin 2),
    (s.chip.inReset = false) ∧ (s.chip.pw.io = true) ∧ (s.chip.po.uartInv.testBit u.val = false) :=
  ⟨State.reset, 1, by decide⟩

theorem wit_SequencerControlFlow_1 : ∃ (s : State) (i : Thread),
    (s.chip.id.hub = false) ∧ (s.chip.inReset = false) ∧ (s.chip.paused = false) ∧ (s.chip.pick = some i.val) ∧ (Iw.op (s.chip.fetch i.val) = 0x00) ∧ (Iw.good (s.chip.fetch i.val) = true) :=
  ⟨stOf fun c => { c with sq := { c.sq with threads := [(0, { ThreadState.reset with mode := .run })], store := [(0, 0x0000000000000000)] } }, 0, by decide⟩

theorem wit_SequencerControlFlow_2 : ∃ (s : State) (i : Thread),
    (s.chip.id.hub = false) ∧ (s.chip.inReset = false) ∧ (s.chip.paused = false) ∧ (s.chip.pick = some i.val) ∧ (Iw.op (s.chip.fetch i.val) = 0x01) ∧ (Iw.good (s.chip.fetch i.val) = true) ∧ ((s.chip.th i.val).solo = false) :=
  ⟨stOf fun c => { c with sq := { c.sq with threads := [(0, { ThreadState.reset with mode := .run })], store := [(0, 0x0100000000000000)] } }, 0, by decide⟩

theorem wit_SequencerControlFlow_3 : ∃ (s : State) (i : Thread),
    (s.chip.id.hub = false) ∧ (s.chip.inReset = false) ∧ (s.chip.paused = false) ∧ (s.chip.pick = some i.val) ∧ (Iw.op (s.chip.fetch i.val) = 0x01) ∧ (Iw.good (s.chip.fetch i.val) = true) ∧ ((s.chip.th i.val).solo = true) :=
  ⟨stOf fun c => { c with sq := { c.sq with threads := [(0, { ThreadState.reset with mode := .run, solo := true })], store := [(0, 0x0100000000000000)] } }, 0, by decide⟩

theorem wit_SequencerControlFlow_4 : ∃ (s : State) (i : Thread),
    (s.chip.id.hub = false) ∧ (s.chip.inReset = false) ∧ (s.chip.paused = false) ∧ (s.chip.pick = some i.val) ∧ (Iw.op (s.chip.fetch i.val) = 0x08) ∧ (Iw.good (s.chip.fetch i.val) = true) :=
  ⟨stOf fun c => { c with sq := { c.sq with threads := [(0, { ThreadState.reset with mode := .run })], store := [(0, 0x0800000000000123)] } }, 0, by decide⟩

theorem wit_SequencerControlFlow_5 : ∃ (s : State) (i : Thread),
    (s.chip.id.hub = false) ∧ (s.chip.inReset = false) ∧ (s.chip.paused = false) ∧ (s.chip.pick = some i.val) ∧ (Iw.op (s.chip.fetch i.val) = 0x09) ∧ (Iw.good (s.chip.fetch i.val) = true) ∧ (s.chip.mbox i.val (Iw.a (s.chip.fetch i.val)) ≠ 0) :=
  ⟨stOf fun c => { c with sq := { c.sq with threads := [(0, { ThreadState.reset with mode := .run, mb := [(2, 5)] })], store := [(0, 0x0900000200000012)] } }, 0, by decide⟩

theorem wit_SequencerControlFlow_6 : ∃ (s : State) (i : Thread),
    (s.chip.id.hub = false) ∧ (s.chip.inReset = false) ∧ (s.chip.paused = false) ∧ (s.chip.pick = some i.val) ∧ (Iw.op (s.chip.fetch i.val) = 0x09) ∧ (Iw.good (s.chip.fetch i.val) = true) ∧ (s.chip.mbox i.val (Iw.a (s.chip.fetch i.val)) = 0) :=
  ⟨stOf fun c => { c with sq := { c.sq with threads := [(0, { ThreadState.reset with mode := .run })], store := [(0, 0x0900000200000012)] } }, 0, by decide⟩

theorem wit_SequencerControlFlow_7 : ∃ (s : State) (i : Thread),
    (s.chip.id.hub = false) ∧ (s.chip.inReset = false) ∧ (s.chip.paused = false) ∧ (s.chip.pick = some i.val) ∧ (Iw.op (s.chip.fetch i.val) = 0x0A) ∧ (Iw.good (s.chip.fetch i.val) = true) ∧ (Iw.a (s.chip.fetch i.val) ≤ 18) :=
  ⟨stOf fun c => { c with sq := { c.sq with threads := [(0, { ThreadState.reset with mode := .run, rvalid := true })], store := [(0, 0x0A01001100000012)] } }, 0, by decide⟩

theorem wit_SequencerControlFlow_8 : ∃ (s : State) (i : Thread),
    (s.chip.id.hub = false) ∧ (s.chip.inReset = false) ∧ (s.chip.paused = false) ∧ (s.chip.pick = some i.val) ∧ (Iw.op (s.chip.fetch i.val) = 0x0A) ∧ (Iw.good (s.chip.fetch i.val) = true) ∧ (18 < Iw.a (s.chip.fetch i.val)) :=
  ⟨stOf fun c => { c with sq := { c.sq with threads := [(0, { ThreadState.reset with mode := .run })], store := [(0, 0x0A01001300000012)] } }, 0, by decide⟩

theorem wit_SequencerControlFlow_9 : ∃ (s : State) (i : Thread),
    (s.chip.id.hub = false) ∧ (s.chip.inReset = false) ∧ (s.chip.paused = false) ∧ (s.chip.pick = some i.val) ∧ (Iw.good (s.chip.fetch i.val) = false) :=
  ⟨stOf fun c => { c with sq := { c.sq with threads := [(0, { ThreadState.reset with mode := .run })], store := [(0, 0x0000000000000001)] } }, 0, by decide⟩

theorem wit_SequencerControlFlow_10 : ∃ (s : State) (i : Thread),
    (s.chip.id.hub = false) ∧ (s.chip.inReset = false) ∧ ((s.chip.th i.val).mode = .run) ∧ (s.chip.effPrio i.val < 3) ∧ (((s.chip.th i.val).aged + 1) * s.chip.sqAge ≤ s.chip.usSinceFrc (s.chip.th i.val).runAt) :=
  ⟨stOf fun c => { c with tk := { c.tk with frc := 99999999 }, sq := { c.sq with threads := [(0, { ThreadState.reset with mode := .run })] } }, 0, by decide⟩

theorem wit_SequencerTime_1 : ∃ (s : State) (i : Thread),
    (s.chip.id.hub = false) ∧ (s.chip.inReset = false) ∧ (s.chip.paused = false) ∧ (s.chip.pick = some i.val) ∧ (Iw.op (s.chip.fetch i.val) = 0x10) ∧ (Iw.good (s.chip.fetch i.val) = true) :=
  ⟨stOf fun c => { c with sq := { c.sq with threads := [(0, { ThreadState.reset with mode := .run })], store := [(0, 0x1001000000000384)] } }, 0, by decide⟩

theorem wit_SequencerTime_2 : ∃ (s : State) (i : Thread),
    (s.chip.id.hub = false) ∧ (s.chip.inReset = false) ∧ ((s.chip.th i.val).mode = .waitT) ∧ ((s.chip.th i.val).wake ≤ s.chip.now) :=
  ⟨stOf fun c => { c with sq := { c.sq with threads := [(0, { ThreadState.reset with mode := .waitT })], store := [(0, 0x0000000000000000)] } }, 0, by decide⟩

theorem wit_SequencerTime_3 : ∃ (s : State) (i : Thread),
    (s.chip.id.hub = false) ∧ (s.chip.inReset = false) ∧ (s.chip.now < (s.chip.th i.val).wake) :=
  ⟨stOf fun c => { c with sq := { c.sq with threads := [(0, { ThreadState.reset with mode := .run, wake := 99 })], store := [(0, 0x0000000000000000)] } }, 0, by decide⟩

theorem wit_SequencerTime_4 : ∃ (s : State) (i : Thread) (r : Nat),
    (s.chip.id.hub = false) ∧ (s.chip.inReset = false) ∧ (s.chip.paused = false) ∧ (s.chip.pick = some i.val) ∧ (Iw.op (s.chip.fetch i.val) = 0x11) ∧ (Iw.good (s.chip.fetch i.val) = true) ∧ (Iw.fl (s.chip.fetch i.val) % 4 = 0) ∧ ((s.chip.th i.val).lastRel = some r) :=
  ⟨stOf fun c => { c with sq := { c.sq with threads := [(0, { ThreadState.reset with mode := .run, lastRel := some 77 })], store := [(0, 0x1100000000000000)] } }, 0, 77, by decide⟩

theorem wit_SequencerTime_5 : ∃ (s : State) (i : Thread),
    (s.chip.id.hub = false) ∧ (s.chip.inReset = false) ∧ (s.chip.paused = false) ∧ (s.chip.pick = some i.val) ∧ (Iw.op (s.chip.fetch i.val) = 0x11) ∧ (Iw.good (s.chip.fetch i.val) = true) ∧ (Iw.fl (s.chip.fetch i.val) % 4 = 1) :=
  ⟨stOf fun c => { c with sq := { c.sq with threads := [(0, { ThreadState.reset with mode := .run })], store := [(0, 0x110100000000004D)] } }, 0, by decide⟩

theorem wit_SequencerTime_6 : ∃ (s : State) (i : Thread) (r : Nat),
    (s.chip.id.hub = false) ∧ (s.chip.inReset = false) ∧ (s.chip.paused = false) ∧ (s.chip.pick = some i.val) ∧ (Iw.op (s.chip.fetch i.val) = 0x11) ∧ (Iw.good (s.chip.fetch i.val) = true) ∧ (Iw.fl (s.chip.fetch i.val) % 4 = 2) ∧ (Iw.offset (s.chip.fetch i.val) ≠ 0) ∧ ((s.chip.th i.val).lastRel = some r) :=
  ⟨stOf fun c => { c with sq := { c.sq with threads := [(0, { ThreadState.reset with mode := .run, lastRel := some 77 })], store := [(0, 0x110200000000004D)] } }, 0, 77, by decide⟩

theorem wit_SequencerTime_7 : ∃ (s : State) (i : Thread) (r : Nat),
    (s.chip.id.hub = false) ∧ (s.chip.inReset = false) ∧ (s.chip.paused = false) ∧ (s.chip.pick = some i.val) ∧ (Iw.op (s.chip.fetch i.val) = 0x11) ∧ (Iw.good (s.chip.fetch i.val) = true) ∧ (Iw.fl (s.chip.fetch i.val) % 4 = 2) ∧ (Iw.offset (s.chip.fetch i.val) ≠ 0) ∧ ((s.chip.th i.val).lastRel = some r) ∧ (1 < (cadSlot (s.chip.th i.val).base (Iw.offset (s.chip.fetch i.val)) (some r))) ∧ (s.chip.frozen = false) ∧ (bindingTakes (s.chip.ccfg 0x106) 0x106 (some i.val) = true) ∧ (reboundCounters s.chip.regs = []) ∧ (SMap.find s.chip.mn.counts 0x106 0 < 2 ^ 32) ∧ (s.chip.ev.queue.length < 64) :=
  ⟨stOf fun c => { c with sq := { c.sq with threads := [(0, { ThreadState.reset with mode := .run, lastRel := some (70 * nsUnit) })], store := [(0, 0x1102000000000007)] } }, 0, 70 * nsUnit, by decide⟩

theorem wit_SequencerTime_8 : ∃ (s : State) (i : Thread),
    (s.chip.id.hub = false) ∧ (s.chip.inReset = false) ∧ (s.chip.paused = false) ∧ (s.chip.pick = some i.val) ∧ (Iw.op (s.chip.fetch i.val) = 0x11) ∧ (Iw.good (s.chip.fetch i.val) = true) ∧ (Iw.fl (s.chip.fetch i.val) % 4 = 2) ∧ (Iw.offset (s.chip.fetch i.val) = 0) :=
  ⟨stOf fun c => { c with sq := { c.sq with threads := [(0, { ThreadState.reset with mode := .run })], store := [(0, 0x1102000000000000)] } }, 0, by decide⟩

theorem wit_SequencerTime_9 : ∃ (s : State) (i : Thread),
    (s.chip.id.hub = false) ∧ (s.chip.inReset = false) ∧ (s.chip.paused = false) ∧ (s.chip.pick = some i.val) ∧ (Iw.op (s.chip.fetch i.val) = 0x11) ∧ (Iw.good (s.chip.fetch i.val) = true) ∧ (Iw.fl (s.chip.fetch i.val) % 4 = 3) :=
  ⟨stOf fun c => { c with sq := { c.sq with threads := [(0, { ThreadState.reset with mode := .run, mb := [(1, 5)] })], store := [(0, 0x1103000100000000)] } }, 0, by decide⟩

theorem wit_SequencerTriggers_1 : ∃ (s : State) (i : Thread),
    (s.chip.id.hub = false) ∧ (s.chip.inReset = false) ∧ (s.chip.paused = false) ∧ (s.chip.pick = some i.val) ∧ (Iw.op (s.chip.fetch i.val) = 0x18) ∧ (Iw.good (s.chip.fetch i.val) = true) ∧ (s.chip.setLines (Iw.a (s.chip.fetch i.val)) ≠ []) ∧ (s.chip.grpUsable i.val (s.chip.th i.val).course = true) :=
  ⟨stOf fun c => { c with sq := { c.sq with threads := [(0, { ThreadState.reset with mode := .run })], store := [(0, 0x1800000100000000), (0x4010, 5), (0x4011, 0), (0x4012, 0), (0x4013, 0), (0x4014, 0), (0x4015, 0), (0x4016, 0), (0x4017, 0), (0x4018, 0), (0x4019, 0), (0x401A, 0), (0x401B, 0), (0x401C, 0), (0x401D, 0), (0x401E, 0), (0x401F, 0)] }, gr := { c.gr with entries := [(0, { GrEntry.reset with state := .active })] } }, 0, by decide⟩

theorem wit_SequencerTriggers_2 : ∃ (s : State) (i : Thread),
    (s.chip.id.hub = false) ∧ (s.chip.inReset = false) ∧ (s.chip.paused = false) ∧ (s.chip.pick = some i.val) ∧ (Iw.op (s.chip.fetch i.val) = 0x18) ∧ (Iw.good (s.chip.fetch i.val) = true) ∧ (s.chip.setLines (Iw.a (s.chip.fetch i.val)) ≠ []) ∧ (s.chip.grpUsable i.val (s.chip.th i.val).course = false) :=
  ⟨stOf fun c => { c with sq := { c.sq with threads := [(0, { ThreadState.reset with mode := .run })], store := [(0, 0x1800000100000000), (0x4010, 5), (0x4011, 0), (0x4012, 0), (0x4013, 0), (0x4014, 0), (0x4015, 0), (0x4016, 0), (0x4017, 0), (0x4018, 0), (0x4019, 0), (0x401A, 0), (0x401B, 0), (0x401C, 0), (0x401D, 0), (0x401E, 0), (0x401F, 0)] }, gr := { c.gr with entries := [(0, { GrEntry.reset with state := .failed })] } }, 0, by decide⟩

theorem wit_SequencerTriggers_3 : ∃ (s : State) (i : Thread),
    (s.chip.id.hub = false) ∧ (s.chip.inReset = false) ∧ (s.chip.paused = false) ∧ (s.chip.pick = some i.val) ∧ (Iw.op (s.chip.fetch i.val) = 0x19) ∧ (Iw.good (s.chip.fetch i.val) = true) ∧ (s.chip.setLines (Iw.a (s.chip.fetch i.val)) ≠ []) ∧ (s.chip.grpUsable i.val (s.chip.th i.val).course = true) :=
  ⟨stOf fun c => { c with sq := { c.sq with threads := [(0, { ThreadState.reset with mode := .run })], store := [(0, 0x1900000100000046), (0x4010, 5), (0x4011, 0), (0x4012, 0), (0x4013, 0), (0x4014, 0), (0x4015, 0), (0x4016, 0), (0x4017, 0), (0x4018, 0), (0x4019, 0), (0x401A, 0), (0x401B, 0), (0x401C, 0), (0x401D, 0), (0x401E, 0), (0x401F, 0)] }, gr := { c.gr with entries := [(0, { GrEntry.reset with state := .active })] } }, 0, by decide⟩

theorem wit_SequencerTriggers_4 : ∃ (s : State) (i : Thread),
    (s.chip.id.hub = false) ∧ (s.chip.inReset = false) ∧ (s.chip.paused = false) ∧ (s.chip.pick = some i.val) ∧ (Iw.op (s.chip.fetch i.val) = 0x19) ∧ (Iw.good (s.chip.fetch i.val) = true) ∧ (s.chip.setLines (Iw.a (s.chip.fetch i.val)) ≠ []) ∧ (s.chip.grpUsable i.val (s.chip.th i.val).course = false) :=
  ⟨stOf fun c => { c with sq := { c.sq with threads := [(0, { ThreadState.reset with mode := .run })], store := [(0, 0x1900000100000046), (0x4010, 5), (0x4011, 0), (0x4012, 0), (0x4013, 0), (0x4014, 0), (0x4015, 0), (0x4016, 0), (0x4017, 0), (0x4018, 0), (0x4019, 0), (0x401A, 0), (0x401B, 0), (0x401C, 0), (0x401D, 0), (0x401E, 0), (0x401F, 0)] }, gr := { c.gr with entries := [(0, { GrEntry.reset with state := .failed })] } }, 0, by decide⟩

theorem wit_SequencerTriggers_5 : ∃ (s : State) (i : Thread),
    (s.chip.id.hub = false) ∧ (s.chip.inReset = false) ∧ ((s.chip.th i.val).mode = .waitF) ∧ ((s.chip.th i.val).lines = []) :=
  ⟨stOf fun c => { c with sq := { c.sq with threads := [(0, { ThreadState.reset with mode := .waitF })], store := [(0, 0x0000000000000000)] } }, 0, by decide⟩

theorem wit_SequencerTriggers_6 : ∃ (s : State) (i : Thread) (n : BitVec 15),
    (s.chip.id.hub = false) ∧ (s.chip.inReset = false) ∧ (s.chip.paused = false) ∧ (s.chip.pick = some i.val) ∧ (n.toNat = (s.chip.th i.val).pc) :=
  ⟨stOf fun c => { c with sq := { c.sq with threads := [(0, { ThreadState.reset with mode := .run })], store := [(0, 0x0000000000000000)] } }, 0, 0, by decide⟩

theorem wit_SequencerBarriers_1 : ∃ (s : State) (i : Thread),
    (s.chip.id.hub = false) ∧ (s.chip.inReset = false) ∧ (s.chip.paused = false) ∧ (s.chip.pick = some i.val) ∧ (Iw.op (s.chip.fetch i.val) = 0x20) ∧ (Iw.good (s.chip.fetch i.val) = true) ∧ (s.chip.grpUsable i.val (s.chip.th i.val).course = true) ∧ ((((s.chip.th i.val).armOf (s.chip.th i.val).course).map fun a => a.made).getD 0 ≤ Iw.a (s.chip.fetch i.val)) :=
  ⟨stOf fun c => { c with sq := { c.sq with threads := [(0, { ThreadState.reset with mode := .run, arms := [{ grp := 0, course := 0, k := 1, made := 1, synced := false }] })], store := [(0, 0x2000000300000000)] }, gr := { c.gr with entries := [(0, { GrEntry.reset with state := .active })] } }, 0, by decide⟩

theorem wit_SequencerBarriers_2 : ∃ (s : State) (i : Thread) (a : ArmCount),
    (s.chip.id.hub = false) ∧ (s.chip.inReset = false) ∧ (s.chip.paused = false) ∧ (s.chip.pick = some i.val) ∧ (Iw.op (s.chip.fetch i.val) = 0x20) ∧ (Iw.good (s.chip.fetch i.val) = true) ∧ (s.chip.grpUsable i.val (s.chip.th i.val).course = true) ∧ ((s.chip.th i.val).armOf (s.chip.th i.val).course = some a) ∧ (Iw.a (s.chip.fetch i.val) < a.made) :=
  ⟨stOf fun c => { c with sq := { c.sq with threads := [(0, { ThreadState.reset with mode := .run, arms := [{ grp := 0, course := 0, k := 6, made := 5, synced := false }] })], store := [(0, 0x2000000300000000)] }, gr := { c.gr with entries := [(0, { GrEntry.reset with state := .active })] } }, 0, { grp := 0, course := 0, k := 6, made := 5, synced := false }, by decide⟩

theorem wit_SequencerBarriers_3 : ∃ (s : State) (i : Thread) (l : LaneCfg),
    (s.chip.id.hub = false) ∧ (s.chip.inReset = false) ∧ (s.chip.paused = false) ∧ (s.chip.pick = some i.val) ∧ (Iw.op (s.chip.fetch i.val) = 0x21) ∧ (Iw.good (s.chip.fetch i.val) = true) ∧ (((Iw.a (s.chip.fetch i.val) >>> 8) % 8) < s.chip.mtLen ((s.chip.th i.val).grp)) ∧ (s.chip.grpUsable i.val (((s.chip.th i.val).course - Iw.fl (s.chip.fetch i.val) % 4)) = true) ∧ ((Iw.fl (s.chip.fetch i.val) % 4) < (s.chip.ent ((s.chip.th i.val).grp)).depth) ∧ ((s.chip.th i.val).n0 + (Iw.fl (s.chip.fetch i.val) % 4) ≤ (s.chip.th i.val).course) ∧ ((s.chip.ent ((s.chip.th i.val).grp)).admitted = false) ∧ ((s.chip.ent ((s.chip.th i.val).grp)).dropped.contains (((s.chip.th i.val).course - Iw.fl (s.chip.fetch i.val) % 4)) = false) ∧ ((s.chip.th i.val).outstanding (((s.chip.th i.val).course - Iw.fl (s.chip.fetch i.val) % 4)) ≠ 0) ∧ ((s.chip.ent ((s.chip.th i.val).grp)).closedTo (((s.chip.th i.val).course - Iw.fl (s.chip.fetch i.val) % 4)) = false) ∧ ((s.chip.mtCfgs ((s.chip.th i.val).grp))[((Iw.a (s.chip.fetch i.val) >>> 8) % 8)]? = some l) :=
  ⟨stOf fun c => { (c.setReg Reg.MT_GCFG 0x00000001) with sq := { c.sq with threads := [(0, { ThreadState.reset with mode := .run, mb := [(1, 7)], arms := [{ grp := 0, course := 0, k := 1, made := 0, synced := false }] })], store := [(0, 0x2100000100000000)] }, gr := { c.gr with entries := [(0, { GrEntry.reset with state := .active })] } }, 0, lane0, by decide⟩

theorem wit_SequencerBarriers_4 : ∃ (s : State) (i : Thread),
    (s.chip.id.hub = false) ∧ (s.chip.inReset = false) ∧ (s.chip.paused = false) ∧ (s.chip.pick = some i.val) ∧ (Iw.op (s.chip.fetch i.val) = 0x21) ∧ (Iw.good (s.chip.fetch i.val) = true) ∧ (s.chip.grpUsable i.val (((s.chip.th i.val).course - Iw.fl (s.chip.fetch i.val) % 4)) = true) ∧ (s.chip.mtLen ((s.chip.th i.val).grp) ≤ ((Iw.a (s.chip.fetch i.val) >>> 8) % 8)) :=
  ⟨stOf fun c => { c with sq := { c.sq with threads := [(0, { ThreadState.reset with mode := .run })], store := [(0, 0x2100000100000000)] }, gr := { c.gr with entries := [(0, { GrEntry.reset with state := .active })] } }, 0, by decide⟩

theorem wit_SequencerBarriers_5 : ∃ (s : State) (i : Thread),
    (s.chip.id.hub = false) ∧ (s.chip.inReset = false) ∧ (s.chip.paused = false) ∧ (s.chip.pick = some i.val) ∧ (Iw.op (s.chip.fetch i.val) = 0x21) ∧ (Iw.good (s.chip.fetch i.val) = true) ∧ (s.chip.grpUsable i.val (((s.chip.th i.val).course - Iw.fl (s.chip.fetch i.val) % 4)) = false) :=
  ⟨stOf fun c => { c with sq := { c.sq with threads := [(0, { ThreadState.reset with mode := .run })], store := [(0, 0x2100000100000000)] } }, 0, by decide⟩

theorem wit_SequencerBarriers_6 : ∃ (s : State) (i : Thread),
    (s.chip.id.hub = false) ∧ (s.chip.inReset = false) ∧ (s.chip.paused = false) ∧ (s.chip.pick = some i.val) ∧ (Iw.op (s.chip.fetch i.val) = 0x22) ∧ (Iw.good (s.chip.fetch i.val) = true) ∧ (s.chip.grpUsable i.val (s.chip.th i.val).course = true) ∧ ((s.chip.ent ((s.chip.th i.val).grp)).depth ≤ (s.chip.th i.val).course + 1 → (s.chip.th i.val).outstanding ((s.chip.th i.val).course + 1 - (s.chip.ent ((s.chip.th i.val).grp)).depth) = 0) ∧ (((s.chip.ent ((s.chip.th i.val).grp)).latest.all fun r => decide (r.course < (s.chip.th i.val).course)) = true) :=
  ⟨stOf fun c => { c with sq := { c.sq with threads := [(0, { ThreadState.reset with mode := .run })], store := [(0, 0x2200000000000000)] }, gr := { c.gr with entries := [(0, { GrEntry.reset with state := .active })] } }, 0, by decide⟩

theorem wit_SequencerBarriers_7 : ∃ (s : State) (i : Thread) (r : Release),
    (s.chip.id.hub = false) ∧ (s.chip.inReset = false) ∧ (s.chip.paused = false) ∧ (s.chip.pick = some i.val) ∧ (Iw.op (s.chip.fetch i.val) = 0x22) ∧ (Iw.good (s.chip.fetch i.val) = true) ∧ (s.chip.grpUsable i.val (s.chip.th i.val).course = true) ∧ ((s.chip.ent ((s.chip.th i.val).grp)).depth ≤ (s.chip.th i.val).course + 1 → (s.chip.th i.val).outstanding ((s.chip.th i.val).course + 1 - (s.chip.ent ((s.chip.th i.val).grp)).depth) = 0) ∧ ((s.chip.ent ((s.chip.th i.val).grp)).latest = some r) ∧ ((s.chip.th i.val).course ≤ r.course) :=
  ⟨stOf fun c => { c with sq := { c.sq with threads := [(0, { ThreadState.reset with mode := .run })], store := [(0, 0x2200000000000000)] }, gr := { c.gr with entries := [(0, { GrEntry.reset with state := .active, latest := some { course := 0, gen := 0, flags := 0, det := false, sat := 0, range := 0, nan := 0, pinf := 0, ninf := 0, trel := 9, addrs := [], vals := [] } })] } }, 0, { course := 0, gen := 0, flags := 0, det := false, sat := 0, range := 0, nan := 0, pinf := 0, ninf := 0, trel := 9, addrs := [], vals := [] }, by decide⟩

theorem wit_SequencerBarriers_8 : ∃ (s : State) (i : Thread),
    (s.chip.id.hub = false) ∧ (s.chip.inReset = false) ∧ (s.chip.paused = false) ∧ (s.chip.pick = some i.val) ∧ (Iw.op (s.chip.fetch i.val) = 0x22) ∧ (Iw.good (s.chip.fetch i.val) = true) ∧ (s.chip.grpUsable i.val (s.chip.th i.val).course = true) ∧ ((s.chip.ent ((s.chip.th i.val).grp)).depth ≤ (s.chip.th i.val).course + 1) ∧ ((s.chip.th i.val).outstanding ((s.chip.th i.val).course + 1 - (s.chip.ent ((s.chip.th i.val).grp)).depth) ≠ 0) :=
  ⟨stOf fun c => { c with sq := { c.sq with threads := [(0, { ThreadState.reset with mode := .run, arms := [{ grp := 0, course := 0, k := 1, made := 0, synced := false }] })], store := [(0, 0x2200000000000000)] }, gr := { c.gr with entries := [(0, { GrEntry.reset with state := .active })] } }, 0, by decide⟩

theorem wit_SequencerBarriers_9 : ∃ (s : State) (i : Thread) (p : Port) (x : Cell) (g : Nat) (l : List Cell),
    (s.chip.id.hub = false) ∧ (s.chip.inReset = false) ∧ (p.val < 2) ∧ (s.chip.headB p.val 0x21 = some x) ∧ (s.chip.meet x = .inl g) ∧ (s.chip.messageB p.val 0x21 x.group (if s.chip.mtTwo g then 2 else 1) = some l) ∧ ((s.chip.ent g).latest = none) ∧ ((s.chip.ent g).admDue = false) ∧ ((s.chip.ent g).expDue = false) ∧ ((s.chip.th i.val).mode = .waitB) ∧ ((s.chip.th i.val).grp = g) ∧ ((s.chip.th i.val).course ≤ (releaseRead l).course) :=
  ⟨stOf fun c => { c with gr := { c.gr with entries := [(0, { GrEntry.reset with state := .active })] }, sq := { c.sq with threads := [(0, { ThreadState.reset with mode := .waitB })] } }.modPort 0 fun x => { x with mode := .up, q := { x.q with rxB := [mkCell clsB 0x21 0 []] } }, 0, 0, mkCell clsB 0x21 0 [], 0, [mkCell clsB 0x21 0 []], by decide⟩

theorem wit_SequencerBarriers_10 : ∃ (s : State) (i : Thread),
    (s.chip.id.hub = false) ∧ (s.chip.inReset = false) ∧ (s.chip.paused = false) ∧ (s.chip.pick = some i.val) ∧ (Iw.op (s.chip.fetch i.val) = 0x11) ∧ (Iw.good (s.chip.fetch i.val) = true) ∧ (Iw.fl (s.chip.fetch i.val) % 4 = 0) ∧ ((s.chip.th i.val).lastRel = none) :=
  ⟨stOf fun c => { c with sq := { c.sq with threads := [(0, { ThreadState.reset with mode := .run, base := 77 })], store := [(0, 0x1100000000000000)] } }, 0, by decide⟩

theorem wit_SequencerBarriers_11 : ∃ (s : State) (i : Thread),
    (s.chip.id.hub = false) ∧ (s.chip.inReset = false) ∧ (s.chip.paused = false) ∧ (s.chip.pick = some i.val) ∧ (Iw.op (s.chip.fetch i.val) = 0x11) ∧ (Iw.good (s.chip.fetch i.val) = true) ∧ (Iw.fl (s.chip.fetch i.val) % 4 = 2) ∧ (Iw.offset (s.chip.fetch i.val) ≠ 0) ∧ ((s.chip.th i.val).lastRel = none) :=
  ⟨stOf fun c => { c with sq := { c.sq with threads := [(0, { ThreadState.reset with mode := .run })], store := [(0, 0x110200000000004D)] } }, 0, by decide⟩

theorem wit_SequencerSignals_1 : ∃ (s : State) (i : Thread),
    (s.chip.id.hub = false) ∧ (s.chip.inReset = false) ∧ (s.chip.paused = false) ∧ (s.chip.pick = some i.val) ∧ (Iw.op (s.chip.fetch i.val) = 0x28) ∧ (Iw.good (s.chip.fetch i.val) = true) ∧ ((Iw.fl (s.chip.fetch i.val)).testBit 0 = false) ∧ ((Iw.fl (s.chip.fetch i.val)).testBit 1 = false) ∧ ((Iw.a (s.chip.fetch i.val)) < semCount) ∧ ((s.chip.sem (Iw.a (s.chip.fetch i.val))).count + (oneIfZero (Iw.b (s.chip.fetch i.val) % 65536)) ≤ 65535) :=
  ⟨stOf fun c => { c with sq := { c.sq with threads := [(0, { ThreadState.reset with mode := .run })], store := [(0, 0x2800000500000002)] } }, 0, by decide⟩

theorem wit_SequencerSignals_2 : ∃ (s : State) (i : Thread),
    (s.chip.id.hub = false) ∧ (s.chip.inReset = false) ∧ (s.chip.paused = false) ∧ (s.chip.pick = some i.val) ∧ (Iw.op (s.chip.fetch i.val) = 0x28) ∧ (Iw.good (s.chip.fetch i.val) = true) ∧ ((Iw.fl (s.chip.fetch i.val)).testBit 0 = false) ∧ ((Iw.fl (s.chip.fetch i.val)).testBit 1 = false) ∧ ((Iw.a (s.chip.fetch i.val)) < semCount) ∧ (65535 < (s.chip.sem (Iw.a (s.chip.fetch i.val))).count + (oneIfZero (Iw.b (s.chip.fetch i.val) % 65536))) :=
  ⟨stOf fun c => { c with sq := { c.sq with threads := [(0, { ThreadState.reset with mode := .run })], store := [(0, 0x2800000500000002)] }, sg := { c.sg with sems := [(5, { SemState.reset with count := 65534 })] } }, 0, by decide⟩

theorem wit_SequencerSignals_3 : ∃ (s : State) (i : Thread),
    (s.chip.id.hub = false) ∧ (s.chip.inReset = false) ∧ (s.chip.paused = false) ∧ (s.chip.pick = some i.val) ∧ (Iw.op (s.chip.fetch i.val) = 0x28) ∧ (Iw.good (s.chip.fetch i.val) = true) ∧ ((Iw.fl (s.chip.fetch i.val)).testBit 0 = true) ∧ ((Iw.a (s.chip.fetch i.val)) < semCount) ∧ (s.chip.waitersOf (Iw.a (s.chip.fetch i.val)) = []) :=
  ⟨stOf fun c => { c with sq := { c.sq with threads := [(0, { ThreadState.reset with mode := .run })], store := [(0, 0x2801000500000000)] } }, 0, by decide⟩

theorem wit_SequencerSignals_4 : ∃ (s : State) (i : Thread),
    (s.chip.id.hub = false) ∧ (s.chip.inReset = false) ∧ (s.chip.paused = false) ∧ (s.chip.pick = some i.val) ∧ (Iw.op (s.chip.fetch i.val) = 0x28) ∧ (Iw.good (s.chip.fetch i.val) = true) ∧ ((Iw.fl (s.chip.fetch i.val)).testBit 0 = true) ∧ ((Iw.a (s.chip.fetch i.val)) < semCount) :=
  ⟨stOf fun c => { c with sq := { c.sq with threads := [(0, { ThreadState.reset with mode := .run })], store := [(0, 0x2801000500000000)] }, sg := { c.sg with waits := [(7, { sem := 5, n := 1, dir := false, ord := false, rank := 0, tag := 0, since := 0, reported := false })] } }, 0, by decide⟩

theorem wit_SequencerSignals_5 : ∃ (s : State) (i : Thread),
    (s.chip.id.hub = false) ∧ (s.chip.inReset = false) ∧ (s.chip.paused = false) ∧ (s.chip.pick = some i.val) ∧ (Iw.op (s.chip.fetch i.val) = 0x29) ∧ (Iw.good (s.chip.fetch i.val) = true) ∧ (Word.bit (s.chip.gteDst (Iw.a (s.chip.fetch i.val))) 31 = true) ∧ ((s.chip.ent (Word.field (s.chip.gteSem (Iw.a (s.chip.fetch i.val))) 16 8)).state.usable = true) ∧ ((Iw.fl (s.chip.fetch i.val)).testBit 1 = false) :=
  ⟨stOf fun c => { (c.setReg Reg.GT_EDST 0x80000011 3) with sq := { c.sq with threads := [(0, { ThreadState.reset with mode := .run })], store := [(0, 0x2900000300000002)] }, gr := { c.gr with entries := [(0, { GrEntry.reset with state := .active })] } }, 0, by decide⟩

theorem wit_SequencerSignals_6 : ∃ (s : State) (i : Thread),
    (s.chip.id.hub = false) ∧ (s.chip.inReset = false) ∧ (s.chip.paused = false) ∧ (s.chip.pick = some i.val) ∧ (Iw.op (s.chip.fetch i.val) = 0x2A) ∧ (Iw.good (s.chip.fetch i.val) = true) ∧ ((Iw.fl (s.chip.fetch i.val)).testBit 1 = false) ∧ ((Iw.fl (s.chip.fetch i.val)).testBit 2 = false) ∧ ((Iw.a (s.chip.fetch i.val)) < semCount) ∧ (SMap.has s.chip.sg.waits (1024 + i.val) = false) ∧ ((s.chip.sem (Iw.a (s.chip.fetch i.val))).ord = false) :=
  ⟨stOf fun c => { c with sq := { c.sq with threads := [(0, { ThreadState.reset with mode := .run })], store := [(0, 0x2A00000500000002)] } }, 0, by decide⟩

theorem wit_SequencerSignals_7 : ∃ (s : State) (i : Thread),
    (s.chip.id.hub = false) ∧ (s.chip.inReset = false) ∧ (s.chip.paused = false) ∧ (s.chip.pick = some i.val) ∧ (Iw.op (s.chip.fetch i.val) = 0x30) ∧ (Iw.good (s.chip.fetch i.val) = true) :=
  ⟨stOf fun c => { c with sq := { c.sq with threads := [(0, { ThreadState.reset with mode := .run, course := 5 })], store := [(0, 0x3001000000000000)] } }, 0, by decide⟩

theorem wit_SequencerSignals_8 : ∃ (s : State) (i : Thread) (g : Fin 16) (l : List (Option Nat × Nat)),
    (s.chip.id.hub = false) ∧ (s.chip.inReset = false) ∧ ((s.chip.th i.val).mode = .waitN) ∧ (takeFence g.val s.chip.sq.fences = (some (some i.val), l)) :=
  ⟨stOf fun c => { c with sq := { c.sq with threads := [(0, { ThreadState.reset with mode := .waitN, tag := 3 })], store := [(0, 0x0000000000000000)], fences := [(none, 2), (some 0, 3), (some 1, 3)] } }, 0, 3, [(none, 2), (some 1, 3)], by decide⟩

theorem wit_SequencerSignals_9 : ∃ (s : State) (j : Nat) (g : Fin 16) (l : List (Option Nat × Nat)),
    (s.chip.id.hub = false) ∧ (s.chip.inReset = false) ∧ ((takeFence g.val s.chip.sq.fences).1 = none ∨ (takeFence g.val s.chip.sq.fences).1 = some none ∨ takeFence g.val s.chip.sq.fences = (some (some j), l) ∧ (s.chip.th j).mode ≠ .waitN) :=
  ⟨State.reset, 0, 3, [], by decide⟩

theorem wit_SequencerSignals_10 : ∃ (s : State) (i : Thread),
    (s.chip.id.hub = false) ∧ (s.chip.inReset = false) ∧ ((s.chip.th i.val).mode = .waitN) :=
  ⟨stOf fun c => { c with sq := { c.sq with threads := [(0, { ThreadState.reset with mode := .waitN, tag := 3 })], store := [(0, 0x0000000000000000)] } }, 0, by decide⟩

theorem wit_SequencerSignals_11 : ∃ (s : State) (i : Thread),
    (s.chip.id.hub = false) ∧ (s.chip.inReset = false) ∧ (s.chip.paused = false) ∧ (s.chip.pick = some i.val) ∧ (Iw.op (s.chip.fetch i.val) = 0x38) ∧ (Iw.good (s.chip.fetch i.val) = true) ∧ ((Iw.fl (s.chip.fetch i.val)).testBit 0 = false) :=
  ⟨stOf fun c => { c with sq := { c.sq with threads := [(0, { ThreadState.reset with mode := .run })], store := [(0, 0x3800000000000000)] } }, 0, by decide⟩

theorem wit_SequencerSignals_12 : ∃ (s : State) (i : Thread),
    (s.chip.id.hub = false) ∧ (s.chip.inReset = false) ∧ (s.chip.paused = false) ∧ (s.chip.pick = some i.val) ∧ (Iw.op (s.chip.fetch i.val) = 0x38) ∧ (Iw.good (s.chip.fetch i.val) = true) ∧ ((Iw.fl (s.chip.fetch i.val)).testBit 0 = true) :=
  ⟨stOf fun c => { c with sq := { c.sq with threads := [(0, { ThreadState.reset with mode := .run, cursor := 99 })], store := [(0, 0x3801000000000000)] } }, 0, by decide⟩

theorem wit_SequencerSignals_13 : ∃ (s : State) (i : Thread),
    (s.chip.id.hub = false) ∧ (s.chip.inReset = false) ∧ (s.chip.paused = false) ∧ (s.chip.pick = some i.val) ∧ (Iw.op (s.chip.fetch i.val) = 0x39) ∧ (Iw.good (s.chip.fetch i.val) = true) ∧ (0x80 ≤ Iw.a (s.chip.fetch i.val)) ∧ (s.chip.ev.queue.length < 64) :=
  ⟨stOf fun c => { c with sq := { c.sq with threads := [(0, { ThreadState.reset with mode := .run })], store := [(0, 0x3902008100000005)] } }, 0, by decide⟩

theorem wit_SequencerSignals_14 : ∃ (s : State) (i : Thread),
    (s.chip.id.hub = false) ∧ (s.chip.inReset = false) ∧ (s.chip.paused = false) ∧ (s.chip.pick = some i.val) ∧ (Iw.op (s.chip.fetch i.val) = 0x39) ∧ (Iw.good (s.chip.fetch i.val) = true) ∧ (Iw.a (s.chip.fetch i.val) < 0x80) :=
  ⟨stOf fun c => { c with sq := { c.sq with threads := [(0, { ThreadState.reset with mode := .run })], store := [(0, 0x3902007F00000005)] } }, 0, by decide⟩

theorem wit_SequencerControls_1 : ∃ (s : State) (m : Master),
    (s.chip.opens m 0x10 = true) ∧ ((s.chip.th (s.chip.chanOf m 0x10)).mode.stopped = true) :=
  ⟨stOf fun c => { c with sq := { c.sq with threads := [(0, { ThreadState.reset with mode := .halted, pc := 5 })] } }, .host, by decide⟩

theorem wit_SequencerControls_2 : ∃ (s : State) (m : Master),
    (s.chip.opens m 0x10 = true) ∧ ((s.chip.th (s.chip.chanOf m 0x10)).mode.stopped = false) :=
  ⟨stOf fun c => { c with sq := { c.sq with threads := [(0, { ThreadState.reset with mode := .run, pc := 5 })] } }, .host, by decide⟩

theorem wit_SequencerControls_3 : ∃ (s : State) (m : Master),
    (s.chip.opens m 0x10 = true) ∧ ((s.chip.th (s.chip.chanOf m 0x10)).mode ≠ .idle) :=
  ⟨stOf fun c => { c with sq := { c.sq with threads := [(0, { ThreadState.reset with mode := .run, pc := 5 })] } }, .host, by decide⟩

theorem wit_SequencerControls_4 : ∃ (s : State) (m : Master),
    (s.chip.opens m 0x10 = true) ∧ ((s.chip.th (s.chip.chanOf m 0x10)).mode = .authHold) :=
  ⟨stOf fun c => { c with sq := { c.sq with threads := [(0, { ThreadState.reset with mode := .authHold, pc := 5 })] } }, .host, by decide⟩

theorem wit_SequencerControls_5 : ∃ (s : State) (m : Master),
    (s.chip.opens m 0x10 = true) ∧ ((s.chip.th (s.chip.chanOf m 0x10)).mode ≠ .authHold) :=
  ⟨stOf fun c => { c with sq := { c.sq with threads := [(0, { ThreadState.reset with mode := .run, pc := 5 })] } }, .host, by decide⟩

theorem wit_SequencerControls_6 : ∃ (s : State) (m : Master),
    (s.chip.opens m 0x10 = true) ∧ ((s.chip.th (s.chip.chanOf m 0x10)).mode.stopped = true) :=
  ⟨stOf fun c => { c with sq := { c.sq with threads := [(0, { ThreadState.reset with mode := .halted, pc := 5 })] } }, .host, by decide⟩

theorem wit_SequencerControls_7 : ∃ (s : State) (m : Master) (n : Fin 64) (w : Word),
    (s.chip.opens m 0x10 = true) :=
  ⟨stOf fun c => (c.setRegOf .firmware Reg.SQ_MB_LO 5 0 3).setRegOf .host Reg.SQ_MB_LO 6 0 3, .firmware, 3, 7, by decide⟩

theorem wit_SequencerControls_8 : ∃ (s : State) (m : Master) (w : Word),
    (s.chip.opens m 0x11 = true) ∧ (Word.field (s.chip.regOf m Reg.SQM_ADDR) 0 15 < 0x4400) ∧ (Word.bit (s.chip.reg Reg.SQM_WPROT) 31 = false ∨ Word.field (s.chip.reg Reg.SQM_WPROT) 0 15 ≤ Word.field (s.chip.regOf m Reg.SQM_ADDR) 0 15) :=
  ⟨stOf fun c => c.setReg Reg.SQM_ADDR 0x80000005, .host, 7, by decide⟩

theorem wit_SequencerControls_9 : ∃ (s : State) (m : Master) (w : Word),
    (s.chip.opens m 0x11 = true) ∧ (Word.field (s.chip.regOf m Reg.SQM_ADDR) 0 15 < 0x4400) ∧ (Word.bit (s.chip.reg Reg.SQM_WPROT) 31 = true) ∧ (Word.field (s.chip.regOf m Reg.SQM_ADDR) 0 15 < Word.field (s.chip.reg Reg.SQM_WPROT) 0 15) :=
  ⟨stOf fun c => c.setReg Reg.SQM_WPROT 0x80000005, .host, 7, by decide⟩

theorem wit_SequencerControls_10 : ∃ (s : State) (m : Master) (w : Word),
    (s.chip.opens m 0x11 = true) ∧ (0x4400 ≤ Word.field (s.chip.regOf m Reg.SQM_ADDR) 0 15) :=
  ⟨stOf fun c => c.setReg Reg.SQM_ADDR 0x80004400, .host, 7, by decide⟩

theorem wit_SequencerControls_11 : ∃ (s : State) (m : Master),
    (s.chip.opens m 0x11 = true) :=
  ⟨stOf fun c => c.setReg Reg.SQM_ADDR 0x80000005, .host, by decide⟩

theorem wit_MortarBarriers_1 : ∃ (s : State) (i : DieGIdx) (n : Nat),
    (s.chip.id.hub = false) ∧ (s.chip.inReset = false) ∧ (s.chip.hg.fenced = false) ∧ ((s.chip.ent i.val).state.usable = true) ∧ ((s.chip.ent i.val).barrier = none) ∧ (s.chip.armedCourse i.val = some n) ∧ ((s.chip.ent i.val).expelled = false) ∧ (n + 1 < (s.chip.ent i.val).depth ∨ s.chip.courseDone i.val (n + 1 - (s.chip.ent i.val).depth) = true) ∧ ((s.chip.ent i.val).apex = false) :=
  ⟨stOf fun c => { c with gr := { c.gr with entries := [(0, { GrEntry.reset with state := .active, mode := 0 })] }, sq := { c.sq with threads := [(0, { ThreadState.reset with mode := .waitB, arms := [{ grp := 0, course := 0, k := 0, made := 0, synced := true }] })] } }, 0, 0, by decide⟩

theorem wit_MortarBarriers_2 : ∃ (s : State) (i : DieGIdx),
    (s.chip.id.hub = false) ∧ (s.chip.inReset = false) ∧ (s.chip.armedCourse i.val = none) :=
  ⟨State.reset, 0, by decide⟩

theorem wit_MortarBarriers_3 : ∃ (s : State) (p : Port) (x : Cell) (g n q : Nat) (l : List Cell),
    (s.chip.id.hub = true) ∧ (s.chip.inReset = false) ∧ (p.val < 64) ∧ (s.chip.headB p.val 0x20 = some x) ∧ (s.chip.meet x = .inl g) ∧ (s.chip.messageB p.val 0x20 x.group (arriveLen (s.chip.mtLen g)) = some l) ∧ ((s.chip.ent g).barrier = some n) ∧ ((s.chip.ent g).closing = false) ∧ (((arriveSlots (s.chip.mtLen g) l).headD 0) / 16 % 8 = n % 8) ∧ ((s.chip.ent g).expects p.val n = true) ∧ (SMap.has (s.chip.ent g).arrivals p.val = false) ∧ (q ∈ (s.chip.ent g).awaited n) ∧ (q ≠ p.val) :=
  ⟨hubOf fun c => { c with gr := { c.gr with entries := [(5, { GrEntry.reset with state := .active, mode := 0x10000000, pmap := 3, barrier := some 0 })] } }.modPort 0 fun x => { x with mode := .up, q := { x.q with rxB := [mkCell clsB 0x20 5 []] } }, 0, mkCell clsB 0x20 5 [], 5, 0, 1, [mkCell clsB 0x20 5 []], by decide⟩

theorem wit_MortarBarriers_4 : ∃ (s : State) (p : Port) (x : Cell) (g : Nat) (l : List Cell),
    (s.chip.id.hub = true) ∧ (s.chip.inReset = false) ∧ (p.val < 64) ∧ (s.chip.headB p.val 0x20 = some x) ∧ (s.chip.meet x = .inl g) ∧ (s.chip.messageB p.val 0x20 x.group (arriveLen (s.chip.mtLen g)) = some l) ∧ ((s.chip.ent g).pmap.testBit p.val = false) ∧ ((s.chip.ent g).closing = false) :=
  ⟨hubOf fun c => { c with gr := { c.gr with entries := [(5, { GrEntry.reset with state := .active, pmap := 2 })] } }.modPort 0 fun x => { x with mode := .up, q := { x.q with rxB := [mkCell clsB 0x20 5 []] } }, 0, mkCell clsB 0x20 5 [], 5, [mkCell clsB 0x20 5 []], by decide⟩

theorem wit_MortarBarriers_5 : ∃ (s : State) (p : Port) (x : Cell) (k : Nat),
    (s.chip.inReset = false) ∧ (p.val < s.chip.nports) ∧ (s.chip.headB p.val 0x20 = some x) ∧ (s.chip.meet x = .inr k) ∧ (s.chip.messageLen x ≤ (s.chip.port p.val).q.rxB.length) :=
  ⟨hubOf fun c => c.modPort 0 fun x => { x with mode := .up, q := { x.q with rxB := [mkCell clsB 0x20 5 []] } }, 0, mkCell clsB 0x20 5 [], 1, by decide⟩

theorem wit_MortarBarriers_6 : ∃ (s : State) (p : Port) (x : Cell) (g : Nat) (l : List Cell),
    (s.chip.id.hub = true) ∧ (s.chip.inReset = false) ∧ (p.val < 66) ∧ (s.chip.headB p.val 0x21 = some x) ∧ (s.chip.meet x = .inl g) ∧ (s.chip.messageB p.val 0x21 x.group (if s.chip.mtTwo g then 2 else 1) = some l) ∧ ((s.chip.ent g).apex = false) ∧ ((s.chip.ent g).closing = false) ∧ ((s.chip.ent g).expected = some (releaseRead l).course) ∧ ((s.chip.ent g).barrier = none ∨ (s.chip.ent g).barrier = some (releaseRead l).course) :=
  ⟨hubOf fun c => { c with gr := { c.gr with entries := [(5, { GrEntry.reset with state := .active, expected := some 0, pmap := 1 })] } }.modPort 64 fun x => { x with mode := .up, q := { x.q with rxB := [mkCell clsB 0x21 5 []] } }, 64, mkCell clsB 0x21 5 [], 5, [mkCell clsB 0x21 5 []], by decide⟩

theorem wit_MortarBarriers_7 : ∃ (s : State) (p : Port) (x : Cell) (g : Nat) (l : List Cell),
    (s.chip.id.hub = true) ∧ (s.chip.inReset = false) ∧ (p.val < 66) ∧ (s.chip.headB p.val 0x21 = some x) ∧ (s.chip.meet x = .inl g) ∧ (s.chip.messageB p.val 0x21 x.group (if s.chip.mtTwo g then 2 else 1) = some l) ∧ ((s.chip.ent g).apex = true ∨ ((s.chip.ent g).barrier = none ∧ (s.chip.ent g).expected ≠ none ∧ (s.chip.ent g).expected ≠ some (releaseRead l).course)) :=
  ⟨hubOf fun c => { c with gr := { c.gr with entries := [(5, { GrEntry.reset with state := .active, expected := some 1, pmap := 1 })] } }.modPort 65 fun x => { x with mode := .up, q := { x.q with rxB := [mkCell clsB 0x21 5 []] } }, 65, mkCell clsB 0x21 5 [], 5, [mkCell clsB 0x21 5 []], by decide⟩

theorem wit_MortarBarriers_8 : ∃ (s : State) (p : Port) (x : Cell) (g : Nat) (l : List Cell),
    (s.chip.id.hub = false) ∧ (s.chip.inReset = false) ∧ (p.val < 2) ∧ (s.chip.headB p.val 0x21 = some x) ∧ (s.chip.meet x = .inl g) ∧ (s.chip.messageB p.val 0x21 x.group (if s.chip.mtTwo g then 2 else 1) = some l) ∧ ((s.chip.ent g).latest = none) :=
  ⟨stOf fun c => { c with gr := { c.gr with entries := [(0, { GrEntry.reset with state := .active })] } }.modPort 0 fun x => { x with mode := .up, q := { x.q with rxB := [mkCell clsB 0x21 0 []] } }, 0, mkCell clsB 0x21 0 [], 0, [mkCell clsB 0x21 0 []], by decide⟩

theorem wit_MortarBarriers_9 : ∃ (s : State) (p : Port) (x : Cell) (g : Nat) (l : List Cell) (r : Release),
    (s.chip.id.hub = false) ∧ (s.chip.inReset = false) ∧ (p.val < 2) ∧ (s.chip.headB p.val 0x21 = some x) ∧ (s.chip.meet x = .inl g) ∧ (s.chip.messageB p.val 0x21 x.group (if s.chip.mtTwo g then 2 else 1) = some l) ∧ ((s.chip.ent g).latest = some r) ∧ ((releaseRead l).course ≤ r.course) :=
  ⟨stOf fun c => { c with gr := { c.gr with entries := [(0, { GrEntry.reset with state := .active, latest := some (releaseRead [mkCell clsB 0x21 0 []]) })] } }.modPort 1 fun x => { x with mode := .up, q := { x.q with rxB := [mkCell clsB 0x21 0 []] } }, 1, mkCell clsB 0x21 0 [], 0, [mkCell clsB 0x21 0 []], releaseRead [mkCell clsB 0x21 0 []], by decide⟩

theorem wit_MortarBarriers_10 : ∃ (s : State) (g n : Nat) (l : List Cell),
    (s.chip.inReset = false) ∧ (s.chip.gr.held.find? s.chip.heldReady = some (g, .arrival n l)) :=
  ⟨hubOf fun c => { c with gr := { c.gr with held := [(5, .arrival 0 [mkCell clsB 0x20 5 []])], entries := [(5, { GrEntry.reset with state := .active })] } }.modPort 64 fun x => { x with mode := .up, link := { x.link with credB := 3 } }, 5, 0, [mkCell clsB 0x20 5 []], by decide⟩

theorem wit_MortarBarriers_11 : ∃ (s : State) ,
    (s.chip.inReset = false) ∧ (s.chip.gr.held.find? s.chip.heldReady = none) ∧ ((s.chip.gr.entries.map fun e => e.1).find? s.chip.probeReady = none) ∧ (((s.chip.gr.entries.map fun e => e.1).find? fun g => !(s.chip.keptReady g).isEmpty) = none) :=
  ⟨State.reset, by decide⟩

theorem wit_MortarBarriers_12 : ∃ (s : State) ,
    (s.chip.inReset = false) ∧ (Word.field (s.chip.reg Reg.MT_SATCFG) 0 8 < s.chip.gr.qocc) :=
  ⟨stOf fun c => { c with gr := { c.gr with qocc := 300 } }, by decide⟩

theorem wit_MortarBarriers_13 : ∃ (s : State) ,
    (s.chip.inReset = false) ∧ (s.chip.gr.qocc ≤ Word.field (s.chip.reg Reg.MT_SATCFG) 0 8) :=
  ⟨State.reset, by decide⟩

theorem wit_SemaphoreOperations_1 : ∃ (s : State) (t0 : Slot) (n : Sem) (k : BitVec 16) (tag : BitVec 8),
    (s.chip.id.hub = false) ∧ (s.chip.inReset = false) ∧ (s.chip.portTaken = false) ∧ (s.chip.pw.hostLow = false) ∧ (n.toNat < semCount) ∧ ((s.chip.sem n.toNat).count + oneIfZero k.toNat ≤ 65535) :=
  ⟨State.reset, 1, 5, 0, 0, by decide⟩

theorem wit_SemaphoreOperations_2 : ∃ (s : State) (t0 : Slot) (n : Sem) (k : BitVec 16) (dir : Bool) (tag : BitVec 8),
    (s.chip.id.hub = false) ∧ (s.chip.inReset = false) ∧ (s.chip.portTaken = false) ∧ (s.chip.pw.hostLow = false) ∧ (semCount ≤ n.toNat) :=
  ⟨State.reset, 1, 0xC000, 1, false, 0, by decide⟩

theorem wit_SemaphoreOperations_3 : ∃ (s : State) (t0 : Slot) (n : Sem) (k : BitVec 16) (tag : BitVec 8),
    (s.chip.id.hub = false) ∧ (s.chip.inReset = false) ∧ (s.chip.portTaken = false) ∧ (s.chip.pw.hostLow = false) ∧ (n.toNat < semCount) ∧ (65535 < (s.chip.sem n.toNat).count + oneIfZero k.toNat) :=
  ⟨stOf fun c => { c with sg := { c.sg with sems := [(5, { SemState.reset with count := 65535 })] } }, 1, 5, 1, 0, by decide⟩

theorem wit_SemaphoreOperations_4 : ∃ (s : State) (t0 : Slot) (n : Sem) (k : BitVec 16) (tag : BitVec 8),
    (s.chip.id.hub = false) ∧ (s.chip.inReset = false) ∧ (s.chip.portTaken = false) ∧ (s.chip.pw.hostLow = false) ∧ (n.toNat < semCount) ∧ ((findDir s.chip.sg.dirs n.toNat tag.toNat).getD 0 + oneIfZero k.toNat ≤ 65535) ∧ ((findDir s.chip.sg.dirs n.toNat tag.toNat).isSome = true ∨ s.chip.sg.dirs.length < 1024) :=
  ⟨State.reset, 1, 5, 3, 9, by decide⟩

theorem wit_SemaphoreOperations_5 : ∃ (s : State) (t0 : Slot) (n : Sem) (k : BitVec 16) (dir : Bool) (tag : BitVec 8),
    (s.chip.id.hub = false) ∧ (s.chip.inReset = false) ∧ (s.chip.portTaken = true) ∧ (s.chip.pw.hostLow = false) ∧ (s.chip.sg.rq.length < 64) :=
  ⟨stOf fun c => { c with cp := { c.cp with stage := .paused } }, 1, 5, 3, true, 9, by decide⟩

theorem wit_SemaphoreOperations_6 : ∃ (s : State) (t0 : Slot) (n : Sem),
    (s.chip.id.hub = false) ∧ (s.chip.inReset = false) ∧ (s.chip.portTaken = false) ∧ (s.chip.pw.hostLow = false) ∧ (n.toNat < semCount) :=
  ⟨stOf fun c => { c with sg := { c.sg with waits := [(7, { sem := 5, n := 1, dir := false, ord := false, rank := 0, tag := 0, since := 0, reported := false })] } }, 1, 5, by decide⟩

theorem wit_SemaphoreOperations_7 : ∃ (s : State) (t0 : Slot) (n : Sem) (k : BitVec 16) (dir : Bool) (rank tag : BitVec 8),
    (s.chip.id.hub = false) ∧ (s.chip.inReset = false) ∧ (s.chip.portTaken = false) ∧ (s.chip.pw.hostLow = false) ∧ (n.toNat < semCount) ∧ (SMap.has s.chip.sg.waits t0.val = false) ∧ ((s.chip.sem n.toNat).ord = false) :=
  ⟨State.reset, 1, 5, 3, false, 0, 0, by decide⟩

theorem wit_SemaphoreOperations_8 : ∃ (s : State) (t0 : Slot) (n : Sem) (k : BitVec 16) (dir : Bool) (rank tag : BitVec 8),
    (s.chip.id.hub = false) ∧ (s.chip.inReset = false) ∧ (s.chip.portTaken = false) ∧ (s.chip.pw.hostLow = false) ∧ (n.toNat < semCount) ∧ (SMap.has s.chip.sg.waits t0.val = false) ∧ ((s.chip.sem n.toNat).ord = true) ∧ (rank.toNat < (s.chip.sem n.toNat).nrank) :=
  ⟨stOf fun c => { c with sg := { c.sg with sems := [(5, { SemState.reset with cfg := 0x80000003 })] } }, 1, 5, 3, false, 2, 0, by decide⟩

theorem wit_SemaphoreOperations_9 : ∃ (s : State) (t0 : Slot) (n : Sem) (k : BitVec 16) (dir ord : Bool) (rank tag : BitVec 8),
    (s.chip.id.hub = false) ∧ (s.chip.inReset = false) ∧ (s.chip.portTaken = false) ∧ (s.chip.pw.hostLow = false) ∧ (n.toNat < semCount) ∧ (SMap.has s.chip.sg.waits t0.val = true) :=
  ⟨stOf fun c => { c with sg := { c.sg with waits := [(7, { sem := 5, n := 1, dir := false, ord := false, rank := 0, tag := 0, since := 0, reported := false })] } }, 7, 5, 3, false, false, 2, 0, by decide⟩

theorem wit_SemaphoreOperations_10 : ∃ (s : State) (t0 : Slot),
    (s.chip.id.hub = false) ∧ (s.chip.inReset = false) ∧ (s.chip.portTaken = false) ∧ (s.chip.pw.hostLow = false) :=
  ⟨stOf fun c => { c with sg := { c.sg with waits := [(7, { sem := 5, n := 1, dir := false, ord := false, rank := 0, tag := 0, since := 0, reported := false })] } }, 7, by decide⟩

theorem wit_SemaphoreOperations_11 : ∃ (s : State) (n : SemIdx) (a : Nat) (w : WaitState),
    (s.chip.id.hub = false) ∧ (s.chip.inReset = false) ∧ (s.chip.winner n.val = some (a, w)) ∧ (w.dir = false) :=
  ⟨stOf fun c => { c with sg := { c.sg with waits := [(7, { sem := 5, n := 1, dir := false, ord := false, rank := 0, tag := 0, since := 0, reported := false })], sems := [(5, { SemState.reset with count := 3 })] } }, 5, 7, { sem := 5, n := 1, dir := false, ord := false, rank := 0, tag := 0, since := 0, reported := false }, by decide⟩

theorem wit_SemaphoreOperations_12 : ∃ (s : State) (n : SemIdx),
    (s.chip.id.hub = false) ∧ (s.chip.inReset = false) ∧ (s.chip.winner n.val = none) :=
  ⟨stOf fun c => { c with sg := { c.sg with waits := [(7, { sem := 5, n := 1, dir := false, ord := false, rank := 0, tag := 0, since := 0, reported := false })] } }, 5, by decide⟩

theorem wit_SemaphoreOperations_13 : ∃ (s : State) (m : Master) (w : Word),
    (s.chip.opens m 0x18 = true) ∧ (s.chip.portTaken = false) ∧ (Word.field (s.chip.regOf m Reg.SG_SEL) 0 16 < semCount) ∧ ((s.chip.sem (Word.field (s.chip.regOf m Reg.SG_SEL) 0 16)).count + oneIfZero (Word.field w 0 16) ≤ 65535) :=
  ⟨State.reset, .host, 2, by decide⟩

theorem wit_SemaphoreOperations_14 : ∃ (s : State) (m : Master),
    (s.chip.opens m 0x18 = true) ∧ (s.chip.portTaken = false) ∧ (Word.field (s.chip.regOf m Reg.SG_SEL) 0 16 < semCount) :=
  ⟨State.reset, .host, by decide⟩

theorem wit_SemaphoreOperations_15 : ∃ (s : State) (m : Master),
    (s.chip.opens m 0x18 = true) ∧ (s.chip.portTaken = false) :=
  ⟨stOf fun c => { c with sg := { c.sg with sems := [(0, { SemState.reset with next := 3 })] } }, .host, by decide⟩

theorem wit_SemaphoreOperations_16 : ∃ (s : State) (m : Master) (w : Word),
    (s.chip.opens m 0x18 = true) ∧ (s.chip.waitersOf (Word.field (s.chip.regOf m Reg.SG_SEL) 0 16) = []) :=
  ⟨State.reset, .host, 0xFFFFFFFF, by decide⟩

theorem wit_SemaphoreOperations_17 : ∃ (s : State) (m : Master) (w : Word),
    (s.chip.opens m 0x18 = true) ∧ (s.chip.waitersOf (Word.field (s.chip.regOf m Reg.SG_SEL) 0 16) ≠ []) :=
  ⟨stOf fun c => ({ c with sg := { c.sg with waits := [(7, { sem := 5, n := 1, dir := false, ord := false, rank := 0, tag := 0, since := 0, reported := false })] } }).setReg Reg.SG_SEL 5, .host, 0xFFFFFFFF, by decide⟩

theorem wit_SemaphoreOperations_18 : ∃ (s : State) (m : Master) (agent : Bool) (w : Word),
    (s.chip.opens m 0x18 = true) ∧ ((if agent then Word.field w 0 11 < 1056 else Word.field w 0 16 < semCount)) :=
  ⟨State.reset, .host, true, 7, by decide⟩

theorem wit_SemaphoreOperations_19 : ∃ (s : State) (m : Master) (agent : Bool) (w : Word),
    (s.chip.opens m 0x18 = true) ∧ ((if agent then 1056 ≤ Word.field w 0 11 else semCount ≤ Word.field w 0 16)) :=
  ⟨State.reset, .host, false, 0xC000, by decide⟩

theorem wit_RemoteSignals_1 : ∃ (s : State) (t0 : Slot) (e0 : GateIdx) (k : BitVec 16) (tag : BitVec 8),
    (s.chip.id.hub = false) ∧ (s.chip.inReset = false) ∧ (s.chip.portTaken = false) ∧ (s.chip.pw.hostLow = false) ∧ (s.chip.gt.staging.length < 64) ∧ (Word.bit (s.chip.gteDst e0.val) 31 = true) ∧ ((s.chip.ent (Word.field (s.chip.gteSem e0.val) 16 8)).state.usable = true) :=
  ⟨stOf fun c => { c.setReg Reg.GT_EDST 0x80000011 3 with gr := { c.gr with entries := [(0, { GrEntry.reset with state := .active })] } }, 1, 3, 2, 0, by decide⟩

theorem wit_RemoteSignals_2 : ∃ (s : State) (t0 : Slot) (e0 : GateIdx) (k : BitVec 16) (dir : Bool) (tag : BitVec 8),
    (s.chip.id.hub = false) ∧ (s.chip.inReset = false) ∧ (s.chip.portTaken = false) ∧ (s.chip.pw.hostLow = false) ∧ (64 ≤ s.chip.gt.staging.length) :=
  ⟨stOf fun c => { c with gt := { c.gt with staging := List.replicate 64 { agent := 1, dest := 9, sem := 5, chan := 3, grp := 0, gid := 0, gen := 0, n := 1, dir := false, tag := 0 } } }, 1, 3, 2, false, 0, by decide⟩

theorem wit_RemoteSignals_3 : ∃ (s : State) (x : Staged),
    (s.chip.id.hub = false) ∧ (s.chip.inReset = false) ∧ (s.chip.gt.staging.head? = some x) ∧ ((s.chip.gt.queries.any fun q => match q with | .tx _ => true | .rx _ _ | .gone _ => false) = false) :=
  ⟨stOf fun c => { c with gt := { c.gt with staging := [{ agent := 1, dest := 9, sem := 5, chan := 3, grp := 0, gid := 0, gen := 0, n := 1, dir := false, tag := 0 }] } }, { agent := 1, dest := 9, sem := 5, chan := 3, grp := 0, gid := 0, gen := 0, n := 1, dir := false, tag := 0 }, by decide⟩

theorem wit_RemoteSignals_4 : ∃ (s : State) (k : Word) (a b : Nat) (r : List FcQuery),
    (s.chip.id.hub = false) ∧ (s.chip.inReset = false) ∧ (s.chip.gt.queries = .rx a b :: r) :=
  ⟨stOf fun c => { c with gt := { c.gt with queries := [.rx 9 3], pend := [(0, { src := 9, sem := 5, n := 2, gate := 7, chan := 3, tag := 0, dir := false, gid := 0, grp := 0, rx := none, since := 0, order := 0, stalled := false, met := false })] } }, 8, 9, 3, [], by decide⟩

theorem wit_RemoteSignals_5 : ∃ (s : State) (k : Word) (b : Nat) (r : List FcQuery) (x : Staged),
    (s.chip.id.hub = false) ∧ (s.chip.inReset = false) ∧ (s.chip.gt.queries = .tx b :: r) ∧ (s.chip.gt.staging.head? = some x) ∧ (s.chip.tr.addr ≠ some x.dest) ∧ (x.dir = false) ∧ (s.chip.carries (if s.chip.planeOf x.grp then 1 else 0) = true) ∧ ((s.chip.port (if s.chip.planeOf x.grp then 1 else 0)).q.txS.length < 128) ∧ (((s.chip.port (if s.chip.planeOf x.grp then 1 else 0)).q.wait.any fun w => w.1 == clsS) = false) ∧ (s.chip.tr.excluded.contains (if s.chip.planeOf x.grp then 1 else 0) = false) ∧ (s.chip.hg.fenced = false) :=
  ⟨stOf fun c => ({ c with gt := { c.gt with queries := [.tx 3], staging := [{ agent := 1, dest := 9, sem := 5, chan := 3, grp := 0, gid := 0, gen := 0, n := 1, dir := false, tag := 0 }] } }).modPort 0 fun x => { x with mode := .up }, 8, 3, [], { agent := 1, dest := 9, sem := 5, chan := 3, grp := 0, gid := 0, gen := 0, n := 1, dir := false, tag := 0 }, by decide⟩

theorem wit_RemoteSignals_6 : ∃ (s : State) (q : FcQuery) (r : List FcQuery),
    (s.chip.id.hub = false) ∧ (s.chip.inReset = false) ∧ (s.chip.gt.queries = q :: r) :=
  ⟨stOf fun c => { c with gt := { c.gt with queries := [.tx 3] } }, .tx 3, [], by decide⟩

theorem wit_RemoteSignals_7 : ∃ (s : State) (p : Port) (x : Cell) (g q : Nat),
    (s.chip.id.hub = true) ∧ (s.chip.inReset = false) ∧ (p.val < 66) ∧ (s.chip.headS p.val = some x) ∧ (s.chip.meet x = .inl g) ∧ (s.chip.rsigOut x = some q) ∧ (q ≠ p.val) ∧ ((s.chip.port q).nver ≠ 1) ∧ ((s.chip.port q).q.txS.length < 128) ∧ (((s.chip.port q).q.wait.any fun w => w.1 == clsS) = false) :=
  ⟨hubOf fun c => ({ c with gr := { c.gr with entries := [(5, { GrEntry.reset with state := .active })] } }.modPort 64 fun x => { x with mode := .up }).modPort 0 fun x => { x with mode := .up, q := { x.q with rxS := [mkCell clsS 0x30 5 [1, 9, 0x00050001, 7, 0x00030000, 0]] } }, 0, mkCell clsS 0x30 5 [1, 9, 0x00050001, 7, 0x00030000, 0], 5, 64, by decide⟩

theorem wit_RemoteSignals_8 : ∃ (s : State) (p : Port) (x : Cell) (g : Nat),
    (s.chip.id.hub = false) ∧ (s.chip.inReset = false) ∧ (p.val < 2) ∧ (s.chip.headS p.val = some x) ∧ (s.chip.rsigCheck p.val x = .good g) :=
  ⟨stOf fun c => { c with tr := { c.tr with addr := some 1 }, gr := { c.gr with entries := [(0, { GrEntry.reset with state := .active })] } }.modPort 0 fun x => { x with mode := .up, q := { x.q with rxS := [mkCell clsS 0x30 0 [1, 9, 0x00050001, 7, 0x00030000, 0]] } }, 0, mkCell clsS 0x30 0 [1, 9, 0x00050001, 7, 0x00030000, 0], 0, by decide⟩

theorem wit_RemoteSignals_9 : ∃ (s : State) (p : Port) (x : Cell),
    (s.chip.id.hub = false) ∧ (s.chip.inReset = false) ∧ (p.val < 2) ∧ (s.chip.headS p.val = some x) ∧ (s.chip.rsigCheck p.val x = .bad) :=
  ⟨stOf fun c => c.modPort 0 fun x => { x with mode := .up, q := { x.q with rxS := [mkCell clsS 0x30 0 [1, 9, 0x00050001, 7, 0x00030000, 0]] } }, 0, mkCell clsS 0x30 0 [1, 9, 0x00050001, 7, 0x00030000, 0], by decide⟩

theorem wit_RemoteSignals_10 : ∃ (s : State) (p : Port) (x : Cell) (g i : Nat),
    (s.chip.id.hub = false) ∧ (s.chip.inReset = false) ∧ (p.val < 2) ∧ (s.chip.headS p.val = some x) ∧ (s.chip.rsigCheck p.val x = .good g) ∧ (freePend s.chip.gt.pend 512 0 = some i) :=
  ⟨stOf fun c => { c with tr := { c.tr with addr := some 1 }, gr := { c.gr with entries := [(0, { GrEntry.reset with state := .active })] } }.modPort 0 fun x => { x with mode := .up, q := { x.q with rxS := [mkCell clsS 0x30 0 [1, 9, 0x00050001, 7, 0x00030000, 0]] } }, 0, mkCell clsS 0x30 0 [1, 9, 0x00050001, 7, 0x00030000, 0], 0, 0, by decide⟩

theorem wit_RemoteSignals_11 : ∃ (s : State) (a : BitVec 24) (b : BitVec 12) (k : Word),
    (s.chip.id.hub = false) ∧ (s.chip.inReset = false) :=
  ⟨stOf fun c => { c with gt := { c.gt with pend := [(0, { src := 9, sem := 5, n := 2, gate := 7, chan := 3, tag := 0, dir := false, gid := 0, grp := 0, rx := none, since := 0, order := 0, stalled := false, met := false })] } }, 9, 3, 8, by decide⟩

theorem wit_RemoteSignals_12 : ∃ (s : State) (i : Nat) (x : PendEntry),
    (s.chip.id.hub = false) ∧ (s.chip.inReset = false) ∧ (s.chip.paused = false) ∧ (s.chip.sharedBusy = false ∨ s.chip.sg.turn = true) ∧ (s.chip.nextMet = some (i, x)) ∧ (x.dir = false) ∧ (x.sem < semCount) ∧ ((s.chip.sem x.sem).count + oneIfZero x.n ≤ 65535) :=
  ⟨stOf fun c => { c with gt := { c.gt with pend := [(0, { src := 9, sem := 5, n := 2, gate := 7, chan := 3, tag := 0, dir := false, gid := 0, grp := 0, rx := none, since := 0, order := 0, stalled := false, met := true })] } }, 0, { src := 9, sem := 5, n := 2, gate := 7, chan := 3, tag := 0, dir := false, gid := 0, grp := 0, rx := none, since := 0, order := 0, stalled := false, met := true }, by decide⟩

theorem wit_RemoteSignals_13 : ∃ (s : State) ,
    (s.chip.id.hub = false) ∧ (s.chip.inReset = false) ∧ (s.chip.paused = false) ∧ (s.chip.nextMet = none) :=
  ⟨State.reset, by decide⟩

theorem wit_RemoteSignals_14 : ∃ (s : State) (i : PendIdx) (x : PendEntry),
    (s.chip.id.hub = false) ∧ (s.chip.inReset = false) ∧ (SMap.has s.chip.gt.pend i.val = true) ∧ ((s.chip.gt.pend.find? fun e => e.1 == i.val) = some (i.val, x)) ∧ (x.met = false) ∧ (x.stalled = false) ∧ (max 1 (Word.field (s.chip.reg Reg.GT_CFG) 0 20) ≤ s.chip.usSinceFrc x.since) :=
  ⟨stOf fun c => { c with gt := { c.gt with pend := [(0, { src := 9, sem := 5, n := 2, gate := 7, chan := 3, tag := 0, dir := false, gid := 0, grp := 0, rx := none, since := 0, order := 0, stalled := false, met := false })] }, tk := { c.tk with frc := 99999999999 } }, 0, { src := 9, sem := 5, n := 2, gate := 7, chan := 3, tag := 0, dir := false, gid := 0, grp := 0, rx := none, since := 0, order := 0, stalled := false, met := false }, by decide⟩

theorem wit_DeadlockDetection_1 : ∃ (s : State) (i : DieGIdx),
    (s.chip.id.hub = false) ∧ (s.chip.inReset = false) ∧ (s.chip.dlOn i.val = true) ∧ ((s.chip.ent i.val).state ≠ .free) :=
  ⟨stOf fun c => { (c.setReg Reg.DL_CFG 0x80000001).setReg Reg.DL_GCFG 0x80000001 0 with gr := { c.gr with entries := [(0, { GrEntry.reset with state := .active })] } }, 0, by decide⟩

theorem wit_DeadlockDetection_2 : ∃ (s : State) (i : DieGIdx),
    (s.chip.id.hub = false) ∧ (s.chip.inReset = false) ∧ (s.chip.dlOn i.val = false) :=
  ⟨State.reset, 0, by decide⟩

theorem wit_DeadlockDetection_3 : ∃ (s : State) (i : DieGIdx),
    (s.chip.id.hub = false) ∧ (s.chip.inReset = false) ∧ (s.chip.dlOn i.val = true) ∧ ((s.chip.ent i.val).state.isSealed = true) ∧ ((s.chip.ent i.val).apex = false) ∧ ((s.chip.ent i.val).dieCount = 1) ∧ (s.chip.tk.valid = true) ∧ (s.chip.hg.fenced = false) ∧ (s.chip.carries (s.chip.groupUp i.val) = true) ∧ ((s.chip.port (s.chip.groupUp i.val)).nver ≠ 1) ∧ ((s.chip.port (s.chip.groupUp i.val)).q.txB.length < 128) ∧ (((s.chip.port (s.chip.groupUp i.val)).q.wait.any fun w => w.1 == clsB) = false) ∧ (s.chip.tr.excluded.contains (s.chip.groupUp i.val) = false) ∧ ((s.chip.ent i.val).dl.epProbe ≠ some (s.chip.now / s.chip.gper)) :=
  ⟨stOf fun c => { ((c.setReg Reg.DL_CFG 0x80000001).setReg Reg.DL_GCFG 0x80000001 0).modPort 0 (fun x => { x with mode := .up, nver := 2 }) with tk := { c.tk with valid := true }, gr := { c.gr with entries := [(0, { GrEntry.reset with state := .active, dl := { DlGroup.reset with epProbe := some 9 } })] } }, 0, by decide⟩

theorem wit_DeadlockDetection_4 : ∃ (s : State) (p : Port) (x : Cell) (g : Nat),
    (s.chip.id.hub = true) ∧ (s.chip.inReset = false) ∧ (p.val < 64) ∧ (s.chip.headB p.val 0x23 = some x) ∧ (Word.bit (x.pay 2) 31 = false) ∧ (s.chip.meet x = .inl g) ∧ ((s.chip.ent g).pmap.testBit p.val = true) ∧ ((s.chip.ent g).probe = none) ∧ ((s.chip.ent g).probeFull (probeRead x p.val) = false) :=
  ⟨hubOf fun c => { c with gr := { c.gr with entries := [(5, { GrEntry.reset with state := .active, pmap := 3 })] } }.modPort 0 fun x => { x with mode := .up, q := { x.q with rxB := [mkCell clsB 0x23 5 [0x40000001, 0, 0, 1, 0]] } }, 0, mkCell clsB 0x23 5 [0x40000001, 0, 0, 1, 0], 5, by decide⟩

theorem wit_DeadlockDetection_5 : ∃ (s : State) (p : Port) (x : Cell) (g : Nat) (r : ProbeRound),
    (s.chip.id.hub = true) ∧ (s.chip.inReset = false) ∧ (p.val < 64) ∧ (s.chip.headB p.val 0x23 = some x) ∧ (Word.bit (x.pay 2) 31 = false) ∧ (s.chip.meet x = .inl g) ∧ ((s.chip.ent g).pmap.testBit p.val = true) ∧ ((s.chip.ent g).probe = some r) ∧ ((probeRead x p.val).epoch = r.epoch % 65536) ∧ (r.got.contains p.val = true) :=
  ⟨hubOf fun c => { c with gr := { c.gr with entries := [(5, { GrEntry.reset with state := .active, pmap := 3, probe := some { epoch := 1, got := [0], quiet := true, incomplete := false, anyWait := true, sent := 0, recv := 0, members := 1 } })] } }.modPort 0 fun x => { x with mode := .up, q := { x.q with rxB := [mkCell clsB 0x23 5 [0x40000001, 0, 0, 1, 0]] } }, 0, mkCell clsB 0x23 5 [0x40000001, 0, 0, 1, 0], 5, { epoch := 1, got := [0], quiet := true, incomplete := false, anyWait := true, sent := 0, recv := 0, members := 1 }, by decide⟩

theorem wit_DeadlockDetection_6 : ∃ (s : State) (p : Port) (x : Cell) (g : Nat) (r : Bool × Nat),
    (s.chip.id.hub = false) ∧ (s.chip.inReset = false) ∧ (p.val < 2) ∧ (s.chip.headB p.val 0x23 = some x) ∧ (Word.bit (x.pay 2) 31 = true) ∧ (s.chip.meet x = .inl g) ∧ ((s.chip.ent g).apex = false) ∧ (p.val = s.chip.groupUp g) ∧ ((s.chip.ent g).dl.round = some r) :=
  ⟨stOf fun c => { c with gr := { c.gr with entries := [(0, { GrEntry.reset with state := .active, dl := { DlGroup.reset with round := some (true, 0) } })] } }.modPort 0 fun x => { x with mode := .up, q := { x.q with rxB := [mkCell clsB 0x23 0 [0x88000001, 0, 0, 1, 0]] } }, 0, mkCell clsB 0x23 0 [0x88000001, 0, 0, 1, 0], 0, (true, 0), by decide⟩

theorem wit_DeadlockDetection_7 : ∃ (s : State) (p : Port) (x : Cell) (g : Nat),
    (s.chip.id.hub = true) ∧ (s.chip.inReset = false) ∧ (p.val < 66) ∧ (s.chip.headB p.val 0x23 = some x) ∧ (Word.bit (x.pay 2) 31 = true) ∧ (s.chip.meet x = .inl g) ∧ ((s.chip.ent g).apex = false) ∧ (p.val = s.chip.groupUp g) :=
  ⟨hubOf fun c => { c with gr := { c.gr with entries := [(5, { GrEntry.reset with state := .active, pmap := 1 })] } }.modPort 64 fun x => { x with mode := .up, q := { x.q with rxB := [mkCell clsB 0x23 5 [0x88000001, 0, 0, 1, 0]] } }, 64, mkCell clsB 0x23 5 [0x88000001, 0, 0, 1, 0], 5, by decide⟩

theorem wit_GroupCommands_1 : ∃ (s : State) (m : Master) (w : Word),
    (s.chip.opens m 0x15 = true) ∧ (Word.bit w 31 = true) ∧ ((s.chip.ent (s.chip.chanOf m 0x15)).state = .free ∨ (s.chip.ent (s.chip.chanOf m 0x15)).state = .opened) ∧ (s.chip.findGid (if s.chip.id.hub then (s.chip.chanOf m 0x15) else Word.field w 16 12) = none) ∧ (SMap.has s.chip.gr.lastGen (if s.chip.id.hub then (s.chip.chanOf m 0x15) else Word.field w 16 12) = false ∨ SMap.find s.chip.gr.lastGen (if s.chip.id.hub then (s.chip.chanOf m 0x15) else Word.field w 16 12) 0 < Word.field w 0 16) :=
  ⟨State.reset, .host, 0x80070001, by decide⟩

theorem wit_GroupCommands_2 : ∃ (s : State) (m : Master) (w : Word),
    (s.chip.opens m 0x15 = true) ∧ (Word.bit w 31 = false) ∧ ((s.chip.ent (s.chip.chanOf m 0x15)).state = .free ∨ (s.chip.ent (s.chip.chanOf m 0x15)).state = .opened) :=
  ⟨stOf fun c => { c with gr := { c.gr with entries := [(0, { GrEntry.reset with state := .opened })] } }, .host, 0x00070001, by decide⟩

theorem wit_GroupCommands_3 : ∃ (s : State) (m : Master) (w : Word),
    (s.chip.opens m 0x15 = true) ∧ ((s.chip.ent (s.chip.chanOf m 0x15)).state.isSealed = true ∨ (s.chip.ent (s.chip.chanOf m 0x15)).state = .quar) :=
  ⟨stOf fun c => { c with gr := { c.gr with entries := [(0, { GrEntry.reset with state := .sealed })] } }, .host, 0x80070001, by decide⟩

theorem wit_GroupCommands_4 : ∃ (s : State) (m : Master) (w : Word),
    (s.chip.opens m 0x15 = true) ∧ (Word.bit w 31 = true) ∧ ((s.chip.ent (s.chip.chanOf m 0x15)).state = .free) ∧ (s.chip.findGid (if s.chip.id.hub then (s.chip.chanOf m 0x15) else Word.field w 16 12) = none) ∧ (SMap.has s.chip.gr.lastGen (if s.chip.id.hub then (s.chip.chanOf m 0x15) else Word.field w 16 12) = true) ∧ (Word.field w 0 16 ≤ SMap.find s.chip.gr.lastGen (if s.chip.id.hub then (s.chip.chanOf m 0x15) else Word.field w 16 12) 0) :=
  ⟨stOf fun c => { c with gr := { c.gr with lastGen := [(7, 1)] } }, .host, 0x80070001, by decide⟩

theorem wit_GroupCommands_5 : ∃ (s : State) (m : Master) (w : Word),
    (s.chip.opens m 0x15 = true) :=
  ⟨State.reset, .host, 0x77, by decide⟩

theorem wit_GroupCommands_6 : ∃ (s : State) (m : Master) (w : Word),
    (s.chip.opens m 0x15 = true) ∧ ((s.chip.ent (s.chip.chanOf m 0x15)).state = .opened) ∧ ((s.chip.ent (s.chip.chanOf m 0x15)).apex = true) ∧ (Word.field w 0 16 = (s.chip.ent (s.chip.chanOf m 0x15)).gen) ∧ ((s.chip.ent (s.chip.chanOf m 0x15)).decl ≠ 0) ∧ (s.chip.usesMtext (s.chip.chanOf m 0x15) = false ∨ Word.bit (s.chip.ent (s.chip.chanOf m 0x15)).mode 2 = true) :=
  ⟨stOf fun c => { c with gr := { c.gr with entries := [(0, { GrEntry.reset with state := .opened, mode := 0x10000000, decl := 2 })] } }, .host, 0, by decide⟩

theorem wit_GroupCommands_7 : ∃ (s : State) (m : Master) (w : Word),
    (s.chip.opens m 0x15 = true) ∧ ((s.chip.ent (s.chip.chanOf m 0x15)).state ≠ .opened ∨ Word.field w 0 16 ≠ (s.chip.ent (s.chip.chanOf m 0x15)).gen) :=
  ⟨State.reset, .host, 1, by decide⟩

theorem wit_GroupCommands_8 : ∃ (s : State) (m : Master) (w : Word),
    (s.chip.opens m 0x15 = true) ∧ ((s.chip.ent (s.chip.chanOf m 0x15)).state ≠ .free) ∧ ((s.chip.ent (s.chip.chanOf m 0x15)).state ≠ .quar) ∧ (Word.field w 0 16 = (s.chip.ent (s.chip.chanOf m 0x15)).gen) :=
  ⟨stOf fun c => { c with gr := { c.gr with entries := [(0, { GrEntry.reset with state := .active })] } }, .host, 0, by decide⟩

theorem wit_GroupCommands_9 : ∃ (s : State) (m : Master) (w : Word),
    (s.chip.opens m 0x15 = true) ∧ ((s.chip.ent (s.chip.chanOf m 0x15)).state ≠ .quar) ∧ (Word.field w 0 16 ≠ (s.chip.ent (s.chip.chanOf m 0x15)).gen) :=
  ⟨stOf fun c => { c with gr := { c.gr with entries := [(0, { GrEntry.reset with state := .active })] } }, .host, 1, by decide⟩

theorem wit_GroupCommands_10 : ∃ (s : State) (m : Master) (w : Word),
    (s.chip.opens m 0x15 = true) ∧ (s.chip.id.hub = true) ∧ (s.chip.tr.addr ≠ none) ∧ ((s.chip.ent (s.chip.chanOf m 0x15)).apex = true) ∧ ((s.chip.ent (s.chip.chanOf m 0x15)).state = .active) ∧ (Word.field w 0 16 = (s.chip.ent (s.chip.chanOf m 0x15)).gen) ∧ (5 ≤ Word.field (s.chip.regOf m Reg.GR_GCARG0 (s.chip.chanOf m 0x15)) 24 4) ∧ (Word.field (s.chip.regOf m Reg.GR_GCARG0 (s.chip.chanOf m 0x15)) 24 4 ≤ 8) ∧ (Word.field (s.chip.regOf m Reg.GR_GCARG0 (s.chip.chanOf m 0x15)) 24 4 < s.chip.tr.level) ∧ (s.chip.below (Word.field (s.chip.regOf m Reg.GR_GCARG0 (s.chip.chanOf m 0x15)) 0 24) = true) ∧ ((s.chip.ent (s.chip.chanOf m 0x15)).barrier = none) ∧ ((s.chip.ent (s.chip.chanOf m 0x15)).pend = none) ∧ ((s.chip.ent (s.chip.chanOf m 0x15)).courseOk { op := 3, prune := Word.field w 24 4, tlevel := Word.field (s.chip.regOf m Reg.GR_GCARG0 (s.chip.chanOf m 0x15)) 24 4, gen := Word.field w 0 16, target := Word.field (s.chip.regOf m Reg.GR_GCARG0 (s.chip.chanOf m 0x15)) 0 24, course := (s.chip.regOf m Reg.GR_GCARG1 (s.chip.chanOf m 0x15)).toNat, nmem := Word.field (s.chip.regOf m Reg.GR_GCARG2 (s.chip.chanOf m 0x15)) 0 25 } = true) ∧ ((s.chip.ent (s.chip.chanOf m 0x15)).decl + Word.field (s.chip.regOf m Reg.GR_GCARG2 (s.chip.chanOf m 0x15)) 0 25 ≤ 16777216) ∧ (1 ≤ (s.chip.ent (s.chip.chanOf m 0x15)).decl + Word.field (s.chip.regOf m Reg.GR_GCARG2 (s.chip.chanOf m 0x15)) 0 25) :=
  ⟨hubOf fun c => { (((c.setReg Reg.GR_GCARG0 0x05000001 0).setReg Reg.GR_GCARG1 2 0).setReg Reg.GR_GCARG2 1 0) with tr := { c.tr with level := 6, addr := some 0, mode := .crown }, gr := { c.gr with entries := [(0, { GrEntry.reset with state := .active, mode := 0x10000000, decl := 3, latest := some { course := 0, gen := 0, flags := 0, det := false, sat := 0, range := 0, nan := 0, pinf := 0, ninf := 0, trel := 0, addrs := [], vals := [] } })] } }, .host, 0, by decide⟩

theorem wit_GroupCommands_11 : ∃ (s : State) (m : Master) (w : Word),
    (s.chip.opens m 0x15 = true) ∧ (s.chip.id.hub = true) ∧ (s.chip.tr.addr ≠ none) ∧ ((s.chip.ent (s.chip.chanOf m 0x15)).apex = true) ∧ ((s.chip.ent (s.chip.chanOf m 0x15)).state = .active) ∧ (Word.field w 0 16 = (s.chip.ent (s.chip.chanOf m 0x15)).gen) ∧ (5 ≤ Word.field (s.chip.regOf m Reg.GR_GCARG0 (s.chip.chanOf m 0x15)) 24 4) ∧ (Word.field (s.chip.regOf m Reg.GR_GCARG0 (s.chip.chanOf m 0x15)) 24 4 ≤ 8) ∧ (Word.field (s.chip.regOf m Reg.GR_GCARG0 (s.chip.chanOf m 0x15)) 24 4 < s.chip.tr.level) ∧ (s.chip.below (Word.field (s.chip.regOf m Reg.GR_GCARG0 (s.chip.chanOf m 0x15)) 0 24) = true) ∧ ((s.chip.ent (s.chip.chanOf m 0x15)).barrier = none) ∧ ((s.chip.ent (s.chip.chanOf m 0x15)).pend = none) ∧ ((s.chip.ent (s.chip.chanOf m 0x15)).courseOk { op := 4, prune := Word.field w 24 4, tlevel := Word.field (s.chip.regOf m Reg.GR_GCARG0 (s.chip.chanOf m 0x15)) 24 4, gen := Word.field w 0 16, target := Word.field (s.chip.regOf m Reg.GR_GCARG0 (s.chip.chanOf m 0x15)) 0 24, course := (s.chip.regOf m Reg.GR_GCARG1 (s.chip.chanOf m 0x15)).toNat, nmem := Word.field (s.chip.regOf m Reg.GR_GCARG2 (s.chip.chanOf m 0x15)) 0 25 } = true) ∧ (1 + Word.field (s.chip.regOf m Reg.GR_GCARG2 (s.chip.chanOf m 0x15)) 0 25 ≤ (s.chip.ent (s.chip.chanOf m 0x15)).decl) ∧ ((s.chip.ent (s.chip.chanOf m 0x15)).decl ≤ 16777216) :=
  ⟨hubOf fun c => { (((c.setReg Reg.GR_GCARG0 0x05000001 0).setReg Reg.GR_GCARG1 2 0).setReg Reg.GR_GCARG2 1 0) with tr := { c.tr with level := 6, addr := some 0, mode := .crown }, gr := { c.gr with entries := [(0, { GrEntry.reset with state := .active, mode := 0x10000000, decl := 3, latest := some { course := 0, gen := 0, flags := 0, det := false, sat := 0, range := 0, nan := 0, pinf := 0, ninf := 0, trel := 0, addrs := [], vals := [] } })] } }, .host, 0, by decide⟩

theorem wit_GroupCommands_12 : ∃ (s : State) (m : Master) (w : Word),
    (s.chip.opens m 0x15 = true) ∧ ((s.chip.ent (s.chip.chanOf m 0x15)).state ≠ .quar) ∧ ((s.chip.ent (s.chip.chanOf m 0x15)).apex = false) :=
  ⟨State.reset, .host, 0, by decide⟩

theorem wit_GroupCommands_13 : ∃ (s : State) (m : Master) (w : Word),
    (s.chip.opens m 0x15 = true) ∧ ((s.chip.ent (s.chip.chanOf m 0x15)).state ≠ .quar) ∧ ((s.chip.ent (s.chip.chanOf m 0x15)).apex = false) :=
  ⟨State.reset, .host, 0, by decide⟩

theorem wit_GroupCommands_14 : ∃ (s : State) (i : GIdx),
    (s.chip.inReset = false) ∧ (i.val < s.chip.ngroups) ∧ ((s.chip.ent i.val).state = .quar) :=
  ⟨stOf fun c => { c with gr := { c.gr with entries := [(0, { GrEntry.reset with state := .quar, gid := 7 })] } }, 0, by decide⟩

theorem wit_GroupCommands_15 : ∃ (s : State) (i : GIdx),
    (s.chip.inReset = false) ∧ (i.val < s.chip.ngroups) ∧ ((s.chip.ent i.val).state ≠ .quar) :=
  ⟨State.reset, 0, by decide⟩

theorem wit_GroupCells_1 : ∃ (s : State) (p : Port) (x : Cell) (g : Nat),
    (s.chip.inReset = false) ∧ (p.val < s.chip.nports) ∧ (s.chip.headM p.val 0x42 = some x) ∧ ((Gcmd.read x).op = 1) ∧ (s.chip.meet x = .inl g) ∧ ((s.chip.ent g).apex = false) ∧ (p.val = s.chip.groupUp g) ∧ ((s.chip.ent g).state = .opened) :=
  ⟨stOf fun c => { c with gr := { c.gr with entries := [(0, { GrEntry.reset with state := .opened })] } }.modPort 0 fun x => { x with mode := .up, q := { x.q with rxM := [mkCell clsM 0x42 0 [0x10000000, 0, 0, 1]] } }, 0, mkCell clsM 0x42 0 [0x10000000, 0, 0, 1], 0, by decide⟩

theorem wit_GroupCells_2 : ∃ (s : State) (p : Port) (x : Cell) (g : Nat),
    (s.chip.inReset = false) ∧ (p.val < s.chip.nports) ∧ (s.chip.headM p.val 0x42 = some x) ∧ ((Gcmd.read x).op = 2) ∧ (s.chip.meet x = .inl g) ∧ ((s.chip.ent g).apex = false) ∧ (p.val = s.chip.groupUp g) :=
  ⟨stOf fun c => { c with gr := { c.gr with entries := [(0, { GrEntry.reset with state := .active })] } }.modPort 0 fun x => { x with mode := .up, q := { x.q with rxM := [mkCell clsM 0x42 0 [0x20000000, 0, 0, 1]] } }, 0, mkCell clsM 0x42 0 [0x20000000, 0, 0, 1], 0, by decide⟩

theorem wit_GroupCells_3 : ∃ (s : State) (p : Port) (x : Cell) (g : Nat),
    (s.chip.id.hub = false) ∧ (s.chip.inReset = false) ∧ (p.val < 2) ∧ (s.chip.headM p.val 0x42 = some x) ∧ ((Gcmd.read x).op = 3) ∧ (s.chip.meet x = .inl g) ∧ ((s.chip.ent g).apex = false) ∧ (p.val = s.chip.groupUp g) ∧ ((s.chip.ent g).state = .opened) ∧ ((s.chip.ent g).latest = none) :=
  ⟨stOf fun c => { c with gr := { c.gr with entries := [(0, { GrEntry.reset with state := .opened })] } }.modPort 0 fun x => { x with mode := .up, q := { x.q with rxM := [mkCell clsM 0x42 0 [0x30000000, 0, 0, 1]] } }, 0, mkCell clsM 0x42 0 [0x30000000, 0, 0, 1], 0, by decide⟩

theorem wit_GroupCells_4 : ∃ (s : State) (p : Port) (x : Cell) (g : Nat),
    (s.chip.id.hub = false) ∧ (s.chip.inReset = false) ∧ (p.val < 2) ∧ (s.chip.headM p.val 0x42 = some x) ∧ ((Gcmd.read x).op = 4) ∧ (s.chip.meet x = .inl g) ∧ ((s.chip.ent g).apex = false) ∧ (p.val = s.chip.groupUp g) ∧ ((s.chip.ent g).state.isSealed = true) ∧ ((s.chip.ent g).latest = none) :=
  ⟨stOf fun c => { c with gr := { c.gr with entries := [(0, { GrEntry.reset with state := .sealed })] } }.modPort 0 fun x => { x with mode := .up, q := { x.q with rxM := [mkCell clsM 0x42 0 [0x40000000, 0, 0, 1]] } }, 0, mkCell clsM 0x42 0 [0x40000000, 0, 0, 1], 0, by decide⟩

theorem wit_GroupCells_5 : ∃ (s : State) (p : Port) (x : Cell) (g : Nat),
    (s.chip.inReset = false) ∧ (p.val < s.chip.nports) ∧ (s.chip.headM p.val 0x42 = some x) ∧ ((Gcmd.read x).op = 1) ∧ (s.chip.meet x = .inl g) ∧ ((s.chip.ent g).apex = true ∨ p.val ≠ s.chip.groupUp g) :=
  ⟨stOf fun c => { c with gr := { c.gr with entries := [(0, { GrEntry.reset with state := .opened })] } }.modPort 1 fun x => { x with mode := .up, q := { x.q with rxM := [mkCell clsM 0x42 0 [0x10000000, 0, 0, 1]] } }, 1, mkCell clsM 0x42 0 [0x10000000, 0, 0, 1], 0, by decide⟩

theorem wit_GroupCells_6 : ∃ (s : State) (p : Port) (x : Cell) (g : Nat),
    (s.chip.inReset = false) ∧ (p.val < s.chip.nports) ∧ (s.chip.headM p.val 0x42 = some x) ∧ ((Gcmd.read x).op = 2) ∧ (s.chip.meet x = .inl g) ∧ ((s.chip.ent g).apex = true ∨ p.val ≠ s.chip.groupUp g) :=
  ⟨stOf fun c => { c with gr := { c.gr with entries := [(0, { GrEntry.reset with state := .opened })] } }.modPort 1 fun x => { x with mode := .up, q := { x.q with rxM := [mkCell clsM 0x42 0 [0x20000000, 0, 0, 1]] } }, 1, mkCell clsM 0x42 0 [0x20000000, 0, 0, 1], 0, by decide⟩

theorem wit_GroupCells_7 : ∃ (s : State) (p : Port) (x : Cell) (g : Nat),
    (s.chip.inReset = false) ∧ (p.val < s.chip.nports) ∧ (s.chip.headM p.val 0x42 = some x) ∧ ((Gcmd.read x).op = 3) ∧ (s.chip.meet x = .inl g) ∧ ((s.chip.ent g).apex = true ∨ p.val ≠ s.chip.groupUp g) :=
  ⟨stOf fun c => { c with gr := { c.gr with entries := [(0, { GrEntry.reset with state := .opened })] } }.modPort 1 fun x => { x with mode := .up, q := { x.q with rxM := [mkCell clsM 0x42 0 [0x30000000, 0, 0, 1]] } }, 1, mkCell clsM 0x42 0 [0x30000000, 0, 0, 1], 0, by decide⟩

theorem wit_GroupCells_8 : ∃ (s : State) (p : Port) (x : Cell) (g : Nat),
    (s.chip.inReset = false) ∧ (p.val < s.chip.nports) ∧ (s.chip.headM p.val 0x42 = some x) ∧ ((Gcmd.read x).op = 4) ∧ (s.chip.meet x = .inl g) ∧ ((s.chip.ent g).apex = true ∨ p.val ≠ s.chip.groupUp g) :=
  ⟨stOf fun c => { c with gr := { c.gr with entries := [(0, { GrEntry.reset with state := .opened })] } }.modPort 1 fun x => { x with mode := .up, q := { x.q with rxM := [mkCell clsM 0x42 0 [0x40000000, 0, 0, 1]] } }, 1, mkCell clsM 0x42 0 [0x40000000, 0, 0, 1], 0, by decide⟩

theorem wit_GroupCells_9 : ∃ (s : State) (i : GIdx),
    (s.chip.id.hub = true) ∧ (s.chip.inReset = false) ∧ ((s.chip.ent i.val).state.isSealed = true) ∧ ((s.chip.ent i.val).apex = false) ∧ (s.chip.carries (s.chip.groupUp i.val) = true) ∧ ((s.chip.port (s.chip.groupUp i.val)).q.txB.length < 128) ∧ (((s.chip.port (s.chip.groupUp i.val)).q.wait.any fun w => w.1 == clsB) = false) ∧ (s.chip.tr.excluded.contains (s.chip.groupUp i.val) = false) ∧ ((s.chip.ent i.val).upSent ≠ some (s.chip.censusUp i.val)) ∧ (s.chip.hg.fenced = false) :=
  ⟨hubOf fun c => { c with gr := { c.gr with entries := [(5, { GrEntry.reset with state := .sealed })] } }.modPort 64 fun x => { x with mode := .up }, 5, by decide⟩

theorem wit_GroupCells_10 : ∃ (s : State) (p : Port) (x : Cell) (g : Nat),
    (s.chip.id.hub = true) ∧ (s.chip.inReset = false) ∧ (p.val < 64) ∧ (s.chip.headB p.val 0x22 = some x) ∧ (Word.bit (x.pay 2) 31 = false) ∧ (s.chip.meet x = .inl g) ∧ ((s.chip.ent g).pmap.testBit p.val = true) ∧ ((s.chip.ent g).barrier = none) :=
  ⟨hubOf fun c => { c with gr := { c.gr with entries := [(5, { GrEntry.reset with state := .sealed, pmap := 3 })] } }.modPort 0 fun x => { x with mode := .up, q := { x.q with rxB := [mkCell clsB 0x22 5 [0, 3, 0x600, 9]] } }, 0, mkCell clsB 0x22 5 [0, 3, 0x600, 9], 5, by decide⟩

theorem wit_GroupCells_11 : ∃ (s : State) (p : Port) (x : Cell) (g : Nat),
    (s.chip.id.hub = true) ∧ (s.chip.inReset = false) ∧ (p.val < 64) ∧ (s.chip.headB p.val 0x22 = some x) ∧ (Word.bit (x.pay 2) 31 = false) ∧ (s.chip.meet x = .inl g) ∧ ((s.chip.ent g).pmap.testBit p.val = false) :=
  ⟨hubOf fun c => { c with gr := { c.gr with entries := [(5, { GrEntry.reset with state := .sealed, pmap := 2 })] } }.modPort 0 fun x => { x with mode := .up, q := { x.q with rxB := [mkCell clsB 0x22 5 [0, 3, 0x600, 9]] } }, 0, mkCell clsB 0x22 5 [0, 3, 0x600, 9], 5, by decide⟩

theorem wit_GroupCells_12 : ∃ (s : State) (p : Port) (x : Cell) (g : Nat),
    (s.chip.inReset = false) ∧ (p.val < s.chip.nports) ∧ (s.chip.headB p.val 0x22 = some x) ∧ (Word.bit (x.pay 2) 31 = true) ∧ (s.chip.meet x = .inl g) ∧ ((s.chip.ent g).apex = false) ∧ (p.val = s.chip.groupUp g) :=
  ⟨stOf fun c => { c with gr := { c.gr with entries := [(0, { GrEntry.reset with state := .sealed })] } }.modPort 0 fun x => { x with mode := .up, q := { x.q with rxB := [mkCell clsB 0x22 0 [0xC0000000, 3, 0x600, 9]] } }, 0, mkCell clsB 0x22 0 [0xC0000000, 3, 0x600, 9], 0, by decide⟩

/-! ### Ill-formed commands, one for each check of Instr.wf -/

theorem test_ill_formed_boundary : (Instr.anchorBoundary [3, 3]).wf = false := by decide
/-- A codeword of the given cells and errors of the line. -/
def word (cells : List Cell) (errors : List (Fin 544 × BitVec 10)) : Codeword :=
  { header := 0, cells := cells, errors := errors, phase := 0 }

theorem test_ill_formed_codeword_cells : (Instr.codewordReceive 0 (word [] [])).wf = false := by decide
theorem test_ill_formed_codeword_words : (Instr.codewordReceive 0 (word (List.replicate 8 []) [])).wf = false := by decide
theorem test_ill_formed_codeword_errors :
    (Instr.codewordReceive 0 (word (List.replicate 8 (List.replicate 20 0)) [(3, 1), (3, 2)])).wf = false := by decide
theorem test_well_formed_codeword :
    (Instr.codewordReceive 0 (word (List.replicate 8 (List.replicate 20 0)) [(3, 1), (4, 2)])).wf = true := by decide
theorem test_ill_formed_chain :
    (Instr.chainCalDone (List.replicate 257 { trip := 2, spread := 0 })).wf = false := by decide
theorem test_ill_formed_status : (Instr.engStatus 0 [0]).wf = false := by decide
theorem test_ill_formed_payload : (Instr.plumbReceive 0 [0]).wf = false := by decide
theorem test_ill_formed_staging : (Instr.stagingProgram 1025).wf = false := by decide

/-! ### One step each -/

/-- The die of the worked RATE write (spec/03_lyspen_time.md), at a moment after its anchor. -/
def rateDie (f : TkState → TkState) : State := stOf fun c =>
  let k : TkState := { c.tk with frc := 0x100000123, frcAnchor := 0x100000000, tAnchor := 1000000000 * 2 ^ 56 }
  { c with tk := f k }

/-- A view of the state a command answers. -/
def after {α : Type} (o : Host.Outcome State Fault Refusal) (f : State → α) : Option α :=
  match o with
  | .next t => some (f t)
  | .fault _ => none
  | .refused _ => none

/-- The first row of the worked RATE write: T as read. -/
theorem test_time_before : (rateDie id).chip.now = 0x3B9ACAB5E0000000 := by decide

/-- The second row: the staged RATE. -/
theorem test_rate_staged :
    after (exec (.rateStage .firmware 0x00A0000A)
      (stOf fun c => c.setReg Reg.TK_RATE_LO 0x7C5AC472 0 0 Master.firmware.code)) (fun t => t.chip.tk.rateStage)
      = some (some 0x00A0000A7C5AC472) := by decide

/-- The last row: 1,600,000 ticks after the boundary at which the new RATE became active. -/
theorem test_time_after :
    (rateDie fun t => { t with
      frc := 0x100186E00, frcAnchor := 0x100000400, tAnchor := 1000000640 * 2 ^ 56, rate := 0x00A0000A7C5AC472 }).chip.now = 0x3BAA0EC100000000 := by decide

/-- The worked holdover figures (spec/06_servo_references.md), with |x_e| of 0.300 ns, rounded down. -/
def heldDie (y : Word) (xe : Int) : Chip :=
  let c := Chip.reset.setReg Reg.SV_HOYRES y
  { c with sv := { c.sv with xe := xe } }

theorem test_holdover_default : (heldDie 250 (-1288490188)).holdoverTime = 88000 := by decide
theorem test_holdover_capped : (heldDie 80 1288490188).holdoverTime = 100000 := by decide
theorem test_holdover_over_budget : (heldDie 80 11166914970).holdoverTime = 0 := by decide

/-- The two waiters of the worked example (spec/11_signals.md): slot 700 with rank 2 and thread 5 with rank 3. -/
def twoWaiters (cfg : Word) (next : Nat) : State := stOf fun c =>
  let w : WaitState :=
    { sem := 0x210, n := 1, dir := false, ord := false, rank := 2, tag := 0, since := 0, reported := false }
  let m : SemState := { count := 1, next := next, last := 800, cfg := cfg }
  { c with sg := { c.sg with
      sems := [(0x210, m)],
      waits := [(700, { w with ord := Word.bit cfg 31 }), (1029, { w with ord := Word.bit cfg 31, rank := 3 })] } }

theorem test_rotating_grant :
    after (exec (.grant 0x210) (twoWaiters 0 0)) (fun t => (t.chip.sg.waits.map Prod.fst, (t.chip.sem 0x210).last))
      = some ([700], 1029) := by decide
theorem test_ordered_grant :
    after (exec (.grant 0x210) (twoWaiters 0x80000004 2)) (fun t => (t.chip.sg.waits.map Prod.fst, (t.chip.sem 0x210).next))
      = some ([1029], 3) := by decide

theorem test_queue_first_in_first_out :
    after (step { State.reset with pending := [.levelSat, .startSlow] }) (fun t => t.pending) = some [.startSlow] := by
  decide

/-- A hub command at a die stops by name. -/
theorem test_hub_command_at_die : exec .hoTrace State.reset = .fault .notPresent := rfl

/-- The opcode table gives its rows no bits. -/
theorem test_no_encoding : decodeTableWord 32 0 = none := rfl

end Sys2Proof.Tests
end

section
/-!
The role register (R13). A read of GLB_ROLE shows the master's shadow copy of the register where the state
holds one, and the sampled role only where it holds none. O24 speaks of every state, also of one with such a
copy, and fails there.
-/

namespace Sys2Proof.Machine

/-- GLB_ROLE is mapped in both roles. -/
theorem pageRow_glbRole (hub : Bool) : pageRow hub 0x00 0x040 = some (Reg.GLB_ROLE, 0) := by
  cases hub <;> rfl

/-- GLB_ROLE is a register of its own: it has no channel and no select register. -/
theorem Chip.rowIdx_glbRole (c : Chip) (m : Master) : c.rowIdx m Reg.GLB_ROLE = 0 := rfl

/-- GLB_ROLE shows the sampled role, unless the master has a shadow copy of it, which then stands (R47). -/
theorem Chip.shown_glbRole (c : Chip) (m : Master) :
    c.shown m Reg.GLB_ROLE 0 0 =
      if SMap.has c.shadows (shadowKey m Reg.GLB_ROLE 0 0) then
        SMap.find c.shadows (shadowKey m Reg.GLB_ROLE 0 0) 0
      else Word.flag c.id.hub 0 := by
  have hidx : shadowIdx Reg.GLB_ROLE 0 = 0 := rfl
  have hacc : Reg.GLB_ROLE.acc = .ro := rfl
  have htime : timeSibling Reg.GLB_ROLE = false := rfl
  have hview : c.rowValue m Reg.GLB_ROLE 0 0 = Word.flag c.id.hub 0 := rfl
  simp [Chip.shown, hidx, hacc, htime, hview]

/-- What a read of GLB_ROLE returns. -/
theorem Chip.masterRead_glbRole (c : Chip) (m : Master) :
    (c.masterRead m 0x00040).1 =
      if SMap.has c.shadows (shadowKey m Reg.GLB_ROLE 0 0) then
        SMap.find c.shadows (shadowKey m Reg.GLB_ROLE 0 0) 0
      else Word.flag c.id.hub 0 := by
  have hpage : addrPage 0x00040 = 0x00 := rfl
  have hoff : addrOff 0x00040 = 0x040 := rfl
  have hpresent : pagePresent c.id.hub 0x00 = true := rfl
  have hbody : headerOff 0x040 = false := rfl
  simp [Chip.masterRead, hpage, hoff, hpresent, hbody, pageRow_glbRole, Chip.rowIdx_glbRole, Chip.shown_glbRole]

/-- Refutes O24: its first clause fails at a die in whose shadow copies stands a 1 for the host port's GLB_ROLE.
A read shows the copy (R47), so the host port reads the role of a hub. Reads latch the siblings of RS
registers alone, of which GLB_ROLE is none; the clause quantifies over all states and has no premise that keeps
such a copy out. -/
theorem not_roleIsSampled : ¬ Obligations.RoleIsSampled := by
  unfold Obligations.RoleIsSampled
  rintro ⟨hread, -⟩
  have hrole := hread
    { chip := { Chip.reset with shadows := [(shadowKey .host Reg.GLB_ROLE 0 0, 1)] }, pending := [] } .host
  rw [Chip.masterRead_glbRole] at hrole
  exact absurd hrole (by decide)

end Sys2Proof.Machine
end

section
/-!
Threads and group entries: what an updated one reads as, and what the updates of threads, the counters and the
reports leave of the rest.
-/

namespace Sys2Proof.Machine

variable (c : Chip) (t : Nat)

@[simp] theorem Chip.th_modTh (f : ThreadState → ThreadState) : (c.modTh t f).th t = f (c.th t) := by
  simp [Chip.modTh, Chip.th]

theorem Chip.th_modTh_ne {t u : Nat} (h : u ≠ t) (f : ThreadState → ThreadState) :
    (c.modTh t f).th u = c.th u :=
  SMap.find_put_ne h _ _ _

@[simp] theorem Chip.modTh_mn (f : ThreadState → ThreadState) : (c.modTh t f).mn = c.mn := rfl
@[simp] theorem Chip.modTh_ev (f : ThreadState → ThreadState) : (c.modTh t f).ev = c.ev := rfl

@[simp] theorem Chip.modTh_reg (f : ThreadState → ThreadState) (r : RegRow) (i j b : Nat) :
    (c.modTh t f).reg r i j b = c.reg r i j b := rfl
@[simp] theorem Chip.modTh_ent (f : ThreadState → ThreadState) (g : Nat) : (c.modTh t f).ent g = c.ent g := rfl

@[simp] theorem Chip.ent_modEnt (g : Nat) (f : GrEntry → GrEntry) : (c.modEnt g f).ent g = f (c.ent g) := by
  simp [Chip.modEnt, Chip.ent]

@[simp] theorem Chip.modEnt_th (g u : Nat) (f : GrEntry → GrEntry) : (c.modEnt g f).th u = c.th u := rfl

/-- A thread reads the same in two parts with the same sequencer. -/
theorem Chip.th_eq_of_sq {a b : Chip} (h : a.sq = b.sq) (u : Nat) : a.th u = b.th u := by
  simp only [Chip.th, h]

/-- A register reads the same in two parts with the same role and the same stored registers. -/
theorem Chip.reg_eq_of_regs {a b : Chip} (hid : a.id = b.id) (hregs : a.regs = b.regs) (r : RegRow) (i j k : Nat) :
    a.reg r i j k = b.reg r i j k := by
  simp only [Chip.reg, hid, hregs]

@[simp] theorem Chip.report_th (e : Ev) (r : Rep) (u : Nat) : (c.report e r).th u = c.th u :=
  Chip.th_eq_of_sq (c.report_sq e r) u

@[simp] theorem Chip.detClear_mn (g n : Nat) : (c.detClear g n).mn = c.mn := rfl
@[simp] theorem Chip.detClear_ev (g n : Nat) : (c.detClear g n).ev = c.ev := rfl
@[simp] theorem Chip.detClear_reg (g n : Nat) (r : RegRow) (i j b : Nat) :
    (c.detClear g n).reg r i j b = c.reg r i j b := rfl
@[simp] theorem Chip.detClear_th (g n u : Nat) : (c.detClear g n).th u = c.th u := rfl

/-- After its clear a course is among those whose local DET is lost (R218). -/
theorem Chip.detClear_detLost (g n : Nat) : ((c.detClear g n).ent g).detLost.contains n = true := by
  simp only [Chip.detClear, Chip.ent_modEnt]
  split
  · assumption
  · simp

/-- A fault stops the thread with its code (R219). -/
@[simp] theorem Chip.thFault_th (e : Ev) (fcode : Nat) :
    (c.thFault t e fcode).th t = { c.th t with mode := .fault, fcode := fcode } := by
  simp [Chip.thFault, Chip.thStop]

/-- A thread that runs again is the same thread at its entry to RUN (R199). -/
@[simp] theorem Chip.toRun_th : (c.toRun t).th t = (c.th t).enterRun c.tk.frc := by
  simp [Chip.toRun, Chip.activity]

theorem Chip.toRun_th_ne {t u : Nat} (h : u ≠ t) : (c.toRun t).th u = c.th u := by
  simp [Chip.toRun, Chip.activity, Chip.th_modTh_ne c h]

end Sys2Proof.Machine
end

section
/-!
The three facts of a report (R11), read back: the count, the sticky flag of the channel and the record.
-/

namespace Sys2Proof.Machine

variable (c : Chip)

/-! ### What an interrupt notice and the edges of an interrupt output leave alone -/

/-- The part without what raising an interrupt can touch: the ports, the notices that wait, and the pin
counters. -/
def Chip.unraised (c : Chip) : Chip :=
  { c with ports := [], tr := { c.tr with inoteWait := [] }, mn := { c.mn with pins := [] } }

theorem Chip.unraised_pinEdges (src rise fall : Nat) : (c.pinEdges src rise fall).unraised = c.unraised := by
  unfold Chip.pinEdges; split <;> rfl

theorem Chip.unraised_irqEdges (b : Chip) : (c.irqEdges b).unraised = c.unraised := by
  unfold Chip.irqEdges
  apply foldl_keeps Chip.unraised
  intro x n
  split
  · split <;> simp only [Chip.unraised_pinEdges]
  · rfl

theorem Chip.unraised_inoteOn (p : Nat) : (c.inoteOn p).unraised = c.unraised := by
  unfold Chip.inoteOn Chip.sendCells
  split
  · split <;> rfl
  · split <;> rfl

theorem Chip.unraised_inoteRaise (p : Nat) (before : Word) : (c.inoteRaise p before).unraised = c.unraised := by
  unfold Chip.inoteRaise
  split
  · exact foldl_keeps Chip.unraised _ _ _ Chip.unraised_inoteOn
  · rfl

/-- What raising an interrupt leaves alone, together. -/
theorem Chip.unraised_raise (old : Chip) (p : Nat) (before : Word) :
    ((c.irqEdges old).inoteRaise p before).unraised = c.unraised := by
  rw [Chip.unraised_inoteRaise, Chip.unraised_irqEdges]

theorem Chip.reg_eq_of_unraised {a b : Chip} (h : a.unraised = b.unraised) (r : RegRow) (i j k : Nat) :
    a.reg r i j k = b.reg r i j k :=
  Chip.reg_eq_of_regs (congrArg Chip.id h :) (congrArg Chip.regs h :) r i j k

theorem Chip.counts_eq_of_unraised {a b : Chip} (h : a.unraised = b.unraised) : a.mn.counts = b.mn.counts :=
  (congrArg (fun x : Chip => x.mn.counts) h :)

theorem Chip.ev_eq_of_unraised {a b : Chip} (h : a.unraised = b.unraised) : a.ev = b.ev :=
  (congrArg Chip.ev h :)

/-! ### Counted -/

@[simp] theorem Chip.count_regs (n : Nat) (i : Option Nat) (k : Nat) : (c.count n i k).regs = c.regs := by
  unfold Chip.count; split <;> rfl

@[simp] theorem Chip.count_ev (n : Nat) (i : Option Nat) (k : Nat) : (c.count n i k).ev = c.ev := by
  unfold Chip.count; split <;> rfl

/-- With no counter rebound, an event without a counter of its own is counted nowhere (R342). -/
theorem Chip.count_counts_of_le {n : Nat} (hn : 512 ≤ n) (hre : reboundCounters c.regs = []) (i : Option Nat) :
    (c.count n i).mn.counts = c.mn.counts := by
  unfold Chip.count
  split
  · rfl
  · simp [hre, Nat.not_lt.2 hn]

/-- With no counter rebound, an event that its own counter takes is counted there and nowhere else (R342, R343). -/
theorem Chip.count_counts_of_lt {n : Nat} {i : Option Nat} (hn : n < 512) (hre : reboundCounters c.regs = [])
    (hfrz : c.frozen = false) (hrst : c.inReset = false) (htakes : bindingTakes (c.ccfg n) n i = true) :
    (c.count n i).mn.counts = addCount c.mn.counts n 1 := by
  simp [Chip.count, hfrz, hrst, hre, hn, htakes]

/-- A counter far from its 64 bits' end goes up by what is added. -/
theorem find_addCount {m : SMap Nat} {k : Nat} (h : SMap.find m k 0 < 2 ^ 32) :
    SMap.find (addCount m k 1) k 0 = SMap.find m k 0 + 1 := by
  rw [addCount, SMap.find_put_self]
  omega

/-! ### Flagged -/

@[simp] theorem Chip.flag_counts (p b : Nat) (i : Option Nat) : (c.flag p b i).mn.counts = c.mn.counts := by
  unfold Chip.flag
  dsimp only
  split
  · rfl
  · refine (Chip.counts_eq_of_unraised (Chip.unraised_raise _ _ _ _)).trans ?_
    split <;> rfl

@[simp] theorem Chip.flag_ev (p b : Nat) (i : Option Nat) : (c.flag p b i).ev = c.ev := by
  unfold Chip.flag
  dsimp only
  split
  · rfl
  · refine (Chip.ev_eq_of_unraised (Chip.unraised_raise _ _ _ _)).trans ?_
    split <;> rfl

/-- A flag put into a word is set in it. -/
theorem Word.bit_or_flag (w : Word) {b : Nat} (hb : b < 32) : Word.bit (w ||| Word.flag true b) b = true := by
  simp only [Word.bit, Word.flag, if_true, BitVec.getLsbD_or, BitVec.getLsbD_ofNat, hb, Nat.testBit_shiftLeft]
  simp

/-- Outside main reset a flag sets its bit in the channel's sticky history (R43). -/
theorem Chip.flag_chanHist {p b i : Nat} {r : RegRow} (hr : chanHist p = some r) (hrst : c.inReset = false)
    (hb : b < 32) : Word.bit ((c.flag p b (some i)).reg r i) b = true := by
  unfold Chip.flag
  simp only [hrst, hr, Bool.false_and, Bool.false_eq_true, if_false]
  rw [Chip.reg_eq_of_unraised (Chip.unraised_raise _ _ _ _), Chip.reg_setReg]
  exact Word.bit_or_flag _ hb

/-! ### Recorded -/

/-- A record whose parameters are all given takes the next place of a writer queue that has room (R337). -/
theorem Chip.record_of_room {code : Nat} {r : Rep} {w1 w2 w3 : Word} (h1 : r.p1 = some w1) (h2 : r.p2 = some w2)
    (h3 : r.p3 = some w3) (hroom : c.ev.queue.length < 64) :
    c.record code r =
      { c with ev := { c.ev with queue := c.ev.queue ++ [
        { code := code, src := 0, sev := severity c.id.hub code, late := r.late, p1 := w1, p2 := w2, p3 := w3 }] } } := by
  simp [Chip.record, Chip.param, h1, h2, h3, Chip.enqueueRec, hroom]

/-! ### Reported -/

@[simp] theorem Chip.note_counts (e : Ev) (i : Option Nat) :
    (c.note e i).mn.counts = (c.count e.num i).mn.counts := by
  simp [Chip.note]

@[simp] theorem Chip.note_ev (e : Ev) (i : Option Nat) : (c.note e i).ev = c.ev := by
  simp [Chip.note]

/-- The part is out of main reset, counts an event of this channel in the event's own counter and nowhere else
(R342, R343), and has room for its record (R337). -/
structure Chip.BooksOpen (c : Chip) (num inst : Nat) : Prop where
  running : c.inReset = false
  unfrozen : c.frozen = false
  unbound : reboundCounters c.regs = []
  takes : bindingTakes (c.ccfg num) num (some inst) = true
  room : c.ev.queue.length < 64

/-- The report of a recorded event is then one count, the flag of its channel, and one record (R11). -/
theorem Chip.BooksOpen.report_three_facts {c : Chip} {e : Ev} {i : Nat} {hist : RegRow} (h : c.BooksOpen e.num i)
    (hcode : e.code ≠ 0) (hnum : e.num < 512) (hbit : e.bit < 32) (hhist : chanHist e.page = some hist)
    (w1 w2 w3 : Word) :
    let d := c.report e { p1 := w1, p2 := w2, p3 := w3, inst := some i }
    d.mn.counts = addCount c.mn.counts e.num 1
      ∧ Word.bit (d.reg hist i) e.bit = true
      ∧ d.ev.queue.map (fun x => (x.code, x.p3)) = c.ev.queue.map (fun x => (x.code, x.p3)) ++ [(e.code, w3)] := by
  intro d
  have hroom : (c.note e (some i)).ev.queue.length < 64 := by rw [Chip.note_ev]; exact h.room
  have hrep : d = (c.note e (some i)).record e.code { p1 := w1, p2 := w2, p3 := w3, inst := some i } :=
    if_neg hcode
  rw [hrep, Chip.record_of_room _ rfl rfl rfl hroom]
  refine ⟨?_, ?_, ?_⟩
  · exact (c.note_counts e (some i)).trans (c.count_counts_of_lt hnum h.unbound h.unfrozen h.running h.takes)
  · exact (c.count e.num (some i)).flag_chanHist hhist ((Chip.count_inReset ..).trans h.running) hbit
  · simp

end Sys2Proof.Machine
end

section
/-!
The issue of an instruction (R198): what the command of a die runs, what the part is once a thread has taken the
issue slot, and what an instruction then starts from.
-/

namespace Sys2Proof.Machine

/-- A command of a die out of main reset runs on the part at the start of its LCLK cycle (log entry 6). -/
theorem State.runDie_eq {s : State} (hdie : s.chip.id.hub = false) (hrst : s.chip.inReset = false)
    (f : Chip → Chip) : s.runDie f = .next { s with chip := f s.chip.newCycle } := by
  have hrst' : s.chip.newCycle.inReset = false := hrst
  simp [State.runDie, State.run, State.apply, hdie, hrst']

/-- Thread i of a die out of main reset has the issue slot, and the word at its PC is a good one of this opcode. -/
structure State.Issues (s : State) (i : Thread) (op : Nat) : Prop where
  die : s.chip.id.hub = false
  running : s.chip.inReset = false
  unpaused : s.chip.paused = false
  picked : s.chip.pick = some i.val
  opcode : Iw.op (s.chip.fetch i.val) = op
  good : Iw.good (s.chip.fetch i.val) = true

/-- The part once thread i has taken the issue slot. -/
def State.atIssue (s : State) (i : Thread) : Chip := s.chip.newCycle.issued i.val

/-- The instruction then runs, on the word at the thread's PC. -/
theorem State.Issues.runDie_issue {s : State} {i : Thread} {op : Nat} (h : s.Issues i op)
    (f : Chip → BitVec 64 → Chip) :
    s.runDie (fun c => c.issue i.val op f) = .next { s with chip := f (s.atIssue i) (s.chip.fetch i.val) } := by
  have hpaused : s.chip.newCycle.paused = false := h.unpaused
  have hpick : s.chip.newCycle.pick = some i.val := h.picked
  have hop : Iw.op (s.chip.newCycle.fetch i.val) = op := h.opcode
  have hgood : Iw.good (s.chip.newCycle.fetch i.val) = true := h.good
  have hissue : s.chip.newCycle.issue i.val op f = f (s.atIssue i) (s.chip.fetch i.val) := by
    simp only [Chip.issue, hpaused, hpick, hop, hgood, bne_self_eq_false, Bool.not_true, Bool.or_self,
      Bool.false_eq_true, if_false]
    rfl
  rw [State.runDie_eq h.die h.running, hissue]

variable (s : State) (i : Thread)

/-! ### The part at the issue -/

@[simp] theorem State.atIssue_th :
    (s.atIssue i).th i.val = (s.chip.th i.val).hasIssued s.chip.tk.frc := by
  rw [State.atIssue, Chip.issued, Chip.th_eq_of_sq (Chip.count_sq _ _ _ _), Chip.th_modTh]
  rfl

@[simp] theorem State.atIssue_id : (s.atIssue i).id = s.chip.id := Chip.count_id _ _ _ _
@[simp] theorem State.atIssue_tk : (s.atIssue i).tk = s.chip.tk := Chip.count_tk _ _ _ _
@[simp] theorem State.atIssue_inReset : (s.atIssue i).inReset = s.chip.inReset := Chip.count_inReset _ _ _ _
@[simp] theorem State.atIssue_regs : (s.atIssue i).regs = s.chip.regs := Chip.count_regs _ _ _ _
@[simp] theorem State.atIssue_ev : (s.atIssue i).ev = s.chip.ev := Chip.count_ev _ _ _ _

@[simp] theorem State.atIssue_reg (r : RegRow) (j k b : Nat) : (s.atIssue i).reg r j k b = s.chip.reg r j k b :=
  Chip.reg_eq_of_regs (s.atIssue_id i) (s.atIssue_regs i) r j k b

@[simp] theorem State.atIssue_ccfg (k : Nat) : (s.atIssue i).ccfg k = s.chip.ccfg k := s.atIssue_reg i _ _ _ _
@[simp] theorem State.atIssue_frozen : (s.atIssue i).frozen = s.chip.frozen := by simp [Chip.frozen]

@[simp] theorem State.atIssue_now : (s.atIssue i).now = s.chip.now := by
  simp [Chip.now]

@[simp] theorem State.atIssue_mbox (m : Nat) : (s.atIssue i).mbox i.val m = s.chip.mbox i.val m := by
  simp [Chip.mbox]

@[simp] theorem State.atIssue_opTimeOf (w : BitVec 64) :
    (s.atIssue i).opTimeOf i.val w = s.chip.opTimeOf i.val w := by
  simp [Chip.opTimeOf]

/-- With no counter rebound, the count of an issue goes to no event counter: it has no counter of its own. -/
theorem State.atIssue_counts (hre : reboundCounters s.chip.regs = []) :
    (s.atIssue i).mn.counts = s.chip.mn.counts := by
  rw [State.atIssue, Chip.issued, Chip.count_counts_of_le _ (by decide) (by exact hre)]
  rfl

/-- An issue leaves the books open: it makes no record and rebinds no counter. -/
theorem State.atIssue_booksOpen {s : State} {num inst : Nat} (h : s.chip.BooksOpen num inst) :
    (s.atIssue i).BooksOpen num inst where
  running := (s.atIssue_inReset i).trans h.running
  unfrozen := (s.atIssue_frozen i).trans h.unfrozen
  unbound := (congrArg reboundCounters (s.atIssue_regs i)).trans h.unbound
  takes := by rw [State.atIssue_ccfg]; exact h.takes
  room := by rw [State.atIssue_ev]; exact h.room

end Sys2Proof.Machine
end

section
/-!
The time instructions of a thread (R203, R204): WAITT, its wake, and SETB by mode.
-/

namespace Sys2Proof.Machine

variable {s : State} {i : Thread}

/-! ### WAITT and the wake -/

/-- A thread moves its cursor and goes on, and waits where its wake time has not come (R203). -/
def Chip.waitUntil (c : Chip) (t cur wake : Nat) : Chip :=
  let c := (c.nextPc t).modTh t fun x => { x with cursor := cur, wake := wake }
  if wake ≤ c.now then c else c.modTh t fun x => { x with mode := .waitT }

theorem Chip.waitUntil_th (c : Chip) (t cur wake : Nat) :
    (c.waitUntil t cur wake).th t =
      { c.th t with
        pc := pcNext (c.th t).pc, cursor := cur, wake := wake
        mode := if wake ≤ c.now then (c.th t).mode else .waitT } := by
  have hnow : ((c.nextPc t).modTh t fun x => { x with cursor := cur, wake := wake }).now = c.now := rfl
  unfold Chip.waitUntil
  simp only [hnow]
  split <;> simp [Chip.nextPc]

/-- WAITT waits for its wake time: the cursor less the lead, or the cursor itself with EXACT. -/
theorem exec_waitt (h : s.Issues i 0x10) :
    exec (.waitt i) s = .next { s with
      chip := (s.atIssue i).waitUntil i.val (s.chip.opTimeOf i.val (s.chip.fetch i.val))
        (if (Iw.fl (s.chip.fetch i.val)).testBit 0 then s.chip.opTimeOf i.val (s.chip.fetch i.val)
          else s.chip.opTimeOf i.val (s.chip.fetch i.val) - Word.field (s.chip.reg Reg.SQ_CFG) 16 10 * nsUnit) } := by
  refine (h.runDie_issue _).trans ?_
  simp only [State.atIssue_opTimeOf, State.atIssue_reg]
  rfl

theorem exec_waittWake (hdie : s.chip.id.hub = false) (hrst : s.chip.inReset = false) :
    exec (.waittWake i) s = .next { s with
      chip :=
        if (s.chip.th i.val).mode == .waitT && (s.chip.th i.val).wake ≤ s.chip.now then
          s.chip.newCycle.toRun i.val
        else s.chip.newCycle } :=
  State.runDie_eq hdie hrst _

/-! ### SETB -/

/-- SETB ends: the base and the cursor are set, and the thread goes on. -/
theorem Chip.setBase_nextPc_th (c : Chip) (t b : Nat) :
    ((c.setBase t b).nextPc t).th t =
      { c.th t with pc := pcNext (c.th t).pc, base := b % 2 ^ 96, cursor := b % 2 ^ 96 } := by
  simp [Chip.setBase, Chip.nextPc]

/-- REL takes the latest release received, where there is one. -/
theorem exec_setb_rel (h : s.Issues i 0x11) (hmode : Iw.fl (s.chip.fetch i.val) % 4 = 0) :
    exec (.setb i) s = .next { s with
      chip := ((s.atIssue i).setBase i.val ((s.chip.th i.val).lastRel.getD (s.chip.th i.val).base)).nextPc i.val } := by
  refine (h.runDie_issue _).trans ?_
  simp [hmode]

/-- ADD adds the offset to the base. -/
theorem exec_setb_add (h : s.Issues i 0x11) (hmode : Iw.fl (s.chip.fetch i.val) % 4 = 1) :
    exec (.setb i) s = .next { s with
      chip := ((s.atIssue i).setBase i.val ((s.chip.th i.val).base + Iw.offset (s.chip.fetch i.val))).nextPc i.val } := by
  refine (h.runDie_issue _).trans ?_
  simp [hmode]

/-- ABS takes the time in a mailbox. -/
theorem exec_setb_abs (h : s.Issues i 0x11) (hmode : Iw.fl (s.chip.fetch i.val) % 4 = 3) :
    exec (.setb i) s = .next { s with
      chip := ((s.atIssue i).setBase i.val (s.chip.mbox i.val (Iw.a (s.chip.fetch i.val)) * nsUnit)).nextPc i.val } := by
  refine (h.runDie_issue _).trans ?_
  simp [hmode]

/-- CAD with an offset of 0 is BAD_OPND. -/
theorem exec_setb_cad_zero (h : s.Issues i 0x11) (hmode : Iw.fl (s.chip.fetch i.val) % 4 = 2)
    (hoff : Iw.offset (s.chip.fetch i.val) = 0) :
    exec (.setb i) s = .next { s with chip := (s.atIssue i).badOpnd i.val } := by
  refine (h.runDie_issue _).trans ?_
  simp [hmode, hoff]

/-- The slots a CAD skips are reported with their number and take DET from the thread's course (R204). -/
def Chip.cadSlip (c : Chip) (t k : Nat) : Chip :=
  (c.report Event.SQ_CAD_SLIP (c.sqRep t (some (BitVec.ofNat 32 (k - 1))))).detClear (c.th t).grp (c.th t).course

/-- What slots skipped leave to be seen before the base is set. -/
def Chip.afterSlots (c : Chip) (t k : Nat) : Chip := if 1 < k then c.cadSlip t k else c

@[simp] theorem Chip.afterSlots_th (c : Chip) (t k u : Nat) : (c.afterSlots t k).th u = c.th u := by
  unfold Chip.afterSlots Chip.cadSlip
  split <;> simp

/-- CAD takes the slot k of its grid, and reports the slots it skips. -/
theorem exec_setb_cad (h : s.Issues i 0x11) (hmode : Iw.fl (s.chip.fetch i.val) % 4 = 2)
    (hoff : Iw.offset (s.chip.fetch i.val) ≠ 0) {k : Nat}
    (hk : cadSlot (s.chip.th i.val).base (Iw.offset (s.chip.fetch i.val)) (s.chip.th i.val).lastRel = k) :
    exec (.setb i) s = .next { s with
      chip := (((s.atIssue i).afterSlots i.val k).setBase i.val
        ((s.chip.th i.val).base + k * Iw.offset (s.chip.fetch i.val))).nextPc i.val } := by
  refine (h.runDie_issue _).trans ?_
  simp [hmode, hoff, hk, Chip.afterSlots, Chip.cadSlip]

/-! ### The grid of CAD -/

theorem one_le_cadSlot (base off : Nat) (rel : Option Nat) : 1 ≤ cadSlot base off rel := by
  cases rel with
  | none => exact le_rfl
  | some r => exact le_max_left _ _

/-- The point of the slot is not before the release. -/
theorem le_cadSlot_point {off : Nat} (hoff : off ≠ 0) (base r : Nat) :
    r ≤ base + cadSlot base off (some r) * off := by
  have hpos : 0 < off := Nat.pos_of_ne_zero hoff
  have hceil : r - base ≤ (r - base + off - 1) / off * off := by
    have hdiv := Nat.div_add_mod (r - base + off - 1) off
    have hmod := Nat.mod_lt (r - base + off - 1) hpos
    rw [Nat.mul_comm] at hdiv
    omega
  have hmax : (r - base + off - 1) / off * off ≤ cadSlot base off (some r) * off :=
    Nat.mul_le_mul_right off (le_max_right _ _)
  omega

/-- The point of the slot before it, where that is a slot, is before the release. -/
theorem cadSlot_pred_point_lt {base off r : Nat} (hk : 1 < cadSlot base off (some r)) :
    base + (cadSlot base off (some r) - 1) * off < r := by
  have hslot : cadSlot base off (some r) = (r - base + off - 1) / off := by
    simp only [cadSlot] at hk ⊢
    omega
  rw [hslot] at hk ⊢
  have hle := Nat.div_mul_le_self (r - base + off - 1) off
  rw [Nat.sub_mul, Nat.one_mul]
  have hoff : 2 * off ≤ (r - base + off - 1) / off * off := Nat.mul_le_mul_right off hk
  have hpos : off ≠ 0 := by
    rintro rfl
    simp at hk
  omega

/-! ### The slots a CAD skips -/

/-- Slots skipped are counted, flagged in the thread's history, recorded with their number, and take DET from the
thread's course. -/
theorem Chip.BooksOpen.cadSlip_facts {c : Chip} {t : Nat} (h : c.BooksOpen 0x106 t) (k : Nat) :
    (c.cadSlip t k).mn.counts = addCount c.mn.counts 0x106 1
      ∧ Word.bit ((c.cadSlip t k).reg Reg.SQ_THIST t) 6 = true
      ∧ (c.cadSlip t k).ev.queue.map (fun e => (e.code, e.p3)) =
          c.ev.queue.map (fun e => (e.code, e.p3)) ++ [(0x1008, BitVec.ofNat 32 (k - 1))]
      ∧ ((c.cadSlip t k).ent (c.th t).grp).detLost.contains (c.th t).course = true := by
  obtain ⟨hcount, hflag, hrecord⟩ := Chip.BooksOpen.report_three_facts (e := Event.SQ_CAD_SLIP) h (by decide)
    (by decide) (by decide) rfl (BitVec.ofNat 32 t ||| Word.place (c.th t).pc 16) (BitVec.ofNat 32 (c.th t).course)
    (BitVec.ofNat 32 (k - 1))
  exact ⟨hcount, hflag, hrecord, Chip.detClear_detLost _ _ _⟩

end Sys2Proof.Machine
end

section
/-!
O50: WAITT, WAITT_WAKE and SETB do what R203 and R204 say.
-/

namespace Sys2Proof.Machine

/-- Settles O50: each clause is one command run from its premises, and what the thread then is. -/
theorem sequencerTime : Obligations.SequencerTime := by
  unfold Obligations.SequencerTime
  refine ⟨?waitt, ?wake, ?notYet, ?rel, ?add, ?cad, ?slip, ?zero, ?abs⟩
  case waitt =>
    intro s i hdie hrst hpaused hpick hop hgood
    refine ⟨_, exec_waitt ⟨hdie, hrst, hpaused, hpick, hop, hgood⟩, rfl, ?_⟩
    simp [Chip.waitUntil_th]
  case wake =>
    intro s i hdie hrst hmode hdue
    refine ⟨_, exec_waittWake hdie hrst, rfl, ?_⟩
    simp only [hmode, hdue, beq_self_eq_true, decide_true, Bool.and_self, if_true]
    exact ⟨Chip.toRun_th _ _, fun j hj => Chip.toRun_th_ne _ hj⟩
  case notYet =>
    intro s i hdie hrst hearly
    refine ⟨_, exec_waittWake hdie hrst, rfl, ?_⟩
    simp only [Nat.not_le.2 hearly, decide_false, Bool.and_false, Bool.false_eq_true, if_false]
    rfl
  case rel =>
    intro s i r hdie hrst hpaused hpick hop hgood hmode hrel
    refine ⟨_, exec_setb_rel ⟨hdie, hrst, hpaused, hpick, hop, hgood⟩ hmode, rfl, ?_⟩
    simp [Chip.setBase_nextPc_th, hrel]
  case add =>
    intro s i hdie hrst hpaused hpick hop hgood hmode
    refine ⟨_, exec_setb_add ⟨hdie, hrst, hpaused, hpick, hop, hgood⟩ hmode, rfl, ?_⟩
    simp [Chip.setBase_nextPc_th]
  case cad =>
    intro s i r hdie hrst hpaused hpick hop hgood hmode hoff hrel
    refine ⟨_, exec_setb_cad ⟨hdie, hrst, hpaused, hpick, hop, hgood⟩ hmode hoff (by rw [hrel]), rfl, ?_,
      one_le_cadSlot _ _ _, le_cadSlot_point hoff _ _, cadSlot_pred_point_lt⟩
    simp [Chip.setBase_nextPc_th]
  case slip =>
    intro s i r hdie hrst hpaused hpick hop hgood hmode hoff hrel hskip hfrz htakes hre hlow hroom
    obtain ⟨hcount, hflag, hrecord, hdet⟩ := (State.atIssue_booksOpen i
      ⟨hrst, hfrz, hre, htakes, hroom⟩).cadSlip_facts
      (cadSlot (s.chip.th i.val).base (Iw.offset (s.chip.fetch i.val)) (some r))
    refine ⟨_, exec_setb_cad ⟨hdie, hrst, hpaused, hpick, hop, hgood⟩ hmode hoff (by rw [hrel]), rfl, ?_⟩
    simp only [Chip.afterSlots, if_pos hskip, Chip.setBase, Chip.nextPc, Chip.modTh_mn, Chip.modTh_reg,
      Chip.modTh_ev, Chip.modTh_ent]
    rw [State.atIssue_counts s i hre] at hcount
    rw [State.atIssue_ev] at hrecord
    rw [State.atIssue_th] at hdet
    exact ⟨by rw [hcount, find_addCount hlow], hflag, hrecord, hdet⟩
  case zero =>
    intro s i hdie hrst hpaused hpick hop hgood hmode hoff
    refine ⟨_, exec_setb_cad_zero ⟨hdie, hrst, hpaused, hpick, hop, hgood⟩ hmode hoff, rfl, ?_⟩
    simp [Chip.badOpnd]
  case abs =>
    intro s i hdie hrst hpaused hpick hop hgood hmode
    refine ⟨_, exec_setb_abs ⟨hdie, hrst, hpaused, hpick, hop, hgood⟩ hmode, rfl, ?_⟩
    simp [Chip.setBase_nextPc_th]

end Sys2Proof.Machine
end

section
/-!
Counterexamples are run: what a reading of the state is after a command that answers a next state.
-/
namespace Sys2Proof.Machine

/-- A reading of the state that a command answers, where it answers one. -/
def readAfter {α : Type} (i : Instr) (s : State) (f : State → α) : Option α :=
  match exec i s with
  | .next t => some (f t)
  | .fault _ | .refused _ => none

theorem readAfter_eq {α : Type} {i : Instr} {s t : State} (h : exec i s = .next t) (f : State → α) :
    readAfter i s f = some (f t) := by
  simp [readAfter, h]

end Sys2Proof.Machine
end

section
/-!
O5: a page soft reset. Its first clause speaks of every element number of a register, also of numbers far past
the register's last element, whose storage is that of another page.
-/

namespace Sys2Proof.Machine

/-- A die after reset whose page 3 has its first interrupt enabled: IEN of page 3 is where an element 0x305 of
TB_CTRL, in page 2, would be stored. -/
def ienOfNextPage : State :=
  { chip := { Chip.reset with regs := [((ienRow 3).key 0 0 0, 1)] }, pending := [] }

/-- The soft reset of page 2 leaves the IEN of page 3. -/
theorem read_after_softReset_ienOfNextPage :
    readAfter (.pageSoftReset .host 2) ienOfNextPage (fun t => t.chip.reg Reg.TB_CTRL 0 0x305 0) = some 1 := by
  decide

/-- Refutes O5: its first clause has every element of every RW register of the page at reset, for all element
numbers. The element 0x305 of TB_CTRL, of which there is one, is stored where IEN of page 3 is, and a soft reset of
page 2 rightly leaves that. -/
theorem not_softResetHold : ¬ Obligations.SoftResetHold := by
  unfold Obligations.SoftResetHold
  rintro ⟨hhonoured, -⟩
  obtain ⟨t, hexec, -, -, -, -, hreset, -⟩ :=
    hhonoured ienOfNextPage .host 2 (by decide) (by decide) (by decide)
  have hzero := hreset Reg.TB_CTRL (by decide) (.inl rfl) 0 0x305 0
  have hone := read_after_softReset_ienOfNextPage
  rw [readAfter_eq hexec, hzero] at hone
  revert hone
  cases t.chip.id.hub <;> decide

end Sys2Proof.Machine
end

section
/-!
Register accesses (R37 to R53): what a command that is one register access of its master runs, where the
register port takes it at once, and what a report changes of the stored registers.
-/

namespace Sys2Proof.Machine

variable (c : Chip)

/-! ### Stored registers by address -/

/-- A copy of a register is stored under the address of its element, above which stand bank and index. -/
theorem RegRow.key_eq_addr (r : RegRow) (idx i b : Nat) : r.key idx i b = (idx * 4 + b) * 2 ^ 18 + r.addr i := by
  simp only [RegRow.key, RegRow.addr]
  omega

theorem RegRow.key_mod (r : RegRow) (idx i b : Nat) : r.key idx i b % 2 ^ 18 = r.addr i % 2 ^ 18 := by
  rw [RegRow.key_eq_addr]
  omega

/-- Copies of registers at different addresses are stored apart. -/
theorem RegRow.key_ne_of_addr {q r : RegRow} {i i' : Nat} (h : q.addr i % 2 ^ 18 ≠ r.addr i' % 2 ^ 18)
    (idx idx' b b' : Nat) : q.key idx i b ≠ r.key idx' i' b' := by
  intro hkey
  exact h (by rw [← q.key_mod idx i b, hkey, r.key_mod])

/-- Copies of one register element at different indices or in different banks are stored apart. -/
theorem RegRow.key_ne_of_copy {q r : RegRow} (haddr : q.addr 0 = r.addr 0) {idx idx' b b' : Nat}
    (h : idx * 4 + b ≠ idx' * 4 + b') : q.key idx 0 b ≠ r.key idx' 0 b' := by
  simp only [RegRow.key_eq_addr, haddr]
  omega

theorem Chip.reg_setReg_addr {q r : RegRow} {i i' : Nat} (h : q.addr i % 2 ^ 18 ≠ r.addr i' % 2 ^ 18) (w : Word)
    (idx idx' b b' : Nat) : (c.setReg r w idx' i' b').reg q idx i b = c.reg q idx i b :=
  c.reg_setReg_ne (RegRow.key_ne_of_addr h _ _ _ _) w

/-- Masters have codes of their own, in two bits. -/
theorem Master.code_lt (m : Master) : m.code < 4 := by cases m <;> decide

theorem Master.code_ne {m m' : Master} (h : m' ≠ m) : m'.code ≠ m.code := by
  revert h; cases m <;> cases m' <;> decide

/-! ### The start of an LCLK cycle leaves everything but the histogram units -/

@[simp] theorem Chip.newCycle_id : c.newCycle.id = c.id := rfl
@[simp] theorem Chip.newCycle_regs : c.newCycle.regs = c.regs := rfl
@[simp] theorem Chip.newCycle_held : c.newCycle.held = c.held := rfl
@[simp] theorem Chip.newCycle_shadows : c.newCycle.shadows = c.shadows := rfl
@[simp] theorem Chip.newCycle_tk : c.newCycle.tk = c.tk := rfl
@[simp] theorem Chip.newCycle_tb : c.newCycle.tb = c.tb := rfl
@[simp] theorem Chip.newCycle_gr : c.newCycle.gr = c.gr := rfl
@[simp] theorem Chip.newCycle_sq : c.newCycle.sq = c.sq := rfl
@[simp] theorem Chip.newCycle_gd : c.newCycle.gd = c.gd := rfl
@[simp] theorem Chip.newCycle_fw : c.newCycle.fw = c.fw := rfl
@[simp] theorem Chip.newCycle_pw : c.newCycle.pw = c.pw := rfl
@[simp] theorem Chip.newCycle_inReset : c.newCycle.inReset = c.inReset := rfl
@[simp] theorem Chip.newCycle_calm : c.newCycle.calm = c.calm := rfl
@[simp] theorem Chip.newCycle_reg (r : RegRow) (idx i b : Nat) : c.newCycle.reg r idx i b = c.reg r idx i b := rfl
@[simp] theorem Chip.newCycle_regOf (m : Master) (r : RegRow) (idx i : Nat) :
    c.newCycle.regOf m r idx i = c.regOf m r idx i := rfl
@[simp] theorem Chip.newCycle_locked (p : Nat) : c.newCycle.locked p = c.locked p := rfl
@[simp] theorem Chip.newCycle_chanOf (m : Master) (p : Nat) : c.newCycle.chanOf m p = c.chanOf m p := rfl
@[simp] theorem Chip.newCycle_rowIdx (m : Master) (r : RegRow) : c.newCycle.rowIdx m r = c.rowIdx m r := rfl
@[simp] theorem Chip.newCycle_pageInst (p : Nat) : c.newCycle.pageInst p = c.pageInst p := rfl
@[simp] theorem Chip.newCycle_ent (g : Nat) : c.newCycle.ent g = c.ent g := rfl
@[simp] theorem Chip.newCycle_tbChan (k : Nat) : c.newCycle.tbChan k = c.tbChan k := rfl
@[simp] theorem Chip.newCycle_mayWrite (m : Master) (r : RegRow) : c.newCycle.mayWrite m r = c.mayWrite m r := rfl
@[simp] theorem Chip.newCycle_ovrGood (w : Word) : c.newCycle.ovrGood w = c.ovrGood w := rfl
@[simp] theorem Chip.newCycle_winTooTight (l : GuardLimit) (w : Word) :
    c.newCycle.winTooTight l w = c.winTooTight l w := rfl
@[simp] theorem Chip.newCycle_rateSlewed (r : Nat) : c.newCycle.rateSlewed r = c.rateSlewed r := rfl

/-! ### What a command runs -/

/-- A command of the main reset domain runs on the part at the start of its LCLK cycle. -/
theorem State.run_eq {s : State} (hrst : s.chip.inReset = false) (f : Chip → Chip) :
    s.run f = .next { s with chip := f s.chip.newCycle } := by
  simp [State.run, State.apply, hrst]

theorem State.runHub_eq {s : State} (hhub : s.chip.id.hub = true) (hrst : s.chip.inReset = false)
    (f : Chip → Chip) : s.runHub f = .next { s with chip := f s.chip.newCycle } := by
  simp [State.runHub, hhub, State.run_eq hrst]

theorem State.runPort_eq {s : State} {p : Port} (hp : p.val < s.chip.nports) (hrst : s.chip.inReset = false)
    (f : Chip → Chip) : s.runPort p f = .next { s with chip := f s.chip.newCycle } := by
  simp [State.runPort, hp, State.run_eq hrst]

theorem State.runDiePort_eq {s : State} {p : Port} (hdie : s.chip.id.hub = false) (hp : p.val < 2)
    (hrst : s.chip.inReset = false) (f : Chip → Chip) :
    s.runDiePort p f = .next { s with chip := f s.chip.newCycle } := by
  simp [State.runDiePort, hdie, hp, State.run_eq hrst]

/-- What holds of a state whose part is the one a command leaves holds of the state it answers. The part stays a
name in the claim, so that to check it is not to run the command. -/
theorem State.answers {o : Host.Outcome State Fault Refusal} {s : State} {c : Chip} {P : State → Prop}
    (h : o = .next { s with chip := c }) (hP : ∀ d, d = c → P { s with chip := d }) :
    ∃ t, o = .next t ∧ t.pending = s.pending ∧ P t :=
  ⟨_, h, rfl, hP c rfl⟩

theorem Chip.opens_iff {m : Master} {p : Nat} :
    c.opens m p = true ↔ c.inReset = false ∧ (m.isRemote && c.id.hub) = false
      ∧ (m == .host && c.pw.hostLow) = false ∧ pagePresent c.id.hub p = true ∧ SMap.has c.held p = false := by
  simp only [Chip.opens, Bool.and_eq_true, Bool.not_eq_true', and_assoc]

/-- An access of a master that is not stopped runs on the part at the start of its LCLK cycle. -/
theorem State.runMaster_eq {s : State} {m : Master} (hrst : s.chip.inReset = false)
    (hremote : (m.isRemote && s.chip.id.hub) = false) (hhost : (m == .host && s.chip.pw.hostLow) = false)
    (f : Chip → Chip) : s.runMaster m f = .next { s with chip := f s.chip.newCycle } := by
  have hhost' : (m == .host && s.chip.newCycle.pw.hostLow) = false := hhost
  simp only [State.runMaster, hremote, Bool.false_eq_true, if_false, State.run_eq hrst, hhost']

/-- An access that carries no remote request waits for the hold of its own page alone. -/
theorem Chip.waitsFor_own {a : HeldAccess} (h : a.req = none) :
    c.waitsFor a = if SMap.has c.held (addrPage a.addr) then some (addrPage a.addr) else none := by
  have hnone : ∀ b : HeldAccess, a.sameIssuer b = false := by
    intro b
    simp [HeldAccess.sameIssuer, h]
  have hfind : (c.held.find? fun e => e.2.any fun b => a.sameIssuer b) = none := by
    simp [hnone]
  simp [Chip.waitsFor, hfind]

theorem Chip.regWrite_eq {addr : Nat} (h : SMap.has c.held (addrPage addr) = false) (m : Master) (w : Word) :
    c.regWrite m addr w = (c.masterWrite m addr w).1 := by
  have hwait : c.waitsFor { master := m, addr := addr, data := some w, req := none } = none := by
    rw [Chip.waitsFor_own _ rfl]
    simp [h]
  simp only [Chip.regWrite, Chip.access, hwait, Chip.accessNow]
  cases (c.masterWrite m addr w).2 <;> rfl

theorem Chip.regRead_eq {addr : Nat} (h : SMap.has c.held (addrPage addr) = false) (m : Master) :
    c.regRead m addr = (c.masterRead m addr).2 := by
  have hwait : c.waitsFor { master := m, addr := addr, data := none, req := none } = none := by
    rw [Chip.waitsFor_own _ rfl]
    simp [h]
  simp only [Chip.regRead, Chip.access, hwait, Chip.accessNow]

/-- A register write that the port takes at once is the write of its master. -/
theorem State.runMaster_regWrite {s : State} {m : Master} {page addr : Nat} (hopen : s.chip.opens m page = true)
    (haddr : addrPage addr = page) (w : Word) :
    s.runMaster m (fun c => c.regWrite m addr w) = .next { s with chip := (s.chip.fresh.masterWrite m addr w).1 } := by
  obtain ⟨hrst, hremote, hhost, -, hheld⟩ := s.chip.opens_iff.1 hopen
  rw [State.runMaster_eq hrst hremote hhost, Chip.regWrite_eq _ (by rw [haddr]; exact hheld)]

theorem State.runMaster_regRead {s : State} {m : Master} {page addr : Nat} (hopen : s.chip.opens m page = true)
    (haddr : addrPage addr = page) :
    s.runMaster m (fun c => c.regRead m addr) = .next { s with chip := (s.chip.fresh.masterRead m addr).2 } := by
  obtain ⟨hrst, hremote, hhost, -, hheld⟩ := s.chip.opens_iff.1 hopen
  rw [State.runMaster_eq hrst hremote hhost, Chip.regRead_eq _ (by rw [haddr]; exact hheld)]

/-! ### Which register a write names -/

theorem addrPage_eq (p : Page) {off : Nat} (h : off < 4096) : addrPage (p.val * 4096 + off) = p.val := by
  simp only [addrPage]
  omega

theorem addrOff_eq (p : Page) {off : Nat} (h : off < 4096) (h4 : off % 4 = 0) :
    addrOff (p.val * 4096 + off) = off := by
  simp only [addrOff]
  omega

/-- A write to a header word of a page that is there. -/
theorem Chip.masterWrite_header {page addr off : Nat} (hpresent : pagePresent c.id.hub page = true)
    (haddr : addrPage addr = page) (hoff : addrOff addr = off) (hhead : headerOff off = true) (m : Master)
    (w : Word) : c.masterWrite m addr w = c.headerWrite m page addr w := by
  subst haddr hoff
  simp [Chip.masterWrite, hpresent, hhead]

/-- A write to a mapped register of a page that is there. -/
theorem Chip.masterWrite_mapped {page addr off i : Nat} {r : RegRow} (hpresent : pagePresent c.id.hub page = true)
    (haddr : addrPage addr = page) (hoff : addrOff addr = off) (hbody : headerOff off = false)
    (hrow : pageRow c.id.hub page off = some (r, i)) (m : Master) (w : Word) :
    c.masterWrite m addr w = c.mappedWrite m r i addr w := by
  subst haddr hoff
  simp [Chip.masterWrite, hpresent, hbody, hrow]

/-- A write that has rights on a register whose page is not locked, or that the lock does not freeze. -/
theorem Chip.mappedWrite_row {m : Master} {r : RegRow} (hacc : r.acc ∉ [.ro, .rc, .rs])
    (hright : c.mayWrite m r = true) (hfree : (c.locked r.page && r.rwl != 0) = false) (i addr : Nat) (w : Word) :
    c.mappedWrite m r i addr w =
      c.rowWrite { m := m, row := r, i := i, idx := c.rowIdx m r, w := c.fitWord r (c.rowIdx m r) w } := by
  simp only [List.mem_cons, List.not_mem_nil, or_false, not_or] at hacc
  obtain ⟨hro, hrc, hrs⟩ := hacc
  unfold Chip.mappedWrite
  simp only [hright, hfree, Bool.not_true, Bool.false_eq_true, if_false]

/-! ### What a report leaves of the stored registers -/

/-- A stored register is not one of those in which a flag shows: the HIST of the page, and the history of the
channel (R43). -/
def RegRow.apartFrom (q : RegRow) (idx i b page : Nat) (chan : Option Nat) : Prop :=
  q.key idx i b ≠ (histRow page).key 0 0 0
    ∧ ∀ r n, chanHist page = some r → chan = some n → q.key idx i b ≠ r.key n 0 0

/-- A register in which a flag does not show stands. -/
theorem Chip.flag_reg {q : RegRow} {idx i b page : Nat} {chan : Option Nat} (h : q.apartFrom idx i b page chan)
    (bit : Nat) : (c.flag page bit chan).reg q idx i b = c.reg q idx i b := by
  obtain ⟨hhist, hchan⟩ := h
  unfold Chip.flag
  dsimp only
  split
  · rfl
  · rw [Chip.reg_eq_of_unraised (Chip.unraised_raise _ _ _ _)]
    split
    · next r n hrow => rw [Chip.reg_setReg_ne _ (hchan _ _ hrow rfl), Chip.reg_setReg_ne _ hhist]
    · exact Chip.reg_setReg_ne _ hhist _

@[simp] theorem Chip.count_reg (n : Nat) (inst : Option Nat) (k : Nat) (q : RegRow) (idx i b : Nat) :
    (c.count n inst k).reg q idx i b = c.reg q idx i b :=
  Chip.reg_eq_of_regs (Chip.count_id _ _ _ _) (Chip.count_regs _ _ _ _) q idx i b

theorem Chip.note_reg {e : Ev} {q : RegRow} {idx i b : Nat} {inst : Option Nat} (h : q.apartFrom idx i b e.page inst) :
    (c.note e inst).reg q idx i b = c.reg q idx i b := by
  rw [Chip.note, Chip.flag_reg _ h, Chip.count_reg]

@[simp] theorem Chip.param_regs (p : Option Word) : (c.param p).2.regs = c.regs := by
  cases p <;> rfl

@[simp] theorem Chip.param_id (p : Option Word) : (c.param p).2.id = c.id := by
  cases p <;> rfl

/-- A lost record shows in the HIST of the recorder's page (R337). -/
theorem Chip.enqueueRec_reg {q : RegRow} {idx i b : Nat} (h : q.key idx i b ≠ (histRow 0x1F).key 0 0 0) (r : RawRec) :
    (c.enqueueRec r).reg q idx i b = c.reg q idx i b := by
  unfold Chip.enqueueRec
  split
  · rfl
  · rw [Chip.flag_reg _ ⟨h, fun _ _ hrow => nomatch hrow⟩, Chip.count_reg]
    rfl

theorem Chip.record_reg {q : RegRow} {idx i b : Nat} (h : q.key idx i b ≠ (histRow 0x1F).key 0 0 0) (code : Nat)
    (r : Rep) : (c.record code r).reg q idx i b = c.reg q idx i b := by
  rw [Chip.record, Chip.enqueueRec_reg _ h]
  exact Chip.reg_eq_of_regs (by simp) (by simp) q idx i b

/-- A register that is neither a history of the event nor the recorder's HIST stands through its report. -/
theorem Chip.report_reg_apart {e : Ev} {r : Rep} {q : RegRow} {idx i b : Nat}
    (h : q.apartFrom idx i b e.page r.inst) (hev : q.key idx i b ≠ (histRow 0x1F).key 0 0 0) :
    (c.report e r).reg q idx i b = c.reg q idx i b := by
  unfold Chip.report
  dsimp only
  split
  · exact c.note_reg h
  · rw [Chip.record_reg _ hev, Chip.note_reg _ h]

/-- The addresses of the words in which a report shows: the HIST of its page and of the recorder's page, and the
histories of channels. -/
def histAddrs (page : Nat) : List Nat :=
  [(page * 4096 + 0x010) % 2 ^ 18, 0x1F010, 0x08408, 0x0C408, 0x0D408, 0x1040C]

/-- A register at none of these addresses is no history. -/
theorem RegRow.apartFrom_of_addr {q : RegRow} {i page : Nat} (h : q.addr i % 2 ^ 18 ∉ histAddrs page)
    (idx b : Nat) (chan : Option Nat) :
    q.apartFrom idx i b page chan ∧ q.key idx i b ≠ (histRow 0x1F).key 0 0 0 := by
  simp only [histAddrs, List.mem_cons, List.not_mem_nil, or_false, not_or] at h
  obtain ⟨hpage, hev, hln, hrt, hts, hsq⟩ := h
  have hhist : q.addr i % 2 ^ 18 ≠ (histRow page).addr 0 % 2 ^ 18 := by
    simpa [histRow, RegRow.addr] using hpage
  refine ⟨⟨RegRow.key_ne_of_addr hhist _ _ _ _, fun r n hrow _ => ?_⟩, RegRow.key_ne_of_addr hev _ _ _ _⟩
  have hchan : q.addr i % 2 ^ 18 ≠ r.addr 0 % 2 ^ 18 := by
    unfold chanHist at hrow
    split at hrow <;> cases hrow <;> assumption
  exact RegRow.key_ne_of_addr hchan _ _ _ _

/-- A register that is no history stands through a report. -/
theorem Chip.report_reg {e : Ev} {q : RegRow} {i : Nat} (h : q.addr i % 2 ^ 18 ∉ histAddrs e.page) (r : Rep)
    (idx b : Nat) : (c.report e r).reg q idx i b = c.reg q idx i b :=
  c.report_reg_apart (RegRow.apartFrom_of_addr h idx b r.inst).1 (RegRow.apartFrom_of_addr h idx b r.inst).2

/-- GLB_ACCFAULT holds the master, the kind and the word address of a refused access (R53). -/
theorem Chip.accRefuse_accfault {e : Ev} (he : e.page = 0x00) (kind : Nat) (m : Master) (addr : Nat) (w : Word) :
    (c.accRefuse e kind m addr w).reg Reg.GLB_ACCFAULT =
      (fld m.code 2 30 ||| fld kind 3 27 ||| fld (addr / 4 * 4) 18 0) := by
  rw [Chip.accRefuse, Chip.report_reg _ (by rw [he]; decide), Chip.reg_setReg]

/-- A refused access leaves every register but GLB_ACCFAULT and the histories. -/
theorem Chip.accRefuse_reg {e : Ev} {q : RegRow} {i : Nat} (h : q.addr i % 2 ^ 18 ∉ histAddrs e.page)
    (hfault : q.addr i % 2 ^ 18 ≠ 0x0004C) (kind : Nat) (m : Master) (addr : Nat) (w : Word) (idx b : Nat) :
    (c.accRefuse e kind m addr w).reg q idx i b = c.reg q idx i b := by
  rw [Chip.accRefuse, Chip.report_reg _ h, Chip.reg_setReg_addr _ hfault]

@[simp] theorem Chip.accRefuse_calm (e : Ev) (kind : Nat) (m : Master) (addr : Nat) (w : Word) :
    (c.accRefuse e kind m addr w).calm = c.calm := by
  simp [Chip.accRefuse]

end Sys2Proof.Machine
end

section
/-!
The page header (R41 to R45, R52): a page's lock and the channel of a master's window.
-/

namespace Sys2Proof.Machine

/-! ### The lock -/

/-- The lock of a page reads what was written to it, and that of no other page. -/
theorem Chip.locked_setLock (c : Chip) (p : Nat) (w : Word) :
    (c.setReg (lockRow p) w).locked p = Word.bit w 0 := by
  simp [Chip.locked]

theorem Chip.locked_setLock_ne (c : Chip) {p q : Page} (h : q ≠ p) (w : Word) :
    (c.setReg (lockRow p.val) w).locked q.val = c.locked q.val := by
  have haddr : (lockRow q.val).addr 0 % 2 ^ 18 ≠ (lockRow p.val).addr 0 % 2 ^ 18 := by
    have hval := Fin.val_ne_of_ne h
    simp only [RegRow.addr, lockRow]
    omega
  rw [Chip.locked, Chip.reg_setReg_addr _ haddr, Chip.locked]

/-- A refused access leaves every lock. -/
theorem Chip.locked_accRefuse (c : Chip) {e : Ev} (he : e.page = 0x00) (kind : Nat) (m : Master) (addr : Nat)
    (w : Word) (p : Page) : (c.accRefuse e kind m addr w).locked p.val = c.locked p.val := by
  have haddr : (lockRow p.val).addr 0 % 2 ^ 18 ∉ histAddrs e.page
      ∧ (lockRow p.val).addr 0 % 2 ^ 18 ≠ 0x0004C := by
    simp only [he, RegRow.addr, lockRow, histAddrs, List.mem_cons, List.not_mem_nil, or_false, not_or]
    omega
  rw [Chip.locked, Chip.accRefuse_reg _ haddr.1 haddr.2, Chip.locked]

/-- A write to the LOCK word of a page that is there and can be locked. -/
theorem Chip.masterWrite_lock {c : Chip} {m : Master} {p : Page} (hopen : c.opens m p.val = true)
    (hlockable : pageLockable p.val = true) (w : Word) :
    c.masterWrite m (p.val * 4096 + 0x028) w =
      if Word.bit w 0 then (c.setReg (lockRow p.val) 1).done
      else if !(c.locked p.val) then c.done
      else if m == .host && Word.field w 16 16 == 0xA55A then (c.setReg (lockRow p.val) 0).done
      else (c.accLocked m (p.val * 4096 + 0x028) w, some 4) := by
  obtain ⟨-, -, -, hpresent, -⟩ := c.opens_iff.1 hopen
  rw [c.masterWrite_header hpresent (addrPage_eq p (by decide)) (addrOff_eq p (by decide) (by decide)) (by decide)]
  simp only [Chip.headerWrite, addrOff_eq p (by decide : 0x028 < 4096) (by decide), Chip.lockWrite, hlockable,
    Bool.not_true, Bool.false_eq_true, if_false]

/-- The word of LOCK_CLEAR: LOCKED is 0, and KEY as it was. -/
theorem Word.clear_bit0 (w : Word) : Word.bit (w &&& 0xFFFFFFFE) 0 = false := by
  simp [Word.bit]

theorem Word.field_clear_bit0 (w : Word) : Word.field (w &&& 0xFFFFFFFE) 16 16 = Word.field w 16 16 := by
  simp only [Word.field, ← BitVec.toNat_ushiftRight, BitVec.ushiftRight_and_distrib]
  have hmask : (0xFFFFFFFE : Word) >>> 16 = 0xFFFF := by decide
  rw [hmask, BitVec.toNat_and]
  exact congrArg (· % 2 ^ 16) (Nat.and_two_pow_sub_one_eq_mod _ 16) |>.trans (Nat.mod_mod _ _)

/-- Settles O3: LOCK is set by any master, cleared by the host port with its key, and any other clear is refused. -/
theorem pageLock : Obligations.PageLock := by
  unfold Obligations.PageLock
  refine ⟨?set, ?clear, ?refused⟩
  case set =>
    intro s m page hopen hlockable
    refine ⟨_, State.runMaster_regWrite hopen (addrPage_eq page (by decide)) _, rfl, ?_⟩
    have hwrite := Chip.masterWrite_lock (c := s.chip.fresh) hopen hlockable 1
    simp only [hwrite]
    exact ⟨Chip.locked_setLock _ _ _, fun q hq => Chip.locked_setLock_ne _ hq _⟩
  case clear =>
    intro s page w hopen hlockable hkey
    refine ⟨_, State.runMaster_regWrite hopen (addrPage_eq page (by decide)) _, rfl, ?_⟩
    have hwrite := Chip.masterWrite_lock (c := s.chip.fresh) hopen hlockable (w &&& 0xFFFFFFFE)
    simp only [Word.clear_bit0, Word.field_clear_bit0, hkey, Bool.false_eq_true, if_false] at hwrite
    cases hlocked : s.chip.locked page.val with
    | false =>
      simp only [hwrite, Chip.newCycle_locked, hlocked, Chip.done]
      exact ⟨hlocked, fun q _ => rfl⟩
    | true =>
      simp only [hwrite, Chip.newCycle_locked, hlocked, Chip.done]
      exact ⟨Chip.locked_setLock _ _ _, fun q hq => Chip.locked_setLock_ne _ hq _⟩
  case refused =>
    intro s m page w hopen hlockable hlocked hnokey
    refine ⟨_, State.runMaster_regWrite hopen (addrPage_eq page (by decide)) _, rfl, ?_⟩
    have hwrite := Chip.masterWrite_lock (c := s.chip.fresh) hopen hlockable (w &&& 0xFFFFFFFE)
    have hrefuse : (m == .host && Word.field w 16 16 == 0xA55A) = false := by
      simpa [imp_iff_not_or] using hnokey
    simp only [Word.clear_bit0, Word.field_clear_bit0, hrefuse, Chip.newCycle_locked, hlocked, Bool.not_true,
      Bool.false_eq_true, if_false] at hwrite
    simp only [hwrite]
    refine ⟨(Chip.locked_accRefuse _ rfl _ _ _ _ page).trans hlocked, ?_⟩
    rw [Chip.accLocked, Chip.accRefuse_accfault _ rfl]
    have hword : (page.val * 4096 + 0x028) / 4 * 4 = page.val * 4096 + 0x028 := by omega
    rw [hword]

/-! ### The channel of a window -/

theorem Chip.chanOf_setChan (c : Chip) (m : Master) (p : Nat) (w : Word) :
    (c.setRegOf m (chselRow p) (fld (Word.field w 0 16) 16 0)).chanOf m p = Word.field w 0 16 := by
  have hfld : Word.field (fld (Word.field w 0 16) 16 0) 0 16 = Word.field w 0 16 := by
    simp only [Word.field, fld, Word.place, BitVec.toNat_ofNat, Nat.shiftLeft_zero, Nat.shiftRight_zero]
    omega
  simp only [Chip.chanOf, Chip.regOf, Chip.setRegOf, Chip.reg_setReg, hfld]

/-- The window of another master, or of another page, shows the channel it did. -/
theorem Chip.chanOf_setChan_ne (c : Chip) {m m' : Master} {p q : Page} (h : m' ≠ m ∨ q ≠ p) (w : Word) :
    (c.setRegOf m (chselRow p.val) w).chanOf m' q.val = c.chanOf m' q.val := by
  have hkey : (chselRow q.val).key 0 0 m'.code ≠ (chselRow p.val).key 0 0 m.code := by
    have hm := Master.code_lt m
    have hm' := Master.code_lt m'
    rcases h with h | h
    · have hcode := Master.code_ne h
      simp only [RegRow.key, chselRow]
      omega
    · have hval := Fin.val_ne_of_ne h
      simp only [RegRow.key, chselRow]
      omega
  exact congrArg (Word.field · 0 16) (Chip.reg_setReg_ne c hkey w)

/-- A refused access leaves every window. -/
theorem Chip.chanOf_accRefuse (c : Chip) {e : Ev} (he : e.page = 0x00) (kind : Nat) (m : Master) (addr : Nat)
    (w : Word) (m' : Master) (p : Page) : (c.accRefuse e kind m addr w).chanOf m' p.val = c.chanOf m' p.val := by
  have haddr : (chselRow p.val).addr 0 % 2 ^ 18 ∉ histAddrs e.page
      ∧ (chselRow p.val).addr 0 % 2 ^ 18 ≠ 0x0004C := by
    simp only [he, RegRow.addr, chselRow, histAddrs, List.mem_cons, List.not_mem_nil, or_false, not_or]
    omega
  exact congrArg (Word.field · 0 16) (Chip.accRefuse_reg c haddr.1 haddr.2 kind m addr w 0 m'.code)

/-- A write to the CHSEL word of a page that is there. -/
theorem Chip.masterWrite_chsel {c : Chip} {m : Master} {p : Page} (hopen : c.opens m p.val = true) (w : Word) :
    c.masterWrite m (p.val * 4096 + 0x020) w =
      if c.pageInst p.val ≤ Word.field w 0 16 then
        (c.accRefuse Event.GLB_ACC_CHSEL 5 m (p.val * 4096 + 0x020) w, some 5)
      else (c.setRegOf m (chselRow p.val) (fld (Word.field w 0 16) 16 0)).done := by
  obtain ⟨-, -, -, hpresent, -⟩ := c.opens_iff.1 hopen
  rw [c.masterWrite_header hpresent (addrPage_eq p (by decide)) (addrOff_eq p (by decide) (by decide)) (by decide)]
  simp only [Chip.headerWrite, addrOff_eq p (by decide : 0x020 < 4096) (by decide), Chip.chselWrite]

/-- How many channels a page has follows from what the part is. -/
theorem Chip.pageInst_eq_of_id {a b : Chip} (h : a.id = b.id) (p : Nat) : a.pageInst p = b.pageInst p := by
  simp only [Chip.pageInst, Chip.nports, Chip.ngroups, h]

/-- Settles O4: CHSEL moves the window of its master alone, to a channel that exists. -/
theorem channelSelect : Obligations.ChannelSelect := by
  unfold Obligations.ChannelSelect
  refine ⟨?moves, ?refused, ?stays⟩
  case moves =>
    intro s m page w hopen hexists
    refine ⟨_, State.runMaster_regWrite hopen (addrPage_eq page (by decide)) _, rfl, ?_⟩
    have hwrite := Chip.masterWrite_chsel (c := s.chip.fresh) hopen w
    rw [if_neg (by exact Nat.not_le.2 hexists)] at hwrite
    simp only [hwrite, Chip.done]
    exact ⟨Chip.chanOf_setChan _ _ _ _,
      fun m' hm' => Chip.chanOf_setChan_ne _ (.inl hm') _⟩
  case refused =>
    intro s m page w hopen hbeyond
    refine ⟨_, State.runMaster_regWrite hopen (addrPage_eq page (by decide)) _, rfl, ?_⟩
    have hwrite := Chip.masterWrite_chsel (c := s.chip.fresh) hopen w
    rw [if_pos (by exact hbeyond)] at hwrite
    have hword : (page.val * 4096 + 0x020) / 4 * 4 = page.val * 4096 + 0x020 := by omega
    rw [hwrite]
    refine ⟨fun m' => Chip.chanOf_accRefuse _ rfl _ _ _ _ m' page, rfl, Chip.accRefuse_calm _ _ _ _ _ _, ?_⟩
    rw [Chip.accRefuse_accfault _ rfl, hword]
  case stays =>
    intro s m m' page p' w hopen hin
    refine ⟨_, State.runMaster_regWrite hopen (addrPage_eq page (by decide)) _, rfl, ?_⟩
    rw [Chip.masterWrite_chsel (c := s.chip.fresh) hopen w]
    split
    · have hid : (s.chip.fresh.accRefuse Event.GLB_ACC_CHSEL 5 m (page.val * 4096 + 0x020) w).id = s.chip.id :=
        Chip.report_id _ _ _
      rw [Chip.chanOf_accRefuse _ rfl, Chip.pageInst_eq_of_id hid]
      exact hin
    · next hexists =>
      have hinst : (s.chip.fresh.setRegOf m (chselRow page.val) (fld (Word.field w 0 16) 16 0)).pageInst p'.val
          = s.chip.pageInst p'.val := rfl
      by_cases hsame : m' = m ∧ p' = page
      · obtain ⟨rfl, rfl⟩ := hsame
        simp only [Chip.done]
        rw [hinst, Chip.chanOf_setChan _ _ _ _]
        exact Nat.not_le.1 hexists
      · simp only [Chip.done]
        rw [hinst, Chip.chanOf_setChan_ne _ (not_and_or.1 hsame)]
        exact hin

end Sys2Proof.Machine
end

section
/-!
Writes of plain registers (R46): a writable register without a command behind it takes the bits written and
leaves the rest of the part.
-/

namespace Sys2Proof.Machine

/-- The first element of a register is what its own address names in a role. -/
def RegRow.mapped (r : RegRow) (hub : Bool) : Bool :=
  !(headerOff r.off) && decide (r.off % 4 = 0 ∧ r.off < 4096 ∧ r.page < 64)
    && pageRow hub r.page r.off == some (r, 0)

theorem RegRow.mapped_iff {r : RegRow} {hub : Bool} :
    r.mapped hub = true ↔ headerOff r.off = false ∧ (r.off % 4 = 0 ∧ r.off < 4096 ∧ r.page < 64)
      ∧ pageRow hub r.page r.off = some (r, 0) := by
  simp only [RegRow.mapped, Bool.and_eq_true, Bool.not_eq_true', decide_eq_true_eq, beq_iff_eq, and_assoc]

theorem RegRow.mapped_page {r : RegRow} {hub : Bool} (h : r.mapped hub = true) : addrPage r.addr = r.page := by
  obtain ⟨-, ⟨-, hoff, hpage⟩, -⟩ := RegRow.mapped_iff.1 h
  simp only [addrPage, RegRow.addr]
  omega

theorem RegRow.mapped_off {r : RegRow} {hub : Bool} (h : r.mapped hub = true) : addrOff r.addr = r.off := by
  obtain ⟨-, ⟨halign, hoff, hpage⟩, -⟩ := RegRow.mapped_iff.1 h
  simp only [addrOff, RegRow.addr]
  omega

/-- A write at the address of a mapped register goes to that register. -/
theorem Chip.masterWrite_addr {c : Chip} {m : Master} {r : RegRow} (hopen : c.opens m r.page = true)
    (hmapped : r.mapped c.id.hub = true) (w : Word) : c.masterWrite m r.addr w = c.mappedWrite m r 0 r.addr w := by
  obtain ⟨hbody, -, hrow⟩ := RegRow.mapped_iff.1 hmapped
  obtain ⟨-, -, -, hpresent, -⟩ := c.opens_iff.1 hopen
  exact c.masterWrite_mapped hpresent (RegRow.mapped_page hmapped) (RegRow.mapped_off hmapped) hbody hrow m w

/-- Where its master has rights and no lock stands in the way, the write takes its effect on the page. -/
theorem Chip.masterWrite_rowWrite {c : Chip} {m : Master} {r : RegRow} (hopen : c.opens m r.page = true)
    (hmapped : r.mapped c.id.hub = true) (hacc : r.acc ∉ [.ro, .rc, .rs]) (hright : c.mayWrite m r = true)
    (hfree : (c.locked r.page && r.rwl != 0) = false) (w : Word) :
    c.masterWrite m r.addr w =
      c.rowWrite { m := m, row := r, i := 0, idx := c.rowIdx m r, w := c.fitWord r (c.rowIdx m r) w } := by
  rw [Chip.masterWrite_addr hopen hmapped, c.mappedWrite_row hacc hright hfree]

/-- A register that any master may write at any time, and that stands alone at its address in both roles. -/
def RegRow.plain (r : RegRow) : Bool :=
  r.acc == .rw && r.rights == .all && r.sel == .one && r.rwl == 0 && r.mapped false && r.mapped true

theorem RegRow.plain_iff {r : RegRow} :
    r.plain = true ↔ r.acc = .rw ∧ r.rights = .all ∧ r.sel = .one ∧ r.rwl = 0 ∧ ∀ hub, r.mapped hub = true := by
  simp only [RegRow.plain, Bool.and_eq_true, beq_iff_eq, and_assoc, Bool.forall_bool]

/-- A write of a plain register reaches the writes of its page. -/
theorem Chip.masterWrite_plain {c : Chip} {m : Master} {r : RegRow} (hopen : c.opens m r.page = true)
    (hplain : r.plain = true) (w : Word) :
    c.masterWrite m r.addr w = c.rowWrite { m := m, row := r, i := 0, idx := 0, w := c.fitWord r 0 w } := by
  obtain ⟨hacc, hrights, hsel, hrwl, hmapped⟩ := RegRow.plain_iff.1 hplain
  have hidx : c.rowIdx m r = 0 := by simp [Chip.rowIdx, hsel]
  rw [Chip.masterWrite_rowWrite hopen (hmapped _) (by simp [hacc]) (by simp [Chip.mayWrite, hrights])
    (by simp [hrwl]), hidx]

/-- The plain effect of a write of an RW register. -/
theorem Chip.store_rw (c : Chip) {x : RegWrite} (hacc : x.row.acc = .rw ∨ x.row.acc = .rwl) :
    c.store x = c.setRegOf x.m x.row (Word.merge (c.regOf x.m x.row x.idx x.i) x.w x.row.take) x.idx x.i := by
  rcases hacc with h | h <;> simp [Chip.store, h]

theorem Chip.regOf_setRegOf (c : Chip) (m : Master) (r : RegRow) (w : Word) (idx i : Nat) :
    (c.setRegOf m r w idx i).regOf m r idx i = w :=
  c.reg_setReg r w idx i _

/-- The plain registers of O6. -/
def plainRegs : List RegRow :=
  [Reg.TK_RATE_LO, Reg.TK_STEP0, Reg.TK_STEP1, Reg.SQM_WLO, Reg.MN_SNAPT_FRAC, Reg.MN_SNAPT_NSLO,
    Reg.MN_SNAPT_NSHI, Reg.MN_CSEL, Reg.MN_PSEL, Reg.EV_SEVQ]

theorem plainRegs_plain : ∀ r ∈ plainRegs, r.plain = true := by decide

/-- A write of one of them is stored and does nothing else. -/
theorem Chip.rowWrite_plainRegs (c : Chip) {x : RegWrite} (h : x.row ∈ plainRegs) : c.rowWrite x = (c.store x).done := by
  obtain ⟨m, r, i, idx, w⟩ := x
  simp only [plainRegs, List.mem_cons, List.not_mem_nil, or_false] at h
  rcases h with rfl | rfl | rfl | rfl | rfl | rfl | rfl | rfl | rfl | rfl <;> rfl

/-- They have the fields they take in every role. -/
theorem Chip.fitWord_plainRegs (c : Chip) {r : RegRow} (h : r ∈ plainRegs) (w : Word) : c.fitWord r 0 w = w := by
  simp only [plainRegs, List.mem_cons, List.not_mem_nil, or_false] at h
  rcases h with rfl | rfl | rfl | rfl | rfl | rfl | rfl | rfl | rfl | rfl <;> rfl

/-- Settles O6: a write of a plain register is stored in the bank of its master. -/
theorem plainRegisterWrite : Obligations.PlainRegisterWrite := by
  unfold Obligations.PlainRegisterWrite
  intro s m r a w hr ha hopen _
  have hr : r ∈ plainRegs := hr
  have hplain := plainRegs_plain r hr
  obtain ⟨hacc, -, -, -, hmapped⟩ := RegRow.plain_iff.1 hplain
  have hpage : addrPage a.toNat = r.page := by rw [ha, RegRow.mapped_page (hmapped s.chip.id.hub)]
  refine ⟨_, State.runMaster_regWrite hopen hpage w, rfl, ?_⟩
  have hwrite : (s.chip.fresh.masterWrite m a.toNat w).1 =
      s.chip.fresh.setRegOf m r (Word.merge (s.chip.regOf m r) w r.take) := by
    rw [ha, Chip.masterWrite_plain (c := s.chip.fresh) hopen hplain, Chip.rowWrite_plainRegs _ hr,
      Chip.fitWord_plainRegs _ hr, Chip.done, Chip.store_rw _ (.inl hacc)]
    rfl
  simp only [hwrite]
  exact ⟨Chip.regOf_setRegOf _ _ _ _ _ _, fun q i j b hkey => Chip.reg_setReg_ne _ hkey _, rfl⟩

end Sys2Proof.Machine
end

section
/-!
Reads of RS registers (R47): what a master's latch holds after one, and what it leaves.
-/

namespace Sys2Proof.Machine

/-! ### Entries put into a map one after another -/

theorem SMap.has_insert {α : Type} (m : SMap α) (k k' : Nat) (v : α) :
    SMap.has (SMap.insert m k v) k' = (decide (k' = k) || SMap.has m k') := by
  induction m with
  | nil => by_cases h : k' = k <;> simp [SMap.insert, SMap.has, h]
  | cons e r ih =>
    simp only [SMap.insert]
    split_ifs with hlt heq
    · by_cases h : k' = k <;> simp [SMap.has, h]
    · subst heq
      by_cases h : k' = e.1 <;> simp [SMap.has, h]
    · by_cases h : k' = e.1 <;> simp [SMap.has, h, ih]

/-- The map after a list of entries has been put into it. -/
def SMap.inserts {α : Type} (m : SMap α) (l : List (Nat × α)) : SMap α :=
  l.foldl (fun m e => SMap.insert m e.1 e.2) m

theorem SMap.find_inserts_of_notMem {α : Type} {l : List (Nat × α)} {k : Nat} (h : k ∉ l.map Prod.fst) (m : SMap α)
    (d : α) : SMap.find (SMap.inserts m l) k d = SMap.find m k d := by
  induction l generalizing m with
  | nil => rfl
  | cons e r ih =>
    simp only [List.map_cons, List.mem_cons, not_or] at h
    obtain ⟨hne, hrest⟩ := h
    exact (ih hrest _).trans (SMap.find_insert_ne hne _ _)

theorem SMap.has_inserts {α : Type} {l : List (Nat × α)} {k : Nat} (m : SMap α)
    (h : k ∈ l.map Prod.fst ∨ SMap.has m k = true) : SMap.has (SMap.inserts m l) k = true := by
  induction l generalizing m with
  | nil => simpa [SMap.inserts] using h
  | cons e r ih =>
    refine ih _ ?_
    simp only [List.map_cons, List.mem_cons] at h
    rw [SMap.has_insert]
    rcases h with (h | h) | h
    · simp [h]
    · exact .inl h
    · simp [h]

theorem SMap.find_inserts {α : Type} {l : List (Nat × α)} (hnodup : (l.map Prod.fst).Nodup) {e : Nat × α}
    (he : e ∈ l) (m : SMap α) (d : α) : SMap.find (SMap.inserts m l) e.1 d = e.2 := by
  induction l generalizing m with
  | nil => simp at he
  | cons a r ih =>
    simp only [List.map_cons, List.nodup_cons] at hnodup
    obtain ⟨hfresh, hrest⟩ := hnodup
    rcases List.mem_cons.1 he with rfl | he
    · exact (SMap.find_inserts_of_notMem hfresh _ _).trans (SMap.find_insert_self _ _ _ _)
    · exact ih hrest he _

/-! ### The row an offset names -/

theorem RegRow.covers_eq {r : RegRow} {off i : Nat} (h : r.covers off = some i) :
    r.off + i * r.stride = off ∧ i < r.cnt := by
  unfold RegRow.covers at h
  split at h
  · cases h
  · next hle =>
    dsimp only at h
    split at h
    · next hcond =>
      obtain rfl := Option.some.inj h
      simp only [Bool.and_eq_true, decide_eq_true_eq] at hcond
      rw [Nat.div_mul_cancel (Nat.dvd_of_mod_eq_zero hcond.1)]
      exact ⟨by omega, hcond.2⟩
    · cases h

theorem findRow_eq {l : List RegRow} {off : Nat} {r : RegRow} {i : Nat} (h : findRow l off = some (r, i)) :
    r ∈ l ∧ r.off + i * r.stride = off ∧ i < r.cnt := by
  induction l with
  | nil => cases h
  | cons a rest ih =>
    simp only [findRow] at h
    split at h
    · next hcov =>
      cases h
      exact ⟨List.mem_cons_self, RegRow.covers_eq hcov⟩
    · obtain ⟨hmem, hoff⟩ := ih h
      exact ⟨List.mem_cons_of_mem _ hmem, hoff⟩

/-- A row in the table of a page lies on that page, and its elements within it. -/
def RegRow.within (page : Nat) (r : RegRow) : Bool :=
  r.page == page && decide (page < 64) && decide (r.off + (r.cnt - 1) * r.stride < 4096)

theorem Reg.ofPage_within (page : Nat) : (Reg.ofPage page).all (RegRow.within page) = true := by
  unfold Reg.ofPage
  split <;> rfl

/-- The element that an offset names lies at that offset. -/
theorem pageRow_addr {hub : Bool} {page off : Nat} {r : RegRow} {i : Nat} (h : pageRow hub page off = some (r, i)) :
    r.addr i = page * 4096 + off ∧ page < 64 ∧ off < 4096 := by
  unfold pageRow at h
  split at h
  · next heq =>
    split at h
    · cases h
      obtain ⟨hmem, hoff, hi⟩ := findRow_eq heq
      have hwithin := List.all_eq_true.1 (Reg.ofPage_within page) _ hmem
      simp only [RegRow.within, Bool.and_eq_true, beq_iff_eq, decide_eq_true_eq] at hwithin
      obtain ⟨⟨hpage, hlt⟩, hend⟩ := hwithin
      refine ⟨by rw [RegRow.addr, hpage, hoff], hlt, ?_⟩
      have hle : i * r.stride ≤ (r.cnt - 1) * r.stride := Nat.mul_le_mul_right _ (by omega)
      omega
    · cases h
  · cases h

/-! ### What a read latches -/

/-- The siblings that a read latches are at different offsets, and are read-only. -/
theorem latched_nodup (page off : Nat) : (latched page off).Nodup := by
  unfold latched
  split <;> decide

theorem latched_all_ro (page off : Nat) :
    ((latched page off).all fun o => [true, false].all fun hub =>
      (pageRow hub page o).all fun p => p.1.acc == .ro) = true := by
  unfold latched
  split <;> rfl

theorem latched_ro {hub : Bool} {page off o : Nat} (ho : o ∈ latched page off) {r : RegRow} {i : Nat}
    (hrow : pageRow hub page o = some (r, i)) : r.acc = .ro := by
  have h := List.all_eq_true.1 (List.all_eq_true.1 (latched_all_ro page off) o ho) hub (by cases hub <;> decide)
  simpa [hrow] using h

/-- The entries that a read puts into the shadow copies. -/
def Chip.latchEntries (c : Chip) (m : Master) (page off idx : Nat) : List (Nat × Word) :=
  (latched page off).filterMap fun o =>
    (pageRow c.id.hub page o).map fun p => (shadowKey m p.1 p.2 (shadowIdx p.1 idx), c.rowValue m p.1 p.2 idx)

theorem Chip.latch_eq (c : Chip) (m : Master) (page off idx : Nat) :
    c.latch m page off idx = { c with shadows := SMap.inserts c.shadows (c.latchEntries m page off idx) } := by
  have hgen : ∀ (l : List Nat) (x : Chip),
      l.foldl (fun x o => match pageRow c.id.hub page o with
        | some (r, i) =>
          { x with shadows := SMap.insert x.shadows (shadowKey m r i (shadowIdx r idx)) (c.rowValue m r i idx) }
        | none => x) x =
      { x with shadows := SMap.inserts x.shadows (l.filterMap fun o => (pageRow c.id.hub page o).map fun p =>
          (shadowKey m p.1 p.2 (shadowIdx p.1 idx), c.rowValue m p.1 p.2 idx)) } := by
    intro l
    induction l with
    | nil => intro x; rfl
    | cons o rest ih =>
      intro x
      rw [List.foldl_cons, ih]
      cases hrow : pageRow c.id.hub page o with
      | none => simp [hrow]
      | some p => simp [hrow, SMap.inserts]
  exact hgen _ _

/-- A latched word stands under the master's key of its sibling. -/
theorem Chip.latchEntries_key {c : Chip} {m : Master} {page off idx : Nat} {e : Nat × Word}
    (he : e ∈ c.latchEntries m page off idx) :
    ∃ o n, e.1 = (n * 4 + m.code) * 2 ^ 18 + (page * 4096 + o) ∧ page < 64 ∧ o < 4096 := by
  simp only [Chip.latchEntries, List.mem_filterMap, Option.map_eq_some_iff] at he
  obtain ⟨o, ho, ⟨r, i⟩, hrow, rfl⟩ := he
  obtain ⟨haddr, hpage, hoff⟩ := pageRow_addr hrow
  refine ⟨o, shadowIdx r idx, ?_, hpage, hoff⟩
  simp only [shadowKey, RegRow.key_eq_addr, haddr]

theorem Chip.latchEntries_nodup (c : Chip) (m : Master) (page off idx : Nat) :
    ((c.latchEntries m page off idx).map Prod.fst).Nodup := by
  rw [Chip.latchEntries, List.map_filterMap]
  refine (latched_nodup page off).filterMap ?_
  simp only [Option.mem_def, Option.map_map, Option.map_eq_some_iff, Function.comp]
  rintro o o' k ⟨⟨r, i⟩, hrow, rfl⟩ ⟨⟨r', i'⟩, hrow', hkey⟩
  obtain ⟨haddr, hpage, hoff⟩ := pageRow_addr hrow
  obtain ⟨haddr', -, hoff'⟩ := pageRow_addr hrow'
  have hcode := Master.code_lt m
  simp only [shadowKey, RegRow.key_eq_addr, haddr, haddr'] at hkey
  omega

/-- What a master reads of a sibling after a read that latched it is the value of that moment. -/
theorem Chip.shown_latch {c d : Chip} {m : Master} {page off idx o : Nat} {r : RegRow} {i : Nat}
    (ho : o ∈ latched page off) (hrow : pageRow c.id.hub page o = some (r, i))
    (hsh : d.shadows = (c.latch m page off idx).shadows) : d.shown m r i idx = c.rowValue m r i idx := by
  have hmem : (shadowKey m r i (shadowIdx r idx), c.rowValue m r i idx) ∈ c.latchEntries m page off idx := by
    simp only [Chip.latchEntries, List.mem_filterMap]
    exact ⟨o, ho, by simp [hrow]⟩
  have hhas : SMap.has d.shadows (shadowKey m r i (shadowIdx r idx)) = true := by
    rw [hsh, Chip.latch_eq]
    exact SMap.has_inserts _ (.inl (List.mem_map_of_mem hmem))
  have hfind : SMap.find d.shadows (shadowKey m r i (shadowIdx r idx)) 0 = c.rowValue m r i idx := by
    rw [hsh, Chip.latch_eq]
    exact SMap.find_inserts (c.latchEntries_nodup m page off idx) hmem _ _
  simp only [Chip.shown, latched_ro ho hrow, hhas, decide_true, Bool.and_self, if_true]
  exact hfind

/-- A read moves no shadow copy of another master. -/
theorem Chip.find_latch_shadows_ne (c : Chip) {m : Master} {page off idx k : Nat} (hk : k / 262144 % 4 ≠ m.code) :
    SMap.find (c.latch m page off idx).shadows k 0 = SMap.find c.shadows k 0 := by
  rw [Chip.latch_eq]
  refine SMap.find_inserts_of_notMem ?_ _ _
  rw [List.mem_map]
  rintro ⟨e, he, rfl⟩
  obtain ⟨o, n, hkey, hpage, ho⟩ := Chip.latchEntries_key he
  have hcode := Master.code_lt m
  omega

end Sys2Proof.Machine
end

section
/-!
The registers of the timekeeper and of the time bases (R66 to R69, R72, R76, R77).
-/

namespace Sys2Proof.Machine

variable {s : State} {m : Master}

/-- An access that the port takes is one to a page that is there. -/
theorem opens_present {c : Chip} {p : Nat} (hopen : c.opens m p = true) : pagePresent c.id.hub p = true :=
  (c.opens_iff.1 hopen).2.2.2.1

/-! ### What the writes of these registers are -/

theorem Chip.rowWrite_rateHi (c : Chip) (m : Master) (w : Word) :
    c.rowWrite { m := m, row := Reg.TK_RATE_HI, i := 0, idx := 0, w := w } = c.rateWrite m w := by
  simp only [Chip.rowWrite, Chip.writeTk, Reg.TK_RATE_HI]

theorem Chip.rowWrite_step2 (c : Chip) (m : Master) (w : Word) :
    c.rowWrite { m := m, row := Reg.TK_STEP2, i := 0, idx := 0, w := w } = (c.stepWrite m w).done := by
  simp only [Chip.rowWrite, Chip.writeTk, Reg.TK_STEP2]

theorem Chip.rowWrite_capt (c : Chip) (m : Master) (k : Nat) (w : Word) :
    c.rowWrite { m := m, row := Reg.TB_CAPT, i := 0, idx := k, w := w } = (c.onBit w 0 Chip.tbCapture).done := by
  simp only [Chip.rowWrite, Chip.writeTb, Reg.TB_CAPT]

theorem Chip.rowWrite_load (c : Chip) (m : Master) (k : Nat) (w : Word) :
    c.rowWrite { m := m, row := Reg.TB_LOAD_NSHI, i := 0, idx := k, w := w } =
      ((c.setRegOf m Reg.TB_LOAD_NSHI (Word.merge (c.regOf m Reg.TB_LOAD_NSHI k) w Reg.TB_LOAD_NSHI.take) k).tbLoad m k
        w).done := by
  rw [← Chip.store_rw c (x := { m := m, row := Reg.TB_LOAD_NSHI, i := 0, idx := k, w := w }) (.inl rfl)]
  simp only [Chip.rowWrite, Chip.writeTb, Reg.TB_LOAD_NSHI]

theorem Chip.rowWrite_adjust (c : Chip) (m : Master) (k : Nat) (w : Word) :
    c.rowWrite { m := m, row := Reg.TB_ADJ_NSHI, i := 0, idx := k, w := w } =
      ((c.setRegOf m Reg.TB_ADJ_NSHI (Word.merge (c.regOf m Reg.TB_ADJ_NSHI k) w Reg.TB_ADJ_NSHI.take) k).tbAdjust m k
        w).done := by
  rw [← Chip.store_rw c (x := { m := m, row := Reg.TB_ADJ_NSHI, i := 0, idx := k, w := w }) (.inl rfl)]
  simp only [Chip.rowWrite, Chip.writeTb, Reg.TB_ADJ_NSHI]

/-- A master's access at the address of a mapped register that it may write, where the port takes it at once. -/
theorem State.runMaster_rowWrite {r : RegRow} {addr k : Nat} {w : Word} (haddr : addr = r.addr)
    (hopen : s.chip.opens m r.page = true) (hmapped : ∀ hub, pagePresent hub r.page = true → r.mapped hub = true)
    (hacc : r.acc ∉ [.ro, .rc, .rs]) (hright : s.chip.mayWrite m r = true)
    (hfree : (s.chip.locked r.page && r.rwl != 0) = false) (hidx : s.chip.rowIdx m r = k)
    (hfit : s.chip.fitWord r k w = w) {d : Written}
    (hwrite : s.chip.fresh.rowWrite { m := m, row := r, i := 0, idx := k, w := w } = d) :
    s.runMaster m (fun c => c.regWrite m addr w) = .next { s with chip := d.1 } := by
  subst haddr
  have hm : r.mapped s.chip.fresh.id.hub = true := hmapped _ (opens_present hopen)
  have hidx' : s.chip.fresh.rowIdx m r = k := hidx
  have hfit' : s.chip.fresh.fitWord r k w = w := hfit
  rw [State.runMaster_regWrite hopen (RegRow.mapped_page hm),
    Chip.masterWrite_rowWrite (c := s.chip.fresh) hopen hm hacc hright hfree, hidx', hfit', hwrite]

/-! ### Refusals of the Guard -/

@[simp] theorem Chip.guardRefuse_calm (c : Chip) (e : Ev) (m : Master) (addr : Nat) (value bound : Word) :
    (c.guardRefuse e m addr value bound).calm = c.calm := by
  simp [Chip.guardRefuse]

@[simp] theorem Chip.guardRefuse_tk (c : Chip) (e : Ev) (m : Master) (addr : Nat) (value bound : Word) :
    (c.guardRefuse e m addr value bound).tk = c.tk := by
  simp [Chip.guardRefuse]

/-- GD_LASTVAL holds the value of the latest refusal (R307). -/
@[simp] theorem Chip.guardRefuse_lastval (c : Chip) (e : Ev) (m : Master) (addr : Nat) (value bound : Word) :
    (c.guardRefuse e m addr value bound).reg Reg.GD_LASTVAL = value :=
  Chip.reg_setReg _ _ _ _ _ _

/-! ### Staging a RATE -/

/-- The write of TK_RATE_HI is the timekeeper's (R66). -/
theorem exec_rateStage (hopen : s.chip.opens m 0x01 = true) (w : Word) :
    exec (.rateStage m w) s = .next { s with chip := (s.chip.fresh.rateWrite m w).1 } := by
  show s.runMaster m (fun c => c.regWrite m 0x01064 w) = _
  exact State.runMaster_rowWrite (r := Reg.TK_RATE_HI) (by decide) hopen (by decide) (by decide) rfl (Bool.and_false _)
    (by simp only [Chip.rowIdx, Reg.TK_RATE_HI]) (by simp only [Chip.fitWord, Reg.TK_RATE_HI]) (Chip.rowWrite_rateHi _ _ _)

/-- A RATE inside the window and the slew is staged. -/
theorem Chip.rateWrite_tk (c : Chip) {w : Word}
    (hwin : rateOutside (w.toNat * 2 ^ 32 + (c.regOf m Reg.TK_RATE_LO).toNat)
      (Word.field (c.reg Reg.GD_RATEWIN) 0 20) = false)
    (hslew : c.rateSlewed (w.toNat * 2 ^ 32 + (c.regOf m Reg.TK_RATE_LO).toNat) = false) :
    (c.rateWrite m w).1.tk =
      { c.tk with rateStage := some (w.toNat * 2 ^ 32 + (c.regOf m Reg.TK_RATE_LO).toNat) } := by
  simp only [Chip.rateWrite, hwin, hslew, Bool.false_eq_true, if_false]
  split <;> simp

/-- A RATE outside the window or beyond the slew is refused by the Guard (R300). -/
theorem Chip.rateWrite_refused (c : Chip) {w : Word}
    (h : rateOutside (w.toNat * 2 ^ 32 + (c.regOf m Reg.TK_RATE_LO).toNat)
        (Word.field (c.reg Reg.GD_RATEWIN) 0 20) = true
      ∨ c.rateSlewed (w.toNat * 2 ^ 32 + (c.regOf m Reg.TK_RATE_LO).toNat) = true) :
    ∃ e bound, (c.rateWrite m w).1 = c.guardRefuse e m Reg.TK_RATE_HI.addr w bound := by
  unfold Chip.rateWrite
  by_cases hwin : rateOutside (w.toNat * 2 ^ 32 + (c.regOf m Reg.TK_RATE_LO).toNat)
      (Word.field (c.reg Reg.GD_RATEWIN) 0 20) = true
  · simp only [hwin, if_true]
    exact ⟨_, _, rfl⟩
  · have hslew := h.resolve_left hwin
    simp only [hwin, hslew, Bool.false_eq_true, if_false, if_true]
    exact ⟨_, _, rfl⟩

/-- Settles O8: a RATE is staged, or refused with its word kept. -/
theorem rateStaging : Obligations.RateStaging := by
  unfold Obligations.RateStaging
  refine ⟨fun s m w hopen hwin hslew => ?_, fun s m w hopen hbad => ?_⟩
  · refine State.answers (exec_rateStage hopen w) fun d hd => ?_
    have htk := Chip.rateWrite_tk (m := m) s.chip.fresh (w := w) (by simpa using hwin) (by simpa using hslew)
    simp [hd, htk]
  · refine State.answers (exec_rateStage hopen w) fun d hd => ?_
    obtain ⟨e, bound, hrefuse⟩ := Chip.rateWrite_refused (m := m) s.chip.fresh (w := w) (by simpa using hbad)
    simp [hd, hrefuse]

/-! ### Arming a step -/

/-- The write of TK_STEP2 arms a step (R68). -/
theorem exec_stepArm (hopen : s.chip.opens m 0x01 = true) (w : Word) :
    exec (.stepArm m w) s = .next { s with chip := s.chip.fresh.stepWrite m w } := by
  show s.runMaster m (fun c => c.regWrite m 0x01098 w) = _
  exact State.runMaster_rowWrite (r := Reg.TK_STEP2) (by decide) hopen (by decide) (by decide) rfl (Bool.and_false _)
    (by simp only [Chip.rowIdx, Reg.TK_STEP2]) (by simp only [Chip.fitWord, Reg.TK_STEP2]) (Chip.rowWrite_step2 _ _ _)

/-- Settles O9: a step is armed where none is, and else the armed one stays. -/
theorem stepArming : Obligations.StepArming := by
  unfold Obligations.StepArming
  refine ⟨fun s m w hopen hnone => ?_, fun s m w hopen hsome => ?_⟩
  · refine ⟨_, exec_stepArm hopen w, rfl, ?_⟩
    simp only [Chip.stepWrite, Chip.newCycle_tk, hnone, Option.isSome_none, Bool.false_eq_true, if_false]
    rfl
  · refine ⟨_, exec_stepArm hopen w, rfl, ?_⟩
    simp [Chip.stepWrite, hsome]

/-! ### Reading time -/

/-- The read of TK_TIME_FRAC latches the rest of the time for its master, and does nothing else (R72). -/
theorem exec_timeRead (hopen : s.chip.opens m 0x01 = true) :
    exec (.timeRead m) s = .next { s with chip := s.chip.fresh.latch m 0x01 0x040 0 } := by
  refine (State.runMaster_regRead hopen rfl).trans ?_
  have hpresent : pagePresent s.chip.fresh.id.hub 0x01 = true := opens_present (c := s.chip) hopen
  have hrow : pageRow s.chip.fresh.id.hub 0x01 0x040 = some (Reg.TK_TIME_FRAC, 0) := by
    cases s.chip.fresh.id.hub <;> rfl
  have hread : (s.chip.fresh.masterRead m 0x01040).2 = s.chip.fresh.latch m 0x01 0x040 0 := by
    unfold Chip.masterRead
    simp only [show addrPage 0x01040 = 0x01 from rfl, show addrOff 0x01040 = 0x040 from rfl,
      show headerOff 0x040 = false from rfl, hpresent, hrow, Bool.not_true, Bool.false_eq_true, if_false]
    rfl
  rw [hread]

/-- A word of the time that TK_TIME_FRAC latches is the value of that moment. -/
theorem Chip.shown_time_latch (c : Chip) {o : Nat} {r : RegRow} (ho : o ∈ latched 0x01 0x040)
    (hrow : ∀ hub, pageRow hub 0x01 o = some (r, 0)) (m : Master) :
    (c.latch m 0x01 0x040 0).shown m r 0 0 = c.rowValue m r 0 0 :=
  Chip.shown_latch ho (hrow _) rfl

/-- Settles O11: the reading master's copies are those of one tick. -/
theorem timeReadLatch : Obligations.TimeReadLatch := by
  unfold Obligations.TimeReadLatch
  intro s m hopen
  have hlatch := Chip.latch_eq s.chip.fresh m 0x01 0x040 0
  refine ⟨_, exec_timeRead hopen, rfl, ?tk, ?regs, ?calm, ?lo, ?hi, ?frclo, ?frchi, ?qual, ?others⟩
  case tk => simp [hlatch]
  case regs => simp [hlatch]
  case calm => rw [hlatch]; rfl
  case lo => exact Chip.shown_time_latch _ (o := 0x044) (by decide) (by decide) m
  case hi => exact Chip.shown_time_latch _ (o := 0x048) (by decide) (by decide) m
  case frclo => exact Chip.shown_time_latch _ (o := 0x04C) (by decide) (by decide) m
  case frchi => exact Chip.shown_time_latch _ (o := 0x050) (by decide) (by decide) m
  case qual => exact Chip.shown_time_latch _ (o := 0x054) (by decide) (by decide) m
  case others =>
    intro m' hm' r idx hr
    refine Chip.find_latch_shadows_ne _ ?_
    have hwithin := List.all_eq_true.1 (Reg.ofPage_within 0x01) r hr
    simp only [RegRow.within, Bool.and_eq_true, beq_iff_eq, decide_eq_true_eq] at hwithin
    obtain ⟨⟨hpage, -⟩, hend⟩ := hwithin
    have hcode' := Master.code_lt m'
    have hoff : r.off < 4096 := by omega
    have hkey : shadowKey m' r 0 idx / 262144 % 4 = m'.code := by
      simp only [shadowKey, RegRow.key, hpage]
      omega
    rw [hkey]
    exact Master.code_ne hm'

/-! ### Time bases -/

@[simp] theorem Chip.tbChan_modTb (c : Chip) (k : Nat) (f : TbChan → TbChan) : (c.modTb k f).tbChan k = f (c.tbChan k) :=
  SMap.find_put_self _ _ _ _

theorem Chip.tbChan_modTb_ne (c : Chip) {k j : Nat} (h : j ≠ k) (f : TbChan → TbChan) :
    (c.modTb k f).tbChan j = c.tbChan j :=
  SMap.find_put_ne h _ _ _

/-- A change of several bases, each once. -/
theorem Chip.tbChan_foldl_modTb (f : TbChan → TbChan) {l : List Nat} (hnodup : l.Nodup) (c : Chip) (j : Nat) :
    (l.foldl (fun c k => c.modTb k f) c).tbChan j = if j ∈ l then f (c.tbChan j) else c.tbChan j := by
  induction l generalizing c with
  | nil => rfl
  | cons k rest ih =>
    obtain ⟨hfresh, hrest⟩ := List.nodup_cons.1 hnodup
    rw [List.foldl_cons, ih hrest]
    by_cases hj : j = k
    · subst hj
      simp [hfresh]
    · simp [hj, Chip.tbChan_modTb_ne _ hj]

/-- The bases with their present values captured. -/
def Chip.tbCaptured (c : Chip) : Chip :=
  (List.range 4).foldl (fun c k => c.modTb k fun x => { x with cap := x.time }) c

/-- A capture keeps the present values and the time at which it was. -/
theorem Chip.tbCapture_eq (c : Chip) :
    c.tbCapture = { c.tbCaptured with tb := { c.tbCaptured.tb with captT := c.tbCaptured.now } } := by
  rw [Chip.tbCapture, ← Chip.tbCaptured]

@[simp] theorem Chip.tbCaptured_tk (c : Chip) : c.tbCaptured.tk = c.tk :=
  foldl_keeps Chip.tk _ _ _ fun _ _ => rfl

@[simp] theorem Chip.tbCaptured_regs (c : Chip) : c.tbCaptured.regs = c.regs :=
  foldl_keeps Chip.regs _ _ _ fun _ _ => rfl

theorem Chip.tbCaptured_tbChan (c : Chip) {k : Nat} (hk : k < 4) :
    c.tbCaptured.tbChan k = { c.tbChan k with cap := (c.tbChan k).time } := by
  rw [Chip.tbCaptured, Chip.tbChan_foldl_modTb _ List.nodup_range, if_pos (List.mem_range.2 hk)]

theorem Chip.tbCapture_tbChan (c : Chip) (k : Nat) : c.tbCapture.tbChan k = c.tbCaptured.tbChan k := by
  simp only [Chip.tbCapture_eq, Chip.tbChan]

/-- The write of TB_CAPT.GO (R77). -/
theorem exec_tbCapture (hopen : s.chip.opens m 0x02 = true) :
    exec (.tbCapture m) s = .next { s with chip := s.chip.fresh.tbCapture } := by
  show s.runMaster m (fun c => c.regWrite m 0x02040 1) = _
  exact State.runMaster_rowWrite (r := Reg.TB_CAPT) (by decide) hopen (by decide) (by decide) rfl (Bool.and_false _)
    rfl (by simp only [Chip.fitWord, Reg.TB_CAPT]) ((Chip.rowWrite_capt _ _ _ _).trans (congrArg Chip.done (if_pos (by decide))))

/-- The write of the top word of a load acts on the channel of the master's window. -/
theorem exec_tbLoad (hopen : s.chip.opens m 0x02 = true) (w : Word) :
    exec (.tbLoad m w) s = .next { s with chip :=
      (s.chip.fresh.setRegOf m Reg.TB_LOAD_NSHI (Word.merge (s.chip.regOf m Reg.TB_LOAD_NSHI (s.chip.chanOf m 0x02)) w
        0xFFFFFFFF) (s.chip.chanOf m 0x02)).tbLoad m (s.chip.chanOf m 0x02) w } := by
  show s.runMaster m (fun c => c.regWrite m 0x02428 w) = _
  exact State.runMaster_rowWrite (r := Reg.TB_LOAD_NSHI) (by decide) hopen (by decide) (by decide) rfl (Bool.and_false _)
    rfl (by simp only [Chip.fitWord, Reg.TB_LOAD_NSHI]) (Chip.rowWrite_load _ _ _ _)

theorem exec_tbAdjust (hopen : s.chip.opens m 0x02 = true) (w : Word) :
    exec (.tbAdjust m w) s = .next { s with chip :=
      (s.chip.fresh.setRegOf m Reg.TB_ADJ_NSHI (Word.merge (s.chip.regOf m Reg.TB_ADJ_NSHI (s.chip.chanOf m 0x02)) w
        0xFFFFFFFF) (s.chip.chanOf m 0x02)).tbAdjust m (s.chip.chanOf m 0x02) w } := by
  show s.runMaster m (fun c => c.regWrite m 0x02438 w) = _
  exact State.runMaster_rowWrite (r := Reg.TB_ADJ_NSHI) (by decide) hopen (by decide) (by decide) rfl (Bool.and_false _)
    rfl (by simp only [Chip.fitWord, Reg.TB_ADJ_NSHI]) (Chip.rowWrite_adjust _ _ _ _)

/-- The three words of a banked value: the top one stored leaves the others. -/
theorem Chip.banked96_setRegOf (c : Chip) {lo mid r : RegRow} (hlo : lo.addr 0 % 2 ^ 18 ≠ r.addr 0 % 2 ^ 18)
    (hmid : mid.addr 0 % 2 ^ 18 ≠ r.addr 0 % 2 ^ 18) (m : Master) (k : Nat) (v w : Word) :
    (c.setRegOf m r v k).banked96 m lo mid k w = c.banked96 m lo mid k w := by
  simp only [Chip.banked96, Chip.regOf, Chip.setRegOf, Chip.reg_setReg_addr c hlo, Chip.reg_setReg_addr c hmid]

/-- Settles O12: a capture takes every base at once, and a load and an adjustment wait at their channel. -/
theorem timeBases : Obligations.TimeBases := by
  unfold Obligations.TimeBases
  refine ⟨?capture, ?load, ?adjust⟩
  case capture =>
    intro s m hopen
    refine ⟨_, exec_tbCapture hopen, rfl, fun k hk => ?_, ?_, ?_, ?_⟩
    · simp [Chip.tbCapture_tbChan, Chip.tbCaptured_tbChan _ hk]
    · simp [Chip.tbCapture_eq, Chip.now]
    · simp [Chip.tbCapture_eq]
    · simp [Chip.tbCapture_eq]
  case load =>
    intro s m w hopen _
    refine ⟨_, exec_tbLoad hopen w, rfl, ?_, ?_, fun k hk => ?_, rfl⟩
    · simp only [Chip.tbLoad, Chip.tbChan_modTb]
      rw [Chip.banked96_setRegOf _ (by decide) (by decide), Chip.banked96]
      simp only [Chip.newCycle_regOf]
    · simp only [Chip.tbLoad, Chip.tbChan_modTb]
      rfl
    · exact Chip.tbChan_modTb_ne _ hk _
  case adjust =>
    intro s m w hopen _
    refine ⟨_, exec_tbAdjust hopen w, rfl, ?_, ?_, fun k hk => ?_, rfl⟩
    · simp only [Chip.tbAdjust, Chip.tbChan_modTb]
      rw [Chip.banked96_setRegOf _ (by decide) (by decide), Chip.banked96]
      simp only [Chip.newCycle_regOf]
      rfl
    · simp only [Chip.tbAdjust, Chip.tbChan_modTb]
      rfl
    · exact Chip.tbChan_modTb_ne _ hk _

end Sys2Proof.Machine
end

section
/-!
Where a command completes (log entry 10): every command runs in one of the wrappers, and each wrapper completes
exactly where the part has the unit, and holds the main domain in main reset.
-/

namespace Sys2Proof.Machine

/-- The outcome of a command at a state: a next state with the queue as it was where the part has the unit, the
fault notPresent elsewhere, and nothing but a new LCLK cycle where main reset holds the command. -/
structure Completes (s : State) (has aon : Bool) (o : Host.Outcome State Fault Refusal) : Prop where
  next : has = true → ∃ t, o = .next t ∧ t.pending = s.pending
  absent : has = false → o = .fault .notPresent
  held : has = true → aon = false → s.chip.inReset = true → o = .next { s with chip := s.chip.fresh }

variable (s : State) (f : Chip → Chip)

/-- A command that main reset does not hold answers a next state. -/
theorem completes_apply {s t : State} {o : Host.Outcome State Fault Refusal} (h : o = .next t)
    (hqueue : t.pending = s.pending) : Completes s true true o :=
  ⟨fun _ => ⟨t, h, hqueue⟩, Bool.noConfusion, fun _ => Bool.noConfusion⟩

theorem completes_run : Completes s true false (s.run f) := by
  refine ⟨fun _ => ⟨_, rfl, rfl⟩, Bool.noConfusion, fun _ _ hrst => ?_⟩
  simp [State.run, State.apply, hrst]

/-- A command of a unit that is tested for runs, or stops as notPresent. -/
theorem Completes.ite {has aon b : Bool} {o : Host.Outcome State Fault Refusal} (h : Completes s has aon o) :
    Completes s (b && has) aon (if b = true then o else .fault .notPresent) := by
  cases b with
  | true => simpa using h
  | false => exact ⟨Bool.noConfusion, fun _ => rfl, Bool.noConfusion⟩

theorem completes_runHub : Completes s s.chip.id.hub false (s.runHub f) := by
  simpa [State.runHub] using (completes_run s f).ite s (b := s.chip.id.hub)

theorem completes_runDie : Completes s (!s.chip.id.hub) false (s.runDie f) := by
  have h := (completes_run s f).ite s (b := !s.chip.id.hub)
  unfold State.runDie
  cases hhub : s.chip.id.hub <;> simpa [hhub] using h

theorem completes_runPort (p : Port) : Completes s (decide (p.val < s.chip.nports)) false (s.runPort p f) := by
  simpa [State.runPort] using (completes_run s f).ite s (b := decide (p.val < s.chip.nports))

theorem completes_runDiePort (p : Port) :
    Completes s (!s.chip.id.hub && decide (p.val < 2)) false (s.runDiePort p f) := by
  simpa [State.runDiePort] using (completes_run s f).ite s (b := !s.chip.id.hub && decide (p.val < 2))

theorem completes_runTap (t : Nat) :
    Completes s (!s.chip.id.hub && decide (t < s.chip.id.ntaps)) false (s.runTap t f) := by
  simpa [State.runTap] using (completes_run s f).ite s (b := !s.chip.id.hub && decide (t < s.chip.id.ntaps))

theorem completes_runEng (e : Engine) :
    Completes s (!s.chip.id.hub && decide (e.val / 4 < s.chip.id.ntaps)) false (s.runEng e f) :=
  completes_runTap s f _

theorem completes_runHubPort (p : Port) :
    Completes s (s.chip.id.hub && decide (p.val < s.chip.nports)) false
      (if s.chip.id.hub then s.runPort p f else .fault .notPresent) :=
  (completes_runPort s f p).ite s

theorem completes_runMaster (m : Master) : Completes s (!(m.isRemote && s.chip.id.hub)) false (s.runMaster m f) := by
  have h := (completes_run s fun c => if m == .host && c.pw.hostLow then c else f c).ite s
    (b := !(m.isRemote && s.chip.id.hub))
  unfold State.runMaster
  cases hremote : m.isRemote && s.chip.id.hub <;> simpa [hremote] using h

/-- Every command completes exactly where the part has what it names. -/
theorem exec_completes (i : Instr) (s : State) : Completes s (s.chip.fits i) (aonCommand i) (exec i s) := by
  cases i
  case anchorBoundary | holdoverTimerExpiry | expiryClear | recordWrite | railGood | railFail | tclkRail |
    tempSample | mainReset | mainResetRelease | hostReset | hostResetRelease => exact completes_apply rfl rfl
  case softResetHoldEnd | startSlow | offsetWindowEnd | hordy | freqLock | flockLost | buildOutDecay |
    todSentence | txSof | rxSof | swevt | pulseEdge | short | shortRetry | openLoad | uartInv | heldSend |
    levelSat | watchdogExpiry | sramPar | nvmProt | imageLoad | imageVerified | stagingEraseDone | swreqTmo |
    trialTimeout | mwErr | snapshotDue | stagingProgram | debugReset =>
    simp only [exec, execSoftResetHoldEnd, execStartSlow, execOffsetWindowEnd, execHordy, execFreqLock,
      execFlockLost, execBuildOutDecay, execTodSentence, execTxSof, execRxSof, execSwevt, execPulseEdge,
      execShort, execShortRetry, execOpenLoad, execUartInv, execHeldSend, execLevelSat, execWatchdogExpiry,
      execSramPar, execNvmProt, execImageLoad, execImageVerified, execStagingEraseDone, execSwreqTmo,
      execTrialTimeout, execMwErr, execSnapshotDue, execStagingProgram, execDebugReset]
    exact completes_run _ _
  case registerWrite | pageSoftReset | chselWrite | lockSet | lockClear | rateStage | stepArm | timeRead |
    tbCapture | tbLoad | tbAdjust | cal | pmaLatWrite | forceDown | portDisable | claim | yield | revertNow |
    rraGo | rrspPop | inqPop | mlqPop | svSwitch | forceAcq | relearn | asymOk | asymWrite | rfRcfgWrite |
    rfForceWrite | chainCal | xcal | txqPop | swqPop | pulseArm | pulseDisarm | threadStart | threadHalt |
    threadResume | threadCancel | mailboxCommit | sqmCommit | sqmRead | ssig | scmdSetevent | rstnext |
    sgScfgWrite | sgSelWrite | grGkeyWrite | findGid | sealCmd | dissolve | admitCmd | expel | gdLimitWrite |
    barrierOverride | watchdogKick | stagingErase | stagingWrite | verify | hold | fwRelease | fwSwitch |
    handover | commit | cpTake | cpRelease | capsuleRead | ereset | unfence | solo | soloAbort | restore |
    uploadPop | severityQuery | counterBind | clr | clrall | freeze | snapNow | snapArm | snapCancel | pinBind |
    pinClr | hsConfig | hsClear | hsRestart | lanego => exact completes_runMaster _ _ _
  case rootTimerExpiry | summarySend | rraTmo | refSignalLoss | refQual | refDisq | wtrExpiry | refEdge |
    ptpMessage | hoTrace | openIn | ppsInv | hubCensusSend | evupReceive | ageingReady => exact completes_runHub _ _
  case planeRevert | chainCalDone | armArrive | tapMoment | plumbSend | plumbReceive | plumbTimeout | threadAged
    | nop | halt | jmp | loop | brf | waitt | waittWake | setb | fire | fireat | fireRetire | arm | contrib |
    sync | sig | sigEvt | sigr | waits | fence | fenceDone | fenceStall | snap | snapAt | mark | badOp | parity
    | dieArrival | signal | setevent | wait | coreSigr | cancel | grant | stagingQuery | fcAnswer | fctrTmo |
    fcUpdate | remoteSignalExecute | gateStall | deadlockSample | qprobeSend | overrun | waitTmo | sqWdog |
    capturePauseEnd | capsuleComplete | capsuleMirrored | soloFire | soloTmo => exact completes_runDie _ _
  case loopbackCheckDone | portStart | pmaReady | pmaReadyLoss | codewordReceive | codewordLock | lockLoss |
    cellSlot | nakReceive | replayTimeout | tickSend | tickReceive | preqSend | preqReceive | prspReceive |
    probeAbandon | mkrTimeout | identSend | identReceive | identAckReceive | laneReset | traceReceive |
    reflectReceive | summaryReceive | mlossReceive | rreqReceive | rrspReceive | inoteReceive | arriveReceive |
    qprobeReceive | qprobeVerdict | sealReceive | dissolveReceive | admitReceive | expelReceive | censusReceive
    | censusDownReceive | freqOk => exact completes_runPort _ _ _
  case rreqExecute | releaseDeliver | rsigReceive | pendingEntry => exact completes_runDiePort _ _ _
  case driftCheck | fireEdge | regionPeriodEnd | xcStrobe | xcRelease | xcalDone | stopreq | regionRun |
    opcalDone | rgnRack | rgnResetTimeout => exact completes_runTap _ _ _
  case heartbeat | engineDone | engStart | engRack | engStatus | hbTmo | estatTmo | engResetTimeout => exact completes_runEng _ _ _
  case releaseReceive | rsigForward => exact completes_runHubPort _ _ _
  case quarantineEnd g =>
    simpa [exec, execQuarantineEnd, Chip.fits, aonCommand] using (completes_run s _).ite s (b := decide (g.val < s.chip.ngroups))

/-- Settles O27: the three parts of what an outcome is. -/
theorem whereCommandsComplete : Obligations.WhereCommandsComplete := by
  unfold Obligations.WhereCommandsComplete
  exact ⟨fun s i => (exec_completes i s).next, fun s i => (exec_completes i s).absent,
    fun s i => (exec_completes i s).held⟩

/-- Settles O1: by the definition of a step. -/
theorem queueStep : Obligations.QueueStep := by
  unfold Obligations.QueueStep
  intro s i rest hqueue
  rw [step, hqueue]

/-- Settles O26: reset writes every field, and stores no register. -/
theorem resetState : Obligations.ResetState := by
  unfold Obligations.ResetState
  refine ⟨rfl, ?kept, rfl, rfl, rfl, rfl, rfl, rfl, rfl, rfl, rfl, fun _ _ _ _ => rfl⟩
  case kept => exact ⟨by decide, by decide, by decide, fun r hr => nomatch hr⟩

end Sys2Proof.Machine
end

section
/-!
O7: register accesses. The clause on reading an RC register says which stored registers stand with the name of the
element bound anew, so that it speaks of another element than the one that is read.
-/

namespace Sys2Proof.Machine

/-- A die whose crossing 1 of tap 0 has slipped five writes, with a remote request for that count at port 0. -/
def slipCountAsked : State :=
  { chip := ({ Chip.reset with regs := [(Reg.RT_XSLIP.key 0 1 0, 5)] } : Chip).modPort 0 fun x =>
      { x with mode := .up, q := { x.q with rxM := [mkCell clsM 0x40 0 [0x10000001, 0x0C4B0, 0, 0]] } },
    pending := [] }

/-- The read clears the count. -/
theorem read_after_rreqExecute_slipCountAsked :
    readAfter (.rreqExecute 0) slipCountAsked (fun t => t.chip.reg Reg.RT_XSLIP 0 1 0) = some 0 := by
  decide

/-- Refutes O7: in the clause on RC registers every register stands whose key is not that of the element which the
register's own index counts, where the element read is meant. RT_XSLIP of crossing 1 is read and cleared, and is not
the element with number 0. -/
theorem not_registerAccess : ¬ Obligations.RegisterAccess := by
  unfold Obligations.RegisterAccess
  rintro ⟨-, -, -, -, -, -, -, -, hread, -⟩
  obtain ⟨t, hexec, -, -, -, -, hkept⟩ := hread slipCountAsked 0 (mkCell clsM 0x40 0 [0x10000001, 0x0C4B0, 0, 0])
    Reg.RT_XSLIP 1 (by decide) (by decide) (by decide) (by decide) (by decide) (by decide) (by decide) (by decide)
    (by decide) (by decide) (by decide)
  have hfive := hkept Reg.RT_XSLIP 0 1 0 (by decide)
  have hzero := read_after_rreqExecute_slipCountAsked
  rw [readAfter_eq hexec, hfive] at hzero
  revert hzero
  decide

end Sys2Proof.Machine
end

section
/-!
O23: the host reset. Its clause on the release speaks of every state, also of one whose table of taps lists a tap
twice.
-/

namespace Sys2Proof.Machine

/-- A die held by HOST_RST_N whose table lists tap 0 twice, first as at reset and then running. -/
def tapListedTwice : State :=
  { chip := { Chip.reset with
      pw := { Chip.reset.pw with hostLow := true }
      rt := { Chip.reset.rt with
        engs := [(0, .reset)], taps := [(0, .reset), (0, { TapState.reset with running := true })] } }
    pending := [] }

/-- The release takes an entry that is at reset out of the table, and the second entry of the tap is then found. -/
theorem read_after_hostResetRelease_tapListedTwice :
    readAfter .hostResetRelease tapListedTwice (fun t => (t.chip.tap 0).running) = some true := by
  decide

/-- Refutes O23: a release leaves `running` of every tap only where no tap is listed twice. -/
theorem not_hostReset : ¬ Obligations.HostReset := by
  unfold Obligations.HostReset
  rintro ⟨-, -, -, hrelease, -⟩
  obtain ⟨t, hexec, -, -, -, -, -, hrunning⟩ := hrelease tapListedTwice 0 (by decide) (by decide) (by decide) (by decide)
  have htrue := read_after_hostResetRelease_tapListedTwice
  rw [readAfter_eq hexec, hrunning 0] at htrue
  revert htrue
  decide

end Sys2Proof.Machine
end

section
/-!
O31: a received codeword. Its clause on a port that seeks lock speaks of the header as it was sent, where a codeword
beyond repair is judged by the header that arrives.
-/

namespace Sys2Proof.Machine

/-- A codeword with a good header of which the line has changed sixteen symbols, the first of the header among them. -/
def headerSpoiled : Codeword :=
  { header := 0xD3400, cells := [], errors := (List.range 16).map fun i => (Fin.ofNat 544 i, 1), phase := 0 }

/-- A die after reset whose port 0 seeks lock. -/
def lockSought : State :=
  { chip := Chip.reset.modPort 0 fun x => { x with mode := .locking }, pending := [] }

set_option maxRecDepth 20000 in
/-- The decoder corrects fifteen symbols and no more, so the header arrives without its SYNC, and the receiver has seen no
good codeword. -/
theorem read_after_codewordReceive_headerSpoiled :
    readAfter (.codewordReceive 0 headerSpoiled) lockSought (fun t => (t.chip.lane 0).code.good) = some 0 := by
  decide

/-- Refutes O31: in LOCKING the search for lock looks at the header that arrives, which in a codeword that the decoder
cannot correct is not the header sent. -/
theorem not_codewordReceive : ¬ Obligations.CodewordReceive := by
  unfold Obligations.CodewordReceive
  rintro ⟨hseek, -⟩
  obtain ⟨t, hexec, -, hlane, -⟩ := hseek lockSought 0 headerSpoiled (by decide) (by decide) (by decide)
  have hzero := read_after_codewordReceive_headerSpoiled
  rw [readAfter_eq hexec, show t.chip.lane 0 = _ from hlane] at hzero
  revert hzero
  decide

end Sys2Proof.Machine
end

section
/-!
O34: TREE cells. Its clause on a die that takes a REFLECT speaks of every state, also of one whose servo names a
channel that is neither of the two.
-/

namespace Sys2Proof.Machine

/-- A REFLECT of a crown with address 0x41. -/
def reflectOf41 : Cell := mkCell clsM 0x45 0 [0x02580001, 0x41, 0x01600000, 9, 0]

/-- A die whose servo names channel 5, with a REFLECT at the head of port 1. -/
def reflectAtChannel5 : State :=
  { chip := ({ Chip.reset with sv := { Chip.reset.sv with chan := 5 } } : Chip).modPort 1 fun x =>
      { x with mode := .up, q := { x.q with rxM := [reflectOf41] } }
    pending := [] }

/-- The die looks for the REFLECTs kept of channel 5 and of the channel across from it, and finds none. -/
theorem read_after_reflectReceive_reflectAtChannel5 :
    readAfter (.reflectReceive 1) reflectAtChannel5 (fun t => t.chip.tr.mode) = some .discover := by
  decide

/-- Refutes O34: a die joins by a REFLECT where its servo's channel is one of the two lanes, which the clause does not
ask. -/
theorem not_reflectTraceLoss : ¬ Obligations.ReflectTraceLoss := by
  unfold Obligations.ReflectTraceLoss
  rintro ⟨hdie, -⟩
  obtain ⟨t, hexec, -, -, -, hmode, -⟩ := hdie reflectAtChannel5 1 reflectOf41 (by decide) (by decide) (by decide)
    (by decide) (by decide) (by decide) (by decide) (by decide)
  have hdiscover := read_after_reflectReceive_reflectAtChannel5
  rw [readAfter_eq hexec, hmode] at hdiscover
  revert hdiscover
  decide

end Sys2Proof.Machine
end

section
/-!
O38: transitions of the servo. Its clause on FORCE_ACQ speaks of every state, also of one whose servo names a channel
that is neither of the two.
-/

namespace Sys2Proof.Machine

/-- A die whose servo names channel 5, whose lane is qualified and has counted its 64 probes. -/
def lockedOnChannel5 : State :=
  { chip := ({ Chip.reset with
      tk := { Chip.reset.tk with valid := true }
      sv := { Chip.reset.sv with
        mode := .locked, chan := 5
        ch1 := { Chip.reset.sv.ch1 with offValid := true, offKnown := true, pvalid := true, psv := 2 } } } : Chip).modPort 5
      fun x => { x with
        mode := .up, pmaLatOk := true, freqOk := true, tqual := true, qual := { x.qual with ok := true, qcount := 64 } }
    pending := [] }

/-- Requalification clears the probe counts of channels 0 and 1, so the servo locks again at once. -/
theorem read_after_forceAcq_lockedOnChannel5 :
    readAfter (.forceAcq .host) lockedOnChannel5 (fun t => t.chip.sv.mode) = some .locked := by
  decide

/-- Refutes O38: a forced requalification holds the servo in ACQUIRE where its channel is 0 or 1, which the clause does
not ask. -/
theorem not_servoTransitions : ¬ Obligations.ServoTransitions := by
  unfold Obligations.ServoTransitions
  rintro ⟨hforce, -⟩
  obtain ⟨t, hexec, -, hmode, -⟩ := hforce lockedOnChannel5 .host (by decide) (by decide) (by decide)
  have hlocked := read_after_forceAcq_lockedOnChannel5
  rw [readAfter_eq hexec, hmode] at hlocked
  revert hlocked
  decide

end Sys2Proof.Machine
end

section
/-!
O29: what takes a lane down, and the declared latencies. Its clause on a latency speaks of every state, also of one in
which bits of the register are set that no write reaches.
-/

namespace Sys2Proof.Machine

/-- A die whose stored LN_PMA_LAT_TX has a bit above the 24 that it takes. -/
def strayLatencyBit : State :=
  { chip := { Chip.reset with regs := [(Reg.LN_PMA_LAT_TX.key 0 0 0, 0x80000000)] }, pending := [] }

/-- A write leaves the bit as it was. -/
theorem read_after_pmaLatWrite_strayLatencyBit :
    readAfter (.pmaLatWrite .host .tx 0) strayLatencyBit (fun t => t.chip.reg Reg.LN_PMA_LAT_TX 0) = some 0x80000000 := by
  decide

/-- Refutes O29: a latency register holds the 24 bits written and nothing else only where its other bits were 0 before. -/
theorem not_laneDown : ¬ Obligations.LaneDown := by
  unfold Obligations.LaneDown
  rintro ⟨-, -, -, -, -, -, hlatency, -⟩
  obtain ⟨t, hexec, -, -, -, hreg⟩ := hlatency strayLatencyBit .host .tx 0 (by decide) (by decide)
  have hstray := read_after_pmaLatWrite_strayLatencyBit
  have hreg : t.chip.reg Reg.LN_PMA_LAT_TX 0 = 0 := hreg
  rw [readAfter_eq hexec, hreg] at hstray
  revert hstray
  decide

end Sys2Proof.Machine
end

section
/-!
O55: arrivals and releases. A held arrival that leaves is a sample of the arrival spread, and a histogram unit with no
room for it counts the loss in a stored register.
-/

namespace Sys2Proof.Machine

/-- A hub that holds an arrival which can leave, with a histogram unit that counts arrival spreads and has four samples
waiting. -/
def arrivalHeldUnitFull : State :=
  { chip := ({ Chip.reset with
      id := { Chip.reset.id with hub := true }
      regs := [(Reg.HS_UCFG.key 0 0 0, 0x8001FFFF)]
      hs := [(0, { HsUnit.reset with queue := [0, 0, 0, 0] })]
      gr := { Chip.reset.gr with
        held := [(5, .arrival 0 [mkCell clsB 0x20 5 []])], entries := [(5, { GrEntry.reset with state := .active })] } }
        : Chip).modPort 64 fun x => { x with mode := .up, link := { x.link with credB := 3 } }
    pending := [] }

set_option maxRecDepth 20000 in
/-- The sample is dropped, and counted in HS_UDROP. -/
theorem read_after_heldSend_arrivalHeldUnitFull :
    readAfter .heldSend arrivalHeldUnitFull (fun t => SMap.find t.chip.regs (Reg.HS_UDROP.key 0 0 0) 0) = some 1 := by
  decide

/-- Refutes O55: a held arrival that moves leaves the stored registers where no histogram unit drops its sample. -/
theorem not_mortarBarriers : ¬ Obligations.MortarBarriers := by
  unfold Obligations.MortarBarriers
  rintro ⟨-, -, -, -, -, -, -, -, -, hheld, -⟩
  obtain ⟨t, hexec, -, -, -, hregs⟩ := hheld arrivalHeldUnitFull 5 0 [mkCell clsB 0x20 5 []] (by decide) (by decide)
  have hone := read_after_heldSend_arrivalHeldUnitFull
  rw [readAfter_eq hexec, hregs] at hone
  revert hone
  decide

end Sys2Proof.Machine
end

section
/-!
O41: chain calibration. Its start begins anew: taps that a stop has taken out of an earlier one are in it again.
-/

namespace Sys2Proof.Machine

/-- A die with a calibration that a stop has abandoned at tap 3. -/
def calibrationAbandoned : State :=
  { chip := { Chip.reset with rt := { Chip.reset.rt with calLeft := [3] } }, pending := [] }

/-- A new calibration takes every tap. -/
theorem read_after_chainCal_calibrationAbandoned :
    readAfter (.chainCal .host) calibrationAbandoned (fun t => t.chip.rt.calLeft) = some [] := by
  decide

/-- Refutes O41: the start of a chain calibration changes, beside `calBusy`, which taps it takes. -/
theorem not_tapCalibration : ¬ Obligations.TapCalibration := by
  unfold Obligations.TapCalibration
  rintro ⟨hstart, -⟩
  obtain ⟨t, hexec, -, hrt, -⟩ := hstart calibrationAbandoned .host (by decide)
  have hnone := read_after_chainCal_calibrationAbandoned
  rw [readAfter_eq hexec, hrt] at hnone
  revert hnone
  decide

end Sys2Proof.Machine
end

section
/-!
O43: periods of regions. An edge of a region goes through the table of lines, and takes out an entry that is at reset;
the clause speaks also of a table that lists a line twice.
-/

namespace Sys2Proof.Machine

/-- An arm that has yet to reach its tap moment. -/
def someArm : LineArm :=
  { tf := 0, thread := 0, course := 0, grp := 0, ctx := 0, moment := none, calOk := false, withheld := false
    inStop := false, solo := false }

/-- A die with a running region whose table lists line 0 twice, first as at reset and then armed. -/
def lineListedTwice : State :=
  { chip := { Chip.reset with
      rt := { Chip.reset.rt with
        taps := [(0, { TapState.reset with running := true, rper := 64 })]
        lines := [(0, .reset), (0, { LineState.reset with armed := some someArm })] } }
    pending := [] }

set_option maxRecDepth 20000 in
/-- The edge takes the first entry of the line out of the table, and the second is then found. -/
theorem read_after_regionPeriodEnd_lineListedTwice :
    readAfter (.regionPeriodEnd ⟨0, 0⟩ 100) lineListedTwice (fun t => (t.chip.line 0).armed) = some (some someArm) := by
  decide

/-- Refutes O43: the end of a period leaves what is armed only where no line is listed twice. -/
theorem not_regionPeriodsAndStops : ¬ Obligations.RegionPeriodsAndStops := by
  unfold Obligations.RegionPeriodsAndStops
  rintro ⟨hperiod, -⟩
  obtain ⟨t, hexec, -, -, -, -, harmed⟩ := hperiod lineListedTwice 0 0 100 (by decide) (by decide) (by decide) (by decide)
    (by decide) (by decide) (by decide) (by decide)
  have hsome := read_after_regionPeriodEnd_lineListedTwice
  rw [readAfter_eq hexec, harmed 0] at hsome
  revert hsome
  decide

end Sys2Proof.Machine
end

section
/-!
O54: the thread controls. RESUME finds that a withheld line stands on a tap that has died since: the line is lost (R160),
and with it it leaves the lines the thread waits for. The clause leaves the thread as it was but for its mode.
-/

namespace Sys2Proof.Machine

/-- A die without a live tap, on which thread 0 holds at its FIRE with line 0 withheld. -/
def heldOnDeadTap : State :=
  { chip := { Chip.reset with
      sq := { Chip.reset.sq with threads := [(0, { ThreadState.reset with mode := .authHold, lines := [0] })] }
      rt := { Chip.reset.rt with
        lines := [(0, { LineState.reset with armed := some { someArm with withheld := true } })] } }
    pending := [] }

set_option maxRecDepth 20000 in
/-- RESUME takes the lost line out of the lines of the thread. -/
theorem read_after_threadResume_heldOnDeadTap :
    readAfter (.threadResume .host) heldOnDeadTap (fun t => (t.chip.th 0).lines) = some [] := by
  decide

/-- Refutes O54: RESUME of a thread with a withheld line on a dead tap changes the lines of the thread. -/
theorem not_sequencerControls : ¬ Obligations.SequencerControls := by
  unfold Obligations.SequencerControls
  rintro ⟨-, -, -, hresume, -⟩
  obtain ⟨t, hexec, -, hth⟩ := hresume heldOnDeadTap .host (by decide) (by decide)
  have hlines := read_after_threadResume_heldOnDeadTap
  have hchan : heldOnDeadTap.chip.chanOf .host 0x10 = 0 := by decide
  rw [hchan] at hth
  rw [readAfter_eq hexec, hth] at hlines
  revert hlines
  decide

end Sys2Proof.Machine
end

section
/-!
O49: NOP, HALT, JMP, LOOP and BRF, the word that is no instruction, and aging (R199, R201, R215).
-/

namespace Sys2Proof.Machine

variable {s : State} {i : Thread}

/-! ### Threads, and the part at the issue -/

theorem State.atIssue_th_ne {j : Nat} (h : j ≠ i.val) : (s.atIssue i).th j = s.chip.th j := by
  rw [State.atIssue, Chip.issued, Chip.th_eq_of_sq (Chip.count_sq _ _ _ _), Chip.th_modTh_ne _ h]
  rfl

@[simp] theorem State.atIssue_gr (s : State) (i : Thread) : (s.atIssue i).gr = s.chip.gr := Chip.count_gr _ _ _ _
@[simp] theorem State.atIssue_hg (s : State) (i : Thread) : (s.atIssue i).hg = s.chip.hg := Chip.count_hg _ _ _ _

@[simp] theorem Chip.nextPc_th (c : Chip) (t : Nat) : (c.nextPc t).th t = { c.th t with pc := pcNext (c.th t).pc } :=
  Chip.th_modTh _ _ _

theorem Chip.nextPc_th_ne (c : Chip) {t j : Nat} (h : j ≠ t) : (c.nextPc t).th j = c.th j := Chip.th_modTh_ne _ h _

@[simp] theorem Chip.mbox_setMbox (c : Chip) (t m v : Nat) : (c.setMbox t m v).mbox t m = v % 2 ^ 64 := by
  simp [Chip.mbox, Chip.setMbox]

theorem Chip.mbox_setMbox_ne (c : Chip) (t v : Nat) {m j : Nat} (h : j ≠ m) :
    (c.setMbox t m v).mbox t j = c.mbox t j := by
  simp only [Chip.mbox, Chip.setMbox, Chip.th_modTh]
  exact SMap.find_put_ne h _ _ _

/-! ### The instructions -/

theorem exec_nop (h : s.Issues i 0x00) : exec (.nop i) s = .next { s with chip := (s.atIssue i).nextPc i.val } :=
  h.runDie_issue _

/-- HALT of a thread that runs for itself stops it after the word. -/
theorem exec_halt (h : s.Issues i 0x01) (hsolo : (s.chip.th i.val).solo = false) :
    exec (.halt i) s = .next { s with
      chip := (s.atIssue i).modTh i.val fun x => { x with mode := .halted, pc := pcNext x.pc } } := by
  refine (h.runDie_issue _).trans ?_
  simp [hsolo]

/-- HALT ends the prologue of a solo replay (R334). -/
theorem exec_halt_solo (h : s.Issues i 0x01) (hsolo : (s.chip.th i.val).solo = true) :
    exec (.halt i) s = .next { s with
      chip := { (s.atIssue i).modTh i.val fun x => { x with mode := .solo } with
        hg := { s.chip.hg with solo := .fire } } } := by
  refine (h.runDie_issue _).trans ?_
  simp only [State.atIssue_th, ThreadState.hasIssued_solo, hsolo, if_true]
  rw [show ((s.atIssue i).modTh i.val fun x => { x with mode := .solo }).hg = s.chip.hg from s.atIssue_hg i]

theorem exec_jmp (h : s.Issues i 0x08) :
    exec (.jmp i) s = .next { s with
      chip := (s.atIssue i).modTh i.val fun x => { x with pc := Iw.b (s.chip.fetch i.val) } } :=
  h.runDie_issue _

theorem exec_loop_again (h : s.Issues i 0x09) (hv : s.chip.mbox i.val (Iw.a (s.chip.fetch i.val)) ≠ 0) :
    exec (.loop i) s = .next { s with
      chip := ((s.atIssue i).setMbox i.val (Iw.a (s.chip.fetch i.val))
        (s.chip.mbox i.val (Iw.a (s.chip.fetch i.val)) - 1)).modTh i.val fun x =>
          { x with pc := Iw.b (s.chip.fetch i.val) } } := by
  refine (h.runDie_issue _).trans ?_
  simp [hv]

theorem exec_loop_done (h : s.Issues i 0x09) (hv : s.chip.mbox i.val (Iw.a (s.chip.fetch i.val)) = 0) :
    exec (.loop i) s = .next { s with chip := (s.atIssue i).nextPc i.val } := by
  refine (h.runDie_issue _).trans ?_
  simp [hv]

/-- An issue leaves the flags that BRF asks of. -/
theorem ThreadState.hasIssued_brFlag (x : ThreadState) (frc n : Nat) : (x.hasIssued frc).brFlag n = x.brFlag n := rfl

/-- BRF asks its flag, where it names one (R215). -/
theorem exec_brf (h : s.Issues i 0x0A) (hflag : Iw.a (s.chip.fetch i.val) ≤ 18) :
    exec (.brf i) s = .next { s with
      chip := (s.atIssue i).modTh i.val fun x =>
        { x with pc :=
            if (s.chip.th i.val).brFlag (Iw.a (s.chip.fetch i.val)) == (Iw.fl (s.chip.fetch i.val)).testBit 0 then
              Iw.b (s.chip.fetch i.val)
            else pcNext x.pc } } := by
  refine (h.runDie_issue _).trans ?_
  simp only [Nat.not_lt.2 hflag, if_false, State.atIssue_th, ThreadState.hasIssued_brFlag, Chip.nextPc]
  split <;> rfl

theorem exec_brf_bad (h : s.Issues i 0x0A) (hflag : 18 < Iw.a (s.chip.fetch i.val)) :
    exec (.brf i) s = .next { s with chip := (s.atIssue i).badOpnd i.val } := by
  refine (h.runDie_issue _).trans ?_
  simp [hflag]

/-- A word that is no instruction takes the slot and stops the thread (R201). -/
theorem exec_badOp (hdie : s.chip.id.hub = false) (hrst : s.chip.inReset = false) (hpaused : s.chip.paused = false)
    (hpick : s.chip.pick = some i.val) (hgood : Iw.good (s.chip.fetch i.val) = false) :
    exec (.badOp i) s = .next { s with chip := (s.atIssue i).thFault i.val Event.SQ_BAD_OP 1 } := by
  have hpaused' : s.chip.newCycle.paused = false := hpaused
  have hpick' : s.chip.newCycle.pick = some i.val := hpick
  have hgood' : Iw.good (s.chip.newCycle.fetch i.val) = false := hgood
  refine (State.runDie_eq hdie hrst _).trans ?_
  simp only [hpaused', hpick', hgood', bne_self_eq_false, Bool.or_self, Bool.false_eq_true, if_false]
  rfl

/-- A thread that has waited in RUN for a further AGE rises one level (R199). -/
theorem exec_threadAged (hdie : s.chip.id.hub = false) (hrst : s.chip.inReset = false)
    (hmode : (s.chip.th i.val).mode = .run) (hprio : s.chip.effPrio i.val < 3)
    (hage : ((s.chip.th i.val).aged + 1) * s.chip.sqAge ≤ s.chip.usSinceFrc (s.chip.th i.val).runAt) :
    exec (.threadAged i) s = .next { s with
      chip := (s.chip.newCycle.modTh i.val fun x => { x with aged := x.aged + 1 }).note Event.SQ_AGED (some i.val) } := by
  have hmode' : (s.chip.newCycle.th i.val).mode = .run := hmode
  have hprio' : s.chip.newCycle.effPrio i.val < 3 := hprio
  have hage' : ((s.chip.newCycle.th i.val).aged + 1) * s.chip.newCycle.sqAge
      ≤ s.chip.newCycle.usSinceFrc (s.chip.newCycle.th i.val).runAt := hage
  refine (State.runDie_eq hdie hrst _).trans ?_
  simp only [hmode', hprio', hage', beq_self_eq_true, decide_true, Bool.and_self, if_true]

/-- Settles O49: each clause is one instruction issued from its premises, and what the thread then is. -/
theorem sequencerControlFlow : Obligations.SequencerControlFlow := by
  unfold Obligations.SequencerControlFlow
  refine ⟨?nop, ?halt, ?solo, ?jmp, ?loop, ?loopDone, ?brf, ?brfBad, ?badOp, ?aged⟩
  case nop =>
    intro s i hdie hrst hpaused hpick hop hgood
    refine ⟨_, exec_nop ⟨hdie, hrst, hpaused, hpick, hop, hgood⟩, rfl, by simp, fun j hj => ?_, ?_, ?_⟩
    · exact (Chip.nextPc_th_ne _ hj).trans (State.atIssue_th_ne hj)
    · exact s.atIssue_regs i
    · exact s.atIssue_gr i
  case halt =>
    intro s i hdie hrst hpaused hpick hop hgood hsolo
    refine ⟨_, exec_halt ⟨hdie, hrst, hpaused, hpick, hop, hgood⟩ hsolo, rfl, by simp, ?_⟩
    exact s.atIssue_hg i
  case solo =>
    intro s i hdie hrst hpaused hpick hop hgood hsolo
    refine ⟨_, exec_halt_solo ⟨hdie, hrst, hpaused, hpick, hop, hgood⟩ hsolo, rfl, ?_, rfl⟩
    exact congrArg ThreadState.mode (Chip.th_modTh (s.atIssue i) i.val fun x => { x with mode := .solo })
  case jmp =>
    intro s i hdie hrst hpaused hpick hop hgood
    refine ⟨_, exec_jmp ⟨hdie, hrst, hpaused, hpick, hop, hgood⟩, rfl, by simp, fun j hj => ?_⟩
    exact (Chip.th_modTh_ne _ hj _).trans (State.atIssue_th_ne hj)
  case loop =>
    intro s i hdie hrst hpaused hpick hop hgood hv
    refine ⟨_, exec_loop_again ⟨hdie, hrst, hpaused, hpick, hop, hgood⟩ hv, rfl, ?_, by simp, fun j hj => ?_⟩
    · rw [Chip.mbox, Chip.th_modTh]
      exact Chip.mbox_setMbox _ _ _ _
    · rw [Chip.mbox, Chip.th_modTh]
      exact (Chip.mbox_setMbox_ne _ _ _ hj).trans (s.atIssue_mbox i j)
  case loopDone =>
    intro s i hdie hrst hpaused hpick hop hgood hv
    exact ⟨_, exec_loop_done ⟨hdie, hrst, hpaused, hpick, hop, hgood⟩ hv, rfl, by simp⟩
  case brf =>
    intro s i hdie hrst hpaused hpick hop hgood hflag
    exact ⟨_, exec_brf ⟨hdie, hrst, hpaused, hpick, hop, hgood⟩ hflag, rfl, by simp⟩
  case brfBad =>
    intro s i hdie hrst hpaused hpick hop hgood hflag
    exact ⟨_, exec_brf_bad ⟨hdie, hrst, hpaused, hpick, hop, hgood⟩ hflag, rfl, by simp [Chip.badOpnd]⟩
  case badOp =>
    intro s i hdie hrst hpaused hpick hgood
    exact ⟨_, exec_badOp hdie hrst hpaused hpick hgood, rfl, by simp⟩
  case aged =>
    intro s i hdie hrst hmode hprio hage
    refine ⟨_, exec_threadAged hdie hrst hmode hprio hage, rfl, ?_, ?_⟩
    · exact (Chip.th_eq_of_sq (Chip.note_sq _ _ _) _).trans (Chip.th_modTh _ _ _)
    · show (Chip.note _ _ _).sq.store = _
      rw [Chip.note_sq]
      rfl

end Sys2Proof.Machine
end

section
/-!
O51: FIRE and FIREAT, their retirement, and a fetch with a parity error (R205, R207, R219).
-/

namespace Sys2Proof.Machine

variable {s : State} {i : Thread}

/-! ### The part at the issue -/

@[simp] theorem State.atIssue_store (s : State) (i : Thread) : (s.atIssue i).sq.store = s.chip.sq.store :=
  (congrArg SqState.store (Chip.count_sq _ _ _ _) :)

@[simp] theorem State.atIssue_flights (s : State) (i : Thread) : (s.atIssue i).sq.flights = s.chip.sq.flights :=
  (congrArg SqState.flights (Chip.count_sq _ _ _ _) :)

@[simp] theorem State.atIssue_fences (s : State) (i : Thread) : (s.atIssue i).sq.fences = s.chip.sq.fences :=
  (congrArg SqState.fences (Chip.count_sq _ _ _ _) :)

@[simp] theorem State.atIssue_rt (s : State) (i : Thread) : (s.atIssue i).rt = s.chip.rt := Chip.count_rt _ _ _ _
@[simp] theorem State.atIssue_sg (s : State) (i : Thread) : (s.atIssue i).sg = s.chip.sg := Chip.count_sg _ _ _ _
@[simp] theorem State.atIssue_gt (s : State) (i : Thread) : (s.atIssue i).gt = s.chip.gt := Chip.count_gt _ _ _ _

@[simp] theorem State.atIssue_sqmWord (s : State) (i : Thread) (n : Nat) : (s.atIssue i).sqmWord n = s.chip.sqmWord n := by
  simp [Chip.sqmWord]

@[simp] theorem State.atIssue_setLines (s : State) (i : Thread) (n : Nat) :
    (s.atIssue i).setLines n = s.chip.setLines n := by
  simp [Chip.setLines]

@[simp] theorem State.atIssue_ent (s : State) (i : Thread) (g : Nat) : (s.atIssue i).ent g = s.chip.ent g := by
  simp [Chip.ent]

@[simp] theorem State.atIssue_grpUsable (s : State) (i : Thread) (course : Nat) :
    (s.atIssue i).grpUsable i.val course = s.chip.grpUsable i.val course := by
  simp [Chip.grpUsable]

/-! ### A set is fired -/

/-- The thread that has armed a set waits for its lines, with the time of the fire as its cursor. -/
theorem Chip.armSet_th (c : Chip) (t set tf : Nat) (lines : List Nat) :
    (c.armSet t set tf lines).th t = { c.th t with cursor := tf, lines := lines, set := set, mode := .waitF } :=
  Chip.th_modTh _ _ _

/-- One arm leaves for each line. -/
theorem Chip.armSet_flights (c : Chip) (t set tf : Nat) (lines : List Nat) :
    (c.armSet t set tf lines).sq.flights = c.sq.flights ++ lines.map fun n =>
      { line := n, tf := tf, thread := t, course := (c.th t).course, grp := (c.th t).grp
        ctx := fireCtx (c.th t).course set t, cancelled := false } := rfl

theorem Chip.fireSet_usable {c : Chip} {t set tf : Nat} (hlines : c.setLines set ≠ [])
    (husable : c.grpUsable t (c.th t).course = true) : c.fireSet t set tf = c.armSet t set tf (c.setLines set) := by
  simp [Chip.fireSet, hlines, husable]

theorem Chip.fireSet_unusable {c : Chip} {t set tf : Nat} (hlines : c.setLines set ≠ [])
    (husable : c.grpUsable t (c.th t).course = false) : c.fireSet t set tf = c.noGroup t := by
  simp [Chip.fireSet, hlines, husable]

/-- A thread that stops with a fault leaves the arms under way. -/
theorem Chip.thFault_flights (c : Chip) (t : Nat) (e : Ev) (fcode : Nat) :
    (c.thFault t e fcode).sq.flights = c.sq.flights := by
  simp [Chip.thFault, Chip.thStop, Chip.modTh]

theorem exec_fire (h : s.Issues i 0x18) :
    exec (.fire i) s = .next { s with
      chip := (s.atIssue i).fireSet i.val (Iw.a (s.chip.fetch i.val)) (s.chip.th i.val).cursor } := by
  refine (h.runDie_issue _).trans ?_
  simp

theorem exec_fireat (h : s.Issues i 0x19) :
    exec (.fireat i) s = .next { s with
      chip := (s.atIssue i).fireSet i.val (Iw.a (s.chip.fetch i.val)) (s.chip.opTimeOf i.val (s.chip.fetch i.val)) } := by
  refine (h.runDie_issue _).trans ?_
  simp

/-- A fire of a set with lines, by a thread whose group can be used: what the thread and the arms under way then are. -/
theorem State.atIssue_fires {set tf : Nat} (hlines : s.chip.setLines set ≠ [])
    (husable : s.chip.grpUsable i.val (s.chip.th i.val).course = true) {d : Chip}
    (hd : d = (s.atIssue i).fireSet i.val set tf) :
    (d.th i.val).mode = .waitF ∧ (d.th i.val).lines = s.chip.setLines set ∧ (d.th i.val).cursor = tf
      ∧ (d.th i.val).pc = (s.chip.th i.val).pc
      ∧ d.sq.flights = s.chip.sq.flights ++ (s.chip.setLines set).map (fun n =>
          { line := n, tf := tf, thread := i.val, course := (s.chip.th i.val).course, grp := (s.chip.th i.val).grp
            ctx := fireCtx (s.chip.th i.val).course set i.val, cancelled := false })
      ∧ d.rt = s.chip.rt := by
  rw [Chip.fireSet_usable (by simpa using hlines) (by simpa using husable)] at hd
  subst hd
  refine ⟨?_, ?_, ?_, ?_, ?_, ?_⟩
  · simp [Chip.armSet_th]
  · simp [Chip.armSet_th]
  · simp [Chip.armSet_th]
  · simp [Chip.armSet_th]
  · simp [Chip.armSet_flights]
  · exact s.atIssue_rt i

/-- A fire by a thread whose group cannot be used (R219). -/
theorem State.atIssue_firesNot {set tf : Nat} (hlines : s.chip.setLines set ≠ [])
    (husable : s.chip.grpUsable i.val (s.chip.th i.val).course = false) {d : Chip}
    (hd : d = (s.atIssue i).fireSet i.val set tf) :
    (d.th i.val).mode = .fault ∧ (d.th i.val).fcode = 4 ∧ d.sq.flights = s.chip.sq.flights := by
  rw [Chip.fireSet_unusable (by simpa using hlines) (by simpa using husable)] at hd
  subst hd
  refine ⟨by simp [Chip.noGroup], by simp [Chip.noGroup], ?_⟩
  exact (Chip.thFault_flights _ _ _ _).trans (s.atIssue_flights i)

/-! ### The end of a fire, and parity errors -/

theorem Chip.toRun_flights (c : Chip) (t : Nat) : (c.toRun t).sq.flights = c.sq.flights := rfl

theorem exec_fireRetire (hdie : s.chip.id.hub = false) (hrst : s.chip.inReset = false)
    (hmode : (s.chip.th i.val).mode = .waitF) (hlines : (s.chip.th i.val).lines = []) :
    exec (.fireRetire i) s = .next { s with chip := (s.chip.newCycle.nextPc i.val).toRun i.val } := by
  have hmode' : (s.chip.newCycle.th i.val).mode = .waitF := hmode
  have hlines' : (s.chip.newCycle.th i.val).lines = [] := hlines
  refine (State.runDie_eq hdie hrst _).trans ?_
  simp [hmode', hlines']

/-- The word at the PC is among those a fetch takes. -/
theorem exec_parity {n : BitVec 15} (hdie : s.chip.id.hub = false) (hrst : s.chip.inReset = false)
    (hpaused : s.chip.paused = false) (hpick : s.chip.pick = some i.val) (hn : n.toNat = (s.chip.th i.val).pc) :
    exec (.parity i n) s = .next { s with chip := s.chip.newCycle.parityStop i.val n.toNat } := by
  have hpaused' : s.chip.newCycle.paused = false := hpaused
  have hpick' : s.chip.newCycle.pick = some i.val := hpick
  have hn' : n.toNat = (s.chip.newCycle.th i.val).pc := hn
  refine (State.runDie_eq hdie hrst _).trans ?_
  simp [hpaused', hpick', hn']

theorem Chip.parityStop_th (c : Chip) (t word : Nat) :
    (c.parityStop t word).th t = { c.th t with mode := .fault, fcode := 5 } := by
  simp only [Chip.parityStop, Chip.thStop, Chip.th_modTh, Chip.report_th]
  rfl

theorem Chip.parityStop_perr (c : Chip) (t word : Nat) : (c.parityStop t word).sq.perr = word := by
  simp [Chip.parityStop, Chip.thStop, Chip.modTh]

/-- Settles O51: FIRE and FIREAT are one fire of a set at two times. -/
theorem sequencerTriggers : Obligations.SequencerTriggers := by
  unfold Obligations.SequencerTriggers
  refine ⟨?fire, ?fireNot, ?fireat, ?fireatNot, ?retire, ?parity⟩
  case fire =>
    intro s i hdie hrst hpaused hpick hop hgood hlines husable
    exact State.answers (exec_fire ⟨hdie, hrst, hpaused, hpick, hop, hgood⟩) fun d hd =>
      State.atIssue_fires hlines husable hd
  case fireNot =>
    intro s i hdie hrst hpaused hpick hop hgood hlines husable
    exact State.answers (exec_fire ⟨hdie, hrst, hpaused, hpick, hop, hgood⟩) fun d hd =>
      State.atIssue_firesNot hlines husable hd
  case fireat =>
    intro s i hdie hrst hpaused hpick hop hgood hlines husable
    exact State.answers (exec_fireat ⟨hdie, hrst, hpaused, hpick, hop, hgood⟩) fun d hd =>
      State.atIssue_fires hlines husable hd
  case fireatNot =>
    intro s i hdie hrst hpaused hpick hop hgood hlines husable
    exact State.answers (exec_fireat ⟨hdie, hrst, hpaused, hpick, hop, hgood⟩) fun d hd =>
      State.atIssue_firesNot hlines husable hd
  case retire =>
    intro s i hdie hrst hmode hlines
    refine State.answers (exec_fireRetire hdie hrst hmode hlines) fun d hd => ?_
    subst hd
    exact ⟨by simp [Chip.nextPc]; rfl, rfl⟩
  case parity =>
    intro s i n hdie hrst hpaused hpick hn
    refine State.answers (exec_parity hdie hrst hpaused hpick hn) fun d hd => ?_
    subst hd
    exact ⟨by simp [Chip.parityStop_th], by simp [Chip.parityStop_th], Chip.parityStop_perr _ _ _,
      by simp only [Chip.parityStop_th]; rfl⟩

end Sys2Proof.Machine
end

section
/-!
O45: engine inputs as their tap samples or holds them (R166, R320, R332), and the words an engine returns (R324).
-/

namespace Sys2Proof.Machine

variable {s : State}

/-! ### Engines and taps -/

@[simp] theorem Chip.eng_modEng (c : Chip) (e : Nat) (f : EngState → EngState) : (c.modEng e f).eng e = f (c.eng e) := by
  simp [Chip.modEng, Chip.eng]

theorem Chip.eng_modEng_ne (c : Chip) {e j : Nat} (h : j ≠ e) (f : EngState → EngState) :
    (c.modEng e f).eng j = c.eng j :=
  SMap.find_put_ne h _ _ _

@[simp] theorem Chip.tap_modTap (c : Chip) (t : Nat) (f : TapState → TapState) : (c.modTap t f).tap t = f (c.tap t) := by
  simp [Chip.modTap, Chip.tap]

/-- A command of a tap that the die has. -/
theorem State.runTap_eq {t : Nat} (hdie : s.chip.id.hub = false) (hrst : s.chip.inReset = false)
    (ht : t < s.chip.id.ntaps) (f : Chip → Chip) : s.runTap t f = .next { s with chip := f s.chip.newCycle } := by
  simp [State.runTap, hdie, ht, State.run_eq hrst]

/-- A command of an engine whose tap the die has. -/
theorem State.runEng_eq {e : Engine} (hdie : s.chip.id.hub = false) (hrst : s.chip.inReset = false)
    (ht : e.val / 4 < s.chip.id.ntaps) (f : Chip → Chip) : s.runEng e f = .next { s with chip := f s.chip.newCycle } :=
  State.runTap_eq hdie hrst ht f

/-! ### Sampled, or held -/

/-- The tap of a region that runs takes the input with its stamp (R166). -/
theorem Chip.engSample_takes {c : Chip} {e : Nat} (h : (c.tap (e / 4)).stopped = false) (phase : Fin 64) (i : EngIn) :
    c.engSample e phase i = c.engTake e (c.tk.stamp c.tk.frc phase.val) i := by
  simp [Chip.engSample, h]

/-- The tap of a region that stands holds an input that is no acknowledge (R173). -/
theorem Chip.engSample_holds {c : Chip} {e : Nat} (h : (c.tap (e / 4)).stopped = true) (phase : Fin 64) {i : EngIn}
    (hi : i ≠ .rack) :
    c.engSample e phase i = c.modTap (e / 4) fun x => { x with heldIn := x.heldIn ++ [(e, i)] } := by
  simp [Chip.engSample, h, hi]

/-- An input that its tap holds leaves the engines and the detectors. -/
theorem State.answers_held {o : Host.Outcome State Fault Refusal} {e : Engine} {phase : Fin 64} {i : EngIn}
    (h : o = .next { s with chip := s.chip.newCycle.engSample e.val phase i })
    (hstop : (s.chip.tap (e.val / 4)).stopped = true) (hi : i ≠ .rack) :
    ∃ t, o = .next t ∧ t.pending = s.pending
      ∧ t.chip.tap (e.val / 4) = { s.chip.tap (e.val / 4) with
          heldIn := (s.chip.tap (e.val / 4)).heldIn ++ [(e.val, i)] }
      ∧ t.chip.rt.engs = s.chip.rt.engs ∧ t.chip.hg = s.chip.hg := by
  refine State.answers h fun d hd => ?_
  rw [Chip.engSample_holds (c := s.chip.newCycle) hstop phase hi] at hd
  subst hd
  exact ⟨Chip.tap_modTap _ _ _, rfl, rfl⟩

/-- A done input outside a solo wait is the engine's alone (R320, R334). -/
theorem Chip.engTake_done {c : Chip} (h : c.hg.solo ≠ .wait) (e at_ : Nat) : c.engTake e at_ .done = c.engineDone e at_ := by
  have hsolo : (c.engineDone e at_).hg.solo ≠ .wait := h
  simp only [Chip.engTake]
  split
  · contradiction
  · rfl

/-! ### The words of a status -/

theorem find_putWords_lt {l : List Word} {m : SMap Word} {i k : Nat} (h : k < i) :
    SMap.find (putWords m i l) k 0 = SMap.find m k 0 := by
  induction l generalizing m i with
  | nil => rfl
  | cons w r ih => rw [putWords, ih (by omega), SMap.find_put_ne (by omega)]

/-- Words put from a place on are found there in their order. -/
theorem find_putWords {l : List Word} {m : SMap Word} {i k : Nat} (h : k < l.length) :
    SMap.find (putWords m i l) (i + k) 0 = l.getD k 0 := by
  induction l generalizing m i k with
  | nil => exact absurd h (Nat.not_lt_zero _)
  | cons w r ih =>
    cases k with
    | zero => rw [putWords, find_putWords_lt (by omega)]; exact SMap.find_put_self _ _ _ _
    | succ k =>
      have hk := ih (m := SMap.put m i 0 w) (i := i + 1) (Nat.lt_of_succ_lt_succ h)
      rw [putWords, show i + (k + 1) = i + 1 + k by omega, hk]
      rfl

theorem padTo_of_length {n : Nat} {l : List Word} (h : l.length = n) : padTo n l = l := by
  simp [padTo, ← h]

/-- An engine that is read takes its place from those left and stores its words there. -/
theorem exec_engStatus {e : Engine} {l : List Word} (hdie : s.chip.id.hub = false) (hrst : s.chip.inReset = false)
    (ht : e.val / 4 < s.chip.id.ntaps) (hread : s.chip.readingEng e.val = true) (hl : l.length = 64) :
    exec (.engStatus e l) s = .next { s with
      chip := { s.chip.newCycle with cp := { s.chip.cp with
        left := s.chip.cp.left.filter fun k => k != e.val
        words := putWords s.chip.cp.words (0xB000 + 64 * indexOf e.val s.chip.cp.engs 0) l } } } := by
  have hread' : s.chip.newCycle.readingEng e.val = true := hread
  refine (State.runEng_eq hdie hrst ht _).trans ?_
  simp only [hread', if_true, padTo_of_length hl]
  rfl

/-- Settles O45: an input goes to its engine, or is held at the tap. -/
theorem enginesAtTheTap : Obligations.EnginesAtTheTap := by
  unfold Obligations.EnginesAtTheTap
  refine ⟨?start, ?startHeld, ?beatHeld, ?doneHeld, ?beat, ?done, ?status⟩
  case start =>
    intro s e w phase hdie hrst ht hstop
    refine State.answers (State.runEng_eq hdie hrst ht _) fun d hd => ?_
    rw [Chip.engSample_takes (c := s.chip.newCycle) hstop] at hd
    subst hd
    refine ⟨?_, ?_, ?_, ?_, fun j hj => Chip.eng_modEng_ne _ hj _⟩
    · simp only [Chip.engTake, Chip.ctxStart, Chip.eng_modEng]; rfl
    · simp only [Chip.engTake, Chip.ctxStart, Chip.eng_modEng]; rfl
    · simp only [Chip.engTake, Chip.ctxStart, Chip.eng_modEng]
    · simp only [Chip.engTake, Chip.ctxStart, Chip.eng_modEng]; rfl
  case startHeld =>
    intro s e w phase hdie hrst ht hstop
    exact State.answers_held (State.runEng_eq hdie hrst ht _) hstop (by simp)
  case beatHeld =>
    intro s e phase hdie hrst ht hstop
    exact State.answers_held (State.runEng_eq hdie hrst ht _) hstop (by simp)
  case doneHeld =>
    intro s e phase hdie hrst ht hstop
    exact State.answers_held (State.runEng_eq hdie hrst ht _) hstop (by simp)
  case beat =>
    intro s e phase hdie hrst ht hstop
    refine State.answers (State.runEng_eq hdie hrst ht _) fun d hd => ?_
    rw [Chip.engSample_takes (c := s.chip.newCycle) hstop] at hd
    subst hd
    refine ⟨?_, ?_, ?_, rfl, rfl⟩
    · simp only [Chip.engTake, Chip.eng_modEng]; rfl
    · simp only [Chip.engTake, Chip.eng_modEng]; rfl
    · simp only [Chip.engTake, Chip.eng_modEng]; rfl
  case done =>
    intro s e phase hdie hrst ht hstop hsolo
    refine State.answers (State.runEng_eq hdie hrst ht _) fun d hd => ?_
    rw [Chip.engSample_takes (c := s.chip.newCycle) hstop, Chip.engTake_done (c := s.chip.newCycle) hsolo] at hd
    subst hd
    refine ⟨?_, ?_, rfl, rfl⟩
    · simp only [Chip.engineDone, Chip.eng_modEng]
    · simp only [Chip.engineDone, Chip.eng_modEng]; rfl
  case status =>
    intro s e l hdie hrst ht hread hl
    refine ⟨_, exec_engStatus hdie hrst ht hread hl, rfl, rfl, fun k hk => ?_, rfl, rfl⟩
    exact find_putWords (by omega)

end Sys2Proof.Machine
end

section
/-!
Reads of registers as commands of their own: what an access at the address of a mapped register does besides returning
its value (R40, R46).
-/

namespace Sys2Proof.Machine

variable {s : State} {m : Master}

/-- A latch changes the shadow copies alone. -/
theorem Chip.latch_shadows (c : Chip) (m : Master) (page off idx : Nat) :
    ∃ l, c.latch m page off idx = { c with shadows := l } :=
  ⟨_, c.latch_eq m page off idx⟩

/-- A master's read at the address of a mapped register, where the port takes it at once. -/
theorem State.runMaster_rowRead {r : RegRow} {addr k : Nat} (haddr : addr = r.addr)
    (hopen : s.chip.opens m r.page = true) (hmapped : r.mapped s.chip.id.hub = true) (hidx : s.chip.rowIdx m r = k) :
    s.runMaster m (fun c => c.regRead m addr) = .next { s with
      chip := (if r.acc = .rs then s.chip.fresh.latch m r.page r.off k else s.chip.fresh).readEffect m r 0 k } := by
  subst haddr
  obtain ⟨hbody, -, hrow⟩ := RegRow.mapped_iff.1 hmapped
  have hidx' : s.chip.fresh.rowIdx m r = k := hidx
  have hpresent : pagePresent s.chip.fresh.id.hub r.page = true := opens_present (c := s.chip) hopen
  have hrow' : pageRow s.chip.fresh.id.hub r.page r.off = some (r, 0) := hrow
  rw [State.runMaster_regRead hopen (RegRow.mapped_page hmapped)]
  unfold Chip.masterRead
  simp only [RegRow.mapped_page hmapped, RegRow.mapped_off hmapped, hbody, hpresent, hrow', hidx', Bool.not_true,
    Bool.false_eq_true, if_false]

end Sys2Proof.Machine
end

section
/-!
O20: the event recorder: the write of a record, the restore of the operating time, uploads and the severity query
(R335 to R341).
-/

namespace Sys2Proof.Machine

variable {s : State} {m : Master}

/-- A writable register answers its rights first (R53). -/
theorem Chip.mappedWrite_noRights (c : Chip) {r : RegRow} (hacc : r.acc ∉ [.ro, .rc, .rs])
    (hright : c.mayWrite m r = false) (i addr : Nat) (w : Word) :
    c.mappedWrite m r i addr w = (c.accRights m addr w, some 3) := by
  simp only [List.mem_cons, List.not_mem_nil, or_false, not_or] at hacc
  obtain ⟨hro, hrc, hrs⟩ := hacc
  unfold Chip.mappedWrite
  simp only [hright, Bool.not_false, if_true]

/-! ### What a report leaves of the recorder -/

/-- The recorder without its writer queue and what was lost there. -/
def EvState.unqueued (x : EvState) : EvState := { x with queue := [], lost := 0 }

theorem Chip.enqueueRec_unqueued (c : Chip) (r : RawRec) : (c.enqueueRec r).ev.unqueued = c.ev.unqueued := by
  unfold Chip.enqueueRec
  split
  · rfl
  · simp only [Chip.flag_ev, Chip.count_ev]
    rfl

@[simp] theorem Chip.param_ev (c : Chip) (p : Option Word) : (c.param p).2.ev = c.ev := by cases p <;> rfl

theorem Chip.record_unqueued (c : Chip) (code : Nat) (r : Rep) : (c.record code r).ev.unqueued = c.ev.unqueued := by
  simp [Chip.record, Chip.enqueueRec_unqueued]

/-- A report leaves the recorder but for its writer queue. -/
theorem Chip.report_unqueued (c : Chip) (e : Ev) (r : Rep) : (c.report e r).ev.unqueued = c.ev.unqueued := by
  unfold Chip.report
  split <;> simp [Chip.record_unqueued]

@[simp] theorem Chip.sendCells_ev (c : Chip) (p cls : Nat) (l : List Cell) : (c.sendCells p cls l).ev = c.ev := by
  simp only [Chip.sendCells]; split <;> rfl

@[simp] theorem Chip.sendCells_regs (c : Chip) (p cls : Nat) (l : List Cell) : (c.sendCells p cls l).regs = c.regs := by
  simp only [Chip.sendCells]; split <;> rfl

@[simp] theorem Chip.popRx_ev (c : Chip) (p cls n : Nat) : (c.popRx p cls n).ev = c.ev := rfl

/-! ### The write of a record -/

/-- The ring, and the number that the next record gets. -/
def Chip.ringOf (c : Chip) : SMap (List Word) × Nat × TkState := (c.ev.ring, c.ev.wrSeq, c.tk)

theorem Chip.ringOf_eq {a b : Chip} (hev : a.ev.unqueued = b.ev.unqueued) (htk : a.tk = b.tk) : a.ringOf = b.ringOf := by
  simp only [Chip.ringOf, htk, Prod.mk.injEq, and_true]
  exact ⟨(congrArg EvState.ring hev :), (congrArg EvState.wrSeq hev :)⟩

theorem Chip.ringOf_record (c : Chip) (code : Nat) (r : Rep) : (c.record code r).ringOf = c.ringOf :=
  Chip.ringOf_eq (c.record_unqueued code r) (c.record_tk code r)

theorem Chip.ringOf_note (c : Chip) (e : Ev) (i : Option Nat) : (c.note e i).ringOf = c.ringOf :=
  Chip.ringOf_eq (by rw [Chip.note_ev]) (c.note_tk e i)

/-- What a record overwrites is counted and recorded, and the ring stands (R337, R32). -/
theorem Chip.ringOf_overwrite (c : Chip) (n : Nat) : (c.overwrite n).ringOf = c.ringOf := by
  have hlost : ∀ d : Chip, ({ d with ev := { d.ev with mirLost := d.ev.mirLost + 1 } }.note Event.EV_MIRROR_LOST).ringOf
      = d.ringOf := fun d => Chip.ringOf_note _ _ _
  have honce : ∀ d : Chip, { d with ev := { d.ev with ovrOnce := true } }.ringOf = d.ringOf := fun _ => rfl
  unfold Chip.overwrite
  dsimp only
  split
  · rfl
  · split
    · split
      · split <;> simp only [Chip.ringOf_record, honce, Chip.ringOf_note, hlost]
      · split <;> simp only [Chip.ringOf_record, honce, Chip.ringOf_note]
    · split <;> simp only [hlost]

theorem Chip.ringOf_mwIssue (c : Chip) (b : Nat × List Word) : (c.mwIssue b).ringOf = c.ringOf := by
  simp only [Chip.mwIssue, Chip.ringOf]
  split <;> rfl

theorem Chip.ringOf_mwRefuse (c : Chip) (a : Nat) : (c.mwRefuse a).ringOf = c.ringOf :=
  Chip.ringOf_eq (Chip.report_unqueued _ _ _) (Chip.report_tk _ _ _)

theorem Chip.ringOf_hmLog2 (c : Chip) : c.hmLog2.2.ringOf = c.ringOf := by
  simp only [Chip.hmLog2]; split <;> rfl

theorem Chip.ringOf_hostMirror (c : Chip) (n : Nat) (ws : List Word) : (c.hostMirror n ws).ringOf = c.ringOf := by
  unfold Chip.hostMirror
  dsimp only
  split
  · rfl
  · split
    · rfl
    · split
      · rw [Chip.ringOf_mwIssue]
        exact c.ringOf_hmLog2
      · rw [Chip.ringOf_mwRefuse, Chip.ringOf_hmLog2]

theorem Chip.upload_ev (c : Chip) (sev : Nat) (ws : List Word) : (c.upload sev ws).ev = c.ev := by
  unfold Chip.upload
  dsimp only
  split
  · rfl
  · exact foldl_keeps Chip.ev _ _ _ fun x p => x.sendCells_ev _ _ _

theorem Chip.upload_regs (c : Chip) (sev : Nat) (ws : List Word) : (c.upload sev ws).regs = c.regs := by
  unfold Chip.upload
  dsimp only
  split
  · rfl
  · exact foldl_keeps Chip.regs _ _ _ fun x p => x.sendCells_regs _ _ _

theorem Chip.upload_tk (c : Chip) (sev : Nat) (ws : List Word) : (c.upload sev ws).tk = c.tk := by
  unfold Chip.upload
  dsimp only
  split
  · rfl
  · exact foldl_keeps Chip.tk _ _ _ fun x p => Chip.sendCells_tk _ _ _ _

theorem Chip.ringOf_upload (c : Chip) (sev : Nat) (ws : List Word) : (c.upload sev ws).ringOf = c.ringOf := by
  simp only [Chip.ringOf, Chip.upload_ev, Chip.upload_tk]

theorem Chip.ringOf_dropRecord (c : Chip) : c.dropRecord.ringOf = c.ringOf := by
  unfold Chip.dropRecord
  split
  · rfl
  · exact Chip.ringOf_record _ _ _

/-- The part with its queue's head in the ring, before the copies of the record leave. -/
def Chip.ringed (c : Chip) (r : RawRec) (l : List RawRec) : Chip :=
  let d := { c with ev := { c.ev with queue := l } }.overwrite c.ev.wrSeq
  { d with ev := { d.ev with
      ring := SMap.insert d.ev.ring (c.ev.wrSeq % 4096) (c.recordWords r c.ev.wrSeq)
      wrSeq := (c.ev.wrSeq + 1) % 2 ^ 32 } }

theorem exec_recordWrite {r : RawRec} {l : List RawRec} (h : s.chip.ev.queue = r :: l) :
    exec .recordWrite s = .next { s with
      chip := ((((s.chip.fresh.ringed r l).count 0x4A0 none).hostMirror s.chip.ev.wrSeq
        (s.chip.fresh.recordWords r s.chip.ev.wrSeq)).upload r.sev
          (s.chip.fresh.recordWords r s.chip.ev.wrSeq)).dropRecord } := by
  have h' : s.chip.fresh.ev.queue = r :: l := h
  show execRecordWrite s = _
  simp only [execRecordWrite, State.apply]
  rw [show s.chip.newCycle = s.chip.fresh from rfl, h']
  rfl

theorem exec_recordWrite_empty (h : s.chip.ev.queue = []) :
    exec .recordWrite s = .next { s with chip := s.chip.fresh } := by
  have h' : s.chip.fresh.ev.queue = [] := h
  show execRecordWrite s = _
  simp only [execRecordWrite, State.apply]
  rw [show s.chip.newCycle = s.chip.fresh from rfl, h']

/-- Where the record's slot is unwritten nothing is overwritten. -/
theorem Chip.overwrite_unwritten {c : Chip} {n : Nat} (h : SMap.has c.ev.ring (n % 4096) = false) : c.overwrite n = c := by
  simp [Chip.overwrite, h]

theorem Chip.ringed_unwritten {c : Chip} (h : SMap.has c.ev.ring (c.ev.wrSeq % 4096) = false) (r : RawRec)
    (l : List RawRec) :
    c.ringed r l = { c with ev := { c.ev with
      queue := l, ring := SMap.insert c.ev.ring (c.ev.wrSeq % 4096) (c.recordWords r c.ev.wrSeq)
      wrSeq := (c.ev.wrSeq + 1) % 2 ^ 32 } } := by
  have hover : { c with ev := { c.ev with queue := l } }.overwrite c.ev.wrSeq = { c with ev := { c.ev with queue := l } } :=
    Chip.overwrite_unwritten h
  simp only [Chip.ringed, hover]

theorem Chip.hostMirror_off {c : Chip} (h : Word.bit (c.reg Reg.EV_HMCFG) 31 = false) (n : Nat) (ws : List Word) :
    c.hostMirror n ws = c := by
  simp [Chip.hostMirror, h]

theorem Chip.dropRecord_none {c : Chip} (h : c.ev.lost = 0) : c.dropRecord = c := by simp [Chip.dropRecord, h]

/-! ### The restore -/

theorem Chip.rowWrite_rstpc (c : Chip) (m : Master) (w : Word) :
    c.rowWrite { m := m, row := Reg.EV_RSTPC, i := 0, idx := 0, w := w } = (c.evRestore m w).done := by
  simp only [Chip.rowWrite, Chip.writeEv, Reg.EV_RSTPC]

/-- The host or firmware writes EV_RSTPC (R338). -/
theorem exec_restore (hopen : s.chip.opens m 0x1F = true) (hm : m = .host ∨ m = .firmware) (w : Word) :
    exec (.restore m w) s = .next { s with chip := s.chip.fresh.evRestore m w } := by
  show s.runMaster m (fun c => c.regWrite m 0x1F07C w) = _
  exact State.runMaster_rowWrite (r := Reg.EV_RSTPC) (by decide) hopen (by decide) (by decide)
    (by rcases hm with rfl | rfl <;> rfl) (Bool.and_false _) (by simp only [Chip.rowIdx, Reg.EV_RSTPC])
    (by simp only [Chip.fitWord, Reg.EV_RSTPC]) (Chip.rowWrite_rstpc _ _ _)

/-- Another master's write of EV_RSTPC is refused for its rights. -/
theorem exec_restore_remote (hopen : s.chip.opens m 0x1F = true) (hm : m ≠ .host ∧ m ≠ .firmware) (w : Word) :
    ∃ addr, exec (.restore m w) s = .next { s with chip := s.chip.fresh.accRights m addr w } := by
  have hmapped : Reg.EV_RSTPC.mapped s.chip.fresh.id.hub = true := by cases s.chip.fresh.id.hub <;> decide
  have hright : s.chip.fresh.mayWrite m Reg.EV_RSTPC = false := by
    obtain ⟨hh, hf⟩ := hm
    simp [Chip.mayWrite, Reg.EV_RSTPC, hh, hf]
  refine ⟨Reg.EV_RSTPC.addr, ?_⟩
  show s.runMaster m (fun c => c.regWrite m 0x1F07C w) = _
  rw [show (0x1F07C : Nat) = Reg.EV_RSTPC.addr by decide,
    State.runMaster_regWrite (page := 0x1F) hopen (by decide),
    Chip.masterWrite_addr (c := s.chip.fresh) (r := Reg.EV_RSTPC) hopen hmapped,
    Chip.mappedWrite_noRights _ (by decide) hright]

/-- The recorder's restored time. -/
def EvState.restores (x : EvState) : Bool × Nat × Nat := (x.restored, x.optOff, x.pcyc)

theorem Chip.restores_report (c : Chip) (e : Ev) (r : Rep) : (c.report e r).ev.restores = c.ev.restores := by
  have h := c.report_unqueued e r
  simp only [EvState.restores, Prod.mk.injEq]
  exact ⟨(congrArg EvState.restored h :), (congrArg EvState.optOff h :), (congrArg EvState.pcyc h :)⟩

theorem Chip.restores_accRights (c : Chip) (m : Master) (addr : Nat) (w : Word) :
    (c.accRights m addr w).ev.restores = c.ev.restores :=
  Chip.restores_report _ _ _

theorem Chip.evRestore_again {c : Chip} (h : c.ev.restored = true) (m : Master) (w : Word) :
    (c.evRestore m w).ev.restores = c.ev.restores := by
  simp only [Chip.evRestore, h, if_true]
  exact Chip.restores_report _ _ _

/-! ### Uploads and the severity query -/

theorem exec_evupReceive {p : Port} {x : Cell} (hhub : s.chip.id.hub = true) (hrst : s.chip.inReset = false)
    (hx : s.chip.headM p.val 0x43 = some x) :
    exec (.evupReceive p) s = .next { s with
      chip := if Word.bit (s.chip.reg Reg.TR_CFG) 22 then (s.chip.fresh.popRx p.val clsM 1).uploadTake x
        else (s.chip.fresh.popRx p.val clsM 1).sendCells ((s.chip.fresh.popRx p.val clsM 1).groupUp 0) clsM
          [mkCell clsM 0x43 0 (x.payload.take 9)] } := by
  have hx' : s.chip.newCycle.headM p.val 0x43 = some x := hx
  refine (State.runHub_eq hhub hrst _).trans ?_
  simp only [hx']
  rfl

@[simp] theorem Chip.popRx_rxM (c : Chip) (p n : Nat) :
    ((c.popRx p clsM n).port p).q.rxM = (c.port p).q.rxM.drop n := by
  rw [Chip.popRx, Chip.port_modPort]
  rfl

/-- A port without the sequenced cells it has still to send. -/
def PortState.unsent (x : PortState) : PortState := { x with q := { x.q with txB := [], txS := [], txM := [], wait := [] } }

theorem PortState.unsent_push (x : PortState) (cls frc : Nat) (y : Cell) :
    { x with q := x.q.push cls frc y }.unsent = x.unsent := by
  simp only [PortState.unsent, PortQueues.push, PortQueues.setTx]
  repeat' split
  all_goals rfl

/-- Cells to send change what their port has still to send, and nothing else of any port. -/
theorem Chip.sendCells_unsent (c : Chip) (p cls : Nat) (l : List Cell) (q : Nat) :
    ((c.sendCells p cls l).port q).unsent = (c.port q).unsent := by
  have hpush : ∀ (l : List Cell) (x : PortState),
      { x with q := l.foldl (fun y z => y.push cls c.tk.frc z) x.q }.unsent = x.unsent := by
    intro l
    induction l with
    | nil => intro x; rfl
    | cons y r ih => intro x; exact (ih { x with q := x.q.push cls c.tk.frc y }).trans (x.unsent_push _ _ _)
  unfold Chip.sendCells
  split
  · by_cases hq : q = p
    · subst hq
      rw [Chip.modQ, Chip.port_modPort]
      exact hpush l _
    · rw [Chip.modQ, Chip.port_modPort_ne _ hq]
  · rfl

theorem Chip.sendCells_rxM (c : Chip) (p cls : Nat) (l : List Cell) (q : Nat) :
    ((c.sendCells p cls l).port q).q.rxM = (c.port q).q.rxM :=
  (congrArg (fun x : PortState => x.q.rxM) (c.sendCells_unsent p cls l q) :)

theorem exec_uploadPop (hopen : s.chip.opens m 0x1F = true) (hhub : s.chip.id.hub = true) :
    exec (.uploadPop m) s = .next { s with chip := (s.chip.fresh.latch m 0x1F 0x094 0).uploadPop.2 } := by
  show s.runMaster m (fun c => c.regRead m 0x1F094) = _
  rw [State.runMaster_rowRead (r := Reg.EV_UQ0) (k := 0) (by decide) hopen (by rw [hhub]; decide)
    (by simp only [Chip.rowIdx, Reg.EV_UQ0])]
  rfl

theorem Chip.uploadPop_eq (c : Chip) : c.uploadPop.2 = { c with ev := { c.ev with uploads := c.ev.uploads.drop 1 } } := by
  unfold Chip.uploadPop
  split
  · next h =>
      have hnone : c.ev.uploads.drop 1 = c.ev.uploads := by rw [h]; rfl
      rw [hnone]
  · next h => simp [h]

/-- The severity query is stored, and does nothing else. -/
theorem exec_severityQuery (hopen : s.chip.opens m 0x1F = true) (w : Word) :
    exec (.severityQuery m w) s = .next { s with
      chip := s.chip.fresh.setRegOf m Reg.EV_SEVQ (Word.merge (s.chip.regOf m Reg.EV_SEVQ) w Reg.EV_SEVQ.take) } := by
  have hwrite : s.chip.fresh.rowWrite { m := m, row := Reg.EV_SEVQ, i := 0, idx := 0, w := w } =
      (s.chip.fresh.setRegOf m Reg.EV_SEVQ (Word.merge (s.chip.regOf m Reg.EV_SEVQ) w Reg.EV_SEVQ.take)).done := by
    rw [Chip.rowWrite_plainRegs _ (by simp [plainRegs]), Chip.store_rw _ (.inl rfl)]
    rfl
  show s.runMaster m (fun c => c.regWrite m 0x1F0B8 w) = _
  exact State.runMaster_rowWrite (r := Reg.EV_SEVQ) (by decide) hopen (by decide) (by decide) rfl
    (Bool.and_false _) (by simp only [Chip.rowIdx, Reg.EV_SEVQ]) (Chip.fitWord_plainRegs _ (by decide) _) hwrite

/-! ### Fields of a merged word -/

theorem Word.testBit_field (w : Word) (lo len i : Nat) :
    (Word.field w lo len).testBit i = (decide (i < len) && Word.bit w (lo + i)) := by
  simp only [Word.field, Nat.testBit_mod_two_pow, Nat.testBit_shiftRight, Word.bit, BitVec.getLsbD]

/-- A field is read off its bits. -/
theorem Word.field_congr {a b : Word} {lo len : Nat} (h : ∀ i < len, Word.bit a (lo + i) = Word.bit b (lo + i)) :
    Word.field a lo len = Word.field b lo len := by
  refine Nat.eq_of_testBit_eq fun i => ?_
  rw [Word.testBit_field, Word.testBit_field]
  by_cases hi : i < len
  · rw [h i hi]
  · simp [hi]

theorem Word.bit_merge (old w mask : Word) (i : Nat) :
    Word.bit (Word.merge old w mask) i = if Word.bit mask i then Word.bit w i else Word.bit old i := by
  by_cases hi : i < 32
  · simp only [Word.bit, Word.merge, BitVec.getLsbD_or, BitVec.getLsbD_and, BitVec.getLsbD_not, hi, decide_true,
      Bool.true_and]
    by_cases hm : mask.getLsbD i = true <;> simp [hm]
  · simp [Word.bit, BitVec.getLsbD_of_ge, Nat.not_lt.1 hi]

/-- A field that a write takes whole holds what was written. -/
theorem Word.field_merge {mask : Word} {lo len : Nat} (h : ∀ i < len, Word.bit mask (lo + i) = true) (old w : Word) :
    Word.field (Word.merge old w mask) lo len = Word.field w lo len :=
  Word.field_congr fun i hi => by rw [Word.bit_merge, h i hi, if_pos rfl]

/-- Settles O20: a record in its slot, one restore, and the queue of uploads. -/
theorem eventRecorder : Obligations.EventRecorder := by
  unfold Obligations.EventRecorder
  refine ⟨?write, ?alone, ?empty, ?restore, ?again, ?queued, ?passed, ?pop, ?query⟩
  case write =>
    intro s r l hq
    refine State.answers (exec_recordWrite hq) fun d hd => ?_
    have hring : d.ringOf = (s.chip.fresh.ringed r l).ringOf := by
      rw [hd, Chip.ringOf_dropRecord, Chip.ringOf_upload, Chip.ringOf_hostMirror]
      exact Chip.ringOf_eq (by rw [Chip.count_ev]) (Chip.count_tk _ _ _ _)
    have hover := Chip.ringOf_overwrite { s.chip.fresh with ev := { s.chip.ev with queue := l } } s.chip.ev.wrSeq
    simp only [Chip.ringOf, Prod.mk.injEq] at hring hover
    obtain ⟨hmap, hseq, htk⟩ := hring
    obtain ⟨homap, -, hotk⟩ := hover
    have hmap' : d.ev.ring = SMap.insert s.chip.ev.ring (s.chip.ev.wrSeq % 4096)
        (s.chip.fresh.recordWords r s.chip.ev.wrSeq) := by
      rw [hmap]
      exact congrArg (fun x => SMap.insert x (s.chip.ev.wrSeq % 4096) (s.chip.fresh.recordWords r s.chip.ev.wrSeq)) homap
    refine ⟨?_, hseq, htk.trans hotk, fun j hj => ?_⟩
    · show SMap.find d.ev.ring _ [] = _
      rw [hmap', SMap.find_insert_self]
      rfl
    · show SMap.find d.ev.ring _ [] = _
      rw [hmap', SMap.find_insert_ne hj]
  case alone =>
    intro s r l hq hslot hmir hlost
    refine State.answers (exec_recordWrite hq) fun d hd => ?_
    rw [Chip.ringed_unwritten (c := s.chip.fresh) hslot, Chip.hostMirror_off (by rw [Chip.count_reg]; exact hmir),
      Chip.dropRecord_none (by rw [Chip.upload_ev, Chip.count_ev]; exact hlost)] at hd
    subst hd
    exact ⟨by simp only [Chip.upload_ev, Chip.count_ev], by simp only [Chip.upload_regs, Chip.count_regs]; rfl⟩
  case empty =>
    intro s hq
    exact ⟨_, exec_recordWrite_empty hq, rfl, rfl, rfl⟩
  case restore =>
    intro s m w hopen hm hfirst
    refine State.answers (exec_restore hopen hm w) fun d hd => ?_
    have hfirst' : s.chip.fresh.ev.restored = false := hfirst
    simp only [Chip.evRestore, hfirst', Bool.false_eq_true, if_false] at hd
    have hev := hd ▸ Chip.report_unqueued _ _ _
    exact ⟨(congrArg EvState.restored hev :), (congrArg EvState.optOff hev :), (congrArg EvState.pcyc hev :),
      (congrArg EvState.wrSeq hev :)⟩
  case again =>
    intro s m w hopen hbad
    have hkeep : ∃ d, exec (.restore m w) s = .next { s with chip := d } ∧ d.ev.restores = s.chip.ev.restores := by
      by_cases hm : m = .host ∨ m = .firmware
      · have hsome : s.chip.fresh.ev.restored = true := by
          refine hbad.resolve_left fun hnot => ?_
          rcases hm with h | h
          · exact hnot.1 h
          · exact hnot.2 h
        exact ⟨_, exec_restore hopen hm w, Chip.evRestore_again hsome m w⟩
      · obtain ⟨addr, hexec⟩ := exec_restore_remote hopen (not_or.1 hm) w
        exact ⟨_, hexec, Chip.restores_accRights _ _ _ _⟩
    obtain ⟨d, hexec, hd⟩ := hkeep
    simp only [EvState.restores, Prod.mk.injEq] at hd
    exact ⟨_, hexec, rfl, hd⟩
  case queued =>
    intro s p x hhub hrst hx hnote hroom
    refine State.answers (exec_evupReceive hhub hrst hx) fun d hd => ?_
    have hroom' : (s.chip.fresh.popRx p.val clsM 1).ev.uploads.length < 64 := hroom
    simp only [hnote, if_true, Chip.uploadTake, hroom'] at hd
    subst hd
    exact ⟨List.map_append, List.dropLast_concat, Chip.popRx_rxM _ _ _⟩
  case passed =>
    intro s p x hhub hrst hx hnote
    refine State.answers (exec_evupReceive hhub hrst hx) fun d hd => ?_
    simp only [hnote, Bool.false_eq_true, if_false] at hd
    subst hd
    exact ⟨Chip.sendCells_ev _ _ _ _, (Chip.sendCells_rxM _ _ _ _ _).trans (Chip.popRx_rxM _ _ _)⟩
  case pop =>
    intro s m hopen hhub
    refine State.answers (exec_uploadPop hopen hhub) fun d hd => ?_
    obtain ⟨l, hl⟩ := s.chip.fresh.latch_shadows m 0x1F 0x094 0
    rw [Chip.uploadPop_eq, hl] at hd
    subst hd
    exact ⟨rfl, rfl⟩
  case query =>
    intro s m w hopen
    refine State.answers (exec_severityQuery hopen w) fun d hd => ?_
    subst hd
    refine ⟨?_, rfl, rfl⟩
    have hreg : (s.chip.fresh.setRegOf m Reg.EV_SEVQ (Word.merge (s.chip.regOf m Reg.EV_SEVQ) w Reg.EV_SEVQ.take)).reg
        Reg.EV_SEVQ = Word.merge (s.chip.regOf m Reg.EV_SEVQ) w Reg.EV_SEVQ.take := Chip.regOf_setRegOf _ m _ _ _ _
    rw [hreg]
    exact Word.field_merge (by decide) _ _

end Sys2Proof.Machine
end

section
/-!
O46: the stamps of the MAC taps and the software stamps (R176 to R181).
-/

namespace Sys2Proof.Machine

variable {s : State} {m : Master}

@[simp] theorem Chip.tsTap_modTs (c : Chip) (t : Nat) (f : TsTap → TsTap) : (c.modTs t f).tsTap t = f (c.tsTap t) := by
  simp [Chip.modTs, Chip.tsTap]

theorem Chip.tsTap_modTs_ne (c : Chip) {t j : Nat} (h : j ≠ t) (f : TsTap → TsTap) :
    (c.modTs t f).tsTap j = c.tsTap j :=
  SMap.find_put_ne h _ _ _

/-! ### Strobes -/

/-- A strobe at a tap that is not enabled does nothing (R176). -/
theorem exec_txSof_off {mt : MacTap} (hrst : s.chip.inReset = false) (hoff : Word.bit (s.chip.tsCfg mt.val) 31 = false)
    (fid : BitVec 16) (cls : BitVec 2) (phase : Fin 64) :
    exec (.txSof mt fid cls phase) s = .next { s with chip := s.chip.fresh } := by
  have hoff' : Word.bit (s.chip.fresh.tsCfg mt.val) 31 = false := hoff
  show execTxSof mt fid cls phase s = _
  rw [execTxSof, State.run_eq hrst]
  simp only [show s.chip.newCycle = s.chip.fresh from rfl, hoff', Bool.not_false, Bool.or_true, if_true]

theorem exec_rxSof_off {mt : MacTap} (hrst : s.chip.inReset = false) (hoff : Word.bit (s.chip.tsCfg mt.val) 31 = false)
    (cls : BitVec 2) (phase : Fin 64) : exec (.rxSof mt cls phase) s = .next { s with chip := s.chip.fresh } := by
  have hoff' : Word.bit (s.chip.fresh.tsCfg mt.val) 31 = false := hoff
  show execRxSof mt cls phase s = _
  rw [execRxSof, State.run_eq hrst]
  simp only [show s.chip.newCycle = s.chip.fresh from rfl, hoff', Bool.not_false, Bool.or_true, if_true]

/-- A transmit strobe of class 1 or 2 whose stamp is queued: it is stamped, and the stamp enters the queue (R180). -/
theorem exec_txSof_queues {mt : MacTap} {cls : BitVec 2} {phase : Fin 64} (hrst : s.chip.inReset = false)
    (hcls : cls = 1 ∨ cls = 2) (hon : Word.bit (s.chip.tsCfg mt.val) 31 = true)
    (hqueue : Word.bit (s.chip.tsCfg mt.val) 29 = true)
    (hmiss : strobeMissed (s.chip.tsTap mt.val).lastTx (s.chip.frc64 phase.val) = false) (fid : BitVec 16) :
    exec (.txSof mt fid cls phase) s = .next { s with
      chip := (s.chip.fresh.modTs mt.val fun x => { x with lastTx := some (s.chip.frc64 phase.val) }).txEnter mt.val
        fid.toNat false ((s.chip.tk.stamp s.chip.tk.frc phase.val
          + Word.field (s.chip.reg Reg.TS_EGR mt.val) 0 24 * unit64) % 2 ^ 96) } := by
  have hon' : Word.bit (s.chip.fresh.tsCfg mt.val) 31 = true := hon
  have hqueue' : Word.bit ((s.chip.fresh.modTs mt.val fun x =>
      { x with lastTx := some (s.chip.fresh.frc64 phase.val) }).tsCfg mt.val) 29 = true := hqueue
  have hmiss' : strobeMissed (s.chip.fresh.tsTap mt.val).lastTx (s.chip.fresh.frc64 phase.val) = false := hmiss
  have h0 : (cls == 0) = false := by rcases hcls with rfl | rfl <;> rfl
  have h3 : (cls == 3) = false := by rcases hcls with rfl | rfl <;> rfl
  show execTxSof mt fid cls phase s = _
  rw [execTxSof, State.run_eq hrst]
  simp only [show s.chip.newCycle = s.chip.fresh from rfl, hon', hmiss', h0, h3, hqueue', Bool.not_true, Bool.or_self,
    Bool.false_eq_true, if_false, if_true, Chip.sofMiss]
  rfl

/-- A stamp enters a queue that has room. -/
theorem Chip.txEnter_room {c : Chip} {t : Nat} (h : (c.tsTap t).txq.length < 16) (fid : Nat) (missed : Bool) (time : Nat) :
    c.txEnter t fid missed time = c.modTs t fun x =>
      { x with txq := x.txq ++ [{ fid := fid, missed := missed, ovrBefore := x.ovr, time := time }], ovr := false } := by
  simp [Chip.txEnter, h]

/-- A receive strobe that is not missed leaves its stamp at the tap (R179). -/
def TsTap.received (x : TsTap) (at_ time : Nat) (cls : BitVec 2) (strobe : Option (Option (Nat × Nat))) : TsTap :=
  { x with
    lastRx := some at_, rxl := time, rxlCls := cls.toNat
    rxts := some { fid := cls.toNat, missed := false, ovrBefore := false, time := time }
    strobe := strobe }

theorem exec_rxSof {mt : MacTap} {cls : BitVec 2} {phase : Fin 64} (hrst : s.chip.inReset = false) (hcls : cls ≠ 0)
    (hon : Word.bit (s.chip.tsCfg mt.val) 31 = true)
    (hmiss : strobeMissed (s.chip.tsTap mt.val).lastRx (s.chip.frc64 phase.val) = false) :
    ∃ (at_ : Nat) (strobe : TsTap → Option (Option (Nat × Nat))), exec (.rxSof mt cls phase) s = .next { s with
      chip := s.chip.fresh.modTs mt.val fun x => x.received at_
        ((s.chip.tk.stamp s.chip.tk.frc phase.val + 2 ^ 96
          - Word.field (s.chip.reg Reg.TS_ING mt.val) 0 24 * unit64) % 2 ^ 96) cls (strobe x) } := by
  have hon' : Word.bit (s.chip.fresh.tsCfg mt.val) 31 = true := hon
  have hmiss' : strobeMissed (s.chip.fresh.tsTap mt.val).lastRx (s.chip.fresh.frc64 phase.val) = false := hmiss
  have h0 : (cls == 0) = false := by simpa using hcls
  refine ⟨s.chip.frc64 phase.val, fun x => if cls == 3 && s.chip.plumbOn mt.val then
    some (some ((s.chip.tk.stamp s.chip.tk.frc phase.val + 2 ^ 96
      - Word.field (s.chip.reg Reg.TS_ING mt.val) 0 24 * unit64) % 2 ^ 96, s.chip.tk.stepCnt)) else x.strobe, ?_⟩
  show execRxSof mt cls phase s = _
  rw [execRxSof, State.run_eq hrst]
  simp only [show s.chip.newCycle = s.chip.fresh from rfl, hon', hmiss', h0, Bool.not_true, Bool.or_self,
    Bool.false_eq_true, if_false, Chip.sofMiss]
  rfl

/-! ### Reads that take a stamp -/

theorem exec_txqPop (hopen : s.chip.opens m 0x0D = true) :
    ∃ l, exec (.txqPop m) s = .next { s with
      chip := { s.chip.fresh with shadows := l }.modTs (s.chip.chanOf m 0x0D) fun x => { x with txq := x.txq.drop 1 } } := by
  obtain ⟨l, hl⟩ := s.chip.fresh.latch_shadows m 0x0D 0x414 (s.chip.chanOf m 0x0D)
  refine ⟨l, ?_⟩
  show s.runMaster m (fun c => c.regRead m 0x0D414) = _
  rw [State.runMaster_rowRead (r := Reg.TS_TXQ0) (k := s.chip.chanOf m 0x0D) (by decide) hopen
    (by cases s.chip.id.hub <;> decide) (by simp only [Chip.rowIdx, Reg.TS_TXQ0])]
  rw [← hl]
  rfl

theorem exec_swqPop (hopen : s.chip.opens m 0x0D = true) :
    ∃ l, exec (.swqPop m) s = .next { s with
      chip := { s.chip.fresh with shadows := l, ts := { s.chip.ts with swq := s.chip.ts.swq.drop 1 } } } := by
  obtain ⟨l, hl⟩ := s.chip.fresh.latch_shadows m 0x0D 0x058 0
  refine ⟨l, ?_⟩
  show s.runMaster m (fun c => c.regRead m 0x0D058) = _
  rw [State.runMaster_rowRead (r := Reg.TS_SWQ0) (k := 0) (by decide) hopen
    (by cases s.chip.id.hub <;> decide) (by simp only [Chip.rowIdx, Reg.TS_SWQ0])]
  show Host.Outcome.next { s with chip := (s.chip.fresh.latch m 0x0D 0x058 0).readEffect m Reg.TS_SWQ0 0 0 } = _
  rw [hl]
  rfl

/-! ### Software stamps -/

/-- The edge of an input is seen by the pin counters; it changes the list of inputs seen at most. -/
theorem Chip.swEdge_eq (c : Chip) (i : Nat) : ∃ mn seen,
    c.swEdge i = { c with mn := mn, ts := { c.ts with swSeen := seen } } := by
  have hpin : ∀ r f, ∃ mn, c.pinEdges (0x430 + i) r f = { c with mn := mn } := by
    intro r f
    unfold Chip.pinEdges
    split
    · exact ⟨c.mn, rfl⟩
    · exact ⟨_, rfl⟩
  obtain ⟨mn, hmn⟩ := hpin 1 (if c.ts.swSeen.contains i then 1 else 0)
  unfold Chip.swEdge
  simp only [hmn]
  split
  · exact ⟨mn, c.ts.swSeen, rfl⟩
  · exact ⟨mn, i :: c.ts.swSeen, rfl⟩

/-- A software stamp lies within 2 µs of the present moment (R181). -/
theorem Chip.softStamp_within (c : Chip) :
    c.softStamp.1 ≤ c.now + 2000 * nsUnit ∧ c.now ≤ c.softStamp.1 + 2000 * nsUnit := by
  have hmod : ∀ n, n % (4000 * nsUnit + 1) < 4000 * nsUnit + 1 := fun n => Nat.mod_lt _ (Nat.succ_pos _)
  have hlt := hmod (c.takeFree.1.toNat * 2 ^ 32 + c.takeFree.2.takeFree.1.toNat)
  have hstamp : c.softStamp.1 = c.now + (c.takeFree.1.toNat * 2 ^ 32 + c.takeFree.2.takeFree.1.toNat)
      % (4000 * nsUnit + 1) - 4000 * nsUnit / 2 := rfl
  rw [hstamp]
  generalize (c.takeFree.1.toNat * 2 ^ 32 + c.takeFree.2.takeFree.1.toNat) % (4000 * nsUnit + 1) = k at hlt ⊢
  have hns : nsUnit = 4294967296 := rfl
  omega

/-- An edge of an input that has none waiting (R181): stamped while firmware runs, else it waits. -/
theorem exec_swevt (i : Fin 4) (hrst : s.chip.inReset = false) :
    ∃ mn seen, exec (.swevt i) s = .next { s with
      chip :=
        let c := { s.chip.fresh with mn := mn, ts := { s.chip.ts with swSeen := seen } }
        if s.chip.ts.swWait.contains i.val then c.swLost i.val
        else if s.chip.fw.running then c.softStamp.2.swEnter i.val c.softStamp.1
        else { c with ts := { c.ts with swWait := i.val :: c.ts.swWait } } } := by
  obtain ⟨mn, seen, hedge⟩ := s.chip.fresh.swEdge_eq i.val
  refine ⟨mn, seen, ?_⟩
  show execSwevt i s = _
  rw [execSwevt, State.run_eq hrst]
  simp only [show s.chip.newCycle = s.chip.fresh from rfl, hedge]
  rfl

/-- Settles O46: strobes at the taps, and the queues of stamps. -/
theorem macTapStamps : Obligations.MacTapStamps := by
  unfold Obligations.MacTapStamps
  refine ⟨?tx, ?rx, ?txOff, ?rxOff, ?txPop, ?swPop, ?event, ?waits, ?lost⟩
  case tx =>
    intro s mt fid cls phase hrst hcls hon hqueue hmiss hroom
    refine State.answers (exec_txSof_queues hrst hcls hon hqueue hmiss fid) fun d hd => ?_
    rw [Chip.txEnter_room (by rw [Chip.tsTap_modTs]; exact hroom)] at hd
    subst hd
    refine ⟨?_, ?_, ?_, fun j hj => ?_, rfl⟩
    · simp only [Chip.tsTap_modTs]; rfl
    · simp only [Chip.tsTap_modTs]
    · simp only [Chip.tsTap_modTs]
    · exact (Chip.tsTap_modTs_ne _ hj _).trans (Chip.tsTap_modTs_ne _ hj _)
  case rx =>
    intro s mt cls phase hrst hcls hon hmiss
    obtain ⟨at_, strobe, hexec⟩ := exec_rxSof hrst hcls hon hmiss
    refine State.answers hexec fun d hd => ?_
    subst hd
    simp only [Chip.tsTap_modTs, TsTap.received, true_and]
    rfl
  case txOff =>
    intro s mt fid cls phase hrst hoff
    exact ⟨_, exec_txSof_off hrst hoff fid cls phase, rfl, rfl, rfl⟩
  case rxOff =>
    intro s mt cls phase hrst hoff
    exact ⟨_, exec_rxSof_off hrst hoff cls phase, rfl, rfl, rfl⟩
  case txPop =>
    intro s m hopen
    obtain ⟨l, hexec⟩ := exec_txqPop hopen
    exact ⟨_, hexec, rfl, Chip.tsTap_modTs _ _ _, fun j hj => Chip.tsTap_modTs_ne _ hj _, rfl⟩
  case swPop =>
    intro s m hopen
    obtain ⟨l, hexec⟩ := exec_swqPop hopen
    exact ⟨_, hexec, rfl, rfl, rfl⟩
  case event =>
    intro s i hrst hwait hrun hroom
    obtain ⟨mn, seen, hexec⟩ := exec_swevt i hrst
    refine State.answers hexec fun d hd => ?_
    simp only [hwait, hrun, Bool.false_eq_true, if_false, if_true] at hd
    obtain ⟨hle, hge⟩ := Chip.softStamp_within { s.chip.fresh with mn := mn, ts := { s.chip.ts with swSeen := seen } }
    have hroom' : Chip.softStamp { s.chip.fresh with mn := mn, ts := { s.chip.ts with swSeen := seen } }
      |>.2.ts.swq.length < 8 := hroom
    simp only [Chip.swEnter, if_pos hroom'] at hd
    subst hd
    refine ⟨List.dropLast_concat, List.map_append, fun e he => ?_, rfl⟩
    have hlast : e = (i.val, (Chip.softStamp { s.chip.fresh with mn := mn, ts := { s.chip.ts with swSeen := seen } }).1) := by
      have hdrop : e ∈ (s.chip.ts.swq ++ [(i.val, (Chip.softStamp
          { s.chip.fresh with mn := mn, ts := { s.chip.ts with swSeen := seen } }).1)]).drop s.chip.ts.swq.length := he
      rwa [List.drop_left, List.mem_singleton] at hdrop
    rw [hlast]
    exact ⟨hle, hge⟩
  case waits =>
    intro s i hrst hwait hrun
    obtain ⟨mn, seen, hexec⟩ := exec_swevt i hrst
    refine State.answers hexec fun d hd => ?_
    simp only [hwait, hrun, Bool.false_eq_true, if_false] at hd
    subst hd
    exact ⟨rfl, rfl⟩
  case lost =>
    intro s i hrst hwait
    obtain ⟨mn, seen, hexec⟩ := exec_swevt i hrst
    refine State.answers hexec fun d hd => ?_
    simp only [hwait, if_true, Chip.swLost] at hd
    subst hd
    exact ⟨(congrArg TsState.swq (Chip.report_ts _ _ _) :), (congrArg TsState.swWait (Chip.report_ts _ _ _) :)⟩

end Sys2Proof.Machine
end

section
/-!
The flag of a report in the HIST of its page (R11, R43), read back.
-/

namespace Sys2Proof.Machine

variable (c : Chip)

/-- The history of a channel is not the HIST of its page. -/
theorem chanHist_addr {page : Nat} {r : RegRow} (h : chanHist page = some r) :
    r.addr 0 % 2 ^ 18 ≠ (histRow page).addr 0 % 2 ^ 18 := by
  unfold chanHist at h
  split at h
  case h_5 => contradiction
  all_goals
    injection h with h
    subst h
    decide

/-- Outside main reset a flag sets its bit in the page's HIST. -/
theorem Chip.flag_hist {p b : Nat} (chan : Option Nat) (hrst : c.inReset = false) (hb : b < 32) :
    Word.bit ((c.flag p b chan).reg (histRow p)) b = true := by
  have hset := c.reg_setReg (histRow p) (c.reg (histRow p) ||| Word.flag true b) 0 0 0
  unfold Chip.flag
  simp only [hrst, Bool.false_and, Bool.false_eq_true, if_false]
  rw [Chip.reg_eq_of_unraised (Chip.unraised_raise _ _ _ _)]
  split
  · next r i hrow =>
      rw [Chip.reg_setReg_ne _ (RegRow.key_ne_of_addr (i := 0) (i' := 0) (chanHist_addr hrow).symm _ _ _ _), hset]
      exact Word.bit_or_flag _ hb
  · rw [hset]
    exact Word.bit_or_flag _ hb

/-- Outside main reset a report sets its bit in the page's HIST; the recorder's own page apart, in which a lost record
shows too. -/
theorem Chip.report_hist {e : Ev} (r : Rep) (hrst : c.inReset = false) (hb : e.bit < 32)
    (hpage : (histRow e.page).key 0 0 0 ≠ (histRow 0x1F).key 0 0 0) :
    Word.bit ((c.report e r).reg (histRow e.page)) e.bit = true := by
  have hnote : Word.bit ((c.note e r.inst).reg (histRow e.page)) e.bit = true :=
    (c.count e.num r.inst).flag_hist r.inst ((Chip.count_inReset ..).trans hrst) hb
  unfold Chip.report
  dsimp only
  split
  · exact hnote
  · rw [Chip.record_reg _ hpage]
    exact hnote

end Sys2Proof.Machine
end

section
/-!
O47: plumb payloads, their exchanges and windows (R182 to R185).
-/

namespace Sys2Proof.Machine

variable {s : State}

/-! ### What the tap is after each part of a payload's handling -/

@[simp] theorem Chip.tsTap_report (c : Chip) (e : Ev) (r : Rep) (t : Nat) : (c.report e r).tsTap t = c.tsTap t := by
  simp [Chip.tsTap]

/-- SUSPECT is judged on the taps and leaves them (R185). -/
theorem Chip.suspectEval_taps (c : Chip) : c.suspectEval.ts.taps = c.ts.taps := by
  unfold Chip.suspectEval
  dsimp only
  split
  · simp
  · split <;> rfl

@[simp] theorem Chip.tsTap_suspectEval (c : Chip) (t : Nat) : c.suspectEval.tsTap t = c.tsTap t := by
  simp [Chip.tsTap, Chip.suspectEval_taps]

/-- A quorum of taps in alarm show one sign (R185). -/
def Chip.quorum (c : Chip) : Bool :=
  decide (oneIfZero (Word.field (c.reg Reg.TS_PLCFG) 16 4) ≤ c.alarms.length)
    && ((c.alarms.all fun v => decide (0 < v.2.theta)) || (c.alarms.all fun v => decide (v.2.theta < 0)))

theorem Chip.suspectEval_suspect (c : Chip) : c.suspectEval.ts.suspect = c.quorum := by
  have hq : c.quorum = (decide (oneIfZero (Word.field (c.reg Reg.TS_PLCFG) 16 4) ≤ c.alarms.length)
    && ((c.alarms.all fun v => decide (0 < v.2.theta)) || (c.alarms.all fun v => decide (v.2.theta < 0)))) := rfl
  unfold Chip.suspectEval
  dsimp only
  rw [← hq]
  cases hon : c.quorum
  · simp
  · cases hs : c.ts.suspect <;> simp

/-- SUSPECT names the active channel when it comes to stand, and is flagged. -/
theorem Chip.suspectEval_rises {c : Chip} (hrst : c.inReset = false) (hs : c.ts.suspect = false)
    (hon : c.suspectEval.ts.suspect = true) :
    c.suspectEval.ts.suspectPort = c.sv.chan ∧ Word.bit (c.suspectEval.reg (histRow 0x0D)) 3 = true := by
  rw [Chip.suspectEval_suspect, Chip.quorum] at hon
  unfold Chip.suspectEval
  simp only [hon, hs, Bool.not_false, Bool.and_self, if_true]
  refine ⟨by simp, ?_⟩
  exact Chip.report_hist _ (e := Event.TS_SUSPECT) _ hrst (by decide) (by decide)

theorem Chip.suspectEval_plcfg (c : Chip) : c.suspectEval.reg Reg.TS_PLCFG = c.reg Reg.TS_PLCFG := by
  unfold Chip.suspectEval
  dsimp only
  split
  · exact Chip.report_reg _ (e := Event.TS_SUSPECT) (q := Reg.TS_PLCFG) (i := 0) (by decide) _ _ _
  · split <;> rfl

/-- The quorum is as it was: the judgement leaves the taps and TS_PLCFG. -/
theorem Chip.suspectEval_quorum (c : Chip) : c.suspectEval.quorum = c.quorum := by
  rw [Chip.quorum, Chip.quorum, Chip.alarms, Chip.suspectEval_taps, Chip.suspectEval_plcfg, Chip.alarms]

theorem Chip.suspectEval_calm (c : Chip) :
    (c.suspectEval.tk, c.suspectEval.sv, c.suspectEval.id, c.suspectEval.inReset) = (c.tk, c.sv, c.id, c.inReset) := by
  unfold Chip.suspectEval
  dsimp only
  split
  · simp
  · split <;> rfl

/-- The tap at the end of its window (R184). -/
def TsTap.windowEnd (x : TsTap) (limit : Int) : TsTap :=
  let theta := divRound x.sumTheta (32 * unit64)
  { x with
    n := 0, sumTheta := 0, sumDelay := 0, theta := theta, delay := divRound x.sumDelay (32 * unit64), maxTheta := 0
    plValid := true, alarm := if x.alarm then thetaAbove theta (limit - 1000) else thetaAbove theta limit }

/-- The part once the window's means stand and the alarm has been judged on them. -/
def Chip.windowJudged (c : Chip) (t : Nat) : Chip :=
  let x := c.tsTap t
  let theta := divRound x.sumTheta (32 * unit64)
  let limit : Int := Word.field (c.reg Reg.TS_PLCFG) 0 16
  let c := c.modTs t fun x =>
    { x with n := 0, sumTheta := 0, sumDelay := 0, theta := theta, delay := divRound x.sumDelay (32 * unit64)
             maxTheta := 0, plValid := true }
  if !x.alarm && thetaAbove theta limit then
    (c.modTs t fun x => { x with alarm := true }).report Event.TS_PLUMB
      { p1 := fld t 8 0 ||| fld (commonLevel (c.tr.addr.getD 0) (x.nb.getD 0)) 4 8, p2 := wordOfInt theta
        inst := some t }
  else if x.alarm && !(thetaAbove theta (limit - 1000)) then
    (c.modTs t fun x => { x with alarm := false }).report Event.TS_PLUMB_CLR { inst := some t }
  else c

theorem Chip.plumbWindow_eq (c : Chip) (t : Nat) : c.plumbWindow t = (c.windowJudged t).suspectEval := rfl

theorem Chip.windowJudged_tsTap (c : Chip) (t : Nat) :
    (c.windowJudged t).tsTap t = (c.tsTap t).windowEnd (Word.field (c.reg Reg.TS_PLCFG) 0 16) := by
  unfold Chip.windowJudged TsTap.windowEnd
  dsimp only
  cases halarm : (c.tsTap t).alarm
  · cases habove : thetaAbove (divRound (c.tsTap t).sumTheta (32 * unit64))
      ((Word.field (c.reg Reg.TS_PLCFG) 0 16 : Nat) : Int) <;> simp [halarm]
  · cases habove : thetaAbove (divRound (c.tsTap t).sumTheta (32 * unit64))
      (((Word.field (c.reg Reg.TS_PLCFG) 0 16 : Nat) : Int) - 1000) <;> simp [halarm]

/-- What the judgement of the alarm leaves of the part. -/
theorem Chip.windowJudged_leaves (c : Chip) (t : Nat) :
    (c.windowJudged t).tk = c.tk ∧ (c.windowJudged t).sv = c.sv ∧ (c.windowJudged t).inReset = c.inReset
      ∧ (c.windowJudged t).ts.suspect = c.ts.suspect
      ∧ (c.windowJudged t).reg Reg.TS_PLCFG = c.reg Reg.TS_PLCFG := by
  have hreg : ∀ (d : Chip) (e : Ev) (r : Rep), e = Event.TS_PLUMB ∨ e = Event.TS_PLUMB_CLR →
      (d.report e r).reg Reg.TS_PLCFG = d.reg Reg.TS_PLCFG := by
    rintro d e r (rfl | rfl)
    · exact Chip.report_reg d (e := Event.TS_PLUMB) (q := Reg.TS_PLCFG) (i := 0) (by decide) r _ _
    · exact Chip.report_reg d (e := Event.TS_PLUMB_CLR) (q := Reg.TS_PLCFG) (i := 0) (by decide) r _ _
  unfold Chip.windowJudged
  dsimp only
  split
  · rw [hreg _ _ _ (.inl rfl)]
    simp [Chip.modTs]
    rfl
  · split
    · rw [hreg _ _ _ (.inr rfl)]
      simp [Chip.modTs]
      rfl
    · exact ⟨rfl, rfl, rfl, rfl, rfl⟩

/-! ### A payload -/

/-- The tap with the payload of its neighbour and the stamp of its strobe (R183). -/
def TsTap.takes (x : TsTap) (pay : List Word) : TsTap :=
  { x with
    got := (x.strobe.getD none).map fun v => (Word.field (pay.getD 0 0) 16 12, v.1, v.2)
    strobe := none }

/-- The tap with one more exchange. -/
def TsTap.exchanged (x : TsTap) (e : Int × Int) : TsTap :=
  { x with
    valid := satNat 16 (x.valid + 1), n := x.n + 1, sumTheta := x.sumTheta + e.1, sumDelay := x.sumDelay + e.2
    maxTheta := max x.maxTheta (divRound e.1 (2 * unit64)).natAbs }

/-- The frame of a payload, after the neighbour is known. -/
def Chip.plumbTaken (c : Chip) (t : Nat) (pay : List Word) : Chip :=
  match c.plumbValid t pay with
  | none => (c.modTs t fun x => x.takes pay).modTs t fun x => { x with skip := satNat 16 (x.skip + 1) }
  | some e =>
    let c := (c.modTs t fun x => x.takes pay).modTs t fun x => x.exchanged e
    if 16 ≤ (c.tsTap t).n then c.plumbWindow t else c

theorem Chip.plumbFrame_eq (c : Chip) (t : Nat) (pay : List Word) :
    c.plumbFrame t pay = (c.plumbNeighbour t (Word.field (pay.getD 1 0) 0 24)).plumbTaken t pay := by
  unfold Chip.plumbFrame Chip.plumbTaken
  dsimp only
  cases (c.plumbNeighbour t (Word.field (pay.getD 1 0) 0 24)).plumbValid t pay <;> rfl

/-- What a window's end leaves of a tap: the neighbour, its payload, and the frames sent. -/
def TsTap.known (x : TsTap) : Option Nat × Option (Nat × Nat × Nat) × Option (Option (Nat × Nat)) × List (Nat × Nat × Nat) :=
  (x.nb, x.got, x.strobe, x.sent)

theorem Chip.plumbTaken_known (c : Chip) (t : Nat) (pay : List Word) :
    ((c.plumbTaken t pay).tsTap t).known = ((c.tsTap t).takes pay).known := by
  unfold Chip.plumbTaken
  split
  · simp only [Chip.tsTap_modTs]
    rfl
  · dsimp only
    split
    · rw [Chip.plumbWindow_eq, Chip.tsTap_suspectEval, Chip.windowJudged_tsTap, Chip.tsTap_modTs, Chip.tsTap_modTs]
      rfl
    · rw [Chip.tsTap_modTs, Chip.tsTap_modTs]
      rfl

/-- The neighbour that a payload names is the tap's (R184). -/
theorem Chip.plumbNeighbour_knows (c : Chip) (t addr : Nat) :
    ((c.plumbNeighbour t addr).tsTap t).nb = some addr
      ∧ ((c.plumbNeighbour t addr).tsTap t).strobe = (c.tsTap t).strobe
      ∧ ((c.plumbNeighbour t addr).tsTap t).sent = (c.tsTap t).sent := by
  unfold Chip.plumbNeighbour
  split
  · next a hnb =>
      split
      · next h => subst h; exact ⟨hnb, rfl, rfl⟩
      · simp
  · simp

theorem Chip.plumbNeighbour_same {c : Chip} {t addr : Nat} (h : (c.tsTap t).nb = some addr) :
    c.plumbNeighbour t addr = c := by
  simp [Chip.plumbNeighbour, h]

/-- A payload that follows a strobe at a tap whose check runs (R182). -/
structure State.Plumbs (s : State) (mt : MacTap) : Prop where
  running : s.chip.inReset = false
  die : s.chip.id.hub = false
  on : s.chip.plumbOn mt.val = true
  strobed : (s.chip.tsTap mt.val).strobe ≠ none

theorem exec_plumbReceive {mt : MacTap} {l : List Word} (h : s.Plumbs mt) (hformat : Word.field (l.getD 0 0) 28 4 = 1)
    (haddr : Word.bit (l.getD 1 0) 31 = true) :
    exec (.plumbReceive mt l) s = .next { s with chip := s.chip.fresh.plumbFrame mt.val l } := by
  have hon : s.chip.newCycle.plumbOn mt.val = true := h.on
  have hstrobe : (s.chip.newCycle.tsTap mt.val).strobe.isNone = false := by
    rw [Option.isNone_eq_false_iff, Option.isSome_iff_ne_none]
    exact h.strobed
  refine (State.runDie_eq h.die h.running _).trans ?_
  simp only [hon, hstrobe, hformat, haddr, Bool.not_true, Bool.or_self, bne_self_eq_false, Bool.false_eq_true, if_false]

theorem exec_plumbReceive_discards {mt : MacTap} {l : List Word} (h : s.Plumbs mt)
    (hbad : Word.field (l.getD 0 0) 28 4 ≠ 1 ∨ Word.bit (l.getD 1 0) 31 = false) :
    exec (.plumbReceive mt l) s = .next { s with chip := s.chip.fresh.plumbDiscard mt.val } := by
  have hon : s.chip.newCycle.plumbOn mt.val = true := h.on
  have hstrobe : (s.chip.newCycle.tsTap mt.val).strobe.isNone = false := by
    rw [Option.isNone_eq_false_iff, Option.isSome_iff_ne_none]
    exact h.strobed
  have hbad' : (Word.field (l.getD 0 0) 28 4 != 1 || !Word.bit (l.getD 1 0) 31) = true := by simpa using hbad
  refine (State.runDie_eq h.die h.running _).trans ?_
  simp only [hon, hstrobe, hbad', Bool.not_true, Bool.or_self, Bool.false_eq_true, if_false, if_true]

theorem Chip.plumbDiscard_tsTap (c : Chip) (t : Nat) :
    (c.plumbDiscard t).tsTap t = { c.tsTap t with strobe := none } := by
  simp [Chip.plumbDiscard]

/-! ### The exchange of a payload -/

/-- Both ends are valid, the stamps are held and no step lies between (R183). -/
def Chip.exchangeGood (c : Chip) (pay : List Word) (g e : Nat × Nat × Nat) : Bool :=
  Word.bit (pay.getD 0 0) 12 && (Word.field (pay.getD 0 0) 13 3 == 2 || Word.field (pay.getD 0 0) 13 3 == 3) && c.tk.valid
    && (c.sv.mode == .locked || c.sv.mode == .holdover) && Word.bit (pay.getD 0 0) 11 && Word.bit (pay.getD 0 0) 10
    && !(Word.bit (pay.getD 0 0) 9) && (g.1 + 1) % 4096 == Word.field (pay.getD 0 0) 16 12 && g.2.2 == e.2.2

/-- The exchange of t1 to t4 that a payload forms with what is held. -/
def payloadExchange (pay : List Word) (g e : Nat × Nat × Nat) : Int × Int :=
  plumbExchange (Word.join (pay.getD 2 0) (pay.getD 3 0)).toNat (g.2.1 % 2 ^ 64) (e.2.1 % 2 ^ 64)
    (Word.join (pay.getD 4 0) (pay.getD 5 0)).toNat

theorem Chip.plumbValid_eq {c : Chip} {t : Nat} {pay : List Word} {g e : Nat × Nat × Nat}
    (hgot : (c.tsTap t).got = some g)
    (hsent : ((c.tsTap t).sent.find? fun e => e.1 == Word.field (pay.getD 6 0) 16 12) = some e) :
    c.plumbValid t pay = if c.exchangeGood pay g e then some (payloadExchange pay g e) else none := by
  simp only [Chip.plumbValid, hgot, hsent, Chip.exchangeGood, payloadExchange]
  rfl

/-- A payload of the known neighbour that forms no exchange is skipped and counted. -/
theorem Chip.plumbFrame_skips {c : Chip} {t : Nat} {pay : List Word}
    (hnb : (c.tsTap t).nb = some (Word.field (pay.getD 1 0) 0 24)) (hvalid : c.plumbValid t pay = none) :
    c.plumbFrame t pay =
      (c.modTs t fun x => x.takes pay).modTs t fun x => { x with skip := satNat 16 (x.skip + 1) } := by
  rw [Chip.plumbFrame_eq, Chip.plumbNeighbour_same hnb, Chip.plumbTaken, hvalid]

/-- A payload of the known neighbour that forms an exchange adds it to the window. -/
theorem Chip.plumbFrame_exchanges {c : Chip} {t : Nat} {pay : List Word} {e : Int × Int}
    (hnb : (c.tsTap t).nb = some (Word.field (pay.getD 1 0) 0 24)) (hvalid : c.plumbValid t pay = some e) :
    c.plumbFrame t pay =
      if 16 ≤ (c.tsTap t).n + 1 then
        ((c.modTs t fun x => x.takes pay).modTs t fun x => x.exchanged e).plumbWindow t
      else (c.modTs t fun x => x.takes pay).modTs t fun x => x.exchanged e := by
  have hn : (((c.modTs t fun x => x.takes pay).modTs t fun x => x.exchanged e).tsTap t).n = (c.tsTap t).n + 1 := by
    rw [Chip.tsTap_modTs, Chip.tsTap_modTs]
    rfl
  rw [Chip.plumbFrame_eq, Chip.plumbNeighbour_same hnb, Chip.plumbTaken, hvalid]
  simp only [hn]

/-- What an exchange needs of both ends, of the stamps and of the steps (R183). -/
structure ExchangeHolds (c : Chip) (l : List Word) (g e : Nat × Nat × Nat) : Prop where
  farValid : Word.bit (l.getD 0 0) 12 = true
  farMode : Word.field (l.getD 0 0) 13 3 = 2 ∨ Word.field (l.getD 0 0) 13 3 = 3
  farTx : Word.bit (l.getD 0 0) 11 = true
  farRx : Word.bit (l.getD 0 0) 10 = true
  farStill : Word.bit (l.getD 0 0) 9 = false
  valid : c.tk.valid = true
  mode : c.sv.mode = .locked ∨ c.sv.mode = .holdover
  next : (g.1 + 1) % 4096 = Word.field (l.getD 0 0) 16 12
  still : g.2.2 = e.2.2

theorem ExchangeHolds.good {c : Chip} {l : List Word} {g e : Nat × Nat × Nat} (h : ExchangeHolds c l g e) :
    c.exchangeGood l g e = true := by
  have hfar : (Word.field (l.getD 0 0) 13 3 == 2 || Word.field (l.getD 0 0) 13 3 == 3) = true := by
    simpa using h.farMode
  have hmode : (c.sv.mode == .locked || c.sv.mode == .holdover) = true := by
    rcases h.mode with hm | hm <;> rw [hm] <;> decide
  simp only [Chip.exchangeGood, hfar, hmode, h.farValid, h.farTx, h.farRx, h.farStill, h.valid, h.next, h.still,
    beq_self_eq_true, Bool.not_false, Bool.and_self]

/-- One unmet condition and the exchange is skipped. -/
theorem Chip.exchangeGood_false {c : Chip} {l : List Word} {g e : Nat × Nat × Nat}
    (h : Word.bit (l.getD 0 0) 12 = false ∨ Word.bit (l.getD 0 0) 11 = false ∨ Word.bit (l.getD 0 0) 10 = false
      ∨ Word.bit (l.getD 0 0) 9 = true ∨ c.tk.valid = false ∨ (c.sv.mode ≠ .locked ∧ c.sv.mode ≠ .holdover)
      ∨ (g.1 + 1) % 4096 ≠ Word.field (l.getD 0 0) 16 12 ∨ g.2.2 ≠ e.2.2) :
    c.exchangeGood l g e = false := by
  by_contra hgood
  simp only [Bool.not_eq_false, Chip.exchangeGood, Bool.and_eq_true, Bool.or_eq_true, beq_iff_eq, Bool.not_eq_true'] at hgood
  obtain ⟨⟨⟨⟨⟨⟨⟨⟨h12, -⟩, hvalid⟩, hmode⟩, h11⟩, h10⟩, h9⟩, hnext⟩, hstill⟩ := hgood
  rcases h with h | h | h | h | h | ⟨hl, hh⟩ | h | h
  · exact Bool.false_ne_true (h.symm.trans h12)
  · exact Bool.false_ne_true (h.symm.trans h11)
  · exact Bool.false_ne_true (h.symm.trans h10)
  · exact Bool.false_ne_true (h9.symm.trans h)
  · exact Bool.false_ne_true (h.symm.trans hvalid)
  · exact hmode.elim hl hh
  · exact h hnext
  · exact h hstill

/-- The window of an exchange that ends it. -/
theorem Chip.plumbWindow_leaves (c : Chip) (t : Nat) :
    (c.plumbWindow t).tk = c.tk ∧ (c.plumbWindow t).sv = c.sv
      ∧ (c.plumbWindow t).tsTap t = (c.tsTap t).windowEnd (Word.field (c.reg Reg.TS_PLCFG) 0 16)
      ∧ (c.plumbWindow t).ts.suspect = (c.plumbWindow t).quorum
      ∧ (c.plumbWindow t).reg Reg.TS_PLCFG = c.reg Reg.TS_PLCFG := by
  obtain ⟨htk, hsv, -, -, hplcfg⟩ := c.windowJudged_leaves t
  have hcalm := (c.windowJudged t).suspectEval_calm
  simp only [Prod.mk.injEq] at hcalm
  rw [Chip.plumbWindow_eq, Chip.tsTap_suspectEval, Chip.windowJudged_tsTap, Chip.suspectEval_suspect,
    Chip.suspectEval_quorum, Chip.suspectEval_plcfg]
  exact ⟨hcalm.1.trans htk, hcalm.2.1.trans hsv, rfl, rfl, hplcfg⟩

/-- SUSPECT that comes to stand at the end of a window names the active channel. -/
theorem Chip.plumbWindow_rises {c : Chip} {t : Nat} (hrst : c.inReset = false) (hs : c.ts.suspect = false)
    (hon : (c.plumbWindow t).ts.suspect = true) :
    (c.plumbWindow t).ts.suspectPort = c.sv.chan ∧ Word.bit ((c.plumbWindow t).reg (histRow 0x0D)) 3 = true := by
  obtain ⟨-, hsv, hrst', hsus, -⟩ := c.windowJudged_leaves t
  have hrises := Chip.suspectEval_rises (hrst'.trans hrst) (hsus.trans hs) hon
  rwa [hsv] at hrises

/-- Settles O47: a payload names the neighbour before it is judged, an exchange adds to the window where every
condition of R183 holds, and the sixteenth ends it. -/
theorem plumbPayloads : Obligations.PlumbPayloads := by
  unfold Obligations.PlumbPayloads
  refine ⟨fun s mt hrst hhub hon => ?send, fun s mt l hrst hhub hon hstrobe hformat haddr => ?receive,
    fun s mt l hrst hhub hon hstrobe hbad => ?discard, fun s mt hrst hhub hstrobe => ?timeout,
    fun s mt l g e hrst hhub hon hstrobe hformat haddr hnb hgot hsent h12 hfar h11 h10 h9 hvalid hmode hnext hstill hn =>
      ?exchange,
    fun s mt l g e hrst hhub hon hstrobe hformat haddr hnb hgot hsent h12 hfar h11 h10 h9 hvalid hmode hnext hstill hn =>
      ?window,
    fun s mt l hrst hhub hon hstrobe hformat haddr hnb hnone => ?skip,
    fun s mt l g e hrst hhub hon hstrobe hformat haddr hnb hgot hsent hbad => ?unmet⟩
  case send =>
    have hon' : s.chip.newCycle.plumbOn mt.val = true := hon
    refine State.answers ((State.runDie_eq hhub hrst _).trans (by simp only [hon', if_true]; rfl)) fun d hd => ?_
    subst hd
    exact ⟨by rw [Chip.tsTap_modTs]; rfl, rfl⟩
  case receive =>
    refine State.answers (exec_plumbReceive ⟨hrst, hhub, hon, hstrobe⟩ hformat haddr) fun d hd => ?_
    obtain ⟨hnb, hst, hsent⟩ := s.chip.fresh.plumbNeighbour_knows mt.val (Word.field (l.getD 1 0) 0 24)
    have hknown := (s.chip.fresh.plumbNeighbour mt.val (Word.field (l.getD 1 0) 0 24)).plumbTaken_known mt.val l
    simp only [TsTap.known, TsTap.takes, Prod.mk.injEq, hnb, hst, hsent] at hknown
    rw [hd, Chip.plumbFrame_eq]
    obtain ⟨hnb', hgot', hst', hsent'⟩ := hknown
    exact ⟨hgot', hnb', hst', hsent'⟩
  case discard =>
    refine State.answers (exec_plumbReceive_discards ⟨hrst, hhub, hon, hstrobe⟩ hbad) fun d hd => ?_
    rw [hd, Chip.plumbDiscard_tsTap]
    rfl
  case timeout =>
    have hstrobe' : (s.chip.newCycle.tsTap mt.val).strobe.isSome = true := Option.isSome_iff_ne_none.mpr hstrobe
    refine State.answers ((State.runDie_eq hhub hrst _).trans (by rw [hstrobe', if_pos rfl])) fun d hd => ?_
    rw [hd]
    refine ⟨Chip.plumbDiscard_tsTap _ _, ?_⟩
    simp [Chip.plumbDiscard, Chip.modTs]
    rfl
  case exchange =>
    have hgood : s.chip.fresh.exchangeGood l g e = true :=
      ExchangeHolds.good ⟨h12, hfar, h11, h10, h9, hvalid, hmode, hnext, hstill⟩
    have hpv : s.chip.fresh.plumbValid mt.val l = some (payloadExchange l g e) := by
      rw [Chip.plumbValid_eq (c := s.chip.fresh) hgot hsent, hgood, if_pos rfl]
    refine State.answers (exec_plumbReceive ⟨hrst, hhub, hon, hstrobe⟩ hformat haddr) fun d hd => ?_
    rw [hd, Chip.plumbFrame_exchanges (c := s.chip.fresh) hnb hpv, if_neg (by exact Nat.not_le.mpr hn),
      Chip.tsTap_modTs, Chip.tsTap_modTs]
    exact ⟨rfl, rfl, rfl, rfl, rfl, rfl, rfl⟩
  case window =>
    have hgood : s.chip.fresh.exchangeGood l g e = true :=
      ExchangeHolds.good ⟨h12, hfar, h11, h10, h9, hvalid, hmode, hnext, hstill⟩
    have hpv : s.chip.fresh.plumbValid mt.val l = some (payloadExchange l g e) := by
      rw [Chip.plumbValid_eq (c := s.chip.fresh) hgot hsent, hgood, if_pos rfl]
    refine State.answers (exec_plumbReceive ⟨hrst, hhub, hon, hstrobe⟩ hformat haddr) fun d hd => ?_
    rw [hd, Chip.plumbFrame_exchanges (c := s.chip.fresh) hnb hpv, if_pos (by exact hn.ge)]
    obtain ⟨htk, hsv, htap, hsus, hplcfg⟩ := ((s.chip.fresh.modTs mt.val fun x => x.takes l).modTs mt.val fun x =>
      x.exchanged (payloadExchange l g e)).plumbWindow_leaves mt.val
    rw [htap, htk, hsv, Chip.tsTap_modTs, Chip.tsTap_modTs]
    refine ⟨rfl, rfl, rfl, rfl, rfl, rfl, rfl, hsus.trans (by rw [Chip.quorum, hplcfg]; rfl), fun hon hwas => ?_, rfl, rfl⟩
    exact Chip.plumbWindow_rises (c := (s.chip.fresh.modTs mt.val fun x => x.takes l).modTs mt.val fun x =>
      x.exchanged (payloadExchange l g e)) hrst hwas hon
  case skip =>
    refine State.answers (exec_plumbReceive ⟨hrst, hhub, hon, hstrobe⟩ hformat haddr) fun d hd => ?_
    rw [hd, Chip.plumbFrame_skips (c := s.chip.fresh) hnb hnone, Chip.tsTap_modTs, Chip.tsTap_modTs]
    exact ⟨rfl, rfl, rfl, rfl, rfl, rfl⟩
  case unmet =>
    have hpv : s.chip.fresh.plumbValid mt.val l = none := by
      rw [Chip.plumbValid_eq (c := s.chip.fresh) hgot hsent, Chip.exchangeGood_false (c := s.chip.fresh) hbad]
      rfl
    refine State.answers (exec_plumbReceive ⟨hrst, hhub, hon, hstrobe⟩ hformat haddr) fun d hd => ?_
    rw [hd, Chip.plumbFrame_skips (c := s.chip.fresh) hnb hpv, Chip.tsTap_modTs, Chip.tsTap_modTs]
    exact ⟨rfl, rfl, rfl, rfl⟩

end Sys2Proof.Machine
end

section
/-!
O48: the pulse outputs (R186 to R190) and the faults of their pins (R192).
-/

namespace Sys2Proof.Machine

variable {s : State}

/-! ### What the parts of an output's handling leave -/

@[simp] theorem Chip.po1_modPo (c : Chip) (o : Nat) (f : PoOut → PoOut) : (c.modPo o f).po1 o = f (c.po1 o) := by
  simp [Chip.modPo, Chip.po1]

@[simp] theorem Chip.po1_report (c : Chip) (e : Ev) (r : Rep) (o : Nat) : (c.report e r).po1 o = c.po1 o := by
  simp [Chip.po1]

/-- A pin counter counts in the monitors alone (R348). -/
theorem Chip.pinEdges_eq (c : Chip) (src rise fall : Nat) : c.pinEdges src rise fall = { c with mn := (c.pinEdges src rise fall).mn } := by
  unfold Chip.pinEdges
  split <;> rfl

theorem Chip.poEdges_eq (c before : Chip) (o : Nat) : c.poEdges before o = { c with mn := (c.poEdges before o).mn } := by
  unfold Chip.poEdges
  split
  · exact Chip.pinEdges_eq ..
  · exact Chip.pinEdges_eq ..
  · rfl

@[simp] theorem Chip.poEdges_po (c before : Chip) (o : Nat) : (c.poEdges before o).po = c.po := by rw [Chip.poEdges_eq]

@[simp] theorem Chip.poEdges_regs (c before : Chip) (o : Nat) : (c.poEdges before o).regs = c.regs := by
  rw [Chip.poEdges_eq]

@[simp] theorem Chip.po1_poEdges (c before : Chip) (o k : Nat) : (c.poEdges before o).po1 k = c.po1 k := by
  simp only [Chip.po1, Chip.poEdges_po]

@[simp] theorem Chip.guardRefuse_po (c : Chip) (e : Ev) (m : Master) (addr : Nat) (value bound : Word) :
    (c.guardRefuse e m addr value bound).po = c.po := (congrArg Chip.po (Chip.guardRefuse_calm c e m addr value bound) :)

/-! ### The outputs' control register -/

theorem Chip.rowWrite_poCtrl (c : Chip) (m : Master) (k : Nat) (w : Word) :
    c.rowWrite { m := m, row := Reg.PO_CTRL, i := 0, idx := k, w := w } =
      let armed := if Word.bit w 0 then c.poArm k m w else (c, false)
      (armed.1.onBit w 1 fun c => c.poDisarm k, if armed.2 then some 7 else none) := by
  simp only [Chip.rowWrite, Chip.writePo, Reg.PO_CTRL]

/-- A write of PO_CTRL reaches the selected output. -/
theorem exec_poCtrl {m : Master} {w : Word} (hopen : s.chip.opens m 0x0E = true) {d : Chip} {g : Option Nat}
    (hwrite : s.chip.fresh.rowWrite { m := m, row := Reg.PO_CTRL, i := 0, idx := s.chip.chanOf m 0x0E, w := w } = (d, g)) :
    s.runMaster m (fun c => c.regWrite m 0x0E404 w) = .next { s with chip := d } :=
  State.runMaster_rowWrite (r := Reg.PO_CTRL) (by decide) hopen (by decide) (by decide) rfl (Bool.and_false _)
    (by simp only [Chip.rowIdx, Reg.PO_CTRL]) (by simp only [Chip.fitWord, Reg.PO_CTRL]) hwrite

/-- An ARM is no DISARM. -/
theorem armWord_bits (w : Word) : Word.bit (w &&& 0xFFFFFFFD ||| 1) 0 = true ∧ Word.bit (w &&& 0xFFFFFFFD ||| 1) 1 = false := by
  simp [Word.bit]

theorem exec_pulseArm {m : Master} (hopen : s.chip.opens m 0x0E = true) (w : Word) :
    exec (.pulseArm m w) s =
      .next { s with chip := (s.chip.fresh.poArm (s.chip.chanOf m 0x0E) m (w &&& 0xFFFFFFFD ||| 1)).1 } := by
  obtain ⟨harm, hdis⟩ := armWord_bits w
  show s.runMaster m (fun c => c.regWrite m 0x0E404 (w &&& 0xFFFFFFFD ||| 1)) = _
  exact exec_poCtrl hopen (by
    rw [Chip.rowWrite_poCtrl]
    simp only [harm, if_true, Chip.onBit, hdis, Bool.false_eq_true, if_false]
    rfl)

theorem exec_pulseDisarm {m : Master} (hopen : s.chip.opens m 0x0E = true) :
    exec (.pulseDisarm m) s = .next { s with chip := s.chip.fresh.poDisarm (s.chip.chanOf m 0x0E) } := by
  show s.runMaster m (fun c => c.regWrite m 0x0E404 2) = _
  exact exec_poCtrl hopen (by rw [Chip.rowWrite_poCtrl]; rfl)

/-! ### Edges -/

/-- A rising edge is pending only at an armed output with pulses left (R187). -/
theorem PoOut.rising_armed {x : PoOut} (h : x.rising = true) : ∃ a, x.armed = some a := by
  unfold PoOut.rising at h
  split at h
  · next a ha => exact ⟨a, ha⟩
  · contradiction

/-- A grid point that has passed counts, and leaves the level and the pulses done. -/
theorem PoOut.advance_armed {x : PoOut} {a : PulseArm} (h : x.armed = some a) :
    x.advance.k = x.k + 1 ∧ x.advance.high = x.high ∧ x.advance.done = x.done ∧ x.advance.rose = x.rose
      ∧ x.advance.fall = x.fall := by
  unfold PoOut.advance
  rw [h]
  dsimp only
  split <;> exact ⟨rfl, rfl, rfl, rfl, rfl⟩

/-- The fall of a pulse: the pulse has been issued. -/
theorem Chip.poFall_po1 (c : Chip) (o : Nat) :
    ((c.poFall o).po1 o).high = false ∧ ((c.poFall o).po1 o).done = ((c.po1 o).done + 1) % 2 ^ 32
      ∧ ((c.poFall o).po1 o).lastFall = some (max (c.po1 o).fall (c.po1 o).rose) := by
  rw [Chip.poFall, Chip.po1_modPo]
  dsimp only
  split <;> exact ⟨rfl, rfl, rfl⟩

/-- The rise of a pulse, where it is not withheld. -/
theorem Chip.poRise_driven {c : Chip} {o : Nat} {a : PulseArm} (harmed : (c.po1 o).armed = some a)
    (hvalid : Word.bit (c.poCfg o) 28 = false ∨ c.tk.valid = true) :
    ((c.poRise o).po1 o).high = true ∧ ((c.poRise o).po1 o).rose = c.poEarliest (c.po1 o)
      ∧ ((c.poRise o).po1 o).fall = c.poEarliest (c.po1 o) + a.wid ∧ ((c.poRise o).po1 o).k = (c.po1 o).k + 1 := by
  have hdrive : (Word.bit (c.poCfg o) 28 && !c.tk.valid) = false := by
    rcases hvalid with h | h <;> simp [h]
  have hpo1 : (c.poRise o).po1 o = PoOut.advance { c.po1 o with
      high := true, rose := c.poEarliest (c.po1 o), fall := c.poEarliest (c.po1 o) + a.wid } := by
    simp only [Chip.poRise, hdrive, Bool.false_eq_true, if_false, harmed, Option.map_some, Option.getD_some,
      Chip.po1_modPo]
    split
    · simp only [Chip.po1_report, harmed]
    · simp only [harmed]
  obtain ⟨hk, hhigh, -, hrose, hfall⟩ := PoOut.advance_armed (x := { c.po1 o with
      high := true, rose := c.poEarliest (c.po1 o), fall := c.poEarliest (c.po1 o) + a.wid }) harmed
  rw [hpo1]
  exact ⟨hhigh, hrose, hfall, hk⟩

/-- The rise of a pulse that waits for valid time (R190). -/
theorem Chip.poRise_withheld {c : Chip} {o : Nat} (hwaits : Word.bit (c.poCfg o) 28 = true) (hvalid : c.tk.valid = false) :
    (c.poRise o).po1 o = (c.po1 o).advance := by
  have hno : (Word.bit (c.poCfg o) 28 && !c.tk.valid) = true := by rw [hwaits, hvalid]; rfl
  simp only [Chip.poRise, hno, if_true, Chip.po1_report, Chip.po1_modPo]

theorem exec_pulseEdge_fall {o : OutPin} (hrst : s.chip.inReset = false) (hhigh : (s.chip.po1 o.val).high = true)
    (hdue : (s.chip.po1 o.val).fall ≤ s.chip.now + s.chip.poLead o.val) :
    exec (.pulseEdge o) s = .next { s with chip := (s.chip.fresh.poFall o.val).poEdges s.chip.fresh o.val } := by
  have hhigh' : (s.chip.newCycle.po1 o.val).high = true := hhigh
  have hdue' : (s.chip.newCycle.po1 o.val).fall ≤ s.chip.newCycle.now + s.chip.newCycle.poLead o.val := hdue
  show execPulseEdge o s = _
  rw [execPulseEdge, State.run_eq hrst]
  simp only [hhigh', hdue', if_true]

theorem exec_pulseEdge_rise {o : OutPin} (hrst : s.chip.inReset = false) (hlow : (s.chip.po1 o.val).high = false)
    (hrising : (s.chip.po1 o.val).rising = true)
    (hdue : s.chip.poEarliest (s.chip.po1 o.val) ≤ s.chip.now + s.chip.poLead o.val) :
    exec (.pulseEdge o) s = .next { s with chip := (s.chip.fresh.poRise o.val).poEdges s.chip.fresh o.val } := by
  have hlow' : (s.chip.newCycle.po1 o.val).high = false := hlow
  have hrising' : (s.chip.newCycle.po1 o.val).rising = true := hrising
  have hdue' : s.chip.newCycle.poEarliest (s.chip.newCycle.po1 o.val) ≤ s.chip.newCycle.now + s.chip.newCycle.poLead o.val := hdue
  show execPulseEdge o s = _
  rw [execPulseEdge, State.run_eq hrst]
  simp only [hlow', hrising', hdue', Bool.false_eq_true, if_false, decide_true, Bool.and_self, if_true]

theorem exec_pulseEdge_early {o : OutPin} (hrst : s.chip.inReset = false) (hlow : (s.chip.po1 o.val).high = false)
    (hearly : s.chip.now + s.chip.poLead o.val < s.chip.poEarliest (s.chip.po1 o.val)) :
    exec (.pulseEdge o) s = .next { s with chip := s.chip.fresh } := by
  have hlow' : (s.chip.newCycle.po1 o.val).high = false := hlow
  have hearly' : ¬ s.chip.newCycle.poEarliest (s.chip.newCycle.po1 o.val) ≤ s.chip.newCycle.now + s.chip.newCycle.poLead o.val :=
    Nat.not_le.mpr hearly
  show execPulseEdge o s = _
  rw [execPulseEdge, State.run_eq hrst]
  simp only [hlow', hearly', Bool.false_eq_true, if_false, decide_false, Bool.and_false]

/-! ### Arming -/

/-- The armed output is busy. -/
theorem Chip.poArm_busy {c : Chip} {o : Nat} {m : Master} {w : Word} (h : (c.po1 o).armed ≠ none) :
    (c.poArm o m w).1.po = c.po := by
  simp [Chip.poArm, Option.isSome_iff_ne_none.mpr h, Chip.poBusy]

/-- An ARM that breaks a bound of the Guard is refused (R188). -/
theorem Chip.poArm_breaks {c : Chip} {o : Nat} {m : Master} {w : Word} (h : (c.po1 o).armed = none)
    (hbreaks : c.poBreaks (c.poArmOf o) = true) : (c.poArm o m w).1.po = c.po := by
  simp [Chip.poArm, h, hbreaks]

theorem Chip.poArm_arms {c : Chip} {o : Nat} {m : Master} {w : Word} (h : (c.po1 o).armed = none)
    (hbreaks : c.poBreaks (c.poArmOf o) = false) (hlong : poTooLong (c.poArmOf o) = false) :
    (c.poArm o m w).1 = c.modPo o fun x =>
      { x with
        armed := some { c.poArmOf o with start := firstDue (c.poArmOf o) c.now (c.tk.stamp (c.tk.frc + 1) 0) }, k := 0
        next := firstDue (c.poArmOf o) c.now (c.tk.stamp (c.tk.frc + 1) 0), done := 0, openLoad := false } := by
  simp [Chip.poArm, h, hbreaks, hlong]

/-! ### The pins -/

/-- A pin that is powered, set to drive and not disabled shows its level (R192). -/
theorem Chip.poPin_drives {c : Chip} {o : Nat} (hio : c.pw.io = true) (hdrive : c.poDrive o ≠ 0)
    (hon : (c.po1 o).disabled = false) : c.poPin o = some (c.poLevel o) := by
  simp [Chip.poPin, hio, hdrive, hon]

/-- Settles O48: an arm, an edge and a pin fault each change the one output they name. -/
theorem pulseOutputs : Obligations.PulseOutputs := by
  unfold Obligations.PulseOutputs
  refine ⟨fun s m w hopen hnone hbreaks hlong => ?arms, fun s m w hopen harmed => ?busy,
    fun s m w hopen hnone hbreaks => ?breaks, fun s m hopen => ?disarm, fun s o hrst hhigh hdue => ?fall,
    fun s o hrst hlow hrising hdue hvalid => ?rise, fun s o hrst hlow hrising hdue hwaits hvalid => ?withheld,
    fun s o hrst hlow hearly => ?early, fun s o hrst hio hdrive hon => ?short, fun s o still hrst hio hoff => ?retry,
    fun s o hrst hio hdrive hlevel hon => ?openLoad, fun s o hhub hrst hio hbias => ?openIn,
    fun s u hrst hio hplain => ?uart⟩
  case arms =>
    refine State.answers (exec_pulseArm hopen w) fun d hd => ?_
    rw [hd, Chip.poArm_arms (c := s.chip.fresh) hnone hbreaks hlong, Chip.po1_modPo]
    exact ⟨rfl, rfl, rfl, rfl, rfl, rfl⟩
  case busy =>
    refine State.answers (exec_pulseArm hopen w) fun d hd => ?_
    rw [hd]
    exact Chip.poArm_busy (c := s.chip.fresh) harmed
  case breaks =>
    refine State.answers (exec_pulseArm hopen w) fun d hd => ?_
    rw [hd]
    exact Chip.poArm_breaks (c := s.chip.fresh) hnone hbreaks
  case disarm =>
    refine State.answers (exec_pulseDisarm hopen) fun d hd => ?_
    rw [hd, Chip.poDisarm, Chip.po1_modPo]
    exact ⟨rfl, rfl⟩
  case fall =>
    refine State.answers (exec_pulseEdge_fall hrst hhigh hdue) fun d hd => ?_
    rw [hd, Chip.po1_poEdges, Chip.poEdges_regs]
    obtain ⟨hlow, hdone, hlast⟩ := s.chip.fresh.poFall_po1 o.val
    exact ⟨hlow, hdone, hlast, rfl⟩
  case rise =>
    obtain ⟨a, harmed⟩ := PoOut.rising_armed hrising
    refine State.answers (exec_pulseEdge_rise hrst hlow hrising hdue) fun d hd => ?_
    rw [hd, Chip.po1_poEdges, harmed]
    exact Chip.poRise_driven (c := s.chip.fresh) harmed hvalid
  case withheld =>
    obtain ⟨a, harmed⟩ := PoOut.rising_armed hrising
    refine State.answers (exec_pulseEdge_rise hrst hlow hrising hdue) fun d hd => ?_
    rw [hd, Chip.po1_poEdges, Chip.poRise_withheld (c := s.chip.fresh) hwaits hvalid]
    obtain ⟨hk, hhigh, hdone, -, -⟩ := PoOut.advance_armed harmed
    exact ⟨hhigh.trans hlow, hk, hdone⟩
  case early =>
    refine State.answers (exec_pulseEdge_early hrst hlow hearly) fun d hd => ?_
    rw [hd]
    exact ⟨rfl, rfl⟩
  case short =>
    have hpin : s.chip.newCycle.poPin o.val = some (s.chip.newCycle.poLevel o.val) := Chip.poPin_drives hio hdrive hon
    have hexec : exec (.short o) s = .next { s with
        chip := ((s.chip.fresh.modPo o.val fun x => { x with disabled := true }).poEdges s.chip.fresh o.val).report
          Event.PO_SHORT (pinRep o.val) } := by
      show execShort o s = _
      rw [execShort, State.run_eq hrst, hpin]
      rfl
    refine State.answers hexec fun d hd => ?_
    rw [hd, Chip.po1_report, Chip.po1_poEdges, Chip.po1_modPo]
    rfl
  case retry =>
    have hoff' : (s.chip.newCycle.po1 o.val).disabled = true := hoff
    have hio' : s.chip.newCycle.pw.io = true := hio
    have hexec : exec (.shortRetry o still) s = .next { s with
        chip := if still then s.chip.fresh.modPo o.val fun x => { x with retries := satNat 16 (x.retries + 1) }
          else (s.chip.fresh.modPo o.val fun x => { x with disabled := false }).poEdges s.chip.fresh o.val } := by
      show execShortRetry o still s = _
      rw [execShortRetry, State.run_eq hrst, hoff', hio']
      rfl
    refine State.answers hexec fun d hd => ?_
    rw [hd]
    cases still
    · simp only [Bool.false_eq_true, if_false, Chip.po1_poEdges, Chip.po1_modPo, Chip.poEdges_regs]
      exact ⟨rfl, rfl⟩
    · simp only [if_true, Chip.po1_modPo]
      exact ⟨rfl, rfl⟩
  case openLoad =>
    have hdrive' : s.chip.newCycle.poDrive o.val = 2 := hdrive
    have hpin : s.chip.newCycle.poPin o.val = some true :=
      (Chip.poPin_drives hio (by rw [hdrive]; decide) hon).trans (congrArg some hlevel)
    cases hopen : (s.chip.newCycle.po1 o.val).openLoad
    · have hexec : exec (.openLoad o) s = .next { s with
        chip := (s.chip.fresh.modPo o.val fun x => { x with openLoad := true }).report Event.PO_OPEN_LOAD (pinRep o.val) } := by
        show execOpenLoad o s = _
        rw [execOpenLoad, State.run_eq hrst, hdrive', hpin, hopen]
        rfl
      refine State.answers hexec fun d hd => ?_
      rw [hd, Chip.po1_report, Chip.po1_modPo]
      rfl
    · have hexec : exec (.openLoad o) s = .next { s with chip := s.chip.fresh } := by
        show execOpenLoad o s = _
        rw [execOpenLoad, State.run_eq hrst, hdrive', hpin, hopen]
        rfl
      refine State.answers hexec fun d hd => ?_
      have hopen' : (s.chip.po1 o.val).openLoad = true := hopen
      rw [hd, ← hopen']
      rfl
  case openIn =>
    have hbias' : Word.bit (s.chip.newCycle.reg Reg.PO_ICFG o.val) 28 = true := hbias
    have hio' : s.chip.newCycle.pw.io = true := hio
    cases hopen : (s.chip.newCycle.po1 o.val).openIn
    · have hexec : exec (.openIn o) s = .next { s with
        chip := (s.chip.fresh.modPo o.val fun x => { x with openIn := true }).report Event.PO_OPEN_IN (pinRep o.val) } := by
        show execOpenIn o s = _
        rw [execOpenIn, State.runHub_eq hhub hrst, hbias', hio', hopen]
        rfl
      refine State.answers hexec fun d hd => ?_
      rw [hd, Chip.po1_report, Chip.po1_modPo]
      rfl
    · have hexec : exec (.openIn o) s = .next { s with chip := s.chip.fresh } := by
        show execOpenIn o s = _
        rw [execOpenIn, State.runHub_eq hhub hrst, hbias', hio', hopen]
        rfl
      refine State.answers hexec fun d hd => ?_
      have hopen' : (s.chip.po1 o.val).openIn = true := hopen
      rw [hd, ← hopen']
      rfl
  case uart =>
    have hio' : s.chip.newCycle.pw.io = true := hio
    have hplain' : s.chip.newCycle.po.uartInv.testBit u.val = false := hplain
    have hexec : exec (.uartInv u) s = .next { s with
        chip := ({ s.chip.fresh with po := { s.chip.fresh.po with uartInv := s.chip.fresh.po.uartInv + 2 ^ u.val } }).report
          Event.PO_UART_INV { p1 := BitVec.ofNat 32 u.val, inst := some u.val } } := by
      show execUartInv u s = _
      rw [execUartInv, State.run_eq hrst, hplain', hio']
      rfl
    refine State.answers hexec fun d hd => ?_
    rw [hd, Chip.report_po]
    rfl

end Sys2Proof.Machine
end

section
/-!
O36: a remote register request at a hub. Its clause on the way on speaks of every state, also of one whose ports are
listed out of order and of which two have been told the same address.
-/

namespace Sys2Proof.Machine

/-- A request for an address that the hubs at ports 7 and 5 both name theirs. -/
def twiceToldRequest : Cell := mkCell clsM 0x40 0 [0, 0, 0x10000000, 0]

/-- A port that is UP and whose peer has named address 0. -/
def toldPortState : PortState := { PortState.reset with mode := .up, peer := some [0x80000000, 0x80000000] }

/-- A hub with a request at port 5, whose list of ports names port 7 before port 5. -/
def twiceTold : State :=
  { chip := { Chip.reset with
      id := { Ident.reset with hub := true, strapHub := true }
      tr := { Chip.reset.tr with level := 6 }
      ports := [(7, toldPortState),
        (5, { toldPortState with q := { toldPortState.q with rxM := [twiceToldRequest] } })] }
    pending := [] }

/-- The request taken from its buffer, port 5 stands first in the list, and the request goes back by it. -/
theorem read_after_rreqReceive_twiceTold :
    readAfter (.rreqReceive 5) twiceTold (fun t => (t.chip.port 7).q.txM.length) = some 0 := by
  decide

/-- Refutes O36: the request is routed once it has left its buffer, and the clause names the port that the list led to
before. -/
theorem not_remoteAccessRoute : ¬ Obligations.RemoteAccessRoute := by
  unfold Obligations.RemoteAccessRoute
  rintro ⟨hroute, -⟩
  obtain ⟨t, hexec, -, -, hsent, -⟩ := hroute twiceTold 5 twiceToldRequest 7 (by decide) (by decide) (by decide) (by decide)
    (by decide) (by decide) (by decide) (by decide)
  have hnone := read_after_rreqReceive_twiceTold
  rw [readAfter_eq hexec, hsent] at hnone
  revert hnone
  decide

end Sys2Proof.Machine
end

section
/-!
A report changes nothing of a port but the sequenced cells it has still to send: its interrupt notice is one (R56).
-/

namespace Sys2Proof.Machine

variable (c : Chip)

/-- A port of the part, without the sequenced cells it has still to send. -/
def Chip.unsent (c : Chip) (q : Nat) : PortState := (c.port q).unsent

@[simp] theorem Chip.unsent_sendCells (p cls : Nat) (l : List Cell) (q : Nat) :
    (c.sendCells p cls l).unsent q = c.unsent q :=
  c.sendCells_unsent p cls l q

@[simp] theorem Chip.unsent_count (n : Nat) (i : Option Nat) (k q : Nat) : (c.count n i k).unsent q = c.unsent q := by
  unfold Chip.count; split <;> rfl

@[simp] theorem Chip.unsent_pinEdges (s r f q : Nat) : (c.pinEdges s r f).unsent q = c.unsent q := by
  unfold Chip.pinEdges; split <;> rfl

@[simp] theorem Chip.unsent_setReg (r : RegRow) (w : Word) (i j b q : Nat) : (c.setReg r w i j b).unsent q = c.unsent q :=
  rfl

@[simp] theorem Chip.unsent_irqEdges (b : Chip) (q : Nat) : (c.irqEdges b).unsent q = c.unsent q := by
  unfold Chip.irqEdges
  refine foldl_keeps (Chip.unsent · q) _ _ _ fun x n => ?_
  split
  · split <;> simp
  · rfl

@[simp] theorem Chip.unsent_inoteOn (p q : Nat) : (c.inoteOn p).unsent q = c.unsent q := by
  unfold Chip.inoteOn
  split
  · simp
  · split <;> rfl

@[simp] theorem Chip.unsent_inoteRaise (p : Nat) (b : Word) (q : Nat) : (c.inoteRaise p b).unsent q = c.unsent q := by
  unfold Chip.inoteRaise
  split
  · exact foldl_keeps (Chip.unsent · q) _ _ _ (fun x n => Chip.unsent_inoteOn x n q)
  · rfl

@[simp] theorem Chip.unsent_flag (p b : Nat) (i : Option Nat) (q : Nat) : (c.flag p b i).unsent q = c.unsent q := by
  unfold Chip.flag
  dsimp only
  split
  · rfl
  · split <;> simp

@[simp] theorem Chip.unsent_note (e : Ev) (i : Option Nat) (q : Nat) : (c.note e i).unsent q = c.unsent q := by
  simp [Chip.note]

@[simp] theorem Chip.unsent_param (p : Option Word) (q : Nat) : (c.param p).2.unsent q = c.unsent q := by
  unfold Chip.param; split <;> rfl

@[simp] theorem Chip.unsent_enqueueRec (r : RawRec) (q : Nat) : (c.enqueueRec r).unsent q = c.unsent q := by
  unfold Chip.enqueueRec
  split
  · rfl
  · simp only [Chip.unsent_flag, Chip.unsent_count]
    rfl

@[simp] theorem Chip.unsent_report (e : Ev) (r : Rep) (q : Nat) : (c.report e r).unsent q = c.unsent q := by
  unfold Chip.report
  dsimp only
  split <;> simp [Chip.record]

theorem Chip.report_rxM (e : Ev) (r : Rep) (q : Nat) : ((c.report e r).port q).q.rxM = (c.port q).q.rxM :=
  (congrArg (fun x : PortState => x.q.rxM) (c.unsent_report e r q) :)

end Sys2Proof.Machine
end

section
/-!
O35: remote register requests at their issuer, and the management queues (R125, R127 to R130).
-/

namespace Sys2Proof.Machine

variable {s : State} {m : Master}

/-! ### Class M cells -/

theorem Chip.port_popRx_ne (c : Chip) {p q : Nat} (h : q ≠ p) (cls n : Nat) : (c.popRx p cls n).port q = c.port q := by
  rw [Chip.popRx, Chip.port_modPort_ne _ h]

@[simp] theorem Chip.carries_popRx_ne (c : Chip) {p q : Nat} (h : q ≠ p) (cls n : Nat) :
    (c.popRx p cls n).carries q = c.carries q := by
  simp only [Chip.carries, c.port_popRx_ne h]

/-- A lane that carries takes a class M cell of a type that every version has (R88, R111). -/
theorem Chip.takesType_M {c : Chip} {q : Nat} {x : Cell} (hcarries : c.carries q = true) (hold : newType x = false) :
    c.takesType q clsM ([x].any newType) = true := by
  simp [Chip.takesType, Chip.carriesCls, hcarries, hold]

/-- Where a class M queue has room and nothing of the class waits, the cell enters it. -/
theorem Chip.sendCells_txM {c : Chip} {q : Nat} {x : Cell} (hcarries : c.carries q = true) (hold : newType x = false)
    (hroom : (c.port q).q.txM.length < 64) (hnone : ((c.port q).q.wait.any fun w => w.1 == clsM) = false) :
    ((c.sendCells q clsM [x]).port q).q.txM = (c.port q).q.txM ++ [{ cell := x, at_ := c.tk.frc }] := by
  have hpush : ((c.port q).q.tx clsM).length < txSize clsM := hroom
  rw [Chip.sendCells, if_pos (Chip.takesType_M hcarries hold), Chip.modQ, Chip.port_modPort]
  simp only [List.foldl_cons, List.foldl_nil, PortQueues.push, hpush, hnone, decide_true, Bool.not_false, Bool.and_self,
    if_true]
  rfl

/-- Requests, responses and notices are types that every version has (R88). -/
theorem newType_mkCell_M {typ : Nat} {pay : List Word} (htyp : typ ∈ [0x40, 0x41, 0x44]) (hlen : pay.length ≤ 4) :
    newType (mkCell clsM typ 0 pay) = false := by
  have hhead : Cell.typ (mkCell clsM typ 0 pay) =
      Word.field (Word.place clsM 28 ||| Word.place typ 20 ||| Word.place 0 8 ||| BitVec.ofNat 32 pay.length) 20 8 := rfl
  have hall : ∀ n < 5, ∀ typ ∈ [0x40, 0x41, 0x44],
      (Word.field (Word.place clsM 28 ||| Word.place typ 20 ||| Word.place 0 8 ||| BitVec.ofNat 32 n) 20 8 == 0x23
        || Word.field (Word.place clsM 28 ||| Word.place typ 20 ||| Word.place 0 8 ||| BitVec.ofNat 32 n) 20 8 == 0x31)
        = false := by decide
  rw [newType, hhead]
  exact hall _ (Nat.lt_succ_of_le hlen) _ htyp

@[simp] theorem Chip.sendCells_tr (c : Chip) (p cls : Nat) (l : List Cell) : (c.sendCells p cls l).tr = c.tr := by
  unfold Chip.sendCells
  split <;> rfl

/-- A cell that leaves the buffer of one port for the queue of another. -/
theorem Chip.popRx_passes {c : Chip} {p u : Nat} {x : Cell} (hu : u ≠ p) (hcarries : c.carries u = true)
    (hold : newType x = false) (hroom : (c.port u).q.txM.length < 64)
    (hnone : ((c.port u).q.wait.any fun w => w.1 == clsM) = false) :
    (((c.popRx p clsM 1).sendCells u clsM [x]).port u).q.txM = (c.port u).q.txM ++ [{ cell := x, at_ := c.tk.frc }]
      ∧ (((c.popRx p clsM 1).sendCells u clsM [x]).port p).q.rxM = (c.port p).q.rxM.drop 1
      ∧ ((c.popRx p clsM 1).sendCells u clsM [x]).tr = c.tr := by
  have hsame := c.port_popRx_ne hu clsM 1
  refine ⟨?_, by rw [Chip.sendCells_rxM, Chip.popRx_rxM], by rw [Chip.sendCells_tr]; rfl⟩
  rw [Chip.sendCells_txM ((c.carries_popRx_ne hu _ _).trans hcarries) hold (by rw [hsame]; exact hroom)
    (by rw [hsame]; exact hnone), hsame]
  rfl

/-! ### The queues of the tree -/

/-- What a report leaves of the tree's state: everything but the notices that wait. -/
theorem Chip.report_tr_rrsp (c : Chip) (e : Ev) (r : Rep) :
    (c.report e r).tr.tags = c.tr.tags ∧ (c.report e r).tr.rrsp = c.tr.rrsp ∧ (c.report e r).tr.rseq = c.tr.rseq := by
  rw [Chip.report_tr]
  exact ⟨rfl, rfl, rfl⟩

/-- A response as it stands in the queue (R129). -/
def rrspOf (tag rseq status kind target : Nat) (data : Word) : Rrsp :=
  { word0 := Word.flag true 31 ||| fld rseq 8 20 ||| fld status 4 16 ||| fld kind 3 12 ||| fld tag 4 0
    data := data, target := BitVec.ofNat 32 target }

theorem Chip.rrspPut_room {c : Chip} (hroom : c.tr.rrsp.length < 16) (tag rseq status kind target : Nat) (data : Word) :
    c.rrspPut tag rseq status kind target data =
      { c with tr := { c.tr with rrsp := c.tr.rrsp ++ [rrspOf tag rseq status kind target data] } } := by
  simp only [Chip.rrspPut, Nat.not_le.mpr hroom, if_false]
  rfl

theorem SMap.has_erase_self {α : Type} (l : SMap α) (k : Nat) : SMap.has (SMap.erase l k) k = false := by
  induction l with
  | nil => rfl
  | cons e r ih =>
    obtain ⟨j, v⟩ := e
    rw [SMap.erase]
    split
    · exact ih
    · next h => rw [SMap.has, if_neg h, ih]

/-- The outstanding request under a tag. -/
def tagged (tags : SMap RraOut) (tag : Nat) : Option RraOut := SMap.find (tags.map fun e => (e.1, some e.2)) tag none

theorem SMap.map_insert {α β : Type} (f : α → β) (l : SMap α) (k : Nat) (v : α) :
    (SMap.insert l k v).map (fun e => (e.1, f e.2)) = SMap.insert (l.map fun e => (e.1, f e.2)) k (f v) := by
  induction l with
  | nil => rfl
  | cons e r ih =>
    simp only [SMap.insert, List.map_cons]
    split
    · rfl
    · split
      · rfl
      · rw [List.map_cons, ih]

theorem tagged_insert (tags : SMap RraOut) (tag : Nat) (o : RraOut) : tagged (SMap.insert tags tag o) tag = some o := by
  rw [tagged, SMap.map_insert, SMap.find_insert_self]

/-! ### A request -/

/-- A master's write of a register that the role has, where the port takes it at once. -/
theorem State.runMaster_roleWrite {r : RegRow} {addr k : Nat} {w : Word} (haddr : addr = r.addr)
    (hopen : s.chip.opens m r.page = true) (hmapped : r.mapped s.chip.id.hub = true)
    (hacc : r.acc ∉ [.ro, .rc, .rs]) (hright : s.chip.mayWrite m r = true)
    (hfree : (s.chip.locked r.page && r.rwl != 0) = false) (hidx : s.chip.rowIdx m r = k)
    (hfit : s.chip.fitWord r k w = w) {d : Written}
    (hwrite : s.chip.fresh.rowWrite { m := m, row := r, i := 0, idx := k, w := w } = d) :
    s.runMaster m (fun c => c.regWrite m addr w) = .next { s with chip := d.1 } := by
  subst haddr
  have hidx' : s.chip.fresh.rowIdx m r = k := hidx
  have hfit' : s.chip.fresh.fitWord r k w = w := hfit
  rw [State.runMaster_regWrite hopen (RegRow.mapped_page hmapped),
    Chip.masterWrite_rowWrite (c := s.chip.fresh) hopen hmapped hacc hright hfree, hidx', hfit', hwrite]

/-- The write of TR_RRA_GO issues a request. -/
theorem Chip.rowWrite_rraGo (c : Chip) (w : Word) :
    c.rowWrite { m := m, row := Reg.TR_RRA_GO, i := 0, idx := 0, w := w } = (c.rraIssue m w).done := by
  simp only [Chip.rowWrite, Chip.writeTr, Reg.TR_RRA_GO]

theorem exec_rraGo (hhub : s.chip.id.hub = true) (hopen : s.chip.opens m 0x09 = true) (w : Word) :
    exec (.rraGo m w) s = .next { s with chip := s.chip.fresh.rraIssue m w } := by
  show s.runMaster m (fun c => c.regWrite m 0x0908C w) = _
  exact State.runMaster_roleWrite (r := Reg.TR_RRA_GO) (by decide) hopen (by rw [hhub]; decide) (by decide) rfl (Bool.and_false _)
    (by simp only [Chip.rowIdx, Reg.TR_RRA_GO]) (by simp only [Chip.fitWord, Reg.TR_RRA_GO]) (Chip.rowWrite_rraGo _ w)

@[simp] theorem Chip.count_tr (c : Chip) (n : Nat) (i : Option Nat) (k : Nat) : (c.count n i k).tr = c.tr := by
  unfold Chip.count; split <;> rfl

@[simp] theorem Chip.count_ports (c : Chip) (n : Nat) (i : Option Nat) (k : Nat) : (c.count n i k).ports = c.ports := by
  unfold Chip.count; split <;> rfl

@[simp] theorem Chip.rraPort_count (c : Chip) (n : Nat) (i : Option Nat) (k target : Nat) :
    (c.count n i k).rraPort target = c.rraPort target := by
  unfold Chip.count; split <;> rfl

/-- A request takes the next number (R127). -/
def Chip.numbered (c : Chip) : Chip := { c with tr := { c.tr with rseq := (c.tr.rseq + 1) % 256 } }

/-- A request with its tag in flight. -/
def Chip.tagTaken (c : Chip) (tag target : Nat) : Chip :=
  ({ c with tr := { c.tr with
      rseq := (c.tr.rseq + 1) % 256
      tags := SMap.insert c.tr.tags tag { target := target, rseq := c.tr.rseq } } }).count 0x490 none

/-- The cell of a request (R127). -/
def Chip.rreqCell (c : Chip) (m : Master) (w : Word) : Cell :=
  mkCell clsM 0x40 0
    [fld (Word.field w 28 4) 4 28 ||| fld (Word.field (c.regOf m Reg.TR_RRA_TGT) 0 24) 24 0,
      fld (Word.field w 0 4) 4 28 ||| fld c.tr.rseq 8 20 ||| fld (c.regOf m Reg.TR_RRA_REG).toNat 18 0,
      c.regOf m Reg.TR_RRA_DATA, c.issuerWord]

/-- Reading and writing are the operations of a request. -/
theorem rraOp {w : Word} (h : Word.field w 28 4 = 1 ∨ Word.field w 28 4 = 2) :
    (Word.field w 28 4 != 1 && Word.field w 28 4 != 2) = false := by
  rcases h with h | h <;> rw [h] <;> decide

theorem Chip.rraIssue_sends {c : Chip} {w : Word} {q : Nat} (hop : Word.field w 28 4 = 1 ∨ Word.field w 28 4 = 2)
    (hroom : c.tr.rrsp.length < 16) (hbelow : c.below (Word.field (c.regOf m Reg.TR_RRA_TGT) 0 24) = true)
    (hfree : SMap.has c.tr.tags (Word.field w 0 4) = false)
    (hport : c.rraPort (Word.field (c.regOf m Reg.TR_RRA_TGT) 0 24) = some q) :
    c.rraIssue m w =
      (c.tagTaken (Word.field w 0 4) (Word.field (c.regOf m Reg.TR_RRA_TGT) 0 24)).sendCells q clsM [c.rreqCell m w] := by
  have hbelow' : ¬ (!c.numbered.below (Word.field (c.regOf m Reg.TR_RRA_TGT) 0 24)) = true := by
    rw [show c.numbered.below (Word.field (c.regOf m Reg.TR_RRA_TGT) 0 24) = true from hbelow]
    decide
  have hroom' : ¬ 16 ≤ c.numbered.tr.rrsp.length := Nat.not_le.mpr hroom
  have hfree' : ¬ SMap.has c.numbered.tr.tags (Word.field w 0 4) = true := by rw [Bool.not_eq_true]; exact hfree
  have hport' : (c.tagTaken (Word.field w 0 4) (Word.field (c.regOf m Reg.TR_RRA_TGT) 0 24)).rraPort
      (Word.field (c.regOf m Reg.TR_RRA_TGT) 0 24) = some q := by
    rw [Chip.tagTaken, Chip.rraPort_count]
    exact hport
  unfold Chip.rraIssue
  simp only [rraOp hop, Bool.false_eq_true, if_false]
  refine (if_neg hroom').trans ((if_neg hbelow').trans ((if_neg hfree').trans ?_))
  split
  · next q' h =>
      obtain rfl : q' = q := Option.some.inj (h.symm.trans hport')
      simp only [Chip.rreqCell, Chip.regOf, Chip.count_reg, Chip.issuerWord, Chip.count_tr]
      rfl
  · next h => exact nomatch h.symm.trans hport'

theorem Chip.rraIssue_noRoute {c : Chip} {w : Word} (hop : Word.field w 28 4 = 1 ∨ Word.field w 28 4 = 2)
    (hroom : c.tr.rrsp.length < 16) (hbelow : c.below (Word.field (c.regOf m Reg.TR_RRA_TGT) 0 24) = false) :
    c.rraIssue m w = c.numbered.rrspPut (Word.field w 0 4) c.tr.rseq 1 0 (Word.field (c.regOf m Reg.TR_RRA_TGT) 0 24) 0 := by
  have hbelow' : (!c.numbered.below (Word.field (c.regOf m Reg.TR_RRA_TGT) 0 24)) = true := congrArg not hbelow
  have hroom' : ¬ 16 ≤ c.numbered.tr.rrsp.length := Nat.not_le.mpr hroom
  unfold Chip.rraIssue
  simp only [rraOp hop, Bool.false_eq_true, if_false]
  exact (if_neg hroom').trans (if_pos hbelow')

theorem Chip.rraIssue_busy {c : Chip} {w : Word} (hop : Word.field w 28 4 = 1 ∨ Word.field w 28 4 = 2)
    (hroom : c.tr.rrsp.length < 16) (hbelow : c.below (Word.field (c.regOf m Reg.TR_RRA_TGT) 0 24) = true)
    (htaken : SMap.has c.tr.tags (Word.field w 0 4) = true) :
    c.rraIssue m w =
      (c.numbered.rrspPut (Word.field w 0 4) c.tr.rseq 4 0 (Word.field (c.regOf m Reg.TR_RRA_TGT) 0 24) 0).report
        Event.TR_RRA_BUSY := by
  have hbelow' : ¬ (!c.numbered.below (Word.field (c.regOf m Reg.TR_RRA_TGT) 0 24)) = true := by
    rw [show c.numbered.below (Word.field (c.regOf m Reg.TR_RRA_TGT) 0 24) = true from hbelow]
    decide
  have hroom' : ¬ 16 ≤ c.numbered.tr.rrsp.length := Nat.not_le.mpr hroom
  unfold Chip.rraIssue
  simp only [rraOp hop, Bool.false_eq_true, if_false]
  exact (if_neg hroom').trans ((if_neg hbelow').trans (if_pos htaken))

/-! ### A response -/

theorem Chip.rrspHome_awaited {c : Chip} {tag rseq : Nat} {o : RraOut} (ho : tagged c.tr.tags tag = some o)
    (hseq : o.rseq = rseq) (hroom : c.tr.rrsp.length < 16) (status kind : Nat) (data : Word) :
    c.rrspHome tag rseq status kind data =
      { c with tr := { c.tr with
          tags := SMap.erase c.tr.tags tag
          rrsp := c.tr.rrsp ++ [rrspOf tag rseq status kind o.target data] } } := by
  have ho' : SMap.find (c.tr.tags.map fun e => (e.1, some e.2)) tag none = some o := ho
  simp only [Chip.rrspHome, ho', hseq, if_true]
  rw [Chip.rrspPut_room (by exact hroom)]

theorem Chip.rrspHome_late {c : Chip} {tag rseq : Nat} (h : (tagged c.tr.tags tag).all (fun o => o.rseq != rseq) = true)
    (status kind : Nat) (data : Word) : c.rrspHome tag rseq status kind data = c.report Event.TR_RRA_LATE := by
  unfold Chip.rrspHome
  split
  · next o ho =>
      have ho' : tagged c.tr.tags tag = some o := ho
      rw [ho', Option.all_some, bne_iff_ne] at h
      exact if_neg h
  · rfl

/-- A response at the head of a hub's port leaves its buffer, for home or up. -/
theorem exec_rrspReceive {p : Port} {x : Cell} (hhub : s.chip.id.hub = true) (hrst : s.chip.inReset = false)
    (hhead : s.chip.headM p.val 0x41 = some x) :
    exec (.rrspReceive p) s = .next { s with
      chip := if x.pay 4 = s.chip.issuerWord then
          (s.chip.fresh.popRx p.val clsM 1).rrspHome (Word.field (x.pay 2) 28 4) (Word.field (x.pay 2) 20 8)
            (Word.field (x.pay 2) 16 4) (Word.field (x.pay 2) 12 3) (x.pay 3)
        else match (s.chip.fresh.popRx p.val clsM 1).upPort with
          | some u => (s.chip.fresh.popRx p.val clsM 1).sendCells u clsM [mkCell clsM 0x41 0 (x.payload.take 3)]
          | none => (s.chip.fresh.popRx p.val clsM 1).report Event.TR_RRA_LATE } := by
  have hhead' : s.chip.newCycle.headM p.val 0x41 = some x := hhead
  have hhub' : (s.chip.newCycle.popRx p.val clsM 1).id.hub = true := hhub
  have hports : p.val < s.chip.nports := by
    rw [Chip.nports, if_pos hhub]
    exact p.isLt
  show execRrspReceive p s = _
  rw [execRrspReceive, State.runPort_eq hports hrst]
  simp only [hhead', hhub', Bool.not_true, Bool.false_eq_true, if_false, beq_iff_eq]
  rfl

/-- The way up is not changed by what leaves the buffer of another port. -/
theorem Chip.upPort_popRx {c : Chip} {p u : Nat} (hu : u ≠ p) (h : c.upPort = some u) (cls n : Nat) :
    (c.popRx p cls n).upPort = some u := by
  simp only [Chip.upPort, Option.ite_none_right_eq_some, Option.some.injEq] at h
  obtain ⟨husable, hact⟩ := h
  have husable' : (c.popRx p cls n).upUsable c.activeUp = true := by
    rw [Chip.upUsable, Chip.isUp, c.port_popRx_ne (by rw [hact]; exact hu)]
    exact husable
  exact (if_pos husable').trans (congrArg some hact)

theorem exec_rraTmo {tag : Tag} {o : RraOut} (hhub : s.chip.id.hub = true) (hrst : s.chip.inReset = false)
    (ho : tagged s.chip.tr.tags tag.val = some o) (hroom : s.chip.tr.rrsp.length < 16) :
    exec (.rraTmo tag) s = .next { s with
      chip := ({ s.chip.fresh with tr := { s.chip.tr with
          tags := SMap.erase s.chip.tr.tags tag.val
          rrsp := s.chip.tr.rrsp ++ [rrspOf tag.val o.rseq 2 0 o.target 0] } }).report Event.TR_RRA_TMO } := by
  have ho' : SMap.find (s.chip.newCycle.tr.tags.map fun e => (e.1, some e.2)) tag.val none = some o := ho
  show execRraTmo tag s = _
  rw [execRraTmo, State.runHub_eq hhub hrst]
  simp only [ho']
  rw [Chip.rrspPut_room (by exact hroom)]
  rfl

/-! ### Reads that take an entry -/

theorem exec_rrspPop (hhub : s.chip.id.hub = true) (hopen : s.chip.opens m 0x09 = true) :
    exec (.rrspPop m) s = .next { s with
      chip := (s.chip.fresh.latch m 0x09 0x098 0).readEffect m Reg.TR_RRSP0 0 0 } := by
  show s.runMaster m (fun c => c.regRead m 0x09098) = _
  exact State.runMaster_rowRead (r := Reg.TR_RRSP0) (k := 0) (by decide) hopen (by rw [hhub]; decide)
    (by simp only [Chip.rowIdx, Reg.TR_RRSP0])

theorem exec_inqPop (hhub : s.chip.id.hub = true) (hopen : s.chip.opens m 0x09 = true) :
    exec (.inqPop m) s = .next { s with
      chip := (s.chip.fresh.latch m 0x09 0x0A4 0).readEffect m Reg.TR_INQ0 0 0 } := by
  show s.runMaster m (fun c => c.regRead m 0x090A4) = _
  exact State.runMaster_rowRead (r := Reg.TR_INQ0) (k := 0) (by decide) hopen (by rw [hhub]; decide)
    (by simp only [Chip.rowIdx, Reg.TR_INQ0])

theorem exec_mlqPop (hhub : s.chip.id.hub = true) (hopen : s.chip.opens m 0x09 = true) :
    exec (.mlqPop m) s = .next { s with
      chip := (s.chip.fresh.latch m 0x09 0x0B0 0).readEffect m Reg.TR_MLQ0 0 0 } := by
  show s.runMaster m (fun c => c.regRead m 0x090B0) = _
  exact State.runMaster_rowRead (r := Reg.TR_MLQ0) (k := 0) (by decide) hopen (by rw [hhub]; decide)
    (by simp only [Chip.rowIdx, Reg.TR_MLQ0])

/-! ### Notices -/

theorem exec_inoteReceive {p : Port} {x : Cell} (hhub : s.chip.id.hub = true) (hrst : s.chip.inReset = false)
    (hhead : s.chip.headM p.val 0x44 = some x) :
    exec (.inoteReceive p) s = .next { s with
      chip := if s.chip.mgmtNote then
          (s.chip.fresh.popRx p.val clsM 1).inqPut (Word.field (x.pay 4) 0 24) (x.pay 2) (x.pay 3)
        else match (s.chip.fresh.popRx p.val clsM 1).upPort with
          | some u => (s.chip.fresh.popRx p.val clsM 1).sendCells u clsM [mkCell clsM 0x44 0 (x.payload.take 3)]
          | none => (s.chip.fresh.popRx p.val clsM 1).report Event.TR_QUEUE_OVR
              { p1 := some (fld (Word.field (x.pay 4) 0 24) 24 0) } } := by
  have hhead' : s.chip.newCycle.headM p.val 0x44 = some x := hhead
  have hhub' : (s.chip.newCycle.popRx p.val clsM 1).id.hub = true := hhub
  have hports : p.val < s.chip.nports := by
    rw [Chip.nports, if_pos hhub]
    exact p.isLt
  show execInoteReceive p s = _
  rw [execInoteReceive, State.runPort_eq hports hrst]
  simp only [hhead', hhub', Bool.not_true, Bool.false_eq_true, if_false]
  rfl

/-- A new member's notice goes to the end of the queue where there is room. -/
theorem Chip.inqPut_new {c : Chip} {member : Nat} (hnew : (c.tr.inq.any fun e => e.1 == member) = false)
    (hroom : c.tr.inq.length < 32) (s0 s1 : Word) :
    (c.inqPut member s0 s1).tr.inq = c.tr.inq ++ [(member, s0, s1)] := by
  simp only [Chip.inqPut, hnew, Bool.false_eq_true, if_false, hroom, if_true]
  exact (congrArg (fun x : Chip => x.tr.inq) (Chip.flag_calm _ 0x09 16 none) :)

/-- Settles O35: a request takes a tag and the way to its target, a response frees the tag, and the queues keep
their order. -/
theorem remoteAccessIssue : Obligations.RemoteAccessIssue := by
  unfold Obligations.RemoteAccessIssue
  refine ⟨fun s m w q hhub hopen hop hroom hbelow hfree hport hcarries htx hwait => ?sent,
    fun s m w hhub hopen hop hroom hbelow => ?noRoute, fun s m w hhub hopen hop hroom hbelow htaken => ?busy,
    fun s p x o hhub hrst hhead hown ho hseq hroom => ?home, fun s p x hhub hrst hhead hown hlate => ?late,
    fun s p x u hhub hrst hhead hown hup hu hcarries htx hwait => ?up, fun s tag o hhub hrst ho hroom => ?timeout,
    fun s m hhub hopen => ?rrspPop, fun s m hhub hopen => ?inqPop, fun s m hhub hopen => ?mlqPop,
    fun s p x hhub hrst hnote hhead hnew hroom => ?note,
    fun s p x u hhub hrst hnote hhead hup hu hcarries htx hwait => ?noteUp⟩
  case sent =>
    refine State.answers (exec_rraGo hhub hopen w) fun d hd => ?_
    rw [Chip.rraIssue_sends (c := s.chip.fresh) hop hroom hbelow hfree hport] at hd
    subst hd
    have hq : ∀ j, (s.chip.fresh.tagTaken (Word.field w 0 4) (Word.field (s.chip.fresh.regOf m Reg.TR_RRA_TGT) 0 24)).port j
        = s.chip.port j := fun j => by
      rw [Chip.tagTaken, Chip.port, Chip.count_ports]
      rfl
    have hold : newType (s.chip.fresh.rreqCell m w) = false := newType_mkCell_M (by decide) (by simp)
    refine ⟨?_, ?_, ?_, ?_⟩
    · rw [Chip.sendCells_txM (by rw [Chip.carries, hq]; exact hcarries) hold (by rw [hq]; exact htx) (by rw [hq]; exact hwait),
        hq, Chip.tagTaken, Chip.count_tk]
      rfl
    · rw [Chip.sendCells_tr, Chip.tagTaken, Chip.count_tr]
      exact tagged_insert _ _ _
    · rw [Chip.sendCells_tr, Chip.tagTaken, Chip.count_tr]
      rfl
    · rw [Chip.sendCells_tr, Chip.tagTaken, Chip.count_tr]
      rfl
  case noRoute =>
    refine State.answers (exec_rraGo hhub hopen w) fun d hd => ?_
    rw [hd, Chip.rraIssue_noRoute (c := s.chip.fresh) hop hroom hbelow, Chip.rrspPut_room (by exact hroom)]
    exact ⟨rfl, rfl, rfl⟩
  case busy =>
    refine State.answers (exec_rraGo hhub hopen w) fun d hd => ?_
    rw [hd, Chip.rraIssue_busy (c := s.chip.fresh) hop hroom hbelow htaken, Chip.rrspPut_room (by exact hroom)]
    exact Chip.report_tr_rrsp _ _ _
  case home =>
    refine State.answers (exec_rrspReceive hhub hrst hhead) fun d hd => ?_
    rw [if_pos hown, Chip.rrspHome_awaited (c := s.chip.fresh.popRx p.val clsM 1) ho hseq hroom] at hd
    rw [hd, hseq]
    exact ⟨SMap.has_erase_self _ _, rfl⟩
  case late =>
    refine State.answers (exec_rrspReceive hhub hrst hhead) fun d hd => ?_
    rw [if_pos hown, Chip.rrspHome_late (c := s.chip.fresh.popRx p.val clsM 1) hlate] at hd
    rw [hd, Chip.report_rxM, Chip.popRx_rxM]
    obtain ⟨htags, hrrsp, -⟩ := Chip.report_tr_rrsp (s.chip.fresh.popRx p.val clsM 1) Event.TR_RRA_LATE {}
    exact ⟨htags, hrrsp, rfl⟩
  case up =>
    refine State.answers (exec_rrspReceive hhub hrst hhead) fun d hd => ?_
    rw [if_neg hown, Chip.upPort_popRx (c := s.chip.fresh) hu hup] at hd
    subst hd
    exact Chip.popRx_passes (c := s.chip.fresh) hu hcarries (newType_mkCell_M (by decide) (by simp)) htx hwait
  case timeout =>
    refine State.answers (exec_rraTmo hhub hrst ho hroom) fun d hd => ?_
    rw [hd]
    obtain ⟨htags, hrrsp, -⟩ := Chip.report_tr_rrsp ({ s.chip.fresh with tr := { s.chip.tr with
          tags := SMap.erase s.chip.tr.tags tag.val
          rrsp := s.chip.tr.rrsp ++ [rrspOf tag.val o.rseq 2 0 o.target 0] } }) Event.TR_RRA_TMO {}
    exact ⟨by rw [htags]; exact SMap.has_erase_self _ _, hrrsp⟩
  case rrspPop =>
    obtain ⟨l, hl⟩ := s.chip.fresh.latch_shadows m 0x09 0x098 0
    refine State.answers (exec_rrspPop hhub hopen) fun d hd => ?_
    rw [hd, hl]
    exact ⟨rfl, rfl⟩
  case inqPop =>
    obtain ⟨l, hl⟩ := s.chip.fresh.latch_shadows m 0x09 0x0A4 0
    refine State.answers (exec_inqPop hhub hopen) fun d hd => ?_
    rw [hd, hl]
    exact ⟨rfl, rfl⟩
  case mlqPop =>
    obtain ⟨l, hl⟩ := s.chip.fresh.latch_shadows m 0x09 0x0B0 0
    refine State.answers (exec_mlqPop hhub hopen) fun d hd => ?_
    rw [hd, hl]
    exact ⟨rfl, rfl⟩
  case note =>
    refine State.answers (exec_inoteReceive hhub hrst hhead) fun d hd => ?_
    rw [if_pos hnote] at hd
    rw [hd]
    exact Chip.inqPut_new (c := s.chip.fresh.popRx p.val clsM 1) hnew hroom _ _
  case noteUp =>
    refine State.answers (exec_inoteReceive hhub hrst hhead) fun d hd => ?_
    rw [if_neg (by rw [hnote]; decide), Chip.upPort_popRx (c := s.chip.fresh) hu hup] at hd
    subst hd
    exact Chip.popRx_passes (c := s.chip.fresh) hu hcarries (newType_mkCell_M (by decide) (by simp)) htx hwait

end Sys2Proof.Machine
end

section
/-!
What a capture and an escalation change (R319, R324, R327): the capsule, the engines in escalation, and what a report
touches.
-/

namespace Sys2Proof.Machine

/-- The part without the capsule, the engines, and what a report can touch. -/
def Chip.beside (c : Chip) : Chip := { c.calm with cp := .reset, rt := { c.rt with engs := [] } }

/-- An engine, its escalation apart. -/
def EngState.running (x : EngState) : EngState := { x with rstate := .normal, waiting := false }

theorem Chip.beside_of_calm {c d : Chip} (h : c.calm = d.calm) : c.beside = d.beside :=
  (congrArg (fun x : Chip => ({ x with cp := .reset, rt := { x.rt with engs := [] } } : Chip)) h :)

/-- An engine is as it was where only its escalation has changed. -/
theorem Chip.eng_report (c : Chip) (e : Ev) (r : Rep) (k : Nat) : (c.report e r).eng k = c.eng k := by simp [Chip.eng]

theorem Chip.running_modEng {f : EngState → EngState} (hf : ∀ x, (f x).running = x.running) (c : Chip) (e k : Nat) :
    ((c.modEng e f).eng k).running = (c.eng k).running := by
  by_cases h : k = e
  · rw [h, Chip.eng_modEng, hf]
  · rw [Chip.eng_modEng_ne _ h]

@[simp] theorem Chip.beside_modEng (c : Chip) (e : Nat) (f : EngState → EngState) : (c.modEng e f).beside = c.beside := rfl

@[simp] theorem Chip.beside_report (c : Chip) (e : Ev) (r : Rep) : (c.report e r).beside = c.beside :=
  Chip.beside_of_calm (c.report_calm e r)

theorem Chip.beside_withCp (c : Chip) (x : CpState) : ({ c with cp := x } : Chip).beside = c.beside := rfl
theorem Chip.eng_withCp (c : Chip) (x : CpState) (k : Nat) : ({ c with cp := x } : Chip).eng k = c.eng k := rfl

@[simp] theorem Chip.beside_logStep (c : Chip) (step n : Nat) : (c.logStep step n).beside = c.beside := by
  unfold Chip.logStep
  split
  · rfl
  · exact Chip.beside_withCp _ _

@[simp] theorem Chip.eng_logStep (c : Chip) (step n k : Nat) : (c.logStep step n).eng k = c.eng k := by
  unfold Chip.logStep
  split
  · rfl
  · exact Chip.eng_withCp _ _ _

@[simp] theorem Chip.beside_engReset (c : Chip) (e : Nat) : (c.engReset e).beside = c.beside := by
  simp [Chip.engReset]

@[simp] theorem Chip.running_engReset (c : Chip) (e k : Nat) : ((c.engReset e).eng k).running = (c.eng k).running := by
  rw [Chip.engReset, Chip.eng_logStep, Chip.eng_report]
  exact Chip.running_modEng (f := fun x => { x with rstate := .engine, waiting := false }) (fun _ => rfl) c e k

@[simp] theorem Chip.beside_capture (c : Chip) (q : CapReq) : (c.capture q).1.beside = c.beside := by
  unfold Chip.capture
  split
  · exact (Chip.beside_report _ _ _).trans rfl
  · rfl

@[simp] theorem Chip.eng_capture (c : Chip) (q : CapReq) (k : Nat) : (c.capture q).1.eng k = c.eng k := by
  unfold Chip.capture
  split
  · exact (Chip.eng_report _ _ _ _).trans rfl
  · rfl

@[simp] theorem Chip.beside_escalate (c : Chip) (l : List Nat) (held : Bool) : (c.escalate l held).beside = c.beside := by
  refine foldl_keeps Chip.beside _ _ _ fun x e => ?_
  split
  · exact Chip.beside_modEng _ _ _
  · exact Chip.beside_engReset _ _

@[simp] theorem Chip.running_escalate (c : Chip) (l : List Nat) (held : Bool) (k : Nat) :
    ((c.escalate l held).eng k).running = (c.eng k).running := by
  refine foldl_keeps (fun x : Chip => (x.eng k).running) _ _ _ fun x e => ?_
  split
  · exact Chip.running_modEng (f := fun x => { x with waiting := true }) (fun _ => rfl) x e k
  · exact Chip.running_engReset x e k

@[simp] theorem Chip.beside_detected (c : Chip) (a : Nat) (q : CapReq) (b : Bool) : (c.detected a q b).beside = c.beside := by
  unfold Chip.detected
  dsimp only
  split
  · rfl
  · split <;> simp

@[simp] theorem Chip.running_detected (c : Chip) (a : Nat) (q : CapReq) (b : Bool) (k : Nat) :
    ((c.detected a q b).eng k).running = (c.eng k).running := by
  unfold Chip.detected
  dsimp only
  split
  · rfl
  · split <;> simp

/-! ### The parts that stay -/

theorem Chip.sq_of_beside {c d : Chip} (h : c.beside = d.beside) : c.sq = d.sq := (congrArg Chip.sq h :)
theorem Chip.sg_of_beside {c d : Chip} (h : c.beside = d.beside) : c.sg = d.sg := (congrArg Chip.sg h :)
theorem Chip.hg_of_beside {c d : Chip} (h : c.beside = d.beside) : c.hg = d.hg := (congrArg Chip.hg h :)
theorem Chip.taps_of_beside {c d : Chip} (h : c.beside = d.beside) : c.rt.taps = d.rt.taps :=
  (congrArg (fun x : Chip => x.rt.taps) h :)
theorem Chip.th_of_beside {c d : Chip} (h : c.beside = d.beside) (i : Nat) : c.th i = d.th i := by
  rw [Chip.th, Chip.th, Chip.sq_of_beside h]

end Sys2Proof.Machine
end

section
/-!
O16: the detectors of hung engines, late courses, long waits and busy threads (R320 to R323).
-/

namespace Sys2Proof.Machine

variable {s : State}

/-- The engine marked as timed out, and the suspects of the moment (R320). -/
def Chip.hbMarked (c : Chip) (e : Nat) : Chip :=
  ((c.modEng e fun x => { x with hbto := true }).report Event.HG_HB_TMO (c.engRep e)).buildSuspects

/-- The thread marked as late, and the suspects of the moment (R321). -/
def Chip.lateMarked (c : Chip) (t : Nat) : Chip :=
  ((c.modTh t fun x => { x with overrun := true }).report Event.HG_OVERRUN (c.thrRep t)).buildSuspects

/-- The wait marked as reported (R322). -/
def Chip.waitMarked (c : Chip) (a : Nat) (w : WaitState) : Chip :=
  ({ c with sg := { c.sg with waits := SMap.insert c.sg.waits a { w with reported := true } } }).report Event.HG_WAIT_TMO
    { p1 := BitVec.ofNat 32 a, p2 := BitVec.ofNat 32 w.sem }

/-- The busy thread stopped (R323). -/
def Chip.wdogStopped (c : Chip) (t : Nat) : Chip := (c.report Event.HG_SQ_WDOG (c.thrRep t)).thStop t 7

theorem Chip.hbMarked_leaves (c : Chip) (e : Nat) :
    (c.hbMarked e).sq = c.sq ∧ (c.hbMarked e).rt.taps = c.rt.taps
      ∧ (c.hbMarked e).eng e = { c.eng e with hbto := true } := by
  refine ⟨by simp [Chip.hbMarked, Chip.buildSuspects, Chip.modEng], by simp [Chip.hbMarked, Chip.buildSuspects, Chip.modEng], ?_⟩
  exact (Chip.eng_report _ _ _ _).trans (Chip.eng_modEng _ _ _)

/-- What HB_TMO does once the engine's time is over. -/
theorem exec_hbTmo_over {e : Engine} (hdie : s.chip.id.hub = false) (hrst : s.chip.inReset = false)
    (ht : e.val / 4 < s.chip.id.ntaps) (hwatch : Word.bit (s.chip.reg Reg.HG_ECFG e.val) 31 = true)
    (hbusy : (s.chip.eng e.val).done = false) (hnew : (s.chip.eng e.val).hbto = false)
    (hcalm : (s.chip.eng e.val).inEpisode = false) (hhost : s.chip.pw.hostLow = false)
    (hrgn : (s.chip.tap (e.val / 4)).rgnReset = false)
    (hover : (s.chip.eng e.val).hbAt + s.chip.hbTmo e.val * 1000 * nsUnit ≤ s.chip.now) :
    ∃ a q, exec (.hbTmo e) s = .next { s with chip := (s.chip.fresh.hbMarked e.val).detected a q true } := by
  have hwatch' : Word.bit (s.chip.newCycle.reg Reg.HG_ECFG e.val) 31 = true := hwatch
  have hbusy' : (s.chip.newCycle.eng e.val).done = false := hbusy
  have hnew' : (s.chip.newCycle.eng e.val).hbto = false := hnew
  have hcalm' : (s.chip.newCycle.eng e.val).inEpisode = false := hcalm
  have hhost' : s.chip.newCycle.pw.hostLow = false := hhost
  have hrgn' : (s.chip.newCycle.tap (e.val / 4)).rgnReset = false := hrgn
  have hover' : ¬ s.chip.newCycle.now < (s.chip.newCycle.eng e.val).hbAt + s.chip.newCycle.hbTmo e.val * 1000 * nsUnit :=
    Nat.not_lt.mpr hover
  exact ⟨_, _, (State.runEng_eq hdie hrst ht _).trans (by
    simp only [hwatch', hbusy', hnew', hcalm', hhost', hrgn', hover', Bool.not_true, Bool.or_false, decide_false,
      Bool.false_eq_true, if_false]
    rfl)⟩

theorem exec_hbTmo_early {e : Engine} (hdie : s.chip.id.hub = false) (hrst : s.chip.inReset = false)
    (ht : e.val / 4 < s.chip.id.ntaps)
    (hearly : s.chip.now < (s.chip.eng e.val).hbAt + s.chip.hbTmo e.val * 1000 * nsUnit) :
    exec (.hbTmo e) s = .next { s with chip := s.chip.fresh } := by
  have hearly' : s.chip.newCycle.now < (s.chip.newCycle.eng e.val).hbAt + s.chip.newCycle.hbTmo e.val * 1000 * nsUnit :=
    hearly
  refine (State.runEng_eq hdie hrst ht _).trans ?_
  simp only [hearly', decide_true, Bool.or_true, if_true]

/-- What OVERRUN does once the deadline of a course has passed. -/
theorem exec_overrun_late {i : Thread} (hdie : s.chip.id.hub = false) (hrst : s.chip.inReset = false)
    (hdl : Word.bit (s.chip.reg Reg.HG_TDEADLINE i.val) 31 = true) (hgoing : (s.chip.th i.val).mode.stopped = false)
    (hmode : (s.chip.th i.val).mode ≠ .solo) (hsolo : (s.chip.th i.val).solo = false)
    (hnew : (s.chip.th i.val).overrun = false) (hsync : (s.chip.th i.val).synced ≠ some (s.chip.th i.val).course)
    (hlate : (s.chip.th i.val).base + Word.field (s.chip.reg Reg.HG_TDEADLINE i.val) 0 24 * 1000 * nsUnit ≤ s.chip.now) :
    ∃ a q, exec (.overrun i) s = .next { s with chip := (s.chip.fresh.lateMarked i.val).detected a q true } := by
  have hdl' : Word.bit (s.chip.newCycle.reg Reg.HG_TDEADLINE i.val) 31 = true := hdl
  have hgoing' : (s.chip.newCycle.th i.val).mode.stopped = false := hgoing
  have hmode' : ((s.chip.newCycle.th i.val).mode == .solo) = false := beq_eq_false_iff_ne.mpr hmode
  have hsolo' : (s.chip.newCycle.th i.val).solo = false := hsolo
  have hnew' : (s.chip.newCycle.th i.val).overrun = false := hnew
  have hsync' : ((s.chip.newCycle.th i.val).synced == some (s.chip.newCycle.th i.val).course) = false :=
    beq_eq_false_iff_ne.mpr hsync
  have hlate' : ¬ s.chip.newCycle.now <
      (s.chip.newCycle.th i.val).base + Word.field (s.chip.newCycle.reg Reg.HG_TDEADLINE i.val) 0 24 * 1000 * nsUnit :=
    Nat.not_lt.mpr hlate
  exact ⟨_, _, (State.runDie_eq hdie hrst _).trans (by
    simp only [hdl', hgoing', hmode', hsolo', hnew', hsync', hlate', Bool.not_true, Bool.or_false, decide_false,
      Bool.false_eq_true, if_false]
    rfl)⟩

theorem Chip.lateMarked_th (c : Chip) (t : Nat) :
    (c.lateMarked t).th t = { c.th t with overrun := true } ∧ ∀ j, j ≠ t → (c.lateMarked t).th j = c.th j := by
  have hsq : (c.lateMarked t).sq = (c.modTh t fun x => { x with overrun := true }).sq := by
    simp [Chip.lateMarked, Chip.buildSuspects]
  constructor
  · rw [Chip.th, hsq]
    exact Chip.th_modTh c (t := t) _
  · intro j hj
    rw [Chip.th, hsq]
    exact Chip.th_modTh_ne c hj _

/-- What WAIT_TMO does of a wait that is older than its time-out. -/
theorem exec_waitTmo_old {a : Agent} {w : WaitState} (hdie : s.chip.id.hub = false) (hrst : s.chip.inReset = false)
    (hw : (s.chip.sg.waits.find? fun v => v.1 == a.val) = some (a.val, w)) (hnew : w.reported = false)
    (hlimit : Word.field (s.chip.reg Reg.HG_WAITTMO) 0 20 ≠ 0)
    (hold : Word.field (s.chip.reg Reg.HG_WAITTMO) 0 20 < s.chip.waitAge a.val) :
    ∃ act q, exec (.waitTmo a) s = .next { s with chip := (s.chip.fresh.waitMarked a.val w).detected act q false } := by
  have hw' : (s.chip.newCycle.sg.waits.find? fun v => v.1 == a.val) = some (a.val, w) := hw
  have hlimit' : (Word.field (s.chip.newCycle.reg Reg.HG_WAITTMO) 0 20 == 0) = false := beq_eq_false_iff_ne.mpr hlimit
  have hold' : ¬ s.chip.newCycle.waitAge a.val ≤ Word.field (s.chip.newCycle.reg Reg.HG_WAITTMO) 0 20 := Nat.not_le.mpr hold
  exact ⟨_, _, (State.runDie_eq hdie hrst _).trans (by
    simp only [hw', hnew, hlimit', hold', Bool.or_self, decide_false, Bool.false_eq_true, if_false]
    rfl)⟩

theorem exec_waitTmo_young {a : Agent} (hdie : s.chip.id.hub = false) (hrst : s.chip.inReset = false)
    (hyoung : s.chip.waitAge a.val ≤ Word.field (s.chip.reg Reg.HG_WAITTMO) 0 20) :
    exec (.waitTmo a) s = .next { s with chip := s.chip.fresh } := by
  have hyoung' : s.chip.newCycle.waitAge a.val ≤ Word.field (s.chip.newCycle.reg Reg.HG_WAITTMO) 0 20 := hyoung
  refine (State.runDie_eq hdie hrst _).trans ?_
  split
  · rfl
  · simp only [hyoung', decide_true, Bool.or_true, if_true]

/-- What SQ_WDOG does of a thread that has issued nothing for its time. -/
theorem exec_sqWdog_idle {i : Thread} (hdie : s.chip.id.hub = false) (hrst : s.chip.inReset = false)
    (hrun : (s.chip.th i.val).mode = .run) (hlimit : Word.field (s.chip.reg Reg.HG_SQWD) 0 20 ≠ 0)
    (hidle : Word.field (s.chip.reg Reg.HG_SQWD) 0 20 ≤ s.chip.usSinceFrc (s.chip.th i.val).runAt) :
    ∃ a q, exec (.sqWdog i) s = .next { s with chip := (s.chip.fresh.wdogStopped i.val).detected a q false } := by
  have hrun' : ((s.chip.newCycle.th i.val).mode != .run) = false := by
    rw [show (s.chip.newCycle.th i.val).mode = .run from hrun]; rfl
  have hlimit' : (Word.field (s.chip.newCycle.reg Reg.HG_SQWD) 0 20 == 0) = false := beq_eq_false_iff_ne.mpr hlimit
  have hidle' : ¬ s.chip.newCycle.usSinceFrc (s.chip.newCycle.th i.val).runAt < Word.field (s.chip.newCycle.reg Reg.HG_SQWD) 0 20 :=
    Nat.not_lt.mpr hidle
  exact ⟨_, _, (State.runDie_eq hdie hrst _).trans (by
    simp only [hrun', hlimit', hidle', Bool.or_self, decide_false, Bool.false_eq_true, if_false]
    rfl)⟩

theorem exec_sqWdog_active {i : Thread} (hdie : s.chip.id.hub = false) (hrst : s.chip.inReset = false)
    (hactive : s.chip.usSinceFrc (s.chip.th i.val).runAt < Word.field (s.chip.reg Reg.HG_SQWD) 0 20) :
    exec (.sqWdog i) s = .next { s with chip := s.chip.fresh } := by
  have hactive' : s.chip.newCycle.usSinceFrc (s.chip.newCycle.th i.val).runAt < Word.field (s.chip.newCycle.reg Reg.HG_SQWD) 0 20 :=
    hactive
  refine (State.runDie_eq hdie hrst _).trans ?_
  simp only [hactive', decide_true, Bool.or_true, if_true]

theorem Chip.wdogStopped_th (c : Chip) (t : Nat) :
    (c.wdogStopped t).th t = { c.th t with mode := .fault, fcode := 7 } ∧ ∀ j, j ≠ t → (c.wdogStopped t).th j = c.th j := by
  have hth : ∀ j, (c.report Event.HG_SQ_WDOG (c.thrRep t)).th j = c.th j := fun j => by simp [Chip.th]
  constructor
  · rw [Chip.wdogStopped, Chip.thStop, Chip.th_modTh, hth]
  · intro j hj
    rw [Chip.wdogStopped, Chip.thStop, Chip.th_modTh_ne _ hj, hth]

/-- Settles O16: each detector marks what it speaks of; the capture and the escalation that follow touch neither. -/
theorem hangDetectors : Obligations.HangDetectors := by
  unfold Obligations.HangDetectors
  refine ⟨fun s e hdie hrst ht hwatch hbusy hnew hcalm hhost hrgn hover => ?hung,
    fun s e hdie hrst ht hearly => ?early,
    fun s i hdie hrst hdl hgoing hmode hsolo hnew hsync hlate => ?late,
    fun s a w hdie hrst hw hnew hlimit hold => ?old, fun s a hdie hrst hyoung => ?young,
    fun s i hdie hrst hrun hlimit hidle => ?idle, fun s i hdie hrst hactive => ?active⟩
  case hung =>
    obtain ⟨a, q, hexec⟩ := exec_hbTmo_over hdie hrst ht hwatch hbusy hnew hcalm hhost hrgn hover
    refine State.answers hexec fun d hd => ?_
    subst hd
    obtain ⟨hsq, htaps, heng⟩ := s.chip.fresh.hbMarked_leaves e.val
    have hside := (s.chip.fresh.hbMarked e.val).beside_detected a q true
    have hrunning := (s.chip.fresh.hbMarked e.val).running_detected a q true e.val
    rw [heng] at hrunning
    refine ⟨(congrArg EngState.hbto hrunning :), (congrArg EngState.log hrunning :),
      (congrArg EngState.done hrunning :).trans hbusy, (Chip.sq_of_beside hside).trans hsq,
      (Chip.taps_of_beside hside).trans htaps⟩
  case early =>
    refine State.answers (exec_hbTmo_early hdie hrst ht hearly) fun d hd => ?_
    rw [hd]
    exact ⟨rfl, rfl, rfl⟩
  case late =>
    obtain ⟨a, q, hexec⟩ := exec_overrun_late hdie hrst hdl hgoing hmode hsolo hnew hsync hlate
    refine State.answers hexec fun d hd => ?_
    subst hd
    obtain ⟨hth, hothers⟩ := s.chip.fresh.lateMarked_th i.val
    have hside := Chip.th_of_beside ((s.chip.fresh.lateMarked i.val).beside_detected a q true)
    exact ⟨(hside _).trans hth, fun j hj => (hside _).trans (hothers j hj)⟩
  case old =>
    obtain ⟨act, q, hexec⟩ := exec_waitTmo_old hdie hrst hw hnew hlimit hold
    refine State.answers hexec fun d hd => ?_
    subst hd
    have hside := (s.chip.fresh.waitMarked a.val w).beside_detected act q false
    have hsg : (s.chip.fresh.waitMarked a.val w).sg =
        { s.chip.sg with waits := SMap.insert s.chip.sg.waits a.val { w with reported := true } } := by
      rw [Chip.waitMarked, Chip.report_sg]
      rfl
    have hsq : (s.chip.fresh.waitMarked a.val w).sq = s.chip.sq := by simp [Chip.waitMarked]
    refine ⟨?_, ?_, (Chip.sq_of_beside hside).trans hsq⟩
    · rw [Chip.sg_of_beside hside, hsg, SMap.map_insert, SMap.find_insert_self]
    · rw [Chip.sg_of_beside hside, hsg]
  case young =>
    refine State.answers (exec_waitTmo_young hdie hrst hyoung) fun d hd => ?_
    rw [hd]
    exact ⟨rfl, rfl⟩
  case idle =>
    obtain ⟨a, q, hexec⟩ := exec_sqWdog_idle hdie hrst hrun hlimit hidle
    refine State.answers hexec fun d hd => ?_
    subst hd
    obtain ⟨hth, hothers⟩ := s.chip.fresh.wdogStopped_th i.val
    have hside := Chip.th_of_beside ((s.chip.fresh.wdogStopped i.val).beside_detected a q false)
    exact ⟨(hside _).trans hth, fun j hj => (hside _).trans (hothers j hj)⟩
  case active =>
    refine State.answers (exec_sqWdog_active hdie hrst hactive) fun d hd => ?_
    rw [hd]
    exact ⟨rfl, rfl⟩

end Sys2Proof.Machine
end

section
/-!
O17: capture, reading, release and mirroring of the capsule (R324 to R326).
-/

namespace Sys2Proof.Machine

variable {s : State} {m : Master}

/-! ### The commands of the capsule -/

theorem Chip.rowWrite_cpCmd (c : Chip) (w : Word) :
    c.rowWrite { m := m, row := Reg.CP_CMD, i := 0, idx := 0, w := w } =
      ((c.onBit w 0 Chip.cpTake).onBit w 1 Chip.cpRelease).done := by
  simp only [Chip.rowWrite, Chip.writeCp, Reg.CP_CMD]

theorem exec_cpCmd {w : Word} (hopen : s.chip.opens m 0x1E = true) :
    s.runMaster m (fun c => c.regWrite m 0x1E04C w) =
      .next { s with chip := (s.chip.fresh.onBit w 0 Chip.cpTake).onBit w 1 Chip.cpRelease } :=
  State.runMaster_rowWrite (r := Reg.CP_CMD) (by decide) hopen (by decide) (by decide) rfl (Bool.and_false _)
    (by simp only [Chip.rowIdx, Reg.CP_CMD]) (by simp only [Chip.fitWord, Reg.CP_CMD]) (Chip.rowWrite_cpCmd _ w)

theorem exec_cpTake (hopen : s.chip.opens m 0x1E = true) :
    exec (.cpTake m) s = .next { s with chip := s.chip.fresh.cpTake } := by
  show s.runMaster m (fun c => c.regWrite m 0x1E04C 1) = _
  exact exec_cpCmd hopen

theorem exec_cpRelease (hopen : s.chip.opens m 0x1E = true) :
    exec (.cpRelease m) s = .next { s with chip := s.chip.fresh.cpRelease } := by
  show s.runMaster m (fun c => c.regWrite m 0x1E04C 2) = _
  exact exec_cpCmd hopen

/-! ### Taking -/

/-- TAKE changes no thread and no entry. -/
theorem Chip.cpTake_leaves (c : Chip) : c.cpTake.sq = c.sq ∧ c.cpTake.gr = c.gr := by
  have hside : c.cpTake.beside = c.buildSuspects.beside := Chip.beside_capture _ _
  exact ⟨(Chip.sq_of_beside hside).trans rfl, (congrArg Chip.gr hside :)⟩

/-- With an empty store a capture of reason 6 starts, of no engine. -/
theorem Chip.cpTake_starts {c : Chip} (h : c.cp.stage = .empty) :
    c.cpTake.cp.stage = .paused ∧ c.cpTake.cp.reason = 6 ∧ c.cpTake.cp.seq = (c.cp.seq + 1) % 2 ^ 32
      ∧ c.cpTake.cp.left = [] := by
  have hfree : (c.buildSuspects.cp.stage != .empty) = false := by
    rw [show c.buildSuspects.cp.stage = .empty from h]; rfl
  simp only [Chip.cpTake, Chip.capture, hfree, Bool.false_eq_true, if_false]
  exact ⟨trivial, trivial, rfl, rfl⟩

/-- With one held it is refused. -/
theorem Chip.cpTake_refused {c : Chip} (h : c.cp.stage ≠ .empty) : c.cpTake.cp = c.cp := by
  have hheld : (c.buildSuspects.cp.stage != .empty) = true := bne_iff_ne.2 h
  simp only [Chip.cpTake, Chip.capture, hheld, if_true, Chip.report_cp]
  rfl

/-! ### Completion -/

/-- The stage and the number of the capsule. -/
def Chip.cpMark (c : Chip) : CpStage × Nat := (c.cp.stage, c.cp.seq)

theorem Chip.cpMark_withCp (c : Chip) (x : CpState) : ({ c with cp := x } : Chip).cpMark = (x.stage, x.seq) := rfl

theorem Chip.cpMark_engReset (c : Chip) (e : Nat) : (c.engReset e).cpMark = c.cpMark := by
  have hlog : ∀ (d : Chip) (a b : Nat), (d.logStep a b).cpMark = d.cpMark := by
    intro d a b
    unfold Chip.logStep
    split
    · rfl
    · exact Chip.cpMark_withCp _ _
  rw [Chip.engReset, hlog]
  simp only [Chip.cpMark, Chip.report_cp]
  rfl

theorem Chip.cpMark_escalateWaiting (c : Chip) : c.escalateWaiting.cpMark = c.cpMark :=
  foldl_keeps Chip.cpMark _ _ _ fun x e => x.cpMark_engReset e.1

theorem Chip.sq_escalateWaiting (c : Chip) : c.escalateWaiting.sq = c.sq :=
  Chip.sq_of_beside (foldl_keeps Chip.beside _ _ _ fun x e => x.beside_engReset e.1)

theorem Chip.takeFree_eq (c : Chip) : c.takeFree.2 = { c with free := c.takeFree.2.free } := rfl

theorem Chip.mwRefuse_leaves (c : Chip) (addr : Nat) :
    (c.mwRefuse addr).cp = c.cp ∧ (c.mwRefuse addr).sq = c.sq := by
  simp only [Chip.mwRefuse]
  exact ⟨(Chip.report_cp _ _ _).trans rfl, (Chip.report_sq _ _ _).trans rfl⟩

/-- The mirror's start over a list of beats. -/
def Chip.mirrorOver (c : Chip) (beats : List Nat) : Chip :=
  if !(Word.bit (c.reg Reg.CP_CFG) 31) then c
  else
    let inside (k : Nat) : Bool := c.mwInside (c.cpBeat k) (c.cpBeat k)
    let take := beats.filter inside
    let c' := { c with cp := { c.cp with mirroring := !take.isEmpty, mirBase := c.cpBase, mirror := take, mwErr := false } }
    match beats.find? fun k => !(inside k) with
    | Option.some k => c'.mwRefuse (c.cpBeat k)
    | none => c'

theorem Chip.mirrorStart_eq (c : Chip) : c.mirrorStart = c.mirrorOver (List.range 8192) := by
  unfold Chip.mirrorStart Chip.mirrorOver
  generalize List.range 8192 = beats
  rfl

/-- The mirror's start leaves stage and number, and every thread. -/
theorem Chip.mirrorOver_leaves (c : Chip) (beats : List Nat) :
    (c.mirrorOver beats).cpMark = c.cpMark ∧ (c.mirrorOver beats).sq = c.sq := by
  unfold Chip.mirrorOver
  dsimp only
  split
  · exact ⟨rfl, rfl⟩
  · split
    · next k _ =>
        rw [Chip.cpMark, (Chip.mwRefuse_leaves _ _).1, (Chip.mwRefuse_leaves _ _).2]
        exact ⟨rfl, rfl⟩
    · exact ⟨Chip.cpMark_withCp _ _, rfl⟩

theorem Chip.mirrorStart_leaves (c : Chip) : c.mirrorStart.cpMark = c.cpMark ∧ c.mirrorStart.sq = c.sq := by
  rw [Chip.mirrorStart_eq]
  exact c.mirrorOver_leaves _

theorem exec_capsuleComplete (hdie : s.chip.id.hub = false) (hrst : s.chip.inReset = false)
    (hstage : s.chip.cp.stage = .reading) (hleft : s.chip.cp.left = []) :
    exec .capsuleComplete s = .next { s with
      chip := ((({ s.chip.fresh with cp := { s.chip.cp with stage := .done } }).report
        Event.CP_CAPTURED).mirrorStart).escalateWaiting } := by
  have hready : (s.chip.newCycle.cp.stage == .reading && s.chip.newCycle.cp.left.isEmpty) = true := by
    rw [show s.chip.newCycle.cp.stage = .reading from hstage, show s.chip.newCycle.cp.left = [] from hleft]; rfl
  refine (State.runDie_eq hdie hrst _).trans ?_
  simp only [hready, if_true]
  rfl

/-! ### Reading -/

theorem exec_capsuleRead (hopen : s.chip.opens m 0x1E = true) :
    exec (.capsuleRead m) s = .next { s with
      chip := (s.chip.fresh.latch m 0x1E 0x058 0).autoInc m Reg.CP_RADDR 16 } := by
  have hmapped : ∀ hub, pagePresent hub 0x1E = true → Reg.CP_RDATA.mapped hub = true := by decide
  show s.runMaster m (fun c => c.regRead m 0x1E058) = _
  rw [State.runMaster_rowRead (r := Reg.CP_RDATA) (k := 0) (by decide) hopen (hmapped _ (opens_present hopen))
    (by simp only [Chip.rowIdx, Reg.CP_RDATA])]
  rfl

/-- A selector of 16 bits moves on by one where it moves by itself. -/
theorem Chip.autoInc_field (c : Chip) (m : Master) (r : RegRow) :
    Word.field ((c.autoInc m r 16).regOf m r) 0 16 =
      if Word.bit (c.regOf m r) 31 then (Word.field (c.regOf m r) 0 16 + 1) % 2 ^ 16 else Word.field (c.regOf m r) 0 16 := by
  have hmask : ∀ i < 16, Word.bit (BitVec.ofNat 32 (2 ^ 16 - 1)) (0 + i) = true := by decide
  have hfld : ∀ n : Nat, Word.field (fld n 16 0) 0 16 = n % 2 ^ 16 := by
    intro n
    simp only [Word.field, fld, Word.place, Nat.shiftLeft_zero, Nat.shiftRight_zero, BitVec.toNat_ofNat]
    omega
  unfold Chip.autoInc
  dsimp only
  split
  · rw [Chip.regOf_setRegOf, Word.field_merge hmask, hfld]
  · rfl

/-- Settles O17: the capsule's stages, one command each. -/
theorem capsuleCapture : Obligations.CapsuleCapture := by
  unfold Obligations.CapsuleCapture
  refine ⟨fun s m hopen hempty => ?take, fun s m hopen hheld => ?busy, fun s hdie hrst hpaused => ?pauseEnd,
    fun s hdie hrst hother => ?noPause, fun s e hdie hrst ht hreading => ?silent,
    fun s hdie hrst hreading hleft => ?complete, fun s hdie hrst hother => ?noReading,
    fun s hdie hrst hmirror hhost => ?mirrored, fun s m hopen hdone => ?release, fun s m hopen hother => ?ignored,
    fun s m hopen => ?read⟩
  case take =>
    refine State.answers (exec_cpTake hopen) fun d hd => ?_
    rw [hd]
    obtain ⟨hstage, hreason, hseq, hleft⟩ := Chip.cpTake_starts (c := s.chip.fresh) hempty
    obtain ⟨hsq, hgr⟩ := s.chip.fresh.cpTake_leaves
    exact ⟨hstage, hreason, hseq, hleft, hsq, hgr⟩
  case busy =>
    refine State.answers (exec_cpTake hopen) fun d hd => ?_
    rw [hd]
    exact ⟨Chip.cpTake_refused (c := s.chip.fresh) hheld, s.chip.fresh.cpTake_leaves.1⟩
  case pauseEnd =>
    have hpaused' : (s.chip.newCycle.cp.stage == .paused) = true := beq_iff_eq.2 hpaused
    refine State.answers ((State.runDie_eq hdie hrst _).trans (by rw [if_pos hpaused'])) fun d hd => ?_
    rw [hd]
    exact ⟨rfl, rfl, rfl⟩
  case noPause =>
    have hother' : ¬ (s.chip.newCycle.cp.stage == .paused) = true := fun h => hother (beq_iff_eq.1 h)
    refine State.answers ((State.runDie_eq hdie hrst _).trans (by rw [if_neg hother'])) fun d hd => ?_
    rw [hd]
    exact ⟨rfl, rfl⟩
  case silent =>
    have hreading' : s.chip.newCycle.readingEng e.val = true := hreading
    have hstage : s.chip.cp.stage = .reading := by
      simp only [Chip.readingEng, Bool.and_eq_true, beq_iff_eq] at hreading
      exact hreading.1
    refine State.answers ((State.runEng_eq hdie hrst ht _).trans (by rw [if_pos hreading'])) fun d hd => ?_
    rw [hd, Chip.report_cp]
    exact ⟨rfl, rfl, hstage⟩
  case complete =>
    refine State.answers (exec_capsuleComplete hdie hrst hreading hleft) fun d hd => ?_
    have hmark : d.cpMark = (.done, s.chip.cp.seq) := by
      rw [hd, Chip.cpMark_escalateWaiting, (Chip.mirrorStart_leaves _).1, Chip.cpMark, Chip.report_cp]
    have hsq : d.sq = s.chip.sq := by
      rw [hd, Chip.sq_escalateWaiting, (Chip.mirrorStart_leaves _).2, Chip.report_sq]
      rfl
    exact ⟨(congrArg Prod.fst hmark :), (congrArg Prod.snd hmark :), hsq⟩
  case noReading =>
    have hother' : (s.chip.newCycle.cp.stage == .reading) = false := beq_eq_false_iff_ne.mpr hother
    refine State.answers ((State.runDie_eq hdie hrst _).trans (by rw [hother', Bool.false_and, if_neg Bool.false_ne_true])) fun d hd => ?_
    rw [hd]
    exact ⟨rfl, rfl⟩
  case mirrored =>
    have hready : (s.chip.newCycle.cp.mirroring && !s.chip.newCycle.pw.hostLow) = true := by
      rw [show s.chip.newCycle.cp.mirroring = true from hmirror, show s.chip.newCycle.pw.hostLow = false from hhost]; rfl
    refine State.answers ((State.runDie_eq hdie hrst _).trans (by rw [if_pos hready])) fun d hd => ?_
    rw [hd, Chip.note_cp, Chip.note_ev]
    exact ⟨rfl, rfl, rfl⟩
  case release =>
    have hdone' : (s.chip.fresh.cp.stage == .done) = true := beq_iff_eq.2 hdone
    refine State.answers (exec_cpRelease hopen) fun d hd => ?_
    rw [hd, Chip.cpRelease, if_pos hdone']
    exact ⟨rfl, rfl⟩
  case ignored =>
    have hother' : ¬ (s.chip.fresh.cp.stage == .done) = true := fun h => hother (beq_iff_eq.1 h)
    refine State.answers (exec_cpRelease hopen) fun d hd => ?_
    rw [hd, Chip.cpRelease, if_neg hother']
    exact ⟨rfl, rfl⟩
  case read =>
    obtain ⟨l, hl⟩ := s.chip.fresh.latch_shadows m 0x1E 0x058 0
    refine State.answers (exec_capsuleRead hopen) fun d hd => ?_
    rw [hl] at hd
    rw [hd, Chip.autoInc_field]
    refine ⟨?_, rfl⟩
    unfold Chip.autoInc
    dsimp only
    split <;> rfl

end Sys2Proof.Machine
end

section
/-!
O19: the solo replay of the suspects (R334).
-/

namespace Sys2Proof.Machine

variable {s : State} {m : Master}

/-! ### What the parts of the replay leave -/

theorem Chip.activity_hg (c : Chip) (g : Nat) : (c.activity g).hg = c.hg := rfl

theorem Chip.toRun_hg (c : Chip) (t : Nat) : (c.toRun t).hg = c.hg := rfl

/-- A wait that is withdrawn leaves threads and replay. -/
theorem Chip.withdraw_leaves (c : Chip) (a : Nat) : (c.withdraw a).sq = c.sq ∧ (c.withdraw a).hg = c.hg := by
  unfold Chip.withdraw
  split
  · dsimp only
    unfold Chip.semAct
    split <;> exact ⟨rfl, rfl⟩
  · exact ⟨rfl, rfl⟩

theorem Chip.threadHalt_hg (c : Chip) (t : Nat) : (c.threadHalt t).hg = c.hg := by
  unfold Chip.threadHalt
  split
  · rfl
  · exact (c.withdraw_leaves _).2

/-- A thread that is not idle halts. -/
theorem Chip.threadHalt_mode {c : Chip} {t : Nat} (h : (c.th t).mode ≠ .idle) : ((c.threadHalt t).th t).mode = .halted := by
  rw [Chip.threadHalt, if_neg (fun hidle => h (beq_iff_eq.1 hidle)), Chip.th_modTh]

/-- The end of a replay: the stage is off and the end shown. -/
theorem Chip.soloEnd_hg (c : Chip) : c.soloEnd.hg = { c.hg with solo := .off, soloDone := true } := by
  rw [Chip.soloEnd]
  dsimp only
  rw [Chip.report_hg]
  exact Chip.threadHalt_hg _ _

theorem Chip.soloEnd_th {c : Chip} (h : (c.th c.soloThread).mode ≠ .idle) :
    (c.soloEnd.th c.soloThread).mode = .halted ∧ (c.soloEnd.th c.soloThread).solo = false := by
  have hth : c.soloEnd.th c.soloThread =
      { (({ c with hg := { c.hg with solo := .off, soloDone := true } } : Chip).threadHalt c.soloThread).th c.soloThread with
        solo := false } := by
    rw [Chip.soloEnd]
    dsimp only
    rw [Chip.th, Chip.report_sq]
    exact Chip.th_modTh _ (t := c.soloThread) _
  rw [hth]
  exact ⟨Chip.threadHalt_mode (c := { c with hg := { c.hg with solo := .off, soloDone := true } }) h, rfl⟩

/-! ### The turn to a suspect -/

theorem Chip.soloTurn_some {c : Chip} {u : Suspect} (h : c.soloSuspect = some u) :
    c.soloTurn =
      if Word.bit (c.reg Reg.HG_SOLOCFG) 31 then
        { ((c.modTh c.soloThread fun x =>
            { x with pc := Word.field (c.reg Reg.HG_SOLOCFG) 0 14, solo := true }).toRun c.soloThread) with
          hg := { c.hg with solo := .prologue } }
      else
        { (c.modTh c.soloThread fun x => { x with mode := .solo, solo := true }) with
          hg := { c.hg with solo := .fire } } := by
  simp only [Chip.soloTurn, h]
  rfl

/-- The stage and the thread of a turn to a suspect. -/
theorem Chip.soloTurn_turns {c : Chip} {u : Suspect} (h : c.soloSuspect = some u) :
    c.soloTurn.hg = { c.hg with solo := if Word.bit (c.reg Reg.HG_SOLOCFG) 31 then .prologue else .fire }
      ∧ (c.soloTurn.th c.soloThread).solo = true
      ∧ (c.soloTurn.th c.soloThread).mode = if Word.bit (c.reg Reg.HG_SOLOCFG) 31 then .run else .solo := by
  rw [Chip.soloTurn_some h]
  split
  · have hth := Chip.toRun_th (c.modTh c.soloThread fun x =>
      { x with pc := Word.field (c.reg Reg.HG_SOLOCFG) 0 14, solo := true }) (t := c.soloThread)
    rw [Chip.th_modTh] at hth
    exact ⟨rfl, (congrArg ThreadState.solo hth :), (congrArg ThreadState.mode hth :)⟩
  · have hth := Chip.th_modTh c (t := c.soloThread) fun x => { x with mode := .solo, solo := true }
    exact ⟨rfl, (congrArg ThreadState.solo hth :), (congrArg ThreadState.mode hth :)⟩

/-- A turn keeps the list, the results and the count of hangs. -/
theorem Chip.soloTurn_keeps (c : Chip) :
    c.soloTurn.hg.replay = c.hg.replay ∧ c.soloTurn.hg.suspects = c.hg.suspects ∧ c.soloTurn.hg.hangs = c.hg.hangs := by
  cases h : c.soloSuspect with
  | none =>
    have hend : c.soloTurn = c.soloEnd := by simp only [Chip.soloTurn, h]
    rw [hend, Chip.soloEnd_hg]
    exact ⟨rfl, rfl, rfl⟩
  | some u =>
    rw [Chip.soloTurn_some h]
    split <;> exact ⟨rfl, rfl, rfl⟩

/-- The start of a replay, where nothing forbids it. -/
theorem Chip.soloStart_taken {c : Chip} (hsus : c.hg.suspects ≠ []) (hstop : (c.th c.soloThread).mode.stopped = true)
    (hfence : c.hg.fenced = false) (hesc : c.escalating = false) :
    c.soloStart = ({ c with hg := { c.hg with
        replay := c.hg.suspects, replayShown := true, soloIdx := 0, soloDone := false, hangs := 0 } }).soloTurn := by
  have hsus' : c.hg.suspects.isEmpty = false := List.isEmpty_eq_false_iff.2 hsus
  simp only [Chip.soloStart, hsus', hstop, hfence, hesc, Bool.not_true, Bool.or_self, Bool.false_eq_true, if_false]

theorem Chip.soloStart_refused {c : Chip}
    (h : c.hg.suspects = [] ∨ (c.th c.soloThread).mode.stopped = false ∨ c.hg.fenced = true ∨ c.escalating = true) :
    c.soloStart = c.report Event.HG_SOLO_BAD (c.thrRep c.soloThread) := by
  have hbad : (c.hg.suspects.isEmpty || !(c.th c.soloThread).mode.stopped || c.hg.fenced || c.escalating) = true := by
    rcases h with h | h | h | h <;> simp [h]
  rw [Chip.soloStart]
  exact if_pos hbad

/-- The oldest suspect of a list that is not empty. -/
theorem Chip.soloSuspect_first {c : Chip} (hidx : c.hg.soloIdx = 0) (hne : c.hg.replay ≠ []) : ∃ u, c.soloSuspect = some u := by
  have hlen : 0 < c.hg.replay.length := List.length_pos_iff.2 hne
  have hlast : c.hg.replay.length - 1 - 0 < c.hg.replay.length := by omega
  exact ⟨c.hg.replay[c.hg.replay.length - 1 - 0], by
    rw [Chip.soloSuspect, hidx, if_pos hlen, List.getElem?_eq_getElem hlast]⟩

/-! ### The commands -/

/-- A write of HG_CMD that asks for neither an engine reset nor an unfencing. -/
theorem exec_hgCmd {w : Word} (hopen : s.chip.opens m 0x1D = true) (h0 : Word.bit w 0 = false) (h1 : Word.bit w 1 = false) :
    s.runMaster m (fun c => c.regWrite m 0x1D078 w) =
      .next { s with chip := (s.chip.fresh.onBit w 2 Chip.soloStart).onBit w 3 Chip.soloAbort } := by
  have hwrite : s.chip.fresh.rowWrite { m := m, row := Reg.HG_CMD, i := 0, idx := 0, w := w } =
      ((s.chip.fresh.onBit w 2 Chip.soloStart).onBit w 3 Chip.soloAbort).done := by
    have hrow : s.chip.fresh.rowWrite { m := m, row := Reg.HG_CMD, i := 0, idx := 0, w := w } = s.chip.fresh.hgCmd m w := by
      simp only [Chip.rowWrite, Chip.writeHg, Reg.HG_CMD]
    rw [hrow]
    simp only [Chip.hgCmd, Chip.onBit, h0, h1, Bool.and_false, Bool.false_eq_true, if_false]
    rfl
  exact State.runMaster_rowWrite (r := Reg.HG_CMD) (by decide) hopen (by decide) (by decide) rfl (Bool.and_false _)
    (by simp only [Chip.rowIdx, Reg.HG_CMD]) (by simp only [Chip.fitWord, Reg.HG_CMD]) hwrite

theorem exec_solo (hopen : s.chip.opens m 0x1D = true) :
    exec (.solo m) s = .next { s with chip := s.chip.fresh.soloStart } := by
  show s.runMaster m (fun c => c.regWrite m 0x1D078 4) = _
  exact exec_hgCmd hopen (by decide) (by decide)

theorem exec_soloAbort (hopen : s.chip.opens m 0x1D = true) :
    exec (.soloAbort m) s = .next { s with chip := s.chip.fresh.soloAbort } := by
  show s.runMaster m (fun c => c.regWrite m 0x1D078 8) = _
  exact exec_hgCmd hopen (by decide) (by decide)

/-! ### A hang -/

theorem withRes_length (us : List Suspect) (k res : Nat) : (withRes us k res).length = us.length := by
  simp [withRes]

/-- The result is entered with the suspect that counts `k` from the oldest. -/
theorem withRes_entered {us : List Suspect} {k : Nat} (hk : k < us.length) (res : Nat) :
    ((withRes us k res)[us.length - 1 - k]?).map (fun v => v.res) = some res := by
  have hlt : us.length - 1 - k < us.length := by omega
  simp [withRes, List.getElem?_map, List.getElem?_zipIdx, List.getElem?_eq_getElem hlt]

/-- The replay after a hang of its suspect (R334). -/
def Chip.hung (c : Chip) : Chip :=
  { c.setRes c.hg.soloIdx 2 with hg := { (c.setRes c.hg.soloIdx 2).hg with solo := .hung, hangs := c.hg.hangs + 1 } }

/-- The report of the hang, and the capture and the escalation that follow (R334). -/
def Chip.hangHandled (c : Chip) (u : Suspect) : Chip :=
  let p1 := fld u.eng 10 0 ||| fld (u.eng / 4) 8 16
  let d := c.hung.report Event.HG_SOLO_HANG { p1 := p1, p2 := u.ctx }
  let r := d.capture { reason := 7, engs := [u.eng], code := 0x1D09, p1 := p1 }
  r.1.escalate [u.eng] r.2

/-- They leave the replay as the hang has left it. -/
theorem Chip.hangHandled_hg (c : Chip) (u : Suspect) : (c.hangHandled u).hg = c.hung.hg := by
  refine (Chip.hg_of_beside ?_ : _ = c.hung.hg)
  simp only [Chip.hangHandled, Chip.beside_escalate, Chip.beside_capture, Chip.beside_report]

theorem exec_soloTmo_hang {u : Suspect} (hdie : s.chip.id.hub = false) (hrst : s.chip.inReset = false)
    (hwait : s.chip.hg.solo = .wait) (hu : s.chip.soloSuspect = some u) :
    exec .soloTmo s = .next { s with
      chip := if ((s.chip.fresh.hangHandled u).eng u.eng).inEpisode then s.chip.fresh.hangHandled u
        else (s.chip.fresh.hangHandled u).soloNext } := by
  have hwait' : s.chip.newCycle.hg.solo = .wait := hwait
  have hu' : s.chip.newCycle.soloSuspect = some u := hu
  refine (State.runDie_eq hdie hrst _).trans ?_
  simp only [hwait', hu']
  rfl

/-- After the hang the replay's results and counts are those of the hang, also where it turns to the next suspect. -/
theorem hangHandled_keeps (c : Chip) (u : Suspect) (d : Chip)
    (hd : d = if ((c.hangHandled u).eng u.eng).inEpisode then c.hangHandled u else (c.hangHandled u).soloNext) :
    d.hg.replay = c.hung.hg.replay ∧ d.hg.suspects = c.hung.hg.suspects ∧ d.hg.hangs = c.hung.hg.hangs := by
  split at hd
  · rw [hd, Chip.hangHandled_hg]
    exact ⟨rfl, rfl, rfl⟩
  · obtain ⟨hreplay, hsus, hhangs⟩ := Chip.soloTurn_keeps
      { c.hangHandled u with hg := { (c.hangHandled u).hg with soloIdx := (c.hangHandled u).hg.soloIdx + 1 } }
    rw [hd, Chip.soloNext, hreplay, hsus, hhangs, Chip.hangHandled_hg]
    exact ⟨rfl, rfl, rfl⟩

/-! ### The fire of a suspect -/

/-- An arm that is due now arms a free line within the bounds of the Guard. -/
theorem Chip.placeArm_arms {c : Chip} {n : Nat} {a : LineArm} (hfree : (c.line n).armed = none)
    (hbound : c.trigBound n a.tf = none) (hdue : c.now ≤ a.tf) :
    c.placeArm n a = c.modLine n fun x => { x with armed := some a } := by
  have hdue' : ¬ a.tf < (c.modLine n fun x => { x with armed := some a }).now := Nat.not_lt.2 hdue
  simp only [Chip.placeArm, hfree, hbound, Option.isSome_none, Bool.false_eq_true, if_false]
  exact if_neg hdue'

theorem Chip.line_modLine (c : Chip) (n : Nat) (f : LineState → LineState) : (c.modLine n f).line n = f (c.line n) := by
  simp [Chip.modLine, Chip.line]

theorem Chip.now_of_tk {c d : Chip} (h : c.tk = d.tk) : c.now = d.now := by rw [Chip.now, Chip.now, h]

/-- The arm of a suspect's line for the present time. -/
def Chip.soloArm (c : Chip) (u : Suspect) : LineArm :=
  { tf := c.now, thread := c.soloThread, course := 0, grp := 0, ctx := u.ctx, moment := none
    calOk := false, withheld := false, inStop := false, solo := true }

theorem exec_soloFire {u : Suspect} {n : Nat} (hdie : s.chip.id.hub = false) (hrst : s.chip.inReset = false)
    (hstage : s.chip.hg.solo = .fire) (hu : s.chip.soloSuspect = some u)
    (hmode : (s.chip.th s.chip.soloThread).mode = .solo) (hline : u.line = some n) :
    exec .soloFire s = .next { s with
      chip := ({ s.chip.fresh with hg := { s.chip.hg with solo := .wait } }).placeArm n (s.chip.soloArm u) } := by
  have hstage' : s.chip.newCycle.hg.solo = .fire := hstage
  have hu' : s.chip.newCycle.soloSuspect = some u := hu
  have hmode' : ((s.chip.newCycle.th s.chip.newCycle.soloThread).mode != .solo) = false := by
    rw [show (s.chip.newCycle.th s.chip.newCycle.soloThread).mode = .solo from hmode]; rfl
  refine (State.runDie_eq hdie hrst _).trans ?_
  simp only [hstage', hu', hmode', hline, Bool.false_eq_true, if_false]
  rfl

/-- Settles O19: each command of the replay changes the replay's list, its stage and its thread alone. -/
theorem soloReplay : Obligations.SoloReplay := by
  unfold Obligations.SoloReplay
  refine ⟨fun s m hopen hsus hstop hfence hesc => ?start, fun s m hopen hbad => ?refused,
    fun s m hopen hon hmode => ?abort, fun s m hopen hoff => ?noReplay,
    fun s u n hdie hrst hstage hu hmode hline hfree hbound => ?fire, fun s u hdie hrst hwait hu => ?hang,
    fun s hdie hrst hother => ?noWait⟩
  case start =>
    refine State.answers (exec_solo hopen) fun d hd => ?_
    rw [Chip.soloStart_taken (c := s.chip.fresh) hsus hstop hfence hesc] at hd
    obtain ⟨u, hu⟩ := Chip.soloSuspect_first (c := { s.chip.fresh with hg := { s.chip.fresh.hg with
        replay := s.chip.fresh.hg.suspects, replayShown := true, soloIdx := 0, soloDone := false, hangs := 0 } }) rfl hsus
    subst hd
    exact Chip.soloTurn_turns hu
  case refused =>
    refine State.answers (exec_solo hopen) fun d hd => ?_
    rw [hd, Chip.soloStart_refused (c := s.chip.fresh) hbad, Chip.report_hg, Chip.report_sq]
    exact ⟨rfl, rfl⟩
  case abort =>
    have hon' : ¬ (s.chip.fresh.hg.solo == .off) = true := fun h => hon (beq_iff_eq.1 h)
    refine State.answers (exec_soloAbort hopen) fun d hd => ?_
    rw [Chip.soloAbort, if_neg hon'] at hd
    subst hd
    exact ⟨s.chip.fresh.soloEnd_hg, Chip.soloEnd_th (c := s.chip.fresh) hmode⟩
  case noReplay =>
    have hoff' : (s.chip.fresh.hg.solo == .off) = true := beq_iff_eq.2 hoff
    refine State.answers (exec_soloAbort hopen) fun d hd => ?_
    rw [hd, Chip.soloAbort, if_pos hoff']
    exact ⟨rfl, rfl⟩
  case fire =>
    refine State.answers (exec_soloFire hdie hrst hstage hu hmode hline) fun d hd => ?_
    have htf : (s.chip.soloArm u).tf = s.chip.now := by rw [Chip.soloArm]
    have hdue : ({ s.chip.fresh with hg := { s.chip.hg with solo := .wait } } : Chip).now ≤ (s.chip.soloArm u).tf := by
      rw [htf]
      exact (Chip.now_of_tk (d := s.chip) rfl).le
    have hsame : ∀ tf, ({ s.chip.fresh with hg := { s.chip.hg with solo := .wait } } : Chip).trigBound n tf =
        s.chip.trigBound n tf := fun _ => rfl
    rw [Chip.placeArm_arms (c := { s.chip.fresh with hg := { s.chip.hg with solo := .wait } }) hfree
      (by rw [htf, hsame]; exact hbound) hdue] at hd
    subst hd
    refine ⟨rfl, ?_, rfl⟩
    exact (congrArg LineState.armed (Chip.line_modLine _ _ _) :)
  case hang =>
    refine State.answers (exec_soloTmo_hang hdie hrst hwait hu) fun d hd => ?_
    obtain ⟨hreplay, hsus, hhangs⟩ := hangHandled_keeps s.chip.fresh u d hd
    have hidx : s.chip.hg.soloIdx < s.chip.hg.replay.length := by
      by_contra hno
      rw [Chip.soloSuspect, if_neg hno] at hu
      exact nomatch hu
    refine ⟨hhangs, ?_, ?_, hsus⟩
    · rw [hreplay]
      exact withRes_entered hidx 2
    · rw [hreplay]
      exact withRes_length _ _ _
  case noWait =>
    refine State.answers (c := s.chip.fresh) ((State.runDie_eq hdie hrst _).trans ?_) fun d hd => ?_
    · split
      · next h _ => exact absurd h hother
      · rfl
    · rw [hd]
      exact ⟨rfl, rfl⟩

end Sys2Proof.Machine
end

section
/-!
What a report leaves of the monitors: everything but the counts, the pin counts and, through its record, nothing else.
-/

namespace Sys2Proof.Machine

variable (c : Chip)

/-- The monitors without their running counts. -/
def MnState.still (x : MnState) : MnState := { x with counts := [], pins := [] }

@[simp] theorem Chip.still_count (n : Nat) (i : Option Nat) (k : Nat) : (c.count n i k).mn.still = c.mn.still := by
  unfold Chip.count
  split <;> rfl

@[simp] theorem Chip.still_pinEdges (s r f : Nat) : (c.pinEdges s r f).mn.still = c.mn.still := by
  unfold Chip.pinEdges
  split <;> rfl

@[simp] theorem Chip.still_sendCells (p cls : Nat) (l : List Cell) : (c.sendCells p cls l).mn.still = c.mn.still := by
  unfold Chip.sendCells
  split <;> rfl

@[simp] theorem Chip.still_irqEdges (b : Chip) : (c.irqEdges b).mn.still = c.mn.still := by
  unfold Chip.irqEdges
  refine foldl_keeps (fun x : Chip => x.mn.still) _ _ _ fun x n => ?_
  split
  · split <;> simp
  · rfl

@[simp] theorem Chip.still_inoteOn (p : Nat) : (c.inoteOn p).mn.still = c.mn.still := by
  unfold Chip.inoteOn
  split
  · simp
  · split <;> rfl

@[simp] theorem Chip.still_inoteRaise (p : Nat) (b : Word) : (c.inoteRaise p b).mn.still = c.mn.still := by
  unfold Chip.inoteRaise
  split
  · exact foldl_keeps (fun x : Chip => x.mn.still) _ _ _ (fun x n => Chip.still_inoteOn x n)
  · rfl

@[simp] theorem Chip.still_setReg (r : RegRow) (w : Word) (i j b : Nat) : (c.setReg r w i j b).mn.still = c.mn.still := rfl

@[simp] theorem Chip.still_flag (p b : Nat) (i : Option Nat) : (c.flag p b i).mn.still = c.mn.still := by
  unfold Chip.flag
  dsimp only
  split
  · rfl
  · split <;> simp

@[simp] theorem Chip.still_note (e : Ev) (i : Option Nat) : (c.note e i).mn.still = c.mn.still := by simp [Chip.note]

@[simp] theorem Chip.still_param (p : Option Word) : (c.param p).2.mn.still = c.mn.still := by
  unfold Chip.param
  split <;> rfl

@[simp] theorem Chip.still_enqueueRec (r : RawRec) : (c.enqueueRec r).mn.still = c.mn.still := by
  unfold Chip.enqueueRec
  split
  · rfl
  · simp only [Chip.still_flag, Chip.still_count]

@[simp] theorem Chip.still_report (e : Ev) (r : Rep) : (c.report e r).mn.still = c.mn.still := by
  unfold Chip.report
  dsimp only
  split <;> simp [Chip.record]

end Sys2Proof.Machine
end

section
/-!
O21: counters, snapshots, pin counters and histogram units (R342 to R357).
-/

namespace Sys2Proof.Machine

variable {s : State} {m : Master}

/-! ### What the writes of these registers are -/

/-- The counter and the pin counter that a master has selected. -/
def Chip.selCounter (c : Chip) (m : Master) : Nat := Word.field (c.regOf m Reg.MN_CSEL) 0 9
def Chip.selPin (c : Chip) (m : Master) : Nat := Word.field (c.regOf m Reg.MN_PSEL) 0 4

theorem Chip.rowWrite_ccfg (c : Chip) (k : Nat) (w : Word) :
    c.rowWrite { m := m, row := Reg.MN_CCFG, i := 0, idx := k, w := w } =
      ((c.setRegOf m Reg.MN_CCFG (Word.merge (c.regOf m Reg.MN_CCFG k) w Reg.MN_CCFG.take) k).counterZero
        (c.selCounter m)).done := by
  rw [← Chip.store_rw c (x := { m := m, row := Reg.MN_CCFG, i := 0, idx := k, w := w }) (.inl rfl)]
  simp only [Chip.rowWrite, Chip.writeMn, Reg.MN_CCFG, Chip.selCounter]

theorem Chip.rowWrite_ccmd (c : Chip) (w : Word) :
    c.rowWrite { m := m, row := Reg.MN_CCMD, i := 0, idx := 0, w := w } =
      ((c.onBit w 0 fun c' => c'.counterZero (c.selCounter m)).onBit w 1 Chip.countersZero).done := by
  simp only [Chip.rowWrite, Chip.writeMn, Reg.MN_CCMD, Chip.selCounter]

theorem Chip.rowWrite_freeze (c : Chip) (w : Word) :
    c.rowWrite { m := m, row := Reg.MN_FREEZE, i := 0, idx := 0, w := w } =
      (c.setRegOf m Reg.MN_FREEZE (Word.merge (c.regOf m Reg.MN_FREEZE) w Reg.MN_FREEZE.take)).done := by
  rw [← Chip.store_rw c (x := { m := m, row := Reg.MN_FREEZE, i := 0, idx := 0, w := w }) (.inl rfl)]
  simp only [Chip.rowWrite, Chip.writeMn, Reg.MN_FREEZE]

theorem Chip.rowWrite_snapctl (c : Chip) (w : Word) :
    c.rowWrite { m := m, row := Reg.MN_SNAPCTL, i := 0, idx := 0, w := w } = (c.snapCtl w).done := by
  simp only [Chip.rowWrite, Chip.writeMn, Reg.MN_SNAPCTL]

theorem Chip.rowWrite_pcfg (c : Chip) (k : Nat) (w : Word) :
    c.rowWrite { m := m, row := Reg.MN_PCFG, i := 0, idx := k, w := w } =
      (if pinCfgGood c.id.hub w then
        (c.setRegOf m Reg.MN_PCFG (Word.merge (c.regOf m Reg.MN_PCFG k) w Reg.MN_PCFG.take) k).pinZero (c.selPin m)
      else c.report Event.MN_PCFG_BAD).done := by
  rw [← Chip.store_rw c (x := { m := m, row := Reg.MN_PCFG, i := 0, idx := k, w := w }) (.inl rfl)]
  simp only [Chip.rowWrite, Chip.writeMn, Reg.MN_PCFG, Chip.selPin]

theorem Chip.rowWrite_pcmd (c : Chip) (w : Word) :
    c.rowWrite { m := m, row := Reg.MN_PCMD, i := 0, idx := 0, w := w } =
      (c.onBit w 0 fun c' => c'.pinZero (c.selPin m)).done := by
  simp only [Chip.rowWrite, Chip.writeMn, Reg.MN_PCMD, Chip.selPin]

theorem Chip.rowWrite_ucmd (c : Chip) (k : Nat) (w : Word) :
    c.rowWrite { m := m, row := Reg.HS_UCMD, i := 0, idx := k, w := w } =
      ((c.onBit w 0 fun c => c.hsEmpty k).onBit w 1 fun c => c.hsRestart k).done := by
  simp only [Chip.rowWrite, Chip.writeHs, Reg.HS_UCMD]

/-! ### The commands -/

theorem exec_counterBind (hopen : s.chip.opens m 0x20 = true) (w : Word) :
    exec (.counterBind m w) s = .next { s with
      chip := (s.chip.fresh.setRegOf m Reg.MN_CCFG
        (Word.merge (s.chip.regOf m Reg.MN_CCFG (s.chip.selCounter m)) w Reg.MN_CCFG.take)
        (s.chip.selCounter m)).counterZero (s.chip.selCounter m) } := by
  show s.runMaster m (fun c => c.regWrite m 0x2006C w) = _
  exact State.runMaster_rowWrite (r := Reg.MN_CCFG) (k := s.chip.selCounter m) (by decide) hopen (by decide) (by decide)
    rfl (Bool.and_false _) rfl (by simp only [Chip.fitWord, Reg.MN_CCFG]) (Chip.rowWrite_ccfg _ _ _)

theorem exec_ccmd {w : Word} (hopen : s.chip.opens m 0x20 = true) :
    s.runMaster m (fun c => c.regWrite m 0x20080 w) = .next { s with
      chip := (s.chip.fresh.onBit w 0 fun c' => c'.counterZero (s.chip.selCounter m)).onBit w 1 Chip.countersZero } :=
  State.runMaster_rowWrite (r := Reg.MN_CCMD) (by decide) hopen (by decide) (by decide) rfl (Bool.and_false _)
    (by simp only [Chip.rowIdx, Reg.MN_CCMD]) (by simp only [Chip.fitWord, Reg.MN_CCMD]) (Chip.rowWrite_ccmd _ w)

theorem exec_freeze (hopen : s.chip.opens m 0x20 = true) (w : Word) :
    exec (.freeze m w) s = .next { s with
      chip := s.chip.fresh.setRegOf m Reg.MN_FREEZE
        (Word.merge (s.chip.regOf m Reg.MN_FREEZE) w Reg.MN_FREEZE.take) } := by
  show s.runMaster m (fun c => c.regWrite m 0x20040 w) = _
  exact State.runMaster_rowWrite (r := Reg.MN_FREEZE) (by decide) hopen (by decide) (by decide) rfl (Bool.and_false _)
    (by simp only [Chip.rowIdx, Reg.MN_FREEZE]) (by simp only [Chip.fitWord, Reg.MN_FREEZE]) (Chip.rowWrite_freeze _ w)

theorem exec_snapctl {w : Word} (hopen : s.chip.opens m 0x20 = true) :
    s.runMaster m (fun c => c.regWrite m 0x20044 w) = .next { s with chip := s.chip.fresh.snapCtl w } :=
  State.runMaster_rowWrite (r := Reg.MN_SNAPCTL) (by decide) hopen (by decide) (by decide) rfl (Bool.and_false _)
    (by simp only [Chip.rowIdx, Reg.MN_SNAPCTL]) (by simp only [Chip.fitWord, Reg.MN_SNAPCTL]) (Chip.rowWrite_snapctl _ w)

theorem exec_pinBind (hopen : s.chip.opens m 0x20 = true) (w : Word) :
    exec (.pinBind m w) s = .next { s with
      chip := if pinCfgGood s.chip.id.hub w then
          (s.chip.fresh.setRegOf m Reg.MN_PCFG
            (Word.merge (s.chip.regOf m Reg.MN_PCFG (s.chip.selPin m)) w Reg.MN_PCFG.take)
            (s.chip.selPin m)).pinZero (s.chip.selPin m)
        else s.chip.fresh.report Event.MN_PCFG_BAD } := by
  show s.runMaster m (fun c => c.regWrite m 0x20088 w) = _
  exact State.runMaster_rowWrite (r := Reg.MN_PCFG) (k := s.chip.selPin m) (by decide) hopen (by decide) (by decide)
    rfl (Bool.and_false _) rfl (by simp only [Chip.fitWord, Reg.MN_PCFG]) (Chip.rowWrite_pcfg _ _ _)

theorem exec_pinClr (hopen : s.chip.opens m 0x20 = true) :
    exec (.pinClr m) s = .next { s with chip := s.chip.fresh.pinZero (s.chip.selPin m) } := by
  show s.runMaster m (fun c => c.regWrite m 0x2009C 1) = _
  exact State.runMaster_rowWrite (r := Reg.MN_PCMD) (by decide) hopen (by decide) (by decide) rfl (Bool.and_false _)
    (by simp only [Chip.rowIdx, Reg.MN_PCMD]) (by simp only [Chip.fitWord, Reg.MN_PCMD]) (Chip.rowWrite_pcmd _ 1)

/-- A write to a configuration register of the selected unit stores it and empties the unit. -/
theorem exec_hsConfig (hopen : s.chip.opens m 0x21 = true) (k : HsReg) (w : Word) :
    ∃ (r : RegRow) (v : Word), exec (.hsConfig m k w) s = .next { s with
      chip := (s.chip.fresh.setRegOf m r v (s.chip.chanOf m 0x21)).hsEmpty (s.chip.chanOf m 0x21) } := by
  have hrow : ∀ r ∈ [Reg.HS_UCFG, Reg.HS_UBASE, Reg.HS_UWIDTH], s.runMaster m (fun c => c.regWrite m r.addr w) =
      .next { s with
        chip := (s.chip.fresh.setRegOf m r (Word.merge (s.chip.regOf m r (s.chip.chanOf m 0x21)) w r.take)
          (s.chip.chanOf m 0x21)).hsEmpty (s.chip.chanOf m 0x21) } := by
    intro r hr
    have hprops : r.page = 0x21 ∧ r.acc = .rw ∧ r.sel = .chan ∧ r.rights = .all ∧ r.rwl = 0
        ∧ (∀ hub, pagePresent hub r.page = true → r.mapped hub = true) := by
      revert r
      decide
    obtain ⟨hpage, hacc, hsel, hrights, hrwl, hmapped⟩ := hprops
    have hwrite : ∀ (c : Chip) (j : Nat), c.rowWrite { m := m, row := r, i := 0, idx := j, w := w } =
        ((c.setRegOf m r (Word.merge (c.regOf m r j) w r.take) j).hsEmpty j).done := by
      intro c j
      rw [← Chip.store_rw c (x := { m := m, row := r, i := 0, idx := j, w := w }) (.inl hacc)]
      simp only [List.mem_cons, List.not_mem_nil, or_false] at hr
      rcases hr with rfl | rfl | rfl <;> rfl
    have hfit : s.chip.fitWord r (s.chip.chanOf m 0x21) w = w := by
      simp only [List.mem_cons, List.not_mem_nil, or_false] at hr
      rcases hr with rfl | rfl | rfl <;> rfl
    exact State.runMaster_rowWrite (r := r) rfl (by rw [hpage]; exact hopen) hmapped (by simp [hacc])
      (by simp [Chip.mayWrite, hrights]) (by simp [hrwl]) (by simp [Chip.rowIdx, hsel, hpage]) hfit (hwrite _ _)
  cases k with
  | ucfg => exact ⟨_, _, hrow Reg.HS_UCFG (by decide)⟩
  | ubase => exact ⟨_, _, hrow Reg.HS_UBASE (by decide)⟩
  | uwidth => exact ⟨_, _, hrow Reg.HS_UWIDTH (by decide)⟩

theorem exec_ucmd {w : Word} (hopen : s.chip.opens m 0x21 = true) :
    s.runMaster m (fun c => c.regWrite m 0x21410 w) = .next { s with
      chip := (s.chip.fresh.onBit w 0 fun c => c.hsEmpty (s.chip.chanOf m 0x21)).onBit w 1 fun c =>
        c.hsRestart (s.chip.chanOf m 0x21) } :=
  State.runMaster_rowWrite (r := Reg.HS_UCMD) (k := s.chip.chanOf m 0x21) (by decide) hopen (by decide) (by decide) rfl
    (Bool.and_false _) rfl (by simp only [Chip.fitWord, Reg.HS_UCMD]) (Chip.rowWrite_ucmd _ _ w)

/-! ### Histogram units -/

theorem Chip.hsUnit_modHs (c : Chip) (u : Nat) (f : HsUnit → HsUnit) : (c.modHs u f).hsUnit u = f (c.hsUnit u) := by
  simp [Chip.modHs, Chip.hsUnit]

theorem Chip.hsUnit_modHs_ne (c : Chip) {u j : Nat} (h : j ≠ u) (f : HsUnit → HsUnit) :
    (c.modHs u f).hsUnit j = c.hsUnit j :=
  SMap.find_put_ne h _ _ _

/-- In a new cycle a unit has taken no sample yet, and is else as it was. -/
theorem Chip.hsUnit_fresh (c : Chip) (u : Nat) : c.fresh.hsUnit u = { c.hsUnit u with cyc := 0 } := by
  unfold Chip.hsUnit
  show SMap.find (c.hs.map fun e => (e.1, { e.2 with cyc := 0 })) u .reset = _
  induction c.hs with
  | nil => rfl
  | cons e r ih =>
    obtain ⟨j, x⟩ := e
    simp only [List.map_cons, SMap.find]
    split
    · rfl
    · exact ih

/-! ### Snapshots -/

/-- What a snapshot keeps: every count at the present time, under the next number. -/
theorem Chip.snapTake_mn (c : Chip) :
    c.snapTake.mn.still = { c.mn.still with
      snap := c.mn.counts, psnap := c.mn.pins, snapSeq := (c.mn.snapSeq + 1) % 2 ^ 32, snapAt := c.cycleTime } := by
  have hstops : ∀ l : List Nat,
      (l.foldl (fun (c : Chip) u => c.modHs u fun x => { x with stopped := true, queue := [] }) c).mn = c.mn
      ∧ (l.foldl (fun (c : Chip) u => c.modHs u fun x => { x with stopped := true, queue := [] }) c).tk = c.tk :=
    fun l => ⟨foldl_keeps Chip.mn _ _ _ fun _ _ => rfl, foldl_keeps Chip.tk _ _ _ fun _ _ => rfl⟩
  obtain ⟨hmn, htk⟩ := hstops ((List.range 16).filter fun u => Word.bit (c.reg Reg.HS_UCFG u) 29)
  unfold Chip.snapTake
  dsimp only
  rw [Chip.still_note]
  simp only [MnState.still, hmn, Chip.cycleTime, htk]

theorem Chip.snapNow_mn (c : Chip) :
    c.snapNow.mn.snap = c.mn.counts ∧ c.snapNow.mn.psnap = c.mn.pins
      ∧ c.snapNow.mn.snapSeq = (c.mn.snapSeq + 1) % 2 ^ 32 ∧ c.snapNow.mn.snapAt = c.cycleTime := by
  have htaken : ∀ d : Chip, d.snapTake.mn.snap = d.mn.counts ∧ d.snapTake.mn.psnap = d.mn.pins
      ∧ d.snapTake.mn.snapSeq = (d.mn.snapSeq + 1) % 2 ^ 32 ∧ d.snapTake.mn.snapAt = d.cycleTime := fun d =>
    ⟨(congrArg MnState.snap d.snapTake_mn :), (congrArg MnState.psnap d.snapTake_mn :),
      (congrArg MnState.snapSeq d.snapTake_mn :), (congrArg MnState.snapAt d.snapTake_mn :)⟩
  unfold Chip.snapNow
  split
  · split
    · exact htaken c.snapCancel
    · exact htaken c
  · exact htaken c

/-- What an armed snapshot does that is due. -/
theorem exec_snapshotDue {k : Nat} (hrst : s.chip.inReset = false) (harmed : s.chip.mn.armed = some k)
    (hdue : k ≤ s.chip.cycleTime) :
    exec .snapshotDue s = .next { s with
      chip := if s.chip.tk.valid then s.chip.fresh.snapCancel.snapTake
        else s.chip.fresh.snapCancel.report Event.MN_SNAP_INVALID } := by
  have harmed' : s.chip.newCycle.mn.armed = some k := harmed
  have hdue' : k ≤ s.chip.newCycle.cycleTime := hdue
  show execSnapshotDue s = _
  rw [execSnapshotDue, State.run_eq hrst]
  simp only [Chip.snapDue, harmed', hdue', if_true]
  rfl

theorem exec_snapshotDue_early {k : Nat} (hrst : s.chip.inReset = false) (harmed : s.chip.mn.armed = some k)
    (hearly : s.chip.cycleTime < k) : exec .snapshotDue s = .next { s with chip := s.chip.fresh } := by
  have harmed' : s.chip.newCycle.mn.armed = some k := harmed
  have hearly' : ¬ k ≤ s.chip.newCycle.cycleTime := Nat.not_le.2 hearly
  show execSnapshotDue s = _
  rw [execSnapshotDue, State.run_eq hrst]
  simp only [Chip.snapDue, harmed', hearly', if_false]

/-- Settles O21: the counters, the snapshot, the pin counters and the units, each by its own commands. -/
theorem countersAndHistograms : Obligations.CountersAndHistograms := by
  unfold Obligations.CountersAndHistograms
  refine ⟨fun s m w hopen => ?bind, fun s m hopen => ?clr, fun s m hopen => ?clrall, fun s m w hopen => ?freeze,
    fun s m hopen => ?now, fun s m hopen => ?arm, fun s m hopen => ?cancel, fun s k hrst harmed hdue hvalid => ?due,
    fun s k hrst harmed hdue hvalid => ?withheld, fun s k hrst harmed hearly => ?early, fun s m w hopen hgood => ?pin,
    fun s m w hopen hbad => ?badPin, fun s m hopen => ?pinClr, fun s m k w hopen => ?config,
    fun s m hopen => ?clear, fun s m hopen => ?restart⟩
  case bind =>
    refine State.answers (exec_counterBind hopen w) fun d hd => ?_
    have hcfg : d.ccfg (s.chip.selCounter m) =
        Word.merge (s.chip.regOf m Reg.MN_CCFG (s.chip.selCounter m)) w Reg.MN_CCFG.take := by
      rw [hd]
      exact Chip.regOf_setRegOf s.chip.fresh m Reg.MN_CCFG _ (s.chip.selCounter m) 0
    have hcounts : d.mn.counts = SMap.erase s.chip.mn.counts (s.chip.selCounter m) := by rw [hd]; rfl
    refine ⟨?_, ?_, ?_, ?_, fun j hj => ?_⟩
    · rw [← Chip.selCounter, hcfg, Word.field_merge (by decide)]
    · rw [← Chip.selCounter, hcfg, Word.field_merge (by decide)]
    · rw [← Chip.selCounter, hcfg, Word.bit_merge]
      rfl
    · rw [hcounts]
      exact SMap.find_erase_self _ _ _
    · rw [hcounts]
      exact SMap.find_erase_ne hj _
  case clr =>
    have hexec : exec (.clr m) s = .next { s with chip := s.chip.fresh.counterZero (s.chip.selCounter m) } := by
      show s.runMaster m (fun c => c.regWrite m 0x20080 1) = _
      exact exec_ccmd hopen
    refine State.answers hexec fun d hd => ?_
    subst hd
    exact ⟨SMap.find_erase_self _ _ _, fun j hj => SMap.find_erase_ne hj _, rfl, rfl⟩
  case clrall =>
    have hexec : exec (.clrall m) s = .next { s with chip := s.chip.fresh.countersZero } := by
      show s.runMaster m (fun c => c.regWrite m 0x20080 2) = _
      exact exec_ccmd hopen
    refine State.answers hexec fun d hd => ?_
    subst hd
    exact ⟨rfl, rfl⟩
  case freeze =>
    refine State.answers (exec_freeze hopen w) fun d hd => ?_
    subst hd
    refine ⟨?_, rfl⟩
    rw [Chip.frozen]
    refine (congrArg (fun x => Word.bit x 0) (Chip.regOf_setRegOf s.chip.fresh m Reg.MN_FREEZE _ 0 0)).trans ?_
    exact Word.bit_merge _ w Reg.MN_FREEZE.take 0
  case now =>
    have hexec : exec (.snapNow m) s = .next { s with chip := s.chip.fresh.snapNow } := by
      show s.runMaster m (fun c => c.regWrite m 0x20044 1) = _
      exact exec_snapctl hopen
    refine State.answers hexec fun d hd => ?_
    subst hd
    exact s.chip.fresh.snapNow_mn
  case arm =>
    have hexec : exec (.snapArm m) s = .next { s with
        chip := s.chip.fresh.snapArm (timeOf (s.chip.reg Reg.MN_SNAPT_FRAC) (s.chip.reg Reg.MN_SNAPT_NSLO)
          (s.chip.reg Reg.MN_SNAPT_NSHI)) } := by
      show s.runMaster m (fun c => c.regWrite m 0x20044 2) = _
      exact exec_snapctl hopen
    refine State.answers hexec fun d hd => ?_
    subst hd
    unfold Chip.snapArm
    dsimp only
    split
    · have hstill := s.chip.fresh.still_report Event.MN_SNAP_REPL {}
      exact ⟨rfl, (congrArg MnState.snap hstill :), (congrArg MnState.snapSeq hstill :)⟩
    · exact ⟨rfl, rfl, rfl⟩
  case cancel =>
    have hexec : exec (.snapCancel m) s = .next { s with chip := s.chip.fresh.snapCancel } := by
      show s.runMaster m (fun c => c.regWrite m 0x20044 4) = _
      exact exec_snapctl hopen
    refine State.answers hexec fun d hd => ?_
    subst hd
    exact ⟨rfl, rfl⟩
  case due =>
    refine State.answers (exec_snapshotDue hrst harmed hdue) fun d hd => ?_
    rw [if_pos hvalid] at hd
    subst hd
    have hmn := s.chip.fresh.snapCancel.snapTake_mn
    exact ⟨(congrArg MnState.snap hmn :), (congrArg MnState.snapAt hmn :), (congrArg MnState.snapSeq hmn :),
      (congrArg MnState.armed hmn :)⟩
  case withheld =>
    refine State.answers (exec_snapshotDue hrst harmed hdue) fun d hd => ?_
    rw [hvalid] at hd
    subst hd
    have hstill := s.chip.fresh.snapCancel.still_report Event.MN_SNAP_INVALID {}
    exact ⟨(congrArg MnState.snap hstill :), (congrArg MnState.snapSeq hstill :), (congrArg MnState.armed hstill :)⟩
  case early =>
    refine State.answers (exec_snapshotDue_early hrst harmed hearly) fun d hd => ?_
    subst hd
    exact ⟨rfl, rfl⟩
  case pin =>
    refine State.answers (exec_pinBind hopen w) fun d hd => ?_
    rw [if_pos hgood] at hd
    have hcfg : d.reg Reg.MN_PCFG (s.chip.selPin m) =
        Word.merge (s.chip.regOf m Reg.MN_PCFG (s.chip.selPin m)) w Reg.MN_PCFG.take := by
      rw [hd]
      exact Chip.regOf_setRegOf s.chip.fresh m Reg.MN_PCFG _ (s.chip.selPin m) 0
    refine ⟨?_, ?_, ?_, ?_⟩
    · rw [← Chip.selPin, hcfg, Word.field_merge (by decide)]
    · rw [← Chip.selPin, hcfg, Word.field_merge (by decide)]
    · rw [hd]
      exact SMap.find_erase_self _ _ _
    · rw [hd]
      rfl
  case badPin =>
    refine State.answers (exec_pinBind hopen w) fun d hd => ?_
    rw [if_neg (by rw [hbad]; decide)] at hd
    rw [hd]
    exact Chip.report_reg _ (e := Event.MN_PCFG_BAD) (q := Reg.MN_PCFG) (i := 0) (by decide) _ _ _
  case pinClr =>
    refine State.answers (exec_pinClr hopen) fun d hd => ?_
    subst hd
    exact ⟨SMap.find_erase_self _ _ _, fun j hj => SMap.find_erase_ne hj _, rfl⟩
  case config =>
    obtain ⟨r, v, hexec⟩ := exec_hsConfig hopen k w
    refine State.answers hexec fun d hd => ?_
    subst hd
    have hunit : ∀ j, (s.chip.fresh.setRegOf m r v (s.chip.chanOf m 0x21)).hsUnit j = { s.chip.hsUnit j with cyc := 0 } :=
      fun j => s.chip.hsUnit_fresh j
    refine ⟨?_, ?_, ?_, fun j hj => ?_⟩
    · rw [Chip.hsEmpty, Chip.hsUnit_modHs]
      rfl
    · rw [Chip.hsEmpty, Chip.hsUnit_modHs]
      rfl
    · rw [Chip.hsEmpty, Chip.hsUnit_modHs, hunit]
    · rw [Chip.hsEmpty, Chip.hsUnit_modHs_ne _ hj, hunit]
  case clear =>
    have hexec : exec (.hsClear m) s = .next { s with chip := s.chip.fresh.hsEmpty (s.chip.chanOf m 0x21) } := by
      show s.runMaster m (fun c => c.regWrite m 0x21410 1) = _
      exact exec_ucmd hopen
    refine State.answers hexec fun d hd => ?_
    subst hd
    rw [Chip.hsEmpty, Chip.hsUnit_modHs, Chip.hsUnit_fresh]
    exact ⟨rfl, rfl, rfl, rfl⟩
  case restart =>
    have hexec : exec (.hsRestart m) s = .next { s with chip := s.chip.fresh.hsRestart (s.chip.chanOf m 0x21) } := by
      show s.runMaster m (fun c => c.regWrite m 0x21410 2) = _
      exact exec_ucmd hopen
    refine State.answers hexec fun d hd => ?_
    subst hd
    rw [Chip.hsRestart, Chip.hsUnit_modHs, Chip.hsUnit_fresh]
    exact ⟨rfl, rfl, rfl, rfl⟩

end Sys2Proof.Machine
end

section
/-!
O14: the controller's watchdog, its expiries and its resets (R312, R315, R364).
-/

namespace Sys2Proof.Machine

variable {s : State} {m : Master}

/-! ### A write without rights -/

/-- A master's write of a register on which it has no write rights is refused. -/
theorem State.runMaster_noRights {r : RegRow} {addr : Nat} {w : Word} (haddr : addr = r.addr)
    (hopen : s.chip.opens m r.page = true) (hmapped : ∀ hub, pagePresent hub r.page = true → r.mapped hub = true)
    (hacc : r.acc ∉ [.ro, .rc, .rs]) (hright : s.chip.mayWrite m r = false) :
    s.runMaster m (fun c => c.regWrite m addr w) = .next { s with chip := s.chip.fresh.accRights m r.addr w } := by
  subst haddr
  have hm : r.mapped s.chip.fresh.id.hub = true := hmapped _ (opens_present hopen)
  rw [State.runMaster_regWrite hopen (RegRow.mapped_page hm), Chip.masterWrite_addr (c := s.chip.fresh) hopen hm,
    Chip.mappedWrite_noRights s.chip.fresh hacc hright]

/-! ### Kicks -/

theorem exec_watchdogKick (hopen : s.chip.opens .firmware 0x1C = true) :
    exec (.watchdogKick .firmware) s = .next { s with chip := s.chip.fresh.wdKick } := by
  have hwrite : s.chip.fresh.rowWrite { m := .firmware, row := Reg.GD_WDKICK, i := 0, idx := 0, w := 1 } =
      s.chip.fresh.wdKick.done := by
    simp only [Chip.rowWrite, Chip.writeGd, Reg.GD_WDKICK]
    rfl
  show s.runMaster .firmware (fun c => c.regWrite .firmware 0x1C058 1) = _
  exact State.runMaster_rowWrite (r := Reg.GD_WDKICK) (by decide) hopen (by decide) (by decide) rfl (Bool.and_false _)
    (by simp only [Chip.rowIdx, Reg.GD_WDKICK]) (by simp only [Chip.fitWord, Reg.GD_WDKICK]) hwrite

theorem exec_watchdogKick_other (hopen : s.chip.opens m 0x1C = true) (hother : m ≠ .firmware) :
    exec (.watchdogKick m) s = .next { s with chip := s.chip.fresh.accRights m Reg.GD_WDKICK.addr 1 } := by
  show s.runMaster m (fun c => c.regWrite m 0x1C058 1) = _
  exact State.runMaster_noRights (r := Reg.GD_WDKICK) (by decide) hopen (by decide) (by decide)
    (by cases m <;> first | rfl | exact absurd rfl hother)

/-! ### The controller in reset -/

/-- The controller's state after a reset that lets the Guard boot the active bank. -/
theorem Chip.boot_ctlReset (c : Chip) :
    c.ctlReset.boot.fw.running = false ∧ c.ctlReset.boot.fw.sram = []
      ∧ c.ctlReset.boot.fw.phase = (if c.fw.held || c.fw.hostHeld then .off else .want)
      ∧ c.ctlReset.boot.fw.held = c.fw.held ∧ c.ctlReset.boot.fw.nor = c.fw.nor
      ∧ c.ctlReset.boot.gd = { c.gd with wdRun := false } :=
  ⟨rfl, rfl, rfl, rfl, rfl, rfl⟩

theorem Chip.boot_ctlReset_reg (c : Chip) (r : RegRow) : c.ctlReset.boot.reg r = c.reg r := rfl

/-- A trial that reverts leaves the controller's reset as any other restart does. -/
theorem Chip.ctlRestart_leaves (c : Chip) :
    c.ctlRestart.fw.running = false ∧ c.ctlRestart.fw.sram = []
      ∧ c.ctlRestart.fw.phase = (if c.fw.held || c.fw.hostHeld then .off else .want)
      ∧ c.ctlRestart.fw.held = c.fw.held ∧ c.ctlRestart.fw.nor = c.fw.nor
      ∧ c.ctlRestart.gd = { c.gd with wdRun := false } := by
  unfold Chip.ctlRestart
  split
  · simp only [Chip.revert, Chip.boot, Chip.report_fw, Chip.report_gd]
    exact ⟨rfl, rfl, rfl, rfl, rfl, rfl⟩
  · exact c.boot_ctlReset

/-! ### The expiry -/

/-- The expiry counted (R312). -/
def Chip.expired (c : Chip) : Chip :=
  { c.report Event.GD_WDOG with
    gd := { (c.report Event.GD_WDOG).gd with expiries := satNat 8 ((c.report Event.GD_WDOG).gd.expiries + 1) } }

theorem Chip.expired_leaves (c : Chip) :
    c.expired.fw = c.fw ∧ c.expired.gd = { c.gd with expiries := satNat 8 (c.gd.expiries + 1) }
      ∧ c.expired.reg Reg.GD_WDCFG = c.reg Reg.GD_WDCFG := by
  refine ⟨(Chip.report_fw _ _ _).trans rfl, ?_, ?_⟩
  · rw [Chip.expired, Chip.report_gd]
  · exact Chip.report_reg c (e := Event.GD_WDOG) (q := Reg.GD_WDCFG) (i := 0) (by decide) {} 0 0

/-- What an expiry outside a trial does. -/
theorem exec_watchdogExpiry (hrst : s.chip.inReset = false) (hrun : s.chip.gd.wdRun = true) (htrial : s.chip.fw.trial = false) :
    exec .watchdogExpiry s = .next { s with
      chip := if Word.field (s.chip.reg Reg.GD_WDCFG) 16 4 ≤ satNat 8 (s.chip.gd.expiries + 1) then
          { s.chip.fresh.expired.ctlReset.boot.ctlReset with
            fw := { s.chip.fresh.expired.ctlReset.boot.ctlReset.fw with held := true } }
        else s.chip.fresh.expired.ctlReset.boot } := by
  obtain ⟨hfw, hgd, hreg⟩ := s.chip.fresh.expired_leaves
  have hrun' : s.chip.newCycle.gd.wdRun = true := hrun
  have hnoTrial : s.chip.fresh.expired.fw.trial = false := by rw [hfw]; exact htrial
  have hrestart : s.chip.fresh.expired.ctlRestart = s.chip.fresh.expired.ctlReset.boot := by
    rw [Chip.ctlRestart, hnoTrial, if_neg Bool.false_ne_true]
  have hcount : s.chip.fresh.expired.ctlReset.boot.gd.expiries = satNat 8 (s.chip.gd.expiries + 1) :=
    congrArg GdState.expiries hgd
  have hlimit : s.chip.fresh.expired.ctlReset.boot.reg Reg.GD_WDCFG = s.chip.reg Reg.GD_WDCFG :=
    (Chip.boot_ctlReset_reg _ _).trans (hreg.trans (Chip.newCycle_reg _ _ _ _ _))
  have hbody : exec .watchdogExpiry s = .next { s with
      chip := if Word.field (s.chip.fresh.expired.ctlRestart.reg Reg.GD_WDCFG) 16 4 ≤ s.chip.fresh.expired.ctlRestart.gd.expiries then
          { s.chip.fresh.expired.ctlRestart.ctlReset with
            fw := { s.chip.fresh.expired.ctlRestart.ctlReset.fw with held := true } }
        else s.chip.fresh.expired.ctlRestart } := by
    show execWatchdogExpiry s = _
    rw [execWatchdogExpiry, State.run_eq hrst]
    simp only [hrun', Bool.not_true, Bool.false_eq_true, if_false]
    rfl
  rw [hbody, hrestart, hcount, hlimit]

theorem exec_debugReset (hrst : s.chip.inReset = false) :
    exec .debugReset s = .next { s with
      chip := if s.chip.fw.held || s.chip.fw.hostHeld || s.chip.fw.noImage then s.chip.fresh.ctlReset
        else s.chip.fresh.ctlReset.boot } := by
  show execDebugReset s = _
  rw [execDebugReset, State.run_eq hrst]
  rfl

/-- Settles O14: a kick, an expiry and each reset change the controller and the Guard's watchdog alone. -/
theorem controllerWatchdog : Obligations.ControllerWatchdog := by
  unfold Obligations.ControllerWatchdog
  refine ⟨fun s m hopen hm => ?kick, fun s m hopen hother => ?refused, fun s hrst hrun htrial hbelow => ?again,
    fun s hrst hrun htrial hlimit => ?held, fun s hrst hoff => ?off, fun s hrst => ?clear, fun s hrst hrunning => ?parity,
    fun s hrst hheld hhost himage => ?debug, fun s hrst hstays => ?stays⟩
  case kick =>
    subst hm
    refine State.answers (exec_watchdogKick hopen) fun d hd => ?_
    subst hd
    exact ⟨rfl, rfl⟩
  case refused =>
    refine State.answers (exec_watchdogKick_other hopen hother) fun d hd => ?_
    subst hd
    exact (congrArg Chip.gd (Chip.accRefuse_calm s.chip.fresh _ _ _ _ _) :)
  case again =>
    obtain ⟨hfw, hgd, -⟩ := s.chip.fresh.expired_leaves
    obtain ⟨hrunning, hsram, hphase, hheld, -, hgd'⟩ := s.chip.fresh.expired.boot_ctlReset
    refine State.answers (exec_watchdogExpiry hrst hrun htrial) fun d hd => ?_
    rw [if_neg (Nat.not_le.2 hbelow)] at hd
    subst hd
    rw [hfw] at hphase hheld
    rw [hgd] at hgd'
    exact ⟨hgd', hrunning, hphase, hheld, hsram⟩
  case held =>
    obtain ⟨-, hgd, -⟩ := s.chip.fresh.expired_leaves
    refine State.answers (exec_watchdogExpiry hrst hrun htrial) fun d hd => ?_
    rw [if_pos hlimit] at hd
    subst hd
    exact ⟨rfl, rfl, rfl, congrArg GdState.expiries hgd⟩
  case off =>
    have hoff' : s.chip.newCycle.gd.wdRun = false := hoff
    have hexec : exec .watchdogExpiry s = .next { s with chip := s.chip.fresh } := by
      show execWatchdogExpiry s = _
      rw [execWatchdogExpiry, State.run_eq hrst]
      simp only [hoff', Bool.not_false, if_true]
    refine State.answers hexec fun d hd => ?_
    subst hd
    exact ⟨rfl, rfl⟩
  case clear =>
    have hexec : exec .expiryClear s = .next { s with
        chip := { s.chip.fresh with gd := { s.chip.gd with expiries := 0 } } } := rfl
    refine State.answers hexec fun d hd => ?_
    subst hd
    exact ⟨rfl, rfl⟩
  case parity =>
    have hrunning' : s.chip.newCycle.fw.running = true := hrunning
    have hexec : exec .sramPar s = .next { s with chip := (s.chip.fresh.report Event.FW_SRAM_PAR).ctlRestart } := by
      show execSramPar s = _
      rw [execSramPar, State.run_eq hrst, hrunning', if_pos rfl]
    obtain ⟨hstop, hsram, hphase, -, hnor, hgd⟩ := (s.chip.fresh.report Event.FW_SRAM_PAR).ctlRestart_leaves
    rw [Chip.report_fw] at hphase hnor
    refine State.answers hexec fun d hd => ?_
    subst hd
    exact ⟨hstop, hsram, hphase, congrArg GdState.wdRun hgd, hnor⟩
  case debug =>
    obtain ⟨hstop, hsram, hphase, -, -, -⟩ := s.chip.fresh.boot_ctlReset
    refine State.answers (exec_debugReset hrst) fun d hd => ?_
    rw [hheld, hhost, himage] at hd
    subst hd
    have hheld' : s.chip.fresh.fw.held = false := hheld
    have hhost' : s.chip.fresh.fw.hostHeld = false := hhost
    rw [hheld', hhost'] at hphase
    exact ⟨hstop, hsram, hphase, rfl, rfl⟩
  case stays =>
    have hany : (s.chip.fw.held || s.chip.fw.hostHeld || s.chip.fw.noImage) = true := by
      rcases hstays with h | h | h <;> simp [h]
    refine State.answers (exec_debugReset hrst) fun d hd => ?_
    rw [if_pos hany] at hd
    subst hd
    exact ⟨rfl, rfl, rfl⟩

end Sys2Proof.Machine
end

section
/-!
What the group commands, the census and the releases leave of an entry, for any part of it that they do not write
(R225, R226, R273 to R284).
-/

namespace Sys2Proof.Machine

/-! ### Views of an entry -/

section Views

variable {γ : Type}

/-- A part of an entry, read in the part. -/
def Chip.view (c : Chip) (v : GrEntry → γ) (g : Nat) : γ := v (c.ent g)

/-- A part of an entry that says nothing of what messages and threads write as they pass. -/
structure GrEntry.Blind (v : GrEntry → γ) : Prop where
  dl : ∀ (e : GrEntry) x, v { e with dl := x } = v e
  detLost : ∀ (e : GrEntry) x, v { e with detLost := x } = v e
  spread : ∀ (e : GrEntry) x, v { e with spread := x } = v e
  owed : ∀ (e : GrEntry) x, v { e with owed := x } = v e
  holds : ∀ (e : GrEntry) x, v { e with holds := x } = v e
  censusOk : ∀ (e : GrEntry) x, v { e with censusOk := x } = v e
  downSent : ∀ (e : GrEntry) x, v { e with downSent := x } = v e
  upSent : ∀ (e : GrEntry) x, v { e with upSent := x } = v e
  combined : ∀ (e : GrEntry) x, v { e with combined := x } = v e
  shortOpen : ∀ (e : GrEntry) x, v { e with shortOpen := x } = v e
  dropped : ∀ (e : GrEntry) x y, v { e with sentTo := x, dropped := y } = v e
  clean : ∀ (e : GrEntry) x, v { e with clean := x } = v e

/-- It says nothing either of what the apex finds in a census. -/
structure GrEntry.Unjudged (v : GrEntry → γ) : Prop extends GrEntry.Blind v where
  found : ∀ (e : GrEntry) a b d f x, v { e with short := a, overDecl := b, featShort := d, fen := f, fenFixed := x } = v e
  sealed : ∀ (e : GrEntry) x, e.state.isSealed = true → x.isSealed = true → v { e with state := x } = v e

/-- Nor of what a release changes beside the barrier. -/
structure GrEntry.Unreleased (v : GrEntry → γ) : Prop extends GrEntry.Unjudged v where
  admDue : ∀ (e : GrEntry) x, v { e with admDue := x } = v e
  expDue : ∀ (e : GrEntry) x, v { e with expDue := x } = v e

variable {v : GrEntry → γ} (c : Chip) (k : Nat)

theorem Chip.view_of_gr {a b : Chip} (h : a.gr = b.gr) (v : GrEntry → γ) (k : Nat) : a.view v k = b.view v k := by
  simp only [Chip.view, Chip.ent, h]

theorem Chip.ent_modEnt_ne (c : Chip) {g k : Nat} (h : k ≠ g) (f : GrEntry → GrEntry) : (c.modEnt g f).ent k = c.ent k :=
  SMap.find_put_ne h _ _ _

theorem Chip.ent_of_gr {a b : Chip} (h : a.gr = b.gr) (g : Nat) : a.ent g = b.ent g := by simp only [Chip.ent, h]

theorem Chip.view_modEnt (g : Nat) {f : GrEntry → GrEntry} (h : v (f (c.ent g)) = v (c.ent g)) :
    (c.modEnt g f).view v k = c.view v k := by
  by_cases hk : k = g
  · subst hk
    simp only [Chip.view, Chip.ent_modEnt, h]
  · simp only [Chip.view, c.ent_modEnt_ne hk]

theorem view_foldl {β : Type} {k : Nat} (f : Chip → β → Chip) (l : List β) (c : Chip)
    (h : ∀ x b, (f x b).view v k = x.view v k) : (l.foldl f c).view v k = c.view v k :=
  foldl_keeps (fun x => x.view v k) f l c h

theorem view_ite {p : Prop} [Decidable p] {x y : Chip} {k : Nat} {w : γ} (hx : x.view v k = w) (hy : y.view v k = w) :
    (if p then x else y).view v k = w := by
  split
  · exact hx
  · exact hy

@[simp] theorem Chip.view_report (e : Ev) (r : Rep) : (c.report e r).view v k = c.view v k := Chip.view_of_gr (c.report_gr e r) v k

@[simp] theorem Chip.view_count (n : Nat) (i : Option Nat) (j : Nat) : (c.count n i j).view v k = c.view v k :=
  Chip.view_of_gr (c.count_gr n i j) v k

@[simp] theorem Chip.view_bump (r : RegRow) (n i j : Nat) : (c.bump r n i j).view v k = c.view v k := rfl

@[simp] theorem Chip.view_setReg (r : RegRow) (w : Word) (i j b : Nat) : (c.setReg r w i j b).view v k = c.view v k := rfl

@[simp] theorem Chip.view_sample (a i : Nat) (n : Int) : (c.sample a i n).view v k = c.view v k :=
  Chip.view_of_gr (c.sample_gr a i n) v k

@[simp] theorem Chip.view_sendCells (p cls : Nat) (l : List Cell) : (c.sendCells p cls l).view v k = c.view v k :=
  Chip.view_of_gr (c.sendCells_gr p cls l) v k

@[simp] theorem Chip.view_modTh (t : Nat) (f : ThreadState → ThreadState) : (c.modTh t f).view v k = c.view v k := rfl

@[simp] theorem Chip.view_thFault (t : Nat) (e : Ev) (n : Nat) : (c.thFault t e n).view v k = c.view v k := by
  simp [Chip.thFault, Chip.thStop]

@[simp] theorem Chip.view_takeFree : c.takeFree.2.view v k = c.view v k := rfl

@[simp] theorem Chip.view_hold (g : Nat) (m : HeldMsg) : (c.hold g m).view v k = c.view v k := rfl

@[simp] theorem Chip.view_unhold (g : Nat) (f : HeldMsg → Bool) : (c.unhold g f).view v k = c.view v k := rfl

@[simp] theorem Chip.view_qoccDrop (n : Nat) : (c.qoccDrop n).view v k = c.view v k := rfl

@[simp] theorem Chip.view_holdRelease (g n : Nat) (tried ports : List Nat) (cells : List Cell) :
    (c.holdRelease g n tried ports cells).view v k = c.view v k := by
  unfold Chip.holdRelease
  extract_lets rest own
  exact view_ite rfl (view_ite rfl rfl)

@[simp] theorem Chip.view_rollTaps : c.rollTaps.view v k = c.view v k := by
  unfold Chip.rollTaps
  dsimp only
  split <;> rfl

@[simp] theorem Chip.view_reportBase (g base : Nat) : (c.reportBase g base).view v k = c.view v k := by
  unfold Chip.reportBase
  dsimp only
  split
  · exact c.view_rollTaps k
  · exact c.view_rollTaps k

@[simp] theorem Chip.view_outputLanes (g n : Nat) (vals : List LaneVal) : (c.outputLanes g n vals).1.view v k = c.view v k := by
  unfold Chip.outputLanes
  refine foldl_keeps (fun m : Chip × List LaneVal => m.1.view v k) _ _ (c, []) fun m p => ?_
  exact view_ite (Chip.view_report _ k _ _) rfl

@[simp] theorem Chip.view_combined (g n : Nat) : (c.combined g n).view v k = c.view v k := by
  simp [Chip.combined]

/-! ### Messages and threads -/

section Blind

variable (hv : GrEntry.Blind v)
include hv

theorem Chip.view_toRun (t : Nat) : (c.toRun t).view v k = c.view v k :=
  (Chip.view_modEnt _ k _ (hv.dl _ _)).trans (c.view_modTh k t _)

theorem Chip.view_detClear (g n : Nat) : (c.detClear g n).view v k = c.view v k := by
  refine c.view_modEnt k g ?_
  split
  · rfl
  · exact hv.detLost _ _

theorem Chip.view_spreadSample (g n : Nat) : (c.spreadSample g n).view v k = c.view v k :=
  (Chip.view_sample _ k _ _ _).trans (c.view_modEnt k g (hv.spread _ _))

/-- A step of a release on its way down sends its cells on one port, or keeps them for it. -/
theorem Chip.view_sendDown (g n : Nat) (ports : List Nat) (cells : List Cell) :
    (c.sendDown g n ports cells).view v k = c.view v k := by
  unfold Chip.sendDown
  dsimp only
  rw [Chip.view_holdRelease]
  refine foldl_keeps (fun m : Chip × List Nat => m.1.view v k) _ ports (c, []) fun m p => ?_
  split
  · exact (Chip.view_modEnt _ k g (hv.owed _ _)).trans (Chip.view_sendCells _ k _ _ _)
  · rfl
  · split
    · exact Chip.view_modEnt _ k g (hv.owed _ _)
    · rfl

theorem Chip.view_cwaitExit (g : Nat) : (c.cwaitExit g).view v k = c.view v k := by
  unfold Chip.cwaitExit
  split
  · exact view_foldl _ _ _ fun x e => x.view_toRun k hv e.1
  · rfl

theorem Chip.view_censusDone (g : Nat) : (c.censusDone g).view v k = c.view v k := by
  unfold Chip.censusDone
  dsimp only
  split
  · rfl
  · rw [Chip.view_cwaitExit _ _ hv, Chip.view_report]
    exact c.view_modEnt k g (hv.censusOk _ _)

theorem Chip.view_censusDown (g : Nat) (sig : Bool × Bool × Bool) : (c.censusDown g sig).view v k = c.view v k := by
  unfold Chip.censusDown
  dsimp only
  rw [view_foldl _ _ _ fun x p => x.view_sendCells k p _ _]
  exact (Chip.view_modEnt _ k g (hv.downSent _ _)).trans rfl

theorem Chip.view_censusSend (g : Nat) : (c.censusSend g).view v k = c.view v k := by
  unfold Chip.censusSend
  dsimp only
  split
  · rfl
  · rw [Chip.view_sendCells]
    exact c.view_modEnt k g (hv.upSent _ _)

theorem Chip.view_dieCensus : c.dieCensus.view v k = c.view v k := by
  unfold Chip.dieCensus
  split
  · rfl
  · refine view_foldl _ _ _ fun x g => ?_
    dsimp only
    split
    · exact x.view_censusSend k hv g
    · rfl

theorem Chip.view_takeRelease (t : Nat) (r : Release) : (c.takeRelease t r).view v k = c.view v k := by
  unfold Chip.takeRelease
  extract_lets x d missed valid taken ran
  have hran : ran.view v k = c.view v k := taken.view_toRun k hv t
  exact view_ite hran ((Chip.view_detClear _ k hv _ _).trans ((Chip.view_report _ k _ _).trans hran))

theorem Chip.view_releaseThreads (g : Nat) (r : Release) : (c.releaseThreads g r).view v k = c.view v k :=
  view_foldl _ _ _ fun x t => x.view_takeRelease k hv t r

theorem Chip.view_markShort (g : Nat) : (c.markShort g).view v k = c.view v k := by
  unfold Chip.markShort
  dsimp only
  split
  · exact view_ite (c.view_modEnt k g (hv.shortOpen _ _)) rfl
  · rfl

theorem Chip.view_sendUp (g n : Nat) (cells : List Cell) : (c.sendUp g n cells).view v k = c.view v k := by
  unfold Chip.sendUp
  exact view_ite ((Chip.view_spreadSample _ k hv g n).trans (c.view_sendCells k _ _ _)) rfl

theorem Chip.view_combineUp (g n : Nat) : (c.combineUp g n).view v k = c.view v k := by
  unfold Chip.combineUp
  dsimp only
  rw [Chip.view_sendUp _ _ hv]
  refine (Chip.view_modEnt _ k g (hv.combined _ _)).trans ?_
  rw [Chip.view_combined, Chip.view_outputLanes]

theorem Chip.view_sendGcmd (g : Nat) (m : Gcmd) (p : Nat) : (c.sendGcmd g m p).view v k = c.view v k := by
  unfold Chip.sendGcmd
  dsimp only
  refine view_ite (view_ite ?_ (c.view_sendCells k _ _ _)) (c.view_report k _ _)
  exact (Chip.view_modEnt _ k g (hv.holds _ _)).trans (c.view_sendCells k _ _ _)

theorem Chip.view_fanGcmd (g : Nat) (m : Gcmd) : (c.fanGcmd g m).view v k = c.view v k :=
  view_foldl _ _ _ fun x p => x.view_sendGcmd k hv g m p

theorem Chip.view_dropArrival (g : Nat) (r : Release) : (c.dropArrival g r).view v k = c.view v k := by
  unfold Chip.dropArrival
  dsimp only
  split
  · rfl
  · rw [Chip.view_report]
    refine (Chip.view_modEnt _ k g ?_).trans (view_ite (c.view_unhold k g _) rfl)
    exact (apply_ite v _ _ _).trans ((congrArg (ite _ · _) (hv.dropped _ _ _)).trans (ite_self _))

theorem Chip.view_finish (g n : Nat) (lanes : List LaneVal) : (c.finish g n lanes).1.view v k = c.view v k := by
  unfold Chip.finish
  extract_lets cfg f counted sats scaled
  have hsats : sats.view v k = c.view v k := by
    refine (view_foldl _ _ counted ?_).trans (c.view_count k _ _ _)
    exact fun x _ => x.view_report k _ _
  have hscaled : scaled.view v k = c.view v k := (sats.view_setReg k _ _ _ _ _).trans hsats
  exact (scaled.view_modEnt k g (hv.clean _ _)).trans hscaled

end Blind

/-! ### The census judged -/

theorem Chip.view_judgeCensus (hv : GrEntry.Unjudged v) (g old : Nat) : (c.judgeCensus g old).view v k = c.view v k := by
  unfold Chip.judgeCensus
  extract_lets e dcl short many fs ok base rep judged flagged feat moved done sig
  by_cases hin : (!e.apex || !e.state.isSealed) = true
  · rw [if_pos hin]
  · have hsealed : e.state.isSealed = true := by
      rw [Bool.or_eq_true, not_or] at hin
      simpa using hin.2
    have hjudged : judged.view v k = c.view v k := c.view_modEnt k g (hv.found _ _ _ _ _ _)
    have hflagged : flagged.view v k = c.view v k := (view_ite (Chip.view_report _ k _ _) rfl).trans hjudged
    have hfeat : feat.view v k = c.view v k := (view_ite (Chip.view_report _ k _ _) rfl).trans hflagged
    have hstate : (feat.ent g).state.isSealed = true := by
      have hfgr : feat.gr = judged.gr := by
        have hgr : ∀ (p : Prop) [Decidable p] (d : Chip) (e : Ev) (r : Rep), (if p then d.report e r else d).gr = d.gr := by
          intro p _ d e r
          split
          · exact Chip.report_gr _ _ _
          · rfl
        exact (hgr _ _ _ _).trans (hgr _ _ _ _)
      rw [Chip.ent_of_gr hfgr, Chip.ent_modEnt]
      exact hsealed
    have hmoved : moved.view v k = c.view v k := by
      refine Eq.trans (view_ite ?_ (view_ite (Chip.view_modEnt _ k g (hv.sealed _ _ hstate rfl)) rfl)) hfeat
      refine (Chip.view_report _ k _ _).trans (Chip.view_modEnt _ k g (hv.sealed _ _ hstate ?_))
      split <;> rfl
    have hdone : done.view v k = c.view v k :=
      (view_ite (Chip.view_censusDone _ k hv.toBlind g) (Chip.view_modEnt _ k g (hv.censusOk _ _))).trans hmoved
    rw [if_neg hin]
    exact view_ite hdone ((Chip.view_censusDown _ k hv.toBlind g sig).trans hdone)

theorem Chip.view_afterClose (hv : GrEntry.Unjudged v) (hcount : ∀ (e : GrEntry) x y, v { e with gcount := x, fsup := y } = v e)
    (g : Nat) : (c.afterClose g).view v k = c.view v k := by
  unfold Chip.afterClose
  dsimp only
  rw [Chip.view_judgeCensus _ _ hv]
  exact c.view_modEnt k g (hcount _ _ _)

/-! ### A release at a die -/

section Unreleased

variable (hv : GrEntry.Unreleased v)
include hv

theorem Chip.view_memberRelease (g : Nat) (r : Release) : (c.memberRelease g r).view v k = c.view v k := by
  unfold Chip.memberRelease
  extract_lets e due admitted expelled
  have hdue : due.view v k = c.view v k := by
    refine (Chip.view_censusDone _ k hv.toBlind g).trans (c.view_modEnt k g ?_)
    refine Eq.trans ?_ (hv.admDue _ false)
    split
    · rename_i hstate
      have hsealed : (c.ent g).state.isSealed = true := by
        rw [beq_iff_eq.1 hstate]
        rfl
      exact hv.sealed { c.ent g with admDue := false } .active hsealed rfl
    · rfl
  have hadmitted : admitted.view v k = c.view v k := by
    refine view_ite ((view_foldl _ _ due ?_).trans hdue) rfl
    exact fun x t => x.view_modTh k t.1 _
  have hexpelled : expelled.view v k = c.view v k := (Chip.view_modEnt _ k g (hv.expDue _ _)).trans hadmitted
  refine view_ite ((view_foldl _ _ expelled ?_).trans hexpelled) hadmitted
  exact fun x t => x.view_thFault k t.1 _ _

end Unreleased

/-- The entry once it knows a release delivered at the die (R225). -/
def Chip.releaseKept (c : Chip) (g : Nat) (r : Release) : Chip :=
  ((c.dropArrival g r).reportBase g r.trel).modEnt g fun e =>
    { e with
      latest := some r
      expected := some (r.course + 1)
      barrier := if (e.barrier.getD 0) ≤ r.course then none else e.barrier
      arrivals := [] }

/-- The books of a release delivered at the die, which came with some slack. -/
def Chip.releaseBooked (c : Chip) (g : Nat) (r : Release) (slack : Int) : Chip :=
  let c := (c.count 0x432 (some (c.gidOf g))).sample 0x0E (c.gidOf g) (slack / 2 ^ 32)
  if slack < 0 then c.report Event.MT_LATE_REL (c.mtRep g 0 r.course (((-slack) / 2 ^ 32).toNat)) else c

theorem Chip.deliver_eq (g : Nat) (r : Release) : ∃ slack, c.deliver g r =
    ((((c.releaseKept g r).releaseBooked g r slack).releaseThreads g r).memberRelease g r).dieCensus :=
  ⟨_, rfl⟩

theorem Chip.releaseBooked_leaves (g : Nat) (r : Release) (slack : Int) :
    (c.releaseBooked g r slack).sq = c.sq ∧ (c.releaseBooked g r slack).gr = c.gr := by
  unfold Chip.releaseBooked
  generalize slack / 2 ^ 32 = v
  dsimp only
  split <;> simp

theorem Chip.view_deliver (hv : GrEntry.Unreleased v) (g : Nat) (r : Release) :
    (c.deliver g r).view v k = (c.releaseKept g r).view v k := by
  obtain ⟨slack, hdeliver⟩ := c.deliver_eq g r
  rw [hdeliver, Chip.view_dieCensus _ _ hv.toBlind, Chip.view_memberRelease _ _ hv, Chip.view_releaseThreads _ _ hv.toBlind]
  exact Chip.view_of_gr (Chip.releaseBooked_leaves _ g r slack).2 v k

end Views

end Sys2Proof.Machine
end

section
/-!
O13: the limits of the Guard and the host's barrier override (R299 to R303, R306).
-/

namespace Sys2Proof.Machine

/-! ### The barrier of an entry -/

/-- What says which barrier of an entry comes next: its latest release, the expected and the open barrier, and whether
that one is closing. -/
def GrEntry.turn (e : GrEntry) : Option Release × Option Nat × Option Nat × Bool :=
  (e.latest, e.expected, e.barrier, e.closing)

theorem GrEntry.turn_unreleased : GrEntry.Unreleased GrEntry.turn where
  dl _ _ := rfl
  detLost _ _ := rfl
  spread _ _ := rfl
  owed _ _ := rfl
  holds _ _ := rfl
  censusOk _ _ := rfl
  downSent _ _ := rfl
  upSent _ _ := rfl
  combined _ _ := rfl
  shortOpen _ _ := rfl
  found _ _ _ _ _ _ := rfl
  sealed _ _ _ _ := rfl
  admDue _ _ := rfl
  expDue _ _ := rfl
  dropped _ _ _ := rfl
  clean _ _ := rfl

section Turn

variable (c : Chip)

theorem Chip.turn_afterClose (g : Nat) : (c.afterClose g).view GrEntry.turn g = c.view GrEntry.turn g :=
  c.view_afterClose g GrEntry.turn_unreleased.toUnjudged (fun _ _ _ => rfl) g

theorem Chip.deliver_turn (g : Nat) (r : Release) :
    (c.deliver g r).view GrEntry.turn g =
      (some r, some (r.course + 1), if (c.view GrEntry.turn g).2.2.1.getD 0 ≤ r.course then none else (c.view GrEntry.turn g).2.2.1,
        (c.view GrEntry.turn g).2.2.2) := by
  have hbefore : ((c.dropArrival g r).reportBase g r.trel).view GrEntry.turn g = c.view GrEntry.turn g := by
    rw [Chip.view_reportBase, Chip.view_dropArrival _ _ GrEntry.turn_unreleased.toBlind]
  rw [Chip.view_deliver _ _ GrEntry.turn_unreleased, ← hbefore]
  unfold Chip.releaseKept
  rw [Chip.view, Chip.ent_modEnt]
  rfl

/-! ### A barrier closes at its apex -/

theorem GrEntry.released_turn (e : GrEntry) (r : Release) : (e.released r).turn = (some r, some (r.course + 1), none, false) := rfl

theorem GrEntry.foldPend_turn (e : GrEntry) (n : Nat) : (e.foldPend n).turn = e.turn := by
  unfold GrEntry.foldPend
  split
  · split <;> rfl
  · rfl

/-- Once its release has left on every port a closing barrier is closed. -/
theorem Chip.closeDone_turn {r : Release} {g : Nat} {x : Option Nat} {b : Option Nat}
    (h : c.view GrEntry.turn g = (some r, x, b, true)) : (c.closeDone g).view GrEntry.turn g = (some r, some (r.course + 1), none, false) := by
  obtain ⟨hlatest, -, -, hclosing⟩ : (c.ent g).latest = some r ∧ (c.ent g).expected = x ∧ (c.ent g).barrier = b ∧
      (c.ent g).closing = true := by simpa [Chip.view, GrEntry.turn] using h
  unfold Chip.closeDone
  simp only [hclosing, hlatest, Chip.turn_afterClose]
  simp only [Chip.view, Chip.ent_modEnt, GrEntry.released_turn]

/-- The latest release is that of a barrier, without determinism, the next one is expected, and the barrier is closed or
is closing (R303). -/
def GrEntry.overridden (e : GrEntry) (n : Nat) : Prop :=
  e.latest.map (fun r => (r.course, r.det)) = some (n, false) ∧ (e.closing = true ∨ e.barrier = none)
    ∧ e.expected = some (n + 1)

theorem Chip.overridden_of_turn {r : Release} {g : Nat} {b : Option Nat} {closing : Bool} (hdet : r.det = false)
    (hturn : c.view GrEntry.turn g = (some r, some (r.course + 1), b, closing)) (hshut : closing = true ∨ b = none) :
    (c.ent g).overridden r.course := by
  obtain ⟨hlatest, hexpected, hbarrier, hclosing⟩ : (c.ent g).latest = some r ∧ (c.ent g).expected = some (r.course + 1) ∧
      (c.ent g).barrier = b ∧ (c.ent g).closing = closing := by simpa [Chip.view, GrEntry.turn] using hturn
  rw [← hclosing, ← hbarrier] at hshut
  exact ⟨by rw [hlatest, Option.map_some, hdet], hshut, hexpected⟩

/-- The apex's close of its open barrier under an override. -/
theorem Chip.close_overridden {g n : Nat} (hopen : (c.ent g).barrier = some n) :
    ((c.close g n true).ent g).overridden n := by
  unfold Chip.close
  extract_lets e all out det combined fin r ports down counted
  have hdet : r.det = false := by simp [r, Chip.buildRelease, det]
  have hcourse : r.course = n := rfl
  have hcombined : combined.view GrEntry.turn g = c.view GrEntry.turn g := by
    have hout : out.1.view GrEntry.turn g = c.view GrEntry.turn g := c.view_outputLanes g g n all.1
    refine view_ite ?_ hout
    exact (Chip.view_spreadSample _ g GrEntry.turn_unreleased.toBlind g n).trans ((Chip.view_modEnt _ g g rfl).trans ((Chip.view_combined _ g g _).trans hout))
  have hfin : fin.1.view GrEntry.turn g = c.view GrEntry.turn g := (combined.view_finish g GrEntry.turn_unreleased.toBlind g n out.2).trans hcombined
  have hfold : ∀ x : Chip, (x.modEnt g fun x => x.foldPend n).view GrEntry.turn g = x.view GrEntry.turn g :=
    fun x => x.view_modEnt g g (GrEntry.foldPend_turn _ n)
  rw [← hcourse]
  split
  · have hbegin : ((counted.modEnt g fun x => x.foldPend n).closeBegin g r).view GrEntry.turn g =
        (some r, some (r.course + 1), (c.ent g).barrier, true) := by
      have hcounted : (counted.modEnt g fun x => x.foldPend n).view GrEntry.turn g = c.view GrEntry.turn g :=
        (hfold _).trans ((Chip.view_count _ g _ _ _).trans ((Chip.view_sendDown _ g GrEntry.turn_unreleased.toBlind g n _ _).trans hfin))
      have hbarrier : ((counted.modEnt g fun x => x.foldPend n).ent g).barrier = (c.ent g).barrier :=
        congrArg (fun x => x.2.2.1) hcounted
      rw [← hbarrier]
      simp only [Chip.closeBegin, Chip.view, Chip.ent_modEnt]
      rfl
    unfold Chip.closeIfSent
    split
    · exact Chip.overridden_of_turn _ hdet hbegin (Or.inl rfl)
    · exact Chip.overridden_of_turn _ hdet (Chip.closeDone_turn _ hbegin) (Or.inr rfl)
  · have hbarrier : ((fin.1.modEnt g fun x => x.foldPend n).view GrEntry.turn g).2.2.1 = some n := by
      rw [hfold, hfin]
      exact hopen
    have hturn := (fin.1.modEnt g fun x => x.foldPend n).deliver_turn g r
    rw [hbarrier, hcourse, if_pos (show (some n).getD 0 ≤ n from Nat.le_refl n)] at hturn
    exact Chip.overridden_of_turn _ hdet ((Chip.turn_afterClose _ g).trans hturn) (Or.inr rfl)

end Turn

/-! ### The limit registers -/

variable {s : State} {m : Master} {w : Word}

theorem Chip.poAllEdges_keeps (c before : Chip) :
    ((c.poAllEdges before).id, (c.poAllEdges before).regs, (c.poAllEdges before).tk) = (c.id, c.regs, c.tk) :=
  foldl_keeps (fun x : Chip => (x.id, x.regs, x.tk)) _ _ c fun x o => by rw [Chip.poEdges_eq]

/-- A write of a limit register is judged by the Guard, which leaves the registers and the time as it says. -/
theorem exec_gdLimitWrite (k : GuardLimit) (w : Word) (hopen : s.chip.opens m 0x1C = true) :
    ∃ d, exec (.gdLimitWrite m k w) s = .next { s with chip := d } ∧ d.tk = (s.chip.fresh.limitWrite k m w).1.tk
      ∧ ∀ r, d.reg r = (s.chip.fresh.limitWrite k m w).1.reg r := by
  have hpage : ∀ hub, pagePresent hub (limitRow k).page = true → (limitRow k).mapped hub = true := by
    cases k <;> decide
  have hidx : s.chip.rowIdx m (limitRow k) = 0 := by cases k <;> rfl
  have hfit : s.chip.fitWord (limitRow k) 0 w = w := by cases k <;> rfl
  have hexec : exec (.gdLimitWrite m k w) s =
      .next { s with chip := (s.chip.fresh.rowWrite { m := m, row := limitRow k, i := 0, idx := 0, w := w }).1 } := by
    show s.runMaster m (fun c => c.regWrite m (limitRow k).addr w) = _
    exact State.runMaster_rowWrite (r := limitRow k) rfl (by cases k <;> exact hopen) hpage (by cases k <;> decide)
      (by cases k <;> rfl) (by cases k <;> exact Bool.and_false _) hidx hfit rfl
  have hwritten : ((s.chip.fresh.rowWrite { m := m, row := limitRow k, i := 0, idx := 0, w := w }).1.id,
      (s.chip.fresh.rowWrite { m := m, row := limitRow k, i := 0, idx := 0, w := w }).1.regs,
      (s.chip.fresh.rowWrite { m := m, row := limitRow k, i := 0, idx := 0, w := w }).1.tk) =
      ((s.chip.fresh.limitWrite k m w).1.id, (s.chip.fresh.limitWrite k m w).1.regs, (s.chip.fresh.limitWrite k m w).1.tk) := by
    cases k
    case poLim => exact Chip.poAllEdges_keeps _ _
    all_goals rfl
  obtain ⟨hid, hregs, htk⟩ : _ ∧ _ ∧ _ := by simpa only [Prod.mk.injEq] using hwritten
  exact ⟨_, hexec, htk, fun r => Chip.reg_eq_of_regs hid hregs r 0 0 0⟩

/-- A refusal of the Guard leaves the limits as they are. -/
theorem Chip.guardRefuse_limit (c : Chip) (k : GuardLimit) (e : Ev) (he : e.page = 0x1C) (addr : Nat) (value bound : Word) :
    (c.guardRefuse e m addr value bound).reg (limitRow k) = c.reg (limitRow k) := by
  have hreport : ∀ p, (c.report e p).reg (limitRow k) = c.reg (limitRow k) := fun p =>
    c.report_reg (e := e) (q := limitRow k) (i := 0) (by rw [he]; cases k <;> decide) p 0 0
  unfold Chip.guardRefuse
  dsimp only
  rw [Chip.reg_setReg_addr _ (by cases k <;> decide), Chip.reg_setReg_addr _ (by cases k <;> decide), hreport]

theorem Chip.accLocked_limit (c : Chip) (k : GuardLimit) (addr : Nat) :
    (c.accLocked m addr w).reg (limitRow k) = c.reg (limitRow k) := by
  unfold Chip.accLocked Chip.accRefuse
  dsimp only
  rw [Chip.report_reg _ (e := Event.GLB_ACC_LOCKED) (q := limitRow k) (i := 0) (by cases k <;> decide),
    Chip.reg_setReg_addr _ (by cases k <;> decide)]

/-- A limit that is not loosened, or that the host loosens on an open page within the extremes, is taken (R299, R300). -/
theorem Chip.limitWrite_taken (c : Chip) {k : GuardLimit}
    (hmay : limitLoosens k (c.reg (limitRow k)) (w &&& (limitRow k).take) = false
      ∨ (m = .host ∧ c.locked 0x1C = false ∧ limitBeyond k (w &&& (limitRow k).take) = false))
    (hwindow : c.winTooTight k (w &&& (limitRow k).take) = false) :
    c.limitWrite k m w = (c.setReg (limitRow k) (w &&& (limitRow k).take), none) := by
  unfold Chip.limitWrite
  rcases hmay with htight | ⟨rfl, hfree, hwithin⟩
  · simp [htight, hwindow]
  · simp [hfree, hwithin, hwindow]

theorem Chip.limitWrite_other (c : Chip) {k : GuardLimit}
    (hloose : limitLoosens k (c.reg (limitRow k)) (w &&& (limitRow k).take) = true) (hother : m ≠ .host) :
    c.limitWrite k m w =
      (c.guardRefuse Event.GD_LOOSEN m (limitRow k).addr w (c.reg (limitRow k)), some 7) := by
  simp [Chip.limitWrite, hloose, hother]

theorem Chip.limitWrite_kept (c : Chip) {k : GuardLimit}
    (hloose : limitLoosens k (c.reg (limitRow k)) (w &&& (limitRow k).take) = true)
    (hbad : c.locked 0x1C = true ∨ limitBeyond k (w &&& (limitRow k).take) = true) :
    (c.limitWrite k .host w).1.reg (limitRow k) = c.reg (limitRow k) := by
  unfold Chip.limitWrite
  by_cases hlocked : c.locked 0x1C = true
  · simpa [hloose, hlocked] using c.accLocked_limit k (limitRow k).addr
  · have hbeyond := hbad.resolve_left hlocked
    simpa [hloose, hlocked, hbeyond] using c.guardRefuse_limit k Event.GD_LOOSEN rfl _ _ _

/-! ### The override -/

theorem exec_barrierOverride (hopen : s.chip.opens .host 0x1C = true) :
    exec (.barrierOverride .host w) s = .next { s with chip := s.chip.fresh.override .host w } := by
  show s.runMaster .host (fun c => c.regWrite .host 0x1C074 w) = _
  exact State.runMaster_rowWrite (r := Reg.GD_OVR) (d := (s.chip.fresh.override .host w).done) (by decide) hopen (by decide)
    (by decide) rfl (Bool.and_false _) rfl rfl rfl

theorem exec_barrierOverride_other (hopen : s.chip.opens m 0x1C = true) (hother : m ≠ .host) :
    exec (.barrierOverride m w) s = .next { s with chip := s.chip.fresh.accRights m Reg.GD_OVR.addr w } := by
  show s.runMaster m (fun c => c.regWrite m 0x1C074 w) = _
  exact State.runMaster_noRights (r := Reg.GD_OVR) (by decide) hopen (by decide) (by decide) (by
    cases m
    case host => exact absurd rfl hother
    all_goals rfl)

theorem Chip.override_good (c : Chip) {n : Nat} (hgood : c.ovrGood w = true)
    (hopen : (c.ent (Word.field (c.reg Reg.GD_OVRSEL) 0 12)).barrier = some n) :
    ((c.override m w).ent (Word.field (c.reg Reg.GD_OVRSEL) 0 12)).overridden n := by
  have hent : ∀ (r : Rep) (g : Nat), (((c.bump Reg.GD_OVRCNT 1).report Event.GD_OVERRIDE r).ent g) = c.ent g := fun r g => by
    simp only [Chip.ent, Chip.report_gr, Chip.bump_gr]
  unfold Chip.override
  dsimp only
  rw [if_pos hgood, Chip.overrideClose, hent, hopen]
  exact Chip.close_overridden _ ((congrArg GrEntry.barrier (hent _ _)).trans hopen)

/-- Settles O13: the Guard takes a limit that is not loosened, or that the host loosens on an open page within the extremes;
the host's override closes a barrier without determinism; firmware's NOR command in the Guard's ranges is refused. -/
theorem guardLimitsAndOverride : Obligations.GuardLimitsAndOverride := by
  unfold Obligations.GuardLimitsAndOverride
  have hreg : ∀ (s : State) (r : RegRow), s.chip.fresh.reg r = s.chip.reg r := fun s r => s.chip.newCycle_reg r 0 0 0
  have hset : ∀ (c : Chip) (k : GuardLimit) (w : Word), (c.setReg (limitRow k) w).reg (limitRow k) = w := fun c k w =>
    Chip.reg_setReg ..
  have hlast : ∀ (k : GuardLimit), Reg.GD_LASTVAL.addr % 2 ^ 18 ≠ (limitRow k).addr % 2 ^ 18 := fun k => by cases k <;> decide
  refine ⟨fun s m k w hopen htight hwindow => ?tighten, fun s m k w hopen hloose hother => ?refused,
    fun s m k w hopen hloose hm hfree hwithin hwindow => ?loosen, fun s m k w hopen hloose hm hbad => ?kept,
    fun s m w n hopen hm hgood hbarrier => ?good, fun s m w hopen hbad => ?bad,
    fun s a hrst hrunning hnor hguard => ?nor, fun s a hrst hguard => ?unguarded⟩
  case tighten =>
    obtain ⟨d, hexec, htk, hd⟩ := exec_gdLimitWrite k w hopen
    refine State.answers hexec fun x hx => ?_
    subst hx
    rw [Chip.limitWrite_taken s.chip.fresh (Or.inl htight) hwindow] at htk hd
    refine ⟨(hd _).trans (hset _ k _), htk, (hd _).trans ?_⟩
    rw [Chip.reg_setReg_addr _ (hlast k), hreg]
  case refused =>
    obtain ⟨d, hexec, htk, hd⟩ := exec_gdLimitWrite k w hopen
    refine State.answers hexec fun x hx => ?_
    subst hx
    rw [Chip.limitWrite_other s.chip.fresh hloose hother] at hd
    refine ⟨(hd _).trans ((Chip.guardRefuse_limit _ k _ rfl _ _ _).trans (hreg s _)), (hd _).trans ?_⟩
    exact Chip.guardRefuse_lastval ..
  case loosen =>
    obtain ⟨d, hexec, htk, hd⟩ := exec_gdLimitWrite k w hopen
    refine State.answers hexec fun x hx => ?_
    subst hx
    rw [Chip.limitWrite_taken s.chip.fresh (Or.inr ⟨hm, hfree, hwithin⟩) hwindow] at hd
    exact (hd _).trans (hset _ k _)
  case kept =>
    subst hm
    obtain ⟨d, hexec, htk, hd⟩ := exec_gdLimitWrite k w hopen
    refine State.answers hexec fun x hx => ?_
    subst hx
    exact (hd _).trans ((Chip.limitWrite_kept s.chip.fresh hloose hbad).trans (hreg s _))
  case good =>
    subst hm
    refine State.answers (exec_barrierOverride hopen) fun d hd => ?_
    subst hd
    exact s.chip.fresh.override_good hgood hbarrier
  case bad =>
    by_cases hm : m = .host
    · subst hm
      have hbad' : s.chip.fresh.ovrGood w = false := hbad.resolve_left (· rfl)
      refine State.answers (exec_barrierOverride hopen) fun d hd => ?_
      subst hd
      rw [Chip.override, hbad', if_neg Bool.false_ne_true]
      have hcalm := Chip.guardRefuse_calm s.chip.fresh Event.GD_OVR_BAD .host Reg.GD_OVR.addr w (s.chip.fresh.reg Reg.GD_OVRSEL)
      exact ⟨(congrArg Chip.gr hcalm :), (congrArg Chip.sq hcalm :)⟩
    · refine State.answers (exec_barrierOverride_other hopen hm) fun d hd => ?_
      subst hd
      have hcalm := Chip.accRefuse_calm s.chip.fresh Event.GLB_ACC_RIGHTS 3 m Reg.GD_OVR.addr w
      exact ⟨(congrArg Chip.gr hcalm :), (congrArg Chip.sq hcalm :)⟩
  case nor =>
    have hexec : exec (.nvmProt a) s = .next { s with
        chip := s.chip.fresh.takeFree.2.takeFree.2.guardRefuse Event.GD_NVM_PROT .firmware
          (s.chip.fresh.takeFree.1.toNat % 2 ^ 18) (BitVec.ofNat 32 a.toNat) s.chip.fresh.takeFree.2.takeFree.1 } := by
      have hall : (s.chip.newCycle.fw.running && s.chip.newCycle.id.norPresent && guardOnly a.toNat) = true := by
        simp [hrunning, hnor, hguard]
      show execNvmProt a s = _
      rw [execNvmProt, State.run_eq hrst, hall, if_pos rfl]
    refine State.answers hexec fun d hd => ?_
    subst hd
    refine ⟨?_, Chip.guardRefuse_lastval ..⟩
    exact (congrArg Chip.fw (Chip.guardRefuse_calm ..) :).trans rfl
  case unguarded =>
    have hexec : exec (.nvmProt a) s = .next { s with chip := s.chip.fresh } := by
      show execNvmProt a s = _
      rw [execNvmProt, State.run_eq hrst, hguard, Bool.and_false, if_neg Bool.false_ne_true]
    refine State.answers hexec fun d hd => ?_
    subst hd
    exact ⟨rfl, rfl⟩

end Sys2Proof.Machine
end

section
/-!
O44: crossings: a strobe gets its boundary, a release keeps to it, and a tap's crossings are calibrated (R167 to R175).
-/

namespace Sys2Proof.Machine

variable {s : State} (c : Chip)

/-! ### What a crossing reads as -/

@[simp] theorem Chip.xc_modXc (n : Nat) (f : XcState → XcState) : (c.modXc n f).xc n = f (c.xc n) :=
  SMap.find_put_self ..

theorem Chip.xc_modXc_ne {n k : Nat} (h : k ≠ n) (f : XcState → XcState) : (c.modXc n f).xc k = c.xc k :=
  SMap.find_put_ne h _ _ _

@[simp] theorem Chip.modXc_tap (n t : Nat) (f : XcState → XcState) : (c.modXc n f).tap t = c.tap t := rfl
@[simp] theorem Chip.modTap_xc (t n : Nat) (f : TapState → TapState) : (c.modTap t f).xc n = c.xc n := rfl

theorem Chip.tap_modTap_ne {t u : Nat} (h : u ≠ t) (f : TapState → TapState) : (c.modTap t f).tap u = c.tap u :=
  SMap.find_put_ne h _ _ _

/-- A fold over crossings that leaves one thing of the part as it was at each step leaves it at the end. -/
theorem Chip.foldl_crossings {γ : Type} (v : Chip → γ) (f : Chip → Nat → Chip) (l : List Nat)
    (h : ∀ x b, v (f x b) = v x) : v (l.foldl f c) = v c := foldl_keeps v f l c h

/-! ### Local DET -/

/-- The part without its group entries. -/
def Chip.apartGroups (c : Chip) : Chip := { c with gr := .reset }

/-- Courses that lose their DET change group entries alone (R171, R218). -/
theorem Chip.detClearAll_apartGroups (take : Nat → Bool) : (c.detClearAll take).apartGroups = c.apartGroups := by
  refine foldl_keeps Chip.apartGroups _ _ c ?_
  intro x g
  refine foldl_keeps Chip.apartGroups _ _ x ?_
  exact fun y n => rfl

theorem Chip.detClearClass_rt (cls : Nat) : (c.detClearClass cls).rt = c.rt :=
  (congrArg Chip.rt (c.detClearAll_apartGroups fun g => (c.useMask g).testBit cls) :)

/-! ### A calibration command -/

@[simp] theorem Chip.xcMode_modXc (n k : Nat) (f : XcState → XcState) : (c.modXc n f).xcMode k = c.xcMode k := rfl
@[simp] theorem Chip.xcMode_modTap (t k : Nat) (f : TapState → TapState) : (c.modTap t f).xcMode k = c.xcMode k := rfl

theorem Chip.xcalStart_busy (n k : Nat) (h : (c.xc k).busy = true) : ((c.xcalStart n).xc k).busy = true := by
  unfold Chip.xcalStart
  by_cases hk : k = n
  · subst hk
    simp
  · simpa [c.xc_modXc_ne hk] using h

theorem Chip.xcalStart_uncal (n k : Nat) : ((c.xcalStart n).xc k).uncal = (c.xc k).uncal := by
  unfold Chip.xcalStart
  by_cases hk : k = n
  · subst hk
    simp
  · simp [c.xc_modXc_ne hk]

theorem Chip.xcalStart_tap (n t : Nat) :
    { (c.xcalStart n).tap t with xcal := true } = { c.tap t with xcal := true } := by
  unfold Chip.xcalStart
  by_cases ht : t = n / 4
  · subst ht
    simp
  · simp [Chip.tap_modTap_ne _ ht]

theorem Chip.xcalStart_xcal (n t : Nat) (h : (c.tap t).xcal = true) : ((c.xcalStart n).tap t).xcal = true := by
  unfold Chip.xcalStart
  by_cases ht : t = n / 4
  · subst ht
    simp
  · simpa [Chip.tap_modTap_ne _ ht] using h

/-- A fold that keeps a property keeps it to its end. -/
theorem Chip.foldl_holds {β : Type} (P : Chip → Prop) (f : Chip → β → Chip) (l : List β) {x : Chip}
    (h : ∀ y b, P y → P (f y b)) (hx : P x) : P (l.foldl f x) := by
  induction l generalizing x with
  | nil => exact hx
  | cons b r ih => exact ih (h x b hx)

/-- Of a fold over crossings, one that it takes has the property that its own step gives and every other step keeps. -/
theorem Chip.foldl_gives (P : Chip → Prop) (f : Chip → Nat → Chip) {l : List Nat} {n : Nat} (hn : n ∈ l) {x : Chip}
    (hgive : ∀ y, P (f y n)) (hkeep : ∀ y b, P y → P (f y b)) : P (l.foldl f x) := by
  induction l generalizing x with
  | nil => exact absurd hn (List.not_mem_nil)
  | cons b r ih =>
    rcases List.mem_cons.1 hn with rfl | hr
    · exact Chip.foldl_holds P f r hkeep (hgive x)
    · exact ih hr

@[simp] theorem Chip.newCycle_xcTouching (t : Nat) : c.newCycle.xcTouching t = c.xcTouching t := by
  unfold Chip.xcTouching
  generalize List.range 1024 = l
  rfl

/-- The crossings that a region's DET crossings want calibrated are started in turn (R168). -/
theorem Chip.xcalSeek_starts (t : Nat) : ∃ l : List Nat, c.xcalSeek t = l.foldl Chip.xcalStart c := ⟨_, rfl⟩

section Starts

variable (l : List Nat)

theorem Chip.xcalStarts_tap (t : Nat) :
    { (l.foldl Chip.xcalStart c).tap t with xcal := true } = { c.tap t with xcal := true } :=
  foldl_keeps (fun x : Chip => { x.tap t with xcal := true }) Chip.xcalStart l c fun y b => y.xcalStart_tap b t

theorem Chip.xcalStarts_uncal (n : Nat) : ((l.foldl Chip.xcalStart c).xc n).uncal = (c.xc n).uncal :=
  foldl_keeps (fun x : Chip => (x.xc n).uncal) Chip.xcalStart l c fun y b => y.xcalStart_uncal b n

theorem Chip.xcalStarts_xcal {t : Nat} (h : (c.tap t).xcal = true) : ((l.foldl Chip.xcalStart c).tap t).xcal = true :=
  Chip.foldl_holds (fun x => (x.tap t).xcal = true) _ _ (fun y b => y.xcalStart_xcal b t) h

theorem Chip.xcalStarts_lines : (l.foldl Chip.xcalStart c).rt.lines = c.rt.lines :=
  foldl_keeps (fun x : Chip => x.rt.lines) Chip.xcalStart l c fun _ _ => rfl

theorem Chip.xcalStarts_regs : (l.foldl Chip.xcalStart c).regs = c.regs :=
  foldl_keeps Chip.regs Chip.xcalStart l c fun _ _ => rfl

end Starts

/-- Crossings that no longer run as ASYNC for an OP_UNCAL restart (R174). -/
def Chip.calmed (c : Chip) (l : List Nat) : Chip := l.foldl (fun c n => c.modXc n fun y => { y with uncal := false }) c

theorem Chip.calmed_tap (l : List Nat) (t : Nat) : (c.calmed l).tap t = c.tap t :=
  foldl_keeps (fun x : Chip => x.tap t) _ l c fun _ _ => rfl

theorem Chip.calmed_mode (l : List Nat) (n : Nat) : (c.calmed l).xcMode n = c.xcMode n :=
  foldl_keeps (fun x : Chip => x.xcMode n) _ l c fun _ _ => rfl

theorem Chip.calmed_lines (l : List Nat) : (c.calmed l).rt.lines = c.rt.lines :=
  foldl_keeps (fun x : Chip => x.rt.lines) _ l c fun _ _ => rfl

theorem Chip.calmed_regs (l : List Nat) : (c.calmed l).regs = c.regs := foldl_keeps Chip.regs _ l c fun _ _ => rfl

theorem Chip.calmed_uncal {l : List Nat} {n : Nat} (hn : n ∈ l) : ((c.calmed l).xc n).uncal = false := by
  refine Chip.foldl_gives (fun x => (x.xc n).uncal = false) _ hn (fun y => by simp) fun y b h => ?_
  by_cases hb : n = b
  · subst hb
    simp
  · simpa [y.xc_modXc_ne hb] using h

/-- The crossings of a tap that are served. -/
def Chip.served (c : Chip) (t : Nat) : List Nat :=
  (List.range 4).filterMap fun j => if c.xcMode (4 * t + j) = 0 then none else some (4 * t + j)

theorem Chip.mem_served {t n : Nat} (hn : n / 4 = t) (h : c.xcMode n ≠ 0) : n ∈ c.served t := by
  simp only [Chip.served, List.mem_filterMap, List.mem_range]
  refine ⟨n % 4, Nat.mod_lt _ (by decide), ?_⟩
  have hsplit : 4 * t + n % 4 = n := by omega
  rw [hsplit, if_neg h]

/-- The steps of a calibration command (R168, R174). -/
theorem Chip.xcalWrite_eq (t : Nat) :
    c.xcalWrite t = (((c.calmed (c.xcTouching t)).served t).foldl Chip.xcalStart
      ((c.calmed (c.xcTouching t)).modTap t fun x => { x with xcal := true })).xcalSeek t := rfl

/-- A calibration command marks its tap, starts the tap's crossings that are served, and ends the ASYNC running of those that
touch it; lines and registers stay. -/
theorem Chip.xcalWrite_leaves (t : Nat) :
    (c.xcalWrite t).tap t = { c.tap t with xcal := true }
      ∧ (∀ l, c.xcTouching t = l → ∀ n ∈ l, ((c.xcalWrite t).xc n).uncal = false)
      ∧ (∀ n, n / 4 = t → c.xcMode n ≠ 0 → ((c.xcalWrite t).xc n).busy = true)
      ∧ (c.xcalWrite t).rt.lines = c.rt.lines ∧ (c.xcalWrite t).regs = c.regs := by
  rw [c.xcalWrite_eq]
  generalize htouching : c.xcTouching t = touching
  obtain ⟨l, hl⟩ := (((c.calmed touching).served t).foldl Chip.xcalStart
      ((c.calmed touching).modTap t fun x => { x with xcal := true })).xcalSeek_starts t
  rw [hl]
  refine ⟨?_, fun l' hl' n hn => ?_, fun n hn hserved => ?_, ?_, ?_⟩
  · have hxcal : ∀ x : TapState, x.xcal = true → { x with xcal := true } = x := fun x h => by rw [← h]
    have hmarked : (((c.calmed touching).modTap t fun x => { x with xcal := true }).tap t).xcal = true := by simp
    rw [← hxcal _ (Chip.xcalStarts_xcal _ l (Chip.xcalStarts_xcal _ _ hmarked)), Chip.xcalStarts_tap, Chip.xcalStarts_tap,
      tap_modTap, Chip.calmed_tap]
  · rw [Chip.xcalStarts_uncal, Chip.xcalStarts_uncal]
    subst hl'
    exact c.calmed_uncal hn
  · have hown : n ∈ (c.calmed touching).served t := Chip.mem_served _ hn (by rwa [Chip.calmed_mode])
    refine Chip.foldl_holds (fun x => (x.xc n).busy = true) _ _ (fun y b => y.xcalStart_busy b n) ?_
    exact Chip.foldl_gives (fun x => (x.xc n).busy = true) _ hown (fun y => by simp [Chip.xcalStart])
      fun y b => y.xcalStart_busy b n
  · rw [Chip.xcalStarts_lines, Chip.xcalStarts_lines]
    exact c.calmed_lines _
  · rw [Chip.xcalStarts_regs, Chip.xcalStarts_regs]
    exact c.calmed_regs _

theorem Chip.done_fst : c.done.1 = c := rfl

theorem Chip.rowWrite_tcmd (m : Master) (t : Nat) :
    c.rowWrite { m := m, row := Reg.RT_TCMD, i := 0, idx := t, w := 1 } = (c.xcalWrite t).done := by
  simp only [Chip.rowWrite, Chip.writeRt, Reg.RT_TCMD, Chip.onBit]
  rw [if_pos (by decide)]

theorem exec_xcal {m : Master} (hopen : s.chip.opens m 0x0C = true) :
    exec (.xcal m) s = .next { s with chip := s.chip.fresh.xcalWrite (s.chip.chanOf m 0x0C) } := by
  have hexec : s.runMaster m (fun c => c.regWrite m 0x0C40C 1) =
      .next { s with chip := (s.chip.fresh.xcalWrite (s.chip.chanOf m 0x0C)).done.1 } :=
    State.runMaster_rowWrite (r := Reg.RT_TCMD) (by decide) hopen (by decide) (by decide) (by cases m <;> rfl)
      (Bool.and_false _) rfl (by simp only [Chip.fitWord, Reg.RT_TCMD]) (Chip.rowWrite_tcmd _ m _)
  rw [Chip.done_fst] at hexec
  exact hexec

/-! ### The latency of a crossing -/

/-- The latency of a crossing that is served and was calibrated, at its tap's operating point. -/
def XcState.measured (x : XcState) (op lat : Nat) : SMap Nat :=
  if lat ≤ 15 then SMap.insert x.lpath op lat else SMap.erase x.lpath op

theorem Chip.report_xcMode {e : Ev} (he : e.page = 0x0C) (r : Rep) (n : Nat) : (c.report e r).xcMode n = c.xcMode n := by
  have haddr : ∀ i < 4, Reg.RT_XCFG.addr i % 2 ^ 18 ∉ histAddrs 0x0C := by decide
  exact congrArg (fun w => Word.field w 30 2)
    (c.report_reg (e := e) (q := Reg.RT_XCFG) (i := n % 4) (he ▸ haddr _ (Nat.mod_lt _ (by decide))) r (n / 4) 0)

@[simp] theorem Chip.report_xc (e : Ev) (r : Rep) (n : Nat) : (c.report e r).xc n = c.xc n := by
  simp only [Chip.xc, Chip.report_rt]

/-- A measured crossing keeps its latency; the other crossings, the modes and the taps stay. -/
theorem Chip.xcalOne_leaves {x : Nat} (lat : Nat) (hbusy : (c.xc x).busy = true) (hserved : c.xcMode x ≠ 0) :
    ((c.xcalOne x lat).xc x).lpath = (c.xc x).measured (c.tap (x / 4)).opsel lat
      ∧ (∀ n, n ≠ x → (c.xcalOne x lat).xc n = c.xc n) ∧ (c.xcalOne x lat).rt.taps = c.rt.taps
      ∧ ∀ n, (c.xcalOne x lat).xcMode n = c.xcMode n := by
  have hserved' : (c.xcMode x != 0) = true := by simpa using hserved
  have hcalibrated : (!((c.xc x).busy && c.xcMode x != 0)) = false := by rw [hbusy, hserved']; rfl
  unfold Chip.xcalOne
  simp only [hcalibrated, if_pos hbusy, Bool.false_eq_true, if_false]
  split
  · rename_i hlong
    refine ⟨?_, fun n hn => ?_, ?_, fun n => ?_⟩
    · simp [XcState.measured, Nat.not_le.2 hlong]
    · simp [Chip.xc_modXc_ne _ hn]
    · rw [Chip.report_rt]
      rfl
    · rw [Chip.report_xcMode _ rfl]
      rfl
  · rename_i hshort
    refine ⟨?_, fun n hn => ?_, rfl, fun n => rfl⟩
    · simp [XcState.measured, Nat.le_of_not_lt hshort]
    · simp [Chip.xc_modXc_ne _ hn]

/-- A crossing of a tap measured after others keeps what it had, and is measured at the tap's operating point. -/
theorem Chip.xcalOne_of_tap {d : Chip} {t j : Nat} (hj : j < 4) (lat : Nat)
    (htaps : d.rt.taps = c.rt.taps) (hmode : ∀ n, d.xcMode n = c.xcMode n) (hkept : d.xc (4 * t + j) = c.xc (4 * t + j))
    (hbusy : (c.xc (4 * t + j)).busy = true) (hserved : c.xcMode (4 * t + j) ≠ 0) :
    ((d.xcalOne (4 * t + j) lat).xc (4 * t + j)).lpath = (c.xc (4 * t + j)).measured (c.tap t).opsel lat
      ∧ (∀ n, n ≠ 4 * t + j → (d.xcalOne (4 * t + j) lat).xc n = d.xc n) ∧ (d.xcalOne (4 * t + j) lat).rt.taps = c.rt.taps
      ∧ ∀ n, (d.xcalOne (4 * t + j) lat).xcMode n = c.xcMode n := by
  obtain ⟨hlat, hother, htaps', hmode'⟩ := d.xcalOne_leaves (x := 4 * t + j) lat (hkept ▸ hbusy) (by rwa [hmode])
  have htap : d.tap ((4 * t + j) / 4) = c.tap t := by
    rw [show (4 * t + j) / 4 = t by omega, Chip.tap, htaps]
    rfl
  rw [hkept, htap] at hlat
  exact ⟨hlat, hother, htaps'.trans htaps, fun n => (hmode' n).trans (hmode n)⟩

/-- The four crossings of a tap are measured, each on its own. -/
theorem Chip.xcalFour_leaves {t : Nat} (a0 a1 a2 a3 : Nat) (hserved : ∀ j < 4, c.xcMode (4 * t + j) ≠ 0)
    (hbusy : ∀ j < 4, (c.xc (4 * t + j)).busy = true) {d : Chip}
    (hd : (((c.xcalOne (4 * t) a0).xcalOne (4 * t + 1) a1).xcalOne (4 * t + 2) a2).xcalOne (4 * t + 3) a3 = d) :
    d.rt.taps = c.rt.taps ∧ (d.xc (4 * t)).lpath = (c.xc (4 * t)).measured (c.tap t).opsel a0
      ∧ (d.xc (4 * t + 1)).lpath = (c.xc (4 * t + 1)).measured (c.tap t).opsel a1
      ∧ (d.xc (4 * t + 2)).lpath = (c.xc (4 * t + 2)).measured (c.tap t).opsel a2
      ∧ (d.xc (4 * t + 3)).lpath = (c.xc (4 * t + 3)).measured (c.tap t).opsel a3 := by
  obtain ⟨l0, k0, t0, m0⟩ := c.xcalOne_of_tap (d := c) (t := t) (j := 0) (by decide) a0 rfl (fun _ => rfl) rfl
    (hbusy 0 (by decide)) (hserved 0 (by decide))
  simp only [Nat.add_zero] at l0 k0 t0 m0
  generalize c.xcalOne (4 * t) a0 = c1 at hd l0 k0 t0 m0
  obtain ⟨l1, k1, t1, m1⟩ := c.xcalOne_of_tap (d := c1) (t := t) (j := 1) (by decide) a1 t0 m0 (k0 _ (by omega))
    (hbusy 1 (by decide)) (hserved 1 (by decide))
  generalize c1.xcalOne (4 * t + 1) a1 = c2 at hd l1 k1 t1 m1
  obtain ⟨l2, k2, t2, m2⟩ := c.xcalOne_of_tap (d := c2) (t := t) (j := 2) (by decide) a2 t1 m1
    (by rw [k1 _ (by omega), k0 _ (by omega)]) (hbusy 2 (by decide)) (hserved 2 (by decide))
  generalize c2.xcalOne (4 * t + 2) a2 = c3 at hd l2 k2 t2 m2
  obtain ⟨l3, k3, t3, m3⟩ := c.xcalOne_of_tap (d := c3) (t := t) (j := 3) (by decide) a3 t2 m2
    (by rw [k2 _ (by omega), k1 _ (by omega), k0 _ (by omega)]) (hbusy 3 (by decide)) (hserved 3 (by decide))
  subst hd
  refine ⟨t3, ?_, ?_, ?_, l3⟩
  · rw [k3 _ (by omega), k2 _ (by omega), k1 _ (by omega), l0]
  · rw [k3 _ (by omega), k2 _ (by omega), l1]
  · rw [k3 _ (by omega), l2]

/-! ### The statement -/

/-- The write that a strobe puts in flight on a crossing that is served: with a boundary in DET mode with a calibration. -/
def Chip.strobed (c : Chip) (x phase : Nat) : XcWrite :=
  { boundary := if c.xcMode x = 2 ∧ (c.xc x).busy = false then (c.xcCal x).map fun n =>
      (c.frc64 phase - (c.tap (c.xcSrc x)).acc + 63) / 64 + n + Word.field (c.reg Reg.RT_XALLOW (x / 4) (x % 4)) 0 8 else none
    slipped := false }

theorem exec_xcStrobe {x : Crossing} {phase : Fin 64} (hdie : s.chip.id.hub = false) (hrst : s.chip.inReset = false)
    (ht : x.val / 4 < s.chip.id.ntaps) (hmode : s.chip.xcMode x.val = 1 ∨ s.chip.xcMode x.val = 2) :
    exec (.xcStrobe x phase) s = .next { s with
      chip := s.chip.fresh.modXc x.val fun y => { y with writes := y.writes ++ [s.chip.fresh.strobed x.val phase.val] } } := by
  show execXcStrobe x phase s = _
  rw [execXcStrobe, State.runTap_eq hdie hrst ht]
  have hmode' : s.chip.newCycle.xcMode x.val = 1 ∨ s.chip.newCycle.xcMode x.val = 2 := hmode
  rcases hmode' with hasync | hdet
  · simp [hasync, Chip.strobed]
  · cases hbusy : (s.chip.newCycle.xc x.val).busy
    · cases hcal : s.chip.newCycle.xcCal x.val <;> simp [hdet, hbusy, hcal, Chip.strobed]
    · simp [hdet, hbusy, Chip.strobed]

theorem exec_xcRelease_early {x : Crossing} {phase : Fin 64} {again : Bool} {w : XcWrite} {r : List XcWrite} {n : Nat}
    (hdie : s.chip.id.hub = false) (hrst : s.chip.inReset = false) (ht : x.val / 4 < s.chip.id.ntaps)
    (hwrites : (s.chip.xc x.val).writes = w :: r) (hw : w.boundary = some n)
    (hearly : s.chip.frc64 phase.val - (s.chip.tap (x.val / 4)).acc < n * 64) :
    exec (.xcRelease x phase again) s = .next { s with chip := s.chip.fresh } := by
  have hwrites' : (s.chip.newCycle.xc x.val).writes = w :: r := hwrites
  have hearly' : s.chip.newCycle.frc64 phase.val - (s.chip.newCycle.tap (x.val / 4)).acc < n * 64 := hearly
  show execXcRelease x phase again s = _
  rw [execXcRelease, State.runTap_eq hdie hrst ht]
  simp only [hwrites', hw, if_pos hearly', ite_self]

/-- What a release presents: the write leaves, and a slip shows and counts. -/
def Chip.presented (c : Chip) (x : Nat) (slip : Bool) (r : List XcWrite) : Chip :=
  let done := c.modXc x fun y => { y with writes := r }
  let cls := Word.field (c.xcfg x) 16 4
  if slip then
    (((done.modXc x fun y => { y with slipped := true }).bump Reg.RT_XSLIP 1 (x / 4) (x % 4)).report Event.RT_CROSS_SLIP
      (rtRep (x / 4) (some x))).detClearClass cls
  else if c.xcFallback x then done.detClearClass cls else done

theorem exec_xcRelease_due {x : Crossing} {phase : Fin 64} {again : Bool} {w : XcWrite} {r : List XcWrite} {n : Nat}
    (hdie : s.chip.id.hub = false) (hrst : s.chip.inReset = false) (ht : x.val / 4 < s.chip.id.ntaps)
    (hmode : s.chip.xcMode x.val ≠ 0) (hrun : (s.chip.tap (x.val / 4)).stopped = false)
    (hsrc : (s.chip.tap (s.chip.xcSrc x.val)).stopped = false)
    (hwrites : (s.chip.xc x.val).writes = w :: r) (hw : w.boundary = some n)
    (hdue : n * 64 ≤ s.chip.frc64 phase.val - (s.chip.tap (x.val / 4)).acc) :
    exec (.xcRelease x phase again) s =
      .next { s with chip := s.chip.fresh.presented x.val (again || w.slipped) r } := by
  have hwrites' : (s.chip.newCycle.xc x.val).writes = w :: r := hwrites
  have hdue' : ¬ s.chip.newCycle.frc64 phase.val - (s.chip.newCycle.tap (x.val / 4)).acc < n * 64 := Nat.not_lt.2 hdue
  have hrun' : (s.chip.newCycle.tap (x.val / 4)).stopped = false := hrun
  have hsrc' : (s.chip.newCycle.tap (s.chip.newCycle.xcSrc x.val)).stopped = false := hsrc
  have hmode' : (s.chip.newCycle.xcMode x.val == 0) = false := beq_false_of_ne hmode
  show execXcRelease x phase again s = _
  rw [execXcRelease, State.runTap_eq hdie hrst ht]
  simp only [hwrites', hrun', hsrc', hmode', hw, Bool.or_false, Bool.and_false, Bool.false_eq_true, if_false, if_neg hdue']
  rfl

theorem Chip.presented_leaves (x : Nat) (slip : Bool) (r : List XcWrite) :
    ((c.presented x slip r).xc x).writes = r ∧ ((c.presented x slip r).xc x).slipped = ((c.xc x).slipped || slip)
      ∧ (c.presented x slip r).rt.taps = c.rt.taps := by
  have hdet : ∀ (d : Chip) (cls : Nat), (d.detClearClass cls).xc x = d.xc x := fun d cls => by
    simp only [Chip.xc, Chip.detClearClass_rt]
  have hbump : ∀ (d : Chip) (q : RegRow) (n i j : Nat), (d.bump q n i j).xc x = d.xc x := fun _ _ _ _ _ => rfl
  unfold Chip.presented
  cases slip
  · simp only [Bool.false_eq_true, if_false]
    split
    · rw [hdet, Chip.detClearClass_rt, Chip.xc_modXc]
      exact ⟨rfl, (Bool.or_false _).symm, rfl⟩
    · rw [Chip.xc_modXc]
      exact ⟨rfl, (Bool.or_false _).symm, rfl⟩
  · simp only [if_true, hdet, Chip.report_xc, hbump, Chip.xc_modXc, Chip.detClearClass_rt, Chip.report_rt]
    exact ⟨trivial, (Bool.or_true _).symm, rfl⟩

/-- Settles O44: a strobe's write has its boundary, a release keeps to it, and a calibration stores what it measured. -/
theorem crossingsInDeterministicMode : Obligations.CrossingsInDeterministicMode := by
  unfold Obligations.CrossingsInDeterministicMode
  have hreg : ∀ (s : State) (r : RegRow) (i j b : Nat), s.chip.fresh.reg r i j b = s.chip.reg r i j b :=
    fun s r i j b => s.chip.newCycle_reg r i j b
  refine ⟨fun s x phase n hdie hrst ht hmode hbusy hcal => ?det, fun s x phase hdie hrst ht hmode => ?async,
    fun s x phase hdie hrst ht hoff => ?off, fun s x phase again w r n hdie hrst ht hmode hrun hsrc hwrites hw hearly => ?early,
    fun s x phase again w r n hdie hrst ht hmode hrun hsrc hwrites hw hdue => ?due, fun s m hopen => ?calibrate,
    fun s tp a0 a1 a2 a3 hdie hrst ht hxcal hrun h0 h1 h2 h3 hbusy => ?measured⟩
  case det =>
    refine State.answers (exec_xcStrobe hdie hrst ht (Or.inr hmode)) fun d hd => ?_
    subst hd
    refine ⟨?_, rfl, rfl⟩
    rw [Chip.xc_modXc]
    have hbusy' : (s.chip.newCycle.xc x.val).busy = false := hbusy
    have hmode' : s.chip.newCycle.xcMode x.val = 2 := hmode
    have hcal' : s.chip.newCycle.xcCal x.val = some n := hcal
    simp only [Chip.strobed, hmode', hbusy', hcal', and_self, if_true, Option.map_some, hreg]
    rfl
  case async =>
    refine State.answers (exec_xcStrobe hdie hrst ht (hmode.imp_right And.left)) fun d hd => ?_
    subst hd
    refine ⟨?_, rfl, rfl⟩
    rw [Chip.xc_modXc]
    have hnone : (s.chip.fresh.strobed x.val phase.val) = { boundary := none, slipped := false } := by
      rcases hmode with hasync | ⟨hdet, hbusy | hcal⟩
      · have hasync' : s.chip.newCycle.xcMode x.val = 1 := hasync
        simp [Chip.strobed, hasync']
      · have hbusy' : (s.chip.newCycle.xc x.val).busy = true := hbusy
        simp [Chip.strobed, hbusy']
      · have hcal' : s.chip.newCycle.xcCal x.val = none := hcal
        simp [Chip.strobed, hcal']
    rw [hnone]
    rfl
  case off =>
    have hoff' : s.chip.newCycle.xcMode x.val = 0 := hoff
    have hexec : exec (.xcStrobe x phase) s = .next { s with chip := s.chip.fresh } := by
      show execXcStrobe x phase s = _
      rw [execXcStrobe, State.runTap_eq hdie hrst ht]
      simp only [hoff']
    exact ⟨_, hexec, rfl, rfl⟩
  case early => exact ⟨_, exec_xcRelease_early hdie hrst ht hwrites hw hearly, rfl, rfl, rfl⟩
  case due =>
    refine State.answers (exec_xcRelease_due hdie hrst ht hmode hrun hsrc hwrites hw hdue) fun d hd => ?_
    subst hd
    obtain ⟨hleft, hslipped, htaps⟩ := s.chip.fresh.presented_leaves x.val (again || w.slipped) r
    exact ⟨hleft, hslipped.trans (Bool.or_assoc _ _ _).symm, htaps⟩
  case calibrate =>
    have hexec := exec_xcal hopen
    obtain ⟨htap, huncal, hbusy, hlines, hregs⟩ := s.chip.fresh.xcalWrite_leaves (s.chip.chanOf m 0x0C)
    rw [Chip.newCycle_xcTouching] at huncal
    generalize s.chip.xcTouching (s.chip.chanOf m 0x0C) = touching at huncal ⊢
    generalize s.chip.fresh.xcalWrite (s.chip.chanOf m 0x0C) = d at hexec htap huncal hbusy hlines hregs
    exact ⟨_, hexec, rfl, htap, huncal touching rfl, hbusy, hlines, hregs⟩
  case measured =>
    have hexec : exec (.xcalDone tp a0 a1 a2 a3) s = .next { s with
        chip := ((((s.chip.fresh.modTap tp.val fun x => { x with xcal := false }).xcalOne (4 * tp.val) a0.toNat).xcalOne
          (4 * tp.val + 1) a1.toNat).xcalOne (4 * tp.val + 2) a2.toNat).xcalOne (4 * tp.val + 3) a3.toNat } := by
      have hboth : ((s.chip.newCycle.tap tp.val).xcal && !(s.chip.newCycle.tap tp.val).stopped) = true := by
        have hxcal' : (s.chip.newCycle.tap tp.val).xcal = true := hxcal
        have hrun' : (s.chip.newCycle.tap tp.val).stopped = false := hrun
        rw [hxcal', hrun']
        rfl
      show execXcalDone tp a0 a1 a2 a3 s = _
      rw [execXcalDone, State.runTap_eq hdie hrst ht]
      simp only [hboth, if_true]
    refine State.answers hexec fun d hd => ?_
    have hmodes : ∀ j < 4, s.chip.xcMode (4 * tp.val + j) ≠ 0 := by
      intro j hj
      match j, hj with
      | 0, _ => exact h0
      | 1, _ => exact h1
      | 2, _ => exact h2
      | 3, _ => exact h3
    obtain ⟨htaps, hlats⟩ := Chip.xcalFour_leaves (s.chip.fresh.modTap tp.val fun x => { x with xcal := false })
      _ _ _ _ hmodes hbusy hd.symm
    have hop : ((s.chip.fresh.modTap tp.val fun x => { x with xcal := false }).tap tp.val).opsel = (s.chip.tap tp.val).opsel := by
      rw [Chip.tap_modTap]
      rfl
    rw [hop] at hlats
    refine ⟨?_, hlats⟩
    rw [Chip.tap, htaps]
    exact congrArg TapState.xcal (Chip.tap_modTap s.chip.fresh tp.val fun x => { x with xcal := false })

end Sys2Proof.Machine
end

section
/-!
O42: an arm reaches its tap, its moment comes, and its line fires (R159 to R161, R206).
-/

namespace Sys2Proof.Machine

/-- Of a map whose listed values change, a key that is listed with a value that stays listed reads as its changed value. -/
theorem SMap.find_update {α : Type} [DecidableEq α] {m : SMap α} {k : Nat} {d : α} {f : Nat → α → α}
    (hlisted : SMap.find m k d ≠ d) (hstays : f k (SMap.find m k d) ≠ d) :
    SMap.find (SMap.update m d f) k d = f k (SMap.find m k d) := by
  induction m with
  | nil => exact absurd rfl hlisted
  | cons e r ih =>
    obtain ⟨j, v⟩ := e
    have hfind : SMap.find ((j, v) :: r) k d = if k = j then v else SMap.find r k d := rfl
    rw [hfind] at hlisted hstays ⊢
    by_cases hk : k = j
    · subst hk
      rw [if_pos rfl] at hstays ⊢
      have hkept : SMap.update ((k, v) :: r) d f = (k, f k v) :: SMap.update r d f := by
        rw [SMap.update, List.filterMap_cons_some (b := (k, f k v)) (by simp [hstays])]
        rfl
      rw [hkept]
      exact if_pos rfl
    · rw [if_neg hk] at hlisted hstays ⊢
      rw [← ih hlisted hstays]
      by_cases hd : f j v = d
      · have hout : SMap.update ((j, v) :: r) d f = SMap.update r d f := by
          rw [SMap.update, List.filterMap_cons_none (by simp [hd])]
          rfl
        rw [hout]
      · have hkept : SMap.update ((j, v) :: r) d f = (j, f j v) :: SMap.update r d f := by
          rw [SMap.update, List.filterMap_cons_some (b := (j, f j v)) (by simp [hd])]
          rfl
        rw [hkept]
        exact if_neg hk

variable {s : State} (c : Chip)

/-! ### What a line reads as -/

theorem Chip.line_modLine_ne {n k : Nat} (h : k ≠ n) (f : LineState → LineState) : (c.modLine n f).line k = c.line k :=
  SMap.find_put_ne h _ _ _

theorem Chip.modTap_line (t n : Nat) (f : TapState → TapState) : (c.modTap t f).line n = c.line n := rfl

/-- What a change of the armed lines does at one. -/
def armChange (f : Nat → LineArm → Option LineArm) (n : Nat) (x : LineState) : LineState := { x with armed := x.armed.bind (f n) }

/-- An armed line among the armed lines that change. -/
theorem Chip.line_mapArmed {n : Nat} {a b : LineArm} {f : Nat → LineArm → Option LineArm} (harmed : (c.line n).armed = some a)
    (hf : f n a = some b) : (c.mapArmed f).line n = { c.line n with armed := some b } := by
  have hchanged : armChange f n (c.line n) = { c.line n with armed := some b } := by
    simp only [armChange, harmed, Option.bind_some, hf]
  refine (SMap.find_update (f := armChange f) (m := c.rt.lines) (k := n) (fun h => ?_) fun h => ?_).trans hchanged
  · have hnone : (c.line n).armed = none := congrArg LineState.armed h
    exact Option.some_ne_none a (harmed.symm.trans hnone)
  · exact Option.some_ne_none b (congrArg LineState.armed (hchanged.symm.trans h))

/-- A part whose lines and taps are those of another. -/
theorem Chip.line_of_rt {d : Chip} (h : d.rt = c.rt) (n : Nat) : d.line n = c.line n := by
  simp only [Chip.line, h]

/-! ### A line that does not fire -/

@[simp] theorem Chip.lineLost_rt (a : LineArm) (n : Nat) : (c.lineLost a n).rt = c.rt := by
  unfold Chip.lineLost
  split <;> rfl

@[simp] theorem Chip.lineLost_flights (a : LineArm) (n : Nat) : (c.lineLost a n).sq.flights = c.sq.flights := by
  unfold Chip.lineLost
  split <;> rfl

theorem Chip.placeArm_busy {n : Nat} {a b : LineArm} (hbusy : (c.line n).armed = some b) :
    (c.placeArm n a).rt = c.rt ∧ (c.placeArm n a).sq.flights = c.sq.flights := by
  simp [Chip.placeArm, hbusy]

/-- Lines withheld for want of authority: the thread's other lines of the set, with the arm itself (R24). -/
theorem Chip.withhold_rt (a : LineArm) :
    (c.withhold a).rt = (c.mapArmed fun n b => some (if b.thread == a.thread && b.tf == a.tf && b.moment.isNone && !b.solo
      && c.tapLive (n / 4) then { b with withheld := true } else b)).rt := by
  unfold Chip.withhold
  extract_lets same armed cleared told
  have htold : told.rt = cleared.rt := Chip.report_rt _ _ _
  split
  · rfl
  · split
    · exact htold
    · exact htold

/-! ### The commands -/

section Arrives

variable {l : Line} {a : ArmFlight} {r : List ArmFlight}

/-- The arm that a flight to a line brings. -/
def ArmFlight.placed (a : ArmFlight) : LineArm :=
  { tf := a.tf, thread := a.thread, course := a.course, grp := a.grp, ctx := a.ctx,
    moment := none, calOk := false, withheld := false, inStop := false, solo := false }

theorem exec_armArrive (hdie : s.chip.id.hub = false) (hrst : s.chip.inReset = false)
    (htake : takeFlight l.val s.chip.sq.flights = some (a, r)) :
    exec (.armArrive l) s = .next { s with
      chip := if a.cancelled then { s.chip.fresh with sq := { s.chip.sq with flights := r } }
        else Chip.placeArm { s.chip.fresh with sq := { s.chip.sq with flights := r } } l.val a.placed } := by
  have htake' : takeFlight l.val s.chip.newCycle.sq.flights = some (a, r) := htake
  show execArmArrive l s = _
  rw [execArmArrive, State.runDie_eq hdie hrst]
  simp only [htake']
  rfl

end Arrives

section Moment

variable {l : Line} {a : LineArm}

theorem exec_tapMoment (hdie : s.chip.id.hub = false) (hrst : s.chip.inReset = false)
    (harmed : (s.chip.line l.val).armed = some a) (hm : a.moment = none) (hw : a.withheld = false)
    (hdue : a.tf < s.chip.tk.stamp (s.chip.tk.frc + 1) 0) :
    exec (.tapMoment l) s = .next { s with chip := s.chip.fresh.tapMoment l.val a.tf } := by
  have harmed' : (s.chip.newCycle.line l.val).armed = some a := harmed
  have hall : (a.moment.isNone && !a.withheld && decide (a.tf < s.chip.newCycle.tk.stamp (s.chip.newCycle.tk.frc + 1) 0)) = true := by
    rw [hm, hw]
    exact decide_eq_true hdue
  show execTapMoment l s = _
  rw [execTapMoment, State.runDie_eq hdie hrst]
  simp only [harmed', hall, if_true]

end Moment

/-! ### A fire -/

theorem Chip.rollTaps_lines : c.rollTaps.rt.lines = c.rt.lines := by
  unfold Chip.rollTaps
  extract_lets passed one move
  split <;> rfl

@[simp] theorem Chip.pinEdges_rt (src rise fall : Nat) : (c.pinEdges src rise fall).rt = c.rt := by rw [Chip.pinEdges_eq]

/-- What a fire writes at its line. -/
def LineState.afterFire (x : LineState) (a : LineArm) (flat : Nat) (late : Bool) (edge rise : Nat) : LineState :=
  { x with armed := none, flat := flat, late := late, lastFire := some edge, rise := rise, cycle := none
           fired := (a.ctx, edge) :: x.fired.filter fun p => p.1 != a.ctx }

/-- After its line's and its tap's part a fire counts, reports and leaves the thread (R161, R207). -/
theorem Chip.fire_rt (n phase edge : Nat) (a : LineArm) :
    (c.fire n phase edge a).rt =
      ((c.rollTaps.modLine n fun x => x.afterFire a (satNat 24 ((edge - a.tf) / unit64))
        (decide (satNat 24 ((edge - a.tf) / unit64) > c.fireBudget (n / 4)) || a.inStop) edge (c.frc64 phase)).modTap (n / 4)
          fun x => { x with acc := 0 }).rt := by
  unfold Chip.fire
  extract_lets t rise flat late rolled lined calmed sampled pinned told det
  have hsampled : sampled.rt = calmed.rt := (Chip.sample_rt _ _ _ _).trans (Chip.count_rt _ _ _ _)
  have hpinned : pinned.rt = calmed.rt := (Chip.pinEdges_rt _ _ _ _).trans hsampled
  have htold : told.rt = calmed.rt := by
    refine Eq.trans ?_ hpinned
    show (if late = true then _ else _ : Chip).rt = _
    split
    · exact Chip.report_rt _ _ _
    · rfl
  have hdet : det.rt = calmed.rt := by
    refine Eq.trans ?_ htold
    show (if (late || !a.calOk) = true then _ else _ : Chip).rt = _
    split <;> rfl
  split
  · exact htold
  · exact hdet

theorem Chip.fire_leaves (n phase edge : Nat) (a : LineArm) :
    (c.fire n phase edge a).line n = (c.line n).afterFire a (satNat 24 ((edge - a.tf) / unit64))
        (decide (satNat 24 ((edge - a.tf) / unit64) > c.fireBudget (n / 4)) || a.inStop) edge (c.frc64 phase)
      ∧ (∀ k, k ≠ n → (c.fire n phase edge a).line k = c.line k) ∧ ((c.fire n phase edge a).tap (n / 4)).acc = 0 := by
  have hrolled : ∀ k, c.rollTaps.line k = c.line k := fun k => by simp only [Chip.line, Chip.rollTaps_lines]
  refine ⟨?_, fun k hk => ?_, ?_⟩
  · rw [Chip.line_of_rt _ (c.fire_rt n phase edge a), ← hrolled n, Chip.modTap_line]
    exact Chip.line_modLine ..
  · rw [Chip.line_of_rt _ (c.fire_rt n phase edge a), ← hrolled k, Chip.modTap_line]
    exact Chip.line_modLine_ne _ hk _
  · rw [Chip.tap, c.fire_rt n phase edge a]
    exact congrArg TapState.acc (Chip.tap_modTap ..)

theorem exec_fireEdge {l : Line} {phase : Fin 64} {a : LineArm} {at_ : Nat} (hdie : s.chip.id.hub = false)
    (hrst : s.chip.inReset = false) (ht : l.val / 4 < s.chip.id.ntaps) (harmed : (s.chip.line l.val).armed = some a)
    (hm : a.moment = some at_) (hdue : at_ ≤ s.chip.tk.stamp s.chip.tk.frc phase.val)
    (hrun : (s.chip.tap (l.val / 4)).running = true) (hgo : (s.chip.tap (l.val / 4)).stopped = false)
    (hedge : (s.chip.tap (l.val / 4)).edgeDue = false) (hfence : s.chip.hg.fenced = false) :
    exec (.fireEdge l phase) s = .next { s with
      chip := s.chip.fresh.fire l.val phase.val (s.chip.tk.stamp s.chip.tk.frc phase.val) a } := by
  have hedge' : s.chip.newCycle.regionEdge (l.val / 4) phase.val = s.chip.newCycle := by
    have hnone : ((s.chip.newCycle.tap (l.val / 4)).edgeDue && !s.chip.newCycle.pw.hostLow) = false := by
      rw [show (s.chip.newCycle.tap (l.val / 4)).edgeDue = false from hedge, Bool.false_and]
    rw [Chip.regionEdge, hnone, if_neg Bool.false_ne_true]
  have harmed' : (s.chip.newCycle.line l.val).armed = some a := harmed
  have hall : (decide (at_ ≤ s.chip.newCycle.tk.stamp s.chip.newCycle.tk.frc phase.val) && (s.chip.newCycle.tap (l.val / 4)).running
      && !(s.chip.newCycle.tap (l.val / 4)).stopped && !s.chip.newCycle.hg.fenced) = true := by
    rw [show (s.chip.newCycle.tap (l.val / 4)).running = true from hrun,
      show (s.chip.newCycle.tap (l.val / 4)).stopped = false from hgo, show s.chip.newCycle.hg.fenced = false from hfence,
      decide_eq_true (show at_ ≤ s.chip.newCycle.tk.stamp s.chip.newCycle.tk.frc phase.val from hdue)]
    rfl
  show execFireEdge l phase s = _
  rw [execFireEdge, State.runTap_eq hdie hrst ht]
  simp only [hedge', harmed', hm, hall, if_true]
  rfl

theorem exec_fireEdge_fenced {l : Line} {phase : Fin 64} (hdie : s.chip.id.hub = false)
    (hrst : s.chip.inReset = false) (ht : l.val / 4 < s.chip.id.ntaps)
    (hedge : (s.chip.tap (l.val / 4)).edgeDue = false) (hfence : s.chip.hg.fenced = true) :
    exec (.fireEdge l phase) s = .next { s with chip := s.chip.fresh } := by
  have hedge' : s.chip.newCycle.regionEdge (l.val / 4) phase.val = s.chip.newCycle := by
    have hnone : ((s.chip.newCycle.tap (l.val / 4)).edgeDue && !s.chip.newCycle.pw.hostLow) = false := by
      rw [show (s.chip.newCycle.tap (l.val / 4)).edgeDue = false from hedge, Bool.false_and]
    rw [Chip.regionEdge, hnone, if_neg Bool.false_ne_true]
  have hfence' : s.chip.newCycle.hg.fenced = true := hfence
  show execFireEdge l phase s = _
  rw [execFireEdge, State.runTap_eq hdie hrst ht]
  simp only [hedge', hfence', Bool.not_true, Bool.and_false, Bool.false_eq_true, if_false]
  split
  · split <;> rfl
  · rfl

/-- Settles O42: an arm takes a free line, its moment passes it on, withholds it or loses it, and its line fires once. -/
theorem triggerAtTheTap : Obligations.TriggerAtTheTap := by
  unfold Obligations.TriggerAtTheTap
  refine ⟨fun s l a r hdie hrst htake hcan hfree hbound hdue => ?arms, fun s l a r hdie hrst htake hcan hbusy => ?busy,
    fun s l a r hdie hrst htake hcan => ?cancelled, fun s l a hdie hrst harmed hm hw hdue hlive hauth => ?passes,
    fun s l a hdie hrst harmed hm hw hdue hlive hsolo hauth => ?withheld, fun s l a hdie hrst harmed hm hw hdue hdead => ?lost,
    fun s l phase a at_ hdie hrst ht harmed hm hdue hrun hgo hedge hfence => ?fires,
    fun s l phase hdie hrst ht hedge hfence => ?fenced⟩
  case arms =>
    refine State.answers (exec_armArrive hdie hrst htake) fun d hd => ?_
    rw [hcan, if_neg Bool.false_ne_true] at hd
    rw [Chip.placeArm_arms (c := { s.chip.fresh with sq := { s.chip.sq with flights := r } }) (a := a.placed) hfree hbound hdue] at hd
    subst hd
    exact ⟨Chip.line_modLine .., rfl⟩
  case busy =>
    obtain ⟨b, hb⟩ := Option.ne_none_iff_exists'.1 hbusy
    refine State.answers (exec_armArrive hdie hrst htake) fun d hd => ?_
    rw [hcan, if_neg Bool.false_ne_true] at hd
    subst hd
    exact Chip.placeArm_busy { s.chip.fresh with sq := { s.chip.sq with flights := r } } (a := a.placed) hb
  case cancelled =>
    refine State.answers (exec_armArrive hdie hrst htake) fun d hd => ?_
    rw [hcan, if_pos rfl] at hd
    subst hd
    exact ⟨rfl, rfl⟩
  case passes =>
    have harmed' : (s.chip.newCycle.line l.val).armed = some a := harmed
    have hlive' : s.chip.newCycle.tapLive (l.val / 4) = true := hlive
    have hgo : (a.solo || s.chip.newCycle.tapAuthority a.grp) = true := by
      rcases hauth with h | h
      · rw [h, Bool.true_or]
      · rw [show s.chip.newCycle.tapAuthority a.grp = true from h, Bool.or_true]
    refine State.answers (exec_tapMoment hdie hrst harmed hm hw hdue) fun d hd => ?_
    simp only [Chip.tapMoment, harmed', hlive', hgo, Bool.not_true, Bool.false_eq_true, if_false, if_true] at hd
    subst hd
    exact ⟨Chip.line_modLine .., rfl⟩
  case withheld =>
    have harmed' : (s.chip.newCycle.line l.val).armed = some a := harmed
    have hlive' : s.chip.newCycle.tapLive (l.val / 4) = true := hlive
    have hno : (a.solo || s.chip.newCycle.tapAuthority a.grp) = false := by
      rw [hsolo, show s.chip.newCycle.tapAuthority a.grp = false from hauth, Bool.or_false]
    refine State.answers (exec_tapMoment hdie hrst harmed hm hw hdue) fun d hd => ?_
    simp only [Chip.tapMoment, harmed', hlive', hno, Bool.not_true, Bool.false_eq_true, if_false] at hd
    subst hd
    rw [Chip.line_of_rt _ (Chip.withhold_rt _ a)]
    refine Chip.line_mapArmed _ harmed' ?_
    simp only [beq_self_eq_true, hm, Option.isNone_none, hsolo, Bool.not_false, hlive', Bool.and_true, if_true]
  case lost =>
    have harmed' : (s.chip.newCycle.line l.val).armed = some a := harmed
    have hdead' : s.chip.newCycle.tapLive (l.val / 4) = false := hdead
    refine State.answers (exec_tapMoment hdie hrst harmed hm hw hdue) fun d hd => ?_
    simp only [Chip.tapMoment, Chip.lineDead, harmed', hdead', Bool.not_false, if_true] at hd
    subst hd
    rw [Chip.line_of_rt _ ((Chip.lineLost_rt _ a l.val).trans (Chip.report_rt _ _ _))]
    exact Chip.line_modLine ..
  case fires =>
    refine State.answers (exec_fireEdge hdie hrst ht harmed hm hdue hrun hgo hedge hfence) fun d hd => ?_
    subst hd
    obtain ⟨hline, hother, hacc⟩ := s.chip.fresh.fire_leaves l.val phase.val (s.chip.tk.stamp s.chip.tk.frc phase.val) a
    rw [hline]
    exact ⟨rfl, rfl, rfl, rfl, hacc, hother⟩
  case fenced =>
    exact ⟨_, exec_fireEdge_fenced hdie hrst ht hedge hfence, rfl, rfl, rfl, rfl⟩

end Sys2Proof.Machine
end

section
/-!
O57: remote signals. The clause on the answer to a transmit query speaks of every state, also of one whose staged signal
holds a group ID of more than the 12 bits that its cell has for it.
-/

namespace Sys2Proof.Machine

/-- A signal staged with a group ID of 13 bits: in its cell the ID's top bit makes the type that of a directed signal. -/
def wideStaged : Staged :=
  { agent := 1, dest := 9, sem := 5, chan := 3, grp := 0, gid := 4096, gen := 0, n := 1, dir := false, tag := 0 }

/-- A die with that signal at the head of its staging queue, its count asked for, and a lane of version 1 that is UP. -/
def widelyStaged : State :=
  { chip := { Chip.reset with
      gt := { Chip.reset.gt with queries := [.tx 3], staging := [wideStaged] }
      ports := [(0, { PortState.reset with mode := .up, nver := 1 })] }
    pending := [] }

/-- The lane of version 1 takes no directed signal, and the cell is not queued. -/
theorem read_after_fcAnswer_widelyStaged :
    readAfter (.fcAnswer 8) widelyStaged (fun t => (t.chip.port 0).q.txS.length) = some 0 := by
  decide

/-- Refutes O57: the staged signal's cell is one that the lane does not take, and the clause has it queued. -/
theorem not_remoteSignals : ¬ Obligations.RemoteSignals := by
  unfold Obligations.RemoteSignals
  rintro ⟨-, -, -, -, hanswer, -⟩
  obtain ⟨t, hexec, -, -, hsent⟩ := hanswer widelyStaged 8 3 [] wideStaged (by decide) (by decide) (by decide) (by decide)
    (by decide) (by decide) (by decide) (by decide) (by decide) (by decide) (by decide)
  have hnone := read_after_fcAnswer_widelyStaged
  rw [readAfter_eq hexec] at hnone
  have hport : (if widelyStaged.chip.planeOf wideStaged.grp then 1 else 0) = 0 := by decide
  rw [hport] at hsent
  rw [hsent] at hnone
  revert hnone
  decide

end Sys2Proof.Machine
end

section
/-!
What a report keeps: whatever the registers, the counters, the recorder and a class M notice leave as it is (R11, R56).
-/

namespace Sys2Proof.Machine

/-- A reading of the part that none of the things which a report changes moves. -/
structure Unreported {γ : Type} (v : Chip → γ) : Prop where
  regs : ∀ (c : Chip) x, v { c with regs := x } = v c
  mn : ∀ (c : Chip) x, v { c with mn := x } = v c
  ev : ∀ (c : Chip) x, v { c with ev := x } = v c
  free : ∀ (c : Chip) x, v { c with free := x } = v c
  waits : ∀ (c : Chip) x, v { c with tr := { c.tr with inoteWait := x } } = v c
  notice : ∀ (c : Chip) p l, v (c.sendCells p clsM l) = v c

namespace Unreported

variable {γ : Type} {v : Chip → γ} (hv : Unreported v) (c : Chip)

include hv

theorem count (n : Nat) (i : Option Nat) (k : Nat) : v (c.count n i k) = v c := by
  unfold Chip.count
  split
  · rfl
  · exact hv.mn c _

theorem pinEdges (s r f : Nat) : v (c.pinEdges s r f) = v c := by
  unfold Chip.pinEdges
  split
  · rfl
  · exact hv.mn c _

theorem irqEdges (b : Chip) : v (c.irqEdges b) = v c := by
  refine foldl_keeps v _ _ c ?_
  intro x n
  split
  · split
    · exact hv.pinEdges x _ _ _
    · exact hv.pinEdges x _ _ _
    · rfl
  · rfl

theorem inoteRaise (p : Nat) (b : Word) : v (c.inoteRaise p b) = v c := by
  unfold Chip.inoteRaise
  split
  · refine foldl_keeps v Chip.inoteOn _ c ?_
    intro x q
    unfold Chip.inoteOn
    split
    · exact hv.notice x q _
    · split
      · rfl
      · exact hv.waits x _
  · rfl

theorem flag (p b : Nat) (i : Option Nat) : v (c.flag p b i) = v c := by
  unfold Chip.flag
  split
  · rfl
  · extract_lets before old w set chan
    have hset : v set = v c := hv.regs c _
    have hchan : v chan = v c := by
      refine Eq.trans ?_ hset
      show v (match chanHist p, i with | some r, some i => _ | _, _ => _) = _
      split
      · exact hv.regs set _
      · rfl
    exact ((hv.inoteRaise _ p before).trans (hv.irqEdges _ old)).trans hchan

theorem note (e : Ev) (i : Option Nat) : v (c.note e i) = v c := (hv.flag _ _ _ _).trans (hv.count c _ _ _)

theorem enqueueRec (r : RawRec) : v (c.enqueueRec r) = v c := by
  unfold Chip.enqueueRec
  split
  · exact hv.ev c _
  · exact (hv.flag _ _ _ _).trans ((hv.count _ _ _ _).trans (hv.ev c _))

theorem param (p : Option Word) : v (c.param p).2 = v c := by
  unfold Chip.param
  split
  · rfl
  · exact hv.free c _

theorem report (e : Ev) (r : Rep) : v (c.report e r) = v c := by
  have hnote := hv.note c e r.inst
  unfold Chip.report
  dsimp only
  split
  · exact hnote
  · exact (hv.enqueueRec _ _).trans ((hv.param _ _).trans ((hv.param _ _).trans ((hv.param _ _).trans hnote)))

end Unreported

/-- The class S cells at a port. -/
def Chip.signalCells (c : Chip) (p : Nat) : List Cell × List TxCell := ((c.port p).q.rxS, (c.port p).q.txS)

/-- Cells of another class leave a port's class S cells. -/
theorem Chip.signalCells_sendCells (c : Chip) {cls : Nat} (hcls : cls ≠ clsS) (p : Nat) (l : List Cell) (q : Nat) :
    (c.sendCells p cls l).signalCells q = c.signalCells q := by
  have hpush : ∀ (l : List Cell) (x : PortQueues),
      ((l.foldl (fun y z => y.push cls c.tk.frc z) x).rxS, (l.foldl (fun y z => y.push cls c.tk.frc z) x).txS) = (x.rxS, x.txS) := by
    intro l x
    refine foldl_keeps (fun y : PortQueues => (y.rxS, y.txS)) _ l x fun y z => ?_
    simp only [PortQueues.push, PortQueues.setTx, if_neg hcls]
    split
    · split <;> rfl
    · rfl
  unfold Chip.sendCells
  split
  · by_cases hq : q = p
    · subst hq
      simp only [Chip.signalCells, Chip.modQ, Chip.port_modPort]
      exact hpush l _
    · simp only [Chip.signalCells, Chip.modQ, Chip.port_modPort_ne _ hq]
  · rfl

theorem unreported_signalCells (q : Nat) : Unreported fun c => c.signalCells q where
  regs _ _ := rfl
  mn _ _ := rfl
  ev _ _ := rfl
  free _ _ := rfl
  waits _ _ := rfl
  notice c p l := c.signalCells_sendCells (by decide) p l q

end Sys2Proof.Machine
end

section
/-!
O58: samples, probes and verdicts of the deadlock detector (R264 to R269).
-/

namespace Sys2Proof.Machine

variable {s : State} (c : Chip)

/-! ### The local condition -/

/-- The local condition reads the threads, the semaphores, the group entries, the gates, a register and the class S cells of
the two lanes. -/
theorem Chip.localCond_congr {a b : Chip} (hsq : a.sq = b.sq) (hsg : a.sg = b.sg) (hgt : a.gt = b.gt)
    (hcells : ∀ q, a.signalCells q = b.signalCells q) {g : Nat} (hcfg : a.dlCfg g = b.dlCfg g)
    (hheld : a.gr.held = b.gr.held) (hgid : (a.ent g).gid = (b.ent g).gid) (hbar : (a.ent g).barrier = (b.ent g).barrier) :
    a.localCond g = b.localCond g := by
  have hrx : ∀ q, (a.port q).q.rxS = (b.port q).q.rxS := fun q => congrArg Prod.fst (hcells q)
  have htx : ∀ q, (a.port q).q.txS = (b.port q).q.txS := fun q => congrArg Prod.snd (hcells q)
  simp only [Chip.localCond, Chip.stalledOf, Chip.groupWaits, Chip.noSignals, Chip.bound, Chip.arrivalSent, Chip.heldOf, Chip.sem,
    hsq, hsg, hgt, hcfg, hheld, hgid, hbar, hrx, htx]
  rfl

theorem Chip.report_dlCfg {e : Ev} (he : e.page = 0x1A) (r : Rep) (g : Nat) : (c.report e r).dlCfg g = c.dlCfg g :=
  c.report_reg (e := e) (q := Reg.DL_GCFG) (i := 0) (by rw [he]; decide) r g 0

@[simp] theorem Chip.ent_modDl (g : Nat) (f : DlGroup → DlGroup) :
    (c.modDl g f).ent g = { c.ent g with dl := f (c.ent g).dl } := c.ent_modEnt g _

theorem Chip.localCond_modDl (g : Nat) (f : DlGroup → DlGroup) : (c.modDl g f).localCond g = c.localCond g :=
  Chip.localCond_congr (a := c.modDl g f) (b := c) rfl rfl rfl (fun _ => rfl) rfl rfl
    (by rw [Chip.ent_modDl]) (by rw [Chip.ent_modDl])

theorem Chip.localCond_report {e : Ev} (he : e.page = 0x1A) (r : Rep) (g : Nat) :
    (c.report e r).localCond g = c.localCond g :=
  Chip.localCond_congr (c.report_sq e r) (c.report_sg e r) (c.report_gt e r) (fun q => (unreported_signalCells q).report c e r)
    (c.report_dlCfg he r g) (by rw [c.report_gr]) (by simp only [Chip.ent, c.report_gr]) (by simp only [Chip.ent, c.report_gr])

theorem Chip.localCond_popRx (p g : Nat) : (c.popRx p clsB 1).localCond g = c.localCond g := by
  refine Chip.localCond_congr (a := c.popRx p clsB 1) (b := c) rfl rfl rfl (fun q => ?_) rfl rfl rfl rfl
  by_cases hq : q = p
  · subst hq
    simp [Chip.signalCells, Chip.popRx]
  · simp only [Chip.signalCells, c.port_popRx_ne hq]

theorem Chip.nagentCheck_leaves (g : Nat) :
    ∃ bad, (c.nagentCheck g).ent g = { c.ent g with dl := { (c.ent g).dl with nagentBad := bad } }
      ∧ (c.nagentCheck g).localCond g = c.localCond g ∧ (c.nagentCheck g).sq = c.sq ∧ (c.nagentCheck g).sg = c.sg := by
  unfold Chip.nagentCheck
  extract_lets bad was marked
  have hmarked : marked.ent g = { c.ent g with dl := { (c.ent g).dl with nagentBad := bad } } := c.ent_modDl g _
  have hcond : marked.localCond g = c.localCond g := c.localCond_modDl g _
  refine ⟨bad, ?_⟩
  split
  · exact ⟨(Chip.ent_of_gr (marked.report_gr _ _) g).trans hmarked, (marked.localCond_report rfl _ g).trans hcond,
      Chip.report_sq _ _ _, Chip.report_sg _ _ _⟩
  · exact ⟨hmarked, hcond, rfl, rfl⟩

/-- A declaration opens the episode (R269). -/
theorem Chip.declare_leaves (g : Nat) (e : Ev) (second : Option Word) :
    ∃ n, (c.declare g e second).ent g = { c.ent g with dl := { (c.ent g).dl with deadlock := true, episodes := n } }
      ∧ (c.declare g e second).sq = c.sq ∧ (c.declare g e second).sg = c.sg := by
  unfold Chip.declare
  extract_lets gid n opened told
  have hbeside : ∀ q : CapReq, (told.capture q).1.beside = opened.beside := fun q =>
    (told.beside_capture q).trans (opened.beside_report _ _)
  refine ⟨satNat 16 ((c.ent g).dl.episodes + 1), ?_, ?_, ?_⟩
  · have hgr : ∀ q : CapReq, (told.capture q).1.gr = opened.gr := fun q => (congrArg Chip.gr (hbeside q) :)
    simp only [Chip.ent, hgr]
    exact c.ent_modDl g _
  · exact (congrArg Chip.sq (hbeside _) :)
  · exact (congrArg Chip.sg (hbeside _) :)

/-! ### Samples -/

/-- Two samples in a row hold with nothing moved between them (R265). -/
def Chip.heldStill (c : Chip) (g : Nat) : Bool := c.localCond g && (c.ent g).dl.sampled == some (true, (c.ent g).dl.act)

/-- A sample is kept; one that finds an apex quiet anew declares its deadlock (R265, R269). -/
def Chip.dlSample (c : Chip) (g : Nat) : Chip :=
  let kept := c.modDl g fun d => { d with sampled := some (c.localCond g, d.act), lquiet := c.heldStill g }
  if c.heldStill g && (kept.ent g).apex && !(c.ent g).dl.deadlock then kept.declare g Event.DL_DEADLOCK_L none else kept

theorem exec_deadlockSample {i : DieGIdx} (hdie : s.chip.id.hub = false) (hrst : s.chip.inReset = false)
    (hon : s.chip.dlOn i.val = true) (hused : (s.chip.ent i.val).state ≠ .free) :
    exec (.deadlockSample i) s = .next { s with chip := (s.chip.fresh.nagentCheck i.val).dlSample i.val } := by
  have hgo : (!(s.chip.newCycle.dlOn i.val) || (s.chip.newCycle.ent i.val).state == .free) = false := by
    rw [show s.chip.newCycle.dlOn i.val = true from hon,
      show ((s.chip.newCycle.ent i.val).state == .free) = false from beq_false_of_ne hused]
    rfl
  show execDeadlockSample i s = _
  rw [execDeadlockSample, State.runDie_eq hdie hrst]
  simp only [hgo, Bool.false_eq_true, if_false]
  rfl

theorem Chip.dlSample_leaves (g : Nat) :
    ((c.dlSample g).ent g).dl.sampled = some (c.localCond g, (c.ent g).dl.act)
      ∧ ((c.dlSample g).ent g).dl.lquiet = c.heldStill g
      ∧ ((c.dlSample g).ent g).dl.deadlock = ((c.ent g).dl.deadlock || (c.heldStill g && (c.ent g).apex))
      ∧ ((c.dlSample g).ent g).state = (c.ent g).state ∧ (c.dlSample g).sq = c.sq ∧ (c.dlSample g).sg = c.sg := by
  unfold Chip.dlSample
  extract_lets kept
  have hkept : kept.ent g = { c.ent g with dl := { (c.ent g).dl with
      sampled := some (c.localCond g, (c.ent g).dl.act), lquiet := c.heldStill g } } := c.ent_modDl g _
  have hapex : (kept.ent g).apex = (c.ent g).apex := by rw [hkept]; rfl
  rw [hapex]
  split
  · rename_i hnew
    simp only [Bool.and_eq_true] at hnew
    obtain ⟨n, hent, hsq, hsg⟩ := kept.declare_leaves g Event.DL_DEADLOCK_L none
    rw [hent, hkept]
    refine ⟨rfl, rfl, ?_, rfl, hsq, hsg⟩
    rw [hnew.1.1, hnew.1.2]
    exact (Bool.or_true _).symm
  · rename_i hold
    rw [hkept]
    refine ⟨rfl, rfl, ?_, rfl, rfl, rfl⟩
    cases hdl : (c.ent g).dl.deadlock
    · simpa [hdl] using hold
    · rfl

/-! ### Probes -/

section Probes

variable {p : Port} {x : Cell} {g : Nat}

theorem exec_qprobeReceive (hhub : s.chip.id.hub = true) (hrst : s.chip.inReset = false)
    (hp : p.val < 64) (hhead : s.chip.headB p.val 0x23 = some x) (hup : Word.bit (x.pay 2) 31 = false)
    (hmeet : s.chip.meet x = .inl g) (hlisted : (s.chip.ent g).pmap.testBit p.val = true) :
    exec (.qprobeReceive p) s = .next { s with chip := s.chip.fresh.probeMeets g p.val x } := by
  have hports : p.val < s.chip.nports := by rw [Chip.nports, hhub]; exact Nat.lt_of_lt_of_le hp (by decide)
  have hhead' : s.chip.newCycle.headB p.val 0x23 = some x := hhead
  have hmeet' : s.chip.newCycle.meet x = .inl g := hmeet
  have htakes : (!s.chip.newCycle.id.hub || decide (64 ≤ p.val) || !(s.chip.newCycle.ent g).pmap.testBit p.val) = false := by
    rw [show s.chip.newCycle.id.hub = true from hhub, show (s.chip.newCycle.ent g).pmap.testBit p.val = true from hlisted,
      decide_eq_false (Nat.not_le.2 hp)]
    rfl
  show execQprobeReceive p s = _
  rw [execQprobeReceive, State.runPort_eq hports hrst]
  simp only [Chip.probeAt, hhead', hup, hmeet', bne_self_eq_false, Bool.false_eq_true, if_false, htakes]

theorem exec_qprobeVerdict (hp : p.val < s.chip.nports) (hrst : s.chip.inReset = false)
    (hhead : s.chip.headB p.val 0x23 = some x) (hdown : Word.bit (x.pay 2) 31 = true)
    (hmeet : s.chip.meet x = .inl g) (hbelow : (s.chip.ent g).apex = false) (hway : p.val = s.chip.groupUp g) :
    exec (.qprobeVerdict p) s = .next { s with
      chip := if s.chip.id.hub then
          ((s.chip.fresh.popRx p.val clsB 1).ent g).listed.foldl
            (fun c q => c.sendCells q clsB [mkCell clsB 0x23 x.group (x.payload.take x.len)]) (s.chip.fresh.popRx p.val clsB 1)
        else (s.chip.fresh.popRx p.val clsB 1).memberVerdict g x } := by
  have hhead' : s.chip.newCycle.headB p.val 0x23 = some x := hhead
  have hmeet' : s.chip.newCycle.meet x = .inl g := hmeet
  have htakes : ((s.chip.newCycle.ent g).apex || p.val != s.chip.newCycle.groupUp g) = false := by
    rw [show (s.chip.newCycle.ent g).apex = false from hbelow, show s.chip.newCycle.groupUp g = p.val from hway.symm,
      bne_self_eq_false]
    rfl
  show execQprobeVerdict p s = _
  rw [execQprobeVerdict, State.runPort_eq hp hrst]
  simp only [Chip.probeAt, hhead', hdown, hmeet', bne_self_eq_false, Bool.false_eq_true, if_false, htakes]
  rfl

theorem exec_qprobeSend {i : DieGIdx} (hdie : s.chip.id.hub = false) (hrst : s.chip.inReset = false)
    (hon : s.chip.dlOn i.val = true) (hsealed : (s.chip.ent i.val).state.isSealed = true)
    (hbelow : (s.chip.ent i.val).apex = false) (hcounts : (s.chip.ent i.val).dieCount = 1) (hvalid : s.chip.tk.valid = true)
    (hfence : s.chip.hg.fenced = false) (hver : (s.chip.port (s.chip.groupUp i.val)).nver ≠ 1)
    (hnew : (s.chip.ent i.val).dl.epProbe ≠ some (s.chip.fresh.now / s.chip.fresh.gper)) :
    ∃ r : ProbeRound, exec (.qprobeSend i) s = .next { s with
      chip := (s.chip.fresh.modDl i.val fun d => { d with
        round := some (s.chip.fresh.localCond i.val, d.act)
        epProbe := some (s.chip.fresh.now / s.chip.fresh.gper) }).sendCells
          (s.chip.fresh.groupUp i.val) clsB [probeCell (s.chip.fresh.ent i.val).gid (s.chip.fresh.ent i.val).gen false false r] } := by
  have hgo : (!(s.chip.newCycle.dlOn i.val) || !(s.chip.newCycle.ent i.val).state.isSealed || (s.chip.newCycle.ent i.val).apex
      || (s.chip.newCycle.ent i.val).dieCount != 1 || !s.chip.newCycle.tk.valid || s.chip.newCycle.hg.fenced
      || (s.chip.newCycle.port (s.chip.newCycle.groupUp i.val)).nver == 1
      || some (s.chip.newCycle.now / s.chip.newCycle.gper) == (s.chip.newCycle.ent i.val).dl.epProbe) = false := by
    rw [show s.chip.newCycle.dlOn i.val = true from hon, show (s.chip.newCycle.ent i.val).state.isSealed = true from hsealed,
      show (s.chip.newCycle.ent i.val).apex = false from hbelow, show (s.chip.newCycle.ent i.val).dieCount = 1 from hcounts,
      show s.chip.newCycle.tk.valid = true from hvalid, show s.chip.newCycle.hg.fenced = false from hfence,
      show ((s.chip.newCycle.port (s.chip.newCycle.groupUp i.val)).nver == 1) = false from beq_false_of_ne hver,
      show (some (s.chip.newCycle.now / s.chip.newCycle.gper) == (s.chip.newCycle.ent i.val).dl.epProbe) = false from
        beq_false_of_ne (Ne.symm hnew)]
    rfl
  exact ⟨_, (State.runDie_eq hdie hrst _).trans (by simp only [hgo, Bool.false_eq_true, if_false]; rfl)⟩

end Probes

/-- Where a class B queue has room and nothing of the class waits, a cell of any type enters it on a lane past version 1. -/
theorem Chip.sendCells_txB {q : Nat} {x : Cell} (hcarries : c.carries q = true) (hin : c.tr.excluded.contains q = false)
    (hver : (c.port q).nver ≠ 1) (hroom : (c.port q).q.txB.length < 128)
    (hnone : ((c.port q).q.wait.any fun w => w.1 == clsB) = false) :
    ((c.sendCells q clsB [x]).port q).q.txB = (c.port q).q.txB ++ [{ cell := x, at_ := c.tk.frc }] := by
  have htakes : c.takesType q clsB ([x].any newType) = true := by
    have hver' : ((c.port q).nver == 1) = false := beq_false_of_ne hver
    simp only [Chip.takesType, Chip.carriesCls, hcarries, hin, hver', Bool.not_false, Bool.or_true, Bool.and_self, Bool.false_and]
  have hpush : ((c.port q).q.tx clsB).length < txSize clsB := hroom
  rw [Chip.sendCells, if_pos htakes, Chip.modQ, Chip.port_modPort]
  simp only [List.foldl_cons, List.foldl_nil, PortQueues.push, hpush, hnone, decide_true, Bool.not_false, Bool.and_self, if_true]
  rfl

theorem Chip.popRx_rxB (p : Nat) : ((c.popRx p clsB 1).port p).q.rxB = (c.port p).q.rxB.drop 1 := by
  simp [Chip.popRx]

theorem Chip.rxB_of_unsent {a b : Chip} {q : Nat} (h : a.unsent q = b.unsent q) : (a.port q).q.rxB = (b.port q).q.rxB :=
  (congrArg (fun x : PortState => x.q.rxB) h :)

/-! ### Verdicts -/

theorem Chip.declare_unsent (g : Nat) (e : Ev) (second : Option Word) (q : Nat) : (c.declare g e second).unsent q = c.unsent q := by
  unfold Chip.declare
  extract_lets gid n opened told
  have htold : told.unsent q = c.unsent q := opened.unsent_report _ _ q
  refine Eq.trans ?_ htold
  unfold Chip.capture
  split
  · exact Chip.unsent_report _ _ _ q
  · rfl

/-- A verdict is remembered at a member, and opens its episode where its condition still holds (R268, R269). -/
theorem Chip.memberVerdict_leaves {g : Nat} {x : Cell} {r : Bool × Nat} (hround : (c.ent g).dl.round = some r) :
    ((c.memberVerdict g x).ent g).dl.epVerdict = Word.field (x.pay 2) 0 16
      ∧ ((c.memberVerdict g x).ent g).dl.deadlock = ((c.ent g).dl.deadlock || (Word.bit (x.pay 2) 27 && c.dlOn g
          && c.localCond g && r.2 == (c.ent g).dl.act && (c.ent g).dl.epProbe.any (fun n => n % 65536 == Word.field (x.pay 2) 0 16)))
      ∧ ((c.memberVerdict g x).ent g).state = (c.ent g).state
      ∧ ∀ q, (c.memberVerdict g x).unsent q = c.unsent q := by
  unfold Chip.memberVerdict
  extract_lets epoch d kept still
  have hkept : kept.ent g = { c.ent g with dl := { (c.ent g).dl with epVerdict := epoch } } := c.ent_modDl g _
  have hcond : kept.localCond g = c.localCond g := c.localCond_modDl g _
  have hon : kept.dlOn g = c.dlOn g := rfl
  have hstill : still = (r.2 == (c.ent g).dl.act) := by
    show (match (c.ent g).dl.round with | some r => r.2 == (c.ent g).dl.act | none => false) = _
    rw [hround]
  rw [hcond, hon, hstill]
  split
  · rename_i hnew
    obtain ⟨hall, hclosed⟩ := (Bool.and_eq_true _ _).mp hnew
    obtain ⟨n, hent, -, -⟩ := (kept.modDl g fun d => { d with epDetect := epoch }).declare_leaves g Event.DL_DEADLOCK_G
      (some (BitVec.ofNat 32 epoch))
    refine ⟨?_, ?_, ?_, fun q => ?_⟩
    · rw [hent, Chip.ent_modDl, hkept]
    · rw [hent, show _ = true from hall, Bool.or_true]
    · rw [hent, Chip.ent_modDl, hkept]
    · exact Chip.declare_unsent _ _ _ _ q
  · rename_i hold
    refine ⟨by rw [hkept], ?_, by rw [hkept], fun q => rfl⟩
    rw [hkept]
    cases hdl : (c.ent g).dl.deadlock
    · have hopen : (!d.deadlock) = true := by rw [show d.deadlock = false from hdl]; rfl
      rw [hopen, Bool.and_true] at hold
      exact (Bool.eq_false_of_not_eq_true hold).symm.trans (Bool.false_or _).symm
    · exact (Bool.true_or _).symm

/-- Settles O58: samples, probes and verdicts of the detector, each by the steps of its command. -/
theorem deadlockDetection : Obligations.DeadlockDetection := by
  unfold Obligations.DeadlockDetection
  refine ⟨fun s i hdie hrst hon hused => ?sample, fun s i hdie hrst hoff => ?off,
    fun s i hdie hrst hon hsealed hbelow hcounts hvalid hfence hcarries hver hroom hnone hin hnew => ?probe,
    fun s p x g hhub hrst hp hhead hup hmeet hlisted hclosed hmore => ?opens,
    fun s p x g r hhub hrst hp hhead hup hmeet hlisted hopen hround hgot => ?again,
    fun s p x g r hdie hrst hp hhead hdown hmeet hbelow hway hround => ?verdict,
    fun s p x g hhub hrst hp hhead hdown hmeet hbelow hway => ?forward⟩
  case sample =>
    obtain ⟨bad, hent, hcond, hsq, hsg⟩ := s.chip.fresh.nagentCheck_leaves i.val
    obtain ⟨hsampled, hquiet, hdl, hstate, hsq', hsg'⟩ := (s.chip.fresh.nagentCheck i.val).dlSample_leaves i.val
    have hapex : ((s.chip.fresh.nagentCheck i.val).ent i.val).apex = (s.chip.fresh.ent i.val).apex := by
      rw [hent]
      rfl
    refine State.answers (exec_deadlockSample hdie hrst hon hused) fun d hd => ?_
    subst hd
    rw [hapex] at hdl
    rw [Chip.heldStill, hcond, hent] at hquiet hdl
    rw [hcond, hent] at hsampled
    rw [hent] at hstate
    generalize (s.chip.fresh.nagentCheck i.val).dlSample i.val = d at *
    refine ⟨hsampled, hquiet, hdl, ?_, hsq'.trans hsq, hsg'.trans hsg⟩
    exact hstate
  case off =>
    have hexec : exec (.deadlockSample i) s = .next { s with chip := s.chip.fresh } := by
      have hstop : (!(s.chip.newCycle.dlOn i.val) || (s.chip.newCycle.ent i.val).state == .free) = true := by
        rw [show s.chip.newCycle.dlOn i.val = false from hoff]
        rfl
      show execDeadlockSample i s = _
      rw [execDeadlockSample, State.runDie_eq hdie hrst]
      simp only [hstop, if_true]
    exact ⟨_, hexec, rfl, rfl, rfl⟩
  case probe =>
    have hepoch : s.chip.now / s.chip.gper = s.chip.fresh.now / s.chip.fresh.gper :=
      congrArg (· / s.chip.gper) (Chip.now_of_tk rfl)
    rw [hepoch] at hnew ⊢
    obtain ⟨r, hexec⟩ := exec_qprobeSend hdie hrst hon hsealed hbelow hcounts hvalid hfence hver hnew
    refine State.answers hexec fun d hd => ?_
    subst hd
    refine ⟨?_, ?_, ?_, ?_⟩
    · rw [Chip.ent_of_gr (Chip.sendCells_gr _ _ _ _), Chip.ent_modDl]
      rfl
    · rw [Chip.ent_of_gr (Chip.sendCells_gr _ _ _ _), Chip.ent_modDl]
    · dsimp only
      have hsent := Chip.sendCells_txB (s.chip.fresh.modDl i.val fun d => { d with
        round := some (s.chip.fresh.localCond i.val, d.act), epProbe := some (s.chip.fresh.now / s.chip.fresh.gper) })
        (q := s.chip.fresh.groupUp i.val) (x := probeCell (s.chip.fresh.ent i.val).gid (s.chip.fresh.ent i.val).gen false false r)
        hcarries hin hver hroom hnone
      exact (congrArg List.length hsent).trans List.length_append
    · exact Chip.sendCells_regs _ _ _ _
  case opens =>
    refine State.answers (exec_qprobeReceive hhub hrst hp hhead hup hmeet hlisted) fun d hd => ?_
    have hclosed' : (s.chip.newCycle.ent g).probe = none := hclosed
    have hmore' : (((s.chip.fresh.popRx p.val clsB 1).modEnt g fun y => { y with probe := some (probeRead x p.val) }).ent g).probeFull
        (probeRead x p.val) = false := by
      rw [Chip.ent_modEnt]
      exact hmore
    have hd' : d = (s.chip.fresh.popRx p.val clsB 1).modEnt g fun y => { y with probe := some (probeRead x p.val) } := by
      rw [hd, Chip.probeMeets]
      simp only [hclosed', Chip.roundJoin, hmore', Bool.false_eq_true, if_false]
    subst hd'
    refine ⟨by rw [Chip.ent_modEnt], s.chip.fresh.popRx_rxB p.val, fun j hj => ?_⟩
    rw [Chip.ent_modEnt_ne _ hj]
    rfl
  case again =>
    refine State.answers (exec_qprobeReceive hhub hrst hp hhead hup hmeet hlisted) fun d hd => ?_
    have hopen' : (s.chip.newCycle.ent g).probe = some r := hopen
    have hd' : d = s.chip.fresh.popRx p.val clsB 1 := by
      rw [hd, Chip.probeMeets]
      simp only [hopen', hround, beq_self_eq_true, hgot, if_true]
    subst hd'
    exact ⟨rfl, s.chip.fresh.popRx_rxB p.val⟩
  case verdict =>
    have hports : p.val < s.chip.nports := by rw [Chip.nports, hdie]; exact hp
    obtain ⟨hep, hdl, hstate, hunsent⟩ := (s.chip.fresh.popRx p.val clsB 1).memberVerdict_leaves (x := x) hround
    refine State.answers (exec_qprobeVerdict hports hrst hhead hdown hmeet hbelow hway) fun d hd => ?_
    rw [hdie, if_neg Bool.false_ne_true] at hd
    subst hd
    rw [Chip.localCond_popRx] at hdl
    exact ⟨hep, hdl, hstate, (Chip.rxB_of_unsent (hunsent p.val)).trans (s.chip.fresh.popRx_rxB p.val)⟩
  case forward =>
    have hports : p.val < s.chip.nports := by rw [Chip.nports, hhub]; exact hp
    refine State.answers (exec_qprobeVerdict hports hrst hhead hdown hmeet hbelow hway) fun d hd => ?_
    rw [hhub, if_pos rfl] at hd
    subst hd
    refine ⟨?_, ?_⟩
    · exact foldl_keeps Chip.gr _ _ _ fun y q => y.sendCells_gr q _ _
    · have hkept := foldl_keeps (fun y : Chip => y.unsent p.val)
        (fun c q => c.sendCells q clsB [mkCell clsB 0x23 x.group (x.payload.take x.len)])
        ((s.chip.fresh.popRx p.val clsB 1).ent g).listed (s.chip.fresh.popRx p.val clsB 1) fun y q => y.unsent_sendCells q _ _ _
      exact (Chip.rxB_of_unsent hkept).trans (s.chip.fresh.popRx_rxB p.val)

end Sys2Proof.Machine
end

section
/-!
O56: signals, events, waits, cancels and grants on the semaphores of a die (R245 to R254).
-/

namespace Sys2Proof.Machine

/-! ### Maps and directed credits -/

theorem SMap.mem_erase {α : Type} {l : SMap α} {k : Nat} {e : Nat × α} (h : e ∈ SMap.erase l k) : e ∈ l ∧ e.1 ≠ k := by
  induction l with
  | nil => cases h
  | cons x r ih =>
    obtain ⟨j, v⟩ := x
    rw [SMap.erase] at h
    split at h
    · exact ⟨List.mem_cons_of_mem _ (ih h).1, (ih h).2⟩
    · rename_i hk
      rcases List.mem_cons.1 h with rfl | hr
      · exact ⟨List.mem_cons_self, Ne.symm hk⟩
      · exact ⟨List.mem_cons_of_mem _ (ih hr).1, (ih hr).2⟩

theorem SMap.has_erase_ne {α : Type} (l : SMap α) {k j : Nat} (h : j ≠ k) : SMap.has (SMap.erase l k) j = SMap.has l j := by
  induction l with
  | nil => rfl
  | cons x r ih =>
    obtain ⟨i, v⟩ := x
    rw [SMap.erase]
    split
    · rename_i hk
      subst hk
      rw [ih, SMap.has, if_neg h]
    · rw [SMap.has, ih, SMap.has]

/-- A directed credit that is set reads as set (R252). -/
theorem findDir_setDir (l : List DirCredit) (sem tag : Nat) {credit : Nat} (h : credit ≠ 0) :
    findDir (setDir l sem tag credit) sem tag = some credit := by
  have hpresent : ∀ l : List DirCredit, (findDir l sem tag).isSome = true →
      findDir ((l.map fun d => if d.sem = sem && d.tag = tag then { d with credit := credit } else d).filter
        fun d => d.credit != 0) sem tag = some credit := by
    intro l hl
    induction l with
    | nil => cases hl
    | cons d r ih =>
      rw [findDir] at hl
      rw [List.map_cons]
      by_cases hd : (decide (d.sem = sem) && decide (d.tag = tag)) = true
      · rw [if_pos hd, List.filter_cons_of_pos (by simpa using h), findDir, if_pos hd]
      · rw [if_neg hd] at hl ⊢
        by_cases hz : (d.credit != 0) = true
        · rw [List.filter_cons_of_pos (p := fun d : DirCredit => d.credit != 0) hz, findDir, if_neg hd, ih hl]
        · rw [List.filter_cons_of_neg (p := fun d : DirCredit => d.credit != 0) hz, ih hl]
  have habsent : ∀ l : List DirCredit, findDir l sem tag = none →
      findDir (l ++ [{ sem := sem, tag := tag, credit := credit }]) sem tag = some credit := by
    intro l hl
    induction l with
    | nil => simp [findDir]
    | cons d r ih =>
      rw [findDir] at hl
      rw [List.cons_append, findDir]
      split at hl
      · cases hl
      · rename_i hd
        rw [if_neg hd, ih hl]
  unfold setDir
  split
  · rename_i hsome
    exact hpresent l hsome
  · rename_i hnone
    exact habsent l (Option.not_isSome_iff_eq_none.1 hnone)

variable {s : State} (c : Chip)

/-! ### What the operations leave of the semaphores -/

@[simp] theorem Chip.sem_modSem (n : Nat) (f : SemState → SemState) : (c.modSem n f).sem n = f (c.sem n) := SMap.find_put_self ..

theorem Chip.sem_modSem_ne {n k : Nat} (h : k ≠ n) (f : SemState → SemState) : (c.modSem n f).sem k = c.sem k :=
  SMap.find_put_ne h _ _ _

theorem Chip.sem_of_sg {a b : Chip} (h : a.sg = b.sg) (n : Nat) : a.sem n = b.sem n := by simp only [Chip.sem, h]

@[simp] theorem Chip.opDone_sg : c.opDone.sg = c.sg := Chip.count_sg _ _ _ _

@[simp] theorem Chip.semAct_sg (n : Nat) : (c.semAct n).sg = c.sg := by
  unfold Chip.semAct
  split <;> rfl

@[simp] theorem Chip.semAct_sq (n : Nat) : (c.semAct n).sq = c.sq := by
  unfold Chip.semAct
  split <;> rfl

@[simp] theorem Chip.semFault_sg (e : Ev) (n : Nat) (who : Who) : (c.semFault e n who).sg = c.sg := Chip.report_sg _ _ _

/-- A grant takes the waiter from the list, and nothing else of the semaphores (R253). -/
theorem Chip.granted_sg (a : Nat) (w : WaitState) : (c.granted a w).sg = { c.sg with waits := SMap.erase c.sg.waits a } := by
  unfold Chip.granted
  extract_lets left erased sampled told
  have htold : told.sg = { c.sg with waits := SMap.erase c.sg.waits a } :=
    (Chip.semAct_sg _ _).trans ((Chip.sample_sg _ _ _ _).trans (Chip.count_sg _ _ _ _))
  split
  · exact htold
  · exact htold

/-- A request that the shared port takes at once (R247). -/
def Chip.taking (c : Chip) (slot : Nat) : Chip :=
  { c with sg := { c.sg with busy := c.sg.busy.filter fun k => k != slot, turn := true } }

theorem State.runDie_core (hdie : s.chip.id.hub = false) (hrst : s.chip.inReset = false) (hfree : s.chip.portTaken = false)
    (hlow : s.chip.pw.hostLow = false) (t : Nat) (r : CoreReq) :
    s.runDie (fun c => c.coreReq t r) = .next { s with chip := (s.chip.fresh.taking t).coreExec t r } := by
  have hfree' : s.chip.newCycle.portTaken = false := hfree
  have hlow' : s.chip.newCycle.pw.hostLow = false := hlow
  rw [State.runDie_eq hdie hrst]
  simp only [Chip.coreReq, hfree', hlow', Bool.false_eq_true, if_false]
  rfl

/-! ### Signals -/

theorem Chip.semSignal_taken {who : Who} {sem n tag : Nat} (hsem : sem < semCount) (hfit : (c.sem sem).count + n ≤ 65535) :
    c.semSignal who sem n false tag = (((c.modSem sem fun s => { s with count := s.count + n }).opDone).semAct sem, true) := by
  simp only [Chip.semSignal, if_neg (Nat.not_le.2 hsem), Bool.false_eq_true, if_false, if_neg (Nat.not_lt.2 hfit)]

theorem Chip.semSignal_range {who : Who} {sem n tag : Nat} {dir : Bool} (hsem : semCount ≤ sem) :
    c.semSignal who sem n dir tag = (c.semFault Event.SG_SEM_RANGE sem who, false) := by
  simp only [Chip.semSignal, if_pos hsem]

theorem Chip.semSignal_overflow {who : Who} {sem n tag : Nat} (hsem : sem < semCount) (hover : 65535 < (c.sem sem).count + n) :
    c.semSignal who sem n false tag = (c.semFault Event.SG_SEM_OVF sem who, false) := by
  simp only [Chip.semSignal, if_neg (Nat.not_le.2 hsem), Bool.false_eq_true, if_false, if_pos hover]

/-- A directed signal sets the credit of its tag (R252). -/
theorem Chip.semSignal_directed {who : Who} {sem n tag : Nat} (hsem : sem < semCount) (hn : n ≠ 0)
    (hfit : (findDir c.sg.dirs sem tag).getD 0 + n ≤ 65535)
    (hroom : (findDir c.sg.dirs sem tag).isSome = true ∨ c.sg.dirs.length < 1024) :
    findDir (c.semSignal who sem n true tag).1.sg.dirs sem tag = some ((findDir c.sg.dirs sem tag).getD 0 + n)
      ∧ (c.semSignal who sem n true tag).1.sg.sems = c.sg.sems := by
  have hroom' : ((findDir c.sg.dirs sem tag).isNone && decide (c.sg.dirs.length ≥ 1024)) = false := by
    rcases hroom with h | h
    · rw [← Option.not_isSome, h]
      rfl
    · rw [decide_eq_false (Nat.not_le.2 h), Bool.and_false]
  unfold Chip.semSignal
  simp only [if_neg (Nat.not_le.2 hsem), if_true, if_neg (Nat.not_lt.2 hfit), hroom', Bool.false_eq_true, if_false]
  rw [Chip.semAct_sg, Chip.opDone_sg]
  exact ⟨findDir_setDir _ _ _ (by omega), rfl⟩

/-! ### Events -/

/-- After grants to a list of waiters nobody of it is left. -/
theorem Chip.grants_leave (l : List (Nat × WaitState)) :
    (l.foldl (fun c w => c.granted w.1 w.2) c).sg.sems = c.sg.sems ∧ (l.foldl (fun c w => c.granted w.1 w.2) c).sg.dirs = c.sg.dirs
      ∧ ∀ e ∈ (l.foldl (fun c w => c.granted w.1 w.2) c).sg.waits, e ∈ c.sg.waits ∧ ∀ w ∈ l, e.1 ≠ w.1 := by
  induction l generalizing c with
  | nil => exact ⟨rfl, rfl, fun e he => ⟨he, fun w hw => absurd hw List.not_mem_nil⟩⟩
  | cons w r ih =>
    obtain ⟨hsems, hdirs, hleft⟩ := ih (c.granted w.1 w.2)
    rw [List.foldl_cons]
    refine ⟨hsems.trans ?_, hdirs.trans ?_, fun e he => ?_⟩
    · rw [Chip.granted_sg]
    · rw [Chip.granted_sg]
    · obtain ⟨hin, hother⟩ := hleft e he
      rw [Chip.granted_sg] at hin
      obtain ⟨hold, hne⟩ := SMap.mem_erase hin
      exact ⟨hold, fun v hv => (List.mem_cons.1 hv).elim (fun h => h ▸ hne) (hother v)⟩

/-- An event leaves nobody waiting on its semaphore (R248). -/
theorem Chip.semSetevent_leaves {who : Who} {sem : Nat} (hsem : sem < semCount) :
    (c.semSetevent who sem).1.waitersOf sem = [] ∧ (c.semSetevent who sem).1.sg.sems = c.sg.sems
      ∧ (c.semSetevent who sem).1.sg.dirs = c.sg.dirs := by
  unfold Chip.semSetevent
  simp only [if_neg (Nat.not_le.2 hsem)]
  have hsg : (c.opDone.semAct sem).sg = c.sg := by rw [Chip.semAct_sg, Chip.opDone_sg]
  obtain ⟨hsems, hdirs, hleft⟩ := (c.opDone.semAct sem).grants_leave (c.waitersOf sem)
  refine ⟨?_, hsems.trans (congrArg SgState.sems hsg), hdirs.trans (congrArg SgState.dirs hsg)⟩
  refine List.filter_eq_nil_iff.2 fun e he hwaits => ?_
  obtain ⟨hin, hother⟩ := hleft e he
  rw [hsg] at hin
  exact hother e (List.mem_filter.2 ⟨hin, hwaits⟩) rfl

/-! ### Waits, cancels and grants -/

theorem Chip.semWait_taken {a sem n rank tag : Nat} {dir ord : Bool} (hsem : sem < semCount) (hfree : SMap.has c.sg.waits a = false)
    (hmode : (c.sem sem).ord = ord) (hrank : ord = true → rank < (c.sem sem).nrank) :
    (c.semWait a sem n dir ord rank tag).1.sg = { c.sg with
        waits := SMap.insert c.sg.waits a { sem := sem, n := n, dir := dir, ord := ord, rank := rank, tag := tag, since := c.tk.frc, reported := false } }
      ∧ (c.semWait a sem n dir ord rank tag).1.sq = c.sq := by
  have hmode' : (ord != (c.sem sem).ord || (ord && decide ((c.sem sem).nrank ≤ rank))) = false := by
    rw [hmode, bne_self_eq_false, Bool.false_or]
    cases ord
    · rfl
    · rw [decide_eq_false (Nat.not_le.2 (hrank rfl))]
      rfl
  unfold Chip.semWait
  simp only [if_neg (Nat.not_le.2 hsem), hfree, hmode', Bool.false_eq_true, if_false]
  refine ⟨?_, ?_⟩
  · rw [Chip.semAct_sg, Chip.opDone_sg, Chip.count_sg]
  · rw [Chip.semAct_sq]
    exact (Chip.count_sq _ _ _ _).trans ((Chip.bump_sq _ _ _ _ _).trans (Chip.count_sq _ _ _ _))

theorem Chip.semWait_busy {a sem n rank tag : Nat} {dir ord : Bool} (hsem : sem < semCount) (hbusy : SMap.has c.sg.waits a = true) :
    (c.semWait a sem n dir ord rank tag).1.sg = c.sg := by
  simp only [Chip.semWait, if_neg (Nat.not_le.2 hsem), hbusy, if_true, Chip.semFault_sg]

theorem Chip.withdraw_sg (a : Nat) :
    (c.withdraw a).sg.sems = c.sg.sems ∧ SMap.has (c.withdraw a).sg.waits a = false
      ∧ ∀ j, j ≠ a → SMap.has (c.withdraw a).sg.waits j = SMap.has c.sg.waits j := by
  unfold Chip.withdraw
  split
  · rw [Chip.semAct_sg]
    exact ⟨rfl, SMap.has_erase_self _ _, fun j hj => SMap.has_erase_ne _ hj⟩
  · rename_i hnone
    exact ⟨rfl, Bool.eq_false_of_not_eq_true hnone, fun _ _ => rfl⟩

/-- The winner of a semaphore waits on it (R250). -/
theorem Chip.winner_sem {n : Nat} {w : Nat × WaitState} (h : c.winner n = some w) : w.2.sem = n := by
  have hmem : w ∈ (c.waitersOf n).filter fun w => c.eligible w.2 := by
    unfold Chip.winner at h
    dsimp only at h
    split at h
    · rename_i hfound
      cases h
      exact List.mem_of_find?_eq_some hfound
    · exact List.mem_of_mem_head? h
  exact beq_iff_eq.1 (List.mem_filter.1 (List.mem_filter.1 hmem).1).2

theorem exec_grant {n : SemIdx} {a : Nat} {w : WaitState} (hdie : s.chip.id.hub = false) (hrst : s.chip.inReset = false)
    (hwin : s.chip.winner n.val = some (a, w)) :
    exec (.grant n) s = .next { s with chip := (s.chip.fresh.takeGrant a w).granted a w } := by
  have hwin' : s.chip.newCycle.winner n.val = some (a, w) := hwin
  show execGrant n s = _
  rw [execGrant, State.runDie_eq hdie hrst]
  simp only [hwin']

/-- An undirected grant takes its number from the count and remembers the agent (R250, R251). -/
theorem Chip.takeGrant_leaves {a : Nat} {w : WaitState} (hdir : w.dir = false) :
    ((c.takeGrant a w).sem w.sem).count = (c.sem w.sem).count - w.n ∧ ((c.takeGrant a w).sem w.sem).last = a
      ∧ (c.takeGrant a w).sg.waits = c.sg.waits ∧ (c.takeGrant a w).sg.dirs = c.sg.dirs := by
  unfold Chip.takeGrant
  simp only [hdir, Bool.false_eq_true, if_false, Chip.sem_modSem]
  exact ⟨trivial, trivial, rfl, rfl⟩

/-! ### A master's operations -/

section Master

variable {m : Master} {w : Word}

/-- The semaphore that a master has selected. -/
def Chip.selected (c : Chip) (m : Master) : Nat := Word.field (c.regOf m Reg.SG_SEL) 0 16

/-- A master's operation that the shared port takes at once (R247). -/
def Chip.masterTurn (c : Chip) (m : Master) (o : MasterOp) : Chip :=
  Chip.masterExec { c with sg := { c.sg with turn := true } } m o

theorem Chip.masterOps_one (o : MasterOp) (hfree : c.portTaken = false) : c.masterOps m [o] = c.masterTurn m o := by
  simp only [Chip.masterOps, List.foldl_nil, hfree, Bool.false_eq_true, if_false]
  rfl

theorem exec_ssig (hopen : s.chip.opens m 0x18 = true) (hfree : s.chip.portTaken = false) :
    exec (.ssig m w) s = .next { s with
      chip := s.chip.fresh.masterTurn m (.signal (s.chip.selected m) (oneIfZero (Word.field w 0 16))) } := by
  have hwrite : s.chip.fresh.rowWrite { m := m, row := Reg.SG_SSIG, i := 0, idx := 0, w := w } =
      (s.chip.fresh.masterTurn m (.signal (s.chip.selected m) (oneIfZero (Word.field w 0 16)))).done := by
    rw [← Chip.masterOps_one s.chip.fresh _ hfree]
    simp only [Chip.rowWrite, Chip.writeSg, Reg.SG_SSIG]
    rfl
  show s.runMaster m (fun c => c.regWrite m 0x18054 w) = _
  exact State.runMaster_rowWrite (r := Reg.SG_SSIG) (by decide) hopen (by decide) (by decide) (by cases m <;> rfl)
    (Bool.and_false _) (by simp only [Chip.rowIdx, Reg.SG_SSIG]) (by simp only [Chip.fitWord, Reg.SG_SSIG]) hwrite

theorem Chip.rowWrite_scmd (w : Word) :
    c.rowWrite { m := m, row := Reg.SG_SCMD, i := 0, idx := 0, w := w } =
      (c.masterOps m ((if Word.bit w 0 then [.rstNext (c.selected m)] else [])
        ++ if Word.bit w 1 then [.setevent (c.selected m)] else [])).done := by
  simp only [Chip.rowWrite, Chip.writeSg, Reg.SG_SCMD]
  rfl

theorem runMaster_scmd (hopen : s.chip.opens m 0x18 = true) {o : MasterOp} (hfree : s.chip.portTaken = false)
    (hops : ((if Word.bit w 0 then [MasterOp.rstNext (s.chip.selected m)] else [])
        ++ if Word.bit w 1 then [MasterOp.setevent (s.chip.selected m)] else []) = [o]) :
    s.runMaster m (fun c => c.regWrite m 0x18050 w) = .next { s with chip := s.chip.fresh.masterTurn m o } := by
  have hwrite : s.chip.fresh.rowWrite { m := m, row := Reg.SG_SCMD, i := 0, idx := 0, w := w } =
      (s.chip.fresh.masterTurn m o).done := by
    rw [Chip.rowWrite_scmd, ← Chip.masterOps_one s.chip.fresh _ hfree, ← hops]
    rfl
  exact State.runMaster_rowWrite (r := Reg.SG_SCMD) (by decide) hopen (by decide) (by decide) (by cases m <;> rfl)
    (Bool.and_false _) (by simp only [Chip.rowIdx, Reg.SG_SCMD]) (by simp only [Chip.fitWord, Reg.SG_SCMD]) hwrite

theorem Chip.rowIdx_scfg : c.rowIdx m Reg.SG_SCFG = c.selected m := by
  have hrow : findRow (Reg.ofPage 0x18) 0x040 = some (Reg.SG_SEL, 0) := by decide
  simp only [Chip.rowIdx, Reg.SG_SCFG, hrow, Chip.selected]

theorem exec_sgScfgWrite (hopen : s.chip.opens m 0x18 = true) :
    exec (.sgScfgWrite m w) s = .next { s with
      chip := if (s.chip.waitersOf (s.chip.selected m)).isEmpty then
          s.chip.fresh.modSem (s.chip.selected m) fun x => { x with cfg := w &&& 0xC0FF00FF }
        else s.chip.fresh.semFault Event.SG_MODE (s.chip.selected m) (.master m) } := by
  have hwrite : s.chip.fresh.rowWrite { m := m, row := Reg.SG_SCFG, i := 0, idx := s.chip.selected m, w := w } =
      (if (s.chip.waitersOf (s.chip.selected m)).isEmpty then
          s.chip.fresh.modSem (s.chip.selected m) fun x => { x with cfg := w &&& 0xC0FF00FF }
        else s.chip.fresh.semFault Event.SG_MODE (s.chip.selected m) (.master m)).done := by
    simp only [Chip.rowWrite, Chip.writeSg, Reg.SG_SCFG]
    rfl
  show s.runMaster m (fun c => c.regWrite m 0x18044 w) = _
  exact State.runMaster_rowWrite (r := Reg.SG_SCFG) (by decide) hopen (by decide) (by decide) (by cases m <;> rfl)
    (Bool.and_false _) (Chip.rowIdx_scfg _) (by simp only [Chip.fitWord, Reg.SG_SCFG]) hwrite

/-- The register of a master's selection, of an agent or of a semaphore. -/
def selRow (agent : Bool) : RegRow := if agent then Reg.SG_WSEL else Reg.SG_SEL

/-- A selection is in range. -/
def selFits (agent : Bool) (w : Word) : Prop :=
  if agent then Word.field w 0 11 < 1056 else Word.field w 0 16 < semCount

theorem runMaster_sel (agent : Bool) (hopen : s.chip.opens m 0x18 = true) {d : Written}
    (hwrite : s.chip.fresh.rowWrite { m := m, row := selRow agent, i := 0, idx := 0, w := w } = d) :
    exec (.sgSelWrite m agent w) s = .next { s with chip := d.1 } := by
  show s.runMaster m (fun c => c.regWrite m (if agent then 0x18060 else 0x18040) w) = _
  exact State.runMaster_rowWrite (r := selRow agent) (by cases agent <;> decide) (by cases agent <;> exact hopen)
    (by cases agent <;> decide) (by cases agent <;> decide) (by cases agent <;> cases m <;> rfl)
    (by cases agent <;> exact Bool.and_false _) (by cases agent <;> rfl) (by cases agent <;> rfl) hwrite

end Master

/-! ### The operations of a core slot -/

section Core

variable {t : Slot} {n : Sem} {k : BitVec 16} {tag : BitVec 8}

theorem exec_signal_taken (hdie : s.chip.id.hub = false) (hrst : s.chip.inReset = false) (hfree : s.chip.portTaken = false)
    (hlow : s.chip.pw.hostLow = false) (dir : Bool) :
    exec (.signal t n k dir tag) s = .next { s with
      chip := ((s.chip.fresh.taking t.val).semSignal (.agent t.val) n.toNat (oneIfZero k.toNat) dir tag.toNat).1 } :=
  State.runDie_core hdie hrst hfree hlow t.val (.signal n.toNat (oneIfZero k.toNat) dir tag.toNat)

theorem exec_signal_queued (hdie : s.chip.id.hub = false) (hrst : s.chip.inReset = false) (hfull : s.chip.portTaken = true)
    (hlow : s.chip.pw.hostLow = false) (hroom : s.chip.sg.rq.length < 64) (dir : Bool) :
    exec (.signal t n k dir tag) s = .next { s with
      chip := { s.chip.fresh with
        sg := { s.chip.sg with rq := s.chip.sg.rq ++ [(t.val, .signal n.toNat (oneIfZero k.toNat) dir tag.toNat)] } } } := by
  have hfull' : s.chip.newCycle.portTaken = true := hfull
  have hlow' : s.chip.newCycle.pw.hostLow = false := hlow
  have hroom' : s.chip.newCycle.sg.rq.length < 64 := hroom
  show s.runDie (fun c => c.coreReq t.val (.signal n.toNat (oneIfZero k.toNat) dir tag.toNat)) = _
  rw [State.runDie_eq hdie hrst]
  simp only [Chip.coreReq, hfull', hlow', if_pos hroom', Bool.false_eq_true, if_false, if_true]
  rfl

theorem exec_wait_taken (hdie : s.chip.id.hub = false) (hrst : s.chip.inReset = false) (hfree : s.chip.portTaken = false)
    (hlow : s.chip.pw.hostLow = false) (dir ord : Bool) (rank : BitVec 8) :
    exec (.wait t n k dir ord rank tag) s = .next { s with
      chip := ((s.chip.fresh.taking t.val).semWait t.val n.toNat (oneIfZero k.toNat) dir ord rank.toNat tag.toNat).1 } :=
  State.runDie_core hdie hrst hfree hlow t.val (.wait n.toNat (oneIfZero k.toNat) dir ord rank.toNat tag.toNat)

end Core

/-- A signal that the semaphore takes: its count, and nothing else of the semaphores (R248). -/
theorem Chip.semSignal_leaves {who : Who} {sem n tag : Nat} (hsem : sem < semCount) (hfit : (c.sem sem).count + n ≤ 65535) :
    (c.semSignal who sem n false tag).1.sem sem = { c.sem sem with count := (c.sem sem).count + n }
      ∧ (∀ j, j ≠ sem → (c.semSignal who sem n false tag).1.sem j = c.sem j)
      ∧ (c.semSignal who sem n false tag).1.sg.waits = c.sg.waits ∧ (c.semSignal who sem n false tag).1.sg.dirs = c.sg.dirs := by
  rw [Chip.semSignal_taken c hsem hfit]
  have hsg := (Chip.semAct_sg ((c.modSem sem fun s => { s with count := s.count + n }).opDone) sem).trans (Chip.opDone_sg _)
  refine ⟨?_, fun j hj => ?_, (congrArg SgState.waits hsg :), (congrArg SgState.dirs hsg :)⟩
  · rw [Chip.sem_of_sg hsg, Chip.sem_modSem]
  · rw [Chip.sem_of_sg hsg, Chip.sem_modSem_ne c hj]

/-- A semaphore number that the die lacks is flagged (R249). -/
theorem Chip.semFault_range_hist (hrst : c.inReset = false) (n : Nat) (who : Who) :
    Word.bit ((c.semFault Event.SG_SEM_RANGE n who).reg (histRow 0x18)) 2 = true :=
  c.report_hist (e := Event.SG_SEM_RANGE) _ hrst (by decide) (by decide)

/-- A selection that is out of range leaves the stored registers of the page (R254). -/
theorem Chip.sgRange_reg (m : Master) (a b : Word) (agent : Bool) :
    (c.sgRange m a b).regOf m (selRow agent) = c.regOf m (selRow agent) :=
  Chip.report_reg c (e := Event.SG_SEM_RANGE) (by cases agent <;> decide) _ _ _

theorem rowWrite_sel_fits {m : Master} {agent : Bool} {w : Word} (h : selFits agent w) :
    c.rowWrite { m := m, row := selRow agent, i := 0, idx := 0, w := w } =
      (c.setRegOf m (selRow agent) (Word.merge (c.regOf m (selRow agent)) w (selRow agent).take)).done := by
  cases agent
  · have hfit : ¬ semCount ≤ Word.field w 0 16 := Nat.not_le.2 h
    simp only [selRow, Bool.false_eq_true, if_false, Chip.rowWrite, Chip.writeSg, Reg.SG_SEL, if_neg hfit]
    rfl
  · have hfit : ¬ 1056 ≤ Word.field w 0 11 := Nat.not_le.2 h
    simp only [selRow, if_true, Chip.rowWrite, Chip.writeSg, Reg.SG_WSEL, if_neg hfit]
    rfl

theorem rowWrite_sel_out {m : Master} {agent : Bool} {w : Word}
    (h : if agent then 1056 ≤ Word.field w 0 11 else semCount ≤ Word.field w 0 16) :
    ∃ a b, c.rowWrite { m := m, row := selRow agent, i := 0, idx := 0, w := w } = (c.sgRange m a b).done := by
  cases agent
  · have hout : semCount ≤ Word.field w 0 16 := h
    refine ⟨BitVec.ofNat 32 (Word.field w 0 16), 0, ?_⟩
    simp only [selRow, Bool.false_eq_true, if_false, Chip.rowWrite, Chip.writeSg, Reg.SG_SEL, if_pos hout]
  · have hout : 1056 ≤ Word.field w 0 11 := h
    refine ⟨0xFFFF, BitVec.ofNat 32 (Word.field w 0 11), ?_⟩
    simp only [selRow, if_true, Chip.rowWrite, Chip.writeSg, Reg.SG_WSEL, if_pos hout]

/-- Settles O56: each operation by what it does to the semaphores, the waits and the directed credits. -/
theorem semaphoreOperations : Obligations.SemaphoreOperations := by
  unfold Obligations.SemaphoreOperations
  refine ⟨?signal, ?range, ?overflow, ?directed, ?queued, ?setevent, ?unordered, ?ordered, ?busy, ?cancel, ?grant, ?noGrant, ?ssig,
    ?scmd, ?rstnext, ?mode, ?modeKept, ?sel, ?selKept⟩
  case signal =>
    intro s t0 n k tag hdie hrst hfree hlow hn hfit
    obtain ⟨hsem, hother, hwaits, hdirs⟩ := (s.chip.fresh.taking t0.val).semSignal_leaves (who := .agent t0.val) (tag := tag.toNat) hn hfit
    exact ⟨_, exec_signal_taken hdie hrst hfree hlow false, rfl, hsem, hother, hwaits, hdirs⟩
  case range =>
    intro s t0 n k dir tag hdie hrst hfree hlow hn
    refine ⟨_, exec_signal_taken hdie hrst hfree hlow dir, rfl, ?_⟩
    dsimp only
    rw [Chip.semSignal_range _ hn]
    dsimp only
    rw [Chip.semFault_sg]
    exact ⟨rfl, rfl, rfl, Chip.semFault_range_hist (s.chip.fresh.taking t0.val) hrst _ _⟩
  case overflow =>
    intro s t0 n k tag hdie hrst hfree hlow hn hover
    refine ⟨_, exec_signal_taken hdie hrst hfree hlow false, rfl, ?_⟩
    dsimp only
    rw [Chip.semSignal_overflow (s.chip.fresh.taking t0.val) hn hover]
    dsimp only
    rw [Chip.semFault_sg]
    exact ⟨rfl, rfl⟩
  case directed =>
    intro s t0 n k tag hdie hrst hfree hlow hn hfit hroom
    have hone : oneIfZero k.toNat ≠ 0 := by
      unfold oneIfZero
      split <;> omega
    have hleaves := (s.chip.fresh.taking t0.val).semSignal_directed (who := .agent t0.val) (n := oneIfZero k.toNat) (tag := tag.toNat)
      hn hone hfit hroom
    have hexec := exec_signal_taken (t := t0) (n := n) (k := k) (tag := tag) hdie hrst hfree hlow true
    generalize ((s.chip.fresh.taking t0.val).semSignal _ _ _ _ _).1 = d at hexec hleaves
    exact ⟨_, hexec, rfl, hleaves⟩
  case queued =>
    intro s t0 n k dir tag hdie hrst hfull hlow hroom
    exact ⟨_, exec_signal_queued hdie hrst hfull hlow hroom dir, rfl, rfl⟩
  case setevent =>
    intro s t0 n hdie hrst hfree hlow hn
    exact ⟨_, State.runDie_core hdie hrst hfree hlow t0.val (.setevent n.toNat), rfl,
      (s.chip.fresh.taking t0.val).semSetevent_leaves (who := .agent t0.val) hn⟩
  case unordered =>
    intro s t0 n k dir rank tag hdie hrst hfree hlow hn hnone hord
    obtain ⟨hsg, hsq⟩ := (s.chip.fresh.taking t0.val).semWait_taken (n := oneIfZero k.toNat) (rank := rank.toNat) (tag := tag.toNat)
      (dir := dir) hn hnone hord (fun h => nomatch h)
    have hexec := exec_wait_taken (t := t0) (n := n) (k := k) (tag := tag) hdie hrst hfree hlow dir false rank
    generalize ((s.chip.fresh.taking t0.val).semWait _ _ _ _ _ _ _).1 = d at hexec hsg hsq
    refine ⟨_, hexec, rfl, ?_, (congrArg SgState.sems hsg :), hsq⟩
    dsimp only
    rw [hsg, SMap.map_insert, SMap.find_insert_self]
    rfl
  case ordered =>
    intro s t0 n k dir rank tag hdie hrst hfree hlow hn hnone hord hrank
    obtain ⟨hsg, -⟩ := (s.chip.fresh.taking t0.val).semWait_taken (n := oneIfZero k.toNat) (rank := rank.toNat) (tag := tag.toNat)
      (dir := dir) hn hnone hord (fun _ => hrank)
    have hexec := exec_wait_taken (t := t0) (n := n) (k := k) (tag := tag) hdie hrst hfree hlow dir true rank
    generalize ((s.chip.fresh.taking t0.val).semWait _ _ _ _ _ _ _).1 = d at hexec hsg
    refine ⟨_, hexec, rfl, ?_, (congrArg SgState.sems hsg :)⟩
    dsimp only
    rw [hsg, SMap.map_insert, SMap.find_insert_self]
    rfl
  case busy =>
    intro s t0 n k dir ord rank tag hdie hrst hfree hlow hn hbusy
    have hsg := (s.chip.fresh.taking t0.val).semWait_busy (n := oneIfZero k.toNat) (rank := rank.toNat) (tag := tag.toNat)
      (dir := dir) (ord := ord) hn hbusy
    exact ⟨_, exec_wait_taken hdie hrst hfree hlow dir ord rank, rfl, (congrArg SgState.waits hsg :), (congrArg SgState.sems hsg :)⟩
  case cancel =>
    intro s t0 hdie hrst hfree hlow
    obtain ⟨hsems, hgone, hother⟩ := (s.chip.fresh.taking t0.val).withdraw_sg t0.val
    refine ⟨_, State.runDie_core hdie hrst hfree hlow t0.val .cancel, rfl, ?_⟩
    show SMap.has ((s.chip.fresh.taking t0.val).withdraw t0.val).opDone.sg.waits t0.val = false
      ∧ (∀ j, j ≠ t0.val → SMap.has ((s.chip.fresh.taking t0.val).withdraw t0.val).opDone.sg.waits j = SMap.has s.chip.sg.waits j)
      ∧ ((s.chip.fresh.taking t0.val).withdraw t0.val).opDone.sg.sems = s.chip.sg.sems
    rw [Chip.opDone_sg]
    exact ⟨hgone, hother, hsems⟩
  case grant =>
    intro s n a w hdie hrst hwin hdir
    have hsem : w.sem = n.val := s.chip.winner_sem hwin
    obtain ⟨hcount, hlast, hwaits, hdirs⟩ := s.chip.fresh.takeGrant_leaves (a := a) hdir
    rw [hsem] at hcount hlast
    have hsg := (s.chip.fresh.takeGrant a w).granted_sg a w
    refine ⟨_, exec_grant hdie hrst hwin, rfl, ?_, ?_, ?_, ?_, fun j hj => ?_⟩
    · exact (congrArg (fun g : SgState => SMap.has g.waits a) hsg :).trans (SMap.has_erase_self _ _)
    · exact (congrArg (fun g : SgState => (SMap.find g.sems n.val SemState.reset).count) hsg :).trans hcount
    · exact (congrArg (fun g : SgState => (SMap.find g.sems n.val SemState.reset).last) hsg :).trans hlast
    · exact (congrArg SgState.dirs hsg :).trans hdirs
    · refine (congrArg (fun g : SgState => SMap.has g.waits j) hsg :).trans ((SMap.has_erase_ne _ hj).trans ?_)
      rw [hwaits]
      rfl
  case noGrant =>
    intro s n hdie hrst hwin
    have hwin' : s.chip.newCycle.winner n.val = none := hwin
    refine ⟨{ s with chip := s.chip.fresh }, ?_, rfl, rfl, rfl⟩
    show execGrant n s = _
    rw [execGrant, State.runDie_eq hdie hrst]
    simp only [hwin']
  case ssig =>
    intro s m w hopen hfree hsel hfit
    obtain ⟨hsem, -, hwaits, -⟩ := Chip.semSignal_leaves { s.chip.fresh with sg := { s.chip.sg with turn := true } } (who := .master m) (tag := 0)
      (n := oneIfZero (Word.field w 0 16)) hsel hfit
    exact ⟨_, exec_ssig hopen hfree, rfl, congrArg SemState.count hsem, hwaits⟩
  case scmd =>
    intro s m hopen hfree hsel
    obtain ⟨hnone, hsems, -⟩ := Chip.semSetevent_leaves { s.chip.fresh with sg := { s.chip.sg with turn := true } } (who := .master m) hsel
    exact ⟨_, runMaster_scmd (o := .setevent (s.chip.selected m)) hopen hfree rfl, rfl, hnone, hsems⟩
  case rstnext =>
    intro s m hopen hfree
    have hsg := (Chip.semAct_sg (Chip.opDone (Chip.modSem { s.chip.fresh with sg := { s.chip.sg with turn := true } }
      (s.chip.selected m) fun x => { x with next := 0 })) (s.chip.selected m)).trans (Chip.opDone_sg _)
    refine ⟨_, runMaster_scmd (o := .rstNext (s.chip.selected m)) hopen hfree rfl, rfl, ?_, (congrArg SgState.waits hsg :)⟩
    exact (Chip.sem_of_sg hsg _).trans (Chip.sem_modSem _ _ _)
  case mode =>
    intro s m w hopen hnone
    have hnone' : s.chip.waitersOf (s.chip.selected m) = [] := hnone
    refine ⟨_, exec_sgScfgWrite hopen, rfl, ?_⟩
    dsimp only
    rw [hnone']
    exact ⟨s.chip.fresh.sem_modSem (s.chip.selected m) fun x => { x with cfg := w &&& 0xC0FF00FF }, rfl⟩
  case modeKept =>
    intro s m w hopen hwait
    have hwait' : (s.chip.waitersOf (s.chip.selected m)).isEmpty = false := List.isEmpty_eq_false_iff.2 hwait
    refine ⟨_, exec_sgScfgWrite hopen, rfl, ?_⟩
    dsimp only
    rw [hwait']
    exact Chip.semFault_sg _ _ _ _
  case sel =>
    intro s m agent w hopen hfits
    refine ⟨_, runMaster_sel agent hopen (rowWrite_sel_fits s.chip.fresh hfits), rfl, ?_, rfl⟩
    cases agent
    · exact (congrArg (fun v => Word.field v 0 16) (Chip.regOf_setRegOf ..) :).trans (Word.field_merge (by decide) _ _)
    · exact (congrArg (fun v => Word.field v 0 11) (Chip.regOf_setRegOf ..) :).trans (Word.field_merge (by decide) _ _)
  case selKept =>
    intro s m agent w hopen hout
    obtain ⟨a, b, hwrite⟩ := rowWrite_sel_out s.chip.fresh (m := m) hout
    exact ⟨_, runMaster_sel agent hopen hwrite, rfl, Chip.sgRange_reg s.chip.fresh m a b false,
      Chip.sgRange_reg s.chip.fresh m a b true, Chip.report_sg _ _ _⟩

end Sys2Proof.Machine
end

section
/-!
O53: SIG, SIGR, WAITS, FENCE, SNAP and MARK (R217, R219, R248, R251, R255, R349, R350).
-/

namespace Sys2Proof.Machine

variable {s : State} {i : Thread} (c : Chip)

/-! ### Operations of a thread on the semaphores -/

theorem threadOp_taken {t : Nat} {r : Chip × Bool} (h : r.2 = true) (f : Chip → Chip) : threadOp t r f = f (r.1.nextPc t) := by
  rw [threadOp, if_pos h]

theorem threadOp_refused {t : Nat} {r : Chip × Bool} (h : r.2 = false) (f : Chip → Chip) : threadOp t r f = r.1.thStop t 6 := by
  rw [threadOp, h]
  rfl

@[simp] theorem Chip.opDone_sq : c.opDone.sq = c.sq := (Chip.count_sq _ _ _ _).trans (Chip.bump_sq _ _ _ _ _)

@[simp] theorem Chip.opDone_gt : c.opDone.gt = c.gt := Chip.count_gt _ _ _ _

theorem exec_sig (h : s.Issues i 0x28) (hevt : (Iw.fl (s.chip.fetch i.val)).testBit 0 = false)
    (hsem : Iw.a (s.chip.fetch i.val) < semCount) :
    exec (.sig i) s = .next { s with
      chip := threadOp i.val
        ((s.atIssue i).semSignal (.agent (1024 + i.val)) (Iw.a (s.chip.fetch i.val)) (oneIfZero (Iw.b (s.chip.fetch i.val) % 65536))
          ((Iw.fl (s.chip.fetch i.val)).testBit 1) ((Iw.b (s.chip.fetch i.val) >>> 16) % 256)) id } := by
  have hissue := h.runDie_issue fun c w =>
    if semCount ≤ Iw.a w then c.badOpnd i.val
    else threadOp i.val
      (c.semSignal (.agent (1024 + i.val)) (Iw.a w) (oneIfZero (Iw.b w % 65536)) ((Iw.fl w).testBit 1)
        ((Iw.b w >>> 16) % 256)) id
  have hevt' : (Iw.fl (s.chip.newCycle.fetch i.val)).testBit 0 = false := hevt
  rw [State.runDie_eq h.die h.running] at hissue
  show execSig i s = _
  rw [execSig, State.runDie_eq h.die h.running]
  simp only [hevt', Bool.false_eq_true, if_false]
  rw [hissue, if_neg (Nat.not_le.2 hsem)]

theorem exec_sigEvt (h : s.Issues i 0x28) (hevt : (Iw.fl (s.chip.fetch i.val)).testBit 0 = true)
    (hsem : Iw.a (s.chip.fetch i.val) < semCount) :
    exec (.sigEvt i) s = .next { s with
      chip := ((s.atIssue i).semSetevent (.agent (1024 + i.val)) (Iw.a (s.chip.fetch i.val))).1.nextPc i.val } := by
  have hissue := h.runDie_issue fun c w =>
    if semCount ≤ Iw.a w then c.badOpnd i.val else threadOp i.val (c.semSetevent (.agent (1024 + i.val)) (Iw.a w)) id
  have hevt' : (Iw.fl (s.chip.newCycle.fetch i.val)).testBit 0 = true := hevt
  rw [State.runDie_eq h.die h.running] at hissue
  show execSigEvt i s = _
  rw [execSigEvt, State.runDie_eq h.die h.running]
  simp only [hevt', Bool.not_true, Bool.false_eq_true, if_false]
  rw [hissue, if_neg (Nat.not_le.2 hsem), threadOp_taken]
  · rfl
  · rw [Chip.semSetevent, if_neg (Nat.not_le.2 hsem)]

theorem Chip.semSetevent_nobody {who : Who} {sem : Nat} (hsem : sem < semCount) (hnone : c.waitersOf sem = []) :
    (c.semSetevent who sem).1 = c.opDone.semAct sem := by
  simp only [Chip.semSetevent, if_neg (Nat.not_le.2 hsem), hnone, List.foldl_nil]

theorem Chip.semSignal_th {who : Who} {sem n tag : Nat} (hsem : sem < semCount) (hfit : (c.sem sem).count + n ≤ 65535) (t : Nat) :
    (c.semSignal who sem n false tag).1.th t = c.th t := by
  rw [Chip.semSignal_taken c hsem hfit]
  exact Chip.th_eq_of_sq ((Chip.semAct_sq _ _).trans (Chip.count_sq _ _ _ _)) t

/-- SIGR through a valid gate entry is staged (R255). -/
theorem Chip.semSigr_leaves {a gte n tag : Nat} (hvalid : Word.bit (c.gteDst gte) 31 = true)
    (husable : (c.ent (Word.field (c.gteSem gte) 16 8)).state.usable = true) :
    (c.semSigr a gte n false tag).2 = true
      ∧ (c.semSigr a gte n false tag).1.gt.staging = c.gt.staging ++
        [{ agent := a, dest := Word.field (c.gteDst gte) 0 24, sem := Word.field (c.gteSem gte) 0 16,
           chan := Word.field (c.gteChan gte) 0 12, grp := Word.field (c.gteSem gte) 16 8,
           gid := (c.ent (Word.field (c.gteSem gte) 16 8)).gid, gen := (c.ent (Word.field (c.gteSem gte) 16 8)).gen,
           n := n, dir := false, tag := 0 }]
      ∧ (c.semSigr a gte n false tag).1.sg = c.sg ∧ (c.semSigr a gte n false tag).1.sq = c.sq := by
  simp only [Chip.semSigr, hvalid, husable, Bool.not_true, Bool.false_and, Bool.or_self, Bool.false_eq_true, if_false,
    Chip.opDone_gt, Chip.opDone_sg, Chip.opDone_sq, and_self]

theorem Chip.semWait_answer {a sem n rank tag : Nat} {dir : Bool} (hsem : sem < semCount) (hfree : SMap.has c.sg.waits a = false)
    (hmode : (c.sem sem).ord = false) : (c.semWait a sem n dir false rank tag).2 = true := by
  simp only [Chip.semWait, if_neg (Nat.not_le.2 hsem), hfree, hmode, bne_self_eq_false, Bool.false_and, Bool.or_self,
    Bool.false_eq_true, if_false]

theorem SMap.has_insert_self {α : Type} (l : SMap α) (k : Nat) (v : α) : SMap.has (SMap.insert l k v) k = true := by
  rw [SMap.has_insert, decide_eq_true rfl, Bool.true_or]

/-- A wait put into the list is one more of those that satisfy what it satisfies. -/
theorem SMap.length_filter_insert {α : Type} {p : Nat × α → Bool} (l : SMap α) {k : Nat} {v : α} (hnew : SMap.has l k = false)
    (hp : p (k, v) = true) : (List.filter p (SMap.insert l k v)).length = (List.filter p l).length + 1 := by
  induction l with
  | nil => rw [SMap.insert, List.filter_cons_of_pos hp, List.length_cons]
  | cons e r ih =>
    obtain ⟨j, x⟩ := e
    rw [SMap.has] at hnew
    split at hnew
    · cases hnew
    · rename_i hne
      rw [SMap.insert, if_neg hne]
      split
      · rw [List.filter_cons_of_pos hp, List.length_cons]
      · by_cases hx : p (j, x) = true
        · rw [List.filter_cons_of_pos hx, List.filter_cons_of_pos hx, List.length_cons, List.length_cons, ih hnew]
        · rw [List.filter_cons_of_neg hx, List.filter_cons_of_neg hx, ih hnew]

/-! ### Fences -/

theorem Chip.fenceAsk_th (t tag u : Nat) : (c.fenceAsk t tag).th u = c.th u := rfl

/-- The part once the fabric's answer under a tag is taken (R217). -/
def Chip.answered (c : Chip) (g : Nat) : Chip := { c with sq := { c.sq with fences := (takeFence g c.sq.fences).2 } }

theorem exec_fenceDone_awaited {g : Fin 16} {j : Nat} (hdie : s.chip.id.hub = false) (hrst : s.chip.inReset = false)
    (hask : (takeFence g.val s.chip.sq.fences).1 = some (some j)) (hmode : (s.chip.th j).mode = .waitN) :
    exec (.fenceDone g) s = .next { s with chip := (s.chip.fresh.answered g.val).toRun j } := by
  have hask' : (takeFence g.val s.chip.newCycle.sq.fences).1 = some (some j) := hask
  have hmode' : ((s.chip.newCycle.answered g.val).th j).mode = .waitN := hmode
  show execFenceDone g s = _
  rw [execFenceDone, State.runDie_eq hdie hrst]
  simp only [hask']
  exact congrArg (fun d => Host.Outcome.next { s with chip := d }) (if_pos (beq_iff_eq.2 hmode'))

/-- An answer whose thread waits no longer wakes none (R373). -/
theorem exec_fenceDone_unawaited {g : Fin 16} (hdie : s.chip.id.hub = false) (hrst : s.chip.inReset = false)
    (hask : ∀ j, (takeFence g.val s.chip.sq.fences).1 = some (some j) → (s.chip.th j).mode ≠ .waitN) :
    exec (.fenceDone g) s = .next { s with chip := s.chip.fresh.answered g.val } := by
  show execFenceDone g s = _
  rw [execFenceDone, State.runDie_eq hdie hrst]
  refine congrArg (fun d => Host.Outcome.next { s with chip := d }) ?_
  dsimp only
  split
  · rename_i j hj
    exact if_neg fun h => hask j hj (beq_iff_eq.1 h)
  · rfl

/-- A stall is reported once (R217). -/
theorem exec_fenceStall_leaves (hdie : s.chip.id.hub = false) (hrst : s.chip.inReset = false) (hmode : (s.chip.th i.val).mode = .waitN) :
    ∃ d, exec (.fenceStall i) s = .next { s with chip := d } ∧ d.th i.val = { s.chip.th i.val with stalled := true } := by
  have hmode' : (s.chip.newCycle.th i.val).mode = .waitN := hmode
  have hexec : exec (.fenceStall i) s = _ := (congrFun rfl s : _ = execFenceStall i s).trans (State.runDie_eq hdie hrst _)
  cases hstalled : (s.chip.th i.val).stalled with
  | false =>
    have hstalled' : (s.chip.newCycle.th i.val).stalled = false := hstalled
    simp only [hmode', hstalled', beq_self_eq_true, Bool.not_false, Bool.and_self, if_true] at hexec
    refine ⟨_, hexec, ?_⟩
    rw [Chip.th_modTh, Chip.report_th]
    rfl
  | true =>
    have hstalled' : (s.chip.newCycle.th i.val).stalled = true := hstalled
    simp only [hmode', hstalled', beq_self_eq_true, Bool.not_true, Bool.and_false, Bool.false_eq_true, if_false] at hexec
    refine ⟨_, hexec, ?_⟩
    rw [← hstalled]
    rfl

/-! ### Snapshots of a thread -/

@[simp] theorem Chip.count_pins (n : Nat) (j : Option Nat) (k : Nat) : (c.count n j k).mn.pins = c.mn.pins := by
  unfold Chip.count
  split <;> rfl

@[simp] theorem State.atIssue_pins (s : State) (i : Thread) : (s.atIssue i).mn.pins = s.chip.mn.pins := Chip.count_pins _ _ _ _
@[simp] theorem State.atIssue_still (s : State) (i : Thread) : (s.atIssue i).mn.still = s.chip.mn.still := Chip.still_count _ _ _ _

theorem exec_snap (h : s.Issues i 0x38) (hat : (Iw.fl (s.chip.fetch i.val)).testBit 0 = false) :
    exec (.snap i) s = .next { s with chip := (s.atIssue i).snapNow.nextPc i.val } := by
  have hissue := h.runDie_issue fun c _ => c.snapNow.nextPc i.val
  have hat' : (Iw.fl (s.chip.newCycle.fetch i.val)).testBit 0 = false := hat
  rw [State.runDie_eq h.die h.running] at hissue
  show execSnap i s = _
  rw [execSnap, State.runDie_eq h.die h.running]
  simp only [hat', Bool.false_eq_true, if_false]
  exact hissue

theorem exec_snapAt (h : s.Issues i 0x38) (hat : (Iw.fl (s.chip.fetch i.val)).testBit 0 = true) :
    exec (.snapAt i) s = .next { s with chip := ((s.atIssue i).snapArm (s.chip.th i.val).cursor).nextPc i.val } := by
  have hissue := h.runDie_issue fun c _ => (c.snapArm (c.th i.val).cursor).nextPc i.val
  have hat' : (Iw.fl (s.chip.newCycle.fetch i.val)).testBit 0 = true := hat
  rw [State.runDie_eq h.die h.running] at hissue
  show execSnapAt i s = _
  rw [execSnapAt, State.runDie_eq h.die h.running]
  simp only [hat', Bool.not_true, Bool.false_eq_true, if_false]
  rw [hissue, State.atIssue_th]
  rfl

theorem Chip.snapTake_sq : c.snapTake.sq = c.sq := by
  unfold Chip.snapTake
  exact (Chip.note_sq _ _ _).trans (foldl_keeps Chip.sq _ _ _ fun _ _ => rfl)

theorem Chip.snapNow_sq : c.snapNow.sq = c.sq := by
  unfold Chip.snapNow
  split
  · split
    · exact Chip.snapTake_sq _
    · exact Chip.snapTake_sq _
  · exact Chip.snapTake_sq _

theorem Chip.snapArm_leaves (t : Nat) : (c.snapArm t).mn.armed = some t ∧ (c.snapArm t).mn.snap = c.mn.snap ∧ (c.snapArm t).sq = c.sq := by
  unfold Chip.snapArm
  split
  · exact ⟨rfl, (congrArg MnState.snap (c.still_report Event.MN_SNAP_REPL {}) :), Chip.report_sq _ _ _⟩
  · exact ⟨rfl, rfl, rfl⟩

/-! ### MARK -/

theorem Chip.mark_leaves {t : Nat} {r : RawRec} (hroom : c.ev.queue.length < 64) :
    ((c.note Event.SQ_MARK (some t)).enqueueRec r).ev.queue = c.ev.queue ++ [r]
      ∧ ((c.note Event.SQ_MARK (some t)).enqueueRec r).sq = c.sq := by
  have hroom' : (c.note Event.SQ_MARK (some t)).ev.queue.length < 64 := by rwa [Chip.note_ev]
  rw [Chip.enqueueRec, if_pos hroom']
  exact ⟨congrArg (fun e : EvState => e.queue ++ [r]) (Chip.note_ev _ _ _), Chip.note_sq _ _ _⟩

/-- Settles O53: an operation of a thread is one of its semaphores and then one of its program counter. -/
theorem sequencerSignals : Obligations.SequencerSignals := by
  unfold Obligations.SequencerSignals
  refine ⟨?sig, ?overflow, ?evtNobody, ?evt, ?sigr, ?waits, ?fence, ?done, ?other, ?stall, ?snap, ?snapAt, ?mark, ?markBad⟩
  case sig =>
    intro s i hdie hrst hpaused hpick hop hgood hevt hdir hsem hfit
    have hfit' : ((s.atIssue i).sem (Iw.a (s.chip.fetch i.val))).count + oneIfZero (Iw.b (s.chip.fetch i.val) % 65536) ≤ 65535 := by
      rwa [Chip.sem_of_sg (s.atIssue_sg i)]
    have hexec := exec_sig ⟨hdie, hrst, hpaused, hpick, hop, hgood⟩ hevt hsem
    have hleaves := (s.atIssue i).semSignal_leaves (who := .agent (1024 + i.val))
      (tag := (Iw.b (s.chip.fetch i.val) >>> 16) % 256) hsem hfit'
    have hth := Chip.semSignal_th (s.atIssue i) (who := .agent (1024 + i.val))
      (tag := (Iw.b (s.chip.fetch i.val) >>> 16) % 256) hsem hfit' i.val
    have hanswer := congrArg Prod.snd ((s.atIssue i).semSignal_taken (who := .agent (1024 + i.val))
      (tag := (Iw.b (s.chip.fetch i.val) >>> 16) % 256) hsem hfit')
    rw [hdir, threadOp_taken hanswer] at hexec
    generalize ((s.atIssue i).semSignal _ _ _ _ _).1 = d at hexec hleaves hth
    obtain ⟨hcount, -, hwaits, -⟩ := hleaves
    rw [Chip.sem_of_sg (s.atIssue_sg i)] at hcount
    refine ⟨_, hexec, rfl, hcount, ?_, ?_, hwaits.trans (congrArg SgState.waits (s.atIssue_sg i))⟩
    · show ((d.nextPc i.val).th i.val).pc = _
      rw [Chip.nextPc_th, hth, State.atIssue_th]
      rfl
    · show ((d.nextPc i.val).th i.val).mode = _
      rw [Chip.nextPc_th, hth, State.atIssue_th]
      rfl
  case overflow =>
    intro s i hdie hrst hpaused hpick hop hgood hevt hdir hsem hover
    have hover' : 65535 < ((s.atIssue i).sem (Iw.a (s.chip.fetch i.val))).count + oneIfZero (Iw.b (s.chip.fetch i.val) % 65536) := by
      rwa [Chip.sem_of_sg (s.atIssue_sg i)]
    have hexec := exec_sig ⟨hdie, hrst, hpaused, hpick, hop, hgood⟩ hevt hsem
    rw [hdir, Chip.semSignal_overflow _ hsem hover', threadOp_refused rfl] at hexec
    refine ⟨_, hexec, rfl, (Chip.semFault_sg _ _ _ _).trans (s.atIssue_sg i), ?_⟩
    show (Chip.thStop _ i.val 6).th i.val = _
    rw [Chip.thStop, Chip.th_modTh, Chip.semFault, Chip.report_th, State.atIssue_th]
  case evtNobody =>
    intro s i hdie hrst hpaused hpick hop hgood hevt hsem hnone
    have hnone' : (s.atIssue i).waitersOf (Iw.a (s.chip.fetch i.val)) = [] := by
      rwa [Chip.waitersOf, State.atIssue_sg]
    have hexec := exec_sigEvt ⟨hdie, hrst, hpaused, hpick, hop, hgood⟩ hevt hsem
    rw [Chip.semSetevent_nobody _ hsem hnone'] at hexec
    have hsg : ((s.atIssue i).opDone.semAct (Iw.a (s.chip.fetch i.val))).sg = s.chip.sg := by simp
    have hsq := (Chip.semAct_sq (s.atIssue i).opDone (Iw.a (s.chip.fetch i.val))).trans (Chip.opDone_sq _)
    generalize (s.atIssue i).opDone.semAct _ = d at hexec hsg hsq
    refine ⟨_, hexec, rfl, congrArg SgState.waits hsg, congrArg SgState.sems hsg, ?_⟩
    show ((d.nextPc i.val).th i.val).pc = _
    rw [Chip.nextPc_th, Chip.th_eq_of_sq hsq, State.atIssue_th]
    rfl
  case evt =>
    intro s i hdie hrst hpaused hpick hop hgood hevt hsem
    have hexec := exec_sigEvt ⟨hdie, hrst, hpaused, hpick, hop, hgood⟩ hevt hsem
    obtain ⟨hnone, hsems, -⟩ := (s.atIssue i).semSetevent_leaves (who := .agent (1024 + i.val)) hsem
    rw [State.atIssue_sg] at hsems
    exact ⟨_, hexec, rfl, hnone, hsems⟩
  case sigr =>
    intro s i hdie hrst hpaused hpick hop hgood hvalid husable hdir
    have hissue : exec (.sigr i) s = _ := State.Issues.runDie_issue ⟨hdie, hrst, hpaused, hpick, hop, hgood⟩ _
    obtain ⟨hanswer, hstaged, hsg, hsq⟩ := (s.atIssue i).semSigr_leaves (a := 1024 + i.val) (gte := Iw.a (s.chip.fetch i.val))
      (n := oneIfZero (Iw.b (s.chip.fetch i.val) % 65536)) (tag := (Iw.b (s.chip.fetch i.val) >>> 16) % 256)
      (by simpa [Chip.gteDst] using hvalid) (by simpa [Chip.gteSem] using husable)
    rw [hdir, threadOp_taken hanswer] at hissue
    generalize ((s.atIssue i).semSigr _ _ _ _ _).1 = d at hissue hstaged hsg hsq
    refine ⟨_, hissue, rfl, hstaged.trans ?_, ?_, hsg.trans (s.atIssue_sg i)⟩
    · simp [Chip.gteSem, Chip.gteDst, Chip.gteChan]
    · show ((d.nextPc i.val).th i.val).pc = _
      rw [Chip.nextPc_th, Chip.th_eq_of_sq hsq, State.atIssue_th]
      rfl
  case waits =>
    intro s i hdie hrst hpaused hpick hop hgood hdir hord hsem hfree hmode
    have hissue : exec (.waits i) s = _ := State.Issues.runDie_issue ⟨hdie, hrst, hpaused, hpick, hop, hgood⟩ _
    have hfree' : SMap.has (s.atIssue i).sg.waits (1024 + i.val) = false := by rwa [State.atIssue_sg]
    have hmode' : ((s.atIssue i).sem (Iw.a (s.chip.fetch i.val))).ord = false := by rwa [Chip.sem_of_sg (s.atIssue_sg i)]
    have hleaves := (s.atIssue i).semWait_taken (n := oneIfZero (Iw.b (s.chip.fetch i.val) % 65536))
      (rank := (Iw.b (s.chip.fetch i.val) >>> 24) % 256) (tag := (Iw.b (s.chip.fetch i.val) >>> 16) % 256) (dir := false)
      hsem hfree' hmode' (fun h => nomatch h)
    rw [if_neg (Nat.not_le.2 hsem), hdir, hord, threadOp_taken ((s.atIssue i).semWait_answer hsem hfree' hmode')] at hissue
    generalize ((s.atIssue i).semWait _ _ _ _ _ _ _).1 = d at hissue hleaves
    obtain ⟨hsg, hsq⟩ := hleaves
    rw [State.atIssue_sg] at hsg
    have hth : ((d.nextPc i.val).modTh i.val fun x => { x with mode := .waitS }).th i.val =
        { (s.chip.th i.val).hasIssued s.chip.tk.frc with pc := pcNext (s.chip.th i.val).pc, mode := .waitS } := by
      rw [Chip.th_modTh, Chip.nextPc_th, Chip.th_eq_of_sq hsq, State.atIssue_th]
      rfl
    refine ⟨_, hissue, rfl, congrArg ThreadState.mode hth, congrArg ThreadState.pc hth, ?_, ?_, (congrArg SgState.sems hsg :)⟩
    · exact (congrArg (fun g : SgState => SMap.has g.waits (1024 + i.val)) hsg :).trans (SMap.has_insert_self _ _ _)
    · refine (congrArg (fun g : SgState => (List.filter (fun e : Nat × WaitState => e.2.sem == Iw.a (s.chip.fetch i.val)) g.waits).length) hsg :).trans ?_
      exact SMap.length_filter_insert (p := fun e : Nat × WaitState => e.2.sem == Iw.a (s.chip.fetch i.val)) _ hfree (beq_self_eq_true _)
  case fence =>
    intro s i hdie hrst hpaused hpick hop hgood
    have hissue : exec (.fence i) s = _ := State.Issues.runDie_issue ⟨hdie, hrst, hpaused, hpick, hop, hgood⟩ _
    refine ⟨_, hissue, rfl, ?_, ?_⟩
    · show (Chip.modTh _ i.val _).th i.val = _
      rw [Chip.th_modTh]
      rw [Chip.fenceAsk_th, Chip.nextPc_th, State.atIssue_th]
      rfl
    · show ((s.atIssue i).sq.fences.map _) ++ [(some i.val, (((s.atIssue i).th i.val).course + 16 - _ % 4) % 16)] = _
      rw [State.atIssue_fences, State.atIssue_th]
      rfl
  case done =>
    intro s i g l hdie hrst hmode htake
    refine ⟨_, exec_fenceDone_awaited hdie hrst (congrArg Prod.fst htake) hmode, rfl, ?_, ?_, (congrArg Prod.snd htake :)⟩
    · show (((s.chip.fresh.answered g.val).toRun i.val).th i.val).mode = _
      rw [Chip.toRun_th]
      rfl
    · show (((s.chip.fresh.answered g.val).toRun i.val).th i.val).pc = _
      rw [Chip.toRun_th]
      rfl
  case other =>
    intro s j g l hdie hrst hcase
    refine ⟨_, exec_fenceDone_unawaited hdie hrst fun k hk => ?_, rfl, rfl, rfl⟩
    rcases hcase with h | h | ⟨h, hmode⟩
    · rw [h] at hk
      cases hk
    · rw [h] at hk
      cases hk
    · rw [h] at hk
      cases hk
      exact hmode
  case stall =>
    intro s i hdie hrst hmode
    obtain ⟨d, hexec, hth⟩ := exec_fenceStall_leaves hdie hrst hmode
    exact ⟨_, hexec, rfl, hth⟩
  case snap =>
    intro s i hdie hrst hpaused hpick hop hgood hat
    obtain ⟨-, hpins, hseq, htime⟩ := (s.atIssue i).snapNow_mn
    have hsq := (s.atIssue i).snapNow_sq
    have hexec := exec_snap ⟨hdie, hrst, hpaused, hpick, hop, hgood⟩ hat
    generalize (s.atIssue i).snapNow = d at hexec hpins hseq htime hsq
    refine ⟨_, hexec, rfl, hseq.trans ?_, htime.trans ?_, hpins.trans (s.atIssue_pins i), ?_⟩
    · exact (congrArg (fun x : MnState => (x.snapSeq + 1) % 2 ^ 32) (s.atIssue_still i) :)
    · rw [Chip.cycleTime, State.atIssue_tk, Chip.cycleTime]
    · show ((d.nextPc i.val).th i.val).pc = _
      rw [Chip.nextPc_th, Chip.th_eq_of_sq hsq, State.atIssue_th]
      rfl
  case snapAt =>
    intro s i hdie hrst hpaused hpick hop hgood hat
    obtain ⟨harmed, hsnap, hsq⟩ := (s.atIssue i).snapArm_leaves (s.chip.th i.val).cursor
    have hexec := exec_snapAt ⟨hdie, hrst, hpaused, hpick, hop, hgood⟩ hat
    generalize (s.atIssue i).snapArm _ = d at hexec harmed hsnap hsq
    refine ⟨_, hexec, rfl, harmed, ?_, hsnap.trans (congrArg MnState.snap (s.atIssue_still i) :)⟩
    show ((d.nextPc i.val).th i.val).pc = _
    rw [Chip.nextPc_th, Chip.th_eq_of_sq hsq, State.atIssue_th]
    rfl
  case mark =>
    intro s i hdie hrst hpaused hpick hop hgood hcode hroom
    have hissue : exec (.mark i) s = _ := State.Issues.runDie_issue ⟨hdie, hrst, hpaused, hpick, hop, hgood⟩ _
    dsimp only at hissue
    rw [if_neg (Nat.not_lt.2 hcode), State.atIssue_th] at hissue
    obtain ⟨hqueue, hsq⟩ := (s.atIssue i).mark_leaves (t := i.val)
      (r := { code := 0x1000 + Iw.a (s.chip.fetch i.val), src := i.val, sev := Iw.fl (s.chip.fetch i.val) % 4, late := false
              p1 := BitVec.ofNat 32 i.val ||| Word.place (s.chip.th i.val).pc 16
              p2 := BitVec.ofNat 32 (s.chip.th i.val).course, p3 := BitVec.ofNat 32 (Iw.b (s.chip.fetch i.val)) })
      (by rwa [State.atIssue_ev])
    rw [State.atIssue_ev] at hqueue
    refine ⟨_, hissue, rfl, hqueue, ?_⟩
    refine (congrArg ThreadState.pc (Chip.nextPc_th _ i.val) :).trans ?_
    exact (congrArg (fun x : ThreadState => pcNext x.pc) ((Chip.th_eq_of_sq hsq i.val).trans (s.atIssue_th i)) :)
  case markBad =>
    intro s i hdie hrst hpaused hpick hop hgood hcode
    have hissue : exec (.mark i) s = _ := State.Issues.runDie_issue ⟨hdie, hrst, hpaused, hpick, hop, hgood⟩ _
    dsimp only at hissue
    rw [if_pos hcode] at hissue
    refine ⟨_, hissue, rfl, ?_⟩
    show ((s.atIssue i).badOpnd i.val).th i.val = _
    rw [Chip.badOpnd, Chip.thFault_th, State.atIssue_th]

end Sys2Proof.Machine
end

section
/-!
O52: ARM, CONTRIB, SYNC, the release that ends a wait, and SETB before the first release (R204, R210 to R214).
-/

namespace Sys2Proof.Machine

variable {s : State} {i : Thread} (c : Chip)

/-! ### The part at the issue -/

@[simp] theorem State.atIssue_tr (s : State) (i : Thread) : (s.atIssue i).tr = s.chip.tr := by
  rw [State.atIssue, Chip.issued, Chip.count]
  split <;> rfl

@[simp] theorem State.atIssue_mtLen (s : State) (i : Thread) (g : Nat) : (s.atIssue i).mtLen g = s.chip.mtLen g := by
  simp [Chip.mtLen]

@[simp] theorem State.atIssue_mtCfgs (s : State) (i : Thread) (g : Nat) : (s.atIssue i).mtCfgs g = s.chip.mtCfgs g := by
  simp [Chip.mtCfgs]

theorem State.Issues.chip_eq {op : Nat} (h : s.Issues i op) {ins : Instr} {f : Chip → BitVec 64 → Chip} {d : Chip}
    (hins : exec ins s = s.runDie fun c => c.issue i.val op f) (hf : f (s.atIssue i) (s.chip.fetch i.val) = d) :
    exec ins s = .next { s with chip := d } := by
  rw [hins, h.runDie_issue, hf]

/-! ### The sweep of the servo's state -/

theorem Chip.servoSweep_apartGroups : c.servoSweep.apartGroups = c.apartGroups := by
  unfold Chip.servoSweep
  split
  · rfl
  · exact c.detClearAll_apartGroups _

theorem Chip.servoSweep_th (t : Nat) : c.servoSweep.th t = c.th t :=
  (congrArg (fun d : Chip => d.th t) c.servoSweep_apartGroups :)

theorem Chip.servoSweep_mtCfgs (g : Nat) : c.servoSweep.mtCfgs g = c.mtCfgs g :=
  (congrArg (fun d : Chip => d.mtCfgs g) c.servoSweep_apartGroups :)

theorem Chip.servoSweep_tr : c.servoSweep.tr = c.tr := (congrArg Chip.tr c.servoSweep_apartGroups :)

/-- A course that loses its DET leaves the rest of its entry. -/
theorem Chip.ent_detClear (g n k : Nat) : { (c.detClear g n).ent k with detLost := [] } = { c.ent k with detLost := [] } := by
  unfold Chip.detClear
  by_cases hk : k = g
  · subst hk
    rw [Chip.ent_modEnt]
    split <;> rfl
  · rw [c.ent_modEnt_ne hk]

theorem Chip.servoSweep_ent (k : Nat) : { c.servoSweep.ent k with detLost := [] } = { c.ent k with detLost := [] } := by
  unfold Chip.servoSweep
  split
  · rfl
  · refine foldl_keeps (fun d : Chip => { d.ent k with detLost := [] }) _ _ c ?_
    intro x g
    refine foldl_keeps (fun d : Chip => { d.ent k with detLost := [] }) _ _ x ?_
    exact fun y n => y.ent_detClear g n k

/-! ### ARM -/

/-- The count of the course that a thread arms (R210). -/
def ThreadState.armed (x : ThreadState) (k : Nat) : ArmCount :=
  match x.armOf x.course with
  | some a => { a with k := k, synced := false }
  | none => { grp := x.grp, course := x.course, k := k, made := 0, synced := false }

/-- The counts that an ARM keeps beside its own (R210). -/
def ThreadState.armsKept (x : ThreadState) (l : List ArmCount) : List ArmCount :=
  l.filter fun a => a.grp != x.grp || (a.course != x.course && decide (x.course ≤ a.course + 4))

theorem ThreadState.armed_of (x : ThreadState) (k : Nat) :
    (x.armed k).grp = x.grp ∧ (x.armed k).course = x.course ∧ (x.armed k).k = k
      ∧ (x.armed k).made = ((x.armOf x.course).map fun a => a.made).getD 0 := by
  unfold ThreadState.armed
  cases harm : x.armOf x.course with
  | none => exact ⟨rfl, rfl, rfl, rfl⟩
  | some a =>
    have hof : (a.grp == x.grp && a.course == x.course) = true := by
      have hfound := List.find?_some harm
      exact hfound
    obtain ⟨hgrp, hcourse⟩ := Bool.and_eq_true_iff.1 hof
    exact ⟨beq_iff_eq.1 hgrp, beq_iff_eq.1 hcourse, rfl, rfl⟩

theorem ThreadState.find_armsKept_own (x : ThreadState) :
    (x.armsKept x.arms).find? (fun a => a.grp == x.grp && a.course == x.course) = none := by
  refine List.find?_eq_none.2 fun a ha hof => ?_
  have hkept := (List.mem_filter.1 ha).2
  simp_all

theorem ThreadState.find_armsKept_other (x : ThreadState) {n : Nat} (hne : n ≠ x.course) (hreach : x.course ≤ n + 4) :
    (x.armsKept x.arms).find? (fun a => a.grp == x.grp && a.course == n) = x.armOf n := by
  unfold ThreadState.armsKept ThreadState.armOf
  rw [List.find?_filter]
  refine congrArg (fun p => List.find? p x.arms) (funext fun a => ?_)
  by_cases hof : a.grp = x.grp ∧ a.course = n
  · obtain ⟨hgrp, hcourse⟩ := hof
    simp [hgrp, hcourse, hne, hreach]
  · have hof' : (a.grp == x.grp && a.course == n) = false := by simpa using hof
    simp only [hof', Bool.false_eq_true, and_false, decide_false]

theorem exec_arm (h : s.Issues i 0x20) (husable : s.chip.grpUsable i.val (s.chip.th i.val).course = true)
    (hmade : ∀ a, (s.chip.th i.val).armOf (s.chip.th i.val).course = some a → a.made ≤ Iw.a (s.chip.fetch i.val)) :
    exec (.arm i) s = .next { s with
      chip := ((s.atIssue i).nextPc i.val).modTh i.val fun y =>
        { y with arms := (s.chip.th i.val).armsKept y.arms ++ [(s.chip.th i.val).armed (Iw.a (s.chip.fetch i.val))] } } := by
  have husable' : s.chip.grpUsable i.val ((s.chip.th i.val).hasIssued s.chip.tk.frc).course = true := husable
  refine h.chip_eq rfl ?_
  dsimp only
  rw [State.atIssue_grpUsable, State.atIssue_th, husable']
  refine (if_neg Bool.false_ne_true).trans ((if_neg ?_).trans ?_)
  · show ¬ (match (s.chip.th i.val).armOf (s.chip.th i.val).course with
      | some a => decide (Iw.a (s.chip.fetch i.val) < a.made)
      | none => false) = true
    split
    · rename_i a ha
      exact fun hless => absurd (of_decide_eq_true hless) (Nat.not_lt.2 (hmade a ha))
    · exact Bool.false_ne_true
  · rfl

theorem exec_arm_short (h : s.Issues i 0x20) (husable : s.chip.grpUsable i.val (s.chip.th i.val).course = true) {a : ArmCount}
    (harm : (s.chip.th i.val).armOf (s.chip.th i.val).course = some a) (hless : Iw.a (s.chip.fetch i.val) < a.made) :
    exec (.arm i) s = .next { s with chip := (s.atIssue i).badOpnd i.val } := by
  have husable' : s.chip.grpUsable i.val ((s.chip.th i.val).hasIssued s.chip.tk.frc).course = true := husable
  refine h.chip_eq rfl ?_
  dsimp only
  rw [State.atIssue_grpUsable, State.atIssue_th, husable']
  refine (if_neg Bool.false_ne_true).trans (if_pos ?_)
  show (match (s.chip.th i.val).armOf (s.chip.th i.val).course with
    | some a => decide (Iw.a (s.chip.fetch i.val) < a.made)
    | none => false) = true
  rw [harm]
  exact decide_eq_true hless

/-! ### CONTRIB -/

section Contrib

/-- The course of a contribution, and the lane it names. -/
def State.contribCourse (s : State) (i : Thread) : Nat := (s.chip.th i.val).course - Iw.fl (s.chip.fetch i.val) % 4

def State.contribLane (s : State) (i : Thread) : Nat := (Iw.a (s.chip.fetch i.val) >>> 8) % 8

theorem exec_contrib_noGroup (h : s.Issues i 0x21) (husable : s.chip.grpUsable i.val (s.contribCourse i) = false) :
    exec (.contrib i) s = .next { s with chip := (s.atIssue i).noGroup i.val } := by
  have husable' : s.chip.grpUsable i.val (((s.chip.th i.val).hasIssued s.chip.tk.frc).course - Iw.fl (s.chip.fetch i.val) % 4) = false := husable
  refine h.chip_eq rfl ?_
  dsimp only
  rw [State.atIssue_grpUsable, State.atIssue_th, husable']
  exact if_pos rfl

theorem exec_contrib_noLane (h : s.Issues i 0x21) (husable : s.chip.grpUsable i.val (s.contribCourse i) = true)
    (hlane : s.chip.mtLen (s.chip.th i.val).grp ≤ s.contribLane i) :
    exec (.contrib i) s = .next { s with chip := (s.atIssue i).badOpnd i.val } := by
  have husable' : s.chip.grpUsable i.val (((s.chip.th i.val).hasIssued s.chip.tk.frc).course - Iw.fl (s.chip.fetch i.val) % 4) = true := husable
  refine h.chip_eq rfl ?_
  dsimp only
  rw [State.atIssue_grpUsable, State.atIssue_th, State.atIssue_mtLen, husable']
  exact (if_neg Bool.false_ne_true).trans (if_pos hlane)

/-- A contribution that counts, joined to its lane. -/
def State.contributed (s : State) (i : Thread) : Chip :=
  (((s.atIssue i).servoSweep.modTh i.val fun y =>
      { y with
        arms := y.arms.map fun a =>
          if a.grp == (s.chip.th i.val).grp && a.course == s.contribCourse i then { a with made := a.made + 1 } else a }).contribute
    (s.chip.th i.val).grp (s.contribCourse i) (s.contribLane i) (s.chip.mbox i.val (Iw.a (s.chip.fetch i.val) % 64))).nextPc i.val

theorem exec_contrib (h : s.Issues i 0x21) (hlane : s.contribLane i < s.chip.mtLen (s.chip.th i.val).grp)
    (husable : s.chip.grpUsable i.val (s.contribCourse i) = true)
    (hback : Iw.fl (s.chip.fetch i.val) % 4 < (s.chip.ent (s.chip.th i.val).grp).depth)
    (hn0 : (s.chip.th i.val).n0 + Iw.fl (s.chip.fetch i.val) % 4 ≤ (s.chip.th i.val).course)
    (hadm : (s.chip.ent (s.chip.th i.val).grp).admitted = false)
    (hdrop : (s.chip.ent (s.chip.th i.val).grp).dropped.contains (s.contribCourse i) = false)
    (hout : (s.chip.th i.val).outstanding (s.contribCourse i) ≠ 0)
    (hclosed : (s.chip.ent (s.chip.th i.val).grp).closedTo (s.contribCourse i) = false) :
    exec (.contrib i) s = .next { s with chip := s.contributed i } := by
  have husable' : s.chip.grpUsable i.val (((s.chip.th i.val).hasIssued s.chip.tk.frc).course - Iw.fl (s.chip.fetch i.val) % 4) = true := husable
  have hgo : (decide ((s.chip.ent (s.chip.th i.val).grp).depth ≤ Iw.fl (s.chip.fetch i.val) % 4)
      || ((s.chip.ent (s.chip.th i.val).grp).admitted
        && decide (s.contribCourse i < (s.chip.ent (s.chip.th i.val).grp).admCourse))) = false := by
    rw [decide_eq_false (Nat.not_le.2 hback), hadm]
    rfl
  refine h.chip_eq rfl ?_
  dsimp only
  rw [State.atIssue_grpUsable, State.atIssue_th, State.atIssue_mtLen, State.atIssue_ent, husable']
  refine (if_neg Bool.false_ne_true).trans ((if_neg (Nat.not_le.2 hlane)).trans ((if_neg (Bool.eq_false_iff.1 hgo)).trans
    ((if_neg (Nat.not_lt.2 hn0)).trans ((if_neg (Bool.eq_false_iff.1 hdrop)).trans ((if_neg hout).trans
      ((if_neg (Bool.eq_false_iff.1 hclosed)).trans ?_))))))
  rw [Chip.mbox, Chip.th_modTh, Chip.servoSweep_th, State.atIssue_th]
  rfl

/-- A contribution to a lane that is there: joined to it, and the threads are left (R211, R231). -/
theorem Chip.contribute_leaves {g course k w : Nat} {l : LaneCfg} (hlane : (c.mtCfgs g)[k]? = some l) :
    SMap.find ((c.contribute g course k w).ent g).lanes course [] =
        (SMap.find (c.ent g).lanes course ((c.mtCfgs g).map laneIdentity)).set k
          (l.merge ((SMap.find (c.ent g).lanes course ((c.mtCfgs g).map laneIdentity)).getD k (laneIdentity l))
            (l.contribute w (c.tr.addr.getD 0)).1)
      ∧ (c.contribute g course k w).sq = c.sq := by
  unfold Chip.contribute
  simp only [hlane]
  split
  · refine ⟨?_, Chip.note_sq _ _ _⟩
    rw [Chip.ent_of_gr ((Chip.note_gr _ _ _).trans (Chip.bump_gr _ _ _ _ _)), Chip.ent_modEnt]
    exact SMap.find_insert_self ..
  · rw [Chip.ent_modEnt]
    exact ⟨SMap.find_insert_self .., rfl⟩

end Contrib

/-! ### A release taken -/

/-- What a thread is once it has taken a release (R213). -/
structure ThreadState.Took (x y : ThreadState) (r : Release) : Prop where
  mode : y.mode = .run
  course : y.course = (r.course + 1) % 2 ^ 32
  pc : y.pc = pcNext x.pc
  rdet : y.rdet = r.det
  lastRel : y.lastRel = some r.trel
  base : y.base = if x.noBase = true then x.base else r.trel
  cursor : y.cursor = if x.noBase = true then x.cursor else r.trel

theorem Chip.takeRelease_took (t : Nat) (r : Release) : (c.th t).Took ((c.takeRelease t r).th t) r := by
  unfold Chip.takeRelease
  extract_lets x d missed valid taken ran
  have hran : x.Took (ran.th t) r := by
    simp only [ran, taken, Chip.toRun_th, Chip.th_modTh]
    exact ⟨rfl, rfl, rfl, rfl, rfl, rfl, rfl⟩
  split
  · exact hran
  · show (c.th t).Took ((ran.report Event.SQ_SYNC_SKIP _).th t) r
    rw [Chip.report_th]
    exact hran

theorem Chip.takeRelease_th_ne {t u : Nat} (h : u ≠ t) (r : Release) : (c.takeRelease t r).th u = c.th u := by
  unfold Chip.takeRelease
  extract_lets x d missed valid taken ran
  have hran : ran.th u = c.th u := (Chip.toRun_th_ne _ h).trans (Chip.th_modTh_ne _ h _)
  split
  · exact hran
  · show (ran.report Event.SQ_SYNC_SKIP _).th u = _
    rw [Chip.report_th]
    exact hran

/-- Of the threads that take a release together each takes it once. -/
theorem Chip.takeAll_took {l : List Nat} (hl : l.Nodup) {t : Nat} (ht : t ∈ l) (r : Release) :
    (c.th t).Took ((l.foldl (fun c t => c.takeRelease t r) c).th t) r := by
  have hother : ∀ (l : List Nat) (d : Chip), t ∉ l → (l.foldl (fun c t => c.takeRelease t r) d).th t = d.th t := by
    intro l
    induction l with
    | nil => exact fun d _ => rfl
    | cons u l ih =>
      intro d hu
      obtain ⟨hne, hrest⟩ := not_or.1 (List.mem_cons.not.1 hu)
      exact (ih _ hrest).trans (d.takeRelease_th_ne hne r)
  induction l generalizing c with
  | nil => exact absurd ht List.not_mem_nil
  | cons u l ih =>
    obtain ⟨hu, hrest⟩ := List.nodup_cons.1 hl
    rw [List.foldl_cons]
    rcases List.mem_cons.1 ht with rfl | hin
    · rw [hother l _ hu]
      exact c.takeRelease_took t r
    · have hne : t ≠ u := fun h => hu (h ▸ hin)
      have htook := ih (c.takeRelease u r) hrest hin
      rwa [c.takeRelease_th_ne hne r] at htook

theorem Chip.releaseThreads_took {g t : Nat} {r : Release} (ht : t < 32) (hgrp : (c.th t).grp = g) (hmode : (c.th t).mode = .waitB)
    (hcourse : (c.th t).course ≤ r.course) : (c.th t).Took ((c.releaseThreads g r).th t) r := by
  refine c.takeAll_took (List.nodup_range.filter _) (List.mem_filter.2 ⟨List.mem_range.2 ht, ?_⟩) r
  rw [hgrp, hmode, decide_eq_true hcourse, beq_self_eq_true]
  rfl

/-! ### SYNC -/

/-- The thread that waits at its barrier, before it knows a release of it (R212). -/
def State.synced (s : State) (i : Thread) : Chip :=
  (s.atIssue i).servoSweep.modTh i.val fun y =>
    { y with
      mode := .waitB, synced := some (s.chip.th i.val).course, noBase := (Iw.fl (s.chip.fetch i.val)).testBit 0
      rload := (Iw.fl (s.chip.fetch i.val)).testBit 1
      arms := y.arms.map fun a =>
        if a.grp == (s.chip.th i.val).grp && a.course == (s.chip.th i.val).course then { a with synced := true } else a }

/-- The contributions that the barrier of a SYNC reduces are outstanding (R212). -/
def State.syncShort (s : State) (i : Thread) : Bool :=
  (s.chip.ent (s.chip.th i.val).grp).depth ≤ (s.chip.th i.val).course + 1
    && (s.chip.th i.val).outstanding ((s.chip.th i.val).course + 1 - (s.chip.ent (s.chip.th i.val).grp).depth) != 0

theorem State.syncShort_false (h : (s.chip.ent (s.chip.th i.val).grp).depth ≤ (s.chip.th i.val).course + 1 →
    (s.chip.th i.val).outstanding ((s.chip.th i.val).course + 1 - (s.chip.ent (s.chip.th i.val).grp).depth) = 0) :
    s.syncShort i = false := by
  unfold State.syncShort
  by_cases hdepth : (s.chip.ent (s.chip.th i.val).grp).depth ≤ (s.chip.th i.val).course + 1
  · rw [h hdepth, bne_self_eq_false, Bool.and_false]
  · rw [decide_eq_false hdepth, Bool.false_and]

theorem exec_sync_short (h : s.Issues i 0x22) (husable : s.chip.grpUsable i.val (s.chip.th i.val).course = true)
    (hshort : s.syncShort i = true) :
    exec (.sync i) s = .next { s with chip := (s.atIssue i).thFault i.val Event.SQ_CONTRIB_SHORT 3 } := by
  have husable' : s.chip.grpUsable i.val ((s.chip.th i.val).hasIssued s.chip.tk.frc).course = true := husable
  refine h.chip_eq rfl ?_
  dsimp only
  rw [State.atIssue_grpUsable, State.atIssue_th, State.atIssue_ent, husable']
  exact (if_neg Bool.false_ne_true).trans (if_pos hshort)

theorem exec_sync (h : s.Issues i 0x22) (husable : s.chip.grpUsable i.val (s.chip.th i.val).course = true)
    (hshort : s.syncShort i = false) :
    exec (.sync i) s = .next { s with
      chip := match (s.chip.ent (s.chip.th i.val).grp).latest with
        | some r => if (s.chip.th i.val).course ≤ r.course then (s.synced i).takeRelease i.val r else (s.synced i).syncMark i.val
        | none => (s.synced i).syncMark i.val } := by
  have husable' : s.chip.grpUsable i.val ((s.chip.th i.val).hasIssued s.chip.tk.frc).course = true := husable
  refine h.chip_eq rfl ?_
  dsimp only
  rw [State.atIssue_grpUsable, State.atIssue_th, State.atIssue_ent, husable']
  refine (if_neg Bool.false_ne_true).trans ((if_neg (Bool.eq_false_iff.1 hshort)).trans ?_)
  rfl

theorem State.synced_th (s : State) (i : Thread) :
    (s.synced i).th i.val = { (s.chip.th i.val).hasIssued s.chip.tk.frc with
      mode := .waitB, synced := some (s.chip.th i.val).course, noBase := (Iw.fl (s.chip.fetch i.val)).testBit 0
      rload := (Iw.fl (s.chip.fetch i.val)).testBit 1
      arms := (s.chip.th i.val).arms.map fun a =>
        if a.grp == (s.chip.th i.val).grp && a.course == (s.chip.th i.val).course then { a with synced := true } else a } := by
  rw [State.synced, Chip.th_modTh, Chip.servoSweep_th, State.atIssue_th]
  rfl

/-! ### A release delivered -/

/-- The changes of membership that an entry still owes (R282, R283). -/
def GrEntry.dues (e : GrEntry) : Bool × Bool := (e.admDue, e.expDue)

theorem GrEntry.dues_blind : GrEntry.Blind GrEntry.dues where
  dl _ _ := rfl
  detLost _ _ := rfl
  spread _ _ := rfl
  owed _ _ := rfl
  holds _ _ := rfl
  censusOk _ _ := rfl
  downSent _ _ := rfl
  upSent _ _ := rfl
  combined _ _ := rfl
  shortOpen _ _ := rfl
  dropped _ _ _ := rfl
  clean _ _ := rfl

theorem Chip.dropArrival_sq (g : Nat) (r : Release) : (c.dropArrival g r).sq = c.sq := by
  unfold Chip.dropArrival
  dsimp only
  split
  · rfl
  · refine (Chip.report_sq _ _ _).trans ?_
    show (if _ then _ else c).sq = c.sq
    split <;> rfl

theorem Chip.rollTaps_gr : c.rollTaps.gr = c.gr ∧ c.rollTaps.sq = c.sq := by
  unfold Chip.rollTaps
  dsimp only
  split
  · exact ⟨rfl, rfl⟩
  · exact ⟨rfl, rfl⟩

theorem Chip.reportBase_gr (g base : Nat) : (c.reportBase g base).gr = c.gr ∧ (c.reportBase g base).sq = c.sq := by
  unfold Chip.reportBase
  dsimp only
  split
  · exact c.rollTaps_gr
  · exact c.rollTaps_gr

theorem Chip.dieCensus_sq : c.dieCensus.sq = c.sq := by
  unfold Chip.dieCensus
  split
  · rfl
  · refine foldl_keeps Chip.sq _ _ c ?_
    intro x g
    dsimp only
    split
    · unfold Chip.censusSend
      dsimp only
      split
      · rfl
      · exact Chip.sendCells_sq _ _ _ _
    · rfl

/-- A release that owes no change of membership changes none (R282, R283). -/
theorem Chip.memberRelease_none {g : Nat} {r : Release} (h : c.view GrEntry.dues g = (false, false)) : c.memberRelease g r = c := by
  have hadm : (c.ent g).admDue = false := congrArg Prod.fst h
  have hexp : (c.ent g).expDue = false := congrArg Prod.snd h
  simp only [Chip.memberRelease, hadm, hexp, Bool.false_and, Bool.false_eq_true, if_false]

theorem Chip.releaseKept_leaves (g : Nat) (r : Release) : (c.releaseKept g r).sq = c.sq ∧ (c.releaseKept g r).view GrEntry.dues g = c.view GrEntry.dues g := by
  obtain ⟨hgr, hsq⟩ := (c.dropArrival g r).reportBase_gr g r.trel
  exact ⟨hsq.trans (c.dropArrival_sq g r),
    (Chip.view_modEnt _ g g rfl).trans ((Chip.view_of_gr hgr _ g).trans (c.view_dropArrival g GrEntry.dues_blind g r))⟩

theorem Chip.deliver_took {g t : Nat} {r : Release} (ht : t < 32) (hdues : c.view GrEntry.dues g = (false, false)) (hgrp : (c.th t).grp = g)
    (hmode : (c.th t).mode = .waitB) (hcourse : (c.th t).course ≤ r.course) : (c.th t).Took ((c.deliver g r).th t) r := by
  obtain ⟨slack, hdeliver⟩ := c.deliver_eq g r
  obtain ⟨hksq, hkdues⟩ := c.releaseKept_leaves g r
  obtain ⟨hsq, hgr⟩ := (c.releaseKept g r).releaseBooked_leaves g r slack
  rw [hdeliver]
  generalize (c.releaseKept g r).releaseBooked g r slack = late at hsq hgr
  have hth : late.th t = c.th t := Chip.th_eq_of_sq (hsq.trans hksq) t
  have hdall : (late.releaseThreads g r).view GrEntry.dues g = (false, false) :=
    (late.view_releaseThreads g GrEntry.dues_blind g r).trans ((Chip.view_of_gr hgr _ g).trans (hkdues.trans hdues))
  rw [Chip.memberRelease_none _ hdall, Chip.th_eq_of_sq (Chip.dieCensus_sq _), ← hth]
  exact late.releaseThreads_took ht (by rw [hth, hgrp]) (by rw [hth, hmode]) (by rwa [hth])

theorem Chip.latest_of_turn {c : Chip} {g : Nat} {v : Option Release × Option Nat × Option Nat × Bool} (h : c.view GrEntry.turn g = v) :
    (c.ent g).latest = v.1 := congrArg Prod.fst h

theorem exec_releaseDeliver_first {p : Port} {x : Cell} {g : Nat} {l : List Cell} (hdie : s.chip.id.hub = false)
    (hrst : s.chip.inReset = false) (hp : p.val < 2) (hhead : s.chip.headB p.val 0x21 = some x) (hmeet : s.chip.meet x = .inl g)
    (hmsg : s.chip.messageB p.val 0x21 x.group (if s.chip.mtTwo g then 2 else 1) = some l) (hnone : (s.chip.ent g).latest = none) :
    exec (.releaseDeliver p) s = .next { s with
      chip := (s.chip.fresh.popRx p.val clsB (if s.chip.mtTwo g then 2 else 1)).deliver g (releaseRead l) } := by
  have hhead' : s.chip.newCycle.headB p.val 0x21 = some x := hhead
  have hmeet' : s.chip.newCycle.meet x = .inl g := hmeet
  have hmsg' : s.chip.newCycle.messageB p.val 0x21 x.group (if s.chip.newCycle.mtTwo g then 2 else 1) = some l := hmsg
  have hnone' : ((s.chip.newCycle.popRx p.val clsB (if s.chip.newCycle.mtTwo g then 2 else 1)).ent g).latest = none :=
    hnone
  show execReleaseDeliver p s = _
  rw [execReleaseDeliver, State.runDiePort_eq hdie hp hrst]
  simp only [Chip.releaseAt, hhead', hmeet', hmsg', hnone', Bool.false_eq_true, if_false]
  rfl

/-- Settles O52: each instruction by the thread and the entry it leaves, and a release by the threads that take it. -/
theorem sequencerBarriers : Obligations.SequencerBarriers := by
  unfold Obligations.SequencerBarriers
  refine ⟨?arm, ?armShort, ?contrib, ?noLane, ?noGroup, ?sync, ?syncKnown, ?syncShort, ?release, ?rel, ?cad⟩
  case arm =>
    intro s i hdie hrst hpaused hpick hop hgood husable hmade
    have hexec := exec_arm ⟨hdie, hrst, hpaused, hpick, hop, hgood⟩ husable fun a ha => by
      rw [ha] at hmade
      exact hmade
    obtain ⟨hgrp, hcourse, hk, hcount⟩ := (s.chip.th i.val).armed_of (Iw.a (s.chip.fetch i.val))
    generalize (s.chip.th i.val).armed _ = own at hexec hgrp hcourse hk hcount
    have hth : (((s.atIssue i).nextPc i.val).modTh i.val fun y =>
        { y with arms := (s.chip.th i.val).armsKept y.arms ++ [own] }).th i.val =
        { (s.chip.th i.val).hasIssued s.chip.tk.frc with
          pc := pcNext (s.chip.th i.val).pc, arms := (s.chip.th i.val).armsKept (s.chip.th i.val).arms ++ [own] } := by
      rw [Chip.th_modTh, Chip.nextPc_th, State.atIssue_th]
      rfl
    refine ⟨_, hexec, rfl, ?_, fun n hn hreach => ?_, (congrArg ThreadState.pc hth :), (congrArg ThreadState.mode hth :), fun j hj => ?_,
      s.atIssue_gr i⟩
    · refine (congrArg (fun x : ThreadState => (x.armOf (s.chip.th i.val).course).map fun a => (a.k, a.made)) hth).trans ?_
      show (List.find? (fun a : ArmCount => a.grp == (s.chip.th i.val).grp && a.course == (s.chip.th i.val).course)
        ((s.chip.th i.val).armsKept (s.chip.th i.val).arms ++ [own])).map _ = _
      rw [List.find?_append, ThreadState.find_armsKept_own, ← hk, ← hcount]
      simp [hgrp, hcourse]
    · refine (congrArg (fun x : ThreadState => x.armOf n) hth).trans ?_
      show List.find? (fun a : ArmCount => a.grp == (s.chip.th i.val).grp && a.course == n)
        ((s.chip.th i.val).armsKept (s.chip.th i.val).arms ++ [own]) = _
      rw [List.find?_append, ThreadState.find_armsKept_other _ hn hreach]
      simp [hcourse, hn.symm]
    · exact (Chip.th_modTh_ne _ hj _).trans ((Chip.nextPc_th_ne _ hj).trans (State.atIssue_th_ne hj))
  case armShort =>
    intro s i a hdie hrst hpaused hpick hop hgood husable harm hless
    refine ⟨_, exec_arm_short ⟨hdie, hrst, hpaused, hpick, hop, hgood⟩ husable harm hless, rfl, ?_, ?_⟩
    · show ((s.atIssue i).badOpnd i.val).th i.val = _
      rw [Chip.badOpnd, Chip.thFault_th, State.atIssue_th]
    · exact (Chip.report_gr _ _ _).trans (s.atIssue_gr i)
  case contrib =>
    intro s i l hdie hrst hpaused hpick hop hgood hlane husable hback hn0 hadm hdrop hout hclosed hcfg
    have hexec := exec_contrib ⟨hdie, hrst, hpaused, hpick, hop, hgood⟩ hlane husable hback hn0 hadm hdrop hout hclosed
    have hcfg' : ((s.atIssue i).servoSweep.modTh i.val fun y =>
        { y with
          arms := y.arms.map fun a =>
            if a.grp == (s.chip.th i.val).grp && a.course == s.contribCourse i then { a with made := a.made + 1 } else a }).mtCfgs
          (s.chip.th i.val).grp = s.chip.mtCfgs (s.chip.th i.val).grp :=
      ((s.atIssue i).servoSweep_mtCfgs _).trans (s.atIssue_mtCfgs i _)
    have hlanes : ((s.atIssue i).servoSweep.ent (s.chip.th i.val).grp).lanes = (s.chip.ent (s.chip.th i.val).grp).lanes :=
      (congrArg GrEntry.lanes ((s.atIssue i).servoSweep_ent (s.chip.th i.val).grp) :).trans
        (congrArg GrEntry.lanes (s.atIssue_ent i _) :)
    obtain ⟨hjoined, hsq⟩ := Chip.contribute_leaves ((s.atIssue i).servoSweep.modTh i.val fun y =>
        { y with
          arms := y.arms.map fun a =>
            if a.grp == (s.chip.th i.val).grp && a.course == s.contribCourse i then { a with made := a.made + 1 } else a })
      (course := s.contribCourse i) (w := s.chip.mbox i.val (Iw.a (s.chip.fetch i.val) % 64)) ((congrArg (fun l => l[s.contribLane i]?) hcfg' :).trans hcfg)
    refine ⟨_, hexec, rfl, ?_, ?_⟩
    · refine (Chip.nextPc_th _ _).trans ?_
      rw [Chip.th_eq_of_sq hsq, Chip.th_modTh, Chip.servoSweep_th, State.atIssue_th]
      rfl
    · refine hjoined.trans ?_
      rw [hcfg']
      show (SMap.find ((s.atIssue i).servoSweep.ent (s.chip.th i.val).grp).lanes _ _).set _
        (l.merge ((SMap.find ((s.atIssue i).servoSweep.ent (s.chip.th i.val).grp).lanes _ _).getD _ _)
          (l.contribute _ ((s.atIssue i).servoSweep.tr.addr.getD 0)).1) = _
      rw [hlanes, Chip.servoSweep_tr, State.atIssue_tr]
      rfl
  case noLane =>
    intro s i hdie hrst hpaused hpick hop hgood husable hlane
    refine ⟨_, exec_contrib_noLane ⟨hdie, hrst, hpaused, hpick, hop, hgood⟩ husable hlane, rfl, ?_, ?_⟩
    · show ((s.atIssue i).badOpnd i.val).th i.val = _
      rw [Chip.badOpnd, Chip.thFault_th, State.atIssue_th]
    · exact (Chip.report_gr _ _ _).trans (s.atIssue_gr i)
  case noGroup =>
    intro s i hdie hrst hpaused hpick hop hgood husable
    refine ⟨_, exec_contrib_noGroup ⟨hdie, hrst, hpaused, hpick, hop, hgood⟩ husable, rfl, ?_, ?_⟩
    · show ((s.atIssue i).noGroup i.val).th i.val = _
      rw [Chip.noGroup, Chip.thFault_th, State.atIssue_th]
    · exact (Chip.report_gr _ _ _).trans (s.atIssue_gr i)
  case sync =>
    intro s i hdie hrst hpaused hpick hop hgood husable hmet hearlier
    have hshort := State.syncShort_false hmet
    have hexec := exec_sync ⟨hdie, hrst, hpaused, hpick, hop, hgood⟩ husable hshort
    have hmark : (match (s.chip.ent (s.chip.th i.val).grp).latest with
        | some r => if (s.chip.th i.val).course ≤ r.course then (s.synced i).takeRelease i.val r else (s.synced i).syncMark i.val
        | none => (s.synced i).syncMark i.val) = (s.synced i).syncMark i.val := by
      cases hlatest : (s.chip.ent (s.chip.th i.val).grp).latest with
      | none => rfl
      | some r =>
        rw [hlatest] at hearlier
        exact if_neg (Nat.not_le.2 (of_decide_eq_true hearlier))
    rw [hmark] at hexec
    have hth : ((s.synced i).syncMark i.val).th i.val = _ := s.synced_th i
    exact ⟨_, hexec, rfl, (congrArg ThreadState.mode hth :), (congrArg ThreadState.pc hth :), (congrArg ThreadState.synced hth :),
      (congrArg ThreadState.course hth :), (congrArg ThreadState.base hth :)⟩
  case syncKnown =>
    intro s i r hdie hrst hpaused hpick hop hgood husable hmet hlatest hcourse
    have hshort := State.syncShort_false hmet
    have hexec := exec_sync ⟨hdie, hrst, hpaused, hpick, hop, hgood⟩ husable hshort
    simp only [hlatest, if_pos hcourse] at hexec
    have htook := (s.synced i).takeRelease_took i.val r
    rw [State.synced_th] at htook
    exact ⟨_, hexec, rfl, htook.mode, htook.course, htook.pc, htook.rdet, htook.lastRel, htook.base, htook.cursor⟩
  case syncShort =>
    intro s i hdie hrst hpaused hpick hop hgood husable hdepth hout
    have hshort : s.syncShort i = true := Bool.and_eq_true_iff.2 ⟨decide_eq_true hdepth, bne_iff_ne.2 hout⟩
    refine ⟨_, exec_sync_short ⟨hdie, hrst, hpaused, hpick, hop, hgood⟩ husable hshort, rfl, ?_⟩
    show ((s.atIssue i).thFault i.val Event.SQ_CONTRIB_SHORT 3).th i.val = _
    rw [Chip.thFault_th, State.atIssue_th]
  case release =>
    intro s i p x g l hdie hrst hp hhead hmeet hmsg hnone hadm hexp hmode hgrp hcourse
    have hexec := exec_releaseDeliver_first hdie hrst hp hhead hmeet hmsg hnone
    have hdues : (s.chip.fresh.popRx p.val clsB (if s.chip.mtTwo g then 2 else 1)).view GrEntry.dues g = (false, false) :=
      (Chip.view_of_gr (b := s.chip) rfl GrEntry.dues g).trans (Prod.ext hadm hexp)
    have hth : (s.chip.fresh.popRx p.val clsB (if s.chip.mtTwo g then 2 else 1)).th i.val = s.chip.th i.val :=
      Chip.th_eq_of_sq (b := s.chip) rfl i.val
    generalize s.chip.fresh.popRx p.val clsB _ = d at hexec hdues hth
    have htook := d.deliver_took i.isLt hdues (by rw [hth, hgrp]) (by rw [hth, hmode]) (by rwa [hth])
    have hturn : ((d.deliver g (releaseRead l)).ent g).latest = some (releaseRead l) :=
      Chip.latest_of_turn (d.deliver_turn g (releaseRead l))
    rw [hth] at htook
    generalize d.deliver g (releaseRead l) = e at hexec htook hturn
    exact ⟨_, hexec, rfl, htook.mode, htook.course, htook.pc, htook.rdet, htook.lastRel, htook.base, htook.cursor, hturn⟩
  case rel =>
    intro s i hdie hrst hpaused hpick hop hgood hmode hnone
    have hexec := exec_setb_rel ⟨hdie, hrst, hpaused, hpick, hop, hgood⟩ hmode
    rw [hnone, Option.getD_none] at hexec
    have hth := (s.atIssue i).setBase_nextPc_th i.val (s.chip.th i.val).base
    rw [State.atIssue_th] at hth
    generalize ((s.atIssue i).setBase i.val _).nextPc i.val = d at hexec hth
    exact ⟨_, hexec, rfl, hth⟩
  case cad =>
    intro s i hdie hrst hpaused hpick hop hgood hmode hoff hnone
    have hexec := exec_setb_cad ⟨hdie, hrst, hpaused, hpick, hop, hgood⟩ hmode hoff (k := 1) (by rw [hnone]; rfl)
    rw [Chip.afterSlots, if_neg (Nat.lt_irrefl 1), Nat.one_mul] at hexec
    have hth := (s.atIssue i).setBase_nextPc_th i.val ((s.chip.th i.val).base + Iw.offset (s.chip.fetch i.val))
    rw [State.atIssue_th] at hth
    generalize ((s.atIssue i).setBase i.val _).nextPc i.val = d at hexec hth
    exact ⟨_, hexec, rfl, hth⟩

end Sys2Proof.Machine
end

section
/-!
O59: the commands of a master on a group entry (R270 to R281).
-/

namespace Sys2Proof.Machine

/-! ### Views of an entry -/

/-- An entry without what messages and threads write as they pass. -/
def GrEntry.own (e : GrEntry) : GrEntry :=
  { e with
    dl := .reset, detLost := [], spread := [], owed := [], holds := [], censusOk := false, downSent := none, upSent := none
    combined := false, shortOpen := false, sentTo := none, dropped := [], clean := 0 }

theorem GrEntry.own_blind : GrEntry.Blind GrEntry.own where
  dl _ _ := rfl
  detLost _ _ := rfl
  spread _ _ := rfl
  owed _ _ := rfl
  holds _ _ := rfl
  censusOk _ _ := rfl
  downSent _ _ := rfl
  upSent _ _ := rfl
  combined _ _ := rfl
  shortOpen _ _ := rfl
  dropped _ _ _ := rfl
  clean _ _ := rfl

/-- An entry also without what the apex finds in a census. -/
def GrEntry.kept (e : GrEntry) : GrEntry :=
  { e.own with
    short := false, overDecl := false, featShort := false, fen := 0, fenFixed := false
    state := if e.state.isSealed then .sealed else e.state }

theorem GrEntry.kept_unjudged : GrEntry.Unjudged GrEntry.kept where
  dl _ _ := rfl
  detLost _ _ := rfl
  spread _ _ := rfl
  owed _ _ := rfl
  holds _ _ := rfl
  censusOk _ _ := rfl
  downSent _ _ := rfl
  upSent _ _ := rfl
  combined _ _ := rfl
  shortOpen _ _ := rfl
  dropped _ _ _ := rfl
  clean _ _ := rfl
  found _ _ _ _ _ _ := rfl
  sealed e x he hx := by simp only [GrEntry.kept, GrEntry.own, he, hx, if_true]

/-- The ID and the generation of an entry, and whether it is sealed. -/
def GrEntry.key (e : GrEntry) : Nat × Nat × Bool := (e.gid, e.gen, e.state.isSealed)

theorem GrEntry.key_unreleased : GrEntry.Unreleased GrEntry.key where
  dl _ _ := rfl
  detLost _ _ := rfl
  spread _ _ := rfl
  owed _ _ := rfl
  holds _ _ := rfl
  censusOk _ _ := rfl
  downSent _ _ := rfl
  upSent _ _ := rfl
  combined _ _ := rfl
  shortOpen _ _ := rfl
  dropped _ _ _ := rfl
  clean _ _ := rfl
  found _ _ _ _ _ _ := rfl
  sealed e x he hx := by simp only [GrEntry.key, he, hx]
  admDue _ _ := rfl
  expDue _ _ := rfl

section Regroup

variable (c : Chip)

theorem GrEntry.foldPend_key (e : GrEntry) (n : Nat) : (e.foldPend n).key = e.key := by
  unfold GrEntry.foldPend
  split
  · split <;> rfl
  · rfl

theorem Chip.key_afterClose (g : Nat) : (c.afterClose g).view GrEntry.key g = c.view GrEntry.key g :=
  c.view_afterClose g GrEntry.key_unreleased.toUnjudged (fun _ _ _ => rfl) g

theorem Chip.key_closeDone (g : Nat) : (c.closeDone g).view GrEntry.key g = c.view GrEntry.key g := by
  unfold Chip.closeDone
  dsimp only
  split
  · exact (Chip.key_afterClose _ g).trans ((Chip.view_modEnt _ g g rfl).trans (c.view_qoccDrop g _))
  · rfl

theorem Chip.key_deliver (g : Nat) (r : Release) : (c.deliver g r).view GrEntry.key g = c.view GrEntry.key g := by
  rw [Chip.view_deliver _ _ GrEntry.key_unreleased]
  refine (Chip.view_modEnt _ g g rfl).trans ?_
  rw [Chip.view_reportBase, Chip.view_dropArrival _ _ GrEntry.key_unreleased.toBlind]

theorem Chip.key_close (g n : Nat) (ovr : Bool) : (c.close g n ovr).view GrEntry.key g = c.view GrEntry.key g := by
  unfold Chip.close
  extract_lets e all out det combined fin r ports down counted
  have hblind := GrEntry.key_unreleased.toBlind
  have hcombined : combined.view GrEntry.key g = c.view GrEntry.key g := by
    have hout : out.1.view GrEntry.key g = c.view GrEntry.key g := c.view_outputLanes g g n all.1
    refine view_ite ?_ hout
    exact (Chip.view_spreadSample _ g hblind g n).trans ((Chip.view_modEnt _ g g rfl).trans ((Chip.view_combined _ g g _).trans hout))
  have hfin : fin.1.view GrEntry.key g = c.view GrEntry.key g := (combined.view_finish g hblind g n out.2).trans hcombined
  have hfold : ∀ x : Chip, (x.modEnt g fun x => x.foldPend n).view GrEntry.key g = x.view GrEntry.key g :=
    fun x => x.view_modEnt g g (GrEntry.foldPend_key _ n)
  split
  · have hbegin : ((counted.modEnt g fun x => x.foldPend n).closeBegin g r).view GrEntry.key g = c.view GrEntry.key g := by
      refine (Chip.view_modEnt _ g g rfl).trans ((hfold _).trans ?_)
      exact (Chip.view_count _ g _ _ _).trans ((Chip.view_sendDown _ g hblind g n _ _).trans hfin)
    unfold Chip.closeIfSent
    exact view_ite hbegin ((Chip.key_closeDone _ g).trans hbegin)
  · exact (Chip.key_afterClose _ g).trans ((Chip.key_deliver _ g r).trans ((hfold _).trans hfin))

theorem Chip.key_judgeBarrier (g : Nat) : (c.judgeBarrier g).view GrEntry.key g = c.view GrEntry.key g := by
  unfold Chip.judgeBarrier
  dsimp only
  split
  · rfl
  · rename_i n _
    exact view_ite rfl (view_ite (view_ite (c.key_close g n false) rfl)
      (view_ite (c.view_combineUp g GrEntry.key_unreleased.toBlind g n) rfl))

theorem Chip.key_regroup (g : Nat) : (c.regroup g).view GrEntry.key g = c.view GrEntry.key g := by
  unfold Chip.regroup
  dsimp only
  rw [Chip.key_judgeBarrier, Chip.view_markShort _ _ GrEntry.key_unreleased.toBlind,
    Chip.view_judgeCensus _ _ GrEntry.key_unreleased.toUnjudged]
  exact c.view_modEnt g g rfl

/-- The own count and features of an entry, as they follow from what it holds (R274). -/
def GrEntry.recount (e : GrEntry) (hub : Bool) : GrEntry :=
  { e with
    gcount := if hub then e.sums.1 else e.dieCount
    fsup := if hub then e.sums.2 else if e.apex then 6 else e.fsup }

theorem Chip.judgeBarrier_closed {g : Nat} (h : (c.ent g).barrier = none) : c.judgeBarrier g = c := by
  simp only [Chip.judgeBarrier, h]

/-- With no barrier open an entry that is judged again keeps all but what the apex finds (R275). -/
theorem Chip.view_regroup {γ : Type} {v : GrEntry → γ} (hv : GrEntry.Unjudged v) {g : Nat} (hclosed : (c.ent g).barrier = none) :
    (c.regroup g).view v g = v ((c.ent g).recount c.id.hub) := by
  have hjudged : ∀ {δ : Type} {u : GrEntry → δ}, GrEntry.Unjudged u →
      ((((c.modEnt g fun e => e.recount c.id.hub).judgeCensus g (c.ent g).gcount).markShort g)).view u g =
        u ((c.ent g).recount c.id.hub) := fun hu => by
    rw [Chip.view_markShort _ _ hu.toBlind, Chip.view_judgeCensus _ _ hu, Chip.view, Chip.ent_modEnt]
  have hbarrier : (((((c.modEnt g fun e => e.recount c.id.hub).judgeCensus g (c.ent g).gcount).markShort g)).ent g).barrier = none :=
    (congrArg GrEntry.barrier (hjudged GrEntry.kept_unjudged) :).trans hclosed
  unfold Chip.regroup
  dsimp only
  exact (congrArg (fun x : Chip => x.view v g) (Chip.judgeBarrier_closed _ hbarrier)).trans (hjudged hv)

/-- The declared members of an entry, its pending change, the courses changed and the open barrier. -/
def GrEntry.pending (e : GrEntry) : Nat × Option (Nat × Int) × List Nat × Option Nat := (e.decl, e.pend, e.changed, e.barrier)

theorem GrEntry.pending_unjudged : GrEntry.Unjudged GrEntry.pending where
  dl _ _ := rfl
  detLost _ _ := rfl
  spread _ _ := rfl
  owed _ _ := rfl
  holds _ _ := rfl
  censusOk _ _ := rfl
  downSent _ _ := rfl
  upSent _ _ := rfl
  combined _ _ := rfl
  shortOpen _ _ := rfl
  dropped _ _ _ := rfl
  clean _ _ := rfl
  found _ _ _ _ _ _ := rfl
  sealed _ _ _ _ := rfl

theorem GrEntry.unlist_pending (e : GrEntry) (n : Nat) : (e.unlist n).pending = e.pending := rfl

theorem GrEntry.expelPort_pending (e : GrEntry) (p n : Nat) : (e.expelPort p n).pending = e.pending := by
  unfold GrEntry.expelPort
  dsimp only
  split <;> rfl

/-- A change on its way down leaves what is pending at the apex (R281). -/
theorem Chip.pending_changeOnWay {g : Nat} (m : Gcmd) (n : Nat) (hbelow : c.below m.target = true) (hclosed : (c.ent g).barrier = none) :
    (c.changeOnWay g m n).view GrEntry.pending g = c.view GrEntry.pending g := by
  have hblind := GrEntry.pending_unjudged.toBlind
  unfold Chip.changeOnWay
  rw [hbelow, Bool.not_true, if_neg Bool.false_ne_true]
  extract_lets p applied
  have happlied : applied.view GrEntry.pending g = c.view GrEntry.pending g := by
    refine view_ite ((Chip.view_report _ g _ _).trans ((Chip.view_modEnt _ g g rfl).trans ?_))
      (view_ite ((Chip.view_report _ g _ _).trans (Chip.view_modEnt _ g g (GrEntry.expelPort_pending _ _ _)))
        (view_ite (Chip.view_report _ g _ _) rfl))
    unfold Chip.sealOpen
    exact view_ite (Chip.view_modEnt _ g g rfl) rfl
  have hsent := (applied.view_sendGcmd g hblind g m p).trans happlied
  have hsentClosed : ((applied.sendGcmd g m p).ent g).barrier = none := (congrArg (fun x => x.2.2.2) hsent :).trans hclosed
  rw [Chip.view_regroup _ GrEntry.pending_unjudged hsentClosed]
  exact hsent

end Regroup

/-! ### Dissolve -/

section Dissolve

variable (c : Chip)

@[simp] theorem Chip.thFault_gr (t : Nat) (e : Ev) (n : Nat) : (c.thFault t e n).gr = c.gr := Chip.report_gr _ _ _

@[simp] theorem Chip.stale_gr (gid p reason gen : Nat) : (c.stale gid p reason gen).gr = c.gr := Chip.report_gr _ _ _

/-- An entry as its dissolve leaves it (R277, R278). -/
def GrEntry.dissolved (e : GrEntry) (frc : Nat) : GrEntry :=
  { e with
    state := .quar, quarAt := frc, censusOk := false, owed := [], probe := none, barrier := none
    arrivals := [], combined := false, closing := false, holds := [] }

theorem Chip.dissolve_ent (g : Nat) : (c.dissolve g).ent g = (c.ent g).dissolved c.tk.frc := by
  unfold Chip.dissolve
  extract_lets e items waiting freed disarmed quiet dissolved discarded told
  have hquiet : quiet.ent g = c.ent g ∧ quiet.tk = c.tk := by
    simp only [quiet]
    split <;> exact ⟨rfl, rfl⟩
  have htold : told.gr = dissolved.gr := by
    refine (Chip.report_gr _ _ _).trans ?_
    refine foldl_keeps Chip.gr _ items dissolved ?_
    exact fun x p => x.stale_gr _ _ _ _
  have hthreads : ∀ l : List (Nat × ThreadState), (l.foldl (fun c t => c.thFault t.1 Event.SQ_NOGROUP 4) told).gr = told.gr := by
    intro l
    refine foldl_keeps Chip.gr _ l told ?_
    exact fun x t => x.thFault_gr _ _ _
  rw [Chip.ent_of_gr ((hthreads _).trans htold), Chip.ent_modEnt, hquiet.1, hquiet.2]
  rfl

end Dissolve

/-! ### The writes of a master -/

section Writes

variable {s : State} {m : Master} {w : Word}

theorem exec_grGkeyWrite (hopen : s.chip.opens m 0x15 = true) :
    exec (.grGkeyWrite m w) s = .next { s with chip := (s.chip.fresh.grKey (s.chip.chanOf m 0x15) m w).1 } := by
  have hwrite : s.chip.fresh.rowWrite { m := m, row := Reg.GR_GKEY, i := 0, idx := s.chip.chanOf m 0x15, w := w } =
      ((s.chip.fresh.grKey (s.chip.chanOf m 0x15) m w).1,
        if (s.chip.fresh.grKey (s.chip.chanOf m 0x15) m w).2 then some 7 else none) := by
    simp only [Chip.rowWrite, Chip.writeGr, Reg.GR_GKEY]
  show s.runMaster m (fun c => c.regWrite m 0x15400 w) = _
  exact State.runMaster_rowWrite (r := Reg.GR_GKEY) (by decide) hopen (by decide) (by decide) (by cases m <;> rfl)
    (Bool.and_false _) rfl rfl hwrite

theorem exec_findGid (hopen : s.chip.opens m 0x15 = true) :
    exec (.findGid m w) s = .next { s with
      chip := s.chip.fresh.setRegOf m Reg.GR_FINDGID (Word.merge (s.chip.regOf m Reg.GR_FINDGID) w 0x00000FFF) } := by
  have hwrite : s.chip.fresh.rowWrite { m := m, row := Reg.GR_FINDGID, i := 0, idx := 0, w := w } =
      (s.chip.fresh.setRegOf m Reg.GR_FINDGID (Word.merge (s.chip.regOf m Reg.GR_FINDGID) w 0x00000FFF)).done := by
    simp only [Chip.rowWrite, Chip.writeGr, Reg.GR_FINDGID]
    rfl
  show s.runMaster m (fun c => c.regWrite m 0x1504C w) = _
  exact State.runMaster_rowWrite (r := Reg.GR_FINDGID) (by decide) hopen (by decide) (by decide) (by cases m <;> rfl)
    (Bool.and_false _) rfl rfl hwrite

theorem runMaster_grCmd (hopen : s.chip.opens m 0x15 = true) (v : Word) :
    s.runMaster m (fun c => c.regWrite m 0x1542C v) =
      .next { s with chip := s.chip.fresh.grCmd (s.chip.chanOf m 0x15) m v } := by
  have hwrite : s.chip.fresh.rowWrite { m := m, row := Reg.GR_GCMD, i := 0, idx := s.chip.chanOf m 0x15, w := v } =
      (s.chip.fresh.grCmd (s.chip.chanOf m 0x15) m v).done := by
    simp only [Chip.rowWrite, Chip.writeGr, Reg.GR_GCMD]
  exact State.runMaster_rowWrite (r := Reg.GR_GCMD) (by decide) hopen (by decide) (by decide) (by cases m <;> rfl)
    (Bool.and_false _) rfl rfl hwrite

/-- A command word with its operation. -/
def gcmdWord (w : Word) (op : Nat) : Word := w &&& 0x0FFFFFFF ||| Word.place op 28

theorem bit_gcmdWord (w : Word) (op i : Nat) :
    Word.bit (gcmdWord w op) i = (Word.bit w i && Word.bit 0x0FFFFFFF i || Word.bit (Word.place op 28) i) := by
  simp only [gcmdWord, Word.bit, BitVec.getLsbD_or, BitVec.getLsbD_and]

theorem gcmdWord_low {op lo len : Nat} (hlow : lo + len ≤ 28) (w : Word) :
    Word.field (gcmdWord w op) lo len = Word.field w lo len := by
  have hmask : ∀ j < 28, Word.bit 0x0FFFFFFF j = true := by decide
  refine Word.field_congr fun i hi => ?_
  have hplace : Word.bit (Word.place op 28) (lo + i) = false := by
    rw [Word.bit, Word.place, BitVec.getLsbD_ofNat, Nat.testBit_shiftLeft, decide_eq_false (show ¬ lo + i ≥ 28 by omega),
      Bool.false_and, Bool.and_false]
  rw [bit_gcmdWord, hmask _ (by omega), hplace, Bool.and_true, Bool.or_false]

theorem gcmdWord_op {op : Nat} (hop : op < 16) (w : Word) : Word.field (gcmdWord w op) 28 4 = op := by
  have hmask : ∀ i < 4, Word.bit 0x0FFFFFFF (28 + i) = false := by decide
  have hplace : ∀ op < 16, Word.field (Word.place op 28) 28 4 = op := by decide
  refine Eq.trans (Word.field_congr fun i hi => ?_) (hplace op hop)
  rw [bit_gcmdWord, hmask i hi, Bool.and_false, Bool.false_or]

/-- The membership change that a command word asks for, with the arguments of the master's bank (R280). -/
def Chip.change (c : Chip) (g : Nat) (m : Master) (op : Nat) (w : Word) : Gcmd :=
  { op := op, prune := Word.field w 24 4, tlevel := Word.field (c.regOf m Reg.GR_GCARG0 g) 24 4, gen := Word.field w 0 16
    target := Word.field (c.regOf m Reg.GR_GCARG0 g) 0 24, course := (c.regOf m Reg.GR_GCARG1 g).toNat
    nmem := Word.field (c.regOf m Reg.GR_GCARG2 g) 0 25 }

theorem exec_sealCmd (hopen : s.chip.opens m 0x15 = true) :
    exec (.sealCmd m w) s = .next { s with chip := s.chip.fresh.grSeal (s.chip.chanOf m 0x15) (Word.field w 0 16) } := by
  have hexec : exec (.sealCmd m w) s = _ := runMaster_grCmd hopen (gcmdWord w 1)
  rw [hexec]
  simp only [Chip.grCmd, gcmdWord_op (op := 1) (by decide), gcmdWord_low (op := 1) (lo := 0) (len := 16) (by decide)]

theorem exec_dissolve (hopen : s.chip.opens m 0x15 = true) :
    exec (.dissolve m w) s = .next { s with chip := s.chip.fresh.grDissolve (s.chip.chanOf m 0x15) (Word.field w 0 16) } := by
  have hexec : exec (.dissolve m w) s = _ := runMaster_grCmd hopen (gcmdWord w 2)
  rw [hexec]
  simp only [Chip.grCmd, gcmdWord_op (op := 2) (by decide), gcmdWord_low (op := 2) (lo := 0) (len := 16) (by decide)]

theorem exec_admitCmd (hopen : s.chip.opens m 0x15 = true) :
    exec (.admitCmd m w) s = .next { s with
      chip := s.chip.fresh.grChange (s.chip.chanOf m 0x15) (s.chip.change (s.chip.chanOf m 0x15) m 3 w) } := by
  have hexec : exec (.admitCmd m w) s = _ := runMaster_grCmd hopen (gcmdWord w 3)
  rw [hexec]
  simp only [Chip.grCmd, gcmdWord_op (op := 3) (by decide), gcmdWord_low (op := 3) (lo := 0) (len := 16) (by decide),
    gcmdWord_low (op := 3) (lo := 24) (len := 4) (by decide)]
  rfl

theorem exec_expel (hopen : s.chip.opens m 0x15 = true) :
    exec (.expel m w) s = .next { s with
      chip := s.chip.fresh.grChange (s.chip.chanOf m 0x15) (s.chip.change (s.chip.chanOf m 0x15) m 4 w) } := by
  have hexec : exec (.expel m w) s = _ := runMaster_grCmd hopen (gcmdWord w 4)
  rw [hexec]
  simp only [Chip.grCmd, gcmdWord_op (op := 4) (by decide), gcmdWord_low (op := 4) (lo := 0) (len := 16) (by decide),
    gcmdWord_low (op := 4) (lo := 24) (len := 4) (by decide)]
  rfl

end Writes

/-! ### Keys -/

section Keys

variable {s : State} {m : Master} {w : Word} (c : Chip) {g : Nat}

/-- The ID that a key word gives an entry: its index in a hub (R270). -/
def Chip.keyGid (c : Chip) (g : Nat) (w : Word) : Nat := if c.id.hub then g else Word.field w 16 12

theorem findGidIn_holds {hub : Bool} {l : SMap GrEntry} {g gid : Nat} (hused : (SMap.find l g .reset).state ≠ .free)
    (hgid : (if hub then g else (SMap.find l g .reset).gid) = gid) : findGidIn hub l gid ≠ none := by
  induction l with
  | nil => exact absurd rfl hused
  | cons x r ih =>
    obtain ⟨j, e⟩ := x
    rw [SMap.find] at hused hgid
    by_cases hj : g = j
    · rw [if_pos hj] at hused hgid
      have hhere : (decide ((if hub then j else e.gid) = gid) && e.state != .free) = true := by
        rw [← hj, hgid, decide_eq_true rfl, Bool.true_and]
        exact bne_iff_ne.2 hused
      rw [findGidIn, if_pos hhere]
      exact Option.some_ne_none _
    · rw [if_neg hj] at hused hgid
      rw [findGidIn]
      by_cases hhere : (decide ((if hub then j else e.gid) = gid) && e.state != .free) = true
      · rw [if_pos hhere]
        exact Option.some_ne_none _
      · rw [if_neg hhere]
        exact ih hused hgid

/-- A key with VALID at a FREE or OPEN entry, of an ID that no entry holds and a generation above the last, is taken
(R270, R272). -/
theorem Chip.grKey_taken (hvalid : Word.bit w 31 = true) (hstate : (c.ent g).state = .free ∨ (c.ent g).state = .opened)
    (hnone : c.findGid (c.keyGid g w) = none)
    (hgen : SMap.has c.gr.lastGen (c.keyGid g w) = false ∨ SMap.find c.gr.lastGen (c.keyGid g w) 0 < Word.field w 0 16) :
    c.grKey g m w =
      ({ c.grKeyTake g true (c.keyGid g w) (Word.field w 0 16) with
          gr := { (c.grKeyTake g true (c.keyGid g w) (Word.field w 0 16)).gr with
            lastGen := SMap.insert c.gr.lastGen (c.keyGid g w) (Word.field w 0 16) } }, false) := by
  have hquar : ((c.ent g).state == .quar) = false := by rcases hstate with h | h <;> rw [h] <;> rfl
  have hsealed : (c.ent g).state.isSealed = false := by rcases hstate with h | h <;> rw [h] <;> rfl
  have hother : (!c.id.hub && (c.findGid (c.keyGid g w)).isSome && c.findGid (c.keyGid g w) != some g) = false := by
    rw [hnone, Option.isSome_none, Bool.and_false, Bool.false_and]
  have hsame : ((c.ent g).state == .opened && (c.ent g).gid == c.keyGid g w && (c.ent g).gen == Word.field w 0 16) = false := by
    rcases hstate with h | h
    · rw [h]
      rfl
    · refine Bool.eq_false_iff.2 fun hmatch => ?_
      have hgid : (c.ent g).gid = c.keyGid g w := by
        simp only [Bool.and_eq_true, beq_iff_eq] at hmatch
        exact hmatch.1.2
      refine findGidIn_holds (hub := c.id.hub) (l := c.gr.entries) (g := g) (gid := c.keyGid g w) ?_ ?_ hnone
      · show (c.ent g).state ≠ .free
        rw [h]
        decide
      · unfold Chip.keyGid at hgid ⊢
        split
        · rfl
        · rename_i hdie
          rwa [if_neg hdie] at hgid
  have hback : (SMap.has c.gr.lastGen (c.keyGid g w) && decide (Word.field w 0 16 ≤ SMap.find c.gr.lastGen (c.keyGid g w) 0)) = false := by
    rcases hgen with h | h
    · rw [h, Bool.false_and]
    · rw [decide_eq_false (Nat.not_le.2 h), Bool.and_false]
  unfold Chip.grKey
  simp only [hquar, hsealed, hvalid, Bool.not_true, Bool.false_eq_true, if_false]
  exact (if_neg (Bool.eq_false_iff.1 hother)).trans ((if_neg (Bool.eq_false_iff.1 hsame)).trans (if_neg (Bool.eq_false_iff.1 hback)))

theorem Chip.grKey_free (hvalid : Word.bit w 31 = false) (hstate : (c.ent g).state = .free ∨ (c.ent g).state = .opened) :
    c.grKey g m w = (c.grKeyTake g false (c.keyGid g w) (Word.field w 0 16), false) := by
  have hquar : ((c.ent g).state == .quar) = false := by rcases hstate with h | h <;> rw [h] <;> rfl
  have hsealed : (c.ent g).state.isSealed = false := by rcases hstate with h | h <;> rw [h] <;> rfl
  unfold Chip.grKey
  simp only [hquar, hsealed, hvalid, Bool.not_false, Bool.false_eq_true, if_false, if_true]
  rfl

/-- A sealed entry, and one in quarantine, takes no key (R272, R278). -/
theorem Chip.grKey_shut (hstate : (c.ent g).state.isSealed = true ∨ (c.ent g).state = .quar) : (c.grKey g m w).1.gr = c.gr := by
  unfold Chip.grKey
  by_cases hquar : (c.ent g).state = .quar
  · simp only [hquar, beq_self_eq_true, if_true]
    exact Chip.report_gr _ _ _
  · have hquar' : ((c.ent g).state == .quar) = false := beq_false_of_ne hquar
    simp only [hquar', hstate.resolve_right hquar, Bool.false_eq_true, if_false, if_true]
    exact Chip.report_gr _ _ _

/-- A generation that goes back is refused by the Guard (R270). -/
theorem Chip.grKey_back (hvalid : Word.bit w 31 = true) (hstate : (c.ent g).state = .free)
    (hnone : c.findGid (c.keyGid g w) = none) (hhas : SMap.has c.gr.lastGen (c.keyGid g w) = true)
    (hgen : Word.field w 0 16 ≤ SMap.find c.gr.lastGen (c.keyGid g w) 0) : (c.grKey g m w).1.gr = c.gr := by
  have hother : (!c.id.hub && (c.findGid (c.keyGid g w)).isSome && c.findGid (c.keyGid g w) != some g) = false := by
    rw [hnone, Option.isSome_none, Bool.and_false, Bool.false_and]
  have hback : (SMap.has c.gr.lastGen (c.keyGid g w) && decide (Word.field w 0 16 ≤ SMap.find c.gr.lastGen (c.keyGid g w) 0)) = true := by
    rw [hhas, decide_eq_true hgen]
    rfl
  have hkey : (c.grKey g m w).1 = c.guardRefuse Event.GD_GEN_BACK m Reg.GR_GKEY.addr w
      (BitVec.ofNat 32 (SMap.find c.gr.lastGen (c.keyGid g w) 0)) := by
    unfold Chip.grKey
    simp only [hstate, hvalid, show (GrMode.free == GrMode.quar) = false from rfl, show GrMode.free.isSealed = false from rfl,
      show (GrMode.free == GrMode.opened) = false from rfl, Bool.not_true, Bool.false_and, Bool.false_eq_true, if_false]
    refine congrArg Prod.fst ((if_neg (Bool.eq_false_iff.1 hother)).trans (if_pos hback))
  rw [hkey]
  exact (congrArg Chip.gr (Chip.guardRefuse_calm c Event.GD_GEN_BACK m _ _ _) :)

end Keys

/-! ### Seals and changes at the apex -/

section Apex

variable (c : Chip) {g : Nat}

theorem Chip.grSeal_taken {gen : Nat} (hstate : (c.ent g).state = .opened) (hapex : (c.ent g).apex = true) (hgen : gen = (c.ent g).gen)
    (hdecl : (c.ent g).decl ≠ 0) (htext : c.usesMtext g = false ∨ Word.bit (c.ent g).mode 2 = true) :
    c.grSeal g gen = ((c.sealEnt g).fanGcmd g (.simple 1 (c.ent g).gen)).regroup g := by
  have htext' : (c.usesMtext g && !(Word.bit (c.ent g).mode 2)) = false := by
    rcases htext with h | h
    · rw [h, Bool.false_and]
    · rw [h, Bool.not_true, Bool.and_false]
  have hdecl' : ((c.ent g).decl == 0) = false := beq_false_of_ne hdecl
  unfold Chip.grSeal
  simp only [hstate, hapex, hgen, hdecl', htext', show (GrMode.opened == GrMode.quar) = false from rfl, bne_self_eq_false,
    Bool.not_true, Bool.or_self, Bool.false_eq_true, if_false]

theorem Chip.grSeal_refused {gen : Nat} (h : (c.ent g).state ≠ .opened ∨ gen ≠ (c.ent g).gen) : (c.grSeal g gen).gr = c.gr := by
  have hbad : ((c.ent g).state != .opened || !(c.ent g).apex || gen != (c.ent g).gen || (c.ent g).decl == 0
      || (c.usesMtext g && !(Word.bit (c.ent g).mode 2))) = true := by
    rcases h with h | h
    · rw [bne_iff_ne.2 h]
      simp
    · rw [bne_iff_ne.2 h]
      simp
  unfold Chip.grSeal
  simp only [hbad, if_true]
  split
  · exact Chip.report_gr _ _ _
  · exact Chip.report_gr _ _ _

theorem Chip.sealed_leaves (m : Gcmd) :
    (((c.sealEnt g).fanGcmd g m).regroup g).view GrEntry.key g = ((c.ent g).gid, (c.ent g).gen, true) := by
  rw [Chip.key_regroup, Chip.view_fanGcmd _ _ GrEntry.key_unreleased.toBlind, Chip.view, Chip.sealEnt, Chip.ent_modEnt]
  rfl

theorem Chip.grDissolve_taken {gen : Nat} (hfree : (c.ent g).state ≠ .free) (hquar : (c.ent g).state ≠ .quar) (hgen : gen = (c.ent g).gen) :
    (c.grDissolve g gen).ent g = ((if (c.ent g).apex then c.fanGcmd g (.simple 2 gen) else c).ent g).dissolved
      (if (c.ent g).apex then c.fanGcmd g (.simple 2 gen) else c).tk.frc := by
  have hfree' : ((c.ent g).state == .free) = false := beq_false_of_ne hfree
  have hquar' : ((c.ent g).state == .quar) = false := beq_false_of_ne hquar
  unfold Chip.grDissolve
  simp only [hfree', hquar', hgen, bne_self_eq_false, Bool.or_self, Bool.false_eq_true, if_false]
  exact Chip.dissolve_ent _ _

theorem Chip.grDissolve_refused {gen : Nat} (hquar : (c.ent g).state ≠ .quar) (hgen : gen ≠ (c.ent g).gen) :
    (c.grDissolve g gen).gr = c.gr := by
  have hquar' : ((c.ent g).state == .quar) = false := beq_false_of_ne hquar
  unfold Chip.grDissolve
  simp only [hquar', bne_iff_ne.2 hgen, Bool.or_true, Bool.false_eq_true, if_false, if_true]
  exact Chip.report_gr _ _ _

theorem Chip.fanGcmd_tk (g : Nat) (m : Gcmd) : (c.fanGcmd g m).tk = c.tk := by
  refine foldl_keeps Chip.tk _ _ c fun x p => ?_
  unfold Chip.sendGcmd
  dsimp only
  split
  · split
    · exact Chip.sendCells_tk _ _ _ _
    · exact Chip.sendCells_tk _ _ _ _
  · exact Chip.report_tk _ _ _

/-- The members that a change adds, below zero where it takes them away (R280). -/
def Gcmd.delta (m : Gcmd) : Int := if m.op == 3 then m.nmem else -(m.nmem : Int)

/-- A change that the apex takes is pending from its course, and goes on its way (R280, R281). -/
theorem Chip.grChange_taken {m : Gcmd} (hhub : c.id.hub = true) (hapex : (c.ent g).apex = true) (hstate : (c.ent g).state = .active)
    (hgen : m.gen = (c.ent g).gen) (hlow : 5 ≤ m.tlevel) (hhigh : m.tlevel ≤ 8) (hlevel : m.tlevel < c.tr.level)
    (hbelow : c.below m.target = true) (hpend : (c.ent g).pend = none) (hcourse : (c.ent g).courseOk m = true)
    (hnow : 1 ≤ ((c.ent g).decl : Int) + m.delta ∧ ((c.ent g).decl : Int) + m.delta ≤ 16777216) :
    c.grChange g m = (c.modEnt g fun x => { x with pend := some (m.course, m.delta), changed := m.course :: x.changed }).changeOnWay g m 0 := by
  have hlevelOf : c.levelOf = c.tr.level := by rw [Chip.levelOf, hhub, if_pos rfl]
  have hrange : decide (5 ≤ m.tlevel ∧ m.tlevel ≤ 8) = true := decide_eq_true ⟨hlow, hhigh⟩
  have hnow' : decide (1 ≤ ((c.ent g).decl : Int) + m.delta ∧ ((c.ent g).decl : Int) + m.delta ≤ 16777216) = true := decide_eq_true hnow
  have hlevel' : decide (m.tlevel < c.levelOf) = true := decide_eq_true (by rwa [hlevelOf])
  unfold Chip.grChange
  simp only [hstate, hapex, hgen, hpend, hbelow, hcourse, hrange, hlevel', Option.map_none, Option.getD_none, zero_add,
    show (GrMode.active == GrMode.quar) = false from rfl, beq_self_eq_true, Bool.true_or, Bool.and_self, Bool.true_and,
    Bool.false_eq_true, if_false]
  refine (if_pos hnow').trans ?_
  unfold Chip.applyChange
  refine (if_pos hhub).trans (if_pos ?_)
  show m.tlevel < c.levelOf
  rwa [hlevelOf]

theorem Chip.grChange_below {m : Gcmd} (hapex : (c.ent g).apex = false) (hquar : (c.ent g).state ≠ .quar) : (c.grChange g m).gr = c.gr := by
  have hquar' : ((c.ent g).state == .quar) = false := beq_false_of_ne hquar
  unfold Chip.grChange
  simp only [hquar', hapex, Bool.false_and, Bool.false_eq_true, if_false]
  exact Chip.report_gr _ _ _

end Apex

/-- What an accepted change leaves pending at a hub that is the apex (R280). -/
theorem State.changed_leaves {s : State} {g : Nat} {m : Gcmd} (hhub : s.chip.id.hub = true) (hapex : (s.chip.ent g).apex = true)
    (hstate : (s.chip.ent g).state = .active) (hgen : m.gen = (s.chip.ent g).gen) (hlow : 5 ≤ m.tlevel) (hhigh : m.tlevel ≤ 8)
    (hlevel : m.tlevel < s.chip.tr.level) (hbelow : s.chip.below m.target = true) (hclosed : (s.chip.ent g).barrier = none)
    (hpend : (s.chip.ent g).pend = none) (hcourse : (s.chip.ent g).courseOk m = true)
    (hnow : 1 ≤ ((s.chip.ent g).decl : Int) + m.delta ∧ ((s.chip.ent g).decl : Int) + m.delta ≤ 16777216) :
    (s.chip.fresh.grChange g m).view GrEntry.pending g =
      ((s.chip.ent g).decl, some (m.course, m.delta), m.course :: (s.chip.ent g).changed, (s.chip.ent g).barrier) := by
  have hclosed' : ((s.chip.fresh.modEnt g fun x => { x with pend := some (m.course, m.delta), changed := m.course :: x.changed }).ent g).barrier
      = none := by
    rw [Chip.ent_modEnt]
    exact hclosed
  rw [Chip.grChange_taken s.chip.fresh hhub hapex hstate hgen hlow hhigh hlevel hbelow hpend hcourse hnow,
    Chip.pending_changeOnWay _ m 0 (by exact hbelow) hclosed', Chip.view, Chip.ent_modEnt]
  rfl

/-- Settles O59: a key, a seal, a dissolve and a change by the entry they leave, and a refusal by the groups it leaves. -/
theorem groupCommands : Obligations.GroupCommands := by
  unfold Obligations.GroupCommands
  refine ⟨?key, ?unkey, ?keyShut, ?keyBack, ?find, ?sealed, ?sealNot, ?dissolve, ?dissolveNot, ?admitted, ?expel, ?admitNot, ?expelNot,
    ?quarantine, ?quarantineNot⟩
  case key =>
    intro s m w hopen hvalid hstate hnone hgen
    have hexec := exec_grGkeyWrite (m := m) (w := w) hopen
    rw [Chip.grKey_taken s.chip.fresh hvalid hstate hnone hgen] at hexec
    have hent : (s.chip.fresh.grKeyTake (s.chip.chanOf m 0x15) true (s.chip.keyGid (s.chip.chanOf m 0x15) w) (Word.field w 0 16)).ent
        (s.chip.chanOf m 0x15) = _ := Chip.ent_modEnt _ _ _
    refine ⟨_, hexec, rfl, congrArg GrEntry.state hent, congrArg GrEntry.gid hent, congrArg GrEntry.gen hent, ?_, fun j hj => ?_⟩
    · exact SMap.find_insert_self ..
    · exact s.chip.fresh.ent_modEnt_ne hj fun e =>
        { e with state := .opened, gid := s.chip.keyGid (s.chip.chanOf m 0x15) w, gen := Word.field w 0 16 }
  case unkey =>
    intro s m w hopen hvalid hstate
    have hexec := exec_grGkeyWrite (m := m) (w := w) hopen
    rw [Chip.grKey_free s.chip.fresh hvalid hstate] at hexec
    have hent : (s.chip.fresh.grKeyTake (s.chip.chanOf m 0x15) false (s.chip.keyGid (s.chip.chanOf m 0x15) w) (Word.field w 0 16)).ent
        (s.chip.chanOf m 0x15) = _ := Chip.ent_modEnt _ _ _
    exact ⟨_, hexec, rfl, congrArg GrEntry.state hent, rfl⟩
  case keyShut =>
    intro s m w hopen hstate
    exact ⟨_, exec_grGkeyWrite hopen, rfl, s.chip.fresh.grKey_shut hstate⟩
  case keyBack =>
    intro s m w hopen hvalid hstate hnone hhas hgen
    exact ⟨_, exec_grGkeyWrite hopen, rfl, s.chip.fresh.grKey_back hvalid hstate hnone hhas hgen⟩
  case find =>
    intro s m w hopen
    refine ⟨_, exec_findGid hopen, rfl, ?_, rfl⟩
    exact (congrArg (fun v => Word.field v 0 12) (Chip.regOf_setRegOf ..) :).trans (Word.field_merge (by decide) _ _)
  case sealed =>
    intro s m w hopen hstate hapex hgen hdecl htext
    have hexec := exec_sealCmd (m := m) (w := w) hopen
    rw [Chip.grSeal_taken s.chip.fresh hstate hapex hgen hdecl htext] at hexec
    have hleaves := s.chip.fresh.sealed_leaves (g := s.chip.chanOf m 0x15) (.simple 1 (s.chip.ent (s.chip.chanOf m 0x15)).gen)
    have hfresh : s.chip.fresh.ent = s.chip.ent := rfl
    rw [hfresh] at hexec hleaves
    generalize Chip.regroup _ _ = d at hexec hleaves
    obtain ⟨hgid, hgen', hsealed⟩ : (d.ent (s.chip.chanOf m 0x15)).gid = (s.chip.ent (s.chip.chanOf m 0x15)).gid
        ∧ (d.ent (s.chip.chanOf m 0x15)).gen = (s.chip.ent (s.chip.chanOf m 0x15)).gen
        ∧ (d.ent (s.chip.chanOf m 0x15)).state.isSealed = true := by
      simpa only [Chip.view, GrEntry.key, Prod.mk.injEq] using hleaves
    exact ⟨_, hexec, rfl, hsealed, hgen', hgid⟩
  case sealNot =>
    intro s m w hopen hbad
    exact ⟨_, exec_sealCmd hopen, rfl, s.chip.fresh.grSeal_refused hbad⟩
  case dissolve =>
    intro s m w hopen hfree hquar hgen
    have hent := s.chip.fresh.grDissolve_taken hfree hquar hgen
    have htk : (if (s.chip.fresh.ent (s.chip.chanOf m 0x15)).apex then
        s.chip.fresh.fanGcmd (s.chip.chanOf m 0x15) (.simple 2 (Word.field w 0 16)) else s.chip.fresh).tk = s.chip.tk := by
      split
      · exact Chip.fanGcmd_tk _ _ _
      · rfl
    rw [htk] at hent
    have hexec := exec_dissolve (m := m) (w := w) hopen
    generalize s.chip.fresh.grDissolve _ _ = d at hexec hent
    exact ⟨_, hexec, rfl, congrArg GrEntry.state hent, congrArg GrEntry.quarAt hent, congrArg GrEntry.barrier hent,
      congrArg GrEntry.arrivals hent, congrArg GrEntry.censusOk hent⟩
  case dissolveNot =>
    intro s m w hopen hquar hgen
    exact ⟨_, exec_dissolve hopen, rfl, s.chip.fresh.grDissolve_refused hquar hgen⟩
  case admitted =>
    intro s m w hopen hhub _ hapex hstate hgen hlow hhigh hlevel hbelow hclosed hpend hcourse hhi hlo
    have hleaves := State.changed_leaves (m := s.chip.change (s.chip.chanOf m 0x15) m 3 w) hhub hapex hstate hgen hlow hhigh hlevel
      hbelow hclosed hpend hcourse (by
        have hdelta : (s.chip.change (s.chip.chanOf m 0x15) m 3 w).delta =
          (Word.field (s.chip.regOf m Reg.GR_GCARG2 (s.chip.chanOf m 0x15)) 0 25 : Int) := rfl
        omega)
    have hexec := exec_admitCmd (m := m) (w := w) hopen
    generalize s.chip.fresh.grChange _ _ = d at hexec hleaves
    exact ⟨_, hexec, rfl, congrArg (fun x => x.2.1) hleaves, congrArg Prod.fst hleaves, congrArg (fun x => x.2.2.1) hleaves⟩
  case expel =>
    intro s m w hopen hhub _ hapex hstate hgen hlow hhigh hlevel hbelow hclosed hpend hcourse hlo hhi
    have hleaves := State.changed_leaves (m := s.chip.change (s.chip.chanOf m 0x15) m 4 w) hhub hapex hstate hgen hlow hhigh hlevel
      hbelow hclosed hpend hcourse (by
        have hdelta : (s.chip.change (s.chip.chanOf m 0x15) m 4 w).delta =
          -(Word.field (s.chip.regOf m Reg.GR_GCARG2 (s.chip.chanOf m 0x15)) 0 25 : Int) := rfl
        omega)
    have hexec := exec_expel (m := m) (w := w) hopen
    generalize s.chip.fresh.grChange _ _ = d at hexec hleaves
    exact ⟨_, hexec, rfl, congrArg (fun x => x.2.1) hleaves, congrArg Prod.fst hleaves⟩
  case admitNot =>
    intro s m w hopen hquar hapex
    exact ⟨_, exec_admitCmd hopen, rfl, s.chip.fresh.grChange_below hapex hquar⟩
  case expelNot =>
    intro s m w hopen hquar hapex
    exact ⟨_, exec_expel hopen, rfl, s.chip.fresh.grChange_below hapex hquar⟩
  case quarantine =>
    intro s i hrst hi hquar
    have hquar' : ((s.chip.newCycle.ent i.val).state == .quar) = true := beq_iff_eq.2 hquar
    refine ⟨{ s with chip := (s.chip.fresh.modEnt i.val fun _ => .reset).clearMortar i.val }, ?_, rfl, ?_, fun j hj => ?_, rfl⟩
    · show execQuarantineEnd i s = _
      rw [execQuarantineEnd, if_pos hi, State.run_eq hrst]
      simp only [hquar', if_true]
    · exact s.chip.fresh.ent_modEnt i.val fun _ => .reset
    · exact s.chip.fresh.ent_modEnt_ne hj fun _ => .reset
  case quarantineNot =>
    intro s i hrst hi hquar
    have hquar' : ((s.chip.newCycle.ent i.val).state == .quar) = false := beq_false_of_ne hquar
    refine ⟨{ s with chip := s.chip.fresh }, ?_, rfl, rfl, rfl⟩
    show execQuarantineEnd i s = _
    rw [execQuarantineEnd, if_pos hi, State.run_eq hrst]
    simp only [hquar', Bool.false_eq_true, if_false]

end Sys2Proof.Machine
end

section
/-!
O60: group commands and censuses as they are received (R272 to R284).
-/

namespace Sys2Proof.Machine

/-! ### What a port has received -/

section Received

variable (c : Chip) (q : Nat)

theorem Chip.unsent_ite {p : Prop} [Decidable p] {x y : Chip} {w : PortState} (hx : x.unsent q = w) (hy : y.unsent q = w) :
    (if p then x else y).unsent q = w := by
  split
  · exact hx
  · exact hy

@[simp] theorem Chip.unsent_modEnt (g : Nat) (f : GrEntry → GrEntry) : (c.modEnt g f).unsent q = c.unsent q := rfl

@[simp] theorem Chip.unsent_bump (r : RegRow) (n i j : Nat) : (c.bump r n i j).unsent q = c.unsent q := rfl

theorem Chip.unsent_record (n : Nat) (r : Rep) : (c.record n r).unsent q = c.unsent q := by
  unfold Chip.record
  dsimp only
  rw [Chip.unsent_enqueueRec, Chip.unsent_param, Chip.unsent_param, Chip.unsent_param]

theorem Chip.unsent_hsTake (u : Nat) (n : Int) : (c.hsTake u n).unsent q = c.unsent q := by
  unfold Chip.hsTake
  extract_lets x cfg w b cur sat first x' taken
  exact Chip.unsent_ite q (Chip.unsent_report _ _ _ q) rfl

theorem Chip.unsent_hsOffer (a i u : Nat) (n : Int) : (c.hsOffer a i n u).unsent q = c.unsent q := by
  unfold Chip.hsOffer
  extract_lets cfg x bumped noted
  refine Chip.unsent_ite q (Chip.unsent_ite q (c.unsent_hsTake q u _) (Chip.unsent_ite q rfl ?_)) rfl
  have hnoted : noted.unsent q = c.unsent q := Chip.unsent_note _ _ _ q
  exact Chip.unsent_ite q hnoted ((Chip.unsent_record _ q _ _).trans hnoted)

theorem Chip.rxM_of_unsent {a b : Chip} {q : Nat} (h : a.unsent q = b.unsent q) : (a.port q).q.rxM = (b.port q).q.rxM :=
  (congrArg (fun x : PortState => x.q.rxM) h :)

theorem Chip.unsent_sample (a i : Nat) (n : Int) : (c.sample a i n).unsent q = c.unsent q := by
  unfold Chip.sample
  split
  · rfl
  · refine foldl_keeps (fun x : Chip => x.unsent q) _ _ c ?_
    exact fun x u => x.unsent_hsOffer q a i u n

theorem Chip.unsent_cwaitExit (g : Nat) : (c.cwaitExit g).unsent q = c.unsent q := by
  unfold Chip.cwaitExit
  split
  · exact foldl_keeps (fun x : Chip => x.unsent q) _ _ c fun x e => rfl
  · rfl

theorem Chip.unsent_censusDone (g : Nat) : (c.censusDone g).unsent q = c.unsent q := by
  unfold Chip.censusDone
  dsimp only
  refine Chip.unsent_ite q rfl ?_
  rw [Chip.unsent_cwaitExit, Chip.unsent_report]
  rfl

theorem Chip.unsent_censusDown (g : Nat) (sig : Bool × Bool × Bool) : (c.censusDown g sig).unsent q = c.unsent q := by
  unfold Chip.censusDown
  dsimp only
  refine (foldl_keeps (fun x : Chip => x.unsent q) _ _ _ fun x p => x.unsent_sendCells p _ _ q).trans ?_
  rfl

theorem Chip.unsent_judgeCensus (g old : Nat) : (c.judgeCensus g old).unsent q = c.unsent q := by
  unfold Chip.judgeCensus
  extract_lets e dcl short many fs ok base rep judged flagged feat moved done sig
  have hjudged : judged.unsent q = c.unsent q := c.unsent_modEnt q g _
  have hflagged : flagged.unsent q = c.unsent q := (Chip.unsent_ite q (Chip.unsent_report _ _ _ q) rfl).trans hjudged
  have hfeat : feat.unsent q = c.unsent q := (Chip.unsent_ite q (Chip.unsent_report _ _ _ q) rfl).trans hflagged
  have hmoved : moved.unsent q = c.unsent q :=
    (Chip.unsent_ite q ((Chip.unsent_report _ _ _ q).trans (feat.unsent_modEnt q g _))
      (Chip.unsent_ite q (feat.unsent_modEnt q g _) rfl)).trans hfeat
  have hdone : done.unsent q = c.unsent q :=
    (Chip.unsent_ite q (Chip.unsent_censusDone _ q g) (moved.unsent_modEnt q g _)).trans hmoved
  exact Chip.unsent_ite q rfl (Chip.unsent_ite q hdone ((Chip.unsent_censusDown _ q g sig).trans hdone))

theorem Chip.unsent_censusSend (g : Nat) : (c.censusSend g).unsent q = c.unsent q := by
  unfold Chip.censusSend
  dsimp only
  exact Chip.unsent_ite q rfl (Chip.unsent_sendCells _ _ _ _ q)

theorem Chip.unsent_dieCensus : c.dieCensus.unsent q = c.unsent q := by
  unfold Chip.dieCensus
  split
  · rfl
  · refine foldl_keeps (fun x : Chip => x.unsent q) _ _ c fun x g => ?_
    dsimp only
    exact Chip.unsent_ite q (x.unsent_censusSend q g) rfl

theorem Chip.unsent_fanGcmd (g : Nat) (m : Gcmd) : (c.fanGcmd g m).unsent q = c.unsent q := by
  refine foldl_keeps (fun x : Chip => x.unsent q) _ _ c fun x p => ?_
  unfold Chip.sendGcmd
  dsimp only
  exact Chip.unsent_ite q (Chip.unsent_ite q (x.unsent_sendCells p _ _ q) (x.unsent_sendCells p _ _ q)) (x.unsent_report _ _ q)

theorem Chip.unsent_outputLanes (g n : Nat) (vals : List LaneVal) : (c.outputLanes g n vals).1.unsent q = c.unsent q := by
  unfold Chip.outputLanes
  refine foldl_keeps (fun m : Chip × List LaneVal => m.1.unsent q) _ _ (c, []) fun m p => ?_
  exact Chip.unsent_ite q (Chip.unsent_report _ _ _ q) rfl

theorem Chip.unsent_combineUp (g n : Nat) : (c.combineUp g n).unsent q = c.unsent q := by
  unfold Chip.combineUp
  extract_lets e all out sent
  have hsent : sent.unsent q = c.unsent q :=
    (Chip.unsent_count _ _ _ _ q).trans (c.unsent_outputLanes q g n all.1)
  unfold Chip.sendUp
  refine Chip.unsent_ite q ?_ hsent
  exact (Chip.unsent_sample _ q _ _ _).trans ((Chip.unsent_sendCells _ _ _ _ q).trans hsent)

end Received

/-! ### An entry below the apex -/

section Below

variable (c : Chip) {g : Nat}

theorem Chip.judgeCensus_below (hbelow : (c.ent g).apex = false) (old : Nat) : c.judgeCensus g old = c := by
  unfold Chip.judgeCensus
  extract_lets e dcl short many fs ok base rep judged flagged feat moved done sig
  exact if_pos (by rw [show e.apex = false from hbelow]; rfl)

theorem Chip.markShort_below (hbelow : (c.ent g).apex = false) : c.markShort g = c := by
  unfold Chip.markShort
  dsimp only
  rw [hbelow]
  split
  · exact if_neg (by rw [Bool.false_and]; exact Bool.false_ne_true)
  · rfl

/-- Below the apex an open barrier sends what has been combined up, where it is due (R223). -/
theorem Chip.judgeBarrier_below (hbelow : (c.ent g).apex = false) : c.judgeBarrier g = c ∨ ∃ n, c.judgeBarrier g = c.combineUp g n := by
  unfold Chip.judgeBarrier
  dsimp only
  rw [hbelow]
  split
  · exact Or.inl rfl
  · rename_i n _
    split
    · exact Or.inl rfl
    · rw [if_neg Bool.false_ne_true]
      split
      · exact Or.inr ⟨n, rfl⟩
      · exact Or.inl rfl

theorem Chip.regroup_below (hbelow : (c.ent g).apex = false) :
    c.regroup g = c.modEnt g (fun e => e.recount c.id.hub)
      ∨ ∃ n, c.regroup g = (c.modEnt g fun e => e.recount c.id.hub).combineUp g n := by
  have hbelow' : ((c.modEnt g fun e => e.recount c.id.hub).ent g).apex = false := by
    rw [Chip.ent_modEnt]
    exact hbelow
  have hregroup : c.regroup g = (c.modEnt g fun e => e.recount c.id.hub).judgeBarrier g := by
    show (((c.modEnt g fun e => e.recount c.id.hub).judgeCensus g _).markShort g).judgeBarrier g = _
    rw [Chip.judgeCensus_below _ hbelow', Chip.markShort_below _ hbelow']
  rw [hregroup]
  exact Chip.judgeBarrier_below _ hbelow'

/-- An entry below the apex that is judged again keeps all but its own count (R274). -/
theorem Chip.own_regroup (hbelow : (c.ent g).apex = false) :
    (c.regroup g).view GrEntry.own g = ((c.ent g).recount c.id.hub).own := by
  have hrecount : (c.modEnt g fun e => e.recount c.id.hub).view GrEntry.own g = ((c.ent g).recount c.id.hub).own := by
    rw [Chip.view, Chip.ent_modEnt]
  rcases c.regroup_below hbelow with h | ⟨n, h⟩
  · rw [h, hrecount]
  · rw [h, Chip.view_combineUp _ _ GrEntry.own_blind, hrecount]

theorem Chip.unsent_regroup_below (hbelow : (c.ent g).apex = false) (q : Nat) : (c.regroup g).unsent q = c.unsent q := by
  rcases c.regroup_below hbelow with h | ⟨n, h⟩
  · rw [h, Chip.unsent_modEnt]
  · rw [h, Chip.unsent_combineUp, Chip.unsent_modEnt]

end Below

/-! ### Cells at the head of a buffer -/

section Heads

variable (c : Chip) {p g : Nat} {x : Cell}

theorem Chip.gcmdAt_met {op : Nat} {ok : GrEntry → Gcmd → Bool} (f : Chip → Nat → Gcmd → Chip) (hhead : c.headM p 0x42 = some x)
    (hop : (Gcmd.read x).op = op) (hmeet : c.meet x = .inl g) (hbelow : (c.ent g).apex = false) (hup : p = c.groupUp g)
    (hok : ok (c.ent g) (Gcmd.read x) = true) : c.gcmdAt p op ok f = f (c.popRx p clsM 1) g (Gcmd.read x) := by
  have hmeet' : (c.popRx p clsM 1).meet x = .inl g := hmeet
  have hbelow' : ((c.popRx p clsM 1).ent g).apex = false := hbelow
  have hup' : (p != (c.popRx p clsM 1).groupUp g) = false := bne_eq_false_iff_eq.2 hup
  have hok' : ok ((c.popRx p clsM 1).ent g) (Gcmd.read x) = true := hok
  simp only [Chip.gcmdAt, hhead, hop, hmeet', hbelow', hup', hok', bne_self_eq_false, Bool.or_self, Bool.false_eq_true, if_false,
    if_true]

/-- A group command at the apex, or by a port that is not the group's upward one, is stale (R279). -/
theorem Chip.gcmdAt_stale {op : Nat} {ok : GrEntry → Gcmd → Bool} (f : Chip → Nat → Gcmd → Chip) (hhead : c.headM p 0x42 = some x)
    (hop : (Gcmd.read x).op = op) (hmeet : c.meet x = .inl g) (hwrong : (c.ent g).apex = true ∨ p ≠ c.groupUp g) :
    c.gcmdAt p op ok f = (c.popRx p clsM 1).stale x.group p 8 (Gcmd.read x).gen := by
  have hmeet' : (c.popRx p clsM 1).meet x = .inl g := hmeet
  have hwrong' : (((c.popRx p clsM 1).ent g).apex || p != (c.popRx p clsM 1).groupUp g) = true := by
    rcases hwrong with h | h
    · rw [show ((c.popRx p clsM 1).ent g).apex = true from h, Bool.true_or]
    · rw [show (p != (c.popRx p clsM 1).groupUp g) = true from bne_iff_ne.2 h, Bool.or_true]
  simp only [Chip.gcmdAt, hhead, hop, hmeet', hwrong', bne_self_eq_false, Bool.false_eq_true, if_false, if_true]

theorem Chip.stale_leaves (gid q reason gen : Nat) :
    ((c.popRx p clsM 1).stale gid q reason gen).gr = c.gr
      ∧ (((c.popRx p clsM 1).stale gid q reason gen).port p).q.rxM = (c.port p).q.rxM.drop 1 := by
  refine ⟨Chip.stale_gr _ _ _ _ _, ?_⟩
  refine (Chip.rxM_of_unsent ((Chip.unsent_report _ _ _ p).trans (Chip.unsent_bump _ p _ _ _ _))).trans ?_
  exact c.popRx_rxM p 1

theorem Chip.censusAt_met {down : Bool} (f : Chip → Nat → Cell → Chip) (hhead : c.headB p 0x22 = some x)
    (hdown : Word.bit (x.pay 2) 31 = down) (hmeet : c.meet x = .inl g) : c.censusAt p down f = f (c.popRx p clsB 1) g x := by
  simp only [Chip.censusAt, hhead, hdown, hmeet, bne_self_eq_false, Bool.false_eq_true, if_false]

end Heads

/-- A census has the type that every version has (R88). -/
theorem newType_census {g : Nat} (hg : g < 4096) {pay : List Word} (hlen : pay.length = 4) : newType (mkCell clsB 0x22 g pay) = false := by
  have hhead : Cell.typ (mkCell clsB 0x22 g pay) =
      Word.field (Word.place clsB 28 ||| Word.place 0x22 20 ||| Word.place g 8 ||| BitVec.ofNat 32 pay.length) 20 8 := rfl
  have hrest : ∀ i < 8, Word.bit (BitVec.ofNat 32 4) (20 + i) = false := by decide
  have hgroup : ∀ i, Word.bit (Word.place g 8) (20 + i) = false := fun i => by
    rw [Word.bit, Word.place, BitVec.getLsbD_ofNat, Nat.testBit_shiftLeft, Nat.testBit_lt_two_pow, Bool.and_false, Bool.and_false]
    exact Nat.lt_of_lt_of_le hg (Nat.pow_le_pow_right (n := 2) (i := 12) (by decide) (by omega))
  have htyp : Cell.typ (mkCell clsB 0x22 g pay) = Word.field (Word.place clsB 28 ||| Word.place 0x22 20) 20 8 := by
    rw [hhead, hlen]
    refine Word.field_congr fun i hi => ?_
    have hg' := hgroup i
    have hr' := hrest i hi
    simp only [Word.bit, BitVec.getLsbD_or] at hg' hr' ⊢
    rw [hg', hr', Bool.or_false, Bool.or_false]
  rw [newType, htyp]
  decide

/-! ### Changes at a die -/

section Die

variable (c : Chip) {g : Nat}

/-- An entry as an admission leaves it (R282). -/
def GrEntry.admittedFrom (e : GrEntry) (n : Nat) : GrEntry :=
  { e with
    state := .sealed, downSent := some (false, false, false), upSent := none, expelled := false, admitted := true
    admCourse := n, admDue := true, expDue := false, censusOk := false, lanes := e.lanes.filter fun l => decide (n ≤ l.1) }

/-- An entry as an expulsion marks it (R283). -/
def GrEntry.expelledFrom (e : GrEntry) (n : Nat) : GrEntry := { e with expelled := true, expCourse := n, expDue := true }

/-- An entry without its barrier and the arrivals at it. -/
def GrEntry.unbarred (e : GrEntry) : GrEntry := { e.own with barrier := none, arrivals := [] }

theorem Chip.expelHeld_ent (n : Nat) : ((c.expelHeld g n).ent g).unbarred = (c.ent g).unbarred := by
  unfold Chip.expelHeld
  dsimp only
  split
  · rw [Chip.ent_modEnt]
    rfl
  · rfl

/-- A die's entry marked by a change, before the change is told (R282, R283). -/
def Chip.takeChange (c : Chip) (g : Nat) (m : Gcmd) : Chip :=
  if m.op == 3 then
    (c.sealEnt g).modEnt g fun e =>
      { e with
        expelled := false, admitted := true, admCourse := m.course, admDue := true, expDue := false
        censusOk := false, lanes := e.lanes.filter fun l => decide (m.course ≤ l.1) }
  else (c.modEnt g fun e => e.expelledFrom m.course).expelHeld g m.course

theorem Chip.takeChange_leaves (m : Gcmd) : (c.takeChange g m).id = c.id ∧ ∀ q, (c.takeChange g m).unsent q = c.unsent q := by
  have hexpel : ∀ d : Chip, (d.expelHeld g m.course).id = d.id ∧ ∀ q, (d.expelHeld g m.course).unsent q = d.unsent q := fun d => by
    unfold Chip.expelHeld
    dsimp only
    split <;> exact ⟨rfl, fun q => rfl⟩
  unfold Chip.takeChange
  split
  · exact ⟨rfl, fun q => rfl⟩
  · exact hexpel _

theorem Chip.takeChange_admits {m : Gcmd} (hop : m.op = 3) : (c.takeChange g m).ent g = (c.ent g).admittedFrom m.course := by
  rw [Chip.takeChange, if_pos (beq_iff_eq.2 hop), Chip.ent_modEnt, Chip.sealEnt, Chip.ent_modEnt]
  rfl

theorem Chip.takeChange_expels {m : Gcmd} (hop : m.op = 4) :
    ((c.takeChange g m).ent g).unbarred = ((c.ent g).expelledFrom m.course).unbarred := by
  have hop' : (m.op == 3) = false := by rw [hop]; rfl
  rw [Chip.takeChange, hop', if_neg Bool.false_ne_true, Chip.expelHeld_ent, Chip.ent_modEnt]

theorem Chip.noGroup_leaves (l : List (Nat × ThreadState)) :
    (l.foldl (fun c t => c.thFault t.1 Event.SQ_NOGROUP 4) c).gr = c.gr
      ∧ (l.foldl (fun c t => c.thFault t.1 Event.SQ_NOGROUP 4) c).id = c.id
      ∧ ∀ q, (l.foldl (fun c t => c.thFault t.1 Event.SQ_NOGROUP 4) c).unsent q = c.unsent q := by
  refine ⟨foldl_keeps Chip.gr _ l c ?_, foldl_keeps Chip.id _ l c ?_, fun q => foldl_keeps (fun x : Chip => x.unsent q) _ l c ?_⟩
  · exact fun x t => x.thFault_gr _ _ _
  · exact fun x t => Chip.report_id _ _ _
  · exact fun x t => Chip.unsent_report _ _ _ q

/-- A change at a die that knows no release yet is told, and the entry judged again. -/
theorem Chip.changeDie_unreleased {m : Gcmd} (hbelow : ((c.takeChange g m).ent g).apex = false)
    (hnone : ((c.takeChange g m).ent g).latest = none) (n : Nat) :
    (c.changeDie g m n).view GrEntry.own g = (((c.takeChange g m).ent g).recount c.id.hub).own
      ∧ ∀ q, (c.changeDie g m n).unsent q = c.unsent q := by
  obtain ⟨hid, hunsent⟩ := c.takeChange_leaves (g := g) m
  unfold Chip.changeDie
  extract_lets taken told faulted released
  change (taken.ent g).apex = false at hbelow
  change (taken.ent g).latest = none at hnone
  change taken.id = c.id at hid
  change ∀ q, taken.unsent q = c.unsent q at hunsent
  change _ = ((taken.ent g).recount c.id.hub).own ∧ _
  have htold : told.gr = taken.gr ∧ told.id = taken.id ∧ ∀ q, told.unsent q = taken.unsent q :=
    ⟨Chip.report_gr _ _ _, Chip.report_id _ _ _, fun q => Chip.unsent_report _ _ _ q⟩
  have hfaulted : faulted.gr = taken.gr ∧ faulted.id = taken.id ∧ ∀ q, faulted.unsent q = taken.unsent q := by
    simp only [faulted]
    split
    · obtain ⟨hgr, hid, hunsent⟩ := told.noGroup_leaves
        ((told.bound g).filter fun t => t.2.mode == .waitB && decide (m.course ≤ t.2.course))
      exact ⟨hgr.trans htold.1, hid.trans htold.2.1, fun q => (hunsent q).trans (htold.2.2 q)⟩
    · exact htold
  obtain ⟨hgr, hfid, hfunsent⟩ := hfaulted
  have hent : faulted.ent g = taken.ent g := Chip.ent_of_gr hgr g
  have hreleased : released = faulted := by
    simp only [released, hent, hnone]
  have hbelow' : (faulted.ent g).apex = false := by rw [hent, hbelow]
  rw [hreleased]
  refine ⟨?_, fun q => ?_⟩
  · rw [Chip.view_dieCensus _ _ GrEntry.own_blind, Chip.own_regroup _ hbelow', hent, hfid, hid]
  · rw [Chip.unsent_dieCensus, Chip.unsent_regroup_below _ hbelow', hfunsent, hunsent]

end Die

/-! ### What each cell leaves -/

section Leaves

variable (c : Chip) {g : Nat}

/-- The seal of an open entry below the apex, told on (R273). -/
def Chip.sealMember (c : Chip) (g : Nat) (m : Gcmd) : Chip :=
  if ((c.sealOpen g).regroup g).id.hub then ((c.sealOpen g).regroup g).fanGcmd g m else ((c.sealOpen g).regroup g).censusSend g

theorem Chip.sealMember_leaves (m : Gcmd) (hopen : (c.ent g).state = .opened) (hbelow : (c.ent g).apex = false) :
    ((c.sealMember g m).ent g).state = .sealed ∧ ((c.sealMember g m).ent g).gen = (c.ent g).gen
      ∧ ∀ q, (c.sealMember g m).unsent q = c.unsent q := by
  have hsealed : c.sealOpen g = c.sealEnt g := if_pos (beq_iff_eq.2 hopen)
  have hent : (c.sealEnt g).ent g = { c.ent g with state := .sealed, downSent := some (false, false, false), upSent := none } :=
    Chip.ent_modEnt _ _ _
  have hbelow' : ((c.sealEnt g).ent g).apex = false := by rw [hent]; exact hbelow
  have hown : (c.sealMember g m).view GrEntry.own g = (((c.sealEnt g).ent g).recount (c.sealEnt g).id.hub).own := by
    unfold Chip.sealMember
    rw [hsealed]
    exact (view_ite (Chip.view_fanGcmd _ g GrEntry.own_blind g m) (Chip.view_censusSend _ g GrEntry.own_blind g)).trans
      (Chip.own_regroup _ hbelow')
  rw [hent] at hown
  refine ⟨(congrArg GrEntry.state hown :), (congrArg GrEntry.gen hown :), fun q => ?_⟩
  unfold Chip.sealMember
  rw [hsealed]
  exact (Chip.unsent_ite q (Chip.unsent_fanGcmd _ q g m) (Chip.unsent_censusSend _ q g)).trans
    (Chip.unsent_regroup_below _ hbelow' q)

theorem Chip.changeDie_admits {m : Gcmd} (hop : m.op = 3) (hbelow : (c.ent g).apex = false) (hnone : (c.ent g).latest = none) (n : Nat) :
    ((c.changeDie g m n).ent g).state = .sealed ∧ ((c.changeDie g m n).ent g).admitted = true
      ∧ ((c.changeDie g m n).ent g).admDue = true ∧ ((c.changeDie g m n).ent g).admCourse = m.course
      ∧ ∀ q, (c.changeDie g m n).unsent q = c.unsent q := by
  have hent := c.takeChange_admits (g := g) hop
  obtain ⟨hown, hunsent⟩ := c.changeDie_unreleased (g := g) (m := m) (by rw [hent]; exact hbelow) (by rw [hent]; exact hnone) n
  rw [hent] at hown
  exact ⟨(congrArg GrEntry.state hown :), (congrArg GrEntry.admitted hown :), (congrArg GrEntry.admDue hown :),
    (congrArg GrEntry.admCourse hown :), hunsent⟩

theorem Chip.changeDie_expels {m : Gcmd} (hop : m.op = 4) (hbelow : (c.ent g).apex = false) (hnone : (c.ent g).latest = none) (n : Nat) :
    ((c.changeDie g m n).ent g).expelled = true ∧ ((c.changeDie g m n).ent g).expDue = true
      ∧ ((c.changeDie g m n).ent g).expCourse = m.course ∧ ((c.changeDie g m n).ent g).state = (c.ent g).state := by
  have hent := c.takeChange_expels (g := g) hop
  have hmode : ((c.takeChange g m).ent g).mode = (c.ent g).mode := (congrArg GrEntry.mode hent :)
  have hlatest : ((c.takeChange g m).ent g).latest = (c.ent g).latest := (congrArg GrEntry.latest hent :)
  obtain ⟨hown, -⟩ := c.changeDie_unreleased (g := g) (m := m)
    (by rw [GrEntry.apex, hmode]; exact hbelow) (hlatest.trans hnone) n
  refine ⟨(congrArg GrEntry.expelled hown :).trans (congrArg GrEntry.expelled hent :),
    (congrArg GrEntry.expDue hown :).trans (congrArg GrEntry.expDue hent :),
    (congrArg GrEntry.expCourse hown :).trans (congrArg GrEntry.expCourse hent :),
    (congrArg GrEntry.state hown :).trans (congrArg GrEntry.state hent :)⟩

theorem Chip.applyChange_die (hdie : c.id.hub = false) (m : Gcmd) (p : Nat) : c.applyChange g m p = c.changeDie g m p := by
  rw [Chip.applyChange, hdie, if_neg Bool.false_ne_true]

/-- A cell of a type that every version has enters a class B queue with room where nothing of the class waits. -/
theorem Chip.sendCells_known {c : Chip} {q : Nat} {x : Cell} (hcarries : c.carries q = true) (hin : c.tr.excluded.contains q = false)
    (hold : newType x = false) (hroom : (c.port q).q.txB.length < 128)
    (hnone : ((c.port q).q.wait.any fun w => w.1 == clsB) = false) :
    ((c.sendCells q clsB [x]).port q).q.txB = (c.port q).q.txB ++ [{ cell := x, at_ := c.tk.frc }] := by
  have htakes : c.takesType q clsB ([x].any newType) = true := by
    simp only [Chip.takesType, Chip.carriesCls, hcarries, hin, List.any_cons, hold, List.any_nil, Bool.or_false, Bool.not_false,
      Bool.or_true, Bool.and_self, Bool.and_false]
  have hpush : ((c.port q).q.tx clsB).length < txSize clsB := hroom
  rw [Chip.sendCells, if_pos htakes, Chip.modQ, Chip.port_modPort]
  simp only [List.foldl_cons, List.foldl_nil, PortQueues.push, hpush, hnone, decide_true, Bool.not_false, Bool.and_self, if_true]
  rfl

/-- A census that a hub sends upwards is kept as sent (R275). -/
theorem Chip.censusSend_leaves (hhub : c.id.hub = true) (hg : g < 4096) (hfence : c.hg.fenced = false)
    (hcarries : c.carries (c.groupUp g) = true) (hin : c.tr.excluded.contains (c.groupUp g) = false)
    (hroom : (c.port (c.groupUp g)).q.txB.length < 128)
    (hnone : ((c.port (c.groupUp g)).q.wait.any fun w => w.1 == clsB) = false) :
    ((c.censusSend g).ent g).upSent = some (c.censusUp g)
      ∧ ((c.censusSend g).port (c.groupUp g)).q.txB =
        (c.port (c.groupUp g)).q.txB ++ [{ cell := mkCell clsB 0x22 g (c.censusUp g), at_ := c.tk.frc }]
      ∧ (c.censusSend g).regs = c.regs := by
  have hsend : c.censusSend g = (c.modEnt g fun e => { e with upSent := some (c.censusUp g) }).sendCells (c.groupUp g) clsB
      [mkCell clsB 0x22 g (c.censusUp g)] := by
    have hgid : c.gidOf g = g := by rw [Chip.gidOf, hhub, if_pos rfl]
    rw [← hgid, hgid]
    unfold Chip.censusSend
    dsimp only
    rw [hfence, if_neg Bool.false_ne_true, hgid]
  rw [hsend]
  refine ⟨?_, ?_, Chip.sendCells_regs _ _ _ _⟩
  · rw [Chip.ent_of_gr (Chip.sendCells_gr _ _ _ _), Chip.ent_modEnt]
  · exact Chip.sendCells_known (c := c.modEnt g fun e => { e with upSent := some (c.censusUp g) }) hcarries hin (newType_census hg rfl)
      hroom hnone

/-- What a census cell says of its port (R274). -/
def portCensus (x : Cell) : PortCensus :=
  { count := Word.field (x.pay 3) 0 25, fsup := Word.field (x.pay 4) 8 8, dp := Word.field (x.pay 5) 0 24
    calculated := Word.bit (x.pay 5) 31 }

theorem Chip.unsent_markShort (q g : Nat) : (c.markShort g).unsent q = c.unsent q := by
  unfold Chip.markShort
  dsimp only
  split
  · exact Chip.unsent_ite q (c.unsent_modEnt q g _) rfl
  · rfl

theorem Chip.unsent_regroup_closed (hclosed : (c.ent g).barrier = none) (q : Nat) : (c.regroup g).unsent q = c.unsent q := by
  have hunsent : ∀ n, ((((c.modEnt g fun e => e.recount c.id.hub).judgeCensus g n).markShort g)).unsent q = c.unsent q := fun n => by
    rw [Chip.unsent_markShort, Chip.unsent_judgeCensus, Chip.unsent_modEnt]
  have hbarrier : (((((c.modEnt g fun e => e.recount c.id.hub).judgeCensus g (c.ent g).gcount).markShort g)).ent g).barrier = none := by
    have hjudged : ((((c.modEnt g fun e => e.recount c.id.hub).judgeCensus g (c.ent g).gcount).markShort g)).view GrEntry.kept g =
        ((c.ent g).recount c.id.hub).kept := by
      rw [Chip.view_markShort _ _ GrEntry.kept_unjudged.toBlind, Chip.view_judgeCensus _ _ GrEntry.kept_unjudged, Chip.view,
        Chip.ent_modEnt]
    exact (congrArg GrEntry.barrier hjudged :).trans hclosed
  unfold Chip.regroup
  dsimp only
  exact (congrArg (fun x : Chip => x.unsent q) (Chip.judgeBarrier_closed _ hbarrier)).trans (hunsent _)

/-- A census of a listed port is kept with the port, and the count becomes the sum (R274). -/
theorem Chip.census_leaves (hhub : c.id.hub = true) (hclosed : (c.ent g).barrier = none) (p : Nat) (k : PortCensus) :
    SMap.find (((c.modEnt g fun e => { e with ports := SMap.insert e.ports p k }).regroup g).ent g).ports p
        { count := 0, fsup := 0, dp := 0, calculated := false } = k
      ∧ (((c.modEnt g fun e => { e with ports := SMap.insert e.ports p k }).regroup g).ent g).gcount =
        (((c.modEnt g fun e => { e with ports := SMap.insert e.ports p k }).regroup g).ent g).sums.1
      ∧ ∀ q, ((c.modEnt g fun e => { e with ports := SMap.insert e.ports p k }).regroup g).unsent q = c.unsent q := by
  have hent : (c.modEnt g fun e => { e with ports := SMap.insert e.ports p k }).ent g =
      { c.ent g with ports := SMap.insert (c.ent g).ports p k } := Chip.ent_modEnt _ _ _
  have hclosed' : ((c.modEnt g fun e => { e with ports := SMap.insert e.ports p k }).ent g).barrier = none := by
    rw [hent]
    exact hclosed
  have hview := Chip.view_regroup _ GrEntry.kept_unjudged hclosed'
  have hunsent := fun q => Chip.unsent_regroup_closed _ hclosed' q
  rw [hent, show (c.modEnt g fun e => { e with ports := SMap.insert e.ports p k }).id.hub = true from hhub] at hview
  generalize (c.modEnt g fun e => { e with ports := SMap.insert e.ports p k }).regroup g = d at *
  have hports : (d.ent g).ports = SMap.insert (c.ent g).ports p k := (congrArg GrEntry.ports hview :)
  refine ⟨?_, ?_, hunsent⟩
  · rw [hports, SMap.find_insert_self]
  · exact (congrArg GrEntry.gcount hview :).trans (congrArg (fun e => (GrEntry.sums e).1) hview :).symm

/-- What a census from above leaves of an entry, told on (R276). -/
def Chip.censusPass (c : Chip) (g : Nat) (x : Cell) : Chip :=
  let complete := Word.bit (x.pay 2) 30
  let failed := Word.bit (x.pay 2) 29
  let c := c.modEnt g fun e =>
    { e with
      state := if failed || e.state == .failed then .failed else if complete then .active else e.state
      featShort := Word.bit (x.pay 2) 28
      fen := Word.field (x.pay 4) 0 8
      censusOk := complete && e.censusOk }
  let c := if complete && !failed && (c.ent g).state != .failed && !(c.ent g).admDue then c.censusDone g else c
  if c.id.hub then
    (c.ent g).listed.foldl (fun c q => c.sendCells q clsB [mkCell clsB 0x22 x.group (x.payload.take x.len)]) c
  else c

theorem Chip.censusPass_leaves (x : Cell) :
    ((c.censusPass g x).ent g).state = (if Word.bit (x.pay 2) 29 || (c.ent g).state == .failed then .failed
        else if Word.bit (x.pay 2) 30 then .active else (c.ent g).state)
      ∧ ((c.censusPass g x).ent g).fen = Word.field (x.pay 4) 0 8
      ∧ ((c.censusPass g x).ent g).featShort = Word.bit (x.pay 2) 28
      ∧ ∀ q, (c.censusPass g x).unsent q = c.unsent q := by
  unfold Chip.censusPass
  extract_lets complete failed marked done
  have hdone : done.view GrEntry.own g = (marked.ent g).own :=
    view_ite (Chip.view_censusDone _ g GrEntry.own_blind g) rfl
  have hent : marked.ent g = { c.ent g with
      state := if failed || (c.ent g).state == .failed then .failed else if complete then .active else (c.ent g).state
      featShort := Word.bit (x.pay 2) 28, fen := Word.field (x.pay 4) 0 8, censusOk := complete && (c.ent g).censusOk } :=
    Chip.ent_modEnt _ _ _
  have htold : (if done.id.hub then (done.ent g).listed.foldl
        (fun c q => c.sendCells q clsB [mkCell clsB 0x22 x.group (x.payload.take x.len)]) done else done).view GrEntry.own g =
      (marked.ent g).own := by
    refine view_ite ((view_foldl _ _ done ?_).trans hdone) hdone
    exact fun y q => Chip.view_sendCells _ _ _ _ _
  rw [hent] at htold
  refine ⟨(congrArg GrEntry.state htold :), (congrArg GrEntry.fen htold :), (congrArg GrEntry.featShort htold :), fun q => ?_⟩
  have hunsent : done.unsent q = c.unsent q := Chip.unsent_ite q (Chip.unsent_censusDone _ q g) rfl
  refine Chip.unsent_ite q ((foldl_keeps (fun y : Chip => y.unsent q) _ _ done ?_).trans hunsent) hunsent
  exact fun y r => Chip.unsent_sendCells _ _ _ _ _

end Leaves

section Censuses

variable {s : State} {p : Port} {x : Cell} {g : Nat}

theorem exec_censusReceive (hp : p.val < s.chip.nports) (hrst : s.chip.inReset = false) (hhead : s.chip.headB p.val 0x22 = some x)
    (hup : Word.bit (x.pay 2) 31 = false) (hmeet : s.chip.meet x = .inl g) :
    exec (.censusReceive p) s = .next { s with
      chip :=
        if !(s.chip.fresh.popRx p.val clsB 1).id.hub || decide (64 ≤ p.val)
            || !(((s.chip.fresh.popRx p.val clsB 1).ent g).pmap.testBit p.val) then
          (s.chip.fresh.popRx p.val clsB 1).stale x.group p.val 5 (Word.field (x.pay 2) 0 16)
        else ((s.chip.fresh.popRx p.val clsB 1).modEnt g fun e => { e with ports := SMap.insert e.ports p.val (portCensus x) }).regroup g } := by
  have hcensus := s.chip.fresh.censusAt_met (fun c g x =>
    if !c.id.hub || decide (64 ≤ p.val) || !((c.ent g).pmap.testBit p.val) then
      c.stale x.group p.val 5 (Word.field (x.pay 2) 0 16)
    else (c.modEnt g fun e => { e with ports := SMap.insert e.ports p.val (portCensus x) }).regroup g) hhead hup hmeet
  show execCensusReceive p s = _
  rw [execCensusReceive, State.runPort_eq hp hrst]
  exact congrArg (fun c : Chip => Host.Outcome.next { s with chip := c }) hcensus

theorem censusShut_false {c : Chip} (hhub : c.id.hub = true) (hp : p.val < 64) (hlisted : (c.ent g).pmap.testBit p.val = true) :
    (!c.id.hub || decide (64 ≤ p.val) || !((c.ent g).pmap.testBit p.val)) = false := by
  rw [hhub, hlisted, decide_eq_false (Nat.not_le.2 hp)]
  rfl

theorem exec_censusDownReceive (hp : p.val < s.chip.nports) (hrst : s.chip.inReset = false)
    (hhead : s.chip.headB p.val 0x22 = some x) (hdown : Word.bit (x.pay 2) 31 = true) (hmeet : s.chip.meet x = .inl g)
    (hbelow : (s.chip.ent g).apex = false) (hup : p.val = s.chip.groupUp g) :
    exec (.censusDownReceive p) s = .next { s with chip := (s.chip.fresh.popRx p.val clsB 1).censusPass g x } := by
  have hcensus := s.chip.fresh.censusAt_met (fun c g x =>
    if (c.ent g).apex || p.val != c.groupUp g then c.stale x.group p.val 8 (c.ent g).gen else c.censusPass g x) hhead hdown hmeet
  have hmine : (((s.chip.fresh.popRx p.val clsB 1).ent g).apex || p.val != (s.chip.fresh.popRx p.val clsB 1).groupUp g) = false := by
    rw [show ((s.chip.fresh.popRx p.val clsB 1).ent g).apex = false from hbelow, Bool.false_or]
    exact bne_eq_false_iff_eq.2 hup
  rw [if_neg (Bool.eq_false_iff.1 hmine)] at hcensus
  show execCensusDownReceive p s = _
  rw [execCensusDownReceive, State.runPort_eq hp hrst]
  exact congrArg (fun c : Chip => Host.Outcome.next { s with chip := c }) hcensus

end Censuses

/-- Settles O60: group commands and censuses as they are received. -/
theorem groupCells : Obligations.GroupCells := by
  unfold Obligations.GroupCells
  refine ⟨fun s p x g hrst hp hhead hop hmeet hbelow hup hopen => ?sealed,
    fun s p x g hrst hp hhead hop hmeet hbelow hup => ?dissolve,
    fun s p x g hdie hrst hp hhead hop hmeet hbelow hup hopen hnone => ?admits,
    fun s p x g hdie hrst hp hhead hop hmeet hbelow hup hsealed hnone => ?expels,
    fun s p x g hrst hp hhead hop hmeet hwrong => ?sealStale, fun s p x g hrst hp hhead hop hmeet hwrong => ?dissolveStale,
    fun s p x g hrst hp hhead hop hmeet hwrong => ?admitStale, fun s p x g hrst hp hhead hop hmeet hwrong => ?expelStale,
    fun s i hhub hrst hsealed hbelow hcarries hroom hnone hin hnew hfence => ?censusUp,
    fun s p x g hhub hrst hp hhead hup hmeet hlisted hclosed => ?census,
    fun s p x g hhub hrst hp hhead hup hmeet hunlisted => ?censusStale,
    fun s p x g hrst hp hhead hdown hmeet hbelow hup => ?censusDown⟩
  case sealed =>
    have hgcmd := Chip.gcmdAt_met s.chip.fresh (ok := fun e _ => e.state == .opened || e.state.isSealed) Chip.sealMember
      hhead hop hmeet hbelow hup (by rw [show (s.chip.fresh.ent g).state = .opened from hopen]; rfl)
    have hexec : exec (.sealReceive p) s = .next { s with
        chip := (s.chip.fresh.popRx p.val clsM 1).sealMember g (Gcmd.read x) } := by
      show execSealReceive p s = _
      rw [execSealReceive, State.runPort_eq hp hrst]
      exact congrArg (fun c : Chip => Host.Outcome.next { s with chip := c }) hgcmd
    obtain ⟨hstate, hgen, hunsent⟩ := (s.chip.fresh.popRx p.val clsM 1).sealMember_leaves (Gcmd.read x) hopen hbelow
    refine State.answers hexec fun d hd => ?_
    subst hd
    exact ⟨hstate, hgen, (Chip.rxM_of_unsent (hunsent p.val)).trans (s.chip.fresh.popRx_rxM p.val 1)⟩
  case dissolve =>
    have hgcmd := Chip.gcmdAt_met s.chip.fresh (ok := fun _ _ => true) (fun c g m => (c.fanGcmd g m).dissolve g)
      hhead hop hmeet hbelow hup rfl
    have hexec : exec (.dissolveReceive p) s = .next { s with
        chip := ((s.chip.fresh.popRx p.val clsM 1).fanGcmd g (Gcmd.read x)).dissolve g } := by
      show execDissolveReceive p s = _
      rw [execDissolveReceive, State.runPort_eq hp hrst]
      exact congrArg (fun c : Chip => Host.Outcome.next { s with chip := c }) hgcmd
    refine State.answers hexec fun d hd => ?_
    have hent : d.ent g = _ := (congrArg (fun c : Chip => c.ent g) hd).trans (Chip.dissolve_ent _ g)
    dsimp only
    rw [hent]
    exact ⟨rfl, rfl, rfl⟩
  case admits =>
    have hports : p.val < s.chip.nports := by rw [Chip.nports, hdie]; exact hp
    have htakes : (s.chip.fresh.ent g).dieTakes (Gcmd.read x) = true := by
      rw [GrEntry.dieTakes, hop, show (s.chip.fresh.ent g).state = .opened from hopen]
      rfl
    have hgcmd := Chip.gcmdAt_met s.chip.fresh (ok := fun e m => s.chip.fresh.id.hub || e.dieTakes m)
      (fun c g m => c.applyChange g m p.val) hhead hop hmeet hbelow hup (by rw [htakes, Bool.or_true])
    have hexec : exec (.admitReceive p) s = .next { s with
        chip := (s.chip.fresh.popRx p.val clsM 1).applyChange g (Gcmd.read x) p.val } := by
      show execAdmitReceive p s = _
      rw [execAdmitReceive, State.runPort_eq hports hrst]
      exact congrArg (fun c : Chip => Host.Outcome.next { s with chip := c }) hgcmd
    rw [(s.chip.fresh.popRx p.val clsM 1).applyChange_die hdie] at hexec
    obtain ⟨hstate, hadm, hdue, hcourse, hunsent⟩ := (s.chip.fresh.popRx p.val clsM 1).changeDie_admits hop hbelow hnone p.val
    refine State.answers hexec fun d hd => ?_
    subst hd
    exact ⟨hstate, hadm, hdue, hcourse, (Chip.rxM_of_unsent (hunsent p.val)).trans (s.chip.fresh.popRx_rxM p.val 1)⟩
  case expels =>
    have hports : p.val < s.chip.nports := by rw [Chip.nports, hdie]; exact hp
    have htakes : (s.chip.fresh.ent g).dieTakes (Gcmd.read x) = true := by
      rw [GrEntry.dieTakes, hop]
      exact hsealed
    have hgcmd := Chip.gcmdAt_met s.chip.fresh (ok := fun e m => s.chip.fresh.id.hub || e.dieTakes m)
      (fun c g m => c.applyChange g m p.val) hhead hop hmeet hbelow hup (by rw [htakes, Bool.or_true])
    have hexec : exec (.expelReceive p) s = .next { s with
        chip := (s.chip.fresh.popRx p.val clsM 1).applyChange g (Gcmd.read x) p.val } := by
      show execExpelReceive p s = _
      rw [execExpelReceive, State.runPort_eq hports hrst]
      exact congrArg (fun c : Chip => Host.Outcome.next { s with chip := c }) hgcmd
    rw [(s.chip.fresh.popRx p.val clsM 1).applyChange_die hdie] at hexec
    refine State.answers hexec fun d hd => ?_
    subst hd
    exact (s.chip.fresh.popRx p.val clsM 1).changeDie_expels hop hbelow hnone p.val
  case sealStale =>
    have hgcmd := Chip.gcmdAt_stale s.chip.fresh (ok := fun e _ => e.state == .opened || e.state.isSealed) Chip.sealMember
      hhead hop hmeet hwrong
    refine State.answers (s := s) ?_ fun d hd => hd ▸ s.chip.fresh.stale_leaves x.group p.val 8 (Gcmd.read x).gen
    show execSealReceive p s = _
    rw [execSealReceive, State.runPort_eq hp hrst]
    exact congrArg (fun c : Chip => Host.Outcome.next { s with chip := c }) hgcmd
  case dissolveStale =>
    have hgcmd := Chip.gcmdAt_stale s.chip.fresh (ok := fun _ _ => true) (fun c g m => (c.fanGcmd g m).dissolve g)
      hhead hop hmeet hwrong
    refine State.answers (s := s) ?_ fun d hd => hd ▸ s.chip.fresh.stale_leaves x.group p.val 8 (Gcmd.read x).gen
    show execDissolveReceive p s = _
    rw [execDissolveReceive, State.runPort_eq hp hrst]
    exact congrArg (fun c : Chip => Host.Outcome.next { s with chip := c }) hgcmd
  case admitStale =>
    have hgcmd := Chip.gcmdAt_stale s.chip.fresh (ok := fun e m => s.chip.fresh.id.hub || e.dieTakes m)
      (fun c g m => c.applyChange g m p.val) hhead hop hmeet hwrong
    refine State.answers (s := s) ?_ fun d hd => hd ▸ s.chip.fresh.stale_leaves x.group p.val 8 (Gcmd.read x).gen
    show execAdmitReceive p s = _
    rw [execAdmitReceive, State.runPort_eq hp hrst]
    exact congrArg (fun c : Chip => Host.Outcome.next { s with chip := c }) hgcmd
  case expelStale =>
    have hgcmd := Chip.gcmdAt_stale s.chip.fresh (ok := fun e m => s.chip.fresh.id.hub || e.dieTakes m)
      (fun c g m => c.applyChange g m p.val) hhead hop hmeet hwrong
    refine State.answers (s := s) ?_ fun d hd => hd ▸ s.chip.fresh.stale_leaves x.group p.val 8 (Gcmd.read x).gen
    show execExpelReceive p s = _
    rw [execExpelReceive, State.runPort_eq hp hrst]
    exact congrArg (fun c : Chip => Host.Outcome.next { s with chip := c }) hgcmd
  case censusUp =>
    have hgo : ((s.chip.fresh.ent i.val).state.isSealed && !(s.chip.fresh.ent i.val).apex
        && s.chip.fresh.carries (s.chip.fresh.groupUp i.val)
        && (s.chip.fresh.ent i.val).upSent != some (s.chip.fresh.censusUp i.val)) = true := by
      rw [show (s.chip.fresh.ent i.val).state.isSealed = true from hsealed, show (s.chip.fresh.ent i.val).apex = false from hbelow,
        show s.chip.fresh.carries (s.chip.fresh.groupUp i.val) = true from hcarries]
      exact bne_iff_ne.2 hnew
    have hexec : exec (.hubCensusSend i) s = .next { s with chip := s.chip.fresh.censusSend i.val } := by
      show execHubCensusSend i s = _
      rw [execHubCensusSend, State.runHub_eq hhub hrst]
      exact congrArg (fun c : Chip => Host.Outcome.next { s with chip := c }) (if_pos hgo)
    refine State.answers hexec fun d hd => ?_
    subst hd
    exact s.chip.fresh.censusSend_leaves hhub i.isLt hfence hcarries hin hroom hnone
  case census =>
    have hports : p.val < s.chip.nports := by rw [Chip.nports, hhub]; exact Nat.lt_trans hp (by decide)
    obtain ⟨hcensus, hsum, hunsent⟩ := (s.chip.fresh.popRx p.val clsB 1).census_leaves hhub hclosed p.val (portCensus x)
    refine State.answers (exec_censusReceive hports hrst hhead hup hmeet) fun d hd => ?_
    rw [if_neg (Bool.eq_false_iff.1 (censusShut_false (c := s.chip.fresh.popRx p.val clsB 1) hhub hp hlisted))] at hd
    subst hd
    exact ⟨hcensus, hsum, (Chip.rxB_of_unsent (hunsent p.val)).trans (s.chip.fresh.popRx_rxB p.val)⟩
  case censusStale =>
    have hports : p.val < s.chip.nports := by rw [Chip.nports, hhub]; exact Nat.lt_trans hp (by decide)
    refine State.answers (exec_censusReceive hports hrst hhead hup hmeet) fun d hd => ?_
    have hshut : (!(s.chip.fresh.popRx p.val clsB 1).id.hub || decide (64 ≤ p.val)
        || !(((s.chip.fresh.popRx p.val clsB 1).ent g).pmap.testBit p.val)) = true := by
      rw [show ((s.chip.fresh.popRx p.val clsB 1).ent g).pmap.testBit p.val = false from hunlisted]
      exact Bool.or_true _
    rw [if_pos hshut] at hd
    subst hd
    exact Chip.stale_gr _ _ _ _ _
  case censusDown =>
    obtain ⟨hstate, hfen, hfeat, hunsent⟩ := (s.chip.fresh.popRx p.val clsB 1).censusPass_leaves (g := g) x
    refine State.answers (exec_censusDownReceive hp hrst hhead hdown hmeet hbelow hup) fun d hd => ?_
    subst hd
    exact ⟨hstate, hfen, hfeat, (Chip.rxB_of_unsent (hunsent p.val)).trans (s.chip.fresh.popRx_rxB p.val)⟩

end Sys2Proof.Machine
end

section
/-!
What settling, and the group operations that follow from it, leave: time, the ports apart from what they have still to
send, the channels, what the references have measured, the pins and the supplies (R116, R126, R137, R147, R275).
-/

namespace Sys2Proof.Machine

/-! ### The view -/

/-- A port without the sequenced cells it has still to send, without its count of good probes, and on a lane that is UP
without its link-control cells. -/
def PortState.still (x : PortState) : PortState :=
  { x.unsent with
    q := { x.unsent.q with txL := if x.mode = .up then [] else x.q.txL }
    qual := { x.qual with qcount := 0 } }

/-- A reference as it was measured, without what R146 judges of it. -/
def RefState.measured (x : RefState) : RefState :=
  { x with qualified := false, eligible := false, wtrStart := none, wasDisq := false }

/-- The seat of a Lyspen in its tree: its state, its address, its crown and its active upstream. -/
structure Seat where
  mode : TreeMode
  addr : Option Nat
  crown : Option Nat
  cepoch : Nat
  joinedSinceReset : Bool
  upAlt : Bool

def Chip.seat (c : Chip) : Seat :=
  { mode := c.tr.mode, addr := c.tr.addr, crown := c.tr.crown, cepoch := c.tr.cepoch
    joinedSinceReset := c.tr.joinedSinceReset, upAlt := c.tr.upAlt }

/-- What the group operations, the servo and the references leave of the part. -/
structure Steady where
  id : Ident
  inReset : Bool
  tk : TkState
  pw : PwState
  po : PoState
  fw : FwState
  store : SMap (BitVec 64)
  ch0 : SvChan
  ch1 : SvChan
  refs : Nat → RefState
  ports : Nat → PortState
  cfgs : Nat → Word
  epoch : Word
  stepLimit : Word
  kids : SMap Kid
  seat : Seat

def Chip.steady (c : Chip) : Steady :=
  { id := c.id, inReset := c.inReset, tk := { c.tk with untraceable := false }, pw := c.pw, po := c.po, fw := c.fw, store := c.sq.store
    ch0 := c.sv.ch0, ch1 := c.sv.ch1, refs := fun r => (c.ref r).measured, ports := fun q => (c.port q).still
    cfgs := c.refCfg, epoch := c.reg Reg.TK_EPOCH, stepLimit := c.reg Reg.GD_STEPLIM
    kids := c.tr.kids, seat := c.seat }

theorem PortState.still_of_unsent {x y : PortState} (h : x.unsent = y.unsent) : x.still = y.still := by
  have hmode : x.mode = y.mode := (congrArg PortState.mode h :)
  have htxL : x.q.txL = y.q.txL := (congrArg (fun z : PortState => z.q.txL) h :)
  have hqual : x.qual = y.qual := (congrArg PortState.qual h :)
  simp only [PortState.still, h, hmode, htxL, hqual]

/-- The addresses of the registers that the view shows. -/
def steadyAddrs : List Nat := [0x04400, 0x010B4, 0x1C048]

/-- What leaves the part, its sent cells apart, and the registers of the view, leaves the view. -/
theorem steady_of_calm {a b : Chip} (hcalm : a.calm = b.calm) (hports : ∀ q, a.unsent q = b.unsent q)
    (hregs : ∀ r : RegRow, r.addr 0 % 2 ^ 18 ∈ steadyAddrs → ∀ i, a.reg r i = b.reg r i) : a.steady = b.steady := by
  have hcfgs : a.refCfg = b.refCfg := funext fun r => hregs Reg.RF_RCFG (by decide) r
  have hepoch : a.reg Reg.TK_EPOCH = b.reg Reg.TK_EPOCH := hregs Reg.TK_EPOCH (by decide) 0
  have hlimit : a.reg Reg.GD_STEPLIM = b.reg Reg.GD_STEPLIM := hregs Reg.GD_STEPLIM (by decide) 0
  have hid : a.id = b.id := (congrArg Chip.id hcalm :)
  have hrst : a.inReset = b.inReset := (congrArg Chip.inReset hcalm :)
  have htk : a.tk = b.tk := (congrArg Chip.tk hcalm :)
  have hpw : a.pw = b.pw := (congrArg Chip.pw hcalm :)
  have hpo : a.po = b.po := (congrArg Chip.po hcalm :)
  have hfw : a.fw = b.fw := (congrArg Chip.fw hcalm :)
  have hsq : a.sq = b.sq := (congrArg Chip.sq hcalm :)
  have hsv : a.sv = b.sv := (congrArg Chip.sv hcalm :)
  have hrf : a.rf = b.rf := (congrArg Chip.rf hcalm :)
  have htr : ({ a.tr with inoteWait := [] } : TrState) = { b.tr with inoteWait := [] } := (congrArg Chip.tr hcalm :)
  have hkids : a.tr.kids = b.tr.kids := (congrArg TrState.kids htr :)
  have hseat : a.seat = b.seat := (congrArg (fun x : TrState => ({
    mode := x.mode, addr := x.addr, crown := x.crown, cepoch := x.cepoch, joinedSinceReset := x.joinedSinceReset
    upAlt := x.upAlt } : Seat)) htr :)
  have hstill : (fun q => (a.port q).still) = fun q => (b.port q).still :=
    funext fun q => PortState.still_of_unsent (hports q)
  have hrefs : (fun r => (a.ref r).measured) = fun r => (b.ref r).measured := by
    simp only [Chip.ref, hrf]
  simp only [Chip.steady, hid, hrst, htk, hpw, hpo, hfw, hsq, hsv, hrefs, hstill, hcfgs, hepoch, hlimit, hkids, hseat]

/-! ### Reports, counts and cells -/

/-- No history stands at an offset other than that of HIST, but for those of channels. -/
theorem apart_of_offset {a page : Nat} (hoff : a % 4096 ≠ 0x010) (hchan : a ∉ [0x1F010, 0x08408, 0x0C408, 0x0D408, 0x1040C]) :
    a ∉ histAddrs page := by
  rw [histAddrs, List.mem_cons, not_or]
  refine ⟨fun h => hoff ?_, hchan⟩
  rw [h]
  omega

/-- No register of the view is a history. -/
theorem steadyAddrs_apart {a : Nat} (h : a ∈ steadyAddrs) (page : Nat) : a ∉ histAddrs page := by
  have hoff : ∀ a ∈ steadyAddrs, a % 4096 ≠ 0x010 ∧ a ∉ [0x1F010, 0x08408, 0x0C408, 0x0D408, 0x1040C] := by decide
  exact apart_of_offset (hoff a h).1 (hoff a h).2

section Told

variable (c : Chip)

theorem Chip.report_steady (e : Ev) (r : Rep) : (c.report e r).steady = c.steady :=
  steady_of_calm (c.report_calm e r) (fun q => c.unsent_report e r q)
    fun _ hq i => c.report_reg (i := 0) (steadyAddrs_apart hq _) r i 0

theorem Chip.note_steady (e : Ev) (i : Option Nat) : (c.note e i).steady = c.steady :=
  steady_of_calm (c.note_calm e i) (fun q => c.unsent_note e i q)
    fun _ hq k => c.note_reg (RegRow.apartFrom_of_addr (i := 0) (steadyAddrs_apart hq _) k 0 i).1

theorem Chip.count_steady (n : Nat) (i : Option Nat) (k : Nat) : (c.count n i k).steady = c.steady :=
  steady_of_calm (c.count_calm n i k) (fun q => c.unsent_count n i k q) fun _ _ j => c.count_reg n i k _ j 0 0

theorem Chip.record_steady (n : Nat) (r : Rep) : (c.record n r).steady = c.steady :=
  steady_of_calm (c.record_calm n r) (fun q => c.unsent_record q n r)
    fun _ hq i => c.record_reg (RegRow.apartFrom_of_addr (i := 0) (steadyAddrs_apart hq 0) i 0 none).2 n r

theorem Chip.setReg_steady {r : RegRow} {j : Nat} (h : r.addr j % 2 ^ 18 ∉ steadyAddrs) (w : Word) (i b : Nat) :
    (c.setReg r w i j b).steady = c.steady :=
  steady_of_calm rfl (fun _ => rfl) fun _ hq _ =>
    c.reg_setReg_ne (RegRow.key_ne_of_addr (i := 0) (fun heq => h (heq ▸ hq)) _ _ _ _) w

theorem Chip.bump_steady {r : RegRow} {j : Nat} (h : r.addr j % 2 ^ 18 ∉ steadyAddrs) (n i : Nat) :
    (c.bump r n i j).steady = c.steady :=
  c.setReg_steady h _ _ _

theorem Chip.sendCells_steady (p cls : Nat) (l : List Cell) : (c.sendCells p cls l).steady = c.steady :=
  steady_of_calm (c.sendCells_calm p cls l) (fun q => c.unsent_sendCells p cls l q)
    fun _ _ i => Chip.reg_eq_of_regs (c.sendCells_id p cls l) (c.sendCells_regs p cls l) _ i 0 0

theorem steady_ite {p : Prop} [Decidable p] {x y : Chip} {w : Steady} (hx : x.steady = w) (hy : y.steady = w) :
    (if p then x else y).steady = w := by
  split
  · exact hx
  · exact hy

theorem steady_foldl {β : Type} (f : Chip → β → Chip) (l : List β) (c : Chip) (h : ∀ x b, (f x b).steady = x.steady) :
    (l.foldl f c).steady = c.steady :=
  foldl_keeps Chip.steady f l c h

theorem Chip.hsTake_steady (u : Nat) (n : Int) : (c.hsTake u n).steady = c.steady := by
  unfold Chip.hsTake
  extract_lets x cfg w b cur sat first x' taken
  exact steady_ite (Chip.report_steady _ _ _) rfl

theorem Chip.hsOffer_steady (a i u : Nat) (n : Int) : (c.hsOffer a i n u).steady = c.steady := by
  unfold Chip.hsOffer
  extract_lets cfg x bumped noted
  have hnoted : noted.steady = c.steady := (Chip.note_steady _ _ _).trans (c.bump_steady (by decide) _ _)
  exact steady_ite (steady_ite (c.hsTake_steady u _) (steady_ite rfl (steady_ite hnoted ((Chip.record_steady _ _ _).trans hnoted)))) rfl

theorem Chip.sample_steady (a i : Nat) (n : Int) : (c.sample a i n).steady = c.steady := by
  unfold Chip.sample
  split
  · rfl
  · exact steady_foldl _ _ c fun x u => x.hsOffer_steady a i u n

end Told

/-! ### Group entries and threads -/

section Groups

variable (c : Chip) (g : Nat)

theorem Chip.modEnt_steady (f : GrEntry → GrEntry) : (c.modEnt g f).steady = c.steady := rfl

theorem Chip.modTh_steady (t : Nat) (f : ThreadState → ThreadState) : (c.modTh t f).steady = c.steady := rfl

theorem Chip.toRun_steady (t : Nat) : (c.toRun t).steady = c.steady := rfl

theorem Chip.thFault_steady (t : Nat) (e : Ev) (n : Nat) : (c.thFault t e n).steady = c.steady :=
  (Chip.report_steady _ _ _).trans rfl

theorem Chip.holdRelease_steady (n : Nat) (tried ports : List Nat) (cells : List Cell) :
    (c.holdRelease g n tried ports cells).steady = c.steady := by
  unfold Chip.holdRelease
  extract_lets rest own
  exact steady_ite rfl (steady_ite rfl rfl)

theorem Chip.rollTaps_steady : c.rollTaps.steady = c.steady := by
  unfold Chip.rollTaps
  dsimp only
  exact steady_ite rfl rfl

theorem Chip.reportBase_steady (base : Nat) : (c.reportBase g base).steady = c.steady := by
  unfold Chip.reportBase
  dsimp only
  exact steady_ite c.rollTaps_steady c.rollTaps_steady

theorem Chip.outputLanes_steady (n : Nat) (vals : List LaneVal) : (c.outputLanes g n vals).1.steady = c.steady := by
  unfold Chip.outputLanes
  refine foldl_keeps (fun m : Chip × List LaneVal => m.1.steady) _ _ (c, []) fun m p => ?_
  exact steady_ite (Chip.report_steady _ _ _) rfl

theorem Chip.combined_steady (n : Nat) : (c.combined g n).steady = c.steady :=
  (Chip.count_steady _ _ _ _).trans (c.bump_steady (by decide) _ _)

theorem Chip.detClear_steady (n : Nat) : (c.detClear g n).steady = c.steady := rfl

theorem Chip.detClearAll_steady (take : Nat → Bool) : (c.detClearAll take).steady = c.steady := by
  refine steady_foldl _ _ c ?_
  intro x g
  refine steady_foldl _ _ x ?_
  exact fun y n => y.detClear_steady g n

theorem Chip.servoSweep_steady : c.servoSweep.steady = c.steady := by
  unfold Chip.servoSweep
  exact steady_ite rfl (c.detClearAll_steady _)

theorem Chip.spreadSample_steady (n : Nat) : (c.spreadSample g n).steady = c.steady :=
  (Chip.sample_steady _ _ _ _).trans rfl

theorem Chip.sendDown_steady (n : Nat) (ports : List Nat) (cells : List Cell) : (c.sendDown g n ports cells).steady = c.steady := by
  unfold Chip.sendDown
  dsimp only
  rw [Chip.holdRelease_steady]
  refine foldl_keeps (fun m : Chip × List Nat => m.1.steady) _ ports (c, []) fun m p => ?_
  split
  · exact Chip.sendCells_steady _ _ _ _
  · rfl
  · exact steady_ite rfl rfl

theorem Chip.cwaitExit_steady : (c.cwaitExit g).steady = c.steady := by
  unfold Chip.cwaitExit
  exact steady_ite (steady_foldl _ _ c fun x e => x.toRun_steady e.1) rfl

theorem Chip.censusDone_steady : (c.censusDone g).steady = c.steady := by
  unfold Chip.censusDone
  dsimp only
  exact steady_ite rfl ((Chip.cwaitExit_steady _ _).trans (Chip.report_steady _ _ _))

theorem Chip.censusDown_steady (sig : Bool × Bool × Bool) : (c.censusDown g sig).steady = c.steady := by
  unfold Chip.censusDown
  extract_lets e f1 f2 pay marked
  have hmarked : marked.steady = c.steady := Chip.modEnt_steady f2.2 g _
  refine (steady_foldl _ _ marked ?_).trans hmarked
  exact fun x p => x.sendCells_steady p _ _

theorem Chip.censusSend_steady : (c.censusSend g).steady = c.steady := by
  unfold Chip.censusSend
  dsimp only
  exact steady_ite rfl (Chip.sendCells_steady _ _ _ _)

theorem Chip.dieCensus_steady : c.dieCensus.steady = c.steady := by
  unfold Chip.dieCensus
  refine steady_ite rfl (steady_foldl _ _ c ?_)
  exact fun x g => steady_ite (x.censusSend_steady g) rfl

theorem Chip.takeRelease_steady (t : Nat) (r : Release) : (c.takeRelease t r).steady = c.steady := by
  unfold Chip.takeRelease
  extract_lets x d missed valid taken ran
  have hran : ran.steady = c.steady := (taken.toRun_steady t).trans (c.modTh_steady t _)
  exact steady_ite hran ((Chip.detClear_steady _ _ _).trans ((Chip.report_steady _ _ _).trans hran))

theorem Chip.releaseThreads_steady (r : Release) : (c.releaseThreads g r).steady = c.steady :=
  steady_foldl _ _ c fun x t => x.takeRelease_steady t r

theorem Chip.markShort_steady : (c.markShort g).steady = c.steady := by
  unfold Chip.markShort
  dsimp only
  split
  · exact steady_ite rfl rfl
  · rfl

theorem Chip.sendUp_steady (n : Nat) (cells : List Cell) : (c.sendUp g n cells).steady = c.steady := by
  unfold Chip.sendUp
  exact steady_ite ((Chip.spreadSample_steady _ _ _).trans (Chip.sendCells_steady _ _ _ _)) rfl

theorem Chip.combineUp_steady (n : Nat) : (c.combineUp g n).steady = c.steady := by
  unfold Chip.combineUp
  extract_lets e all out sent
  have hsent : sent.steady = c.steady := (Chip.combined_steady out.1 g e.arrivals.length).trans (c.outputLanes_steady g n all.1)
  exact (sent.sendUp_steady g n _).trans hsent

theorem Chip.dropArrival_steady (r : Release) : (c.dropArrival g r).steady = c.steady := by
  unfold Chip.dropArrival
  extract_lets e past held unheld dropped
  have hdropped : dropped.steady = c.steady := (Chip.modEnt_steady _ _ _).trans (steady_ite rfl rfl)
  exact steady_ite rfl ((Chip.report_steady _ _ _).trans hdropped)

theorem Chip.finish_steady (n : Nat) (lanes : List LaneVal) : (c.finish g n lanes).1.steady = c.steady := by
  unfold Chip.finish
  extract_lets cfg f counted sats scaled
  have hsats : sats.steady = c.steady := by
    refine (steady_foldl _ _ counted ?_).trans (c.count_steady _ _ _)
    exact fun x _ => x.report_steady _ _
  have hscaled : scaled.steady = c.steady := (sats.setReg_steady (by decide) _ _ _).trans hsats
  exact (scaled.modEnt_steady g _).trans hscaled

theorem Chip.judgeCensus_steady (old : Nat) : (c.judgeCensus g old).steady = c.steady := by
  unfold Chip.judgeCensus
  extract_lets e dcl short many fs ok base rep judged flagged feat moved done sig
  have hjudged : judged.steady = c.steady := c.modEnt_steady g _
  have hflagged : flagged.steady = c.steady := (steady_ite (Chip.report_steady _ _ _) rfl).trans hjudged
  have hfeat : feat.steady = c.steady := (steady_ite (Chip.report_steady _ _ _) rfl).trans hflagged
  have hmoved : moved.steady = c.steady :=
    (steady_ite ((Chip.report_steady _ _ _).trans (feat.modEnt_steady g _)) (steady_ite (feat.modEnt_steady g _) rfl)).trans hfeat
  have hdone : done.steady = c.steady :=
    (steady_ite (Chip.censusDone_steady _ _) (moved.modEnt_steady g _)).trans hmoved
  exact steady_ite rfl (steady_ite hdone ((Chip.censusDown_steady _ _ _).trans hdone))

theorem Chip.afterClose_steady : (c.afterClose g).steady = c.steady := by
  unfold Chip.afterClose
  exact (Chip.judgeCensus_steady _ _ _).trans rfl

theorem Chip.closeDone_steady : (c.closeDone g).steady = c.steady := by
  unfold Chip.closeDone
  dsimp only
  split
  · exact (Chip.afterClose_steady _ _).trans rfl
  · rfl

theorem Chip.memberRelease_steady (r : Release) : (c.memberRelease g r).steady = c.steady := by
  unfold Chip.memberRelease
  extract_lets e due admitted expelled
  have hdue : due.steady = c.steady := (Chip.censusDone_steady _ _).trans (c.modEnt_steady g _)
  have hadmitted : admitted.steady = c.steady := by
    refine steady_ite ((steady_foldl _ _ due ?_).trans hdue) rfl
    exact fun x t => x.modTh_steady t.1 _
  have hexpelled : expelled.steady = c.steady := (admitted.modEnt_steady g _).trans hadmitted
  refine steady_ite ((steady_foldl _ _ expelled ?_).trans hexpelled) hadmitted
  exact fun x t => x.thFault_steady t.1 _ _

theorem Chip.releaseBooked_steady (r : Release) (slack : Int) : (c.releaseBooked g r slack).steady = c.steady := by
  unfold Chip.releaseBooked
  generalize slack / 2 ^ 32 = v
  extract_lets booked
  have hbooked : booked.steady = c.steady := (Chip.sample_steady _ _ _ _).trans (c.count_steady _ _ _)
  exact steady_ite ((Chip.report_steady _ _ _).trans hbooked) hbooked

theorem Chip.deliver_steady (r : Release) : (c.deliver g r).steady = c.steady := by
  obtain ⟨slack, hdeliver⟩ := c.deliver_eq g r
  rw [hdeliver, Chip.dieCensus_steady, Chip.memberRelease_steady, Chip.releaseThreads_steady, Chip.releaseBooked_steady]
  exact (Chip.reportBase_steady _ g _).trans (c.dropArrival_steady g r)

theorem Chip.close_steady (n : Nat) (ovr : Bool) : (c.close g n ovr).steady = c.steady := by
  unfold Chip.close
  extract_lets e all out det combined fin r ports down counted
  have hout : out.1.steady = c.steady := c.outputLanes_steady g n all.1
  have hcombined : combined.steady = c.steady :=
    steady_ite ((Chip.spreadSample_steady _ g n).trans ((Chip.combined_steady out.1 g e.arrivals.length).trans hout)) hout
  have hfin : fin.1.steady = c.steady := (combined.finish_steady g n out.2).trans hcombined
  split
  · have hcounted : counted.steady = c.steady :=
      (Chip.count_steady down _ _ _).trans ((Chip.sendDown_steady _ g n _ _).trans hfin)
    have hbegin : ((counted.modEnt g fun x => x.foldPend n).closeBegin g r).steady = c.steady :=
      (Chip.modEnt_steady _ _ _).trans ((counted.modEnt_steady g _).trans hcounted)
    unfold Chip.closeIfSent
    exact steady_ite hbegin ((Chip.closeDone_steady _ g).trans hbegin)
  · exact (Chip.afterClose_steady _ g).trans ((Chip.deliver_steady _ g r).trans ((fin.1.modEnt_steady g _).trans hfin))

theorem Chip.judgeBarrier_steady : (c.judgeBarrier g).steady = c.steady := by
  unfold Chip.judgeBarrier
  dsimp only
  split
  · rfl
  · exact steady_ite rfl (steady_ite (steady_ite (c.close_steady g _ _) rfl) (steady_ite (c.combineUp_steady g _) rfl))

theorem Chip.regroup_steady : (c.regroup g).steady = c.steady := by
  unfold Chip.regroup
  exact (Chip.judgeBarrier_steady _ _).trans ((Chip.markShort_steady _ _).trans ((Chip.judgeCensus_steady _ _ _).trans rfl))

theorem Chip.portLost_steady (p : Nat) : (c.portLost p).steady = c.steady := by
  refine steady_foldl _ _ c fun x g => ?_
  exact steady_ite (Chip.regroup_steady _ g) rfl

theorem Chip.groupsUp_steady (p : Nat) : (c.groupsUp p).steady = c.steady := by
  refine (Chip.dieCensus_steady _).trans (steady_foldl _ _ c fun x g => ?_)
  exact steady_ite (x.modEnt_steady g _) rfl

end Groups

end Sys2Proof.Machine
end

section
/-!
What the tree engine, the servo and the selection of references leave as they settle (R110 to R126, R137 to R147).
-/

namespace Sys2Proof.Machine

section Settle

variable (c : Chip)

/-! ### Servo -/

theorem Chip.flockEnd_steady : c.flockEnd.steady = c.steady := rfl

theorem Chip.dcoHold_steady : c.dcoHold.steady = c.steady := by
  unfold Chip.dcoHold
  exact steady_ite rfl rfl

theorem Chip.pllFollow_steady : c.pllFollow.steady = c.steady := by
  unfold Chip.pllFollow
  extract_lets n lost f pbo drawn held sv taken
  have hdrawn : drawn.steady = c.steady := steady_ite rfl rfl
  have hheld : held.steady = c.steady := (steady_ite (drawn.dcoHold.flockEnd_steady.trans drawn.dcoHold_steady) rfl).trans hdrawn
  have htaken : taken.steady = held.steady := rfl
  exact steady_ite rfl (steady_ite ((Chip.report_steady _ _ _).trans (htaken.trans hheld)) (htaken.trans hheld))

/-- A count of good probes is no part of the view. -/
theorem Chip.qcount_steady (p n : Nat) :
    (c.modPort p fun x => { x with qual := { x.qual with qcount := n } }).steady = c.steady := by
  have hports : (fun q => ((c.modPort p fun x => { x with qual := { x.qual with qcount := n } }).port q).still) =
      fun q => (c.port q).still := by
    funext q
    by_cases hq : q = p
    · subst hq
      rw [Chip.port_modPort]
      rfl
    · rw [Chip.port_modPort_ne _ hq]
  exact congrArg (fun f => { c.steady with ports := f }) hports

theorem Chip.requalify_steady : c.requalify.steady = c.steady := by
  unfold Chip.requalify
  extract_lets restarted
  exact steady_foldl (fun c k => c.modPort (c.chPort k) fun x => { x with qual := { x.qual with qcount := 0 } }) [0, 1] c
    fun x k => x.qcount_steady _ 0

theorem Chip.lockedIn_steady : c.lockedIn.steady = c.steady := rfl

theorem Chip.setSvMode_steady (m : SvMode) (reason : Nat) : (c.setSvMode m reason).steady = c.steady := by
  unfold Chip.setSvMode
  extract_lets swept start sv entered told locked requal
  have hentered : entered.steady = c.steady := c.servoSweep_steady
  have htold : told.steady = c.steady := (Chip.report_steady _ _ _).trans hentered
  have hlocked : locked.steady = c.steady := (steady_ite told.lockedIn_steady rfl).trans htold
  have hrequal : requal.steady = c.steady := (steady_ite locked.requalify_steady rfl).trans hlocked
  exact steady_ite rfl (requal.servoSweep_steady.trans hrequal)

theorem Chip.loseLock_steady : c.loseLock.steady = c.steady := by
  unfold Chip.loseLock
  exact steady_ite (Chip.setSvMode_steady _ _ _) (Chip.setSvMode_steady _ _ _)

theorem Chip.svSwitchTo_steady (k : Nat) : (c.svSwitchTo k).steady = c.steady := by
  unfold Chip.svSwitchTo
  exact steady_ite rfl ((Chip.report_steady _ _ _).trans (Chip.pllFollow_steady _))

theorem Chip.svNoteGood_steady : c.svNoteGood.steady = c.steady := by
  unfold Chip.svNoteGood
  exact steady_ite rfl (steady_ite rfl rfl)

theorem Chip.svAutoSwitch_steady : c.svAutoSwitch.steady = c.steady := by
  unfold Chip.svAutoSwitch
  exact steady_ite (c.svSwitchTo_steady _) rfl

theorem Chip.svMove_steady : c.svMove.steady = c.steady := by
  unfold Chip.svMove
  split
  · rfl
  · exact steady_ite (c.setSvMode_steady _ _) rfl
  · exact steady_ite (c.setSvMode_steady _ _) (steady_ite c.loseLock_steady rfl)
  · exact steady_ite (c.setSvMode_steady _ _) (steady_ite (c.setSvMode_steady _ _) rfl)
  · exact steady_ite (c.setSvMode_steady _ _) rfl

theorem Chip.servoEval_steady : c.servoEval.steady = c.steady := by
  have hnoted : c.svAutoSwitch.pllFollow.svNoteGood.steady = c.steady :=
    (Chip.svNoteGood_steady _).trans ((Chip.pllFollow_steady _).trans c.svAutoSwitch_steady)
  unfold Chip.servoEval
  exact steady_ite ((Chip.svMove_steady _).trans hnoted) ((Chip.setSvMode_steady _ _ _).trans hnoted)

/-! ### References -/

theorem Chip.modRef_steady {r : Nat} {f : RefState → RefState} (h : (f (c.ref r)).measured = (c.ref r).measured) :
    (c.modRef r f).steady = c.steady := by
  have hrefs : (fun q => ((c.modRef r f).ref q).measured) = fun q => (c.ref q).measured := by
    funext q
    by_cases hq : q = r
    · subst hq
      exact (congrArg RefState.measured (SMap.find_put_self _ _ _ _)).trans h
    · exact congrArg RefState.measured (SMap.find_put_ne hq _ _ _)
  exact congrArg (fun f => { c.steady with refs := f }) hrefs

theorem Chip.refDisq_steady (r : Nat) : (c.refDisq r).steady = c.steady := by
  unfold Chip.refDisq
  exact steady_ite ((Chip.report_steady _ _ _).trans (c.modRef_steady rfl)) rfl

theorem Chip.refsFollow_steady : c.refsFollow.steady = c.steady :=
  steady_foldl _ _ c fun x r => x.refDisq_steady r

theorem Chip.rfEval_steady : c.rfEval.steady = c.steady := by
  unfold Chip.rfEval
  extract_lets sel stby fsrc old none_ lost offOld bo chosen pick told
  have hchosen : chosen.steady = c.steady := rfl
  have htold : told.steady = c.steady := by
    clear_value pick
    simp only [told]
    split
    · exact (Chip.report_steady _ _ _).trans hchosen
    · exact hchosen
  exact steady_ite rfl (steady_ite ((Chip.report_steady _ _ _).trans htold) htold)

theorem Chip.traceSet_steady (b : Bool) : (c.traceSet b).steady = c.steady := by
  unfold Chip.traceSet
  exact steady_ite rfl ((Chip.report_steady _ _ _).trans rfl)

theorem Chip.crownTrace_steady : c.crownTrace.steady = c.steady := by
  unfold Chip.crownTrace
  exact steady_ite (c.traceSet_steady _) rfl

/-! ### Tree -/

/-- A link-control cell on a lane that is UP is no part of the view. -/
theorem Chip.sendL_steady {p : Nat} (hup : c.isUp p = true) (x : Cell) : (c.sendL p x).steady = c.steady := by
  have hmode : (c.port p).mode = .up := beq_iff_eq.1 hup
  have hports : (fun q => ((c.sendL p x).port q).still) = fun q => (c.port q).still := by
    funext q
    by_cases hq : q = p
    · subst hq
      have hport : (c.sendL q x).port q = { c.port q with q := { (c.port q).q with txL := (c.port q).q.txL ++ [x] } } :=
        Chip.port_modPort _ _ _
      rw [hport]
      simp only [PortState.still, PortState.unsent, hmode, if_true]
    · exact congrArg PortState.still (Chip.port_modPort_ne _ hq _)
  exact congrArg (fun f => { c.steady with ports := f }) hports

theorem Chip.isUp_of_steady {a b : Chip} (h : a.steady = b.steady) (p : Nat) : a.isUp p = b.isUp p := by
  have hmode : (a.port p).mode = (b.port p).mode := (congrArg (fun x : Steady => (x.ports p).mode) h :)
  simp only [Chip.isUp, hmode]

theorem Chip.identAll_steady : c.identAll.steady = c.steady := by
  have hsend : ∀ l : List Nat, (∀ p ∈ l, c.isUp p = true) → ∀ d : Chip, d.steady = c.steady →
      (l.foldl (fun c p => c.sendL p (c.identCell p)) d).steady = c.steady := by
    intro l
    induction l with
    | nil => exact fun _ d hd => hd
    | cons p l ih =>
      intro hl d hd
      have hup : d.isUp p = true := (Chip.isUp_of_steady hd p).trans (hl p (List.mem_cons_self ..))
      exact ih (fun q hq => hl q (List.mem_cons_of_mem _ hq)) _ ((d.sendL_steady hup _).trans hd)
  exact hsend _ (fun p hp => (List.mem_filter.1 hp).2) c rfl

/-! ### Seats -/

theorem Chip.learnAddr_seat (a : Nat) (from_ : Option Nat) :
    (c.learnAddr a from_).steady = { c.steady with seat := { c.seat with addr := some a } } := by
  unfold Chip.learnAddr
  split
  · next h => exact congrArg (fun x : Option Nat => { c.steady with seat := { c.seat with addr := x } }) h
  · extract_lets old tr learnt told
    have hlearnt : learnt.steady = { c.steady with seat := { c.seat with addr := some a } } := rfl
    have htold : told.steady = learnt.steady := by
      clear_value old
      simp only [told]
      split
      · exact Chip.report_steady _ _ _
      · rfl
    exact told.identAll_steady.trans (htold.trans hlearnt)

theorem Chip.crownTake_seat (crown : Option Nat) (prio level epoch hops : Nat) :
    (c.crownTake crown prio level epoch hops).steady = { c.steady with seat := { c.seat with crown := crown, cepoch := epoch } } := by
  unfold Chip.crownTake
  exact steady_ite ((Chip.report_steady _ _ _).trans rfl) rfl

/-- The view, a Lyspen's seat in its tree apart. -/
def Chip.outline (c : Chip) : Steady := { c.steady with seat := Chip.reset.seat }

theorem outline_of_steady {a b : Chip} (h : a.steady = b.steady) : a.outline = b.outline :=
  congrArg (fun x : Steady => { x with seat := Chip.reset.seat }) h

theorem outline_of_seat {a b : Chip} {x : Seat} (h : a.steady = { b.steady with seat := x }) : a.outline = b.outline :=
  congrArg (fun x : Steady => { x with seat := Chip.reset.seat }) h

theorem outline_ite {p : Prop} [Decidable p] {x y : Chip} {w : Steady} (hx : x.outline = w) (hy : y.outline = w) :
    (if p then x else y).outline = w := by
  split
  · exact hx
  · exact hy

theorem Chip.reflTake_outline (l : List Word) : (c.reflTake l).outline = c.outline :=
  outline_of_seat (c.crownTake_seat _ _ _ _ _)

theorem Chip.reflAddrTake_outline (p : Nat) (l : List Word) : (c.reflAddrTake p l).outline = c.outline := by
  unfold Chip.reflAddrTake
  exact outline_ite rfl (outline_of_seat (c.learnAddr_seat _ _))

theorem Chip.reflJoin_outline (p : Nat) (l : List Word) : (c.reflJoin p l).outline = c.outline :=
  ((c.reflTake l).reflAddrTake_outline p l).trans (c.reflTake_outline l)

theorem Chip.reflKept_outline : c.reflKept.outline = c.outline := by
  unfold Chip.reflKept
  split
  · rfl
  · exact c.reflJoin_outline _ _

theorem Chip.mlqPut_steady (level reason addr members t : Nat) : (c.mlqPut level reason addr members t).steady = c.steady := by
  unfold Chip.mlqPut
  exact steady_ite rfl (steady_ite rfl (c.report_steady _ _))

theorem Chip.lossReport_steady (p reason : Nat) (hub : Bool) (members : Nat) : (c.lossReport p reason hub members).steady = c.steady := by
  unfold Chip.lossReport
  extract_lets a lvl t why told lost put
  have htold : told.steady = c.steady := c.report_steady _ _
  have hlost : lost.steady = c.steady := (steady_ite (Chip.report_steady _ _ _) rfl).trans htold
  have hput : put.steady = c.steady := (Chip.mlqPut_steady _ _ _ _ _ _).trans hlost
  split
  · exact (Chip.sendCells_steady _ _ _ _).trans hput
  · exact hput

/-- What was known of the child behind a port that leaves the tree goes (R107). -/
theorem Chip.treePortDown_kids (p : Nat) :
    (c.treePortDown p).steady = { c.steady with kids := SMap.erase c.tr.kids p } := by
  unfold Chip.treePortDown
  exact steady_ite ((Chip.portLost_steady _ _).trans rfl) rfl

theorem Chip.excludeEval_steady : c.excludeEval.steady = c.steady := by
  unfold Chip.excludeEval
  extract_lets lvl tr levelled bad fresh tr' excluded
  have hlevelled : levelled.steady = c.steady := steady_ite rfl rfl
  have hexcluded : excluded.steady = c.steady := hlevelled
  refine steady_ite rfl ((steady_foldl _ _ excluded fun x e => ?_).trans hexcluded)
  extract_lets told
  have htold : told.steady = x.steady := x.report_steady _ _
  split
  · exact (Chip.portLost_steady _ _).trans ((Chip.lossReport_steady _ _ _ _ _).trans htold)
  · exact htold

/-- A Lyspen that takes another upstream goes that way with its groups, and nothing else of its seat changes. -/
theorem Chip.takeUp_seat (p : Nat) : ∃ alt, (c.takeUp p).steady = { c.steady with seat := { c.seat with upAlt := alt } } := by
  unfold Chip.takeUp
  split
  · exact ⟨c.tr.upAlt, rfl⟩
  · exact ⟨_, (Chip.groupsUp_steady _ _).trans rfl⟩

theorem Chip.takeUp_outline (p : Nat) : (c.takeUp p).outline = c.outline := by
  obtain ⟨alt, h⟩ := c.takeUp_seat p
  exact outline_of_seat h

theorem Chip.joinUp_outline (p : Nat) : (c.joinUp p).outline = c.outline := by
  unfold Chip.joinUp
  extract_lets taken
  have htaken : taken.outline = c.outline := c.takeUp_outline p
  exact (Chip.reflKept_outline _).trans htaken

theorem Chip.upSwitch_outline (p : Nat) : (c.upSwitch p).outline = c.outline :=
  (outline_of_steady (Chip.svSwitchTo_steady _ _)).trans ((Chip.reflKept_outline _).trans
    ((outline_of_steady (Chip.report_steady _ _ _)).trans (c.takeUp_outline p)))

theorem Chip.discover_outline : c.discover.outline = c.outline := rfl

theorem Chip.hubSeek_outline : c.hubSeek.outline = c.outline := by
  have hdiscover : (if c.tr.mode == .discover then c else c.discover).outline = c.outline := outline_ite rfl c.discover_outline
  unfold Chip.hubSeek
  refine outline_ite rfl ?_
  split
  · exact (Chip.reflKept_outline _).trans ((Chip.takeUp_outline _ _).trans hdiscover)
  · exact outline_ite hdiscover rfl

theorem Chip.hubFollow_outline : c.hubFollow.outline = c.outline := by
  unfold Chip.hubFollow
  extract_lets fit a o
  exact outline_ite ((outline_of_steady (Chip.report_steady _ _ _)).trans rfl)
    (outline_ite (c.upSwitch_outline _) (outline_ite (c.upSwitch_outline _) rfl))

theorem Chip.hubEval_outline : c.hubEval.outline = c.outline := by
  unfold Chip.hubEval
  split
  · exact outline_ite (c.discover.hubSeek_outline.trans c.discover_outline) rfl
  · exact c.hubSeek_outline
  · exact c.hubSeek_outline
  · exact c.hubFollow_outline
  · split
    · exact c.joinUp_outline _
    · rfl
  · split
    · exact c.joinUp_outline _
    · rfl
  · refine outline_ite rfl ?_
    split
    · exact c.takeUp_outline _
    · rfl
  · refine outline_ite rfl ?_
    split
    · exact c.takeUp_outline _
    · rfl

theorem Chip.dieEval_outline : c.dieEval.outline = c.outline := by
  unfold Chip.dieEval
  extract_lets tr seen
  have hseen : seen.outline = c.outline := outline_ite c.discover_outline rfl
  refine outline_ite rfl ?_
  split
  · exact hseen
  · exact (Chip.reflTake_outline _ _).trans hseen

theorem Chip.crownSelf_steady : c.crownSelf.steady = c.steady := by
  unfold Chip.crownSelf
  split <;> rfl

/-- The tree engine moves the seat of its Lyspen as its ports have it, and nothing else of the view. -/
theorem Chip.treeEval_steady : c.treeEval.steady = (if c.id.hub then c.hubEval else c.dieEval).steady :=
  (Chip.crownSelf_steady _).trans (Chip.excludeEval_steady _)

theorem Chip.treeEval_outline : c.treeEval.outline = c.outline :=
  (outline_of_steady c.treeEval_steady).trans (outline_ite c.hubEval_outline c.dieEval_outline)

theorem Chip.reflectOut_steady : c.reflectOut.steady = c.steady := by
  unfold Chip.reflectOut
  refine steady_ite rfl (steady_foldl _ _ c fun x p => ?_)
  extract_lets pay
  exact steady_ite rfl (steady_ite ((Chip.sendCells_steady _ _ _ _).trans rfl) rfl)

/-! ### Settling -/

/-- The lanes judged, the first step of settling (R102). -/
def Chip.judged (c : Chip) : Chip := (c.ports.map fun e => e.1).foldl Chip.tqualEval c

/-- Settling judges whether each lane is TQUAL, lets the tree engine move the seat, and leaves the rest of the view. -/
theorem Chip.settle_steady : c.settle.steady = c.judged.treeEval.steady := by
  unfold Chip.settle
  extract_lets judged treed chosen
  have hchosen : chosen.steady = treed.steady :=
    (Chip.servoEval_steady _).trans ((Chip.rfEval_steady _).trans (Chip.refsFollow_steady _))
  exact (Chip.reflectOut_steady _).trans ((Chip.crownTrace_steady _).trans hchosen)

theorem Chip.settle_outline : c.settle.outline = c.judged.outline :=
  (outline_of_steady c.settle_steady).trans c.judged.treeEval_outline

/-- A port whose lane has been judged (R102). -/
def PortState.judge (x : PortState) : PortState := { x with tqual := x.mode == .up && x.qual.ok && x.pmaLatOk && x.freqOk }

theorem Chip.tqualEval_port (p q : Nat) : (c.tqualEval p).port q = c.port q ∨ (c.tqualEval p).port q = (c.port q).judge := by
  by_cases hq : q = p
  · subst hq
    exact Or.inr (Chip.port_modPort _ _ _)
  · exact Or.inl (Chip.port_modPort_ne _ hq _)

theorem Chip.tqualFold_port (l : List Nat) (q : Nat) :
    (l.foldl Chip.tqualEval c).port q = c.port q ∨ (l.foldl Chip.tqualEval c).port q = (c.port q).judge := by
  refine Chip.foldl_holds (fun d => d.port q = c.port q ∨ d.port q = (c.port q).judge) Chip.tqualEval l ?_ (Or.inl rfl)
  intro y p hy
  rcases y.tqualEval_port p q with h | h
  · rw [h]
    exact hy
  · rw [h]
    refine Or.inr ?_
    rcases hy with hy | hy
    · rw [hy]
    · rw [hy]
      rfl

theorem Chip.judged_rest : { c.judged.steady with ports := c.steady.ports } = c.steady := by
  refine foldl_keeps (fun d : Chip => { d.steady with ports := c.steady.ports }) _ _ c ?_
  exact fun x p => rfl

theorem Chip.judged_port (q : Nat) : c.judged.port q = c.port q ∨ c.judged.port q = (c.port q).judge :=
  c.tqualFold_port _ q

/-- What settling leaves of a port: all but the cells still to be sent, and whether its lane is TQUAL. -/
theorem Chip.settle_port (q : Nat) :
    (c.settle.port q).still = (c.port q).still ∨ (c.settle.port q).still = (c.port q).judge.still := by
  have hsettled : (c.settle.port q).still = (c.judged.port q).still :=
    (congrArg (fun x : Steady => x.ports q) c.settle_outline :)
  rcases c.judged_port q with h | h
  · exact Or.inl (by rw [hsettled, h])
  · exact Or.inr (by rw [hsettled, h])

/-- What settling leaves of the part beside the ports and the seat. -/
theorem Chip.settle_rest : { c.settle.outline with ports := c.steady.ports } = c.outline := by
  rw [c.settle_outline]
  exact congrArg (fun x : Steady => { x with seat := Chip.reset.seat }) c.judged_rest

theorem Chip.settle_tk : { c.settle.tk with untraceable := false } = { c.tk with untraceable := false } :=
  (congrArg Steady.tk c.settle_rest :)

theorem Chip.settle_po : c.settle.po = c.po := (congrArg Steady.po c.settle_rest :)

theorem Chip.settle_ref (r : Nat) : (c.settle.ref r).measured = (c.ref r).measured :=
  (congrArg (fun x : Steady => x.refs r) c.settle_rest :)

theorem Chip.settle_cfg (r : Nat) : c.settle.refCfg r = c.refCfg r := (congrArg (fun x : Steady => x.cfgs r) c.settle_rest :)

theorem Chip.settle_epoch : c.settle.reg Reg.TK_EPOCH = c.reg Reg.TK_EPOCH := (congrArg Steady.epoch c.settle_rest :)

theorem Chip.settle_ch (k : Nat) : c.settle.ch k = c.ch k := by
  have h0 : c.settle.sv.ch0 = c.sv.ch0 := (congrArg Steady.ch0 c.settle_rest :)
  have h1 : c.settle.sv.ch1 = c.sv.ch1 := (congrArg Steady.ch1 c.settle_rest :)
  rw [Chip.ch, Chip.ch, h0, h1]

end Settle

end Sys2Proof.Machine
end

section
/-!
O40: edges, sentences and messages of references, and crown holdover (R145 to R150).
-/

namespace Sys2Proof.Machine

/-! ### Folds -/

/-- A fold over a list without duplicates takes one of its members once: what holds until then is turned by its step into
what holds from then on. -/
theorem Chip.foldl_once {β : Type} (before after : Chip → Prop) (f : Chip → β → Chip) {l : List β} {n : β} (hnodup : l.Nodup)
    (hn : n ∈ l) {x : Chip} (hx : before x) (hbefore : ∀ y b, b ≠ n → before y → before (f y b))
    (hat : ∀ y, before y → after (f y n)) (hafter : ∀ y b, b ≠ n → after y → after (f y b)) : after (l.foldl f x) := by
  induction l generalizing x with
  | nil => exact absurd hn List.not_mem_nil
  | cons b r ih =>
    obtain ⟨hb, hr⟩ := List.nodup_cons.1 hnodup
    rcases List.mem_cons.1 hn with rfl | hmem
    · have hrest : ∀ (r : List β) (y : Chip), n ∉ r → after y → after (r.foldl f y) := by
        intro r
        induction r with
        | nil => exact fun y _ hy => hy
        | cons a r ih =>
          intro y hnot hy
          rw [List.mem_cons, not_or] at hnot
          exact ih _ hnot.2 (hafter y a (Ne.symm hnot.1) hy)
      exact hrest r _ hb (hat x hx)
    · exact ih hr hmem (hbefore x b (fun h => hb (h ▸ hmem)) hx)

section References

variable (c : Chip)

theorem Chip.ref_modRef (r : Nat) (f : RefState → RefState) : (c.modRef r f).ref r = f (c.ref r) :=
  SMap.find_put_self _ _ _ _

theorem Chip.ref_modRef_ne {q r : Nat} (h : q ≠ r) (f : RefState → RefState) : (c.modRef r f).ref q = c.ref q :=
  SMap.find_put_ne h _ _ _

theorem Chip.ref_of_rf {a b : Chip} (h : a.rf = b.rf) (r : Nat) : a.ref r = b.ref r := by simp only [Chip.ref, h]

/-! ### Edges -/

/-- An edge stamps a reference, and gives each but a 1PPS input its signal (R145). -/
theorem Chip.refEdge_ref (stamp r : Nat) :
    ((c.refEdge stamp r).ref r).lastEdge = some stamp
      ∧ ((c.refEdge stamp r).ref r).signal = ((c.ref r).signal || c.refType r != 1) := by
  unfold Chip.refEdge
  extract_lets f g own
  rw [Chip.ref_modRef]
  exact ⟨rfl, rfl⟩

theorem Chip.refEdge_ref_ne {q r : Nat} (h : q ≠ r) (stamp : Nat) : (c.refEdge stamp r).ref q = c.ref q :=
  (Chip.ref_modRef_ne _ h _).trans rfl

theorem Chip.refEdge_cfg (stamp r q : Nat) : (c.refEdge stamp r).refType q = c.refType q := rfl

theorem Chip.refEdge_po (stamp r : Nat) : (c.refEdge stamp r).po = c.po := rfl

/-- The edge of a pin stamps every reference on it. -/
theorem Chip.refEdges_ref {l : List Nat} {r : Nat} (hr : r ∈ l) (stamp : Nat) :
    ((l.foldl (fun c r => c.refEdge stamp r) c).ref r).lastEdge = some stamp
      ∧ (c.refType r ≠ 1 → ((l.foldl (fun c r => c.refEdge stamp r) c).ref r).signal = true) := by
  have hcfg : ∀ y : Chip, ∀ q, (y.refEdge stamp q).refType r = y.refType r := fun y q => rfl
  have hgives := Chip.foldl_gives (x := c)
    (fun d => (d.ref r).lastEdge = some stamp ∧ (d.refType r ≠ 1 → (d.ref r).signal = true))
    (fun c r => c.refEdge stamp r) hr ?_ ?_
  · refine ⟨hgives.1, fun h => hgives.2 ?_⟩
    rwa [foldl_keeps (fun d : Chip => d.refType r) (fun c r => c.refEdge stamp r) l c fun x q => rfl]
  · intro y
    obtain ⟨hedge, hsignal⟩ := y.refEdge_ref stamp r
    refine ⟨hedge, fun h => ?_⟩
    rw [hsignal, bne_iff_ne.2 (show y.refType r ≠ 1 from h), Bool.or_true]
  · intro y q hy
    by_cases hq : r = q
    · subst hq
      obtain ⟨hedge, hsignal⟩ := y.refEdge_ref stamp r
      refine ⟨hedge, fun h => ?_⟩
      rw [hsignal, bne_iff_ne.2 (show y.refType r ≠ 1 from h), Bool.or_true]
    · rw [y.refEdge_ref_ne hq]
      exact hy

/-! ### Sentences -/

/-- What the label of one reference leaves of another, and of what the others are judged by. -/
def Chip.labelled (c : Chip) (r : Nat) : RefState × TkState × PoState × Int × Word :=
  (c.ref r, c.tk, c.po, c.utcOffset, c.refCfg r)

theorem Chip.report_labelled (e : Ev) (k : Rep) (r : Nat) : (c.report e k).labelled r = c.labelled r := by
  have hutc : (c.report e k).utcOffset = c.utcOffset :=
    congrArg (fun w => signedOf 16 (Word.field w 0 16)) (c.report_reg (apart_of_offset (by decide) (by decide)) k 0 0)
  have hcfg : (c.report e k).refCfg r = c.refCfg r := c.report_reg (apart_of_offset (by decide) (by decide)) k r 0
  simp only [Chip.labelled, hutc, hcfg, Chip.report_tk, Chip.report_po, Chip.ref_of_rf (c.report_rf e k)]

theorem Chip.todLabel_labelled {q r : Nat} (h : r ≠ q) (ok : Bool) (utc : Nat) : (c.todLabel ok utc q).labelled r = c.labelled r := by
  unfold Chip.todLabel
  extract_lets age ms
  split
  · split
    · simp only [Chip.labelled, Chip.ref_modRef_ne _ h]
      rfl
    · exact c.report_labelled _ _ r
  · exact c.report_labelled _ _ r

/-- The sentence of a pulse in time labels it (R148). -/
theorem Chip.todLabel_taken {r n utc : Nat} (hedge : (c.ref r).lastEdge = some n) (hlow : 10 * 1000000 * nsUnit ≤ timeDiff c.now n)
    (hhigh : timeDiff c.now n ≤ 950 * 1000000 * nsUnit) :
    c.todLabel true utc r = c.modRef r fun x =>
      { x with
        signal := !(c.po1 (c.refSrc r / 16)).pinHeld
        phase := BitVec.ofInt 64 (divRound ((n : Int) - ((utc : Int) + c.utcOffset) * 1000000000 * nsUnit) unit64) } := by
  have hgo : (true && decide (10 * (1000000 * nsUnit) ≤ timeDiff c.now n ∧ timeDiff c.now n ≤ 950 * (1000000 * nsUnit))) = true := by
    rw [Bool.true_and, decide_eq_true_eq]
    exact ⟨by simpa only [Int.mul_assoc] using hlow, by simpa only [Int.mul_assoc] using hhigh⟩
  simp only [Chip.todLabel, hedge]
  exact if_pos hgo

/-- A software stamp taken for a sentence touches no reference and no pin (R178). -/
theorem Chip.swEnter_labelled (u n r : Nat) : (c.swEnter u n).labelled r = c.labelled r := by
  unfold Chip.swEnter
  split
  · rfl
  · exact c.report_labelled _ _ r

theorem Chip.refLoss_po (r : Nat) : (c.refLoss r).po = c.po := by
  unfold Chip.refLoss Chip.refDisq
  split
  · exact Chip.report_po _ _ _
  · rfl

theorem Chip.po1_of_po {a b : Chip} (h : a.po = b.po) (o : Nat) : a.po1 o = b.po1 o := by simp only [Chip.po1, h]

theorem Chip.refDisq_tk (r : Nat) : (c.refDisq r).tk = c.tk := by
  unfold Chip.refDisq
  split
  · exact Chip.report_tk _ _ _
  · rfl

/-- A stamped two-step Sync is kept with its sender (R149). -/
theorem Chip.ptpTake_sync {msg : PtpMsg} {r : Nat} (hkind : msg.kind = .sync) (hstamped : msg.stamped = true) (htwo : msg.twoStep = true) :
    ∃ d : Chip, c.ptpTake r msg =
      d.modRef r fun x => { x with ptpSrc := some msg.src, ptpSync := some (msg.seq.toNat, c.tk.frc) } := by
  have htk : ∀ p : Prop, ∀ _ : Decidable p, (if p then c.refDisq r else c).tk = c.tk := by
    intro p _
    split
    · exact c.refDisq_tk r
    · rfl
  unfold Chip.ptpTake
  simp only [hkind, hstamped, htwo, Bool.not_true, Bool.or_self, Bool.false_eq_true, if_false, htk]
  exact ⟨_, rfl⟩

/-- Its Follow_Up in time gives the signal (R149). -/
theorem Chip.ptpTake_followUp {msg : PtpMsg} {r f : Nat} (hkind : msg.kind = .followUp)
    (hsync : (c.ref r).ptpSync = some (msg.seq.toNat, f)) (hage : c.tk.frc - f ≤ 1600000000) :
    ((c.ptpTake r msg).ref r).signal = true ∧ ((c.ptpTake r msg).ref r).ptpSync = none := by
  unfold Chip.ptpTake
  simp only [hkind, hsync, hage, decide_true, Bool.and_self, if_true, Chip.ref_modRef]
  exact ⟨trivial, trivial⟩

end References

section Commands

variable {s : State}

/-- The part once the edge of a pin has been seen. -/
def Chip.edgeSeen (c : Chip) (p : Nat) : Chip :=
  (c.pinEdges (0x410 + p) 1 (if (c.po1 p).activity then 1 else 0)).modPo p fun x => { x with activity := true, openIn := false }

theorem Chip.edgeSeen_leaves (c : Chip) (p : Nat) : (c.edgeSeen p).regs = c.regs ∧ (c.edgeSeen p).id = c.id ∧ (c.edgeSeen p).rf = c.rf
    ∧ (c.edgeSeen p).tk = c.tk := by
  unfold Chip.edgeSeen
  rw [Chip.pinEdges_eq]
  exact ⟨rfl, rfl, rfl, rfl⟩

theorem exec_refEdge (pin : OutPin) (phase : Fin 64) (hhub : s.chip.id.hub = true) (hrst : s.chip.inReset = false)
    (hio : s.chip.pw.io = true) : exec (.refEdge pin phase) s = .next { s with
      chip := (((s.chip.fresh.edgeSeen pin.val).pinRefs pin.val).foldl
        (fun c r => c.refEdge ((s.chip.fresh.edgeSeen pin.val).tk.stamp (s.chip.fresh.edgeSeen pin.val).tk.frc phase.val) r)
        (s.chip.fresh.edgeSeen pin.val)).settle } := by
  have hio' : (!s.chip.newCycle.pw.io) = false := by rw [show s.chip.newCycle.pw.io = true from hio]; rfl
  show execRefEdge pin phase s = _
  rw [execRefEdge, State.runHub_eq hhub hrst]
  exact congrArg (fun c : Chip => Host.Outcome.next { s with chip := c }) (if_neg (Bool.eq_false_iff.1 hio'))

/-- The references that take the messages of a PTP domain at a MAC tap. -/
theorem exec_ptpMessage {msg : PtpMsg} {r : Nat} (hhub : s.chip.id.hub = true) (hrst : s.chip.inReset = false)
    (hrun : s.chip.fw.running = true)
    (hfind : (((List.range 8).filter fun r => s.chip.refOn r && s.chip.refType r == 4 && s.chip.refSrc r % 64 == msg.tap.val).find?
      fun r => Word.field (s.chip.refCfg r) 0 8 == msg.domain.toNat) = some r) :
    exec (.ptpMessage msg) s = .next { s with chip := (s.chip.fresh.ptpTake r msg).settle } := by
  have hrun' : (!s.chip.newCycle.fw.running) = false := by rw [show s.chip.newCycle.fw.running = true from hrun]; rfl
  show execPtpMessage msg s = _
  rw [execPtpMessage, State.runHub_eq hhub hrst]
  refine congrArg (fun c : Chip => Host.Outcome.next { s with chip := c }) ((if_neg (Bool.eq_false_iff.1 hrun')).trans ?_)
  dsimp only
  split
  · next q hq =>
    have hqr : q = r := Option.some.inj (hq.symm.trans hfind)
    rw [hqr]
  · next hq => exact absurd (hq.symm.trans hfind) (Option.some_ne_none r).symm

end Commands

section Written

variable (c : Chip)

/-- A 1PPS input found inverted (R183). -/
def Chip.inverted (c : Chip) (p : Nat) : Chip :=
  let refs := (c.pinRefs p).filter fun r => c.refType r == 1
  let auto := Word.bit (c.reg Reg.PO_ICFG p) 29
  let c := c.modPo p fun x => { x with inverted := true, corrected := auto, pinHeld := !auto }
  let c := c.report Event.PO_PPS_INV (pinRep p)
  (if auto then c else refs.foldl Chip.refLoss c).settle

theorem Chip.inverted_po1 (p : Nat) : (c.inverted p).po1 p =
    { c.po1 p with inverted := true, corrected := Word.bit (c.reg Reg.PO_ICFG p) 29, pinHeld := !Word.bit (c.reg Reg.PO_ICFG p) 29 } := by
  unfold Chip.inverted
  extract_lets refs auto marked told
  have htold : told.po = marked.po := Chip.report_po _ _ _
  have hlost : (if auto then told else refs.foldl Chip.refLoss told).po = told.po := by
    split
    · rfl
    · exact foldl_keeps Chip.po _ _ told fun x r => x.refLoss_po r
  rw [Chip.po1_of_po (((Chip.settle_po _).trans hlost).trans htold) p]
  exact c.po1_modPo p _

/-- Crown holdover takes TRACEABLE away (R150). -/
def Chip.traced (c : Chip) : Chip :=
  let c := c.setReg Reg.TK_EPOCH (c.reg Reg.TK_EPOCH &&& 0xFFFFFFFE)
  let c := { c with rf := { c.rf with hoTraceDone := true } }
  (c.report Event.RF_HO_TRACE).settle

theorem Chip.traced_epoch : c.traced.reg Reg.TK_EPOCH = c.reg Reg.TK_EPOCH &&& 0xFFFFFFFE := by
  unfold Chip.traced
  extract_lets cleared rf marked
  have htold : (marked.report Event.RF_HO_TRACE).reg Reg.TK_EPOCH = marked.reg Reg.TK_EPOCH :=
    (congrArg Steady.epoch (marked.report_steady Event.RF_HO_TRACE {}) :)
  rw [Chip.settle_epoch, htold]
  exact c.reg_setReg Reg.TK_EPOCH _ 0 0 0

/-- The references that a UART's sentences label. -/
def Chip.sentenceRefs (c : Chip) (u : Nat) : List Nat :=
  (List.range 8).filter fun r => c.refOn r && c.refType r == 1 && c.refSrc r % 2 == u

/-- The part once a UART's sentence has been seen. -/
def Chip.sentenceCame (c : Chip) (u : Nat) : Chip :=
  let f := c.takeFree
  let c := f.2.pinEdges (0x420 + u) f.1.toNat f.1.toNat
  { c with po := { c.po with uartAct := c.po.uartAct ||| 2 ^ u } }

/-- It gets a software stamp where the UART asks for one. -/
def Chip.sentenceSeen (c : Chip) (u : Nat) : Chip :=
  if Word.bit ((c.sentenceCame u).reg Reg.TS_SWCFG) 0 then
    (c.sentenceCame u).softStamp.2.swEnter (4 + u) (c.sentenceCame u).softStamp.1
  else c.sentenceCame u

theorem Chip.sentenceCame_leaves (u : Nat) : (c.sentenceCame u).id = c.id ∧ (c.sentenceCame u).fw = c.fw
    ∧ ∀ r, (c.sentenceCame u).labelled r = (c.ref r, c.tk, { c.po with uartAct := c.po.uartAct ||| 2 ^ u }, c.utcOffset, c.refCfg r) := by
  unfold Chip.sentenceCame
  dsimp only
  rw [Chip.pinEdges_eq]
  exact ⟨rfl, rfl, fun r => rfl⟩

theorem Chip.swEnter_id (u n : Nat) : (c.swEnter u n).id = c.id := by
  unfold Chip.swEnter
  split
  · rfl
  · exact Chip.report_id _ _ _

theorem Chip.sentenceSeen_id (u : Nat) : (c.sentenceSeen u).id = c.id := by
  unfold Chip.sentenceSeen
  split
  · exact (Chip.swEnter_id _ _ _).trans (c.sentenceCame_leaves u).1
  · exact (c.sentenceCame_leaves u).1

/-- What labels read of the part, and what they leave of its pins. -/
theorem Chip.sentenceSeen_labelled (u r : Nat) : (c.sentenceSeen u).labelled r =
    (c.ref r, c.tk, { c.po with uartAct := c.po.uartAct ||| 2 ^ u }, c.utcOffset, c.refCfg r) := by
  unfold Chip.sentenceSeen
  split
  · exact (Chip.swEnter_labelled _ _ _ r).trans (Eq.trans rfl ((c.sentenceCame_leaves u).2.2 r))
  · exact (c.sentenceCame_leaves u).2.2 r

/-- Of the sentences' labels, those of a reference with a pulse in time are its own (R148). -/
theorem Chip.labels_taken {l : List Nat} {r n utc : Nat} (hnodup : l.Nodup) (hmem : r ∈ l) (hedge : (c.ref r).lastEdge = some n)
    (hlow : 10 * 1000000 * nsUnit ≤ timeDiff c.now n) (hhigh : timeDiff c.now n ≤ 950 * 1000000 * nsUnit) :
    ((l.foldl (fun c r => c.todLabel true utc r) c).ref r).signal = !(c.po1 (c.refSrc r / 16)).pinHeld
      ∧ ((l.foldl (fun c r => c.todLabel true utc r) c).ref r).phase =
        BitVec.ofInt 64 (divRound ((n : Int) - ((utc : Int) + c.utcOffset) * 1000000000 * nsUnit) unit64)
      ∧ (l.foldl (fun c r => c.todLabel true utc r) c).po = c.po := by
  refine Chip.foldl_once (fun y => y.labelled r = c.labelled r)
    (fun y => (y.ref r).signal = (!(c.po1 (c.refSrc r / 16)).pinHeld)
      ∧ (y.ref r).phase = BitVec.ofInt 64 (divRound ((n : Int) - ((utc : Int) + c.utcOffset) * 1000000000 * nsUnit) unit64)
      ∧ y.po = c.po) _ hnodup hmem rfl ?_ ?_ ?_
  · exact fun y q hq hy => (y.todLabel_labelled (Ne.symm hq) true utc).trans hy
  · intro y hy
    simp only [Chip.labelled, Prod.mk.injEq] at hy
    obtain ⟨href, htk, hpo, hutc, hcfg⟩ := hy
    have hsrc : y.refSrc r = c.refSrc r := congrArg (Word.field · 8 8) hcfg
    have hnow : y.now = c.now := Chip.now_of_tk htk
    have hlabel := y.todLabel_taken (utc := utc) (n := n) (by rw [href]; exact hedge) (by rw [hnow]; exact hlow)
      (by rw [hnow]; exact hhigh)
    rw [hlabel, Chip.ref_modRef, hutc, hsrc, Chip.po1_of_po hpo]
    exact ⟨rfl, rfl, hpo⟩
  · intro y q hq hy
    have hkept := y.todLabel_labelled (Ne.symm hq) true utc
    simp only [Chip.labelled, Prod.mk.injEq] at hkept
    rw [hkept.1, hkept.2.2.1]
    exact hy

end Written

section Sentences

variable {s : State}

theorem exec_todSentence (u : Fin 2) (ok : Bool) (utc : BitVec 40) (hhub : s.chip.id.hub = true) (hrst : s.chip.inReset = false)
    (hio : s.chip.pw.io = true) (hrun : s.chip.fw.running = true) :
    exec (.todSentence u ok utc) s = .next { s with
      chip := (((s.chip.fresh.sentenceSeen u.val).sentenceRefs u.val).foldl (fun c r => c.todLabel ok utc.toNat r)
        (s.chip.fresh.sentenceSeen u.val)).settle } := by
  have hio' : (!s.chip.newCycle.pw.io) = false := by rw [show s.chip.newCycle.pw.io = true from hio]; rfl
  have hrun' : (!(s.chip.newCycle.sentenceCame u.val).fw.running) = false := by
    rw [(s.chip.newCycle.sentenceCame_leaves u.val).2.1, show s.chip.newCycle.fw.running = true from hrun]
    rfl
  have hhub' : (!(s.chip.newCycle.sentenceSeen u.val).id.hub) = false := by
    rw [Chip.sentenceSeen_id, show s.chip.newCycle.id.hub = true from hhub]
    rfl
  show execTodSentence u ok utc s = _
  rw [execTodSentence, State.run_eq hrst]
  exact congrArg (fun c : Chip => Host.Outcome.next { s with chip := c }) ((if_neg (Bool.eq_false_iff.1 hio')).trans
    ((if_neg (Bool.eq_false_iff.1 hrun')).trans ((if_neg (Bool.eq_false_iff.1 hhub')).trans rfl)))

end Sentences

/-- Settles O40: edges, sentences and messages of references, each by what its command writes and what settling leaves. -/
theorem referenceTime : Obligations.ReferenceTime := by
  unfold Obligations.ReferenceTime
  refine ⟨fun s pin phase hhub hrst hio => ?edge, fun s pin hhub hrst hio hrefs hplain => ?inverted,
    fun s u utc r n hhub hrst hio hrun hr hon htype hsrc hedge hlow hhigh => ?sentence,
    fun s msg r hhub hrst hrun hfind hkind hstamped htwo => ?sync, fun s msg r f hhub hrst hrun hfind hkind hsync hage => ?followUp,
    fun s hhub hrst hrun hcrown hheld hdone => ?trace, fun s hhub hrst hrun hsel => ?ageing⟩
  case edge =>
    obtain ⟨hregs, hid, hrf, htk⟩ := s.chip.fresh.edgeSeen_leaves pin.val
    have hcfg : ∀ r, (s.chip.fresh.edgeSeen pin.val).refCfg r = s.chip.refCfg r := fun r => Chip.reg_eq_of_regs hid hregs _ r 0 0
    have htype : ∀ r, (s.chip.fresh.edgeSeen pin.val).refType r = s.chip.refType r := fun r => congrArg (Word.field · 16 4) (hcfg r)
    have hpins : (s.chip.fresh.edgeSeen pin.val).pinRefs pin.val = s.chip.pinRefs pin.val := by
      simp only [Chip.pinRefs, Chip.refOn, Chip.refType, Chip.refSrc, hcfg, Chip.ref_of_rf hrf]
      rfl
    have hactive : ((s.chip.fresh.edgeSeen pin.val).po1 pin.val).activity = true :=
      congrArg PoOut.activity (Chip.po1_modPo _ _ _)
    refine State.answers (exec_refEdge pin phase hhub hrst hio) fun d hd => ?_
    rw [hpins, htk] at hd
    generalize s.chip.fresh.edgeSeen pin.val = seen at *
    have hpo : d.po = seen.po := by
      rw [hd, Chip.settle_po]
      exact foldl_keeps Chip.po _ _ seen fun x r => rfl
    have href : ∀ r ∈ s.chip.pinRefs pin.val, (d.ref r).lastEdge = some (s.chip.tk.stamp s.chip.tk.frc phase.val)
        ∧ (seen.refType r ≠ 1 → (d.ref r).signal = true) := fun r hr => by
      obtain ⟨hedge, hsignal⟩ := seen.refEdges_ref hr (s.chip.tk.stamp s.chip.tk.frc phase.val)
      have hmeasured : (d.ref r).measured = _ := (congrArg (fun c : Chip => (c.ref r).measured) hd).trans (Chip.settle_ref _ r)
      exact ⟨(congrArg RefState.lastEdge hmeasured :).trans hedge,
        fun h => (congrArg RefState.signal hmeasured :).trans (hsignal h)⟩
    refine ⟨fun r hr => (href r hr).1, fun r hr h => (href r hr).2 ((htype r).trans_ne h), ?_⟩
    exact (congrArg PoOut.activity (Chip.po1_of_po hpo pin.val)).trans hactive
  case inverted =>
    have hgo : (((s.chip.fresh.pinRefs pin.val).filter fun r => s.chip.fresh.refType r == 1).isEmpty
        || (s.chip.fresh.po1 pin.val).inverted || !s.chip.fresh.pw.io) = false := by
      rw [show (s.chip.fresh.po1 pin.val).inverted = false from hplain, show s.chip.fresh.pw.io = true from hio, Bool.or_false]
      exact (Bool.or_false _).trans (List.isEmpty_eq_false_iff.2 hrefs)
    have hexec : exec (.ppsInv pin) s = .next { s with chip := s.chip.fresh.inverted pin.val } := by
      show execPpsInv pin s = _
      rw [execPpsInv, State.runHub_eq hhub hrst]
      exact congrArg (fun c : Chip => Host.Outcome.next { s with chip := c }) (if_neg (Bool.eq_false_iff.1 hgo))
    refine State.answers hexec fun d hd => ?_
    have hpo1 : d.po1 pin.val = _ := (congrArg (fun c : Chip => c.po1 pin.val) hd).trans (s.chip.fresh.inverted_po1 pin.val)
    dsimp only
    rw [hpo1]
    exact ⟨rfl, rfl, rfl⟩
  case sentence =>
    have hmem : r ∈ s.chip.fresh.sentenceRefs u.val := by
      refine List.mem_filter.2 ⟨List.mem_range.2 hr, ?_⟩
      rw [show s.chip.fresh.refOn r = true from hon, show s.chip.fresh.refType r = 1 from htype]
      exact beq_iff_eq.2 hsrc
    have hlabelled := s.chip.fresh.sentenceSeen_labelled u.val r
    have hrefs : (s.chip.fresh.sentenceSeen u.val).sentenceRefs u.val = s.chip.fresh.sentenceRefs u.val := by
      refine List.filter_congr fun q _ => ?_
      have hq := s.chip.fresh.sentenceSeen_labelled u.val q
      simp only [Chip.labelled, Prod.mk.injEq] at hq
      simp only [Chip.refOn, Chip.refType, Chip.refSrc, hq.1, hq.2.2.2.2]
    refine State.answers (exec_todSentence u true utc hhub hrst hio hrun) fun d hd => ?_
    rw [hrefs] at hd
    generalize s.chip.fresh.sentenceSeen u.val = seen at *
    simp only [Chip.labelled, Prod.mk.injEq] at hlabelled
    obtain ⟨href, htk, hpo, hutc, hat⟩ := hlabelled
    have hnow : seen.now = s.chip.now := Chip.now_of_tk htk
    obtain ⟨hsignal, hphase, hkept⟩ := seen.labels_taken (l := s.chip.fresh.sentenceRefs u.val) (utc := utc.toNat) (n := n)
      (List.Nodup.filter _ List.nodup_range) hmem (by rw [href]; exact hedge) (by rw [hnow]; exact hlow) (by rw [hnow]; exact hhigh)
    have hmeasured : (d.ref r).measured = _ := (congrArg (fun c : Chip => (c.ref r).measured) hd).trans (Chip.settle_ref _ r)
    have hdpo : d.po = seen.po := by rw [hd, Chip.settle_po, hkept]
    rw [hutc] at hphase
    refine ⟨(congrArg RefState.signal hmeasured :).trans (hsignal.trans ?_), (congrArg RefState.phase hmeasured :).trans hphase, ?_⟩
    · rw [show seen.refSrc r = s.chip.refSrc r from congrArg (Word.field · 8 8) hat, Chip.po1, hpo]
      rfl
    · exact congrArg PoState.uartAct (hdpo.trans hpo)
  case sync =>
    obtain ⟨e, htaken⟩ := s.chip.fresh.ptpTake_sync (r := r) hkind hstamped htwo
    refine State.answers (exec_ptpMessage hhub hrst hrun hfind) fun d hd => ?_
    rw [htaken] at hd
    have hmeasured : (d.ref r).measured = _ := (congrArg (fun c : Chip => (c.ref r).measured) hd).trans (Chip.settle_ref _ r)
    rw [Chip.ref_modRef] at hmeasured
    exact ⟨(congrArg RefState.ptpSrc hmeasured :), (congrArg RefState.ptpSync hmeasured :)⟩
  case followUp =>
    obtain ⟨hsignal, hnone⟩ := s.chip.fresh.ptpTake_followUp hkind hsync hage
    refine State.answers (exec_ptpMessage hhub hrst hrun hfind) fun d hd => ?_
    have hmeasured : (d.ref r).measured = _ := (congrArg (fun c : Chip => (c.ref r).measured) hd).trans (Chip.settle_ref _ r)
    exact ⟨(congrArg RefState.signal hmeasured :).trans hsignal, (congrArg RefState.ptpSync hmeasured :).trans hnone⟩
  case trace =>
    have hgo : (s.chip.fresh.fw.running && s.chip.fresh.crownOn && s.chip.fresh.rf.holdover && !s.chip.fresh.rf.hoTraceDone) = true := by
      rw [show s.chip.fresh.fw.running = true from hrun, show s.chip.fresh.crownOn = true from hcrown,
        show s.chip.fresh.rf.holdover = true from hheld, show s.chip.fresh.rf.hoTraceDone = false from hdone]
      rfl
    have hexec : exec .hoTrace s = .next { s with chip := s.chip.fresh.traced } := by
      show execHoTrace s = _
      rw [execHoTrace, State.runHub_eq hhub hrst]
      exact congrArg (fun c : Chip => Host.Outcome.next { s with chip := c }) (if_pos hgo)
    refine State.answers hexec fun d hd => ?_
    have hepoch : d.reg Reg.TK_EPOCH = _ := (congrArg (fun c : Chip => c.reg Reg.TK_EPOCH) hd).trans s.chip.fresh.traced_epoch
    dsimp only
    rw [hepoch]
    simp only [Word.bit, BitVec.getLsbD_and]
    rw [show (0xFFFFFFFE : Word).getLsbD 0 = false by decide, Bool.and_false]
  case ageing =>
    have hexec : exec .ageingReady s = .next { s with
        chip := { s.chip.fresh with rf := { s.chip.rf with ageingReady := true } } } := by
      show execAgeingReady s = _
      rw [execAgeingReady, State.runHub_eq hhub hrst]
      have hgo : (s.chip.newCycle.fw.running && s.chip.newCycle.rf.selected.isSome) = true := by
        rw [show s.chip.newCycle.fw.running = true from hrun]
        exact hsel
      exact congrArg (fun c : Chip => Host.Outcome.next { s with chip := c }) (if_pos hgo)
    exact ⟨_, hexec, rfl, rfl, rfl⟩

end Sys2Proof.Machine
end

section
/-!
O37: offset windows, build-out, relearning and calibration marks (R133 to R136, R139, R142).
-/

namespace Sys2Proof.Machine

/-! ### Channels -/

section Channels

variable (c : Chip)

theorem Chip.ch_modCh (k : Nat) (f : SvChan → SvChan) : (c.modCh k f).ch k = f (c.ch k) := by
  unfold Chip.modCh Chip.ch
  by_cases hk : k = 0
  · simp only [if_pos hk]
  · simp only [if_neg hk]

/-- Channels 0 and any other number are two. -/
theorem Chip.ch_modCh_ne {j k : Nat} (h : ¬(j = 0 ↔ k = 0)) (f : SvChan → SvChan) : (c.modCh k f).ch j = c.ch j := by
  unfold Chip.modCh Chip.ch
  by_cases hk : k = 0
  · have hj : j ≠ 0 := fun hj => h (iff_of_true hj hk)
    simp only [if_pos hk, if_neg hj]
  · have hj : j = 0 := by
      by_contra hj
      exact h (iff_of_false hj hk)
    simp only [if_neg hk, if_pos hj]

theorem Chip.ch_eq_one {k : Nat} (hk : k ≠ 0) : c.ch k = c.ch 1 := by
  unfold Chip.ch
  rw [if_neg hk, if_neg (by decide)]

theorem Chip.sample_ch (a i : Nat) (n : Int) (k : Nat) : (c.sample a i n).ch k = c.ch k := by
  simp only [Chip.ch, Chip.sample_sv]

/-- A channel of a lane as its window ends (R133). -/
def SvChan.closed (x : SvChan) : SvChan :=
  if x.window.length < 32 then { x with window := [], offValid := false }
  else { x with window := [], offset := meanOf x.window, offValid := true, offKnown := true }

theorem Chip.windowClose_lane (hcrown : c.crownOn = false) (k : Nat) : c.windowClose k = c.modCh k SvChan.closed := by
  unfold Chip.windowClose
  rw [hcrown, if_neg Bool.false_ne_true]
  rfl

/-- What the end of an offset window does after the channels' own windows. -/
def Chip.windowAfter (c : Chip) : Chip :=
  let c := match c.abDiff with
    | some d => c.sample 0x04 0 (divRound d unit64)
    | none => c
  if c.sv.winOld then { c with sv := { c.sv with winOld := false } }
  else if c.crownOn && c.sv.requal then
    { c with sv := { c.sv with crownWins := if c.phaseOk then min 64 (c.sv.crownWins + 1) else 0 } }
  else c

theorem Chip.windowAfter_ch (k : Nat) : c.windowAfter.ch k = c.ch k := by
  unfold Chip.windowAfter
  extract_lets sampled
  have hsampled : sampled.ch k = c.ch k := by
    simp only [sampled]
    split
    · exact c.sample_ch _ _ _ k
    · rfl
  split
  · exact hsampled
  · split
    · exact hsampled
    · exact hsampled

theorem Chip.windowEnd_eq :
    c.windowEnd = (((if c.crownOn then c.peerWindow else c).windowClose 0).windowClose 1).windowAfter := rfl

theorem Chip.windowEnd_lane_ch (hcrown : c.crownOn = false) (k : Nat) : c.windowEnd.ch k = (c.ch k).closed := by
  have hcrown' : (c.modCh 0 SvChan.closed).crownOn = false := hcrown
  rw [c.windowEnd_eq, hcrown, if_neg Bool.false_ne_true, Chip.windowAfter_ch, Chip.windowClose_lane _ hcrown,
    Chip.windowClose_lane _ hcrown']
  by_cases hk : k = 0
  · subst hk
    rw [Chip.ch_modCh_ne _ (by decide), Chip.ch_modCh]
  · rw [Chip.ch_eq_one _ hk, Chip.ch_modCh, Chip.ch_modCh_ne _ (by decide), ← c.ch_eq_one hk]

/-! ### The channels of a crown -/

/-- What the offset of a crown's channels is worked out from. -/
def Chip.crownInputs (c : Chip) (r : Nat) : Bool × Option Nat × Option Nat × Int × Word × Bool × BitVec 64 :=
  (c.crownOn, c.rf.selected, c.rf.standby, c.rf.bo, c.refCfg r, (c.ref r).qualified, (c.ref r).phase)

theorem Chip.modCh_inputs (k r : Nat) (f : SvChan → SvChan) : (c.modCh k f).crownInputs r = c.crownInputs r := by
  unfold Chip.modCh
  split <;> rfl

theorem Chip.sample_inputs (a i r : Nat) (n : Int) : (c.sample a i n).crownInputs r = c.crownInputs r := by
  have hcrown : (c.sample a i n).crownOn = c.crownOn := (congrArg Chip.crownOn (c.sample_calm a i n) :)
  have hcfg : (c.sample a i n).refCfg r = c.refCfg r := (congrArg (fun x : Steady => x.cfgs r) (c.sample_steady a i n) :)
  simp only [Chip.crownInputs, hcrown, hcfg, Chip.sample_rf, Chip.ref_of_rf (c.sample_rf a i n)]

theorem Chip.peerWindow_inputs (r : Nat) : c.peerWindow.crownInputs r = c.crownInputs r := by
  unfold Chip.peerWindow
  extract_lets w sv emptied
  refine (foldl_keeps (fun d : Chip => d.crownInputs r) _ _ emptied fun x q => ?_).trans rfl
  by_cases hq : r = q
  · subst hq
    simp only [Chip.crownInputs, Chip.ref_modRef]
    rfl
  · simp only [Chip.crownInputs, Chip.ref_modRef_ne _ hq]
    rfl

/-- The offset of a crown's channel with a qualified reference that is no peer crown (R133; log entry 34). -/
theorem Chip.crownOffset_taken {k r : Nat} (href : c.chRef k = some r) (htype : c.refType r ≠ 6) (hqual : (c.ref r).qualified = true) :
    c.crownOffset k = some (signedOf 64 (c.ref r).phase.toNat * unit64 - divRound c.rf.bo 1000000000) := by
  have hother : (c.refType r == 6) = false := beq_false_of_ne htype
  simp only [Chip.crownOffset, href, hqual, hother, Bool.not_true, Bool.false_and, Bool.or_self, Bool.false_eq_true, if_false,
    Chip.refTime, if_neg htype]

theorem Chip.modCh_eq (k : Nat) (f : SvChan → SvChan) : ∃ sv, c.modCh k f = { c with sv := sv } := by
  unfold Chip.modCh
  split
  · exact ⟨_, rfl⟩
  · exact ⟨_, rfl⟩

theorem Chip.rawSample_inputs (k r : Nat) (x : Int) : (c.rawSample k x).crownInputs r = c.crownInputs r :=
  (Chip.sample_inputs _ _ _ _ _).trans (c.modCh_inputs k r _)

theorem Chip.rawSample_ch (k j : Nat) (x : Int) : ((c.rawSample k x).ch j).offset = (c.ch j).offset
    ∧ ((c.rawSample k x).ch j).offValid = (c.ch j).offValid := by
  unfold Chip.rawSample
  rw [Chip.sample_ch]
  by_cases hj : j = 0 ↔ k = 0
  · have hsame : ∀ f, (c.modCh k f).ch j = (c.modCh k f).ch k := fun f => by
      by_cases hk : k = 0
      · rw [hk, hj.2 hk]
      · rw [Chip.ch_eq_one _ hk, Chip.ch_eq_one _ fun h => hk (hj.1 h)]
    have hold : c.ch j = c.ch k := by
      by_cases hk : k = 0
      · rw [hk, hj.2 hk]
      · rw [c.ch_eq_one hk, c.ch_eq_one fun h => hk (hj.1 h)]
    rw [hsame, Chip.ch_modCh, hold]
    exact ⟨rfl, rfl⟩
  · rw [Chip.ch_modCh_ne _ hj]
    exact ⟨rfl, rfl⟩

theorem Chip.windowClose_crown {k r : Nat} (hcrown : c.crownOn = true) (href : c.chRef k = some r) (htype : c.refType r ≠ 6)
    (hqual : (c.ref r).qualified = true) :
    c.windowClose k = (c.modCh k fun y => { y with
      offset := signedOf 64 (c.ref r).phase.toNat * unit64 - divRound c.rf.bo 1000000000, offValid := true, offKnown := true }).rawSample k
        (signedOf 64 (c.ref r).phase.toNat * unit64 - divRound c.rf.bo 1000000000) := by
  unfold Chip.windowClose
  rw [hcrown, if_pos rfl, c.crownOffset_taken href htype hqual]
  dsimp only
  obtain ⟨sv, hsv⟩ := c.modCh_eq k fun y => { y with
    offset := signedOf 64 (c.ref r).phase.toNat * unit64 - divRound c.rf.bo 1000000000, offValid := true, offKnown := true }
  rw [hsv, show ({ c with sv := sv } : Chip).chRef k = some r from href]
  exact if_neg htype

/-- The window of one channel leaves the other, and what offsets are worked out from. -/
theorem Chip.windowClose_leaves {j k : Nat} (h : ¬(j = 0 ↔ k = 0)) (hcrown : c.crownOn = true) (r : Nat) :
    (c.windowClose k).crownInputs r = c.crownInputs r ∧ ((c.windowClose k).ch j).offset = (c.ch j).offset
      ∧ ((c.windowClose k).ch j).offValid = (c.ch j).offValid := by
  have hmod : ∀ f, (c.modCh k f).crownInputs r = c.crownInputs r ∧ ((c.modCh k f).ch j).offset = (c.ch j).offset
      ∧ ((c.modCh k f).ch j).offValid = (c.ch j).offValid := fun f => by
    rw [c.modCh_inputs, Chip.ch_modCh_ne _ h]
    exact ⟨rfl, rfl, rfl⟩
  unfold Chip.windowClose
  rw [hcrown, if_pos rfl]
  split
  · dsimp only
    split
    · split
      · exact hmod _
      · rw [Chip.rawSample_inputs, (Chip.rawSample_ch _ _ _ _).1, (Chip.rawSample_ch _ _ _ _).2]
        exact hmod _
    · exact hmod _
  · exact hmod _

/-- The channel's own window gives it its offset. -/
theorem Chip.windowClose_gives {d : Chip} {k r : Nat} (hinputs : d.crownInputs r = c.crownInputs r) (hcrown : c.crownOn = true)
    (href : c.chRef k = some r) (htype : c.refType r ≠ 6) (hqual : (c.ref r).qualified = true) :
    ((d.windowClose k).ch k).offset = signedOf 64 (c.ref r).phase.toNat * unit64 - divRound c.rf.bo 1000000000
      ∧ ((d.windowClose k).ch k).offValid = true := by
  simp only [Chip.crownInputs, Prod.mk.injEq] at hinputs
  obtain ⟨hon, hsel, hstby, hbo, hcfg, hq, hphase⟩ := hinputs
  have href' : d.chRef k = some r := by
    rw [Chip.chRef, hsel, hstby]
    exact href
  have htype' : d.refType r ≠ 6 := by
    rw [Chip.refType, hcfg]
    exact htype
  rw [d.windowClose_crown (hon.trans hcrown) href' htype' (hq.trans hqual), (Chip.rawSample_ch _ _ _ _).1,
    (Chip.rawSample_ch _ _ _ _).2, Chip.ch_modCh, hphase, hbo]
  exact ⟨rfl, rfl⟩

theorem Chip.windowEnd_crown_ch {k r : Nat} (hk : k < 2) (hcrown : c.crownOn = true) (href : c.chRef k = some r)
    (htype : c.refType r ≠ 6) (hqual : (c.ref r).qualified = true) :
    (c.windowEnd.ch k).offset = signedOf 64 (c.ref r).phase.toNat * unit64 - divRound c.rf.bo 1000000000
      ∧ (c.windowEnd.ch k).offValid = true := by
  have hpeer := c.peerWindow_inputs r
  have hpeerOn : c.peerWindow.crownOn = true := (congrArg Prod.fst hpeer).trans hcrown
  rw [c.windowEnd_eq, hcrown, if_pos rfl, Chip.windowAfter_ch]
  by_cases hzero : k = 0
  · subst hzero
    have hgives := c.windowClose_gives hpeer hcrown href htype hqual
    have hon : (c.peerWindow.windowClose 0).crownOn = true := by
      have hleaves := (c.peerWindow.windowClose_leaves (j := 1) (k := 0) (by decide) hpeerOn r).1
      exact (congrArg Prod.fst hleaves).trans hpeerOn
    obtain ⟨-, hoff, hvalid⟩ := (c.peerWindow.windowClose 0).windowClose_leaves (j := 0) (k := 1) (by decide) hon r
    rw [hoff, hvalid]
    exact hgives
  · have hone : k = 1 := by omega
    subst hone
    have hinputs := (c.peerWindow.windowClose_leaves (j := 1) (k := 0) (by decide) hpeerOn r).1
    exact c.windowClose_gives (hinputs.trans hpeer) hcrown href htype hqual

theorem Chip.reg_modCh (k : Nat) (f : SvChan → SvChan) (r : RegRow) (i : Nat) : (c.modCh k f).reg r i = c.reg r i := by
  obtain ⟨sv, hsv⟩ := c.modCh_eq k f
  rw [hsv]
  rfl

/-! ### Build-out and learnt delays -/

theorem Chip.boTick_leaves :
    c.boTick.sv.bo = boDecay c.sv.bo (1000000 * 2 ^ 32)
      ∧ c.boTick.rf.bo = (if c.crownOn && Word.bit (c.reg Reg.RF_CFG) 29 then boDecay c.rf.bo (c.boSlew * 2 ^ 32) else c.rf.bo)
      ∧ c.boTick.sv.mode = c.sv.mode ∧ c.boTick.regs = c.regs := by
  unfold Chip.boTick
  extract_lets sv decayed
  by_cases hcond : (c.crownOn && Word.bit (c.reg Reg.RF_CFG) 29) = true
  · have hcond' : (decayed.crownOn && Word.bit (decayed.reg Reg.RF_CFG) 29) = true := hcond
    rw [if_pos hcond, if_pos hcond']
    exact ⟨rfl, rfl, rfl, rfl⟩
  · have hcond' : ¬(decayed.crownOn && Word.bit (decayed.reg Reg.RF_CFG) 29) = true := hcond
    rw [if_neg hcond, if_neg hcond']
    exact ⟨rfl, rfl, rfl, rfl⟩

/-- A lane whose learnt delay is discarded starts its qualification again (R134). -/
theorem Chip.mpdForget_port (p : Nat) : (c.mpdForget p).port p =
    ({ c.port p with qual := { (c.port p).qual with
        mpdRef := 0, learnt := false, hist := [], qcount := 0, outCount := 0, ok := false } } : PortState).judge := by
  unfold Chip.mpdForget Chip.qualRestart Chip.tqualEval Chip.modQual
  rw [Chip.port_modPort, Chip.port_modPort, Chip.port_modPort]
  rfl

theorem Chip.mpdForget_settled (p : Nat) : ((c.mpdForget p).settle.port p).still.qual =
    { (c.port p).qual with mpdRef := 0, learnt := false, hist := [], qcount := 0, outCount := 0, ok := false } := by
  rcases (c.mpdForget p).settle_port p with h | h
  · rw [h, Chip.mpdForget_port]
    rfl
  · rw [h, Chip.mpdForget_port]
    rfl

end Channels

section Writes

variable {s : State} {m : Master}

theorem exec_relearn (hopen : s.chip.opens m 0x03 = true) :
    exec (.relearn m) s = .next { s with chip := (s.chip.fresh.mpdForget (s.chip.chPort (s.chip.chanOf m 0x03))).settle } := by
  have hwrite : s.chip.fresh.rowWrite { m := m, row := Reg.SV_CCMD, i := 0, idx := s.chip.chanOf m 0x03, w := 2 } =
      (s.chip.fresh.mpdForget (s.chip.chPort (s.chip.chanOf m 0x03))).settle.done := by
    have hset : Word.bit 2 1 = true := by decide
    have hclear : Word.bit 2 0 = false := by decide
    have hport : s.chip.fresh.chPort (s.chip.chanOf m 0x03) = s.chip.chPort (s.chip.chanOf m 0x03) := rfl
    simp only [Chip.rowWrite, Chip.writeSv, Reg.SV_CCMD, Chip.onBit, hset, hclear, Bool.false_eq_true, if_false, if_true, hport]
  show s.runMaster m (fun c => c.regWrite m 0x03410 2) = _
  generalize (s.chip.fresh.mpdForget (s.chip.chPort (s.chip.chanOf m 0x03))).settle = settled at hwrite ⊢
  exact State.runMaster_rowWrite (r := Reg.SV_CCMD) (by decide) hopen (by decide) (by decide) (by cases m <;> rfl)
    (Bool.and_false _) rfl rfl hwrite

theorem exec_asymOk (hopen : s.chip.opens m 0x03 = true) :
    exec (.asymOk m) s = .next { s with
      chip := (s.chip.fresh.modCh (s.chip.chanOf m 0x03) fun y => { y with asymUncal := false }).settle } := by
  have hwrite : s.chip.fresh.rowWrite { m := m, row := Reg.SV_CCMD, i := 0, idx := s.chip.chanOf m 0x03, w := 1 } =
      (s.chip.fresh.modCh (s.chip.chanOf m 0x03) fun y => { y with asymUncal := false }).settle.done := by
    have hset : Word.bit 1 0 = true := by decide
    have hclear : Word.bit 1 1 = false := by decide
    simp only [Chip.rowWrite, Chip.writeSv, Reg.SV_CCMD, Chip.onBit, hset, hclear, Bool.false_eq_true, if_false, if_true]
  show s.runMaster m (fun c => c.regWrite m 0x03410 1) = _
  exact State.runMaster_rowWrite (r := Reg.SV_CCMD) (by decide) hopen (by decide) (by decide) (by cases m <;> rfl)
    (Bool.and_false _) rfl rfl hwrite

theorem exec_asymWrite (w : Word) {k : Nat} (hopen : s.chip.opens m 0x08 = true) (hch : s.chip.portCh (s.chip.chanOf m 0x08) = some k) :
    exec (.asymWrite m w) s = .next { s with
      chip := (s.chip.fresh.setReg Reg.LN_ASYM w (s.chip.chanOf m 0x08)).modCh k fun y => { y with asymUncal := true } } := by
  have hmerge : ∀ old : Word, Word.merge old w 0xFFFFFFFF = w := fun old => by
    rw [Word.merge, show ~~~(0xFFFFFFFF : Word) = 0#32 by decide, show (0xFFFFFFFF : Word) = BitVec.allOnes 32 by decide,
      BitVec.and_zero, BitVec.and_allOnes, BitVec.zero_or]
  have hwrite : s.chip.fresh.rowWrite { m := m, row := Reg.LN_ASYM, i := 0, idx := s.chip.chanOf m 0x08, w := w } =
      ((s.chip.fresh.setReg Reg.LN_ASYM w (s.chip.chanOf m 0x08)).modCh k fun y => { y with asymUncal := true }).done := by
    have hstore := s.chip.fresh.store_rw (x := { m := m, row := Reg.LN_ASYM, i := 0, idx := s.chip.chanOf m 0x08, w := w }) (Or.inl rfl)
    rw [show Reg.LN_ASYM.take = 0xFFFFFFFF from rfl, hmerge] at hstore
    have hch' : (s.chip.fresh.setReg Reg.LN_ASYM w (s.chip.chanOf m 0x08)).portCh (s.chip.chanOf m 0x08) = some k := hch
    show (((s.chip.fresh.store { m := m, row := Reg.LN_ASYM, i := 0, idx := s.chip.chanOf m 0x08, w := w }).asymWritten
      (s.chip.chanOf m 0x08)).done) = _
    rw [hstore]
    show ((s.chip.fresh.setReg Reg.LN_ASYM w (s.chip.chanOf m 0x08)).asymWritten (s.chip.chanOf m 0x08)).done = _
    rw [Chip.asymWritten, hch']
  show s.runMaster m (fun c => c.regWrite m 0x08440 w) = _
  exact State.runMaster_rowWrite (r := Reg.LN_ASYM) (by decide) hopen (by decide) (by decide) (by cases m <;> rfl)
    (Bool.and_false _) rfl rfl hwrite

end Writes

/-- Settles O37: windows, build-out, relearning and marks, each by the channel or port that its command writes. -/
theorem servoWindows : Obligations.ServoWindows := by
  unfold Obligations.ServoWindows
  refine ⟨fun s k hrst hcrown => ?lane, fun s k r hhub hrst hcrown hk href htype hqual => ?crown, fun s hrst => ?decay,
    fun s m hopen => ?relearn, fun s m hopen => ?mark, fun s m w k hopen hch => ?asym, fun s hrst hmode hflag => ?ready⟩
  case lane =>
    have hexec : exec .offsetWindowEnd s = .next { s with chip := s.chip.fresh.windowEnd.settle } := by
      show execOffsetWindowEnd s = _
      rw [execOffsetWindowEnd, State.run_eq hrst]
    refine State.answers hexec fun d hd => ?_
    rw [hd, Chip.settle_ch, s.chip.fresh.windowEnd_lane_ch hcrown]
    rfl
  case crown =>
    have hexec : exec .offsetWindowEnd s = .next { s with chip := s.chip.fresh.windowEnd.settle } := by
      show execOffsetWindowEnd s = _
      rw [execOffsetWindowEnd, State.run_eq hrst]
    refine State.answers hexec fun d hd => ?_
    rw [hd, Chip.settle_ch]
    exact s.chip.fresh.windowEnd_crown_ch hk hcrown href htype hqual
  case decay =>
    have hexec : exec .buildOutDecay s = .next { s with chip := s.chip.fresh.boTick } := by
      show execBuildOutDecay s = _
      rw [execBuildOutDecay, State.run_eq hrst]
    refine State.answers hexec fun d hd => ?_
    rw [hd]
    exact s.chip.fresh.boTick_leaves
  case relearn =>
    refine State.answers (exec_relearn hopen) fun d hd => ?_
    have hqual : (d.port (s.chip.chPort (s.chip.chanOf m 0x03))).still.qual = _ :=
      (congrArg (fun c : Chip => (c.port (s.chip.chPort (s.chip.chanOf m 0x03))).still.qual) hd).trans
        (s.chip.fresh.mpdForget_settled (s.chip.chPort (s.chip.chanOf m 0x03)))
    exact ⟨(congrArg PortQual.learnt hqual :), (congrArg PortQual.mpdRef hqual :), (congrArg PortQual.hist hqual :),
      (congrArg PortQual.ok hqual :)⟩
  case mark =>
    refine State.answers (exec_asymOk hopen) fun d hd => ?_
    rw [hd, Chip.settle_ch, Chip.ch_modCh]
    exact ⟨rfl, rfl⟩
  case asym =>
    refine State.answers (exec_asymWrite w hopen hch) fun d hd => ?_
    rw [hd]
    exact ⟨congrArg SvChan.asymUncal (Chip.ch_modCh _ k _), (Chip.reg_modCh _ k _ _ _).trans (s.chip.fresh.reg_setReg Reg.LN_ASYM w _ 0 0)⟩
  case ready =>
    have hgo : (s.chip.fresh.sv.mode == .locked && !s.chip.fresh.sv.horeadyFlag) = true := by
      rw [show s.chip.fresh.sv.mode = .locked from hmode, show s.chip.fresh.sv.horeadyFlag = false from hflag]
      rfl
    have hexec : exec .hordy s = .next { s with
        chip := ({ s.chip.fresh with sv := { s.chip.fresh.sv with horeadyFlag := true } } : Chip).note Event.SV_HORDY } := by
      show execHordy s = _
      rw [execHordy, State.run_eq hrst]
      exact congrArg (fun c : Chip => Host.Outcome.next { s with chip := c }) (if_pos hgo)
    exact State.answers hexec fun d hd => hd ▸ Chip.note_sv _ _ _

end Sys2Proof.Machine
end

section
/-!
O30: what a slot of a lane that is UP sends (R93), and what a NAK and the replay timer send again (R97).
-/

namespace Sys2Proof.Machine

section Slot

variable {c : Chip} {p : Nat}

theorem Chip.slot_up (hup : c.isUp p = true) (phase : Nat) : c.slot p phase = c.slotUp p phase := by
  have hmode : (c.port p).mode = .up := beq_iff_eq.1 hup
  simp only [Chip.slot, hmode]

/-! ### Which cell a slot takes -/

theorem Chip.slotUp_timing (hslot : (c.port p).code.txSlot = 0) {x : TxCell} {r : List TxCell} (hq : (c.port p).q.txT = x :: r)
    (phase : Nat) : c.slotUp p phase = c.sendTiming p x phase := by
  simp only [Chip.slotUp, hslot, hq]

/-- No timing cell is due: the slot is not the first, or none waits. -/
theorem Chip.slotUp_sequenced (hslot : (c.port p).code.txSlot ≠ 0 ∨ (c.port p).q.txT = []) (hresend : (c.port p).link.resend = [])
    (hage : c.aged p = none) (phase : Nat) :
    c.slotUp p phase =
      match ((c.port p).link.wrr ((c.mayLeave p).map fun e => e.1)).1 with
      | some k => (c.modLink p fun _ => ((c.port p).link.wrr ((c.mayLeave p).map fun e => e.1)).2).sendFirst p k
      | none => (c.modLink p fun _ => ((c.port p).link.wrr ((c.mayLeave p).map fun e => e.1)).2).sendLink p := by
  unfold Chip.slotUp
  extract_lets x w
  split
  · next h ht =>
      rcases hslot with hslot | hslot
      · exact absurd h hslot
      · exact nomatch hslot.symm.trans ht
  · rw [show x.link.resend = [] from hresend]
    simp only [hage]
    rfl

/-- A class B cell that holds a credit takes its turn (R93). -/
theorem PortLink.wrr_B {l : PortLink} {ready : List Nat} (hturn : 0 < l.turnB) (hready : clsB ∈ ready) :
    l.wrr ready = (some clsB, { l with turnB := l.turnB - 1 }) := by
  simp [PortLink.wrr, hturn, hready]

theorem PortLink.wrr_nil (l : PortLink) : l.wrr [] = (none, { l with turnB := 0, turnS := 0, turnM := 0 }) := by
  simp [PortLink.wrr]

theorem Chip.mayLeave_B (hfence : c.hg.fenced = false) {x : TxCell} {r : List TxCell} (hq : (c.port p).q.txB = x :: r)
    (hcred : 0 < (c.port p).link.credB) : clsB ∈ (c.mayLeave p).map fun e => e.1 := by
  refine List.mem_map.2 ⟨(clsB, x), List.mem_filter.2 ⟨?_, by rw [hfence]; rfl⟩, rfl⟩
  simp [PortState.ready, hq, hcred]

/-! ### What it leaves of the port -/

theorem Chip.count_port (n : Nat) (i : Option Nat) (k q : Nat) : (c.count n i k).port q = c.port q := by
  rw [Chip.port, Chip.port, Chip.count_ports]

theorem Chip.drive_port (x : Cell) (seq : Nat) :
    ∃ code, (c.drive p x seq).port p = { c.port p with link := { (c.port p).link with rot := ((c.port p).link.rot + 1) % 3 }, code := code }
      ∧ code.txSlot = ((c.port p).code.txSlot + 1) % 8 :=
  ⟨_, Chip.port_modPort _ _ _, rfl⟩

/-- A cell that stays behind no other of its class draws none into its queue. -/
theorem PortQueues.refill_none {q : PortQueues} {cls : Nat} (h : (q.wait.any fun w => w.1 == cls) = false) (frc : Nat) :
    q.refill cls frc = q := by
  have hfind : (q.wait.find? fun w => w.1 == cls) = none := by
    rw [List.find?_eq_none]
    exact fun w hw => by simpa using (List.any_eq_false.1 h) w hw
  rw [PortQueues.refill, hfind]

/-- The head of class B leaves for the first time (R90, R97). -/
theorem Chip.sendFirst_B {x : TxCell} {r : List TxCell} (hq : (c.port p).q.txB = x :: r)
    (hwait : ((c.port p).q.wait.any fun w => w.1 == clsB) = false) :
    ((c.sendFirst p clsB).port p).q.txB = r
      ∧ ((c.sendFirst p clsB).port p).link.credB = (c.port p).link.credB - 1
      ∧ ((c.sendFirst p clsB).port p).link.nextSeq = ((c.port p).link.nextSeq + 1) % 4096
      ∧ ((c.sendFirst p clsB).port p).link.replay.length = (c.port p).link.replay.length + 1
      ∧ ((c.sendFirst p clsB).port p).link.timerOn = true
      ∧ ((c.sendFirst p clsB).port p).code.txSlot = ((c.port p).code.txSlot + 1) % 8 := by
  have hrefill : (((c.port p).q.setTx clsB (((c.port p).q.tx clsB).drop 1)).refill clsB c.tk.frc).txB = r := by
    rw [PortQueues.refill_none (q := (c.port p).q.setTx clsB (((c.port p).q.tx clsB).drop 1)) hwait]
    show (c.port p).q.txB.drop 1 = r
    rw [hq]
    rfl
  have hhead : ((c.port p).q.tx clsB) = x :: r := hq
  unfold Chip.sendFirst
  simp only [hhead, List.head?_cons, Chip.count_port]
  generalize htaken : c.modPort p _ = taken
  have hport := (congrArg (fun d : Chip => d.port p) htaken.symm).trans (Chip.port_modPort c p _)
  obtain ⟨code, hdriven, hslot⟩ := taken.drive_port (p := p) x.cell (c.port p).link.nextSeq
  rw [hdriven]
  dsimp only at hport ⊢
  rw [hslot, hport]
  exact ⟨hrefill, rfl, rfl, List.length_append, rfl, rfl⟩

theorem Chip.sendTiming_port (x : TxCell) (phase : Nat) :
    ((c.sendTiming p x phase).port p).q = { (c.port p).q with txT := (c.port p).q.txT.drop 1 }
      ∧ ((c.sendTiming p x phase).port p).code.txSlot = ((c.port p).code.txSlot + 1) % 8
      ∧ ((c.sendTiming p x phase).port p).link.nextSeq = (c.port p).link.nextSeq := by
  unfold Chip.sendTiming
  extract_lets at_ cell popped stamped
  have hport : stamped.port p = { c.port p with
      q := { (c.port p).q with txT := (c.port p).q.txT.drop 1 }, time := (c.port p).time.sent cell at_ } := by
    simp only [stamped, popped, Chip.modTime, Chip.modQ, Chip.port_modPort]
  obtain ⟨code, hdriven, hslot⟩ := stamped.drive_port (p := p) cell 0
  rw [Chip.count_port, hdriven]
  dsimp only
  rw [hslot, hport]
  exact ⟨rfl, rfl, rfl⟩

theorem Chip.sendLink_port :
    ((c.sendLink p).port p).q.txL = (c.port p).q.txL.drop 1
      ∧ ((c.sendLink p).port p).link = { (c.port p).link with rot := ((c.port p).link.rot + 1) % 3 } := by
  unfold Chip.sendLink
  extract_lets cell popped
  have hport : popped.port p = { c.port p with q := { (c.port p).q with txL := (c.port p).q.txL.drop 1 } } := Chip.port_modPort _ _ _
  obtain ⟨code, hdriven, -⟩ := popped.drive_port (p := p) cell 0
  rw [Chip.count_port, hdriven]
  dsimp only
  rw [hport]
  exact ⟨rfl, rfl⟩

/-! ### Replay -/

/-- The unacknowledged cells are sent again (R97). -/
theorem Chip.replay_again (hmax : (c.port p).link.replays < c.replayMax) (hkept : (c.port p).link.replay ≠ []) :
    ((c.replay p).port p).link = { (c.port p).link with
        replays := (c.port p).link.replays + 1, resend := (c.port p).link.replay, timerOn := true }
      ∧ ((c.replay p).port p).mode = (c.port p).mode := by
  have hsome : (!(c.port p).link.replay.isEmpty) = true := by
    simpa using hkept
  unfold Chip.replay
  extract_lets again some_ sent
  have hagain : again.port p = { c.port p with link := { (c.port p).link with replays := (c.port p).link.replays + 1 } } :=
    Chip.port_modPort _ _ _
  have hsome' : some_ = true := by
    simp only [some_, hagain]
    exact hsome
  have hless : ¬ again.replayMax < (again.port p).link.replays := by
    rw [hagain]
    exact Nat.not_lt.2 hmax
  have hport : sent.port p = { c.port p with link := { (c.port p).link with
      replays := (c.port p).link.replays + 1, resend := (c.port p).link.replay, timerOn := true } } := by
    simp only [sent, Chip.modLink, Chip.port_modPort, hsome', hagain]
  have htold : (((sent.bump Reg.LN_CNT_REPLAY 1 p).report Event.LN_REPLAY (lnRep p)).port p).unsent = (sent.port p).unsent :=
    Chip.unsent_report _ _ _ _
  rw [if_neg hless, if_pos hsome']
  have hlink : (sent.port p).unsent.link = (sent.port p).link := rfl
  have hmode : (sent.port p).unsent.mode = (sent.port p).mode := rfl
  exact ⟨(congrArg PortState.link htold :).trans (hlink.trans (by rw [hport])),
    (congrArg PortState.mode htold :).trans (hmode.trans (by rw [hport]))⟩

/-- Settling leaves the sequencing of every port, and its mode. -/
theorem Chip.settle_link (q : Nat) : (c.settle.port q).link = (c.port q).link := by
  rcases c.settle_port q with h | h
  · exact (congrArg PortState.link h :)
  · exact (congrArg PortState.link h :)

theorem Chip.settle_mode (q : Nat) : (c.settle.port q).mode = (c.port q).mode := by
  rcases c.settle_port q with h | h
  · exact (congrArg PortState.mode h :)
  · exact (congrArg PortState.mode h :)

/-- A NAK frees the cells before the one it expects, and has the rest sent again (R97). -/
theorem Chip.nakTake_replays {e : Nat} (hnext : e ≠ (c.port p).link.nextSeq)
    (hheld : (e + 4096 - (c.port p).link.oldest) % 4096 < (c.port p).link.replay.length) :
    c.nakTake p e =
      (c.modLink p fun y => { y with replay := y.replay.drop ((e + 4096 - (c.port p).link.oldest) % 4096) }).replay p := by
  unfold Chip.nakTake
  exact (if_neg hnext).trans (if_pos hheld)

end Slot

/-! ### The commands -/

section Commands

variable {s : State} {p : Port} (hrst : s.chip.inReset = false) (hp : p.val < s.chip.nports)

include hrst hp

theorem exec_cellSlot (hup : s.chip.isUp p.val = true) (phase : Fin 64) :
    exec (.cellSlot p phase) s = .next { s with chip := s.chip.newCycle.slotUp p.val phase.val } := by
  show s.runPort p _ = _
  rw [State.runPort_eq hp hrst]
  exact congrArg (fun c : Chip => Host.Outcome.next { s with chip := c }) (Chip.slot_up (c := s.chip.newCycle) hup _)

theorem exec_nakReceive (hup : s.chip.isUp p.val = true) {x : Cell} (hhead : s.chip.headL p.val 0x01 = some x) :
    exec (.nakReceive p) s =
      .next { s with chip := ((s.chip.newCycle.popL p.val).nakTake p.val (Word.field (x.pay 2) 0 12)).settle } := by
  have hhead' : s.chip.newCycle.headL p.val 0x01 = some x := hhead
  have hup' : (s.chip.newCycle.popL p.val).isUp p.val = true := by
    rw [← hup]
    simp only [Chip.isUp, Chip.popL, Chip.modQ, Chip.port_modPort]
    rfl
  show execNakReceive p s = _
  rw [execNakReceive, State.runPort_eq hp hrst]
  simp only [hhead']
  exact congrArg (fun c : Chip => Host.Outcome.next { s with chip := c }) (if_pos hup')

theorem exec_replayTimeout (hup : s.chip.isUp p.val = true) (htimer : (s.chip.port p.val).link.timerOn = true) :
    exec (.replayTimeout p) s = .next { s with chip := (s.chip.newCycle.replay p.val).settle } := by
  have hdue : (s.chip.newCycle.isUp p.val && (s.chip.newCycle.port p.val).link.timerOn) = true := Bool.and_eq_true_iff.2 ⟨hup, htimer⟩
  show execReplayTimeout p s = _
  rw [execReplayTimeout, State.runPort_eq hp hrst]
  exact congrArg (fun c : Chip => Host.Outcome.next { s with chip := c }) (if_pos hdue)

end Commands

/-- Settles O30: a slot takes a timing cell, a resent one, an aged one, one of the round or a link-control one, in this
order; a replay resends what is not acknowledged, and settling leaves the sequencing. -/
theorem cellTransmit : Obligations.CellTransmit := by
  unfold Obligations.CellTransmit
  refine ⟨?_, ?_, ?_, ?_, ?_⟩
  · intro s p phase x r hrst hp hup hslot hq
    obtain ⟨hqueues, hcode, hseq⟩ := Chip.sendTiming_port (c := s.chip.newCycle) (p := p.val) x phase.val
    refine ⟨_, exec_cellSlot hrst hp hup phase, rfl, ?_⟩
    rw [Chip.slotUp_timing (c := s.chip.newCycle) hslot hq]
    refine ⟨?_, hcode.trans ?_, hseq, (congrArg (fun q : PortQueues => q.txB) hqueues).trans rfl⟩
    · refine (congrArg (fun q : PortQueues => q.txT) hqueues).trans ?_
      show (s.chip.port p.val).q.txT.drop 1 = r
      rw [hq]
      rfl
    · show ((s.chip.port p.val).code.txSlot + 1) % 8 = 1
      rw [hslot]
  · intro s p phase x r hrst hp hup hfence hslot hresend hage hq hwait hcred hturn
    have hready := Chip.mayLeave_B (c := s.chip.newCycle) hfence hq hcred
    have hchoice := PortLink.wrr_B (l := (s.chip.newCycle.port p.val).link) hturn hready
    refine ⟨_, exec_cellSlot hrst hp hup phase, rfl, ?_⟩
    rw [Chip.slotUp_sequenced (c := s.chip.newCycle) (Or.inl hslot) hresend hage, hchoice]
    dsimp only
    have hport : (s.chip.newCycle.modLink p.val fun _ => { (s.chip.newCycle.port p.val).link with
        turnB := (s.chip.newCycle.port p.val).link.turnB - 1 }).port p.val = { s.chip.port p.val with
        link := { (s.chip.port p.val).link with turnB := (s.chip.port p.val).link.turnB - 1 } } := Chip.port_modPort _ _ _
    generalize (s.chip.newCycle.modLink p.val _) = c at hport ⊢
    have hsent := Chip.sendFirst_B (c := c) (p := p.val) (x := x) (r := r) (by rw [hport]; exact hq) (by rw [hport]; exact hwait)
    rw [hport] at hsent
    exact hsent
  · intro s p phase hrst hp hup hq hresend hleave
    have hage : s.chip.newCycle.aged p.val = none := by
      have hleave' : s.chip.newCycle.mayLeave p.val = [] := hleave
      rw [Chip.aged, hleave']
      rfl
    refine ⟨_, exec_cellSlot hrst hp hup phase, rfl, ?_⟩
    rw [Chip.slotUp_sequenced (c := s.chip.newCycle) (Or.inr hq) hresend hage,
      show s.chip.newCycle.mayLeave p.val = [] from hleave, List.map_nil, PortLink.wrr_nil]
    dsimp only
    have hport : (s.chip.newCycle.modLink p.val fun _ => { (s.chip.newCycle.port p.val).link with
        turnB := 0, turnS := 0, turnM := 0 }).port p.val = { s.chip.port p.val with
        link := { (s.chip.port p.val).link with turnB := 0, turnS := 0, turnM := 0 } } := Chip.port_modPort _ _ _
    generalize (s.chip.newCycle.modLink p.val _) = c at hport ⊢
    obtain ⟨hcells, hlink⟩ := Chip.sendLink_port (c := c) (p := p.val)
    rw [hcells, hlink, hport]
    exact ⟨rfl, rfl, rfl⟩
  · intro s p x hrst hp hup hhead hnext hheld hmax
    have hpop : (s.chip.newCycle.popL p.val).port p.val =
        { s.chip.port p.val with q := { (s.chip.port p.val).q with rxL := (s.chip.port p.val).q.rxL.drop 1 } } := Chip.port_modPort _ _ _
    have hlink : ((s.chip.newCycle.popL p.val).port p.val).link = (s.chip.port p.val).link := (congrArg (fun x : PortState => x.link) hpop).trans rfl
    refine ⟨_, exec_nakReceive hrst hp hup hhead, rfl, ?_⟩
    rw [Chip.settle_link, Chip.settle_mode, Chip.nakTake_replays (by rw [hlink]; exact hnext) (by rw [hlink]; exact hheld), hlink]
    generalize hfreed : (s.chip.newCycle.popL p.val).modLink p.val _ = c
    have hport := (congrArg (fun d : Chip => d.port p.val) hfreed.symm).trans (Chip.port_modPort _ p.val _)
    rw [hpop] at hport
    have hmax' : (c.port p.val).link.replays < c.replayMax := by
      rw [hport, ← hfreed]
      exact hmax
    have hkept : (c.port p.val).link.replay ≠ [] := by
      rw [hport]
      exact fun hnil => absurd (List.drop_eq_nil_iff.1 hnil) (Nat.not_le.2 hheld)
    obtain ⟨hreplayed, hmode⟩ := Chip.replay_again hmax' hkept
    rw [hreplayed, hmode, hport]
    exact ⟨rfl, rfl, rfl, beq_iff_eq.1 hup⟩
  · intro s p hrst hp hup htimer hmax hkept
    obtain ⟨hreplayed, hmode⟩ := Chip.replay_again (c := s.chip.newCycle) (p := p.val) hmax hkept
    refine ⟨_, exec_replayTimeout hrst hp hup htimer, rfl, ?_⟩
    rw [Chip.settle_link, Chip.settle_mode, hreplayed, hmode]
    exact ⟨rfl, rfl, rfl, beq_iff_eq.1 hup⟩

end Sys2Proof.Machine
end

section
/-!
O32: IDENT, tick markers and delay probes as they are queued, taken and given up (R100 to R105).
-/

namespace Sys2Proof.Machine

/-! ### What a port has heard -/

/-- The last marker that a port has taken, its words, and the timing cells it has still to take. -/
def PortState.heard (x : PortState) : Option (Nat × Nat) × Word × Nat × List RxT :=
  (x.time.lastRx, x.time.tickW5, x.time.hops, x.q.rxT)

def Chip.heard (c : Chip) (p : Nat) : Option (Nat × Nat) × Word × Nat × List RxT := (c.port p).heard

theorem heard_of_still {x y : PortState} (h : x.still = y.still) : x.heard = y.heard := by
  have htime : x.time = y.time := (congrArg PortState.time h :)
  have hrxT : x.q.rxT = y.q.rxT := (congrArg (fun z : PortState => z.q.rxT) h :)
  rw [PortState.heard, PortState.heard, htime, hrxT]

theorem Chip.heard_of_steady {a b : Chip} (h : a.steady = b.steady) (p : Nat) : a.heard p = b.heard p :=
  heard_of_still (congrArg (fun x : Steady => x.ports p) h :)

theorem Chip.heard_of_port {a b : Chip} {p : Nat} (h : (a.port p).heard = (b.port p).heard) : a.heard p = b.heard p := h

section Heard

variable (c : Chip) (p : Nat)

theorem Chip.heard_modPort {f : PortState → PortState} (h : (f (c.port p)).heard = (c.port p).heard) :
    (c.modPort p f).heard p = c.heard p := by
  rw [Chip.heard, Chip.port_modPort]
  exact h

theorem heard_ite {q : Prop} [Decidable q] {x y : Chip} {w : Option (Nat × Nat) × Word × Nat × List RxT} (hx : x.heard p = w)
    (hy : y.heard p = w) : (if q then x else y).heard p = w := by
  split
  · exact hx
  · exact hy

theorem Chip.modCh_heard (k : Nat) (f : SvChan → SvChan) : (c.modCh k f).heard p = c.heard p := by
  unfold Chip.modCh
  exact heard_ite p rfl rfl

theorem Chip.rawSample_heard (k : Nat) (x : Int) : (c.rawSample k x).heard p = c.heard p :=
  (Chip.heard_of_steady (Chip.sample_steady _ _ _ _) p).trans (c.modCh_heard p _ _)

theorem Chip.svSample_heard (k : Nat) (x : Int) : (c.svSample k x).heard p = c.heard p := by
  unfold Chip.svSample
  refine heard_ite p rfl (heard_ite p ?_ ?_)
  · exact foldl_keeps (fun d : Chip => d.heard p) _ _ _ fun y k => y.rawSample_heard p k x
  · exact (Chip.rawSample_heard _ p k x).trans (c.modCh_heard p _ _)

theorem Chip.offsetSample_heard (x : Cell) (rx : Nat) : (c.offsetSample p x rx).heard p = c.heard p := by
  unfold Chip.offsetSample
  split
  · exact c.svSample_heard p _ _
  · rfl

theorem Chip.delay_heard (mpd : Int) (rtt : Nat) : (c.modTime p fun x => { x with mpd := mpd, rtt := rtt }).heard p = c.heard p :=
  c.heard_modPort p rfl

theorem Chip.modQual_heard (f : PortQual → PortQual) : (c.modQual p f).heard p = c.heard p :=
  c.heard_modPort p rfl

theorem Chip.tqualEval_heard : (c.tqualEval p).heard p = c.heard p := c.heard_modPort p rfl

theorem Chip.qualRestart_heard : (c.qualRestart p).heard p = c.heard p :=
  (Chip.tqualEval_heard _ p).trans (c.modQual_heard p _)

theorem Chip.report_heard (e : Ev) (r : Rep) : (c.report e r).heard p = c.heard p :=
  Chip.heard_of_steady (c.report_steady e r) p

theorem Chip.probeLearn_heard (mpd : Int) : (c.probeLearn p mpd).heard p = c.heard p := by
  unfold Chip.probeLearn
  refine heard_ite p (c.modQual_heard p _) (heard_ite p (c.modQual_heard p _) (heard_ite p (c.modQual_heard p _) ?_))
  exact (Chip.report_heard _ p _ _).trans (c.modQual_heard p _)

theorem Chip.probeJudge_heard (mpd : Int) : (c.probeJudge p mpd).heard p = c.heard p := by
  unfold Chip.probeJudge
  refine heard_ite p (c.probeLearn_heard p mpd) (heard_ite p ?_ (heard_ite p ?_ (c.modQual_heard p _)))
  · exact (Chip.tqualEval_heard _ p).trans (c.modQual_heard p _)
  · exact heard_ite p ((Chip.report_heard _ p _ _).trans (c.qualRestart_heard p)) (c.qualRestart_heard p)

theorem Chip.probeDone_heard (t1 t2 t3 t4 : Nat) : (c.probeDone p t1 t2 t3 t4).heard p = c.heard p := by
  unfold Chip.probeDone
  extract_lets d mpd measured
  have hmeasured : measured.heard p = c.heard p := c.delay_heard p mpd _
  clear_value measured mpd d
  refine (Chip.heard_of_steady (Chip.dieCensus_steady _) p).trans ((Chip.probeJudge_heard _ p _).trans ?_)
  exact (Chip.heard_of_steady (Chip.sample_steady _ _ _ _) p).trans hmeasured

theorem Chip.t3Take_heard (x : Cell) : (c.t3Take p x).heard p = c.heard p := by
  unfold Chip.t3Take
  refine heard_ite p rfl ?_
  split
  · exact (Chip.probeDone_heard _ p _ _ _ _).trans (c.heard_modPort p rfl)
  · rfl

/-- The words that a TICK brings are kept with its port (R100). -/
theorem Chip.tickFlags_heard (x : Cell) :
    (c.tickFlags p x).heard p = ((c.port p).time.lastRx, x.pay 5, Word.field (x.pay 12) 16 8, (c.port p).q.rxT) := by
  unfold Chip.tickFlags
  extract_lets w5 flagged
  have hflagged : flagged.heard p = ((c.port p).time.lastRx, x.pay 5, Word.field (x.pay 12) 16 8, (c.port p).q.rxT) := by
    rw [Chip.heard]
    simp only [flagged, Chip.modTime, Chip.port_modPort]
    rfl
  split
  · exact hflagged
  · extract_lets told crown take
    have htold : told.heard p = flagged.heard p := flagged.modCh_heard p _ _
    have htake : ∀ d : Chip, d.heard p = told.heard p → (d.traceSet (Word.bit w5 27)).heard p = flagged.heard p := fun d hd =>
      (Chip.heard_of_steady (d.traceSet_steady _) p).trans (hd.trans htold)
    have hutc : (if crown = true then told else { told with tk := { told.tk with utcMirror := x.pay 6 } }).heard p = told.heard p :=
      heard_ite p rfl rfl
    exact (heard_ite p (htake _ hutc) (htold.trans rfl)).trans hflagged

/-- A TICK leaves its number and stamp, and what it says of its sender (R100). -/
theorem Chip.tickTake_heard (r : RxT) :
    (c.tickTake p r).heard p = (some (Word.field (Cell.word r.cell 19) 16 12, r.stamp), r.cell.pay 5,
      Word.field (r.cell.pay 12) 16 8, (c.port p).q.rxT) := by
  unfold Chip.tickTake
  extract_lets x n prev pair stamped sampled
  have hstamped : stamped.heard p = (some (n, r.stamp), (c.port p).time.tickW5, (c.port p).time.hops, (c.port p).q.rxT) := by
    rw [Chip.heard]
    simp only [stamped, Chip.modTime, Chip.port_modPort]
    rfl
  have hsampled : sampled.heard p = stamped.heard p := by
    clear_value prev pair
    simp only [sampled]
    split
    · exact stamped.offsetSample_heard p _ _
    · rfl
    · rfl
  have hlast : (sampled.port p).time.lastRx = some (n, r.stamp) :=
    (congrArg (fun h : Option (Nat × Nat) × Word × Nat × List RxT => h.1) (hsampled.trans hstamped) :)
  have hrest : (sampled.port p).q.rxT = (c.port p).q.rxT :=
    (congrArg (fun h : Option (Nat × Nat) × Word × Nat × List RxT => h.2.2.2) (hsampled.trans hstamped) :)
  rw [Chip.t3Take_heard, Chip.tickFlags_heard, hlast, hrest]

theorem Chip.settle_heard : c.settle.heard p = c.heard p := by
  rcases c.settle_port p with h | h
  · exact heard_of_still h
  · exact (heard_of_still h).trans rfl

end Heard

/-- Qualification that starts again takes time qualification away (R102, R134). -/
theorem Chip.qualRestart_port (c : Chip) (p : Nat) : (c.qualRestart p).port p = { c.port p with
    qual := { (c.port p).qual with qcount := 0, outCount := 0, ok := false }, tqual := false } := by
  rw [Chip.qualRestart, Chip.tqualEval, Chip.port_modPort, Chip.modQual, Chip.port_modPort]
  simp only [Bool.and_false, Bool.false_and]

/-- Settling leaves a port without qualified time as it is. -/
theorem Chip.settle_unqualified {c : Chip} {p : Nat} {x : PortState} (hstill : (c.port p).still = x.still) (hlast : x.time.lastRx = none)
    (hok : x.qual.ok = false) (htqual : x.tqual = false) :
    (c.settle.port p).time.lastRx = none ∧ (c.settle.port p).qual.ok = false ∧ (c.settle.port p).tqual = false
      ∧ (c.settle.port p).mode = x.mode := by
  have hmode : (c.port p).mode = x.mode := (congrArg PortState.mode hstill :)
  have hlast' : (c.port p).time.lastRx = none := (congrArg (fun y : PortState => y.time.lastRx) hstill :).trans hlast
  have hok' : (c.port p).qual.ok = false := (congrArg (fun y : PortState => y.qual.ok) hstill :).trans hok
  have htqual' : (c.port p).tqual = false := (congrArg PortState.tqual hstill :).trans htqual
  have hjudge : (c.port p).judge.tqual = false := by
    simp only [PortState.judge, hok', Bool.and_false, Bool.false_and]
  refine ⟨?_, ?_, ?_, (c.settle_mode p).trans hmode⟩
  · rcases c.settle_port p with h | h
    · exact (congrArg (fun y : PortState => y.time.lastRx) h :).trans hlast'
    · exact (congrArg (fun y : PortState => y.time.lastRx) h :).trans hlast'
  · rcases c.settle_port p with h | h
    · exact (congrArg (fun y : PortState => y.qual.ok) h :).trans hok'
    · exact (congrArg (fun y : PortState => y.qual.ok) h :).trans hok'
  · rcases c.settle_port p with h | h
    · exact (congrArg PortState.tqual h :).trans htqual'
    · exact (congrArg PortState.tqual h :).trans hjudge

/-! ### Timing cells that wait -/

section Queue

variable (c : Chip) {p : Nat}

theorem Chip.queueT_port (x : Cell) (hroom : (c.port p).q.txT.length < 8) :
    (c.queueT p x).port p = { c.port p with q := { (c.port p).q with
      txT := if x.typ = 0x10 then { cell := x, at_ := c.tk.frc } :: (c.port p).q.txT
        else (c.port p).q.txT ++ [{ cell := x, at_ := c.tk.frc }] } } := by
  unfold Chip.queueT
  rw [if_neg (Nat.not_le.2 hroom)]
  exact Chip.port_modPort _ _ _

theorem tick_typ (w : Word) : (mkCellW clsT 0x10 0 (List.replicate 11 0) w).typ = 0x10 := by
  show Word.field (Word.place clsT 28 ||| Word.place 0x10 20 ||| Word.place 0 8 ||| BitVec.ofNat 32 11) 20 8 = 0x10
  decide

theorem probe_typ (w : Word) : (mkCellW clsT 0x11 0 [] w).typ ≠ 0x10 := by
  show Word.field (Word.place clsT 28 ||| Word.place 0x11 20 ||| Word.place 0 8 ||| BitVec.ofNat 32 0) 20 8 ≠ 0x10
  decide

theorem response_typ (t : Nat) (w : Word) : (mkCellW clsT 0x12 0 (timeWords t) w).typ ≠ 0x10 := by
  show Word.field (Word.place clsT 28 ||| Word.place 0x12 20 ||| Word.place 0 8 ||| BitVec.ofNat 32 3) 20 8 ≠ 0x10
  decide

/-- With room in its queue a TICK waits before the probes (R93, R100). -/
theorem Chip.queueT_first {x : Cell} (htyp : x.typ = 0x10) (hroom : (c.port p).q.txT.length < 8) :
    ((c.queueT p x).port p).q.txT = { cell := x, at_ := c.tk.frc } :: (c.port p).q.txT
      ∧ ((c.queueT p x).port p).time = (c.port p).time := by
  rw [c.queueT_port x hroom]
  exact ⟨if_pos htyp, rfl⟩

/-- With room in its queue any other timing cell waits behind the rest. -/
theorem Chip.queueT_last {x : Cell} (htyp : x.typ ≠ 0x10) (hroom : (c.port p).q.txT.length < 8) :
    ((c.queueT p x).port p).q.txT = (c.port p).q.txT ++ [{ cell := x, at_ := c.tk.frc }]
      ∧ ((c.queueT p x).port p).time = (c.port p).time ∧ ((c.queueT p x).port p).q.rxT = (c.port p).q.rxT := by
  rw [c.queueT_port x hroom]
  exact ⟨if_neg htyp, rfl, rfl⟩

theorem Chip.popT_port (p : Nat) : (c.popT p).port p = { c.port p with q := { (c.port p).q with rxT := (c.port p).q.rxT.drop 1 } } :=
  Chip.port_modPort _ _ _

theorem Chip.modTime_port (p : Nat) (f : PortTime → PortTime) : (c.modTime p f).port p = { c.port p with time := f (c.port p).time } :=
  Chip.port_modPort _ _ _

/-- The IDENT of a port waits at the end of its link-control cells. -/
theorem Chip.sendL_port (p : Nat) (x : Cell) :
    (c.sendL p x).port p = { c.port p with q := { (c.port p).q with txL := (c.port p).q.txL ++ [x] } } :=
  Chip.port_modPort _ _ _

end Queue

/-! ### The commands -/

/-- Settles O32: each timing cell waits in the queue of its class or is taken with its stamp, and settling leaves what has
been taken. -/
theorem handshakeAndMarkers : Obligations.HandshakeAndMarkers := by
  unfold Obligations.HandshakeAndMarkers
  refine ⟨?_, ?_, ?_, ?_, ?_, ?_, ?_, ?_⟩
  · intro s p hrst hp hmode
    have hexec : exec (.identSend p) s = .next { s with chip := s.chip.newCycle.sendL p.val (s.chip.newCycle.identCell p.val) } := by
      show execIdentSend p s = _
      rw [execIdentSend, State.runPort_eq hp hrst]
      have hmode' : (s.chip.newCycle.port p.val).mode ∈ [PortMode.ident, .up, .refused] := hmode
      simp only [List.mem_cons, List.not_mem_nil, or_false] at hmode'
      rcases hmode' with h | h | h <;> simp only [h]
    refine ⟨_, hexec, rfl, ?_, ?_⟩
    · exact (congrArg (fun x : PortState => x.q.txL) (Chip.sendL_port _ _ _)).trans rfl
    · exact (congrArg (fun x : PortState => { x with q := PortQueues.reset }) (Chip.sendL_port _ _ _)).trans rfl
  · intro s p hrst hp hup hroom
    have hexec : exec (.tickSend p) s = .next { s with chip := s.chip.newCycle.tickQueue p.val } := by
      show execTickSend p s = _
      rw [execTickSend, State.runPort_eq hp hrst]
      exact congrArg (fun c : Chip => Host.Outcome.next { s with chip := c }) (if_pos hup)
    refine ⟨_, hexec, rfl, ?_⟩
    unfold Chip.tickQueue
    extract_lets n
    generalize hnumbered : s.chip.newCycle.modTime p.val _ = c
    have hport := (congrArg (fun d : Chip => d.port p.val) hnumbered.symm).trans (Chip.modTime_port _ p.val _)
    have hfrc : c.tk.frc = s.chip.tk.frc := by
      rw [← hnumbered]
      rfl
    obtain ⟨hcells, htime⟩ := c.queueT_first (p := p.val)
      (x := mkCellW clsT 0x10 0 (List.replicate 11 0) (markerWord 1 n 0)) (tick_typ _) (by rw [hport]; exact hroom)
    refine ⟨hcells.trans ?_, (congrArg (fun x : PortTime => x.mseqTick) htime).trans ?_⟩
    · rw [hport, hfrc]
      rfl
    · rw [hport]
      rfl
  · intro s p hrst hp hup hroom
    have hexec : exec (.preqSend p) s = .next { s with chip := s.chip.newCycle.preqQueue p.val } := by
      show execPreqSend p s = _
      rw [execPreqSend, State.runPort_eq hp hrst]
      exact congrArg (fun c : Chip => Host.Outcome.next { s with chip := c }) (if_pos hup)
    refine ⟨_, hexec, rfl, ?_⟩
    unfold Chip.preqQueue
    extract_lets x probe
    generalize hnumbered : s.chip.newCycle.modTime p.val _ = c
    have hport := (congrArg (fun d : Chip => d.port p.val) hnumbered.symm).trans (Chip.modTime_port _ p.val _)
    obtain ⟨hcells, htime, -⟩ := c.queueT_last (p := p.val)
      (x := mkCellW clsT 0x11 0 [] (markerWord 2 x.mseqReq x.nextId)) (probe_typ _) (by rw [hport]; exact hroom)
    refine ⟨(congrArg List.length hcells).trans ?_, (congrArg (fun x : PortTime => x.probes) htime).trans ?_,
      (congrArg (fun x : PortTime => x.nextId) htime).trans ?_⟩
    · rw [hport]
      exact List.length_append
    · rw [hport]
      rfl
    · rw [hport]
      rfl
  · intro s p r hrst hp hhead hroom
    have hhead' : s.chip.newCycle.headT p.val 0x11 = some r := hhead
    show ∃ t, execPreqReceive p s = _ ∧ _
    rw [execPreqReceive, State.runPort_eq hp hrst]
    simp only [hhead']
    refine ⟨_, rfl, rfl, ?_⟩
    generalize hnumbered : (s.chip.newCycle.popT p.val).modTime p.val _ = c
    have hport := (congrArg (fun d : Chip => d.port p.val) hnumbered.symm).trans (Chip.modTime_port _ p.val _)
    rw [Chip.popT_port] at hport
    have hfrc : c.tk.frc = s.chip.tk.frc := by
      rw [← hnumbered]
      rfl
    obtain ⟨hcells, -, hrest⟩ := c.queueT_last (p := p.val)
      (x := mkCellW clsT 0x12 0 (timeWords r.stamp) (markerWord 3 (s.chip.port p.val).time.mseqRsp
        (Word.field (Cell.word r.cell 19) 0 16))) (response_typ _ _) (by rw [hport]; exact hroom)
    refine ⟨hrest.trans ?_, hcells.trans ?_⟩
    · rw [hport]
      rfl
    · rw [hport, hfrc]
      rfl
  · intro s p r n hrst hp hhead hprobes
    have hhead' : s.chip.newCycle.headT p.val 0x12 = some r := hhead
    show ∃ t, execPrspReceive p s = _ ∧ _
    rw [execPrspReceive, State.runPort_eq hp hrst]
    simp only [hhead']
    refine ⟨_, rfl, rfl, ?_⟩
    dsimp only
    rw [Chip.modTime_port, Chip.popT_port]
    have hprobes' : (s.chip.newCycle.port p.val).time.probes =
        [{ id := Word.field (Cell.word r.cell 19) 0 16, t1 := some n, t2 := none, t4 := none }] := hprobes
    refine ⟨?_, rfl⟩
    simp [hprobes']
  · intro s p hrst hp hprobes
    have hexec : exec (.probeAbandon p) s = .next { s with chip :=
        (s.chip.newCycle.modTime p.val fun x => { x with probes := x.probes.drop 1 }).bump Reg.LN_CNT_SKIP 1 p.val } := by
      show execProbeAbandon p s = _
      rw [execProbeAbandon, State.runPort_eq hp hrst]
      refine congrArg (fun c : Chip => Host.Outcome.next { s with chip := c }) (if_neg ?_)
      exact fun h => hprobes (List.isEmpty_iff.1 h)
    refine ⟨_, hexec, rfl, ?_⟩
    have hport := Chip.modTime_port s.chip.newCycle p.val fun x => { x with probes := x.probes.drop 1 }
    exact ⟨(congrArg (fun x : PortState => x.time.probes) hport).trans rfl, (congrArg (fun x : PortState => x.mode) hport).trans rfl⟩
  · intro s p r hrst hp hhead
    have hhead' : s.chip.newCycle.headT p.val 0x10 = some r := hhead
    show ∃ t, execTickReceive p s = _ ∧ _
    rw [execTickReceive, State.runPort_eq hp hrst]
    simp only [hhead']
    refine ⟨_, rfl, rfl, ?_⟩
    dsimp only
    have hheard := ((Chip.settle_heard _ p.val).trans ((s.chip.newCycle.popT p.val).tickTake_heard p.val r))
    rw [Chip.popT_port] at hheard
    simp only [Chip.heard, PortState.heard, Prod.mk.injEq] at hheard
    exact hheard
  · intro s p hrst hp hup
    have hexec : exec (.mkrTimeout p) s = .next { s with chip :=
        (((s.chip.newCycle.qualRestart p.val).modTime p.val fun x => { x with lastRx := none }).report Event.LN_MKR_TIMEOUT
          (lnRep p.val)).settle } := by
      show execMkrTimeout p s = _
      rw [execMkrTimeout, State.runPort_eq hp hrst]
      exact congrArg (fun c : Chip => Host.Outcome.next { s with chip := c }) (if_pos hup)
    refine ⟨_, hexec, rfl, ?_⟩
    generalize hforgot : (s.chip.newCycle.qualRestart p.val).modTime p.val _ = c
    have hport := (congrArg (fun d : Chip => d.port p.val) hforgot.symm).trans (Chip.modTime_port _ p.val _)
    rw [Chip.qualRestart_port] at hport
    obtain ⟨hlast, hok, htqual, hmode⟩ := Chip.settle_unqualified (c := c.report Event.LN_MKR_TIMEOUT (lnRep p.val)) (p := p.val)
      (x := c.port p.val) (PortState.still_of_unsent (Chip.unsent_report _ _ _ _)) (by rw [hport]) (by rw [hport]) (by rw [hport])
    refine ⟨hlast, hok, htqual, hmode.trans ?_⟩
    rw [hport]
    exact beq_iff_eq.1 hup

end Sys2Proof.Machine
end

section
/-!
O28: a port is checked, trained, locked and brought UP (R81, R84, R104 to R108). What each operation moves besides the
port it speaks of is read from its traffic: the mode and the sequencing of every port.
-/

namespace Sys2Proof.Machine

/-! ### Mode and sequencing of the ports -/

/-- The mode and the sequencing of every port. -/
def Chip.traffic (c : Chip) (q : Nat) : PortMode × PortLink := ((c.port q).mode, (c.port q).link)

theorem traffic_of_steady {a b : Chip} (h : a.steady = b.steady) : a.traffic = b.traffic :=
  congrArg (fun (x : Steady) (q : Nat) => ((x.ports q).mode, (x.ports q).link)) h

theorem traffic_of_outline {a b : Chip} (h : a.outline = b.outline) : a.traffic = b.traffic :=
  congrArg (fun (x : Steady) (q : Nat) => ((x.ports q).mode, (x.ports q).link)) h

theorem Chip.pw_of_steady {a b : Chip} (h : a.steady = b.steady) : a.pw = b.pw := congrArg Steady.pw h

theorem Chip.mode_of_steady {a b : Chip} (h : a.steady = b.steady) (p : Nat) : (a.port p).mode = (b.port p).mode :=
  congrArg (fun x : Steady => (x.ports p).mode) h

theorem traffic_ite {q : Prop} [Decidable q] {x y : Chip} {w : Nat → PortMode × PortLink} (hx : x.traffic = w) (hy : y.traffic = w) :
    (if q then x else y).traffic = w := by
  split
  · exact hx
  · exact hy

section Traffic

variable (c : Chip) (p : Nat)

theorem Chip.traffic_modPort {f : PortState → PortState} (hmode : ∀ x, (f x).mode = x.mode) (hlink : ∀ x, (f x).link = x.link) :
    (c.modPort p f).traffic = c.traffic := by
  funext q
  by_cases hq : q = p
  · subst hq
    rw [Chip.traffic, Chip.port_modPort, hmode, hlink]
    rfl
  · rw [Chip.traffic, Chip.port_modPort_ne _ hq]
    rfl

theorem Chip.traffic_modPort_ne {q : Nat} (hq : q ≠ p) (f : PortState → PortState) : (c.modPort p f).traffic q = c.traffic q := by
  rw [Chip.traffic, Chip.port_modPort_ne _ hq]
  rfl

theorem Chip.traffic_modPort_self (f : PortState → PortState) :
    (c.modPort p f).traffic p = ((f (c.port p)).mode, (f (c.port p)).link) := by
  rw [Chip.traffic, Chip.port_modPort]

theorem Chip.settle_traffic : c.settle.traffic = c.traffic := by
  funext q
  rw [Chip.traffic, c.settle_mode, c.settle_link]
  rfl

theorem Chip.modQual_traffic (f : PortQual → PortQual) : (c.modQual p f).traffic = c.traffic :=
  c.traffic_modPort p (fun _ => rfl) fun _ => rfl

theorem Chip.tqualEval_traffic : (c.tqualEval p).traffic = c.traffic := c.traffic_modPort p (fun _ => rfl) fun _ => rfl

theorem Chip.mpdForget_traffic : (c.mpdForget p).traffic = c.traffic :=
  (Chip.tqualEval_traffic _ p).trans ((Chip.modQual_traffic _ p _).trans (c.modQual_traffic p _))

theorem Chip.modCh_traffic (k : Nat) (f : SvChan → SvChan) : (c.modCh k f).traffic = c.traffic := by
  unfold Chip.modCh
  exact traffic_ite rfl rfl

theorem Chip.inoteOn_traffic : (c.inoteOn p).traffic = c.traffic := by
  unfold Chip.inoteOn
  exact traffic_ite (traffic_of_steady (Chip.sendCells_steady _ _ _ _)) (traffic_ite rfl rfl)

theorem Chip.keptSend_steady : (c.keptSend p).steady = c.steady := by
  refine steady_foldl _ _ c fun x g => ?_
  unfold Chip.keptTo
  extract_lets e
  split
  · refine steady_ite ?_ rfl
    unfold Chip.closeIfSent
    exact steady_ite (Chip.sendDown_steady _ _ _ _ _) ((Chip.closeDone_steady _ _).trans (Chip.sendDown_steady _ _ _ _ _))
  · rfl

/-! ### A lane goes down -/

theorem Chip.keepReleases_steady (l : List Cell) : (c.keepReleases p l).steady = c.steady := by
  refine steady_foldl _ _ c fun x y => ?_
  split
  · exact steady_ite rfl (x.modEnt_steady _ _)
  · rfl

theorem Chip.lossOf_steady (reason : Nat) (k : Option (Bool × Nat)) : (c.lossOf p reason k).steady = c.steady := by
  unfold Chip.lossOf
  split
  · exact c.lossReport_steady p _ _ _
  · rfl

theorem Chip.treePortDown_leaves : (c.treePortDown p).pw = c.pw ∧ (c.treePortDown p).traffic = c.traffic := by
  have hsteady := c.treePortDown_kids p
  generalize c.treePortDown p = d at hsteady ⊢
  exact ⟨(congrArg Steady.pw hsteady :), congrArg (fun (x : Steady) (q : Nat) => ((x.ports q).mode, (x.ports q).link)) hsteady⟩

/-- The port whose cells are discarded takes its state, and no other port is touched. -/
theorem Chip.flushTo_leaves (m : PortMode) :
    (c.flushTo p m).pw = c.pw ∧ ((c.flushTo p m).port p).mode = m ∧ ∀ q, q ≠ p → (c.flushTo p m).traffic q = c.traffic q := by
  unfold Chip.flushTo
  extract_lets l kept
  have hkept : kept.steady = c.steady := c.keepReleases_steady p _
  have hport := Chip.port_modPort kept p fun x => { x.cleared with mode := m }
  have hpw : (kept.modPort p fun x => { x.cleared with mode := m }).pw = c.pw := (rfl : _ = kept.pw).trans (Chip.pw_of_steady hkept)
  have hrest : ∀ q, q ≠ p → (kept.modPort p fun x => { x.cleared with mode := m }).traffic q = c.traffic q := fun q hq =>
    (kept.traffic_modPort_ne p hq _).trans (congrFun (traffic_of_steady hkept) q)
  generalize (kept.modPort p fun x => { x.cleared with mode := m }) = taken at hport hpw hrest ⊢
  have hmode : (taken.port p).mode = m := by
    rw [hport]
  exact ⟨hpw, hmode, hrest⟩

/-- What a lane that goes down leaves: the supplies, and every other port (R107). -/
theorem Chip.laneDown_leaves (rsn : Nat) :
    (c.laneDown p rsn).pw = c.pw ∧ ((c.laneDown p rsn).port p).mode = .down
      ∧ ∀ q, q ≠ p → (c.laneDown p rsn).traffic q = c.traffic q := by
  unfold Chip.laneDown
  split
  · next h => exact ⟨rfl, beq_iff_eq.1 h, fun _ _ => rfl⟩
  · extract_lets k n flushed told
    obtain ⟨hpw, hmode, hrest⟩ := c.flushTo_leaves p .down
    have hsteady : (told.lossOf p 1 k).steady = flushed.steady := (told.lossOf_steady p 1 k).trans (Chip.report_steady _ _ _)
    have hmode' : (flushed.port p).mode = .down := by
      simp only [flushed, Chip.port_modPort]
      exact hmode
    have hpw' : flushed.pw = c.pw := hpw
    have hrest' : ∀ q, q ≠ p → flushed.traffic q = c.traffic q := fun q hq =>
      (Chip.traffic_modPort_ne _ p hq _).trans (hrest q hq)
    generalize told.lossOf p 1 k = lost at hsteady ⊢
    obtain ⟨hleft, htraffic⟩ := lost.treePortDown_leaves p
    refine ⟨hleft.trans ((Chip.pw_of_steady hsteady).trans hpw'), ?_, fun q hq => ?_⟩
    · exact (congrArg Prod.fst (congrFun htraffic p)).trans ((Chip.mode_of_steady hsteady p).trans hmode')
    · exact (congrFun htraffic q).trans ((congrFun (traffic_of_steady hsteady) q).trans (hrest' q hq))

/-! ### A lane comes UP -/

/-- The credits that a lane takes as it comes UP (R90, R104). -/
def PortState.credit (x : PortState) (lo : Nat) : Nat :=
  if !x.restricted && !x.peerCrown then Word.field (x.peerWord 7) lo 8 else 0

/-- A lane that comes UP starts its sequencing with the credits that the peer's buffers give (R104). -/
theorem Chip.laneUp_traffic : (c.laneUp p).traffic = (c.modPort p fun y =>
    { y with
      mode := .up
      q := { y.q with txL := y.q.txL, rxT := [] }
      link := { PortLink.reset with
        credB := (c.port p).credit 16, credS := (c.port p).credit 8, credM := (c.port p).credit 0 } }).traffic := by
  unfold Chip.laneUp
  extract_lets x open_ w7 credit link risen told learnt named uncal tr up tr' noted kept lost tr'' fresh grouped treed
  have hlearnt : learnt.traffic = risen.traffic :=
    traffic_ite ((Chip.mpdForget_traffic _ _).trans (traffic_ite (traffic_of_steady (Chip.report_steady _ _ _)) rfl))
      (traffic_ite (traffic_of_steady (Chip.report_steady _ _ _)) rfl)
  have hnamed : named.traffic = risen.traffic := (learnt.modQual_traffic _ _).trans hlearnt
  have huncal : uncal.traffic = risen.traffic := by
    simp only [uncal]
    split
    · exact (Chip.modCh_traffic _ _ _).trans hnamed
    · exact hnamed
  have hup : up.traffic = risen.traffic := huncal
  have hnoted : noted.traffic = risen.traffic := traffic_ite ((Chip.inoteOn_traffic _ _).trans hup) hup
  have hkept : kept.traffic = risen.traffic := (traffic_of_steady (Chip.keptSend_steady _ _)).trans hnoted
  have hlost : lost.traffic = risen.traffic := traffic_ite ((traffic_of_steady (Chip.lossReport_steady _ _ _ _ _)).trans hkept) hkept
  clear_value lost
  have hfresh : fresh.traffic = risen.traffic := traffic_ite hlost hlost
  have hgrouped : grouped.traffic = risen.traffic := traffic_ite ((traffic_of_steady (Chip.groupsUp_steady _ _)).trans hfresh) hfresh
  have htreed : treed.traffic = risen.traffic := (traffic_of_outline (Chip.treeEval_outline _)).trans hgrouped
  exact traffic_ite ((traffic_of_steady (Chip.sendCells_steady _ _ _ _)).trans htreed) htreed

end Traffic

/-! ### The wiring checks -/

section Wiring

variable {a b : Chip}

/-- The wiring checks read what the ports have been told of their peers, and the part's own identity (R106, R108). -/
theorem wiring_congr (hid : a.id = b.id) (hregs : a.regs = b.regs) (hpeers : ∀ q, (a.port q).peer = (b.port q).peer) (p : Nat) :
    a.wiring p = b.wiring p ∧ a.twins p (a.port p) = b.twins p (b.port p) := by
  have hreg : ∀ r i, a.reg r i = b.reg r i := fun r i => Chip.reg_eq_of_regs hid hregs r i 0 0
  have htwins : a.twins p (a.port p) = b.twins p (b.port p) := by
    simp only [Chip.twins, Chip.nports, PortState.peerUid, PortState.peerWord, hpeers, hid]
  refine ⟨?_, htwins⟩
  have hcrown : a.peerCrownLink p (a.port p) = b.peerCrownLink p (b.port p) := by
    simp only [Chip.peerCrownLink, Chip.crownElig, PortState.peerHub, PortState.peerPort, PortState.peerElig, PortState.peerPlaneB,
      PortState.peerWord, hpeers, hid, hreg]
  have hway : a.wrongWay p (a.port p) = b.wrongWay p (b.port p) := by
    simp only [Chip.wrongWay, hcrown, PortState.peerHub, PortState.peerPort, PortState.peerWord, hpeers, hid]
    rfl
  have hplane : a.otherPlane p (a.port p) = b.otherPlane p (b.port p) := by
    simp only [Chip.otherPlane, PortState.peerHub, PortState.peerPlaneB, PortState.peerWord, hpeers, hid, hreg]
  simp only [Chip.wiring, htwins, hcrown, hway, hplane, PortState.peerVersion, PortState.peerUid, PortState.peerHub,
    PortState.peerPlaneB, PortState.peerWord, hpeers, hid]
  rfl

/-- A peer of an unknown version is refused before any other check (R106). -/
theorem Chip.wiring_version {p : Nat} (h : (a.port p).peerVersion = 0 ∨ 3 < (a.port p).peerVersion) :
    a.wiring p = some (1, Event.LN_VERSION) := by
  unfold Chip.wiring
  exact if_pos h

/-- An acceptable peer without a twin, before the acknowledgement of this port's IDENT (R104, R106). -/
theorem Chip.identTake_accepts {c : Chip} {p : Nat} {words : List Word} {d : Chip} (hmode : (c.port p).mode = .ident)
    (hd : (c.modPort p fun y => { y with peer := some words, gotIdent := true }) = d) (hwiring : d.wiring p = none)
    (htwins : d.twins p (d.port p) = []) (hack : (c.port p).gotAck = false) :
    c.identTake p words = (d.negotiate p).sendL p (mkCell clsL 0x03 0 [(d.port p).peerWord 4]) := by
  have hmode' : (d.port p).mode = .ident := by
    rw [← hd, Chip.port_modPort]
    exact hmode
  have hack' : (d.port p).gotAck = false := by
    rw [← hd, Chip.port_modPort]
    exact hack
  have hrefuse : d.refuseTwins p = d := by
    rw [Chip.refuseTwins, htwins]
    rfl
  have haccept : d.accept p = (d.negotiate p).sendL p (mkCell clsL 0x03 0 [(d.port p).peerWord 4]) := by
    unfold Chip.accept
    extract_lets answered
    have hport : (answered.port p).mode = .ident ∧ (answered.port p).gotAck = false := by
      simp only [answered, Chip.sendL, Chip.modQ, Chip.negotiate, Chip.port_modPort]
      exact ⟨hmode', hack'⟩
    rw [hport.1, hport.2]
    rfl
  unfold Chip.identTake
  simp only [hmode]
  rw [hd, hwiring]
  simp only [hrefuse, haccept]
  rfl

/-- A peer that the checks refuse (R106). -/
theorem Chip.identTake_refuses {c : Chip} {p : Nat} {words : List Word} {d : Chip} (hmode : (c.port p).mode = .ident)
    (hd : (c.modPort p fun y => { y with peer := some words, gotIdent := true }) = d) {rsn : Nat} {e : Ev}
    (hwiring : d.wiring p = some (rsn, e)) : c.identTake p words = d.refuse p rsn e := by
  unfold Chip.identTake
  simp only [hmode]
  rw [hd, hwiring]
  rfl

/-- A port that was not UP is refused: its mode and reason change, and nothing of it is discarded (R106). -/
theorem Chip.refuse_steady {c : Chip} {p : Nat} (hmode : (c.port p).mode = .ident) (rsn : Nat) (e : Ev) :
    (c.refuse p rsn e).steady = (c.modPort p fun y => { y with mode := .refused, refRsn := rsn }).steady := by
  have hup : ((c.port p).mode == .up) = false := by
    rw [hmode]
    rfl
  unfold Chip.refuse
  extract_lets x k up flushed refused told
  have hup' : ¬ up = true := Bool.eq_false_iff.1 hup
  have hflushed : flushed = c := if_neg hup'
  have hrefused : refused = c.modPort p fun y => { y with mode := .refused, refRsn := rsn } := by
    simp only [refused, hflushed]
    rfl
  rw [if_neg hup', ← hrefused]
  exact Chip.report_steady _ _ _

end Wiring

/-! ### A lane's own IDENT is acknowledged -/

/-- What a port's SerDes and its receiver have found. -/
structure Receiver where
  pmaRdy : Bool
  cwlock : Bool
  rxinv : Bool

def PortState.receiver (x : PortState) : Receiver := { pmaRdy := x.pmaRdy, cwlock := x.cwlock, rxinv := x.rxinv }

theorem receiver_of_still {x y : PortState} (h : x.still = y.still) : x.receiver = y.receiver :=
  (congrArg PortState.receiver h :)

section Settled

variable (c : Chip) (q : Nat)

theorem Chip.settle_receiver : (c.settle.port q).receiver = (c.port q).receiver := by
  rcases c.settle_port q with h | h
  · exact receiver_of_still h
  · exact (receiver_of_still h).trans rfl

theorem Chip.settle_pmaRdy : (c.settle.port q).pmaRdy = (c.port q).pmaRdy := congrArg Receiver.pmaRdy (c.settle_receiver q)

theorem Chip.settle_cwlock : (c.settle.port q).cwlock = (c.port q).cwlock := congrArg Receiver.cwlock (c.settle_receiver q)

theorem Chip.settle_rxinv : (c.settle.port q).rxinv = (c.port q).rxinv := congrArg Receiver.rxinv (c.settle_receiver q)

theorem Chip.popL_port : (c.popL q).port q = { c.port q with q := { (c.port q).q with rxL := (c.port q).q.rxL.drop 1 } } :=
  Chip.port_modPort _ _ _

end Settled

theorem PortState.credit_eq (x : PortState) (lo : Nat) :
    x.credit lo = if x.restricted || x.peerCrown then 0 else Word.field (x.peerWord 7) lo 8 := by
  unfold PortState.credit
  cases x.restricted <;> cases x.peerCrown <;> rfl

/-- The acknowledgement of a port's own IDENT brings it UP, once the peer's has been taken (R104). -/
theorem Chip.identAcked_ups {c : Chip} {p : Nat} {w : Word} (hmode : (c.port p).mode = .ident) (hident : (c.port p).gotIdent = true)
    (hown : w = Word.part c.id.uid 0) :
    (∀ q, q ≠ p → (c.identAcked p w).traffic q = c.traffic q) ∧ (c.identAcked p w).traffic p = (.up, { PortLink.reset with
      credB := (c.port p).credit 16, credS := (c.port p).credit 8, credM := (c.port p).credit 0 }) := by
  have hsame : ¬ (w != Word.part c.id.uid 0) = true := by
    rw [hown, bne_self_eq_false]
    exact Bool.false_ne_true
  unfold Chip.identAcked
  rw [if_neg hsame]
  extract_lets acked
  have hport : acked.port p = { c.port p with gotAck := true } := Chip.port_modPort _ _ _
  have hrest : ∀ q, q ≠ p → acked.traffic q = c.traffic q := fun q hq => Chip.traffic_modPort_ne _ _ hq _
  have hgo : ((acked.port p).mode == .ident && (acked.port p).gotIdent) = true := by
    rw [hport]
    exact Bool.and_eq_true_iff.2 ⟨beq_iff_eq.2 hmode, hident⟩
  clear_value acked
  rw [if_pos hgo, Chip.laneUp_traffic]
  refine ⟨fun q hq => (Chip.traffic_modPort_ne _ _ hq _).trans (hrest q hq), ?_⟩
  rw [Chip.traffic_modPort_self, hport]
  rfl

/-! ### The loopback check -/

section Check

variable {c : Chip} {p : Nat}

theorem Chip.train_leaves :
    ((c.train p).port p) = { c.port p with mode := if (c.port p).pmaRdy then .locking else .train }
      ∧ ∀ q, q ≠ p → (c.train p).traffic q = c.traffic q :=
  ⟨Chip.port_modPort _ _ _, fun _ hq => c.traffic_modPort_ne p hq _⟩

/-- The loopback check of a released port starts with its sequencing at its start (R81). -/
theorem Chip.calStart_traffic (hfree : c.pw.lanesReleased = true) (hmode : (c.port p).mode ≠ .cal) :
    (c.calStart p).traffic p = (.cal, .reset) ∧ ∀ q, q ≠ p → (c.calStart p).traffic q = c.traffic q := by
  have hgo : (!c.pw.lanesReleased || (c.port p).mode == .cal) = false := by
    rw [hfree, beq_eq_false_iff_ne.2 hmode]
    rfl
  unfold Chip.calStart
  rw [if_neg (Bool.eq_false_iff.1 hgo)]
  extract_lets down
  have hdown : ∀ q, q ≠ p → down.traffic q = c.traffic q := by
    simp only [down]
    split
    · exact (c.laneDown_leaves p 6).2.2
    · exact fun _ _ => rfl
  clear_value down
  rw [Chip.mpdForget_traffic]
  exact ⟨Chip.traffic_modPort_self _ _ _, fun q hq => (Chip.traffic_modPort_ne _ _ hq _).trans (hdown q hq)⟩

/-- A write of CAL starts the check from every state of a released port, whether it is enabled or not (R81). -/
theorem Chip.pctrlApply_traffic (hfree : c.pw.lanesReleased = true) (hmode : (c.port p).mode ≠ .cal) :
    (c.pctrlApply p true).traffic p = (.cal, .reset) ∧ ∀ q, q ≠ p → (c.pctrlApply p true).traffic q = c.traffic q := by
  unfold Chip.pctrlApply
  extract_lets down
  have hdown : down.pw.lanesReleased = true ∧ (down.port p).mode ≠ .cal ∧ ∀ q, q ≠ p → down.traffic q = c.traffic q := by
    simp only [down]
    split
    · exact ⟨hfree, hmode, fun _ _ => rfl⟩
    · obtain ⟨hpw, hstate, hrest⟩ := c.laneDown_leaves p 5
      exact ⟨by rw [hpw, hfree], by rw [hstate]; decide, hrest⟩
  clear_value down
  obtain ⟨hfree', hmode', hrest⟩ := hdown
  obtain ⟨hport, hrest'⟩ := Chip.calStart_traffic hfree' hmode'
  rw [if_pos rfl, Chip.settle_traffic]
  exact ⟨hport, fun q hq => (hrest' q hq).trans (hrest q hq)⟩

/-- The sum of the latencies that a port's registers declare (R80). -/
def Chip.declared (c : Chip) (p : Nat) : Nat :=
  Word.field (c.reg Reg.LN_PMA_LAT_TX p) 0 24 + Word.field (c.reg Reg.LN_PMA_LAT_RX p) 0 24 + Word.field (c.reg Reg.LN_PMA_LAT_LB p) 0 24

/-- The check has ended with a round trip: the port is judged, and trains where it is enabled (R81). -/
def Chip.checked (c : Chip) (p m : Nat) : Chip :=
  let ok := decide (((m : Int) - (c.declared p : Nat)).natAbs ≤ 6)
  let c := c.modPort p fun x => { x.cleared with meas := m, pmaLatOk := ok, calDue := false, mode := .down }
  let c := if ok then c else c.report Event.LN_PMA_LAT_BAD (lnRep p)
  (if c.portOn p then c.train p else c).settle

theorem Chip.portOn_report (e : Ev) (r : Rep) (q : Nat) : (c.report e r).portOn q = c.portOn q := by
  rw [Chip.portOn, Chip.portOn, c.report_reg (apart_of_offset (by decide) (by decide)) r q 0]

/-- What a check leaves of its port besides the mode. -/
def PortState.verdict (x : PortState) : Nat × Bool × Bool := (x.meas, x.pmaLatOk, x.calDue)

theorem verdict_of_still {x y : PortState} (h : x.still = y.still) : x.verdict = y.verdict :=
  (congrArg PortState.verdict h :)

theorem Chip.settle_verdict (q : Nat) : (c.settle.port q).verdict = (c.port q).verdict := by
  rcases c.settle_port q with h | h
  · exact verdict_of_still h
  · exact (verdict_of_still h).trans rfl

theorem Chip.checked_leaves (m : Nat) :
    ((c.checked p m).port p).verdict = (m, decide (((m : Int) - (c.declared p : Nat)).natAbs ≤ 6), false)
      ∧ ((c.checked p m).port p).mode = (if c.portOn p then (if (c.port p).pmaRdy then .locking else .train) else .down)
      ∧ ∀ q, q ≠ p → (c.checked p m).traffic q = c.traffic q := by
  unfold Chip.checked
  extract_lets ok taken told
  have hport : taken.port p = { (c.port p).cleared with meas := m, pmaLatOk := ok, calDue := false, mode := .down } :=
    Chip.port_modPort _ _ _
  have hrest : ∀ q, q ≠ p → taken.traffic q = c.traffic q := fun q hq => Chip.traffic_modPort_ne _ _ hq _
  have hon : taken.portOn p = c.portOn p := rfl
  have hverdict : (taken.port p).verdict = (m, ok, false) := by
    rw [hport]
    rfl
  have hready : (taken.port p).still.pmaRdy = (c.port p).pmaRdy := by
    rw [hport]
    rfl
  have hdown : (taken.port p).mode = .down := by
    rw [hport]
  have htold : told.steady = taken.steady := steady_ite rfl (Chip.report_steady _ _ _)
  have hon' : told.portOn p = c.portOn p := by
    simp only [told]
    split
    · exact hon
    · exact (Chip.portOn_report _ _ p).trans hon
  clear_value told taken
  have hstill : (told.port p).still = (taken.port p).still := (congrArg (fun x : Steady => x.ports p) htold :)
  have hready' : (told.port p).pmaRdy = (c.port p).pmaRdy := (congrArg PortState.pmaRdy hstill :).trans hready
  have hrest' : ∀ q, q ≠ p → told.traffic q = c.traffic q := fun q hq => (congrFun (traffic_of_steady htold) q).trans (hrest q hq)
  have hverdict' : (told.port p).verdict = (m, ok, false) := (verdict_of_still hstill).trans hverdict
  have hdown' : (told.port p).mode = .down := (Chip.mode_of_steady htold p).trans hdown
  obtain ⟨htrained, htrain⟩ := told.train_leaves (p := p)
  rw [Chip.settle_verdict, Chip.settle_mode, Chip.settle_traffic, hon']
  cases c.portOn p with
  | true =>
    simp only [if_true]
    refine ⟨?_, ?_, fun q hq => (htrain q hq).trans (hrest' q hq)⟩
    · rw [htrained]
      exact hverdict'
    · rw [htrained, hready']
  | false => exact ⟨hverdict', hdown', hrest'⟩

end Check

/-! ### The commands -/

section Commands

variable {s : State} {p : Port} (hrst : s.chip.inReset = false) (hp : p.val < s.chip.nports)

/-- An access reads the part at the start of its LCLK cycle. -/
theorem State.runMaster_congr {m : Master} {f g : Chip → Chip} (h : f s.chip.newCycle = g s.chip.newCycle) :
    s.runMaster m f = s.runMaster m g := by
  simp only [State.runMaster, State.run, State.apply, h]

/-- A master's write of a mapped register of which the part takes the bits that it has. -/
theorem State.runMaster_fitWrite {m : Master} {r : RegRow} {addr k : Nat} {w : Word} (haddr : addr = r.addr)
    (hopen : s.chip.opens m r.page = true) (hmapped : ∀ hub, pagePresent hub r.page = true → r.mapped hub = true)
    (hacc : r.acc ∉ [.ro, .rc, .rs]) (hright : s.chip.mayWrite m r = true)
    (hfree : (s.chip.locked r.page && r.rwl != 0) = false) (hidx : s.chip.rowIdx m r = k) {d : Written}
    (hwrite : s.chip.fresh.rowWrite { m := m, row := r, i := 0, idx := k, w := s.chip.fitWord r k w } = d) :
    s.runMaster m (fun c => c.regWrite m addr w) = .next { s with chip := d.1 } := by
  subst haddr
  have hm : r.mapped s.chip.fresh.id.hub = true := hmapped _ (opens_present hopen)
  have hidx' : s.chip.fresh.rowIdx m r = k := hidx
  have hfit : s.chip.fresh.fitWord r k w = s.chip.fitWord r k w := rfl
  rw [State.runMaster_regWrite hopen (RegRow.mapped_page hm),
    Chip.masterWrite_rowWrite (c := s.chip.fresh) hopen hm hacc hright hfree, hidx', hfit, hwrite]

/-- The write of LN_PCTRL that asks for a check: the stored word with CAL set. -/
def calWrite (c : Chip) (m : Master) : RegWrite :=
  { m := m, row := Reg.LN_PCTRL, i := 0, idx := c.chanOf m 0x08
    w := c.fitWord Reg.LN_PCTRL (c.chanOf m 0x08) (c.reg Reg.LN_PCTRL (c.chanOf m 0x08) ||| 0x80) }

theorem calWrite_asks (c : Chip) (m : Master) : Word.bit (calWrite c m).w 7 = true := by
  have hbit : ∀ old : Word, Word.bit (old ||| 0x80) 7 = true := fun old => by
    rw [Word.bit, BitVec.getLsbD_or]
    exact Bool.or_eq_true_iff.2 (Or.inr (by decide))
  have hmask : ∀ old : Word, Word.bit ((old ||| 0x80) &&& 0x7FFFFFFF) 7 = true := fun old => by
    rw [Word.bit, BitVec.getLsbD_and]
    exact Bool.and_eq_true_iff.2 ⟨hbit old, by decide⟩
  show Word.bit (if c.id.hub && decide (c.chanOf m 0x08 < 64) then c.reg Reg.LN_PCTRL (c.chanOf m 0x08) ||| 0x80
    else (c.reg Reg.LN_PCTRL (c.chanOf m 0x08) ||| 0x80) &&& 0x7FFFFFFF) 7 = true
  split
  · exact hbit _
  · exact hmask _

theorem exec_cal {m : Master} (hopen : s.chip.opens m 0x08 = true) (hlock : s.chip.locked 0x08 = false) :
    ∃ w, exec (.cal m) s = .next { s with
      chip := (s.chip.fresh.setReg Reg.LN_PCTRL w (s.chip.chanOf m 0x08)).pctrlApply (s.chip.chanOf m 0x08) true } := by
  have hfree : (s.chip.locked Reg.LN_PCTRL.page && Reg.LN_PCTRL.rwl != 0) = false := by
    rw [show s.chip.locked Reg.LN_PCTRL.page = false from hlock]
    rfl
  have hstore := s.chip.fresh.store_rw (x := calWrite s.chip m) (Or.inl rfl)
  generalize hword : Word.merge _ _ _ = w at hstore
  refine ⟨w, ?_⟩
  have hwrite : s.chip.fresh.rowWrite (calWrite s.chip m) =
      ((s.chip.fresh.setReg Reg.LN_PCTRL w (s.chip.chanOf m 0x08)).pctrlApply (s.chip.chanOf m 0x08) true).done := by
    show (((s.chip.fresh.store (calWrite s.chip m)).pctrlApply (s.chip.chanOf m 0x08) (Word.bit (calWrite s.chip m).w 7)).done) = _
    rw [hstore, calWrite_asks]
    rfl
  generalize (s.chip.fresh.setReg Reg.LN_PCTRL w (s.chip.chanOf m 0x08)).pctrlApply _ true = d at hwrite ⊢
  have hword : exec (.cal m) s =
      s.runMaster m fun c => c.regWrite m 0x08400 (s.chip.reg Reg.LN_PCTRL (s.chip.chanOf m 0x08) ||| 0x80) := by
    show s.runMaster m _ = _
    refine State.runMaster_congr ?_
    rw [Chip.newCycle_reg, Chip.newCycle_chanOf]
  rw [hword]
  exact State.runMaster_fitWrite (r := Reg.LN_PCTRL) (by decide) hopen (by decide) (by decide) (by cases m <;> rfl) hfree rfl hwrite

include hrst hp

theorem exec_loopbackCheckDone (hmode : (s.chip.port p.val).mode = .cal) (m : BitVec 24) :
    exec (.loopbackCheckDone p m) s =
      .next { s with chip := s.chip.newCycle.checked p.val ((s.chip.port p.val).check.mean.getD m.toNat) } := by
  have hgo : ((s.chip.newCycle.port p.val).mode != .cal) = false := by
    rw [show (s.chip.newCycle.port p.val).mode = .cal from hmode]
    rfl
  show execLoopbackCheckDone p m s = _
  rw [execLoopbackCheckDone, State.runPort_eq hp hrst]
  exact congrArg (fun c : Chip => Host.Outcome.next { s with chip := c }) (if_neg (Bool.eq_false_iff.1 hgo))

theorem exec_identReceive {x : Cell} (hhead : s.chip.headL p.val 0x02 = some x) :
    exec (.identReceive p) s =
      .next { s with chip := ((s.chip.newCycle.popL p.val).identTake p.val (x.payload.take 6)).settle } := by
  have hhead' : s.chip.newCycle.headL p.val 0x02 = some x := hhead
  show execIdentReceive p s = _
  rw [execIdentReceive, State.runPort_eq hp hrst]
  simp only [hhead']

end Commands

/-- The part once the peer's IDENT has been taken from its buffer, and what the wiring checks see of it. -/
theorem ident_taken (c : Chip) (p : Nat) (words : List Word) :
    ∃ d, (c.newCycle.popL p).modPort p (fun y => { y with peer := some words, gotIdent := true }) = d
      ∧ d.port p = { c.port p with
          peer := some words, gotIdent := true, q := { (c.port p).q with rxL := (c.port p).q.rxL.drop 1 } }
      ∧ (d.id = c.id ∧ d.regs = c.regs)
      ∧ ∀ q, (d.port q).peer = ((c.modPort p fun _ => { c.port p with peer := some words, gotIdent := true }).port q).peer := by
  refine ⟨_, rfl, ?_, ⟨rfl, rfl⟩, fun q => ?_⟩
  · rw [Chip.port_modPort, Chip.popL_port]
    rfl
  · by_cases hq : q = p
    · subst hq
      rw [Chip.port_modPort, Chip.port_modPort]
    · rw [Chip.port_modPort_ne _ hq, Chip.port_modPort_ne _ hq, Chip.popL, Chip.modQ, Chip.port_modPort_ne _ hq]
      rfl

theorem ident_taken_rest {c d : Chip} {p : Nat} {words : List Word} {q : Nat}
    (hd : (c.newCycle.popL p).modPort p (fun y => { y with peer := some words, gotIdent := true }) = d) (hq : q ≠ p) :
    d.traffic q = c.traffic q := by
  rw [← hd, Chip.traffic_modPort_ne _ _ hq]
  exact Chip.traffic_modPort_ne _ _ hq _

/-- What an acceptable peer leaves of its port: the lane's version and features, how it is set up, and the acknowledgement
behind the cells that wait (R19, R105, R106). -/
theorem Chip.negotiate_port (c : Chip) (p : Nat) (x : Cell) :
    ((c.negotiate p).sendL p x).port p = { c.port p with
      nver := min 2 (c.port p).peerVersion
      featNeg := c.reg Reg.LN_FEAT p &&& (c.port p).peerWord 6 &&& (if (c.port p).peerVersion < 2 then 0xFFFFFFF9 else 0xFFFFFFFF)
      refRsn := 0
      peerCrown := c.peerCrownLink p (c.port p)
      restricted := !(c.peerCrownLink p (c.port p)) && ((c.port p).restrictNext || ((c.port p).peerWord 7).toNat % 2 ^ 24 == 0)
      q := { (c.port p).q with txL := (c.port p).q.txL ++ [x] } } := by
  rw [Chip.sendL_port, Chip.negotiate, Chip.port_modPort]

/-- What a port has been told of its peer, and the cells that it has still to take. -/
def PortState.told (x : PortState) : Option (List Word) × Bool × Nat × Word × Nat × List Cell :=
  (x.peer, x.gotIdent, x.nver, x.featNeg, x.refRsn, x.q.rxL)

theorem told_of_still {x y : PortState} (h : x.still = y.still) : x.told = y.told :=
  (congrArg PortState.told h :)

theorem Chip.settle_told (c : Chip) (q : Nat) : (c.settle.port q).told = (c.port q).told := by
  rcases c.settle_port q with h | h
  · exact told_of_still h
  · exact (told_of_still h).trans rfl

/-- Settling leaves the link-control cells of a port that is not UP where they wait. -/
theorem Chip.settle_ident {c : Chip} {q : Nat} (hmode : (c.port q).mode = .ident) :
    (c.settle.port q).told = (c.port q).told ∧ (c.settle.port q).q.txL = (c.port q).q.txL := by
  have hstill : (c.settle.port q).still.q.txL = (c.port q).still.q.txL := by
    rcases c.settle_port q with h | h
    · rw [h]
    · rw [h]
      rfl
  have hmode' : (c.settle.port q).mode = .ident := (c.settle_mode q).trans hmode
  simp only [PortState.still, hmode, hmode'] at hstill
  exact ⟨c.settle_told q, hstill⟩

/-- The words that a port keeps of its peer's IDENT are the first six of its payload. -/
theorem peerWord_payload (z : PortState) (x : Cell) {k : Nat} (hlow : 2 ≤ k) (hhigh : k < 8) :
    ({ z with peer := some (x.payload.take 6), gotIdent := true } : PortState).peerWord k = x.pay k := by
  show ((x.payload.take 6).getD (k - 2) 0) = x.getD k 0
  rw [Cell.payload, List.take_take]
  simp only [List.getD_eq_getElem?_getD]
  rw [List.getElem?_take_of_lt (by omega), List.getElem?_drop, show 2 + (k - 2) = k by omega]

/-- Settles O28: each step of the bring-up sets the mode and the sequencing of its own port, and settling leaves both. -/
theorem portBringUp : Obligations.PortBringUp := by
  unfold Obligations.PortBringUp
  refine ⟨?cal, ?start, ?back, ?silent, ?ready, ?lock, ?ack, ?accept, ?refuse⟩
  case cal =>
    intro s m hopen hlock hfree hmode
    obtain ⟨w, hexec⟩ := exec_cal hopen hlock
    obtain ⟨hport, hrest⟩ := Chip.pctrlApply_traffic (c := s.chip.fresh.setReg Reg.LN_PCTRL w (s.chip.chanOf m 0x08))
      (p := s.chip.chanOf m 0x08) hfree hmode
    refine State.answers hexec fun d hd => ?_
    rw [← hd] at hport hrest
    exact ⟨congrArg Prod.fst hport, congrArg Prod.snd hport, fun q hq => congrArg Prod.fst (hrest q hq)⟩
  case start =>
    intro s p hrst hp hmode hfree hon
    have hgo : ((s.chip.newCycle.port p.val).mode == .down && s.chip.newCycle.pw.lanesReleased && s.chip.newCycle.portOn p.val) = true := by
      rw [show (s.chip.newCycle.port p.val).mode = .down from hmode, show s.chip.newCycle.pw.lanesReleased = true from hfree,
        show s.chip.newCycle.portOn p.val = true from hon]
      rfl
    have hexec : exec (.portStart p) s = .next { s with chip :=
        if (s.chip.port p.val).calDue then s.chip.newCycle.calStart p.val else (s.chip.newCycle.train p.val).settle } := by
      show execPortStart p s = _
      rw [execPortStart, State.runPort_eq hp hrst]
      exact congrArg (fun c : Chip => Host.Outcome.next { s with chip := c }) (if_pos hgo)
    refine State.answers hexec fun d hd => ?_
    rw [hd]
    cases (s.chip.port p.val).calDue with
    | true =>
      have hmode' : (s.chip.newCycle.port p.val).mode ≠ .cal := by
        rw [show (s.chip.newCycle.port p.val).mode = .down from hmode]
        decide
      obtain ⟨hport, hrest⟩ := Chip.calStart_traffic (c := s.chip.newCycle) (p := p.val) hfree hmode'
      exact ⟨congrArg Prod.fst hport, fun q hq => congrArg Prod.fst (hrest q hq)⟩
    | false =>
      obtain ⟨hport, hrest⟩ := s.chip.newCycle.train_leaves (p := p.val)
      simp only [Bool.false_eq_true, if_false, Chip.settle_mode]
      exact ⟨(congrArg PortState.mode hport).trans rfl, fun q hq => congrArg Prod.fst (hrest q hq)⟩
  case back =>
    intro s p m hrst hp hmode hgot
    have hmean : (s.chip.port p.val).check.mean = some ((divRound (s.chip.port p.val).check.sum
        ((s.chip.port p.val).check.got * unit64)).toNat % 2 ^ 24) := if_neg hgot
    refine State.answers (exec_loopbackCheckDone hrst hp hmode m) fun d hd => ?_
    rw [hd, hmean]
    obtain ⟨hverdict, hstate, hrest⟩ := s.chip.newCycle.checked_leaves (p := p.val) ((divRound (s.chip.port p.val).check.sum
        ((s.chip.port p.val).check.got * unit64)).toNat % 2 ^ 24)
    simp only [PortState.verdict, Prod.mk.injEq] at hverdict
    obtain ⟨hmeas, hok, hdue⟩ := hverdict
    exact ⟨hmeas, hok, hdue, hstate, fun q hq => congrArg Prod.fst (hrest q hq)⟩
  case silent =>
    intro s p m hrst hp hmode hgot
    have hmean : (s.chip.port p.val).check.mean = none := if_pos hgot
    refine State.answers (exec_loopbackCheckDone hrst hp hmode m) fun d hd => ?_
    rw [hd, hmean]
    obtain ⟨hverdict, hstate, -⟩ := s.chip.newCycle.checked_leaves (p := p.val) m.toNat
    simp only [PortState.verdict, Prod.mk.injEq] at hverdict
    obtain ⟨hmeas, hok, hdue⟩ := hverdict
    exact ⟨hmeas, hok, hdue, hstate⟩
  case ready =>
    intro s p hrst hp hmode
    have hexec : exec (.pmaReady p) s = .next { s with
        chip := ((s.chip.newCycle.modPort p.val fun x => { x with pmaRdy := true }).train p.val).settle } := by
      show execPmaReady p s = _
      rw [execPmaReady, State.runPort_eq hp hrst]
      have hgo : (((s.chip.newCycle.modPort p.val fun x => { x with pmaRdy := true }).port p.val).mode == .train) = true := by
        rw [Chip.port_modPort]
        exact beq_iff_eq.2 hmode
      exact congrArg (fun c : Chip => Host.Outcome.next { s with chip := c.settle }) (if_pos hgo)
    refine State.answers hexec fun d hd => ?_
    rw [hd]
    obtain ⟨hport, hrest⟩ := (s.chip.newCycle.modPort p.val fun x => { x with pmaRdy := true }).train_leaves (p := p.val)
    rw [Chip.port_modPort] at hport
    simp only [if_true] at hport
    refine ⟨?_, ?_, fun q hq => ?_⟩
    · rw [Chip.settle_mode, hport]
    · rw [Chip.settle_pmaRdy, hport]
    · rw [Chip.settle_mode]
      exact congrArg Prod.fst ((hrest q hq).trans (Chip.traffic_modPort_ne _ _ hq _))
  case lock =>
    intro s p hrst hp hmode hgood
    have hexec : exec (.codewordLock p) s = .next { s with
        chip := (s.chip.newCycle.modPort p.val fun y => { y.locked with mode := .ident, gotIdent := false, gotAck := false }).settle } := by
      show execCodewordLock p s = _
      rw [execCodewordLock, State.runPort_eq hp hrst]
      have hgo : ((s.chip.newCycle.port p.val).mode == .locking && (s.chip.newCycle.port p.val).code.seen) = true := by
        rw [show (s.chip.newCycle.port p.val).mode = .locking from hmode, PortCode.seen]
        exact Bool.and_eq_true_iff.2 ⟨rfl, Bool.or_eq_true_iff.2 (hgood.imp decide_eq_true decide_eq_true)⟩
      exact congrArg (fun c : Chip => Host.Outcome.next { s with chip := c }) (if_pos hgo)
    refine State.answers hexec fun d hd => ?_
    rw [hd]
    have hport := Chip.port_modPort s.chip.newCycle p.val fun y => { y.locked with mode := .ident, gotIdent := false, gotAck := false }
    refine ⟨?_, ?_, ?_, fun q hq => ?_⟩
    · rw [Chip.settle_mode, hport]
    · rw [Chip.settle_cwlock, hport]
      rfl
    · rw [Chip.settle_rxinv, hport]
      rfl
    · rw [Chip.settle_mode, Chip.port_modPort_ne _ hq]
      rfl
  case ack =>
    intro s p x hrst hp hmode hident hhead hown
    have hhead' : s.chip.newCycle.headL p.val 0x03 = some x := hhead
    obtain ⟨hacked, hport⟩ := Chip.identAcked_ups (c := s.chip.newCycle.popL p.val) (p := p.val) (w := x.pay 2)
      (by rw [Chip.popL_port]; exact hmode) (by rw [Chip.popL_port]; exact hident) hown
    have hexec : exec (.identAckReceive p) s =
        .next { s with chip := ((s.chip.newCycle.popL p.val).identAcked p.val (x.pay 2)).settle } := by
      show execIdentAckReceive p s = _
      rw [execIdentAckReceive, State.runPort_eq hp hrst]
      simp only [hhead']
    refine State.answers hexec fun d hd => ?_
    rw [hd]
    simp only [Chip.settle_mode, Chip.settle_link]
    rw [Chip.popL_port] at hport
    have hlink := congrArg Prod.snd hport
    refine ⟨congrArg Prod.fst hport, (congrArg PortLink.credB hlink).trans (PortState.credit_eq _ _),
      (congrArg PortLink.credS hlink).trans (PortState.credit_eq _ _), (congrArg PortLink.credM hlink).trans (PortState.credit_eq _ _),
      congrArg PortLink.nextSeq hlink, fun q hq => ?_⟩
    exact (congrArg Prod.fst (hacked q hq)).trans (congrArg PortState.mode (Chip.port_modPort_ne _ hq _))
  case accept =>
    intro s p x y hrst hp hmode hhead hy hwiring htwins hack
    obtain ⟨d, hd, hport, hcheck, hpeer⟩ := ident_taken s.chip p.val (x.payload.take 6)
    obtain ⟨hwiring', htwins'⟩ := wiring_congr (a := d) (b := s.chip.modPort p.val fun _ => y) hcheck.1 hcheck.2
      (fun q => (hpeer q).trans (by rw [hy])) p.val
    have hy' : (s.chip.modPort p.val fun _ => y).port p.val = y := Chip.port_modPort _ _ _
    have htaken := Chip.identTake_accepts (c := s.chip.newCycle.popL p.val) (by rw [Chip.popL_port]; exact hmode) hd
      (hwiring'.trans hwiring) (htwins'.trans (by rw [hy']; exact htwins)) (by rw [Chip.popL_port]; exact hack)
    refine State.answers (exec_identReceive hrst hp hhead) fun e he => ?_
    rw [he, htaken]
    have hword : ∀ k, (d.port p.val).peerWord k = y.peerWord k := fun k => by
      rw [hport, hy]
      rfl
    have hversion : (d.port p.val).peerVersion = y.peerVersion := congrArg (fun w => Word.field w 8 8) (hword 2)
    have hpay : ∀ k, 2 ≤ k → k < 8 → y.peerWord k = x.pay k := fun k hlow hhigh => by
      rw [hy]
      exact peerWord_payload _ x hlow hhigh
    have hregs : d.reg Reg.LN_FEAT p.val = s.chip.reg Reg.LN_FEAT p.val := Chip.reg_eq_of_regs hcheck.1 hcheck.2 _ _ _ _
    have hanswer := d.negotiate_port p.val (mkCell clsL 0x03 0 [(d.port p.val).peerWord 4])
    have hrest : ∀ q, q ≠ p.val → ((d.negotiate p.val).sendL p.val (mkCell clsL 0x03 0 [(d.port p.val).peerWord 4])).traffic q =
        d.traffic q := fun q hq => (Chip.traffic_modPort_ne _ _ hq _).trans (Chip.traffic_modPort_ne _ _ hq _)
    generalize (d.negotiate p.val).sendL p.val (mkCell clsL 0x03 0 [(d.port p.val).peerWord 4]) = a at hanswer hrest ⊢
    have hmode' : (a.port p.val).mode = .ident := by
      rw [hanswer, hport]
      exact hmode
    have htold' : (a.port p.val).told = (some (x.payload.take 6), true, min 2 y.peerVersion,
        s.chip.reg Reg.LN_FEAT p.val &&& x.pay 6 &&& (if y.peerVersion < 2 then 0xFFFFFFF9 else 0xFFFFFFFF), 0,
        (s.chip.port p.val).q.rxL.drop 1) := by
      rw [hanswer, PortState.told, hversion, hregs, hword 6, hpay 6 (by decide) (by decide), hport]
    have hcells' : (a.port p.val).q.txL = (s.chip.port p.val).q.txL ++ [mkCell clsL 0x03 0 [x.pay 4]] := by
      rw [hanswer, (hword 4).trans (hpay 4 (by decide) (by decide)), hport]
    obtain ⟨htold, hcells⟩ := Chip.settle_ident hmode'
    rw [htold'] at htold
    simp only [PortState.told, Prod.mk.injEq] at htold
    obtain ⟨hpeer', hgot, hnver, hfeat, -, hrx⟩ := htold
    refine ⟨hpeer', hgot, (a.settle_mode _).trans hmode', hnver, hfeat, hcells.trans hcells', hrx, fun q hq => ?_⟩
    rw [Chip.settle_mode]
    exact congrArg Prod.fst ((hrest q hq).trans (ident_taken_rest hd hq))
  case refuse =>
    intro s p x hrst hp hmode hhead hversion
    obtain ⟨d, hd, hport, -, -⟩ := ident_taken s.chip p.val (x.payload.take 6)
    have hwiring : d.wiring p.val = some (1, Event.LN_VERSION) := Chip.wiring_version (by rw [hport]; exact hversion)
    have htaken := Chip.identTake_refuses (c := s.chip.newCycle.popL p.val) (by rw [Chip.popL_port]; exact hmode) hd hwiring
    have hsteady := Chip.refuse_steady (c := d) (p := p.val) (by rw [hport]; exact hmode) 1 Event.LN_VERSION
    have hrefused := Chip.port_modPort d p.val fun z => { z with mode := .refused, refRsn := 1 }
    have hrest : ∀ q, q ≠ p.val → (d.refuse p.val 1 Event.LN_VERSION).traffic q = d.traffic q := fun q hq =>
      (congrFun (traffic_of_steady hsteady) q).trans (Chip.traffic_modPort_ne _ _ hq _)
    have hstill : ((d.refuse p.val 1 Event.LN_VERSION).port p.val).still = _ :=
      (congrArg (fun x : Steady => x.ports p.val) hsteady).trans (congrArg PortState.still hrefused)
    refine State.answers (exec_identReceive hrst hp hhead) fun e he => ?_
    rw [he, htaken]
    have htold := (Chip.settle_told (d.refuse p.val 1 Event.LN_VERSION) p.val).trans (told_of_still hstill)
    simp only [PortState.told, Prod.mk.injEq] at htold
    obtain ⟨hpeer, -, -, -, hrsn, -⟩ := htold
    refine ⟨?_, hrsn, hpeer.trans ?_, fun q hq => ?_⟩
    · rw [Chip.settle_mode, Chip.mode_of_steady hsteady, hrefused]
    · rw [hport]
    · rw [Chip.settle_mode]
      exact congrArg Prod.fst ((hrest q hq).trans (ident_taken_rest hd hq))

end Sys2Proof.Machine
end

section
/-!
O33: claims, the root timer, and how a Lyspen takes and loses its crown (R113 to R123, R126). What settling leaves of the
seat is what the tree engine makes of it once the lanes are judged.
-/

namespace Sys2Proof.Machine

/-! ### Ports and seats as the view shows them -/

section Views

theorem Chip.seat_of_steady {a b : Chip} (h : a.steady = b.steady) : a.seat = b.seat := congrArg Steady.seat h

theorem upUsable_of_still {a b : Chip} {p : Nat} (h : (a.port p).still = (b.port p).still) : a.upUsable p = b.upUsable p := by
  have hmode : (a.port p).mode = (b.port p).mode := (congrArg PortState.mode h :)
  have hcrown : (a.port p).peerCrown = (b.port p).peerCrown := (congrArg PortState.peerCrown h :)
  rw [Chip.upUsable, Chip.upUsable, Chip.isUp, Chip.isUp, hmode, hcrown]

theorem Chip.still_of_outline {a b : Chip} (h : a.outline = b.outline) (p : Nat) : (a.port p).still = (b.port p).still :=
  congrArg (fun x : Steady => x.ports p) h

theorem Chip.id_of_outline {a b : Chip} (h : a.outline = b.outline) : a.id = b.id := congrArg Steady.id h

variable (c : Chip)

theorem Chip.judged_seat : c.judged.seat = c.seat := congrArg Steady.seat c.judged_rest

theorem Chip.judged_id : c.judged.id = c.id := congrArg Steady.id c.judged_rest

theorem Chip.judged_upUsable (p : Nat) : c.judged.upUsable p = c.upUsable p := by
  rcases c.judged_port p with h | h
  · exact upUsable_of_still (congrArg PortState.still h)
  · rw [Chip.upUsable, Chip.isUp, h]
    rfl

theorem Chip.settle_kids : c.settle.tr.kids = c.tr.kids := congrArg Steady.kids c.settle_rest

/-- The seat that a hub settles in is the one that its tree engine finds. -/
theorem Chip.settle_seat (hhub : c.id.hub = true) : c.settle.seat = c.judged.hubEval.seat := by
  have hhub' : c.judged.id.hub = true := (congrArg Ident.hub c.judged_id).trans hhub
  have hsettled := c.settle_steady.trans c.judged.treeEval_steady
  rw [if_pos hhub'] at hsettled
  exact Chip.seat_of_steady hsettled

end Views

/-! ### Roots -/

section Roots

variable (c : Chip)

theorem Chip.becomeCrown_seat : c.becomeCrown.steady = { c.steady with seat := { c.seat with
    mode := .crown, addr := some 0, crown := some c.id.uid, cepoch := (c.tr.cepoch + 1) % 2 ^ 16 } } := by
  unfold Chip.becomeCrown
  extract_lets taken tr
  have htaken := c.crownTake_seat (some c.id.uid) c.crownPrio c.tr.level ((c.tr.cepoch + 1) % 2 ^ 16) 0
  rw [Chip.learnAddr_seat]
  exact congrArg (fun x : Steady => { x with seat := { x.seat with mode := .crown, addr := some 0 } }) htaken

/-- The root timer has run out at a hub that is not eligible (R118). -/
theorem Chip.becomeRoot_crownless (h : c.crownElig = false) : c.becomeRoot.steady = { c.steady with seat := { c.seat with
    mode := .crownless, addr := some 0, crown := none, cepoch := c.tr.cepoch } } := by
  unfold Chip.becomeRoot
  rw [if_neg (Bool.eq_false_iff.1 h)]
  extract_lets taken tr
  have htaken := c.crownTake_seat none 0 0 c.tr.cepoch 0
  rw [Chip.learnAddr_seat]
  refine (congrArg (fun x : Steady => { x with seat := { x.seat with addr := some 0 } }) (Chip.report_steady _ _ _)).trans ?_
  exact congrArg (fun x : Steady => { x with seat := { x.seat with mode := .crownless, addr := some 0 } }) htaken

/-- A root keeps its crown and its address as its ports change; a crown may look another way for the Lyspens above it
(R114, R117). -/
theorem Chip.hubEval_crown (h : c.seat.mode = .crown) : ∃ alt, c.hubEval.seat = { c.seat with upAlt := alt } := by
  have hmode : c.tr.mode = .crown := h
  unfold Chip.hubEval
  rw [hmode]
  dsimp only
  split
  · exact ⟨c.tr.upAlt, rfl⟩
  · split
    · obtain ⟨alt, htaken⟩ := c.takeUp_seat (by assumption)
      exact ⟨alt, Chip.seat_of_steady (b := { c with tr := { c.tr with upAlt := alt } }) htaken⟩
    · exact ⟨c.tr.upAlt, rfl⟩

theorem Chip.hubEval_crownless (h : c.seat.mode = .crownless) (hprim : c.upUsable 64 = false) (halt : c.upUsable 65 = false) :
    c.hubEval = c := by
  have hmode : c.tr.mode = .crownless := h
  have hnone : [64, 65].find? c.upUsable = none := by
    simp [List.find?, hprim, halt]
  unfold Chip.hubEval
  rw [hmode]
  simp only [hnone]

/-- What a crown settles in. -/
theorem Chip.settle_crown (hhub : c.id.hub = true) (h : c.seat.mode = .crown) :
    ∃ alt, c.settle.seat = { c.seat with upAlt := alt } := by
  obtain ⟨alt, heval⟩ := c.judged.hubEval_crown ((congrArg Seat.mode c.judged_seat).trans h)
  exact ⟨alt, by rw [c.settle_seat hhub, heval, c.judged_seat]⟩

end Roots

/-- A lane that is UP and meets all that TQUAL needs is judged TQUAL (R102). -/
theorem judged_tqual {c : Chip} {p : Nat} {x : PortState} (hstill : (c.port p).still = x.still) (hup : (x.mode == .up) = true)
    (hqual : x.tqual = true) (hok : x.qual.ok = true) (hlat : x.pmaLatOk = true) (hfreq : x.freqOk = true) :
    (c.judged.port p).tqual = true := by
  have hmode : (c.port p).mode = x.mode := (congrArg PortState.mode hstill :)
  have htqual : (c.port p).tqual = x.tqual := (congrArg PortState.tqual hstill :)
  have hok' : (c.port p).qual.ok = x.qual.ok := (congrArg (fun y : PortState => y.qual.ok) hstill :)
  have hlat' : (c.port p).pmaLatOk = x.pmaLatOk := (congrArg PortState.pmaLatOk hstill :)
  have hfreq' : (c.port p).freqOk = x.freqOk := (congrArg PortState.freqOk hstill :)
  rcases c.judged_port p with h | h
  · rw [h, htqual, hqual]
  · rw [h]
    simp only [PortState.judge, hmode, hup, hok', hok, hlat', hlat, hfreq', hfreq, Bool.and_self]

/-! ### Joined hubs -/

section Joined

variable (c : Chip)

theorem Chip.reflJoin_seat (p : Nat) (l : List Word) : ∃ addr crown epoch, (c.reflJoin p l).seat =
    { mode := .joined, addr := addr, crown := crown, cepoch := epoch, joinedSinceReset := true, upAlt := c.seat.upAlt } := by
  have htake := c.crownTake_seat (if reflValid l then some (reflUid l) else none) (reflClaim l).1 (Word.field (l.getD 2 0) 20 4)
    (reflEpoch l) (min 255 (reflHops l + 1))
  have hupAlt : ((c.reflTake l).reflAddrTake p l).seat.upAlt = c.seat.upAlt := by
    have htaken : (c.reflTake l).seat.upAlt = c.seat.upAlt := (congrArg (fun x : Steady => x.seat.upAlt) htake :)
    unfold Chip.reflAddrTake
    split
    · exact htaken
    · exact (congrArg (fun x : Steady => x.seat.upAlt) (Chip.learnAddr_seat _ _ _) :).trans htaken
  unfold Chip.reflJoin
  generalize (c.reflTake l).reflAddrTake p l = taken at hupAlt ⊢
  exact ⟨taken.tr.addr, taken.tr.crown, taken.tr.cepoch, congrArg (fun b : Bool => ({
    mode := .joined, addr := taken.tr.addr, crown := taken.tr.crown, cepoch := taken.tr.cepoch, joinedSinceReset := true
    upAlt := b } : Seat)) hupAlt⟩

/-- A hub is JOINED with a way up; where it was JOINED before, it stays so. -/
def Seat.follows (x y : Seat) : Prop :=
  x.mode = .joined ∧ x.upAlt = y.upAlt ∧ (y.joinedSinceReset = true → x.joinedSinceReset = true)

theorem Chip.takeUp_primary (h : c.activeUp ≠ 64) : (c.takeUp 64).seat.upAlt = false := by
  unfold Chip.takeUp
  rw [if_neg h]
  exact congrArg Seat.upAlt (Chip.seat_of_steady (Chip.groupsUp_steady _ _))

theorem Chip.reflKept_follows (h : c.seat.mode = .joined) : c.reflKept.seat.follows c.seat := by
  unfold Chip.reflKept
  split
  · exact ⟨h, rfl, fun hjoined => hjoined⟩
  · obtain ⟨addr, crown, epoch, hseat⟩ := c.reflJoin_seat c.activeUp (SMap.find c.tr.kept c.activeUp [])
    rw [hseat]
    exact ⟨rfl, rfl, fun _ => rfl⟩

/-- A JOINED hub that moves to its other upstream stays JOINED (R126). -/
theorem Chip.upSwitch_joined (h : c.seat.mode = .joined) (p : Nat) :
    (c.upSwitch p).seat.mode = .joined ∧ (c.seat.joinedSinceReset = true → (c.upSwitch p).seat.joinedSinceReset = true)
      ∧ (c.upSwitch p).seat.upAlt = (c.takeUp p).seat.upAlt := by
  obtain ⟨alt, htaken⟩ := c.takeUp_seat p
  have hseat : (c.takeUp p).seat = { c.seat with upAlt := alt } := congrArg Steady.seat htaken
  have hreported : ((c.takeUp p).report Event.TR_UPSWITCH).seat = (c.takeUp p).seat := Chip.seat_of_steady (Chip.report_steady _ _ _)
  obtain ⟨hmode, hupAlt, hsince⟩ := ((c.takeUp p).report Event.TR_UPSWITCH).reflKept_follows (by rw [hreported, hseat]; exact h)
  have hswitched : (c.upSwitch p).seat = ((c.takeUp p).report Event.TR_UPSWITCH).reflKept.seat :=
    Chip.seat_of_steady (Chip.svSwitchTo_steady _ _)
  rw [hswitched]
  refine ⟨hmode, fun hjoined => hsince ?_, hupAlt.trans (congrArg Seat.upAlt hreported)⟩
  rw [hreported, hseat]
  exact hjoined

/-- A JOINED hub with a usable upstream stays JOINED (R126). -/
theorem Chip.hubEval_joined (h : c.seat.mode = .joined) (hup : c.upUsable 64 = true ∨ c.upUsable 65 = true) :
    c.hubEval.seat.mode = .joined ∧ (c.seat.joinedSinceReset = true → c.hubEval.seat.joinedSinceReset = true) := by
  have hmode : c.tr.mode = .joined := h
  have hsome : ¬ (!(c.upUsable 64) && !(c.upUsable 65)) = true := by
    rcases hup with hup | hup <;> rw [hup] <;> simp
  have hswitch : ∀ p, (c.upSwitch p).seat.mode = .joined
      ∧ (c.seat.joinedSinceReset = true → (c.upSwitch p).seat.joinedSinceReset = true) := fun p =>
    ⟨(c.upSwitch_joined h p).1, (c.upSwitch_joined h p).2.1⟩
  unfold Chip.hubEval
  rw [hmode]
  dsimp only
  unfold Chip.hubFollow
  extract_lets fit a o
  rw [if_neg hsome]
  split
  · exact hswitch _
  · split
    · exact hswitch _
    · exact ⟨h, fun hjoined => hjoined⟩

/-- A JOINED hub on its qualified primary upstream stays where it is (R126). -/
theorem Chip.hubEval_primary (hhub : c.id.hub = true) (h : c.seat.mode = .joined) (hway : c.seat.upAlt = false)
    (hup : c.upUsable 64 = true) (hqual : (c.port 64).tqual = true) : c.hubEval = c := by
  have hmode : c.tr.mode = .joined := h
  have hway' : c.tr.upAlt = false := hway
  have hactive : c.activeUp = 64 := by
    rw [Chip.activeUp, hhub, hway']
    rfl
  unfold Chip.hubEval
  rw [hmode]
  dsimp only
  unfold Chip.hubFollow
  simp [hactive, hup, hqual, hway']

end Joined

/-! ### Slow starts and summaries -/

section Summaries

variable (c : Chip)

/-- The part once START_SLOW has been set (R123). -/
def Chip.slowStart (c : Chip) : Chip :=
  let c := { c with tr := { c.tr with startSlow := true } }
  if c.tr.slowReported then c else ({ c with tr := { c.tr with slowReported := true } }).report Event.TR_START_SLOW

theorem Chip.slowStart_tr : c.slowStart.tr.startSlow = true ∧ c.slowStart.tr.slowReported = true ∧ c.slowStart.tr.mode = c.tr.mode := by
  unfold Chip.slowStart
  extract_lets tr slowed
  split
  · next h => exact ⟨rfl, h, rfl⟩
  · rw [Chip.report_tr]
    exact ⟨rfl, rfl, rfl⟩

/-- The part once its summary has taken the next number (R120). -/
def Chip.summarised (c : Chip) : Chip :=
  { c with tr := { c.tr with lastSummary := some c.summaryWords, sseq := (c.tr.sseq + 1) % 65536 } }

/-- The cell of a summary (R120). -/
def Chip.summaryCell (c : Chip) : Cell :=
  mkCell clsM 0x45 0 ((c.summaryWords.headD 0 ||| Word.place 1 24 ||| fld c.tr.sseq 16 0) :: c.summaryWords.drop 1)

theorem Chip.newType_summary : newType c.summaryCell = false := by
  have htyp : Cell.typ c.summaryCell =
      Word.field (Word.place clsM 28 ||| Word.place 0x45 20 ||| Word.place 0 8 ||| BitVec.ofNat 32 6) 20 8 := rfl
  rw [newType, htyp]
  decide

/-- What a SUMMARY says of the child that sends it (R120). -/
def summaryKid (x : Cell) : Kid :=
  { level := Word.field (x.pay 2) 20 4, slow := Word.bit (x.pay 2) 19, members := Word.field (x.pay 3) 0 25
    locked := Word.field (x.pay 4) 0 25, hubs := Word.field (x.pay 5) 0 19
    best := if Word.bit (x.pay 6) 23 then some (Word.field (x.pay 6) 24 8, Word.field (x.pay 6) 0 16 * 2 ^ 32 + (x.pay 7).toNat)
      else none }

theorem Chip.settle_kid (p : Nat) : c.settle.kid p = c.kid p := by
  rw [Chip.kid, Chip.kid, c.settle_kids]

theorem Chip.settle_rxM (p : Nat) : (c.settle.port p).q.rxM = (c.port p).q.rxM := by
  have hrx : ∀ {x y : PortState}, x.still = y.still → x.q.rxM = y.q.rxM := fun h => (congrArg (fun x : PortState => x.q.rxM) h :)
  rcases c.settle_port p with h | h
  · exact hrx h
  · exact (hrx h).trans rfl

end Summaries

/-! ### The commands -/

section Commands

variable {s : State} (hhub : s.chip.id.hub = true)

include hhub

theorem exec_rootTimerExpiry (hrst : s.chip.inReset = false) (hmode : s.chip.tr.mode = .rootwait)
    (hjoined : s.chip.tr.joinedSinceReset = false) :
    exec .rootTimerExpiry s = .next { s with chip := s.chip.newCycle.becomeRoot.settle } := by
  have hgo : (s.chip.newCycle.tr.mode == .rootwait && !s.chip.newCycle.tr.joinedSinceReset) = true := by
    rw [show s.chip.newCycle.tr.mode = .rootwait from hmode, show s.chip.newCycle.tr.joinedSinceReset = false from hjoined]
    rfl
  show execRootTimerExpiry s = _
  rw [execRootTimerExpiry, State.runHub_eq hhub hrst]
  exact congrArg (fun c : Chip => Host.Outcome.next { s with chip := c }) (if_pos hgo)

/-- A write of TR_CTRL asks for a claim, a yield or a return, in this order (R117, R118, R126). -/
theorem exec_treeControl {m : Master} (hopen : s.chip.opens m 0x09 = true) (w : Word) {d : Chip}
    (hd : ((s.chip.fresh.onBit w 0 Chip.trClaim).onBit w 1 Chip.trYield).onBit w 2 Chip.trRevert = d) :
    s.runMaster m (fun c => c.regWrite m 0x09048 w) = .next { s with chip := d } := by
  have hwrite : s.chip.fresh.rowWrite { m := m, row := Reg.TR_CTRL, i := 0, idx := 0, w := w } = d.done := by
    rw [← hd]
    simp only [Chip.rowWrite, Chip.writeTr, Reg.TR_CTRL]
  exact State.runMaster_roleWrite (r := Reg.TR_CTRL) (by decide) hopen (by rw [hhub]; decide) (by decide) (by cases m <;> rfl)
    (Bool.and_false _) (by simp only [Chip.rowIdx, Reg.TR_CTRL]) (by simp only [Chip.fitWord, Reg.TR_CTRL]) hwrite

theorem exec_claim {m : Master} (hopen : s.chip.opens m 0x09 = true) (hmode : s.chip.tr.mode = .orphan ∨ s.chip.tr.mode = .conflict) :
    exec (.claim m) s = .next { s with chip := s.chip.fresh.becomeCrown.settle } := by
  refine exec_treeControl hhub hopen 1 ?_
  have hclaim : s.chip.fresh.trClaim = s.chip.fresh.becomeCrown.settle := by
    unfold Chip.trClaim
    rcases hmode with h | h <;> rw [show s.chip.fresh.tr.mode = _ from h]
  rw [← hclaim]
  rfl

theorem exec_yield {m : Master} (hopen : s.chip.opens m 0x09 = true) (hmode : s.chip.tr.mode = .conflict) :
    exec (.yield m) s = .next { s with chip :=
      ({ s.chip.fresh with tr := { s.chip.tr with mode := .joined, joinedSinceReset := true } } : Chip).reflKept.settle } := by
  refine exec_treeControl hhub hopen 2 ?_
  have hyield : s.chip.fresh.trYield =
      ({ s.chip.fresh with tr := { s.chip.tr with mode := .joined, joinedSinceReset := true } } : Chip).reflKept.settle := by
    unfold Chip.trYield
    exact if_pos (beq_iff_eq.2 hmode)
  rw [← hyield]
  rfl

theorem exec_revertNow {m : Master} (hopen : s.chip.opens m 0x09 = true) (hmode : s.chip.tr.mode = .joined)
    (hway : s.chip.tr.upAlt = true) (hup : s.chip.upUsable 64 = true) (hqual : (s.chip.port 64).tqual = true) :
    exec (.revertNow m) s = .next { s with chip := (s.chip.fresh.upSwitch 64).settle } := by
  refine exec_treeControl hhub hopen 4 ?_
  have hgo : (s.chip.fresh.tr.mode == .joined && s.chip.fresh.tr.upAlt && s.chip.fresh.upUsable 64 && (s.chip.fresh.port 64).tqual) =
      true := by
    rw [show s.chip.fresh.tr.mode = .joined from hmode, show s.chip.fresh.tr.upAlt = true from hway,
      show s.chip.fresh.upUsable 64 = true from hup, show (s.chip.fresh.port 64).tqual = true from hqual]
    rfl
  have hrevert : s.chip.fresh.trRevert = (s.chip.fresh.upSwitch 64).settle := if_pos hgo
  rw [← hrevert]
  rfl

end Commands

/-- A seat settled in, as the state shows it. -/
theorem tr_of_seat {c : Chip} {x : Seat} (h : c.seat = x) :
    c.tr.mode = x.mode ∧ c.tr.addr = x.addr ∧ c.tr.crown = x.crown ∧ c.tr.cepoch = x.cepoch
      ∧ c.tr.joinedSinceReset = x.joinedSinceReset ∧ c.tr.upAlt = x.upAlt :=
  h ▸ ⟨rfl, rfl, rfl, rfl, rfl, rfl⟩

/-- Settles O33: each command moves the seat as its rule says, and the tree engine, which settling runs, leaves that seat. -/
theorem treeFormation : Obligations.TreeFormation := by
  unfold Obligations.TreeFormation
  refine ⟨?root, ?claim, ?yield, ?revert, ?slow, ?send, ?receive⟩
  case root =>
    intro s hhub hrst hmode hjoined hprim halt
    refine State.answers (exec_rootTimerExpiry hhub hrst hmode hjoined) fun d hd => ?_
    cases helig : s.chip.crownElig with
    | true =>
      have hroot : s.chip.newCycle.becomeRoot = s.chip.newCycle.becomeCrown := if_pos helig
      have hseat := s.chip.newCycle.becomeCrown_seat
      rw [← hroot] at hseat
      obtain ⟨alt, hsettled⟩ := s.chip.newCycle.becomeRoot.settle_crown ((congrArg (fun x : Steady => x.id.hub) hseat).trans hhub)
        ((congrArg (fun x : Steady => x.seat.mode) hseat).trans rfl)
      rw [show s.chip.newCycle.becomeRoot.seat = _ from congrArg Steady.seat hseat, ← hd] at hsettled
      obtain ⟨hm, ha, hc, he, -, -⟩ := tr_of_seat hsettled
      exact ⟨hm, ha, hc, he⟩
    | false =>
      have hseat := s.chip.newCycle.becomeRoot_crownless helig
      have hstill : ∀ p, (s.chip.newCycle.becomeRoot.port p).still = (s.chip.port p).still := fun p =>
        congrArg (fun x : Steady => x.ports p) hseat
      have hup : ∀ p, s.chip.upUsable p = false → s.chip.newCycle.becomeRoot.judged.upUsable p = false := fun p hp =>
        (Chip.judged_upUsable _ p).trans ((upUsable_of_still (hstill p)).trans hp)
      have hkept := s.chip.newCycle.becomeRoot.judged.hubEval_crownless
        ((congrArg Seat.mode (Chip.judged_seat _)).trans (congrArg (fun x : Steady => x.seat.mode) hseat)) (hup 64 hprim) (hup 65 halt)
      have hsettled := s.chip.newCycle.becomeRoot.settle_seat ((congrArg (fun x : Steady => x.id.hub) hseat).trans hhub)
      rw [hkept, Chip.judged_seat, show s.chip.newCycle.becomeRoot.seat = _ from congrArg Steady.seat hseat, ← hd] at hsettled
      obtain ⟨hm, ha, hc, he, -, -⟩ := tr_of_seat hsettled
      exact ⟨hm, ha, hc, he⟩
  case claim =>
    intro s m hhub hopen hmode
    have hseat := s.chip.fresh.becomeCrown_seat
    obtain ⟨alt, hsettled⟩ := s.chip.fresh.becomeCrown.settle_crown ((congrArg (fun x : Steady => x.id.hub) hseat).trans hhub)
      ((congrArg (fun x : Steady => x.seat.mode) hseat).trans rfl)
    rw [show s.chip.fresh.becomeCrown.seat = _ from congrArg Steady.seat hseat] at hsettled
    refine State.answers (exec_claim hhub hopen hmode) fun d hd => ?_
    rw [← hd] at hsettled
    obtain ⟨hm, ha, hc, he, -, -⟩ := tr_of_seat hsettled
    exact ⟨hm, ha, hc, he⟩
  case yield =>
    intro s m hhub hopen hmode hup
    refine State.answers (exec_yield hhub hopen hmode) fun d hd => ?_
    generalize hjoining : ({ s.chip.fresh with tr := { s.chip.tr with mode := .joined, joinedSinceReset := true } } : Chip) = c at hd
    have hjoined : c.seat.mode = .joined ∧ c.seat.joinedSinceReset = true := hjoining ▸ ⟨rfl, rfl⟩
    have houtline : c.outline = s.chip.fresh.outline := hjoining ▸ rfl
    obtain ⟨hm, -, hsince⟩ := c.reflKept_follows hjoined.1
    have houtline' : c.reflKept.outline = s.chip.fresh.outline := c.reflKept_outline.trans houtline
    have hup' : ∀ p, c.reflKept.judged.upUsable p = s.chip.upUsable p := fun p =>
      (Chip.judged_upUsable _ p).trans (upUsable_of_still (Chip.still_of_outline houtline' p))
    obtain ⟨hm', hsince'⟩ := c.reflKept.judged.hubEval_joined ((congrArg Seat.mode (Chip.judged_seat _)).trans hm)
      (hup.imp (hup' 64).trans (hup' 65).trans)
    have hsettled := c.reflKept.settle_seat ((congrArg Ident.hub (Chip.id_of_outline houtline')).trans hhub)
    rw [← hd] at hsettled
    exact ⟨(congrArg Seat.mode hsettled).trans hm',
      (congrArg Seat.joinedSinceReset hsettled).trans (hsince' ((congrArg Seat.joinedSinceReset (Chip.judged_seat _)).trans (hsince hjoined.2)))⟩
  case revert =>
    intro s m hhub hopen hmode hway hup hqual hok hlat hfreq
    refine State.answers (exec_revertNow hhub hopen hmode hway hup hqual) fun d hd => ?_
    obtain ⟨hm, -, hw⟩ := s.chip.fresh.upSwitch_joined hmode 64
    have hw' : (s.chip.fresh.upSwitch 64).seat.upAlt = false := by
      rw [hw]
      exact s.chip.fresh.takeUp_primary (by rw [Chip.activeUp, show s.chip.fresh.id.hub = true from hhub, show s.chip.fresh.tr.upAlt = true from hway]; decide)
    have houtline : (s.chip.fresh.upSwitch 64).outline = s.chip.fresh.outline := Chip.upSwitch_outline _ _
    generalize s.chip.fresh.upSwitch 64 = c at hm hw' houtline hd
    have hhub' : c.id.hub = true := (congrArg Ident.hub (Chip.id_of_outline houtline)).trans hhub
    have hstill := Chip.still_of_outline houtline 64
    have hup' : c.judged.upUsable 64 = true := (c.judged_upUsable 64).trans ((upUsable_of_still hstill).trans hup)
    have hqual' : (c.judged.port 64).tqual = true := judged_tqual (x := s.chip.port 64) hstill (Bool.and_eq_true_iff.1 hup).1 hqual hok
      hlat hfreq
    have hkept := c.judged.hubEval_primary ((congrArg Ident.hub c.judged_id).trans hhub') ((congrArg Seat.mode c.judged_seat).trans hm)
      ((congrArg Seat.upAlt c.judged_seat).trans hw') hup' hqual'
    have hsettled := c.settle_seat hhub'
    rw [hkept, c.judged_seat, ← hd] at hsettled
    exact ⟨(congrArg Seat.upAlt hsettled).trans hw', (congrArg Seat.mode hsettled).trans hm⟩
  case slow =>
    intro s hrst hup hlock hfresh
    have hgo : ¬ (!s.chip.newCycle.tr.firstUp || s.chip.newCycle.sv.mode == .locked || s.chip.newCycle.tr.startSlow) = true := by
      rw [show s.chip.newCycle.tr.firstUp = true from hup, show s.chip.newCycle.tr.startSlow = false from hfresh,
        show (s.chip.newCycle.sv.mode == .locked) = false from beq_eq_false_iff_ne.2 hlock]
      decide
    have hexec : exec .startSlow s = .next { s with chip := s.chip.newCycle.slowStart } := by
      show execStartSlow s = _
      rw [execStartSlow, State.run_eq hrst]
      exact congrArg (fun c : Chip => Host.Outcome.next { s with chip := c }) (if_neg hgo)
    exact State.answers hexec fun d hd => hd ▸ s.chip.newCycle.slowStart_tr
  case send =>
    intro s u hhub hrst hu hmode hnew hcarries hroom hwait
    have hexec : exec .summarySend s = .next { s with chip := (s.chip.newCycle.summarised).sendCells u clsM [s.chip.summaryCell] } := by
      show execSummarySend s = _
      rw [execSummarySend, State.runHub_eq hhub hrst]
      have hu' : s.chip.newCycle.upPort = some u := hu
      have hgo : (true && s.chip.newCycle.tr.lastSummary != some s.chip.newCycle.summaryWords) = true :=
        (Bool.true_and _).trans (bne_iff_ne.2 hnew)
      simp only [hu']
      refine congrArg (fun c : Chip => Host.Outcome.next { s with chip := c }) (if_pos ?_)
      rcases hmode with h | h
      · rw [show s.chip.newCycle.tr.mode = .joined from h]
        exact hgo
      · rw [show s.chip.newCycle.tr.mode = .discover from h]
        exact hgo
    refine State.answers hexec fun d hd => ?_
    rw [hd, Chip.sendCells_tr]
    exact ⟨rfl, rfl, rfl, Chip.sendCells_txM (c := s.chip.newCycle.summarised) hcarries s.chip.newType_summary hroom hwait⟩
  case receive =>
    intro s p x hhub hrst hp hhead hkind
    have hports : p.val < s.chip.nports := by
      rw [Chip.nports, hhub]
      exact Nat.lt_of_lt_of_le hp (by decide)
    have hhead' : s.chip.newCycle.headM p.val 0x45 = some x := hhead
    have hhere : (!s.chip.newCycle.id.hub || decide (64 ≤ p.val)) = false := by
      rw [show s.chip.newCycle.id.hub = true from hhub, decide_eq_false (Nat.not_le.2 hp)]
      rfl
    have hexec : exec (.summaryReceive p) s =
        .next { s with chip := ((s.chip.newCycle.popRx p.val clsM 1).modKid p.val fun _ => summaryKid x).settle } := by
      show execSummaryReceive p s = _
      rw [execSummaryReceive, State.runPort_eq hports hrst]
      refine congrArg (fun c : Chip => Host.Outcome.next { s with chip := c }) ?_
      unfold Chip.treeAt
      simp only [hhead']
      refine (if_pos (beq_iff_eq.2 hkind)).trans (congrArg Chip.settle ?_)
      exact if_neg (Bool.eq_false_iff.1 hhere)
    refine State.answers hexec fun d hd => ?_
    rw [hd, Chip.settle_rxM]
    refine ⟨(Chip.settle_kid _ _).trans (SMap.find_put_self _ _ _ _), Chip.popRx_rxM _ _ _, fun q hq => ?_⟩
    exact (Chip.settle_kid _ _).trans (SMap.find_put_ne hq _ _ _)

end Sys2Proof.Machine
end

section
/-!
The timekeeper and the servo while ticks pass (R58, R64, R70): the operations of a tick or of an LCLK cycle leave both, but
for FRC itself and the ACQUIRE that a step beyond the bound brings.
-/

namespace Sys2Proof.Machine

/-! ### The view -/

/-- The timekeeper and the servo. -/
structure Beat where
  tk : TkState
  sv : SvState
  inReset : Bool

def Chip.beat (c : Chip) : Beat := { tk := c.tk, sv := c.sv, inReset := c.inReset }

theorem beat_of_calm {a b : Chip} (h : a.calm = b.calm) : a.beat = b.beat :=
  (congrArg Chip.beat h :)

theorem beat_ite {p : Prop} [Decidable p] {x y : Chip} {w : Beat} (hx : x.beat = w) (hy : y.beat = w) :
    (if p then x else y).beat = w := by
  split
  · exact hx
  · exact hy

theorem beat_foldl {β : Type} (f : Chip → β → Chip) (l : List β) (c : Chip) (h : ∀ x b, (f x b).beat = x.beat) :
    (l.foldl f c).beat = c.beat :=
  foldl_keeps Chip.beat f l c h

section Told

variable (c : Chip)

theorem Chip.report_beat (e : Ev) (r : Rep) : (c.report e r).beat = c.beat := beat_of_calm (c.report_calm e r)

theorem Chip.note_beat (e : Ev) (i : Option Nat) : (c.note e i).beat = c.beat := beat_of_calm (c.note_calm e i)

theorem Chip.count_beat (n : Nat) (i : Option Nat) (k : Nat) : (c.count n i k).beat = c.beat := beat_of_calm (c.count_calm n i k)

theorem Chip.sample_beat (a i : Nat) (n : Int) : (c.sample a i n).beat = c.beat := beat_of_calm (c.sample_calm a i n)

theorem Chip.servoSweep_beat : c.servoSweep.beat = c.beat :=
  (congrArg Chip.beat c.servoSweep_apartGroups :)

/-! ### Semaphores, and the shared port -/

theorem Chip.activity_beat (g : Nat) : (c.activity g).beat = c.beat := rfl

theorem Chip.modSem_beat (n : Nat) (f : SemState → SemState) : (c.modSem n f).beat = c.beat := rfl

theorem Chip.semAct_beat (sem : Nat) : (c.semAct sem).beat = c.beat := by
  unfold Chip.semAct
  split
  · exact c.activity_beat _
  · rfl

theorem Chip.opDone_beat : c.opDone.beat = c.beat := (Chip.count_beat _ _ _ _).trans rfl

theorem Chip.semFault_beat (e : Ev) (sem : Nat) (who : Who) : (c.semFault e sem who).beat = c.beat := c.report_beat _ _

theorem Chip.semSignal_beat (who : Who) (sem n : Nat) (dir : Bool) (tag : Nat) :
    (c.semSignal who sem n dir tag).1.beat = c.beat := by
  have hdone : ∀ d : Chip, (d.opDone.semAct sem).beat = d.beat := fun d => (d.opDone.semAct_beat sem).trans d.opDone_beat
  unfold Chip.semSignal
  split
  · exact c.semFault_beat _ _ _
  · split
    · dsimp only
      split
      · exact c.semFault_beat _ _ _
      · split
        · exact c.semFault_beat _ _ _
        · exact (hdone _).trans rfl
    · split
      · exact c.semFault_beat _ _ _
      · exact (hdone _).trans (c.modSem_beat _ _)

theorem Chip.wake_beat (slot : Nat) : (c.wake slot).beat = c.beat := rfl

theorem Chip.toRun_beat (t : Nat) : (c.toRun t).beat = c.beat := rfl

theorem Chip.granted_beat (a : Nat) (w : WaitState) : (c.granted a w).beat = c.beat := by
  unfold Chip.granted
  extract_lets waits erased sampled acted
  have hsampled : sampled.beat = c.beat := (Chip.sample_beat _ _ _ _).trans ((Chip.count_beat _ _ _ _).trans rfl)
  have hacted : acted.beat = c.beat := (sampled.semAct_beat _).trans hsampled
  exact beat_ite ((acted.wake_beat a).trans hacted) ((acted.toRun_beat _).trans hacted)

theorem Chip.withdraw_beat (a : Nat) : (c.withdraw a).beat = c.beat := by
  unfold Chip.withdraw
  exact beat_ite ((Chip.semAct_beat _ _).trans rfl) rfl

theorem Chip.semSetevent_beat (who : Who) (sem : Nat) : (c.semSetevent who sem).1.beat = c.beat := by
  unfold Chip.semSetevent
  split
  · exact c.semFault_beat _ _ _
  · refine (beat_foldl _ _ (c.opDone.semAct sem) ?_).trans ((c.opDone.semAct_beat sem).trans c.opDone_beat)
    exact fun x w => x.granted_beat w.1 w.2

theorem Chip.semWait_beat (a sem n : Nat) (dir ord : Bool) (rank tag : Nat) :
    (c.semWait a sem n dir ord rank tag).1.beat = c.beat := by
  unfold Chip.semWait
  split
  · exact c.semFault_beat _ _ _
  · split
    · exact c.semFault_beat _ _ _
    · split
      · exact c.semFault_beat _ _ _
      · exact (Chip.semAct_beat _ _).trans ((Chip.opDone_beat _).trans ((Chip.count_beat _ _ _ _).trans rfl))

theorem Chip.semSigr_beat (a gte n : Nat) (dir : Bool) (tag : Nat) : (c.semSigr a gte n dir tag).1.beat = c.beat := by
  unfold Chip.semSigr
  extract_lets g e
  split
  · exact c.report_beat _ _
  · exact (Chip.opDone_beat _).trans rfl

theorem Chip.coreExec_beat (s : Nat) (r : CoreReq) : (c.coreExec s r).beat = c.beat := by
  cases r with
  | signal sem n dir tag => exact c.semSignal_beat _ _ _ _ _
  | setevent sem => exact c.semSetevent_beat _ _
  | wait sem n dir ord rank tag => exact c.semWait_beat _ _ _ _ _ _ _
  | sigr gte n dir tag => exact beat_ite rfl (c.semSigr_beat _ _ _ _ _)
  | cancel => exact (Chip.opDone_beat _).trans (c.withdraw_beat s)

theorem Chip.masterExec_beat (m : Master) (o : MasterOp) : (c.masterExec m o).beat = c.beat := by
  cases o with
  | signal sem n => exact c.semSignal_beat _ _ _ _ _
  | setevent sem => exact c.semSetevent_beat _ _
  | rstNext sem => exact (Chip.semAct_beat _ _).trans ((Chip.opDone_beat _).trans rfl)

theorem Chip.otherTurn_beat : c.otherTurn.beat = c.beat := by
  unfold Chip.otherTurn
  dsimp only
  split
  · exact (Chip.masterExec_beat _ _ _).trans rfl
  · exact (Chip.coreExec_beat _ _ _).trans rfl
  · rfl

theorem Chip.pendCheck_beat : c.pendCheck.beat = c.beat := by
  unfold Chip.pendCheck
  extract_lets n full gt marked
  have hmarked : marked.beat = c.beat := rfl
  exact beat_ite ((marked.note_beat _ _).trans hmarked) hmarked

theorem Chip.releaseTurn_beat : c.releaseTurn.beat = c.beat := by
  unfold Chip.releaseTurn
  split
  · rfl
  · extract_lets sg gt freed r
    have hfreed : freed.beat = c.beat := (Chip.pendCheck_beat _).trans rfl
    have hr : r.1.beat = c.beat := (freed.semSignal_beat _ _ _ _ _).trans hfreed
    clear_value r
    exact beat_ite ((Chip.sample_beat _ _ _ _).trans ((Chip.count_beat _ _ _ _).trans hr)) hr

theorem Chip.sharedCycle_beat : c.sharedCycle.beat = c.beat := by
  unfold Chip.sharedCycle
  exact beat_ite rfl (beat_ite c.releaseTurn_beat c.otherTurn_beat)

/-! ### Histogram units, pins and counters -/

theorem Chip.hsTake_beat (u : Nat) (n : Int) : (c.hsTake u n).beat = c.beat := beat_of_calm (c.hsTake_calm u n)

theorem Chip.hsTurn_beat (u : Nat) : (c.hsTurn u).beat = c.beat := by
  unfold Chip.hsTurn
  dsimp only
  split
  · exact beat_ite rfl ((Chip.hsTake_beat _ _ _).trans rfl)
  · rfl

theorem Chip.hsCycle_beat : c.hsCycle.beat = c.beat :=
  (beat_foldl _ _ c.newCycle fun x u => x.hsTurn_beat u).trans rfl

theorem Chip.lclkCycle_beat : c.lclkCycle.beat = c.beat := (Chip.hsCycle_beat _).trans c.sharedCycle_beat

theorem Chip.poEdges_beat (before : Chip) (o : Nat) : (c.poEdges before o).beat = c.beat := by
  rw [Chip.poEdges_eq]
  rfl

theorem Chip.poAllEdges_beat (before : Chip) : (c.poAllEdges before).beat = c.beat :=
  beat_foldl _ _ c fun x o => x.poEdges_beat before o

theorem Chip.tbElapse_beat (n : Nat) : (c.tbElapse n).beat = c.beat :=
  beat_foldl _ _ c fun _ _ => rfl

theorem Chip.levelTicks_beat (n k : Nat) : (c.levelTicks n k).beat = c.beat := by
  unfold Chip.levelTicks
  extract_lets cfg mode free r
  have hr : r.2.beat = c.beat := by
    simp only [r]
    split
    · rfl
    · rfl
  clear_value r
  exact beat_ite hr rfl

theorem Chip.cycleCounts_beat (n : Nat) : (c.cycleCounts n).beat = c.beat := by
  unfold Chip.cycleCounts
  extract_lets counted stalls issued
  have hcounted : counted.beat = c.beat := c.count_beat _ _ _
  have hstalls : stalls.beat = c.beat := (beat_foldl _ _ counted fun x e => x.count_beat _ _ _).trans hcounted
  have hissued : issued.beat = c.beat := by
    refine beat_ite hstalls ((beat_foldl _ _ stalls ?_).trans hstalls)
    exact fun x e => rfl
  exact beat_ite ((issued.count_beat _ _ _).trans hissued) hissued

/-! ### Ticks -/

/-- FRC has counted a number of ticks (R58). -/
def TkState.later (t : TkState) (n : Nat) : TkState := { t with frc := (t.frc + n) % 2 ^ 64 }

theorem TkState.later_add (t : TkState) (m n : Nat) : (t.later m).later n = t.later (m + n) := by
  simp only [TkState.later, Nat.mod_add_mod, Nat.add_assoc]

/-- The timekeeper and the servo after a number of ticks. -/
def Beat.later (b : Beat) (n : Nat) : Beat := { b with tk := b.tk.later n }

theorem Beat.later_add (b : Beat) (m n : Nat) : (b.later m).later n = b.later (m + n) := by
  rw [Beat.later, Beat.later, Beat.later, b.tk.later_add]

theorem Chip.pass_beat (n : Nat) : (c.pass n).beat = c.beat.later n := by
  unfold Chip.pass
  extract_lets f counted
  have hcounted : counted.beat = c.beat := by
    refine beat_ite rfl ((beat_foldl _ _ _ fun x k => x.levelTicks_beat n k).trans ?_)
    exact (Chip.cycleCounts_beat _ _).trans (c.tbElapse_beat n)
  exact congrArg (fun b : Beat => ({ b with tk := { b.tk with frc := (f + n) % 2 ^ 64 } } : Beat)) hcounted

theorem Chip.passWork_beat (n : Nat) : (c.passWork n).beat = if n = 0 then c.beat else c.beat.later n := by
  induction n generalizing c with
  | zero => rfl
  | succ n ih =>
    rw [if_neg (Nat.succ_ne_zero n), Chip.passWork]
    refine beat_ite (c.pass_beat _) (beat_ite ?_ ?_)
    · extract_lets d
      have hd : d.beat = c.beat.later 1 := (Chip.poAllEdges_beat _ _).trans (c.pass_beat 1)
      have hcycle : (if d.tk.frc % 2 = 0 then d.lclkCycle else d).beat = c.beat.later 1 := beat_ite (d.lclkCycle_beat.trans hd) hd
      rw [ih, hcycle]
      cases n with
      | zero => rfl
      | succ k =>
        rw [if_neg (Nat.succ_ne_zero k), Beat.later_add, Nat.add_comm 1]
    · extract_lets d
      have hd : d.beat = c.beat.later (n + 1) := c.pass_beat _
      exact beat_ite hd hd

/-! ### The clock -/

/-- The timekeeper, without what settling and a TICK from above bring to it. -/
def TkState.clock (t : TkState) : TkState := { t with untraceable := false, utcMirror := 0, lostUncounted := false }

def Chip.clock (c : Chip) : TkState := c.tk.clock

theorem clock_of_beat {a b : Chip} (h : a.beat = b.beat) : a.clock = b.clock := congrArg (fun x : Beat => x.tk.clock) h

theorem clock_of_steady {a b : Chip} (h : a.steady = b.steady) : a.clock = b.clock := congrArg (fun x : Steady => x.tk.clock) h

theorem clock_of_outline {a b : Chip} (h : a.outline = b.outline) : a.clock = b.clock := congrArg (fun x : Steady => x.tk.clock) h

theorem clock_ite {p : Prop} [Decidable p] {x y : Chip} {w : TkState} (hx : x.clock = w) (hy : y.clock = w) :
    (if p then x else y).clock = w := by
  split
  · exact hx
  · exact hy

theorem clock_foldl {β : Type} (f : Chip → β → Chip) (l : List β) (c : Chip) (h : ∀ x b, (f x b).clock = x.clock) :
    (l.foldl f c).clock = c.clock :=
  foldl_keeps Chip.clock f l c h

theorem Chip.passWork_clock (n : Nat) : (c.passWork (n + 1)).clock = c.clock.later (n + 1) :=
  congrArg (fun x : Beat => x.tk.clock) ((c.passWork_beat (n + 1)).trans (if_neg (Nat.succ_ne_zero n)))

theorem Chip.stepAcquire_clock : c.stepAcquire.clock = c.clock := by
  unfold Chip.stepAcquire
  split
  · exact clock_ite ((clock_of_steady (c.setSvMode_steady _ _)).trans rfl) rfl
  · rfl

theorem Chip.elapse_clock (n : Nat) : (c.elapse (n + 1)).clock = c.clock.later (n + 1) := by
  unfold Chip.elapse
  extract_lets passed
  have hpassed : passed.clock = c.clock.later (n + 1) := by
    refine clock_ite ?_ (c.passWork_clock n)
    have hfirst : (c.passWork 1).stepAcquire.clock = c.clock.later 1 := (Chip.stepAcquire_clock _).trans (c.passWork_clock 0)
    cases n with
    | zero => exact hfirst
    | succ n =>
      show ((c.passWork 1).stepAcquire.passWork (n + 1)).clock = _
      rw [Chip.passWork_clock, hfirst, TkState.later_add, Nat.add_comm 1]
  exact clock_ite hpassed ((clock_of_steady passed.servoSweep_steady).trans hpassed)

end Told

end Sys2Proof.Machine
end

section
/-!
O10: a boundary re-anchors time under the old RATE, then applies the armed step, then takes the staged RATE (R64, R65, R68,
R69, R75).
-/

namespace Sys2Proof.Machine

/-! ### What a boundary does beside the clock -/

section Boundary

variable (c : Chip)

theorem Chip.report_clock (e : Ev) (r : Rep) : (c.report e r).clock = c.clock := clock_of_beat (c.report_beat e r)

theorem Chip.sample_clock (a i : Nat) (n : Int) : (c.sample a i n).clock = c.clock := clock_of_beat (c.sample_beat a i n)

theorem Chip.modTap_clock (t : Nat) (f : TapState → TapState) : (c.modTap t f).clock = c.clock := rfl

theorem Chip.modLine_clock (n : Nat) (f : LineState → LineState) : (c.modLine n f).clock = c.clock := rfl

theorem Chip.lineLost_clock (a : LineArm) (n : Nat) : (c.lineLost a n).clock = c.clock := by
  unfold Chip.lineLost
  exact clock_ite rfl ((clock_of_steady (Chip.modTh_steady _ _ _)).trans (clock_of_steady (c.detClear_steady _ _)))

theorem Chip.lineDead_clock (n : Nat) (a : LineArm) : (c.lineDead n a).clock = c.clock :=
  (Chip.lineLost_clock _ a n).trans ((Chip.report_clock _ _ _).trans (c.modLine_clock n _))

theorem Chip.withhold_clock (a : LineArm) : (c.withhold a).clock = c.clock := by
  unfold Chip.withhold
  extract_lets same marked cleared told
  have hcleared : cleared.clock = c.clock := (clock_of_steady (marked.detClear_steady _ _)).trans rfl
  have htold : told.clock = c.clock := (cleared.report_clock _ _).trans hcleared
  exact clock_ite hcleared (clock_ite ((clock_of_steady (told.modTh_steady _ _)).trans htold) htold)

theorem Chip.tapMoment_clock (n at_ : Nat) : (c.tapMoment n at_).clock = c.clock := by
  unfold Chip.tapMoment
  split
  · rfl
  · exact clock_ite (c.lineDead_clock n _) (clock_ite (c.modLine_clock n _) (c.withhold_clock _))

theorem Chip.stepLines_clock (before : Nat) : (c.stepLines before).clock = c.clock := by
  unfold Chip.stepLines
  extract_lets due now armed
  exact (clock_foldl _ _ armed fun x n => x.tapMoment_clock n now).trans rfl

theorem Chip.poStep_clock (o : Nat) (step : Int) : (c.poStep o step).clock = c.clock := by
  unfold Chip.poStep
  extract_lets move now x old n skip y y' moved skipped
  have hmoved : moved.clock = c.clock := rfl
  have hskipped : skipped.clock = c.clock := (clock_of_beat (Chip.count_beat _ _ _ _)).trans hmoved
  refine clock_ite rfl (clock_ite hmoved ?_)
  exact (clock_of_beat (beat_of_calm (Chip.record_calm _ _ _))).trans ((clock_of_beat (beat_of_calm (Chip.flag_calm _ _ _ _))).trans hskipped)

theorem Chip.stepServo_clock (s : Int) : (c.stepServo s).clock = c.clock := by
  unfold Chip.stepServo
  split
  · exact clock_of_steady (c.setSvMode_steady _ _)
  · rfl
  all_goals exact clock_ite rfl ((Chip.report_clock _ _ _).trans rfl)

theorem Chip.tapBoundary_clock (t : Nat) : (c.tapBoundary t).clock = c.clock := by
  unfold Chip.tapBoundary
  extract_lets moved x
  have hmoved : moved.clock = c.clock := c.modTap_clock t _
  refine clock_ite hmoved (clock_ite ?_ ((moved.modTap_clock t _).trans hmoved))
  exact (Chip.report_clock _ _ _).trans ((moved.modTap_clock t _).trans hmoved)

theorem Chip.chainFault_clock (t : Nat) : (c.chainFault t).clock = c.clock := by
  unfold Chip.chainFault
  exact clock_ite ((Chip.report_clock _ _ _).trans (c.modTap_clock t _)) rfl

theorem Chip.boundarySamples_clock : c.boundarySamples.clock = c.clock := by
  unfold Chip.boundarySamples
  extract_lets ports queued
  have hports : ports.clock = c.clock := by
    refine clock_foldl _ _ c ?_
    exact fun x p => (Chip.sample_clock _ _ _ _).trans ((Chip.sample_clock _ _ _ _).trans
      ((Chip.sample_clock _ _ _ _).trans (x.sample_clock _ _ _)))
  have hqueued : queued.clock = c.clock := (ports.sample_clock _ _ _).trans hports
  exact clock_ite hqueued ((queued.sample_clock _ _ _).trans hqueued)

end Boundary

/-! ### The clock at a boundary -/

/-- The armed step on the anchor, or nothing where the anchor would leave its range (R68, R75). -/
def TkState.stepped (t : TkState) : TkState :=
  match t.step with
  | none => t
  | some s =>
    if (t.tAnchor : Int) + s * 2 ^ 24 < 0 ∨ (2 ^ 120 : Nat) ≤ (t.tAnchor : Int) + s * 2 ^ 24 then { t with step := none }
    else { t with
      step := none, tAnchor := ((t.tAnchor : Int) + s * 2 ^ 24).toNat, valid := true, stepCnt := (t.stepCnt + 1) % 2 ^ 32 }

/-- A step that keeps the anchor in its range. -/
theorem TkState.stepped_within {t : TkState} {s : Int} (hstep : t.step = some s) (hlow : 0 ≤ (t.tAnchor : Int) + s * 2 ^ 24)
    (hhigh : (t.tAnchor : Int) + s * 2 ^ 24 < 2 ^ 120) : t.stepped = { t with
      step := none, tAnchor := ((t.tAnchor : Int) + s * 2 ^ 24).toNat, valid := true, stepCnt := (t.stepCnt + 1) % 2 ^ 32 } := by
  have hin : ¬((t.tAnchor : Int) + s * 2 ^ 24 < 0 ∨ (2 ^ 120 : Nat) ≤ (t.tAnchor : Int) + s * 2 ^ 24) := by
    rw [not_or]
    exact ⟨Int.not_lt.2 hlow, Int.not_le.2 (by exact_mod_cast hhigh)⟩
  unfold TkState.stepped
  simp only [hstep]
  exact if_neg hin

theorem Chip.stepApply_clock (c : Chip) : c.stepApply.clock = c.clock.stepped := by
  unfold Chip.stepApply TkState.stepped
  split
  · next h =>
      rw [show c.clock.step = none from h]
  · next s h =>
      rw [show c.clock.step = some s from h]
      extract_lets before tk disarmed a tk' stepped told moved
      have hout : ∀ p : Prop, ∀ [Decidable p], ∀ {x y : Chip} {v w : TkState}, x.clock = v → y.clock = w →
          (if p then x else y).clock = if p then v else w := by
        intro p _ x y v w hx hy
        split
        · exact hx
        · exact hy
      have hstepped : stepped.clock = { c.clock with
        step := none, tAnchor := ((c.clock.tAnchor : Int) + s * 2 ^ 24).toNat, valid := true
        stepCnt := (c.clock.stepCnt + 1) % 2 ^ 32 } := rfl
      have htold : told.clock = stepped.clock := stepped.report_clock _ _
      have hmoved : moved.clock = stepped.clock := by
        refine clock_ite htold ((Chip.stepLines_clock _ _).trans ((clock_foldl _ _ told ?_).trans htold))
        exact fun x o => x.poStep_clock o s
      exact hout _ ((Chip.report_clock _ _ _).trans rfl) ((moved.stepServo_clock s).trans (hmoved.trans hstepped))

theorem TkState.clock_rateTake (t : TkState) : t.rateTake.clock = t.clock.rateTake := by
  unfold TkState.rateTake
  rw [show t.clock.rateStage = t.rateStage from rfl]
  split <;> rfl

/-- The clock once a boundary has been done: re-anchored, stepped, and with the staged RATE (R64, R65, R69). -/
theorem Chip.boundaryDo_clock (c : Chip) (faults : List Nat) :
    (c.boundaryDo faults).clock = (c.clock.anchor.stepped).rateTake := by
  unfold Chip.boundaryDo
  extract_lets anchored stepped taken
  have hstepped : stepped.clock = c.clock.anchor.stepped := anchored.stepApply_clock
  have htaken : taken.clock = (c.clock.anchor.stepped).rateTake := (stepped.tk.clock_rateTake).trans (congrArg TkState.rateTake hstepped)
  refine clock_ite htaken ((Chip.boundarySamples_clock _).trans ?_)
  refine (clock_of_steady (Chip.dieCensus_steady _)).trans ?_
  refine (clock_foldl _ _ _ fun x t => x.tapBoundary_clock t).trans ?_
  exact (clock_foldl _ _ taken fun x t => x.chainFault_clock t).trans htaken

/-! ### The command -/

theorem Chip.settle_clock (c : Chip) : c.settle.clock = c.clock :=
  congrArg (fun x : Steady => x.tk.clock) c.settle_rest

/-- Time passes to the next boundary, which is then done, and the rest settles (R64). -/
theorem exec_anchorBoundary_clock {s : State} (l : List Tap) (hrun : s.chip.tk.tclk = true) :
    ∃ t, exec (.anchorBoundary l) s = .next t ∧ t.pending = s.pending
      ∧ t.chip.clock = ((s.chip.clock.later s.chip.toBoundary).anchor.stepped).rateTake := by
  refine ⟨_, rfl, rfl, ?_⟩
  have hticks : s.chip.newCycle.toBoundary = 1023 - s.chip.tk.frc % 1024 + 1 := by
    show 1024 - s.chip.tk.frc % 1024 = _
    omega
  have hdone : ∀ f, (s.chip.newCycle.boundary f).clock = ((s.chip.clock.later s.chip.toBoundary).anchor.stepped).rateTake := by
    intro f
    have hgo : s.chip.newCycle.boundary f = (s.chip.newCycle.elapse s.chip.newCycle.toBoundary).boundaryDo f := if_pos hrun
    rw [hgo, Chip.boundaryDo_clock, hticks, Chip.elapse_clock, ← hticks]
    rfl
  exact clock_ite (hdone _) ((Chip.settle_clock _).trans (hdone _))

/-- The clock, field by field. -/
theorem tk_of_clock {c : Chip} {t : TkState} (h : c.clock = t) :
    c.tk.frc = t.frc ∧ c.tk.tAnchor = t.tAnchor ∧ c.tk.frcAnchor = t.frcAnchor ∧ c.tk.rate = t.rate ∧ c.tk.rateStage = t.rateStage
      ∧ c.tk.step = t.step ∧ c.tk.valid = t.valid ∧ c.tk.stepCnt = t.stepCnt :=
  h ▸ ⟨rfl, rfl, rfl, rfl, rfl, rfl, rfl, rfl⟩

/-- The staged RATE, or the old one where none is staged (R65). -/
theorem TkState.rateTake_fields (t : TkState) :
    t.rateTake.rate = t.rateStage.getD t.rate ∧ t.rateTake.rateStage = none
      ∧ (t.rateTake.frc = t.frc ∧ t.rateTake.tAnchor = t.tAnchor ∧ t.rateTake.frcAnchor = t.frcAnchor ∧ t.rateTake.step = t.step
        ∧ t.rateTake.valid = t.valid ∧ t.rateTake.stepCnt = t.stepCnt) := by
  unfold TkState.rateTake
  split
  · next h => exact ⟨by rw [h]; rfl, h, rfl, rfl, rfl, rfl, rfl, rfl⟩
  · next r h => exact ⟨by rw [h]; rfl, rfl, rfl, rfl, rfl, rfl, rfl, rfl⟩

/-- The next boundary, and the exact time of its tick under the RATE in force. -/
theorem TkState.boundary_exact {t : TkState} (hroom : t.frc < 2 ^ 64 - 1024) (hanchor : t.frcAnchor ≤ t.frc) :
    (t.later (1024 - t.frc % 1024)).frc = (t.frc / 1024 + 1) * 1024
      ∧ (t.later (1024 - t.frc % 1024)).exact = t.tAnchor + t.rate * ((t.frc / 1024 + 1) * 1024 - t.frcAnchor) := by
  have hfrc : (t.frc + (1024 - t.frc % 1024)) % 2 ^ 64 = (t.frc / 1024 + 1) * 1024 := by omega
  refine ⟨hfrc, ?_⟩
  have hticks : ((t.frc / 1024 + 1) * 1024 + 2 ^ 64 - t.frcAnchor) % 2 ^ 64 = (t.frc / 1024 + 1) * 1024 - t.frcAnchor := by omega
  show t.tAnchor + t.rate * (((t.frc + (1024 - t.frc % 1024)) % 2 ^ 64 + 2 ^ 64 - t.frcAnchor) % 2 ^ 64) = _
  rw [hfrc, hticks]

/-- Settles O10: the clock at a boundary is that of its tick re-anchored, then stepped, then with the staged RATE. -/
theorem anchorBoundary : Obligations.AnchorBoundary := by
  unfold Obligations.AnchorBoundary
  refine ⟨?_, ?_⟩
  · intro s l hrun hroom hanchor hstep
    obtain ⟨t, hexec, hpending, hclock⟩ := exec_anchorBoundary_clock l hrun
    obtain ⟨hfrc, hexact⟩ := TkState.boundary_exact (t := s.chip.clock) hroom hanchor
    have hstepped : (s.chip.clock.later s.chip.toBoundary).anchor.stepped = (s.chip.clock.later s.chip.toBoundary).anchor := by
      unfold TkState.stepped
      rw [show (s.chip.clock.later s.chip.toBoundary).anchor.step = none from hstep]
    rw [hstepped] at hclock
    obtain ⟨hrate, hstage, hf, ht, ha, hs, hv, hn⟩ := (s.chip.clock.later s.chip.toBoundary).anchor.rateTake_fields
    obtain ⟨hf', ht', ha', hr', hg', hs', hv', hn'⟩ := tk_of_clock hclock
    have hnow : t.chip.tk.frc = (s.chip.tk.frc / 1024 + 1) * 1024 := hf'.trans (hf.trans hfrc)
    refine ⟨t, hexec, hpending, hnow, ?_, ?_, hr'.trans hrate, hg'.trans hstage, hs'.trans (hs.trans hstep), hv'.trans hv, hn'.trans hn⟩
    · exact (ha'.trans ha).trans (hf'.trans hf).symm
    · rw [hnow]
      exact ht'.trans (ht.trans hexact)
  · intro s l x hrun hroom hanchor hstep hlow hhigh
    obtain ⟨t, hexec, hpending, hclock⟩ := exec_anchorBoundary_clock l hrun
    obtain ⟨hfrc, hexact⟩ := TkState.boundary_exact (t := s.chip.clock) hroom hanchor
    generalize hat : (s.chip.clock.later s.chip.toBoundary).anchor = b at hclock
    have hanchored : b.tAnchor = s.chip.tk.tAnchor + s.chip.tk.rate * ((s.chip.tk.frc / 1024 + 1) * 1024 - s.chip.tk.frcAnchor) :=
      hat ▸ hexact
    have hsame : b.frcAnchor = b.frc := hat ▸ rfl
    have hnow : b.frc = (s.chip.tk.frc / 1024 + 1) * 1024 := hat ▸ hfrc
    have hstage : b.rateStage = s.chip.tk.rateStage ∧ b.rate = s.chip.tk.rate := hat ▸ ⟨rfl, rfl⟩
    have hcount : b.stepCnt = s.chip.tk.stepCnt := hat ▸ rfl
    have hstepped := TkState.stepped_within (t := b) (s := x) (hat ▸ hstep) (by rw [hanchored]; exact hlow) (by rw [hanchored]; exact hhigh)
    obtain ⟨hrate, -, hf, ht, ha, hs, hv, hn⟩ := b.stepped.rateTake_fields
    rw [hstepped] at hclock hrate hf ht ha hs hv hn
    obtain ⟨hf', ht', ha', hr', -, hs', hv', hn'⟩ := tk_of_clock hclock
    have hfrc' : t.chip.tk.frc = (s.chip.tk.frc / 1024 + 1) * 1024 := hf'.trans (hf.trans hnow)
    refine ⟨t, hexec, hpending, ?_, ?_, ?_, hs'.trans hs, hv'.trans hv, ?_⟩
    · exact (ha'.trans (ha.trans hsame)).trans (hf'.trans hf).symm
    · rw [hfrc', ht', ht, ← hanchored]
      exact Int.toNat_of_nonneg (by rw [hanchored]; exact hlow)
    · rw [hr', hrate]
      exact congrArg₂ Option.getD hstage.1 hstage.2
    · rw [hn', hn]
      exact congrArg (fun n => (n + 1) % 2 ^ 32) hcount

end Sys2Proof.Machine
end

section
/-!
O22: main reset, its release, the supplies, the temperature, LANEGO and the errors of memory writes (R358 to R365, R369, R374).
-/

namespace Sys2Proof.Machine

/-! ### Lanes that main reset takes down -/

/-- The view without the ports and the children. -/
def Chip.hull (c : Chip) : Steady := { c.steady with ports := fun _ => PortState.reset, kids := [] }

theorem hull_of_steady {a b : Chip} (h : a.steady = b.steady) : a.hull = b.hull :=
  congrArg (fun x : Steady => ({ x with ports := fun _ => PortState.reset, kids := [] } : Steady)) h

section Lanes

variable (c : Chip) (p : Nat)

theorem Chip.modPort_hull (f : PortState → PortState) : (c.modPort p f).hull = c.hull := rfl

theorem Chip.flushTo_hull (m : PortMode) : (c.flushTo p m).hull = c.hull := by
  unfold Chip.flushTo
  extract_lets l kept
  have hkept : kept.hull = c.hull := hull_of_steady (c.keepReleases_steady p _)
  exact (hull_of_steady (Chip.bump_steady _ (by decide) _ _)).trans ((kept.modPort_hull p _).trans hkept)

theorem Chip.treePortDown_hull : (c.treePortDown p).hull = c.hull := by
  have hsteady := c.treePortDown_kids p
  generalize c.treePortDown p = d at hsteady ⊢
  exact (congrArg (fun x : Steady => ({ x with ports := fun _ => PortState.reset, kids := [] } : Steady)) hsteady :)

/-- A lane that goes down leaves time, the supplies, the controller and the limits (R107). -/
theorem Chip.laneDown_hull (rsn : Nat) : (c.laneDown p rsn).hull = c.hull := by
  unfold Chip.laneDown
  extract_lets k n flushed told
  have hflushed : flushed.hull = c.hull := (Chip.modPort_hull _ p _).trans (c.flushTo_hull p _)
  have htold : told.hull = c.hull := (hull_of_steady (flushed.report_steady _ _)).trans hflushed
  split
  · rfl
  · exact (Chip.treePortDown_hull _ p).trans ((hull_of_steady (told.lossOf_steady p 1 k)).trans htold)

theorem Chip.lanesDown_hull (rsn : Nat) (l : List Nat) : (l.foldl (fun c p => c.laneDown p rsn) c).hull = c.hull :=
  foldl_keeps Chip.hull _ l c fun x p => x.laneDown_hull p rsn

end Lanes

/-! ### Registers that main reset keeps -/

theorem find_filter_of_kept {α : Type} (m : SMap α) (keep : Nat → Bool) {k : Nat} (h : keep k = true) (d : α) :
    SMap.find (m.filter fun e => keep e.1) k d = SMap.find m k d := by
  induction m with
  | nil => rfl
  | cons e m ih =>
    obtain ⟨k', v⟩ := e
    by_cases heq : k = k'
    · subst heq
      simp [h, SMap.find]
    · cases hk : keep k' <;> simp [hk, SMap.find, heq, ih]

theorem find_filter_of_dropped {α : Type} (m : SMap α) (keep : Nat → Bool) {k : Nat} (h : keep k = false) (d : α) :
    SMap.find (m.filter fun e => keep e.1) k d = d := by
  induction m with
  | nil => rfl
  | cons e m ih =>
    obtain ⟨k', v⟩ := e
    by_cases heq : k = k'
    · subst heq
      simpa [h] using ih
    · cases hk : keep k' <;> simp [hk, SMap.find, heq, ih]

theorem Chip.mainCleared_reg_kept (c : Chip) (r : RegRow) {i j b : Nat} (h : aonKey (r.key i j b) = true) :
    c.mainCleared.reg r i j b = c.reg r i j b :=
  find_filter_of_kept c.regs aonKey h _

theorem Chip.mainCleared_reg_lost (c : Chip) (r : RegRow) {i j b : Nat} (h : aonKey (r.key i j b) = false) :
    c.mainCleared.reg r i j b = r.resetAt c.id.hub i :=
  find_filter_of_dropped c.regs aonKey h _

/-! ### What the servo leaves at reset -/

/-- The units that main reset clears and the servo does not touch. -/
structure Cleared where
  sg : SgState
  gt : GtState
  hg : HgState
  cp : CpState
  ts : TsState
  regionCfg : Word

def Chip.cleared (c : Chip) : Cleared :=
  { sg := c.sg, gt := c.gt, hg := c.hg, cp := c.cp, ts := c.ts, regionCfg := c.reg Reg.RT_CFG }

theorem cleared_ite {q : Prop} [Decidable q] {x y : Chip} {w : Cleared} (hx : x.cleared = w) (hy : y.cleared = w) :
    (if q then x else y).cleared = w := by
  split
  · exact hx
  · exact hy

section Servo

variable (c : Chip)

theorem Chip.report_cleared (e : Ev) (r : Rep) : (c.report e r).cleared = c.cleared := by
  have hreg : (c.report e r).reg Reg.RT_CFG = c.reg Reg.RT_CFG :=
    c.report_reg (i := 0) (apart_of_offset (by decide) (by decide)) r 0 0
  unfold Chip.cleared
  rw [hreg, Chip.report_sg, Chip.report_gt, Chip.report_hg, Chip.report_cp, Chip.report_ts]

theorem Chip.servoSweep_cleared : c.servoSweep.cleared = c.cleared := (congrArg Chip.cleared c.servoSweep_apartGroups :)

theorem Chip.flockEnd_cleared : c.flockEnd.cleared = c.cleared := rfl

theorem Chip.lockedIn_cleared : c.lockedIn.cleared = c.cleared := rfl

theorem Chip.requalify_cleared : c.requalify.cleared = c.cleared := rfl

theorem Chip.dcoHold_cleared : c.dcoHold.cleared = c.cleared := by
  unfold Chip.dcoHold
  exact cleared_ite rfl rfl

theorem Chip.pllFollow_cleared : c.pllFollow.cleared = c.cleared := by
  unfold Chip.pllFollow
  extract_lets n lost f pbo drawn held sv taken
  have hdrawn : drawn.cleared = c.cleared := cleared_ite rfl rfl
  have hheld : held.cleared = c.cleared := (cleared_ite (drawn.dcoHold.flockEnd_cleared.trans drawn.dcoHold_cleared) rfl).trans hdrawn
  have htaken : taken.cleared = held.cleared := rfl
  exact cleared_ite rfl (cleared_ite ((Chip.report_cleared _ _ _).trans (htaken.trans hheld)) (htaken.trans hheld))

theorem Chip.setSvMode_cleared (m : SvMode) (reason : Nat) : (c.setSvMode m reason).cleared = c.cleared := by
  unfold Chip.setSvMode
  extract_lets swept start sv entered told locked requal
  have hentered : entered.cleared = c.cleared := c.servoSweep_cleared
  have htold : told.cleared = c.cleared := (Chip.report_cleared _ _ _).trans hentered
  have hlocked : locked.cleared = c.cleared := (cleared_ite told.lockedIn_cleared rfl).trans htold
  have hrequal : requal.cleared = c.cleared := (cleared_ite locked.requalify_cleared rfl).trans hlocked
  exact cleared_ite rfl (requal.servoSweep_cleared.trans hrequal)

theorem Chip.svAutoSwitch_cleared : c.svAutoSwitch.cleared = c.cleared := by
  unfold Chip.svAutoSwitch Chip.svSwitchTo
  exact cleared_ite (cleared_ite rfl ((Chip.report_cleared _ _ _).trans (Chip.pllFollow_cleared _))) rfl

theorem Chip.svNoteGood_cleared : c.svNoteGood.cleared = c.cleared := by
  unfold Chip.svNoteGood
  exact cleared_ite rfl (cleared_ite rfl rfl)

theorem Chip.loseLock_cleared : c.loseLock.cleared = c.cleared := by
  unfold Chip.loseLock
  exact cleared_ite (Chip.setSvMode_cleared _ _ _) (Chip.setSvMode_cleared _ _ _)

theorem Chip.svMove_cleared : c.svMove.cleared = c.cleared := by
  unfold Chip.svMove
  split
  · rfl
  · exact cleared_ite (c.setSvMode_cleared _ _) rfl
  · exact cleared_ite (c.setSvMode_cleared _ _) (cleared_ite c.loseLock_cleared rfl)
  · exact cleared_ite (c.setSvMode_cleared _ _) (cleared_ite (c.setSvMode_cleared _ _) rfl)
  · exact cleared_ite (c.setSvMode_cleared _ _) rfl

/-- The servo, as it follows main reset, leaves the units that main reset clears (R137). -/
theorem Chip.servoEval_cleared : c.servoEval.cleared = c.cleared := by
  have hnoted : c.svAutoSwitch.pllFollow.svNoteGood.cleared = c.cleared :=
    (Chip.svNoteGood_cleared _).trans ((Chip.pllFollow_cleared _).trans c.svAutoSwitch_cleared)
  unfold Chip.servoEval
  exact cleared_ite ((Chip.svMove_cleared _).trans hnoted) ((Chip.setSvMode_cleared _ _ _).trans hnoted)

end Servo

/-! ### Main reset -/

/-- What main reset leaves and clears, asserted for a cause out of main reset (R364). -/
structure ResetFor (c t : Chip) (cause : Nat) : Prop where
  inReset : t.inReset = true
  pw : t.pw = { c.pw with rstCause := cause, lanesReleased := false, chainDone := false }
  tk : { t.tk with untraceable := false } = { c.tk with untraceable := false }
  store : t.sq.store = c.sq.store
  nor : t.fw.nor = c.fw.nor
  running : t.fw.running = false
  po : t.po = .reset
  stepLimit : t.reg Reg.GD_STEPLIM = c.reg Reg.GD_STEPLIM
  cleared : t.cleared = {
    sg := .reset, gt := .reset, hg := .reset, cp := .reset, ts := .reset, regionCfg := Reg.RT_CFG.resetAt c.id.hub 0 }

theorem ResetFor.frc {c t : Chip} {cause : Nat} (h : ResetFor c t cause) : t.tk.frc = c.tk.frc := (congrArg TkState.frc h.tk :)

theorem ResetFor.tclk {c t : Chip} {cause : Nat} (h : ResetFor c t cause) : t.tk.tclk = c.tk.tclk := (congrArg TkState.tclk h.tk :)

theorem ResetFor.valid {c t : Chip} {cause : Nat} (h : ResetFor c t cause) : t.tk.valid = c.tk.valid := (congrArg TkState.valid h.tk :)

theorem Chip.mainReset_resets {c : Chip} (hrun : c.inReset = false) (cause : Nat) : ResetFor c (c.mainReset cause) cause := by
  have hout : ¬ c.inReset = true := Bool.eq_false_iff.1 hrun
  unfold Chip.mainReset
  rw [if_neg hout]
  extract_lets downed pw caused
  have hhull : downed.hull = c.hull := c.lanesDown_hull 7 _
  have hcaused : caused.hull = { c.hull with pw := { c.pw with rstCause := cause } } :=
    (congrArg (fun x : Steady => ({ x with pw := { x.pw with rstCause := cause } } : Steady)) hhull :)
  clear_value caused
  have hid : caused.id = c.id := (congrArg Steady.id hcaused :)
  have hfresh := caused.mainCleared.servoEval_cleared
  have hsteady := caused.mainCleared.servoEval_steady
  have hlimit := caused.mainCleared_reg_kept Reg.GD_STEPLIM (i := 0) (j := 0) (b := 0) (by decide)
  have hregion := caused.mainCleared_reg_lost Reg.RT_CFG (i := 0) (j := 0) (b := 0) (by decide)
  generalize caused.mainCleared.servoEval = t at hfresh hsteady ⊢
  exact {
    inReset := (congrArg Steady.inReset hsteady :)
    pw := (congrArg Steady.pw hsteady).trans
      (congrArg (fun x : Steady => ({ x.pw with lanesReleased := false, chainDone := false } : PwState)) hcaused :)
    tk := (congrArg Steady.tk hsteady).trans (congrArg Steady.tk hcaused :)
    store := (congrArg Steady.store hsteady).trans (congrArg Steady.store hcaused :)
    nor := (congrArg (fun x : Steady => x.fw.nor) hsteady).trans (congrArg (fun x : Steady => x.fw.nor) hcaused :)
    running := (congrArg (fun x : Steady => x.fw.running) hsteady :)
    po := (congrArg Steady.po hsteady :)
    stepLimit := (congrArg Steady.stepLimit hsteady).trans (hlimit.trans (congrArg Steady.stepLimit hcaused :))
    cleared := by
      rw [hfresh, Chip.cleared, hregion, hid]
      rfl }

section Power

variable {s : State}

theorem exec_mainReset (hrun : s.chip.inReset = false) :
    ∃ d, ResetFor s.chip.newCycle d 2
      ∧ exec (.mainReset) s = .next { s with chip := { d with pw := { d.pw with rstLow := true } } } :=
  ⟨s.chip.newCycle.mainReset 2, Chip.mainReset_resets (c := s.chip.newCycle) hrun 2, rfl⟩

/-! ### The release of main reset -/

/-- What the records of a release leave (R338, R360, R361). -/
structure Released where
  id : Ident
  inReset : Bool
  rstLow : Bool
  rt : RtState
  fw : FwState
  tk : TkState

def Chip.released (c : Chip) : Released :=
  { id := c.id, inReset := c.inReset, rstLow := c.pw.rstLow, rt := c.rt, fw := c.fw, tk := { c.tk with lostUncounted := false } }

theorem released_of_calm {a b : Chip} (h : a.calm = b.calm) : a.released = b.released := (congrArg Chip.released h :)

theorem released_ite {q : Prop} [Decidable q] {x y : Chip} {w : Released} (hx : x.released = w) (hy : y.released = w) :
    (if q then x else y).released = w := by
  split
  · exact hx
  · exact hy

theorem Chip.report_released (c : Chip) {pw : PwState} (h : pw.rstLow = c.pw.rstLow) (e : Ev) (r : Rep) :
    (({ c with pw := pw }).report e r).released = c.released ∧ (({ c with pw := pw }).report e r).tk = c.tk := by
  refine ⟨(released_of_calm (Chip.report_calm _ _ _)).trans ?_, Chip.report_tk _ _ _⟩
  simp only [Chip.released, h]

/-- The records of a release leave taps and controller, and a loss of TCLK is then no longer uncounted (R75, R338). -/
theorem Chip.releaseRecords_leaves (c : Chip) :
    c.releaseRecords.released = c.released ∧ c.releaseRecords.tk = { c.tk with lostUncounted := false } := by
  unfold Chip.releaseRecords
  extract_lets z powered tk counted pw supplied pw'
  have hpowered : powered.released = c.released ∧ powered.tk = c.tk := by
    simp only [powered]
    split
    · exact ⟨(released_of_calm (Chip.report_calm _ _ _)).trans rfl, Chip.report_tk _ _ _⟩
    · exact ⟨rfl, rfl⟩
  clear_value powered
  have hcounted : counted.released = c.released ∧ counted.tk = { c.tk with lostUncounted := false } := by
    simp only [counted]
    split
    · refine ⟨((released_of_calm (Chip.count_calm _ _ _ _)).trans rfl).trans hpowered.1, ?_⟩
      exact (Chip.count_tk _ _ _ _).trans (congrArg (fun x : TkState => ({ x with lostUncounted := false } : TkState)) hpowered.2)
    · next h =>
        refine ⟨hpowered.1, ?_⟩
        rw [← hpowered.2]
        exact congrArg (fun b => ({ powered.tk with lostUncounted := b } : TkState)) (Bool.eq_false_iff.2 h)
  clear_value counted
  have hsupplied : supplied.released = c.released ∧ supplied.tk = { c.tk with lostUncounted := false } := by
    simp only [supplied]
    split
    · obtain ⟨hreleased, htk⟩ := counted.report_released (pw := { counted.pw with lysDue := false }) rfl Event.PW_LYS_LOSS { late := true }
      exact ⟨hreleased.trans hcounted.1, htk.trans hcounted.2⟩
    · exact hcounted
  clear_value supplied
  split
  · obtain ⟨hreleased, htk⟩ := supplied.report_released (pw := { supplied.pw with orderDue := 0 }) rfl Event.PW_ORDER
      { p1 := some supplied.pw.orderDue, late := true }
    exact ⟨hreleased.trans hsupplied.1, htk.trans hsupplied.2⟩
  · exact hsupplied

theorem exec_mainResetRelease (hrst : s.chip.inReset = true) (hheld : s.chip.resetHeld = false) :
    exec (.mainResetRelease) s = .next { s with chip := ((({ s.chip.newCycle with
      pw := { s.chip.pw with rstLow := false }, inReset := false }).releaseRecords).chainCal).coldBoot } := by
  have hgo : ¬ ((({ s.chip.newCycle with pw := { s.chip.pw with rstLow := false } } : Chip).resetHeld ||
      !(s.chip.inReset || s.chip.powerOnDue)) = true) := by
    have hheld' : ({ s.chip.newCycle with pw := { s.chip.pw with rstLow := false } } : Chip).resetHeld = false := hheld
    rw [hheld', hrst]
    exact Bool.false_ne_true
  exact congrArg (fun c : Chip => Host.Outcome.next { s with chip := c }) (if_neg hgo)

theorem exec_mainResetRelease_held (hheld : s.chip.resetHeld = true) :
    exec (.mainResetRelease) s = .next { s with chip := { s.chip.newCycle with pw := { s.chip.pw with rstLow := false } } } := by
  have hgo : (({ s.chip.newCycle with pw := { s.chip.pw with rstLow := false } } : Chip).resetHeld ||
      !(s.chip.inReset || s.chip.powerOnDue)) = true := by
    have hheld' : ({ s.chip.newCycle with pw := { s.chip.pw with rstLow := false } } : Chip).resetHeld = true := hheld
    rw [hheld']
    rfl
  exact congrArg (fun c : Chip => Host.Outcome.next { s with chip := c }) (if_pos hgo)

/-- A release starts chain calibration at a die, and the boot of the controller (R365, R374). -/
theorem Chip.coldBoot_chainCal (c : Chip) :
    (c.chainCal.coldBoot).inReset = c.inReset ∧ (c.chainCal.coldBoot).pw = c.pw ∧ (c.chainCal.coldBoot).tk = c.tk
      ∧ (c.chainCal.coldBoot).rt.calBusy = (c.rt.calBusy || !c.id.hub)
      ∧ (c.chainCal.coldBoot).fw.phase = (if c.fw.held || c.fw.hostHeld then .off else .want) := by
  have hcal : c.chainCal = { c with rt := c.chainCal.rt } ∧ c.chainCal.rt.calBusy = (c.rt.calBusy || !c.id.hub) := by
    unfold Chip.chainCal
    cases c.id.hub
    · exact ⟨rfl, (Bool.or_true _).symm⟩
    · exact ⟨rfl, (Bool.or_false _).symm⟩
  obtain ⟨hsame, hbusy⟩ := hcal
  generalize c.chainCal.rt = rt at hsame hbusy
  rw [hsame]
  exact ⟨rfl, rfl, rfl, hbusy, rfl⟩

/-! ### Supplies -/

/-- A supply-order violation goes to the log and to the next release (R360). -/
structure Supplied (c t : Chip) : Prop where
  inReset : t.inReset = c.inReset
  tk : t.tk = c.tk
  gr : t.gr = c.gr
  sq : t.sq = c.sq
  id : t.id = c.id
  ev : t.ev = c.ev
  pw : { t.pw with orderDue := 0 } = { c.pw with orderDue := 0 }

theorem Supplied.refl (c : Chip) : Supplied c c := ⟨rfl, rfl, rfl, rfl, rfl, rfl, rfl⟩

theorem Supplied.ite {c x y : Chip} {q : Prop} [Decidable q] (hx : Supplied c x) (hy : Supplied c y) :
    Supplied c (if q then x else y) := by
  split
  · exact hx
  · exact hy

theorem Chip.orderLog_supplied (c : Chip) (w : Word) : Supplied c (c.orderLog w) := ⟨rfl, rfl, rfl, rfl, rfl, rfl, rfl⟩

/-- The levels of the outputs count their pins' edges, and nothing else (R353). -/
theorem Chip.poAllEdges_view (c before : Chip) {α : Type} (v : Chip → α) (hv : ∀ x : Chip, ∀ mn, v { x with mn := mn } = v x) :
    v (c.poAllEdges before) = v c := by
  refine foldl_keeps v _ _ c fun x o => ?_
  rw [Chip.poEdges_eq]
  exact hv x _

theorem Chip.poAllEdges_pw (c before : Chip) : (c.poAllEdges before).pw = c.pw := c.poAllEdges_view before Chip.pw fun _ _ => rfl

theorem Chip.poAllEdges_supplied (c before : Chip) : Supplied c (c.poAllEdges before) where
  inReset := c.poAllEdges_view before Chip.inReset fun _ _ => rfl
  tk := c.poAllEdges_view before Chip.tk fun _ _ => rfl
  gr := c.poAllEdges_view before Chip.gr fun _ _ => rfl
  sq := c.poAllEdges_view before Chip.sq fun _ _ => rfl
  id := c.poAllEdges_view before Chip.id fun _ _ => rfl
  ev := c.poAllEdges_view before Chip.ev fun _ _ => rfl
  pw := congrArg (fun x : PwState => ({ x with orderDue := 0 } : PwState)) (c.poAllEdges_pw before)

theorem Supplied.trans {a b c : Chip} (h : Supplied a b) (h' : Supplied b c) : Supplied a c :=
  ⟨h'.inReset.trans h.inReset, h'.tk.trans h.tk, h'.gr.trans h.gr, h'.sq.trans h.sq, h'.id.trans h.id,
    h'.ev.trans h.ev, h'.pw.trans h.pw⟩

/-- The log of a rail that rises, out of its order or too slowly (R360). -/
def Chip.riseLog (c : Chip) (slow early : Bool) (bit : Nat) : Chip :=
  if c.pw.aon && Word.flag early bit ||| Word.flag slow 6 != 0 then c.orderLog (Word.flag early bit ||| Word.flag slow 6) else c

/-- The log of a rail that falls out of its order (R360). -/
def Chip.fallLog (c : Chip) (early : Bool) (bit : Nat) : Chip :=
  if c.pw.aon && early then c.orderLog (Word.flag true bit) else c

theorem Chip.riseLog_supplied (c : Chip) (slow early : Bool) (bit : Nat) : Supplied c (c.riseLog slow early bit) :=
  .ite (c.orderLog_supplied _) (.refl c)

theorem Chip.fallLog_supplied (c : Chip) (early : Bool) (bit : Nat) : Supplied c (c.fallLog early bit) :=
  .ite (c.orderLog_supplied _) (.refl c)

theorem exec_railGood_vddLys (slow : Bool) (hlys : s.chip.pw.lys = false) :
    exec (.railGood .vddLys slow) s = .next { s with
      chip := ({ s.chip.newCycle with pw := { s.chip.pw with lys := true } } : Chip).riseLog slow (!s.chip.pw.tclk) 1 } := by
  refine congrArg (fun c : Chip => Host.Outcome.next { s with chip := c }) ?_
  exact if_neg (Bool.eq_false_iff.1 hlys)

theorem exec_railGood_vddioT (slow : Bool) (hio : s.chip.pw.io = false) :
    exec (.railGood .vddioT slow) s = .next { s with
      chip := (({ s.chip.newCycle with pw := { s.chip.pw with io := true } } : Chip).riseLog slow (!s.chip.pw.lys) 2).poAllEdges
        s.chip.newCycle } := by
  refine congrArg (fun c : Chip => Host.Outcome.next { s with chip := c }) ?_
  exact if_neg (Bool.eq_false_iff.1 hio)

theorem exec_railGood_vddAon (slow : Bool) (haon : s.chip.pw.aon = false) :
    exec (.railGood .vddAon slow) s = .next { s with chip := s.chip.newCycle.aonPowerOn.riseLog slow false 0 } := by
  refine congrArg (fun c : Chip => Host.Outcome.next { s with chip := c }) ?_
  exact if_neg (Bool.eq_false_iff.1 haon)

/-- The part at AON power-on (R74, R364). -/
theorem Chip.aonPowerOn_leaves (c : Chip) :
    c.aonPowerOn.inReset = true ∧ c.aonPowerOn.pw.aon = true ∧ c.aonPowerOn.tk = { TkState.reset with tclk := c.pw.tclk }
      ∧ c.aonPowerOn.gr = .reset ∧ c.aonPowerOn.sq.store = c.sq.store ∧ c.aonPowerOn.id.hub = c.id.strapHub
      ∧ c.aonPowerOn.ev = .reset := by
  unfold Chip.aonPowerOn
  extract_lets late fresh
  split
  · exact ⟨rfl, rfl, rfl, rfl, rfl, rfl, rfl⟩
  · exact ⟨rfl, rfl, rfl, rfl, rfl, rfl, rfl⟩

/-- TCLK comes back: FRC counts on, and a loss is recorded (R75). -/
theorem Chip.tclkStart_leaves (c : Chip) :
    c.tclkStart.inReset = c.inReset ∧ c.tclkStart.pw = c.pw ∧ c.tclkStart.tk.tclk = true ∧ c.tclkStart.tk.frc = c.tk.frc := by
  unfold Chip.tclkStart
  extract_lets lost tk started
  have hstarted : started.inReset = c.inReset ∧ started.pw = c.pw ∧ started.tk.tclk = true ∧ started.tk.frc = c.tk.frc :=
    ⟨rfl, rfl, rfl, rfl⟩
  clear_value started
  split
  · rw [Chip.report_inReset, Chip.report_pw, Chip.report_tk]
    exact hstarted
  · exact hstarted

theorem exec_railGood_vddaTclk (slow : Bool) (haon : s.chip.pw.aon = true) (htclk : s.chip.pw.tclk = false) :
    exec (.railGood .vddaTclk slow) s = .next { s with
      chip := (({ s.chip.newCycle with pw := { s.chip.pw with tclk := true } } : Chip).riseLog slow false 0).tclkStart } := by
  have hlog := ({ s.chip.newCycle with pw := { s.chip.pw with tclk := true } } : Chip).riseLog_supplied slow false 0
  refine congrArg (fun c : Chip => Host.Outcome.next { s with chip := c }) ((if_neg (Bool.eq_false_iff.1 htclk)).trans (if_pos ?_))
  exact (congrArg PwState.aon hlog.pw).trans haon

theorem not_low_of_high {b : Bool} (h : b = true) : ¬ (!b) = true := by
  rw [h]
  exact Bool.false_ne_true

/-- VDD_LYS falls: main reset is asserted for it, and its record is due (R360). -/
theorem exec_railFail_vddLys (haon : s.chip.pw.aon = true) (hlys : s.chip.pw.lys = true) {c : Chip}
    (hc : ({ s.chip.newCycle with pw := { s.chip.pw with lys := false } } : Chip).fallLog s.chip.pw.io 5 = c) :
    exec (.railFail .vddLys) s = .next { s with
      chip := { c.mainReset 4 with pw := { (c.mainReset 4).pw with lysDue := (c.mainReset 4).pw.lysDue || !c.inReset } } } := by
  have hlog := ({ s.chip.newCycle with pw := { s.chip.pw with lys := false } } : Chip).fallLog_supplied s.chip.pw.io 5
  subst hc
  refine congrArg (fun c : Chip => Host.Outcome.next { s with chip := c }) ?_
  refine (if_neg (not_low_of_high hlys)).trans (if_neg (not_low_of_high ?_))
  exact (congrArg PwState.aon hlog.pw).trans haon

/-- VDDA_TCLK falls: TCLK stops, and main reset is asserted for it (R75, R360). -/
theorem exec_railFail_vddaTclk (haon : s.chip.pw.aon = true) (htclk : s.chip.pw.tclk = true) {c : Chip}
    (hc : ({ s.chip.newCycle with pw := { s.chip.pw with tclk := false } } : Chip).fallLog s.chip.pw.lys 4 = c) :
    exec (.railFail .vddaTclk) s = .next { s with chip := c.tclkStop.mainReset 5 } := by
  have hlog := ({ s.chip.newCycle with pw := { s.chip.pw with tclk := false } } : Chip).fallLog_supplied s.chip.pw.lys 4
  subst hc
  refine congrArg (fun c : Chip => Host.Outcome.next { s with chip := c }) ?_
  refine (if_neg (not_low_of_high htclk)).trans (if_pos ?_)
  exact (congrArg PwState.aon hlog.pw).trans haon

theorem exec_railFail_vddAon (haon : s.chip.pw.aon = true) :
    exec (.railFail .vddAon) s = .next { s with chip := s.chip.newCycle.aonFail } := by
  refine congrArg (fun c : Chip => Host.Outcome.next { s with chip := c }) ?_
  exact if_pos haon

/-- VDDIO_T falls: the pins lose their supply, and no reset comes of it (R361). -/
theorem exec_railFail_vddioT (hio : s.chip.pw.io = true) {c : Chip}
    (hc : ({ s.chip.newCycle with pw := { s.chip.pw with io := false } } : Chip).poAllEdges s.chip.newCycle = c) :
    exec (.railFail .vddioT) s = .next { s with chip := if c.pw.aon then c.report Event.PW_IO_LOSS else c } := by
  subst hc
  refine congrArg (fun c : Chip => Host.Outcome.next { s with chip := c }) ?_
  exact if_neg (not_low_of_high hio)

/-- TCLK stops with time no longer valid; FRC stands (R75). -/
theorem Chip.tclkStop_steady {c : Chip} (htclk : c.tk.tclk = true) :
    c.tclkStop.steady = { c.steady with tk := { c.tk with untraceable := false, tclk := false, valid := false, lostPending := true } } := by
  unfold Chip.tclkStop
  rw [if_pos htclk]
  exact (Chip.setSvMode_steady _ _ _).trans rfl

/-! ### Supply limits and the temperature -/

/-- A flag of a page of the AON domain is set during main reset too (R364). -/
theorem Chip.flag_hist_aon (c : Chip) {p b : Nat} (chan : Option Nat) (haon : aonPage p = true) (hb : b < 32) :
    Word.bit ((c.flag p b chan).reg (histRow p)) b = true := by
  have hset := c.reg_setReg (histRow p) (c.reg (histRow p) ||| Word.flag true b) 0 0 0
  unfold Chip.flag
  simp only [haon, Bool.not_true, Bool.and_false, Bool.false_eq_true, if_false]
  rw [Chip.reg_eq_of_unraised (Chip.unraised_raise _ _ _ _)]
  split
  · next r i hrow =>
      rw [Chip.reg_setReg_ne _ (RegRow.key_ne_of_addr (i := 0) (i' := 0) (chanHist_addr hrow).symm _ _ _ _), hset]
      exact Word.bit_or_flag _ hb
  · rw [hset]
    exact Word.bit_or_flag _ hb

theorem exec_tclkRail (haon : s.chip.pw.aon = true) (htclk : s.chip.pw.tclk = true) :
    exec (.tclkRail) s = .next { s with chip := s.chip.newCycle.report Event.PW_TCLK_RAIL } := by
  refine congrArg (fun c : Chip => Host.Outcome.next { s with chip := c }) ?_
  exact if_pos (Bool.and_eq_true_iff.2 ⟨haon, htclk⟩)

theorem Chip.tclkRail_hist (c : Chip) : Word.bit ((c.report Event.PW_TCLK_RAIL).reg (histRow 0x24)) 3 = true := by
  have hnote := (c.count Event.PW_TCLK_RAIL.num none).flag_hist_aon (p := 0x24) (b := 3) none rfl (by decide)
  have hreport : c.report Event.PW_TCLK_RAIL = (c.note Event.PW_TCLK_RAIL none).record 0x2404 {} := rfl
  rw [hreport, Chip.record_reg _ (by decide)]
  exact hnote

/-- The supplies once the temperature has been sampled (R363). -/
def PwState.sampled (x : PwState) (v : BitVec 16) (lim : Int) : PwState :=
  { x with
    temp := v.setWidth 32, tempHot := decide (lim < v.toInt)
    tempSent := (decide (lim < v.toInt) && !x.tempHot) || (x.tempSent && decide (lim - 40 < v.toInt)) }

/-- A rise above the limit is told, and recorded once (R363). -/
def Chip.tempTold (c : Chip) (rises sent : Bool) : Chip :=
  if !rises then c else if sent then c.note Event.PW_OVERTEMP none else c.report Event.PW_OVERTEMP

theorem Chip.tempTold_leaves (c : Chip) (rises sent : Bool) : (c.tempTold rises sent).pw = c.pw ∧ (c.tempTold rises sent).tk = c.tk := by
  unfold Chip.tempTold
  split
  · exact ⟨rfl, rfl⟩
  · split
    · exact ⟨Chip.note_pw _ _ _, Chip.note_tk _ _ _⟩
    · exact ⟨Chip.report_pw _ _ _, Chip.report_tk _ _ _⟩

theorem exec_tempSample {v : BitVec 16} (haon : s.chip.pw.aon = true) {lim : Int}
    (hlim : signedOf 16 (Word.field (s.chip.reg Reg.PW_TEMPLIM) 0 16) = lim) :
    exec (.tempSample v) s = .next { s with
      chip := ({ s.chip.newCycle with pw := s.chip.pw.sampled v lim } : Chip).tempTold
        (decide (lim < v.toInt) && !s.chip.pw.tempHot) s.chip.pw.tempSent } := by
  subst hlim
  refine congrArg (fun c : Chip => Host.Outcome.next { s with chip := c }) ?_
  exact if_neg (not_low_of_high haon)

/-! ### The lanes are released, and memory writes err -/

theorem Chip.rowWrite_pwBoot (c : Chip) {m : Master} :
    c.rowWrite { m := m, row := Reg.PW_BOOT, i := 0, idx := 0, w := 1 } = (c.onBit 1 0 Chip.laneGo).done := by
  simp only [Chip.rowWrite, Chip.writePw, Reg.PW_BOOT]

theorem exec_lanego {m : Master} (hopen : s.chip.opens m 0x24 = true) :
    exec (.lanego m) s = .next { s with chip := s.chip.fresh.laneGo } := by
  show s.runMaster m (fun c => c.regWrite m 0x24064 1) = _
  exact State.runMaster_rowWrite (r := Reg.PW_BOOT) (by decide) hopen (by decide) (by decide) rfl (Bool.and_false _)
    (by simp only [Chip.rowIdx, Reg.PW_BOOT]) (by simp only [Chip.fitWord, Reg.PW_BOOT]) s.chip.fresh.rowWrite_pwBoot

/-- An errored beat is counted and flagged (R369). -/
def Chip.mwNoted (c : Chip) : Chip := (c.bump Reg.PW_MWERR 1).note Event.PW_MW_ERR none

/-- The first errored beat of an operation is recorded (R369). -/
def Chip.mwRecorded (c : Chip) (before : Bool) (a : Nat) : Chip :=
  if before then c else c.record Event.PW_MW_ERR.code { p2 := some (Word.part a 0) }

/-- The operations with a beat at an address. -/
def MwOp.owns (a : Nat) (o : MwOp) : Bool := o.beats.any fun v => v.1 == a

/-- The operation of an errored beat, the capsule's mirror or a recorder's, takes its error (R369). -/
def Chip.mwMarked (c : Chip) (beat : Bool) (a : Nat) : Chip :=
  if beat then { c with cp := { c.cp with mwErr := true } }
  else { c with ev := { c.ev with mwOps := MwOp.erred (MwOp.owns a) c.ev.mwOps } }

theorem exec_mwErr (hrst : s.chip.inReset = false) {a : BitVec 64} {beat : Bool} (hbeat : s.chip.mirrorBeat a.toNat = beat)
    (hgo : (!beat && !(s.chip.ev.mwOps.any (MwOp.owns a.toNat))) = false) :
    exec (.mwErr a) s = .next { s with
      chip := (s.chip.newCycle.mwNoted.mwMarked beat a.toNat).mwRecorded
        (if beat then s.chip.cp.mwErr else ((s.chip.ev.mwOps.find? (MwOp.owns a.toNat)).map fun o => o.err).getD false) a.toNat } := by
  subst hbeat
  show execMwErr a s = _
  rw [execMwErr, State.run_eq hrst]
  refine congrArg (fun c : Chip => Host.Outcome.next { s with chip := c }) ?_
  exact if_neg (Bool.eq_false_iff.1 hgo)

/-- What the count and the flag of an errored beat leave and set. -/
theorem Chip.mwNoted_leaves {c : Chip} (hrun : c.inReset = false) :
    (c.mwNoted.reg Reg.PW_MWERR).toNat = satNat 32 ((c.reg Reg.PW_MWERR).toNat + 1)
      ∧ Word.bit (c.mwNoted.reg (histRow 0x24)) 6 = true ∧ c.mwNoted.ev = c.ev ∧ c.mwNoted.cp = c.cp := by
  refine ⟨?_, ?_, Chip.note_ev _ _ _, Chip.note_cp _ _ _⟩
  · have hkept : c.mwNoted.reg Reg.PW_MWERR = (c.bump Reg.PW_MWERR 1).reg Reg.PW_MWERR :=
      Chip.note_reg _ (RegRow.apartFrom_of_addr (i := 0) (apart_of_offset (by decide) (by decide)) 0 0 none).1
    have hsat : satNat 32 ((c.reg Reg.PW_MWERR).toNat + 1) < 2 ^ 32 := by
      unfold satNat
      split
      · assumption
      · decide
    rw [hkept, Chip.bump, Chip.reg_setReg, BitVec.toNat_ofNat, Nat.mod_eq_of_lt hsat]
  · exact Chip.flag_hist _ none ((Chip.count_inReset ..).trans hrun) (by decide)

/-- A record goes to the end of a writer queue that has room (R337). -/
theorem Chip.record_appends {c : Chip} (hroom : c.ev.queue.length < 64) (code : Nat) (r : Rep) {w : Word} (hw : r.p2 = some w) :
    ∃ q, (c.record code r).ev.queue = c.ev.queue ++ [q] ∧ q.code = code ∧ q.p2 = w := by
  unfold Chip.record
  extract_lets p q d
  have hev : d.2.ev = c.ev := (Chip.param_ev _ _).trans ((Chip.param_ev _ _).trans (Chip.param_ev _ _))
  have hq : q.1 = w := by
    simp only [q, hw]
    rfl
  have hroom' : d.2.ev.queue.length < 64 := by
    rw [hev]
    exact hroom
  clear_value d
  rw [Chip.enqueueRec, if_pos hroom', hev]
  exact ⟨_, rfl, rfl, hq⟩

/-- The record of an errored beat goes to the end of the writer queue. -/
theorem Chip.mwRecorded_leaves (c : Chip) (before : Bool) (a : Nat) :
    ((∀ r i j b, r.key i j b ≠ (histRow 0x1F).key 0 0 0 → (c.mwRecorded before a).reg r i j b = c.reg r i j b)
      ∧ (c.mwRecorded before a).ev.unqueued = c.ev.unqueued ∧ (c.mwRecorded before a).cp = c.cp)
      ∧ (before = true → c.ev.queue.length < 64 → (c.mwRecorded before a).ev.queue = c.ev.queue)
      ∧ (before = false → c.ev.queue.length < 64 →
        ((c.mwRecorded before a).ev.queue.drop c.ev.queue.length).map (fun q => (q.code, q.p2)) = [(0x2407, BitVec.ofNat 32 a)]) := by
  cases before with
  | true => exact ⟨⟨fun _ _ _ _ _ => rfl, rfl, rfl⟩, fun _ _ => rfl, fun h => absurd h (by decide)⟩
  | false =>
    refine ⟨⟨fun r i j b h => Chip.record_reg _ h _ _, Chip.record_unqueued _ _ _, Chip.record_cp _ _ _⟩,
      fun h => absurd h (by decide), fun _ hroom => ?_⟩
    have hmade : c.mwRecorded false a = c.record 0x2407 { p2 := some (Word.part a 0) } := rfl
    obtain ⟨q, hend, hcode, hq⟩ := c.record_appends hroom 0x2407 { p2 := some (Word.part a 0) } rfl
    rw [hmade, hend, List.drop_left, List.map_singleton, hcode, hq]
    rfl

/-- An operation takes its error beside the registers and the writer queue. -/
theorem Chip.mwMarked_leaves (c : Chip) (beat : Bool) (a : Nat) :
    (∀ r, (c.mwMarked beat a).reg r = c.reg r) ∧ (c.mwMarked beat a).ev.queue = c.ev.queue := by
  unfold Chip.mwMarked
  split
  · exact ⟨fun _ => rfl, rfl⟩
  · exact ⟨fun _ => rfl, rfl⟩

theorem Chip.mwMarked_congr {c d : Chip} (hev : c.ev = d.ev) (hcp : c.cp = d.cp) (beat : Bool) (a : Nat) :
    (c.mwMarked beat a).ev = (d.mwMarked beat a).ev ∧ (c.mwMarked beat a).cp = (d.mwMarked beat a).cp := by
  unfold Chip.mwMarked
  split
  · exact ⟨hev, congrArg (fun x : CpState => ({ x with mwErr := true } : CpState)) hcp⟩
  · exact ⟨congrArg (fun x : EvState => ({ x with mwOps := MwOp.erred (MwOp.owns a) x.mwOps } : EvState)) hev, hcp⟩

/-- A beat that errs is counted and flagged; its operation takes the error, and the first of an operation is recorded (R369). -/
theorem exec_mwErr_tells (hrst : s.chip.inReset = false) {a : BitVec 64} {beat before : Bool} (hbeat : s.chip.mirrorBeat a.toNat = beat)
    (hgo : (!beat && !(s.chip.ev.mwOps.any (MwOp.owns a.toNat))) = false)
    (hbefore : (if beat then s.chip.cp.mwErr
      else ((s.chip.ev.mwOps.find? (MwOp.owns a.toNat)).map fun o => o.err).getD false) = before) :
    ∃ t, exec (.mwErr a) s = .next t ∧ t.pending = s.pending
      ∧ (t.chip.reg Reg.PW_MWERR).toNat = satNat 32 ((s.chip.reg Reg.PW_MWERR).toNat + 1)
      ∧ t.chip.ev.unqueued = (s.chip.mwMarked beat a.toNat).ev.unqueued
      ∧ t.chip.cp = (s.chip.mwMarked beat a.toNat).cp
      ∧ Word.bit (t.chip.reg (histRow 0x24)) 6 = true
      ∧ (before = true → s.chip.ev.queue.length < 64 → t.chip.ev.queue = s.chip.ev.queue)
      ∧ (before = false → s.chip.ev.queue.length < 64 →
        (t.chip.ev.queue.drop s.chip.ev.queue.length).map (fun q => (q.code, q.p2)) = [(0x2407, a.setWidth 32)]) := by
  have hexec := exec_mwErr hrst hbeat hgo
  rw [hbefore] at hexec
  obtain ⟨hcount, hhist, hev, hcp⟩ := Chip.mwNoted_leaves (c := s.chip.newCycle) hrst
  generalize s.chip.newCycle.mwNoted = d at hcount hhist hev hcp hexec
  obtain ⟨hregs, hkept⟩ := d.mwMarked_leaves beat a.toNat
  obtain ⟨hmarkEv, hmarkCp⟩ := Chip.mwMarked_congr (c := d) (d := s.chip) hev hcp beat a.toNat
  generalize d.mwMarked beat a.toNat = x at hregs hkept hmarkEv hmarkCp hexec
  obtain ⟨⟨hreg, hrest, hmark⟩, hsent, hnew⟩ := x.mwRecorded_leaves before a.toNat
  have hqueue : x.ev.queue = s.chip.ev.queue := hkept.trans (congrArg EvState.queue hev)
  have hword : BitVec.ofNat 32 a.toNat = a.setWidth 32 := rfl
  rw [hqueue, hword] at hnew
  rw [hqueue] at hsent
  refine ⟨_, hexec, rfl, ?_, hrest.trans (congrArg EvState.unqueued hmarkEv), hmark.trans hmarkCp, ?_, hsent, hnew⟩
  · rw [hreg _ _ _ _ (by decide), hregs]
    exact hcount
  · rw [hreg _ _ _ _ (by decide), hregs]
    exact hhist

end Power

/-- Settles O22: main reset clears the main domain by what the servo and the lanes leave; each rail by its log, its reset and its
clock. -/
theorem mainResetAndSupplies : Obligations.MainResetAndSupplies := by
  unfold Obligations.MainResetAndSupplies
  refine ⟨?_, ?_, ?_, ?_, ?_, ?_, ?_, ?_, ?_, ?_, ?_, ?_, ?_, ?_, ?_, ?_, ?_, ?_⟩
  · intro s hrun
    obtain ⟨d, hreset, hexec⟩ := exec_mainReset hrun
    exact ⟨_, hexec, rfl, hreset.inReset, rfl, (congrArg PwState.rstCause hreset.pw :), (congrArg TkState.frc hreset.tk :),
      (congrArg TkState.tAnchor hreset.tk :), hreset.store, hreset.nor, hreset.running, (congrArg Cleared.sg hreset.cleared :),
      (congrArg Cleared.gt hreset.cleared :), (congrArg Cleared.hg hreset.cleared :), (congrArg Cleared.cp hreset.cleared :),
      hreset.po, (congrArg Cleared.ts hreset.cleared :), hreset.stepLimit, (congrArg Cleared.regionCfg hreset.cleared :)⟩
  · intro s hrst
    have hkept : s.chip.newCycle.mainReset 2 =
        { s.chip.newCycle with pw := { s.chip.pw with rstCause := min s.chip.pw.rstCause 2 } } := if_pos hrst
    refine ⟨_, rfl, rfl, ?_⟩
    dsimp only
    rw [hkept]
    exact ⟨hrst, rfl, rfl, rfl⟩
  · intro s hrst hheld
    refine ⟨_, exec_mainResetRelease hrst hheld, rfl, ?_⟩
    obtain ⟨hleft, htk⟩ := ({ s.chip.newCycle with
      pw := { s.chip.pw with rstLow := false }, inReset := false } : Chip).releaseRecords_leaves
    generalize ({ s.chip.newCycle with pw := { s.chip.pw with rstLow := false }, inReset := false } : Chip).releaseRecords = d at hleft htk ⊢
    obtain ⟨hin, hpw, hkept, hbusy, hphase⟩ := d.coldBoot_chainCal
    have hrt : d.rt = s.chip.rt := (congrArg Released.rt hleft :)
    have hid : d.id = s.chip.id := (congrArg Released.id hleft :)
    have hfw : d.fw = s.chip.fw := (congrArg Released.fw hleft :)
    refine ⟨hin.trans (congrArg Released.inReset hleft :), ?_, ?_, ?_, hkept.trans htk⟩
    · exact (congrArg PwState.rstLow hpw).trans (congrArg Released.rstLow hleft :)
    · rw [hbusy, hrt, hid]
    · rw [hphase, hfw]
  · intro s hheld
    exact ⟨_, exec_mainResetRelease_held hheld, rfl, rfl, rfl, rfl, rfl⟩
  · intro s slow haon
    have hlog := s.chip.newCycle.aonPowerOn.riseLog_supplied slow false 0
    obtain ⟨hin, hon, htk, hgr, hstore, hhub, hev⟩ := s.chip.newCycle.aonPowerOn_leaves
    refine ⟨_, exec_railGood_vddAon slow haon, rfl, hlog.inReset.trans hin, (congrArg PwState.aon hlog.pw).trans hon, ?_⟩
    rw [hlog.tk, hlog.gr, hlog.sq, hlog.id, hlog.ev, htk]
    exact ⟨rfl, rfl, rfl, hgr, hstore, hhub, hev⟩
  · intro s slow haon htclk
    have hlog := ({ s.chip.newCycle with pw := { s.chip.pw with tclk := true } } : Chip).riseLog_supplied slow false 0
    obtain ⟨hin, hpw, hrun, hfrc⟩ :=
      (({ s.chip.newCycle with pw := { s.chip.pw with tclk := true } } : Chip).riseLog slow false 0).tclkStart_leaves
    refine ⟨_, exec_railGood_vddaTclk slow haon htclk, rfl, ?_, hrun, hin.trans hlog.inReset, hfrc.trans (congrArg TkState.frc hlog.tk)⟩
    exact (congrArg PwState.tclk hpw).trans (congrArg PwState.tclk hlog.pw :)
  · intro s slow hlys
    have hlog := ({ s.chip.newCycle with pw := { s.chip.pw with lys := true } } : Chip).riseLog_supplied slow (!s.chip.pw.tclk) 1
    exact ⟨_, exec_railGood_vddLys slow hlys, rfl, (congrArg PwState.lys hlog.pw :), (congrArg PwState.io hlog.pw :), hlog.inReset, hlog.tk⟩
  · intro s slow hio
    have hlog := (({ s.chip.newCycle with pw := { s.chip.pw with io := true } } : Chip).riseLog_supplied slow (!s.chip.pw.lys) 2).trans
      (Chip.poAllEdges_supplied _ s.chip.newCycle)
    exact ⟨_, exec_railGood_vddioT slow hio, rfl, (congrArg PwState.io hlog.pw :), (congrArg PwState.lys hlog.pw :), hlog.inReset, hlog.tk⟩
  · intro s hrun haon hlys
    have hlog := ({ s.chip.newCycle with pw := { s.chip.pw with lys := false } } : Chip).fallLog_supplied s.chip.pw.io 5
    generalize hc : ({ s.chip.newCycle with pw := { s.chip.pw with lys := false } } : Chip).fallLog s.chip.pw.io 5 = c at hlog
    have hrun' : c.inReset = false := hlog.inReset.trans hrun
    have hreset := Chip.mainReset_resets hrun' 4
    refine ⟨_, exec_railFail_vddLys haon hlys hc, rfl, hreset.inReset, ?_, (congrArg PwState.rstCause hreset.pw :), ?_, ?_⟩
    · exact (congrArg PwState.lys hreset.pw).trans (congrArg PwState.lys hlog.pw :)
    · dsimp only
      rw [hrun', Bool.not_false, Bool.or_true]
    · exact hreset.frc.trans (congrArg TkState.frc hlog.tk)
  · intro s hrun haon htclk htick
    have hlog := ({ s.chip.newCycle with pw := { s.chip.pw with tclk := false } } : Chip).fallLog_supplied s.chip.pw.lys 4
    generalize hc : ({ s.chip.newCycle with pw := { s.chip.pw with tclk := false } } : Chip).fallLog s.chip.pw.lys 4 = c at hlog
    have htick' : c.tk.tclk = true := (congrArg TkState.tclk hlog.tk).trans htick
    have hstop := Chip.tclkStop_steady htick'
    have hfrc : c.tclkStop.tk.frc = c.tk.frc := (congrArg (fun x : Steady => x.tk.frc) hstop :)
    have hrun' : c.tclkStop.inReset = false := (congrArg Steady.inReset hstop).trans (hlog.inReset.trans hrun)
    have hreset := Chip.mainReset_resets hrun' 5
    generalize hd : c.tclkStop = d at hstop hfrc hreset
    have hexec := exec_railFail_vddaTclk haon htclk hc
    rw [hd] at hexec
    refine ⟨_, hexec, rfl, hreset.inReset, ?_, (congrArg PwState.rstCause hreset.pw :), ?_, ?_, ?_⟩
    · exact (congrArg PwState.tclk hreset.pw).trans ((congrArg (fun x : Steady => x.pw.tclk) hstop :).trans (congrArg PwState.tclk hlog.pw :))
    · exact hreset.tclk.trans (congrArg (fun x : Steady => x.tk.tclk) hstop :)
    · exact hreset.valid.trans (congrArg (fun x : Steady => x.tk.valid) hstop :)
    · exact hreset.frc.trans (hfrc.trans (congrArg TkState.frc hlog.tk))
  · intro s hio
    have hlog := ({ s.chip.newCycle with pw := { s.chip.pw with io := false } } : Chip).poAllEdges_supplied s.chip.newCycle
    generalize hc : ({ s.chip.newCycle with pw := { s.chip.pw with io := false } } : Chip).poAllEdges s.chip.newCycle = c at hlog
    have hpw : c.pw = { s.chip.pw with io := false } := hc ▸ Chip.poAllEdges_pw _ _
    refine ⟨_, exec_railFail_vddioT hio hc, rfl, ?_⟩
    dsimp only
    split
    · rw [Chip.report_pw, Chip.report_inReset, Chip.report_tk, Chip.report_gr]
      exact ⟨hpw, hlog.inReset, hlog.tk, hlog.gr⟩
    · exact ⟨hpw, hlog.inReset, hlog.tk, hlog.gr⟩
  · intro s haon
    obtain ⟨hin, hon, htk, hgr, hstore, hhub, hev⟩ := s.chip.newCycle.aonPowerOn_leaves
    exact ⟨_, exec_railFail_vddAon haon, rfl, rfl, hin, rfl, rfl⟩
  · intro s haon htclk
    exact ⟨_, exec_tclkRail haon htclk, rfl, Chip.tclkRail_hist _, Chip.report_tk _ _ _, Chip.report_pw _ _ _⟩
  · intro s v haon
    obtain ⟨hpw, htk⟩ := Chip.tempTold_leaves ({ s.chip.newCycle with
      pw := s.chip.pw.sampled v (signedOf 16 (Word.field (s.chip.reg Reg.PW_TEMPLIM) 0 16)) } : Chip)
      (decide (signedOf 16 (Word.field (s.chip.reg Reg.PW_TEMPLIM) 0 16) < v.toInt) && !s.chip.pw.tempHot) s.chip.pw.tempSent
    exact ⟨_, exec_tempSample haon rfl, rfl, hpw, htk⟩
  · intro s m hopen
    exact ⟨_, exec_lanego hopen, rfl, rfl, rfl, rfl⟩
  · intro s a hrun hbeat
    obtain ⟨t, hexec, hpending, hcount, hev, hcp, hhist, hsent, hnew⟩ := exec_mwErr_tells hrun hbeat rfl rfl
    exact ⟨t, hexec, hpending, hcount, (congrArg EvState.ring hev :), (congrArg EvState.mwOps hev :), hcp, hhist, hsent, hnew⟩
  · intro s a o hrun hbeat hfind
    have hbefore : ((s.chip.ev.mwOps.find? (MwOp.owns a.toNat)).map fun o => o.err).getD false = o.err := by
      rw [show s.chip.ev.mwOps.find? (MwOp.owns a.toNat) = some o from hfind]
      rfl
    have hsome : (!false && !(s.chip.ev.mwOps.any (MwOp.owns a.toNat))) = false := by
      rw [Bool.not_false, Bool.true_and, Bool.not_eq_false', List.any_eq_true]
      exact ⟨o, List.mem_of_find?_eq_some hfind, List.find?_some (p := MwOp.owns a.toNat) hfind⟩
    obtain ⟨t, hexec, hpending, hcount, hev, hcp, hhist, hsent, hnew⟩ := exec_mwErr_tells hrun hbeat hsome hbefore
    exact ⟨t, hexec, hpending, hcount, (congrArg EvState.ring hev :), (congrArg EvState.mwOps hev :), hcp, hhist, hsent, hnew⟩
  · intro s a hrun hbeat hnone
    have hgo : (!s.chip.mirrorBeat a.toNat && !(s.chip.ev.mwOps.any fun o : MwOp => o.beats.any fun v => v.1 == a.toNat)) = true := by
      rw [hbeat, hnone]
      rfl
    have hexec : exec (.mwErr a) s = .next { s with chip := s.chip.newCycle } := by
      show execMwErr a s = _
      rw [execMwErr, State.run_eq hrun]
      refine congrArg (fun c : Chip => Host.Outcome.next { s with chip := c }) ?_
      exact if_pos hgo
    exact ⟨_, hexec, rfl, rfl, rfl⟩

end Sys2Proof.Machine
end

section
/-!
What the operations of the shared units leave of the clock (R58, R64): reports, counters, group entries, threads and
region taps.
-/

namespace Sys2Proof.Machine

/-! ### The view at an update -/

theorem Chip.clock_tk (c : Chip) : c.tk.clock = c.clock := rfl

theorem clock_of_tk {a b : Chip} (h : a.tk = b.tk) : a.clock = b.clock := congrArg TkState.clock h

theorem clock_of_calm {a b : Chip} (h : a.calm = b.calm) : a.clock = b.clock := (congrArg Chip.clock h :)

theorem Chip.clock_mk
    {id regs shadows held tk tb sv rf ports tr ev mn hs gr sq rt ts po sg gt gd fw hg cp pw inReset powerOnDue free} :
    Chip.clock ⟨id, regs, shadows, held, tk, tb, sv, rf, ports, tr, ev, mn, hs, gr, sq, rt, ts, po, sg, gt, gd, fw, hg, cp, pw, inReset,
      powerOnDue, free⟩ = tk.clock := rfl

section Clock

variable (c : Chip)

/-! ### Registers, cells, reports and histogram units -/

theorem Chip.setReg_clock (r : RegRow) (w : Word) (idx i bank : Nat) : (c.setReg r w idx i bank).clock = c.clock :=
  clock_of_calm (Chip.setReg_calm ..)

theorem Chip.setRegOf_clock (m : Master) (r : RegRow) (w : Word) (idx i : Nat) : (c.setRegOf m r w idx i).clock = c.clock :=
  clock_of_tk rfl

theorem Chip.bump_clock (r : RegRow) (n : Nat) (idx i : Nat) : (c.bump r n idx i).clock = c.clock := clock_of_calm (Chip.bump_calm ..)

theorem Chip.modPort_clock (p : Nat) (f : PortState → PortState) : (c.modPort p f).clock = c.clock :=
  clock_of_calm (Chip.modPort_calm ..)

theorem Chip.modQ_clock (p : Nat) (f : PortQueues → PortQueues) : (c.modQ p f).clock = c.clock := clock_of_calm (Chip.modQ_calm ..)

theorem Chip.modLink_clock (p : Nat) (f : PortLink → PortLink) : (c.modLink p f).clock = c.clock := clock_of_tk rfl

theorem Chip.modCode_clock (p : Nat) (f : PortCode → PortCode) : (c.modCode p f).clock = c.clock := clock_of_tk rfl

theorem Chip.modTime_clock (p : Nat) (f : PortTime → PortTime) : (c.modTime p f).clock = c.clock := clock_of_tk rfl

theorem Chip.sendCells_clock (p cls : Nat) (cells : List Cell) : (c.sendCells p cls cells).clock = c.clock :=
  clock_of_calm (Chip.sendCells_calm ..)

theorem Chip.sendL_clock (p : Nat) (cell : Cell) : (c.sendL p cell).clock = c.clock := clock_of_tk rfl

theorem Chip.count_clock (num : Nat) (inst : Option Nat) (n : Nat) : (c.count num inst n).clock = c.clock :=
  clock_of_calm (Chip.count_calm ..)

theorem Chip.pinEdges_clock (src rise fall : Nat) : (c.pinEdges src rise fall).clock = c.clock :=
  clock_of_calm (Chip.pinEdges_calm ..)

theorem Chip.irqEdges_clock (before : Chip) : (c.irqEdges before).clock = c.clock := clock_of_calm (Chip.irqEdges_calm ..)

theorem Chip.inoteOn_clock (p : Nat) : (c.inoteOn p).clock = c.clock := clock_of_calm (Chip.inoteOn_calm ..)

theorem Chip.inoteRaise_clock (page : Nat) (before : Word) : (c.inoteRaise page before).clock = c.clock :=
  clock_of_calm (Chip.inoteRaise_calm ..)

theorem Chip.flag_clock (page bit : Nat) (chan : Option Nat) : (c.flag page bit chan).clock = c.clock :=
  clock_of_calm (Chip.flag_calm ..)

theorem Chip.enqueueRec_clock (r : RawRec) : (c.enqueueRec r).clock = c.clock := clock_of_calm (Chip.enqueueRec_calm ..)

theorem Chip.note_clock (e : Ev) (inst : Option Nat) : (c.note e inst).clock = c.clock := clock_of_calm (Chip.note_calm ..)

theorem Chip.takeFree_clock : c.takeFree.2.clock = c.clock := clock_of_tk rfl

theorem Chip.record_clock (code : Nat) (r : Rep) : (c.record code r).clock = c.clock := clock_of_calm (Chip.record_calm ..)

theorem Chip.modHs_clock (u : Nat) (f : HsUnit → HsUnit) : (c.modHs u f).clock = c.clock := clock_of_calm (Chip.modHs_calm ..)

/-! ### Group entries and threads -/

theorem Chip.modEnt_clock (g : Nat) (f : GrEntry → GrEntry) : (c.modEnt g f).clock = c.clock :=
  clock_of_steady (Chip.modEnt_steady ..)

theorem Chip.activity_clock (g : Nat) : (c.activity g).clock = c.clock := clock_of_beat (Chip.activity_beat ..)

theorem Chip.modTh_clock (t : Nat) (f : ThreadState → ThreadState) : (c.modTh t f).clock = c.clock :=
  clock_of_steady (Chip.modTh_steady ..)

theorem Chip.toRun_clock (t : Nat) : (c.toRun t).clock = c.clock := clock_of_beat (Chip.toRun_beat ..)

theorem Chip.thStop_clock (t fcode : Nat) : (c.thStop t fcode).clock = c.clock := clock_of_tk rfl

theorem Chip.thFault_clock (t : Nat) (e : Ev) (fcode : Nat) : (c.thFault t e fcode).clock = c.clock :=
  clock_of_steady (Chip.thFault_steady ..)

theorem Chip.setMbox_clock (t m v : Nat) : (c.setMbox t m v).clock = c.clock := clock_of_tk rfl

theorem Chip.detClear_clock (g course : Nat) : (c.detClear g course).clock = c.clock := clock_of_steady (Chip.detClear_steady ..)

theorem Chip.detClearAll_clock (take : Nat → Bool) : (c.detClearAll take).clock = c.clock :=
  clock_of_steady (Chip.detClearAll_steady ..)

theorem Chip.detClearClass_clock (cls : Nat) : (c.detClearClass cls).clock = c.clock := by
  unfold Chip.detClearClass
  simp only [Chip.detClearAll_clock]

theorem Chip.servoSweep_clock : c.servoSweep.clock = c.clock := clock_of_beat (Chip.servoSweep_beat ..)

/-! ### Refusals of the Guard -/

theorem Chip.guardRefuse_clock (e : Ev) (m : Master) (addr : Nat) (value bound : Word) :
    (c.guardRefuse e m addr value bound).clock = c.clock :=
  clock_of_calm (Chip.guardRefuse_calm ..)

theorem Chip.mwRefuse_clock (addr : Nat) : (c.mwRefuse addr).clock = c.clock := by
  unfold Chip.mwRefuse
  simp only [Chip.setReg_clock, Chip.takeFree_clock, Chip.report_clock]

/-! ### Counters and snapshots -/

theorem Chip.snapTake_clock : c.snapTake.clock = c.clock := by
  unfold Chip.snapTake
  simp only [Chip.note_clock, Chip.modHs_clock, Chip.clock_mk, Chip.clock_tk, clock_foldl, implies_true]

theorem Chip.snapArm_clock (t : Nat) : (c.snapArm t).clock = c.clock := by
  unfold Chip.snapArm
  simp only [Chip.report_clock, Chip.clock_mk, Chip.clock_tk, apply_ite Chip.clock, ite_self]

theorem Chip.snapCancel_clock : c.snapCancel.clock = c.clock := clock_of_tk rfl

theorem Chip.snapDue_clock : c.snapDue.clock = c.clock := by
  unfold Chip.snapDue
  split <;> simp only [Chip.report_clock, Chip.snapTake_clock, Chip.snapCancel_clock, apply_ite Chip.clock, ite_self]

theorem Chip.snapNow_clock : c.snapNow.clock = c.clock := by
  unfold Chip.snapNow
  split <;> simp only [Chip.snapTake_clock, Chip.snapCancel_clock, apply_ite Chip.clock, ite_self]

theorem Chip.counterZero_clock (k : Nat) : (c.counterZero k).clock = c.clock := clock_of_tk rfl

theorem Chip.countersZero_clock : c.countersZero.clock = c.clock := clock_of_tk rfl

theorem Chip.pinZero_clock (k : Nat) : (c.pinZero k).clock = c.clock := clock_of_tk rfl

theorem Chip.hsEmpty_clock (u : Nat) : (c.hsEmpty u).clock = c.clock := clock_of_tk rfl

theorem Chip.hsRestart_clock (u : Nat) : (c.hsRestart u).clock = c.clock := clock_of_tk rfl

/-! ### Region taps, lines, crossings and engines -/

theorem Chip.mapArmed_clock (f : Nat → LineArm → Option LineArm) : (c.mapArmed f).clock = c.clock := clock_of_tk rfl

theorem Chip.modXc_clock (n : Nat) (f : XcState → XcState) : (c.modXc n f).clock = c.clock := clock_of_tk rfl

theorem Chip.modEng_clock (n : Nat) (f : EngState → EngState) : (c.modEng n f).clock = c.clock := clock_of_tk rfl

theorem Chip.calTap_clock (t cum : Nat) (good : Bool) (m : HopMeas) : (c.calTap t cum good m).1.clock = c.clock := by
  unfold Chip.calTap
  simp only [Chip.report_clock, Chip.modTap_clock, apply_ite Chip.clock, ite_self, apply_ite Prod.fst]

theorem Chip.chainCal_clock : c.chainCal.clock = c.clock := by
  unfold Chip.chainCal
  simp only [Chip.clock_mk, Chip.clock_tk, apply_ite Chip.clock, ite_self]

theorem Chip.calAbandon_clock (t : Nat) : (c.calAbandon t).clock = c.clock := by
  unfold Chip.calAbandon
  simp only [Chip.clock_mk, Chip.clock_tk, apply_ite Chip.clock, ite_self]

theorem Chip.calRestart_clock (t : Nat) : (c.calRestart t).clock = c.clock := by
  unfold Chip.calRestart
  simp only [Chip.clock_mk, Chip.clock_tk, apply_ite Chip.clock, ite_self]

theorem Chip.rollTaps_clock : c.rollTaps.clock = c.clock := clock_of_steady (Chip.rollTaps_steady ..)

theorem Chip.reportConfig_clock (w : Word) : (c.reportConfig w).clock = c.clock := by
  unfold Chip.reportConfig
  simp only [Chip.setReg_clock, Chip.rollTaps_clock, Chip.clock_mk, Chip.clock_tk]

theorem Chip.lineGone_clock (t line : Nat) : (c.lineGone t line).clock = c.clock := clock_of_tk rfl

theorem Chip.trigBoundRep_clock (n thread tf : Nat) : (c.trigBoundRep n thread tf).clock = c.clock := by
  unfold Chip.trigBoundRep
  simp only [Chip.report_clock]

theorem Chip.placeArm_clock (n : Nat) (a : LineArm) : (c.placeArm n a).clock = c.clock := by
  unfold Chip.placeArm
  simp only [Chip.report_clock, Chip.detClear_clock, Chip.modLine_clock, Chip.lineLost_clock, Chip.tapMoment_clock,
    Chip.trigBoundRep_clock, apply_ite Chip.clock, ite_self]

theorem Chip.fire_clock (n phase edge : Nat) (a : LineArm) : (c.fire n phase edge a).clock = c.clock := by
  unfold Chip.fire
  simp only [Chip.count_clock, Chip.pinEdges_clock, Chip.report_clock, Chip.sample_clock, Chip.detClear_clock, Chip.modTap_clock,
    Chip.modLine_clock, Chip.rollTaps_clock, Chip.lineGone_clock, apply_ite Chip.clock, ite_self]

theorem Chip.cancelArms_clock (t : Nat) : (c.cancelArms t).clock = c.clock := clock_of_tk rfl

theorem Chip.regionStop_clock (t : Nat) : (c.regionStop t).clock = c.clock := by
  unfold Chip.regionStop
  simp only [Chip.modTap_clock, Chip.mapArmed_clock, Chip.modXc_clock, Chip.calAbandon_clock, clock_foldl, implies_true]

theorem Chip.xcalStart_clock (n : Nat) : (c.xcalStart n).clock = c.clock := clock_of_tk rfl

theorem Chip.xcalSeek_clock (t : Nat) : (c.xcalSeek t).clock = c.clock := by
  unfold Chip.xcalSeek
  simp only [Chip.xcalStart_clock, clock_foldl, implies_true]

theorem Chip.xcalWrite_clock (t : Nat) : (c.xcalWrite t).clock = c.clock := by
  unfold Chip.xcalWrite
  simp only [Chip.modTap_clock, Chip.modXc_clock, Chip.xcalStart_clock, Chip.xcalSeek_clock, clock_foldl, implies_true]

theorem Chip.stopSlips_clock (t acc : Nat) : (c.stopSlips t acc).clock = c.clock := by
  unfold Chip.stopSlips
  simp only [Chip.modXc_clock, clock_foldl, implies_true]

theorem Chip.linesFall_clock (t : Nat) (period : Option Nat) : (c.linesFall t period).clock = c.clock := clock_of_tk rfl

theorem Chip.wakesDue_clock (t : Nat) : (c.wakesDue t).clock = c.clock := by
  unfold Chip.wakesDue
  simp only [Chip.count_clock, Chip.modTap_clock, clock_foldl, implies_true]

theorem Chip.stopEnd_clock (t acc : Nat) : (c.stopEnd t acc).clock = c.clock := by
  unfold Chip.stopEnd
  simp only [Chip.note_clock, Chip.report_clock, Chip.modTap_clock, Chip.stopSlips_clock, apply_ite Chip.clock, ite_self]

theorem Chip.regionResume_clock (t op : Nat) : (c.regionResume t op).clock = c.clock := by
  unfold Chip.regionResume
  simp only [Chip.report_clock, Chip.modTap_clock, Chip.modXc_clock, Chip.calRestart_clock, Chip.rollTaps_clock, Chip.xcalSeek_clock,
    Chip.wakesDue_clock, Chip.stopEnd_clock, apply_ite Chip.clock, ite_self, clock_foldl, implies_true]

theorem Chip.xcalOne_clock (x lat : Nat) : (c.xcalOne x lat).clock = c.clock := by
  unfold Chip.xcalOne
  simp only [Chip.report_clock, Chip.modXc_clock, apply_ite Chip.clock, ite_self]

theorem Chip.engineDone_clock (e at_ : Nat) : (c.engineDone e at_).clock = c.clock := clock_of_tk rfl

theorem Chip.ctxStart_clock (e : Nat) (ctx : Word) (at_ : Nat) : (c.ctxStart e ctx at_).clock = c.clock := clock_of_tk rfl

end Clock

end Sys2Proof.Machine
end

section
/-!
What groups, barriers and semaphores leave of the clock (R58, R64).
-/

namespace Sys2Proof.Machine

section Clock

variable (c : Chip)

/-! ### Censuses -/

theorem Chip.censusSend_clock (g : Nat) : (c.censusSend g).clock = c.clock := clock_of_steady (Chip.censusSend_steady ..)

theorem Chip.dieCensus_clock : c.dieCensus.clock = c.clock := clock_of_steady (Chip.dieCensus_steady ..)

theorem Chip.censusDone_clock (g : Nat) : (c.censusDone g).clock = c.clock := clock_of_steady (Chip.censusDone_steady ..)

theorem Chip.stale_clock (gid port reason gen : Nat) : (c.stale gid port reason gen).clock = c.clock := by
  unfold Chip.stale
  simp only [Chip.bump_clock, Chip.report_clock]

theorem Chip.popRx_clock (p cls n : Nat) : (c.popRx p cls n).clock = c.clock := clock_of_tk rfl

/-! ### Barriers -/

theorem Chip.contribute_clock (g course k w : Nat) : (c.contribute g course k w).clock = c.clock := by
  unfold Chip.contribute
  extract_lets cfgs
  split
  · rfl
  · exact clock_ite ((Chip.note_clock _ _ _).trans ((Chip.bump_clock _ _ _ _ _).trans (c.modEnt_clock g _))) (c.modEnt_clock g _)

theorem Chip.satEval_clock : c.satEval.clock = c.clock := clock_of_tk rfl

theorem Chip.qoccDrop_clock (n : Nat) : (c.qoccDrop n).clock = c.clock := clock_of_tk rfl

theorem Chip.closeBegin_clock (g : Nat) (r : Release) : (c.closeBegin g r).clock = c.clock := clock_of_tk rfl

theorem Chip.closeDone_clock (g : Nat) : (c.closeDone g).clock = c.clock := clock_of_steady (Chip.closeDone_steady ..)

theorem Chip.closeIfSent_clock (g : Nat) : (c.closeIfSent g).clock = c.clock := by
  unfold Chip.closeIfSent
  simp only [Chip.closeDone_clock, apply_ite Chip.clock, ite_self]

theorem Chip.unhold_clock (g : Nat) (f : HeldMsg → Bool) : (c.unhold g f).clock = c.clock := clock_of_tk rfl

theorem Chip.spreadSample_clock (g course : Nat) : (c.spreadSample g course).clock = c.clock :=
  clock_of_steady (Chip.spreadSample_steady ..)

theorem Chip.sendUp_clock (g course : Nat) (cells : List Cell) : (c.sendUp g course cells).clock = c.clock :=
  clock_of_steady (Chip.sendUp_steady ..)

theorem Chip.sendDown_clock (g course : Nat) (ports : List Nat) (cells : List Cell) :
    (c.sendDown g course ports cells).clock = c.clock :=
  clock_of_steady (Chip.sendDown_steady ..)

theorem Chip.heldStep_clock (x : Nat × HeldMsg) : (c.heldStep x).clock = c.clock := by
  unfold Chip.heldStep
  split <;> simp only [Chip.sendCells_clock, Chip.closeIfSent_clock, Chip.unhold_clock, Chip.spreadSample_clock, Chip.sendDown_clock]

theorem Chip.probeUp_clock (g : Nat) (r : ProbeRound) : (c.probeUp g r).clock = c.clock := by
  unfold Chip.probeUp
  simp only [Chip.sendCells_clock, Chip.modEnt_clock]

theorem Chip.keptTo_clock (p g : Nat) : (c.keptTo p g).clock = c.clock := by
  unfold Chip.keptTo
  extract_lets e
  split
  · exact clock_ite ((Chip.closeIfSent_clock _ _).trans (c.sendDown_clock g _ _ _)) rfl
  · rfl

theorem Chip.keptSend_clock (p : Nat) : (c.keptSend p).clock = c.clock := clock_of_steady (Chip.keptSend_steady ..)

theorem Chip.openBarrier_clock (g course : Nat) (short : Bool) : (c.openBarrier g course short).clock = c.clock := clock_of_tk rfl

theorem Chip.markShort_clock (g : Nat) : (c.markShort g).clock = c.clock := clock_of_steady (Chip.markShort_steady ..)

theorem Chip.takeRelease_clock (t : Nat) (r : Release) : (c.takeRelease t r).clock = c.clock :=
  clock_of_steady (Chip.takeRelease_steady ..)

theorem Chip.memberRelease_clock (g : Nat) (r : Release) : (c.memberRelease g r).clock = c.clock :=
  clock_of_steady (Chip.memberRelease_steady ..)

theorem Chip.deliver_clock (g : Nat) (r : Release) : (c.deliver g r).clock = c.clock := clock_of_steady (Chip.deliver_steady ..)

theorem Chip.outputLanes_clock (g course : Nat) (vals : List LaneVal) : (c.outputLanes g course vals).1.clock = c.clock :=
  clock_of_steady (Chip.outputLanes_steady ..)

theorem Chip.combined_clock (g n : Nat) : (c.combined g n).clock = c.clock := clock_of_steady (Chip.combined_steady ..)

theorem Chip.close_clock (g course : Nat) (ovr : Bool) : (c.close g course ovr).clock = c.clock :=
  clock_of_steady (Chip.close_steady ..)

theorem Chip.judgeBarrier_clock (g : Nat) : (c.judgeBarrier g).clock = c.clock := clock_of_steady (Chip.judgeBarrier_steady ..)

theorem Chip.arrive_clock (g n : Nat) : (c.arrive g n).clock = c.clock := by
  unfold Chip.arrive
  simp only [Chip.count_clock, Chip.modEnt_clock, Chip.servoSweep_clock, Chip.spreadSample_clock, Chip.sendUp_clock,
    Chip.markShort_clock, Chip.outputLanes_clock, Chip.combined_clock, Chip.judgeBarrier_clock, apply_ite Chip.clock, ite_self]

theorem Chip.staleB_clock (p reason : Nat) (x : Cell) : (c.staleB p reason x).clock = c.clock := by
  unfold Chip.staleB
  simp only [Chip.stale_clock, Chip.popRx_clock, apply_ite Chip.clock, ite_self, clock_foldl, implies_true]

theorem Chip.acceptArrival_clock (g p : Nat) (cells : List Cell) : (c.acceptArrival g p cells).clock = c.clock := by
  unfold Chip.acceptArrival
  simp only [Chip.count_clock, Chip.report_clock, Chip.modEnt_clock, Chip.openBarrier_clock, Chip.markShort_clock,
    Chip.judgeBarrier_clock, Chip.clock_mk, Chip.clock_tk, apply_ite Chip.clock, ite_self]

theorem Chip.strayRelease_clock (g p course : Nat) : (c.strayRelease g p course).clock = c.clock := by
  unfold Chip.strayRelease
  simp only [Chip.report_clock]

theorem Chip.forwardRelease_clock (g p : Nat) (r : Release) (cells : List Cell) : (c.forwardRelease g p r cells).clock = c.clock := by
  unfold Chip.forwardRelease
  simp only [Chip.count_clock, Chip.closeBegin_clock, Chip.closeDone_clock, Chip.closeIfSent_clock, Chip.sendDown_clock,
    Chip.strayRelease_clock, apply_ite Chip.clock, ite_self]

theorem Chip.releaseAt_clock (p : Nat) {f : Chip → Nat → Release → List Cell → Chip}
    (hf : ∀ x g r l, (f x g r l).clock = x.clock) :
    (c.releaseAt p f).clock = c.clock := by
  unfold Chip.releaseAt
  split
  · rfl
  · split
    · exact c.staleB_clock p _ _
    · dsimp only
      split
      · rfl
      · exact (hf _ _ _ _).trans (c.popRx_clock p _ _)

theorem Chip.overrideClose_clock (g : Nat) : (c.overrideClose g).clock = c.clock := by
  unfold Chip.overrideClose
  split <;> simp only [Chip.close_clock]

/-! ### Groups -/

theorem Chip.sendGcmd_clock (g : Nat) (m : Gcmd) (p : Nat) : (c.sendGcmd g m p).clock = c.clock := by
  unfold Chip.sendGcmd
  simp only [Chip.sendCells_clock, Chip.report_clock, Chip.modEnt_clock, apply_ite Chip.clock, ite_self]

theorem Chip.fanGcmd_clock (g : Nat) (m : Gcmd) : (c.fanGcmd g m).clock = c.clock := by
  unfold Chip.fanGcmd
  simp only [Chip.sendGcmd_clock, clock_foldl, implies_true]

theorem Chip.regroup_clock (g : Nat) : (c.regroup g).clock = c.clock := clock_of_steady (Chip.regroup_steady ..)

theorem Chip.portLost_clock (p : Nat) : (c.portLost p).clock = c.clock := clock_of_steady (Chip.portLost_steady ..)

theorem Chip.groupsUp_clock (p : Nat) : (c.groupsUp p).clock = c.clock := clock_of_steady (Chip.groupsUp_steady ..)

theorem Chip.grCfgBad_clock (g : Nat) : (c.grCfgBad g).clock = c.clock := by
  unfold Chip.grCfgBad
  simp only [Chip.report_clock]

theorem Chip.grQuarBusy_clock (g : Nat) : (c.grQuarBusy g).clock = c.clock := by
  unfold Chip.grQuarBusy
  simp only [Chip.report_clock]

theorem Chip.grField_clock (g : Nat) (f : GrEntry → GrEntry) : (c.grField g f).clock = c.clock := by
  unfold Chip.grField
  split <;> simp only [Chip.modEnt_clock, Chip.grCfgBad_clock, Chip.grQuarBusy_clock]

theorem Chip.grKeyTake_clock (g : Nat) (valid : Bool) (gid gen : Nat) : (c.grKeyTake g valid gid gen).clock = c.clock :=
  clock_of_tk rfl

theorem Chip.grKey_clock (g : Nat) (m : Master) (w : Word) : (c.grKey g m w).1.clock = c.clock := by
  unfold Chip.grKey
  simp only [Chip.guardRefuse_clock, Chip.grCfgBad_clock, Chip.grQuarBusy_clock, Chip.grKeyTake_clock, Chip.clock_mk, Chip.clock_tk,
    apply_ite Chip.clock, ite_self, apply_ite Prod.fst]

theorem Chip.sealEnt_clock (g : Nat) : (c.sealEnt g).clock = c.clock := clock_of_tk rfl

theorem Chip.grSeal_clock (g gen : Nat) : (c.grSeal g gen).clock = c.clock := by
  unfold Chip.grSeal
  simp only [Chip.fanGcmd_clock, Chip.regroup_clock, Chip.grCfgBad_clock, Chip.grQuarBusy_clock, Chip.sealEnt_clock,
    apply_ite Chip.clock, ite_self]

theorem Chip.disarm_clock (g : Nat) : (c.disarm g).clock = c.clock := clock_of_tk rfl

theorem Chip.dissolve_clock (g : Nat) : (c.dissolve g).clock = c.clock := by
  unfold Chip.dissolve
  simp only [Chip.report_clock, Chip.modEnt_clock, Chip.thFault_clock, Chip.stale_clock, Chip.qoccDrop_clock, Chip.unhold_clock,
    Chip.disarm_clock, Chip.clock_mk, Chip.clock_tk, apply_ite Chip.clock, ite_self, clock_foldl, implies_true]

theorem Chip.grDissolve_clock (g gen : Nat) : (c.grDissolve g gen).clock = c.clock := by
  unfold Chip.grDissolve
  simp only [Chip.fanGcmd_clock, Chip.grCfgBad_clock, Chip.grQuarBusy_clock, Chip.dissolve_clock, apply_ite Chip.clock, ite_self]

theorem Chip.clearMortar_clock (g : Nat) : (c.clearMortar g).clock = c.clock := clock_of_tk rfl

theorem Chip.changed_clock (g : Nat) (m : Gcmd) (p : Nat) : (c.changed g m p).clock = c.clock := by
  unfold Chip.changed
  simp only [Chip.report_clock]

theorem Chip.sealOpen_clock (g : Nat) : (c.sealOpen g).clock = c.clock := by
  unfold Chip.sealOpen
  simp only [Chip.sealEnt_clock, apply_ite Chip.clock, ite_self]

theorem Chip.changeOnWay_clock (g : Nat) (m : Gcmd) (from_ : Nat) : (c.changeOnWay g m from_).clock = c.clock := by
  unfold Chip.changeOnWay
  simp only [Chip.report_clock, Chip.modEnt_clock, Chip.sendGcmd_clock, Chip.regroup_clock, Chip.changed_clock, Chip.sealOpen_clock,
    apply_ite Chip.clock, ite_self]

theorem Chip.changeHere_clock (g : Nat) (m : Gcmd) (from_ : Nat) : (c.changeHere g m from_).clock = c.clock := by
  unfold Chip.changeHere
  simp only [Chip.fanGcmd_clock, Chip.regroup_clock, Chip.changed_clock, Chip.sealOpen_clock, apply_ite Chip.clock, ite_self]

theorem Chip.expelHeld_clock (g n : Nat) : (c.expelHeld g n).clock = c.clock := by
  unfold Chip.expelHeld
  simp only [Chip.modEnt_clock, Chip.unhold_clock, apply_ite Chip.clock, ite_self]

theorem Chip.changeDie_clock (g : Nat) (m : Gcmd) (from_ : Nat) : (c.changeDie g m from_).clock = c.clock := by
  unfold Chip.changeDie
  extract_lets taken told faulted released
  have htaken : taken.clock = c.clock := clock_ite ((Chip.modEnt_clock _ _ _).trans (c.sealEnt_clock g))
    ((Chip.expelHeld_clock _ _ _).trans (c.modEnt_clock g _))
  have htold : told.clock = c.clock := (taken.changed_clock g m from_).trans htaken
  have hfaulted : faulted.clock = c.clock :=
    clock_ite ((clock_foldl _ _ told fun x t => x.thFault_clock _ _ _).trans htold) htold
  have hreleased : released.clock = c.clock := by
    simp only [released]
    split
    · exact clock_ite ((faulted.memberRelease_clock g _).trans hfaulted) hfaulted
    · exact hfaulted
  exact (Chip.dieCensus_clock _).trans ((released.regroup_clock g).trans hreleased)

theorem Chip.applyChange_clock (g : Nat) (m : Gcmd) (from_ : Nat) : (c.applyChange g m from_).clock = c.clock := by
  unfold Chip.applyChange
  simp only [Chip.changeOnWay_clock, Chip.changeHere_clock, Chip.changeDie_clock, apply_ite Chip.clock, ite_self]

theorem Chip.grChange_clock (g : Nat) (m : Gcmd) : (c.grChange g m).clock = c.clock := by
  unfold Chip.grChange
  simp only [Chip.report_clock, Chip.modEnt_clock, Chip.grQuarBusy_clock, Chip.applyChange_clock, apply_ite Chip.clock, ite_self]

theorem Chip.grCmd_clock (g : Nat) (m : Master) (w : Word) : (c.grCmd g m w).clock = c.clock := by
  unfold Chip.grCmd
  extract_lets a0 x
  split
  · exact c.grSeal_clock g _
  · exact c.grDissolve_clock g _
  · exact c.grChange_clock g x
  · exact c.grChange_clock g x
  · exact clock_ite (c.grQuarBusy_clock g) (c.grCfgBad_clock g)

theorem Chip.gcmdAt_clock (p op : Nat) (ok : GrEntry → Gcmd → Bool) {f : Chip → Nat → Gcmd → Chip}
    (hf : ∀ x g m, (f x g m).clock = x.clock) : (c.gcmdAt p op ok f).clock = c.clock := by
  have hpop : (c.popRx p clsM 1).clock = c.clock := c.popRx_clock p _ _
  unfold Chip.gcmdAt
  split
  · rfl
  · refine clock_ite rfl ?_
    dsimp only
    split
    · exact (Chip.stale_clock _ _ _ _ _).trans hpop
    · refine clock_ite ((Chip.stale_clock _ _ _ _ _).trans hpop) (clock_ite ((hf _ _ _).trans hpop) ?_)
      exact (Chip.stale_clock _ _ _ _ _).trans hpop

theorem Chip.censusAt_clock (p : Nat) (down : Bool) {f : Chip → Nat → Cell → Chip} (hf : ∀ x g y, (f x g y).clock = x.clock) :
    (c.censusAt p down f).clock = c.clock := by
  unfold Chip.censusAt
  split
  · rfl
  · refine clock_ite rfl ?_
    split
    · exact c.staleB_clock p _ _
    · exact (hf _ _ _).trans (c.popRx_clock p _ _)

/-! ### Semaphores and remote signals -/

theorem Chip.modSem_clock (n : Nat) (f : SemState → SemState) : (c.modSem n f).clock = c.clock := clock_of_beat (Chip.modSem_beat ..)

theorem Chip.semFault_clock (e : Ev) (sem : Nat) (who : Who) : (c.semFault e sem who).clock = c.clock :=
  clock_of_beat (Chip.semFault_beat ..)

theorem Chip.semSignal_clock (who : Who) (sem n : Nat) (dir : Bool) (tag : Nat) : (c.semSignal who sem n dir tag).1.clock = c.clock :=
  clock_of_beat (Chip.semSignal_beat ..)

theorem Chip.granted_clock (a : Nat) (w : WaitState) : (c.granted a w).clock = c.clock := clock_of_beat (Chip.granted_beat ..)

theorem Chip.withdraw_clock (a : Nat) : (c.withdraw a).clock = c.clock := clock_of_beat (Chip.withdraw_beat ..)

theorem Chip.semSetevent_clock (who : Who) (sem : Nat) : (c.semSetevent who sem).1.clock = c.clock :=
  clock_of_beat (Chip.semSetevent_beat ..)

theorem Chip.semWait_clock (a sem n : Nat) (dir ord : Bool) (rank tag : Nat) : (c.semWait a sem n dir ord rank tag).1.clock = c.clock :=
  clock_of_beat (Chip.semWait_beat ..)

theorem Chip.takeGrant_clock (a : Nat) (w : WaitState) : (c.takeGrant a w).clock = c.clock := by
  unfold Chip.takeGrant
  simp only [Chip.modSem_clock, Chip.clock_mk, Chip.clock_tk, apply_ite Chip.clock, ite_self]

theorem Chip.semSigr_clock (a gte n : Nat) (dir : Bool) (tag : Nat) : (c.semSigr a gte n dir tag).1.clock = c.clock :=
  clock_of_beat (Chip.semSigr_beat ..)

theorem Chip.coreExec_clock (s : Nat) (r : CoreReq) : (c.coreExec s r).clock = c.clock := clock_of_beat (Chip.coreExec_beat ..)

theorem Chip.coreReq_clock (s : Nat) (r : CoreReq) : (c.coreReq s r).clock = c.clock := by
  unfold Chip.coreReq
  simp only [Chip.coreExec_clock, Chip.clock_mk, Chip.clock_tk, apply_ite Chip.clock, ite_self]

theorem Chip.masterExec_clock (m : Master) (o : MasterOp) : (c.masterExec m o).clock = c.clock :=
  clock_of_beat (Chip.masterExec_beat ..)

theorem Chip.masterWait_clock (m : Master) (o : MasterOp) : (c.masterWait m o).clock = c.clock := clock_of_tk rfl

theorem Chip.masterOps_clock (m : Master) (l : List MasterOp) : (c.masterOps m l).clock = c.clock := by
  unfold Chip.masterOps
  split <;> simp only [Chip.masterExec_clock, Chip.masterWait_clock, Chip.clock_mk, Chip.clock_tk, apply_ite Chip.clock, ite_self,
    clock_foldl, implies_true]

theorem Chip.pendCheck_clock : c.pendCheck.clock = c.clock := clock_of_beat (Chip.pendCheck_beat ..)

theorem Chip.pendTake_clock (i : Nat) (x : PendEntry) : (c.pendTake i x).clock = c.clock := by
  unfold Chip.pendTake
  simp only [Chip.pendCheck_clock, Chip.clock_mk, Chip.clock_tk]

theorem Chip.fcSeen_clock (src chan rx : Nat) : (c.fcSeen src chan rx).clock = c.clock := clock_of_tk rfl

theorem Chip.rsigBad_clock (x : Cell) : (c.rsigBad x).clock = c.clock := by
  unfold Chip.rsigBad
  simp only [Chip.report_clock]

theorem Chip.stageOut_clock (x : Staged) (gate : Nat) : (c.stageOut x gate).clock = c.clock := by
  unfold Chip.stageOut
  extract_lets own p leave sent counted
  have hleave : ∀ d : Chip, (leave d).clock = d.clock := fun _ => rfl
  have hcounted : counted.clock = c.clock :=
    (Chip.count_clock _ _ _ _).trans ((Chip.bump_clock _ _ _ _ _).trans ((Chip.sendCells_clock _ _ _ _).trans (hleave c)))
  split
  · split
    · rfl
    · exact (Chip.pendTake_clock _ _ _).trans (hleave c)
  · refine clock_ite ((Chip.rsigBad_clock _ _).trans (hleave c)) (clock_ite ?_ rfl)
    exact (Chip.activity_clock _ _).trans ((Chip.modEnt_clock _ _ _).trans hcounted)

theorem Chip.releaseTurn_clock : c.releaseTurn.clock = c.clock := clock_of_beat (Chip.releaseTurn_beat ..)

/-! ### Reads of the blocks -/

theorem Chip.modTs_clock (t : Nat) (f : TsTap → TsTap) : (c.modTs t f).clock = c.clock := clock_of_tk rfl

theorem Chip.modPo_clock (o : Nat) (f : PoOut → PoOut) : (c.modPo o f).clock = c.clock := clock_of_tk rfl

end Clock

end Sys2Proof.Machine
end

section
/-!
What the sequencer, the hang detectors, the recorder, the MAC taps and the outputs leave of the clock (R58, R64).
-/

namespace Sys2Proof.Machine

section Clock

variable (c : Chip)

/-! ### The sequencer -/

theorem Chip.threadStart_clock (t : Nat) : (c.threadStart t).clock = c.clock := by
  unfold Chip.threadStart
  simp only [Chip.modTh_clock, Chip.toRun_clock, apply_ite Chip.clock, ite_self]

theorem Chip.threadHalt_clock (t : Nat) : (c.threadHalt t).clock = c.clock := by
  unfold Chip.threadHalt
  simp only [Chip.modTh_clock, Chip.withdraw_clock, apply_ite Chip.clock, ite_self]

theorem Chip.releaseWithheld_clock (t : Nat) : (c.releaseWithheld t).clock = c.clock := by
  unfold Chip.releaseWithheld
  simp only [Chip.mapArmed_clock, Chip.lineDead_clock, clock_foldl, implies_true]

theorem Chip.threadResume_clock (t : Nat) : (c.threadResume t).clock = c.clock := by
  unfold Chip.threadResume
  simp only [Chip.modTh_clock, Chip.releaseWithheld_clock, apply_ite Chip.clock, ite_self]

theorem Chip.threadCancel_clock (t : Nat) : (c.threadCancel t).clock = c.clock := by
  unfold Chip.threadCancel
  simp only [Chip.cancelArms_clock, apply_ite Chip.clock, ite_self]

theorem Chip.tctrl_clock (t : Nat) (w : Word) : (c.tctrl t w).clock = c.clock := by
  unfold Chip.tctrl
  simp only [Chip.threadStart_clock, Chip.threadHalt_clock, Chip.threadResume_clock, Chip.threadCancel_clock, apply_ite Chip.clock,
    ite_self]

theorem Chip.sqSoftReset_clock : c.sqSoftReset.clock = c.clock := by
  unfold Chip.sqSoftReset
  simp only [Chip.cancelArms_clock, Chip.withdraw_clock, Chip.clock_mk, Chip.clock_tk, clock_foldl, implies_true]

theorem Chip.issued_clock (t : Nat) : (c.issued t).clock = c.clock := by
  unfold Chip.issued
  simp only [Chip.count_clock, Chip.modTh_clock, Chip.clock_mk, Chip.clock_tk]

theorem Chip.issue_clock (t op : Nat) {f : Chip → BitVec 64 → Chip} (hf : ∀ x w, (f x w).clock = x.clock) :
    (c.issue t op f).clock = c.clock :=
  clock_ite rfl ((hf _ _).trans (c.issued_clock t))

theorem Chip.nextPc_clock (t : Nat) : (c.nextPc t).clock = c.clock := clock_of_tk rfl

theorem Chip.badOpnd_clock (t : Nat) : (c.badOpnd t).clock = c.clock := by
  unfold Chip.badOpnd
  simp only [Chip.thFault_clock]

theorem Chip.noGroup_clock (t : Nat) : (c.noGroup t).clock = c.clock := by
  unfold Chip.noGroup
  simp only [Chip.thFault_clock]

theorem Chip.setBase_clock (t b : Nat) : (c.setBase t b).clock = c.clock := clock_of_tk rfl

theorem Chip.armSet_clock (t set tf : Nat) (lines : List Nat) : (c.armSet t set tf lines).clock = c.clock := clock_of_tk rfl

theorem Chip.fireSet_clock (t set tf : Nat) : (c.fireSet t set tf).clock = c.clock := by
  unfold Chip.fireSet
  simp only [Chip.badOpnd_clock, Chip.noGroup_clock, Chip.armSet_clock, apply_ite Chip.clock, ite_self]

theorem Chip.parityStop_clock (t word : Nat) : (c.parityStop t word).clock = c.clock := by
  unfold Chip.parityStop
  simp only [Chip.report_clock, Chip.thStop_clock, Chip.clock_mk, Chip.clock_tk]

theorem Chip.contribBad_clock (t : Nat) (e : Ev) (clear : Nat) : (c.contribBad t e clear).clock = c.clock := by
  unfold Chip.contribBad
  simp only [Chip.report_clock, Chip.detClear_clock, Chip.nextPc_clock]

theorem Chip.syncMark_clock (t : Nat) : (c.syncMark t).clock = c.clock := clock_of_tk rfl

theorem threadOp_clock (t : Nat) (r : Chip × Bool) {f : Chip → Chip} (hf : ∀ x, (f x).clock = x.clock) :
    (threadOp t r f).clock = r.1.clock :=
  clock_ite ((hf _).trans (r.1.nextPc_clock t)) (r.1.thStop_clock t 6)

theorem Chip.fenceAsk_clock (t tag : Nat) : (c.fenceAsk t tag).clock = c.clock := clock_of_tk rfl

/-! ### Capsule, escalation, fence and solo replay -/

theorem Chip.capture_clock (q : CapReq) : (c.capture q).1.clock = c.clock := by
  unfold Chip.capture
  simp only [Chip.bump_clock, Chip.report_clock, Chip.clock_mk, Chip.clock_tk, apply_ite Chip.clock, ite_self, apply_ite Prod.fst]

theorem Chip.clock_withCp (x : CpState) : ({ c with cp := x } : Chip).clock = c.clock := rfl

theorem Chip.mirrorOver_clock (beats : List Nat) : (c.mirrorOver beats).clock = c.clock := by
  unfold Chip.mirrorOver
  refine clock_ite rfl ?_
  dsimp only
  split
  · exact (Chip.mwRefuse_clock _ _).trans (c.clock_withCp _)
  · exact c.clock_withCp _

theorem Chip.mirrorStart_clock : c.mirrorStart.clock = c.clock := by
  rw [Chip.mirrorStart_eq]
  exact c.mirrorOver_clock _

theorem Chip.cpRelease_clock : c.cpRelease.clock = c.clock := by
  unfold Chip.cpRelease
  simp only [Chip.clock_mk, Chip.clock_tk, apply_ite Chip.clock, ite_self]

theorem Chip.logStep_clock (step n : Nat) : (c.logStep step n).clock = c.clock :=
  clock_of_tk (congrArg Chip.tk (c.beside_logStep step n) :)

theorem Chip.logAck_clock (step n at_ : Nat) : (c.logAck step n at_).clock = c.clock := by
  unfold Chip.logAck
  simp only [Chip.clock_mk, Chip.clock_tk]

theorem Chip.setRes_clock (k res : Nat) : (c.setRes k res).clock = c.clock := clock_of_tk rfl

theorem Chip.soloEnd_clock : c.soloEnd.clock = c.clock := by
  unfold Chip.soloEnd
  simp only [Chip.report_clock, Chip.modTh_clock, Chip.threadHalt_clock, Chip.clock_mk, Chip.clock_tk]

theorem Chip.soloTurn_clock : c.soloTurn.clock = c.clock := by
  unfold Chip.soloTurn
  split <;> simp only [Chip.modTh_clock, Chip.toRun_clock, Chip.soloEnd_clock, Chip.clock_mk, Chip.clock_tk, apply_ite Chip.clock,
    ite_self]

theorem Chip.soloNext_clock : c.soloNext.clock = c.clock := by
  unfold Chip.soloNext
  simp only [Chip.soloTurn_clock, Chip.clock_mk, Chip.clock_tk]

theorem Chip.soloStart_clock : c.soloStart.clock = c.clock := by
  unfold Chip.soloStart
  simp only [Chip.report_clock, Chip.soloTurn_clock, Chip.clock_mk, Chip.clock_tk, apply_ite Chip.clock, ite_self]

theorem Chip.soloAbort_clock : c.soloAbort.clock = c.clock := by
  unfold Chip.soloAbort
  simp only [Chip.soloEnd_clock, apply_ite Chip.clock, ite_self]

theorem Chip.soloAcked_clock (e : Nat) : (c.soloAcked e).clock = c.clock := by
  unfold Chip.soloAcked
  split <;> simp only [Chip.soloNext_clock, apply_ite Chip.clock, ite_self]

theorem Chip.fenceDiscard_clock (p cls : Nat) : (c.fenceDiscard p cls).clock = c.clock := by
  unfold Chip.fenceDiscard
  simp only [Chip.bump_clock, Chip.note_clock, Chip.record_clock, Chip.popRx_clock, Chip.clock_mk, Chip.clock_tk,
    apply_ite Chip.clock, ite_self]

theorem Chip.fencePort_clock (p : Nat) : (c.fencePort p).clock = c.clock := by
  unfold Chip.fencePort
  simp only [Chip.fenceDiscard_clock, clock_foldl, implies_true]

theorem Chip.fence_clock : c.fence.clock = c.clock := by
  unfold Chip.fence
  simp only [Chip.sendCells_clock, Chip.inoteOn_clock, Chip.mapArmed_clock, Chip.threadHalt_clock, Chip.setRes_clock,
    Chip.soloEnd_clock, Chip.fencePort_clock, Chip.clock_mk, Chip.clock_tk, apply_ite Chip.clock, ite_self, clock_foldl, implies_true]

theorem Chip.resetsEnd_clock : c.resetsEnd.clock = c.clock := clock_of_tk rfl

theorem Chip.unfence_clock : c.unfence.clock = c.clock := by
  unfold Chip.unfence
  simp only [Chip.report_clock, Chip.censusSend_clock, Chip.fence_clock, Chip.resetsEnd_clock, apply_ite Chip.clock, ite_self,
    clock_foldl, implies_true]

theorem Chip.engReset_clock (e : Nat) : (c.engReset e).clock = c.clock := by
  unfold Chip.engReset
  simp only [Chip.report_clock, Chip.modEng_clock, Chip.logStep_clock]

theorem Chip.escalateWaiting_clock : c.escalateWaiting.clock = c.clock := by
  unfold Chip.escalateWaiting
  simp only [Chip.engReset_clock, clock_foldl, implies_true]

theorem Chip.escalate_clock (engs : List Nat) (held : Bool) : (c.escalate engs held).clock = c.clock := by
  unfold Chip.escalate
  simp only [Chip.modEng_clock, Chip.engReset_clock, apply_ite Chip.clock, ite_self, clock_foldl, implies_true]

theorem Chip.ereset_clock (e : Nat) : (c.ereset e).clock = c.clock := by
  unfold Chip.ereset
  simp only [Chip.engReset_clock, apply_ite Chip.clock, ite_self]

theorem Chip.recovered_clock (e at_ : Nat) : (c.recovered e at_).clock = c.clock := by
  unfold Chip.recovered
  simp only [Chip.report_clock, Chip.modEng_clock, Chip.soloAcked_clock]

theorem Chip.engTake_clock (e at_ : Nat) (i : EngIn) : (c.engTake e at_ i).clock = c.clock := by
  cases i with
  | heartbeat => exact c.modEng_clock e _
  | done =>
    have hdone : (c.engineDone e at_).clock = c.clock := c.engineDone_clock e at_
    unfold Chip.engTake
    dsimp only
    split
    · exact clock_ite ((Chip.soloNext_clock _).trans ((Chip.setRes_clock _ _ _).trans hdone)) hdone
    · exact hdone
  | start ctx => exact c.ctxStart_clock e ctx at_
  | rack => exact clock_ite ((Chip.recovered_clock _ _ _).trans (c.logAck_clock 1 e at_)) rfl

theorem Chip.engSample_clock (e : Nat) (phase : Fin 64) (i : EngIn) : (c.engSample e phase i).clock = c.clock := by
  unfold Chip.engSample
  simp only [Chip.modTap_clock, Chip.engTake_clock, apply_ite Chip.clock, ite_self]

theorem Chip.regionRestart_clock (t op phase : Nat) : (c.regionRestart t op phase).clock = c.clock := by
  unfold Chip.regionRestart
  simp only [Chip.count_clock, Chip.modTap_clock, Chip.linesFall_clock, Chip.regionResume_clock, Chip.engTake_clock, clock_foldl,
    implies_true]

theorem Chip.regionEdge_clock (t phase : Nat) : (c.regionEdge t phase).clock = c.clock := by
  unfold Chip.regionEdge
  simp only [Chip.regionRestart_clock, apply_ite Chip.clock, ite_self]

theorem Chip.regionPeriod_clock (t p : Nat) : (c.regionPeriod t p).clock = c.clock := by
  unfold Chip.regionPeriod
  simp only [Chip.count_clock, Chip.report_clock, Chip.sample_clock, Chip.modTap_clock, Chip.rollTaps_clock, apply_ite Chip.clock,
    ite_self]

theorem Chip.buildSuspects_clock : c.buildSuspects.clock = c.clock := by
  unfold Chip.buildSuspects
  simp only [Chip.clock_mk, Chip.clock_tk]

theorem Chip.cpTake_clock : c.cpTake.clock = c.clock := by
  unfold Chip.cpTake
  simp only [Chip.capture_clock, Chip.buildSuspects_clock]

theorem Chip.detected_clock (action : Nat) (q : CapReq) (escalates : Bool) : (c.detected action q escalates).clock = c.clock := by
  unfold Chip.detected
  simp only [Chip.capture_clock, Chip.escalate_clock, apply_ite Chip.clock, ite_self]

/-! ### The deadlock detector -/

theorem Chip.modDl_clock (g : Nat) (f : DlGroup → DlGroup) : (c.modDl g f).clock = c.clock := clock_of_tk rfl

theorem Chip.declare_clock (g : Nat) (ev : Ev) (second : Option Word) : (c.declare g ev second).clock = c.clock := by
  unfold Chip.declare
  simp only [Chip.report_clock, Chip.capture_clock, Chip.modDl_clock]

theorem Chip.nagentCheck_clock (g : Nat) : (c.nagentCheck g).clock = c.clock := by
  unfold Chip.nagentCheck
  simp only [Chip.report_clock, Chip.modDl_clock, apply_ite Chip.clock, ite_self]

theorem Chip.roundEnd_clock (g : Nat) (r : ProbeRound) : (c.roundEnd g r).clock = c.clock := by
  unfold Chip.roundEnd
  simp only [Chip.sendCells_clock, Chip.modEnt_clock, Chip.probeUp_clock, apply_ite Chip.clock, ite_self, clock_foldl, implies_true]

theorem Chip.roundJoin_clock (g : Nat) (r : ProbeRound) : (c.roundJoin g r).clock = c.clock := by
  unfold Chip.roundJoin
  simp only [Chip.modEnt_clock, Chip.roundEnd_clock, apply_ite Chip.clock, ite_self]

theorem Chip.probeMeets_clock (g p : Nat) (x : Cell) : (c.probeMeets g p x).clock = c.clock := by
  unfold Chip.probeMeets
  split <;> simp only [Chip.modEnt_clock, Chip.popRx_clock, Chip.roundEnd_clock, Chip.roundJoin_clock, apply_ite Chip.clock, ite_self]

theorem Chip.probeAt_clock (p : Nat) (down : Bool) {f : Chip → Nat → Cell → Chip} (hf : ∀ x g y, (f x g y).clock = x.clock) :
    (c.probeAt p down f).clock = c.clock := by
  unfold Chip.probeAt
  split
  · rfl
  · refine clock_ite rfl ?_
    split
    · exact c.staleB_clock p _ _
    · exact hf _ _ _

theorem Chip.memberVerdict_clock (g : Nat) (x : Cell) : (c.memberVerdict g x).clock = c.clock := by
  unfold Chip.memberVerdict
  simp only [Chip.modDl_clock, Chip.declare_clock, apply_ite Chip.clock, ite_self]

theorem Chip.dlSoftReset_clock : c.dlSoftReset.clock = c.clock := clock_of_tk rfl

/-! ### The event recorder -/

theorem Chip.overwrite_clock (n : Nat) : (c.overwrite n).clock = c.clock := by
  unfold Chip.overwrite
  simp only [Chip.note_clock, Chip.record_clock, Chip.clock_mk, Chip.clock_tk, apply_ite Chip.clock, ite_self]

theorem Chip.hmLog2_clock : c.hmLog2.2.clock = c.clock := by
  unfold Chip.hmLog2
  dsimp only
  split <;> rfl

theorem Chip.mwIssue_clock (beat : Nat × List Word) : (c.mwIssue beat).clock = c.clock := clock_of_tk rfl

theorem Chip.hostMirror_clock (n : Nat) (ws : List Word) : (c.hostMirror n ws).clock = c.clock := by
  unfold Chip.hostMirror
  simp only [Chip.mwRefuse_clock, Chip.hmLog2_clock, Chip.mwIssue_clock, Chip.clock_mk, Chip.clock_tk, apply_ite Chip.clock, ite_self]

theorem Chip.upload_clock (sev : Nat) (ws : List Word) : (c.upload sev ws).clock = c.clock := by
  unfold Chip.upload
  simp only [Chip.sendCells_clock, apply_ite Chip.clock, ite_self, clock_foldl, implies_true]

theorem Chip.dropRecord_clock : c.dropRecord.clock = c.clock := by
  unfold Chip.dropRecord
  simp only [Chip.record_clock, Chip.clock_mk, Chip.clock_tk, apply_ite Chip.clock, ite_self]

theorem Chip.mwResume_clock : c.mwResume.clock = c.clock := by
  unfold Chip.mwResume
  simp only [Chip.hostMirror_clock, Chip.clock_mk, Chip.clock_tk, clock_foldl, implies_true]

theorem Chip.evRestore_clock (m : Master) (w : Word) : (c.evRestore m w).clock = c.clock := by
  unfold Chip.evRestore
  simp only [Chip.report_clock, Chip.clock_mk, Chip.clock_tk, apply_ite Chip.clock, ite_self]

theorem Chip.rdseqWrite_clock (w : Word) : (c.rdseqWrite w).clock = c.clock := by
  unfold Chip.rdseqWrite
  simp only [Chip.setReg_clock, Chip.clock_mk, Chip.clock_tk, apply_ite Chip.clock, ite_self]

theorem Chip.mirseqWrite_clock (w : Word) : (c.mirseqWrite w).clock = c.clock := by
  unfold Chip.mirseqWrite
  simp only [Chip.setReg_clock, Chip.record_clock, Chip.clock_mk, Chip.clock_tk, apply_ite Chip.clock, ite_self]

theorem Chip.uploadPop_clock : c.uploadPop.2.clock = c.clock := by
  unfold Chip.uploadPop
  split <;> simp only [Chip.clock_mk, Chip.clock_tk]

theorem Chip.uploadTake_clock (x : Cell) : (c.uploadTake x).clock = c.clock := by
  unfold Chip.uploadTake
  simp only [Chip.report_clock, Chip.clock_mk, Chip.clock_tk, apply_ite Chip.clock, ite_self]

/-! ### MAC taps and the plumb check -/

theorem Chip.sofMiss_clock (t : Nat) (missed : Bool) : (c.sofMiss t missed).clock = c.clock := by
  unfold Chip.sofMiss
  simp only [Chip.report_clock, apply_ite Chip.clock, ite_self]

theorem Chip.txEnter_clock (t fid : Nat) (missed : Bool) (time : Nat) : (c.txEnter t fid missed time).clock = c.clock := by
  unfold Chip.txEnter
  simp only [Chip.report_clock, Chip.modTs_clock, apply_ite Chip.clock, ite_self]

theorem Chip.plumbSent_clock (t : Nat) (missed : Bool) (time : Nat) : (c.plumbSent t missed time).clock = c.clock := clock_of_tk rfl

theorem Chip.softStamp_clock : c.softStamp.2.clock = c.clock := clock_of_tk rfl

theorem Chip.swLost_clock (src : Nat) : (c.swLost src).clock = c.clock := by
  unfold Chip.swLost
  simp only [Chip.report_clock]

theorem Chip.swEnter_clock (src time : Nat) : (c.swEnter src time).clock = c.clock := by
  unfold Chip.swEnter
  simp only [Chip.swLost_clock, Chip.clock_mk, Chip.clock_tk, apply_ite Chip.clock, ite_self]

theorem Chip.swEdge_clock (i : Nat) : (c.swEdge i).clock = c.clock := by
  unfold Chip.swEdge
  simp only [Chip.pinEdges_clock, Chip.clock_mk, Chip.clock_tk, apply_ite Chip.clock, ite_self]

theorem Chip.suspectEval_clock : c.suspectEval.clock = c.clock := by
  unfold Chip.suspectEval
  simp only [Chip.report_clock, Chip.clock_mk, Chip.clock_tk, apply_ite Chip.clock, ite_self]

theorem Chip.plumbWindow_clock (t : Nat) : (c.plumbWindow t).clock = c.clock := by
  unfold Chip.plumbWindow
  simp only [Chip.report_clock, Chip.modTs_clock, Chip.suspectEval_clock, apply_ite Chip.clock, ite_self]

theorem Chip.plumbNeighbour_clock (t addr : Nat) : (c.plumbNeighbour t addr).clock = c.clock := by
  unfold Chip.plumbNeighbour
  split <;> simp only [Chip.modTs_clock, Chip.suspectEval_clock, apply_ite Chip.clock, ite_self]

theorem Chip.plumbDiscard_clock (t : Nat) : (c.plumbDiscard t).clock = c.clock := by
  unfold Chip.plumbDiscard
  simp only [Chip.report_clock, Chip.modTs_clock]

theorem Chip.plumbFrame_clock (t : Nat) (pay : List Word) : (c.plumbFrame t pay).clock = c.clock := by
  unfold Chip.plumbFrame
  extract_lets met r stamp got
  have hgot : got.clock = c.clock := (Chip.modTs_clock _ _ _).trans (c.plumbNeighbour_clock t _)
  clear_value got r
  split
  · exact (got.modTs_clock t _).trans hgot
  · extract_lets mag summed
    have hsummed : summed.clock = c.clock := (got.modTs_clock t _).trans hgot
    exact clock_ite ((summed.plumbWindow_clock t).trans hsummed) hsummed

theorem Chip.tsSoftReset_clock : c.tsSoftReset.clock = c.clock := clock_of_tk rfl

/-! ### Pulse outputs -/

theorem Chip.poEdges_clock (before : Chip) (o : Nat) : (c.poEdges before o).clock = c.clock := clock_of_beat (Chip.poEdges_beat ..)

theorem Chip.poAllEdges_clock (before : Chip) : (c.poAllEdges before).clock = c.clock := clock_of_beat (Chip.poAllEdges_beat ..)

theorem Chip.poBusy_clock (o : Nat) : (c.poBusy o).clock = c.clock := by
  unfold Chip.poBusy
  simp only [Chip.report_clock]

theorem Chip.poArm_clock (o : Nat) (m : Master) (w : Word) : (c.poArm o m w).1.clock = c.clock := by
  unfold Chip.poArm
  simp only [Chip.takeFree_clock, Chip.guardRefuse_clock, Chip.modPo_clock, Chip.poBusy_clock, apply_ite Chip.clock, ite_self,
    apply_ite Prod.fst]

theorem Chip.poDisarm_clock (o : Nat) : (c.poDisarm o).clock = c.clock := clock_of_tk rfl

theorem Chip.poRise_clock (o : Nat) : (c.poRise o).clock = c.clock := by
  unfold Chip.poRise
  simp only [Chip.report_clock, Chip.modPo_clock, apply_ite Chip.clock, ite_self]

theorem Chip.poFall_clock (o : Nat) : (c.poFall o).clock = c.clock := clock_of_tk rfl

theorem Chip.poFell_clock (before : Chip) (o : Nat) : (c.poFell before o).clock = c.clock := by
  unfold Chip.poFell
  simp only [Chip.modPo_clock, apply_ite Chip.clock, ite_self]

theorem Chip.poSoftReset_clock : c.poSoftReset.clock = c.clock := clock_of_tk rfl

end Clock

end Sys2Proof.Machine
end

section
/-!
What the controller, the servo, the tree engine and the lanes leave of the clock (R58, R64).
-/

namespace Sys2Proof.Machine

section Clock

variable (c : Chip)

/-! ### Limits and the controller's images -/

theorem Chip.accRefuse_clock (e : Ev) (kind : Nat) (m : Master) (addr : Nat) (w : Word) :
    (c.accRefuse e kind m addr w).clock = c.clock :=
  clock_of_calm (Chip.accRefuse_calm ..)

theorem Chip.accRights_clock (m : Master) (addr : Nat) (w : Word) : (c.accRights m addr w).clock = c.clock := by
  unfold Chip.accRights
  simp only [Chip.accRefuse_clock]

theorem Chip.accLocked_clock (m : Master) (addr : Nat) (w : Word) : (c.accLocked m addr w).clock = c.clock := by
  unfold Chip.accLocked
  simp only [Chip.accRefuse_clock]

theorem Chip.limitWrite_clock (l : GuardLimit) (m : Master) (w : Word) : (c.limitWrite l m w).1.clock = c.clock := by
  unfold Chip.limitWrite
  simp only [Chip.setReg_clock, Chip.guardRefuse_clock, Chip.accLocked_clock, apply_ite Chip.clock, ite_self, apply_ite Prod.fst]

theorem Chip.override_clock (m : Master) (w : Word) : (c.override m w).clock = c.clock := by
  unfold Chip.override
  simp only [Chip.bump_clock, Chip.report_clock, Chip.guardRefuse_clock, Chip.overrideClose_clock, apply_ite Chip.clock, ite_self]

theorem Chip.ctlReset_clock : c.ctlReset.clock = c.clock := clock_of_tk rfl

theorem Chip.boot_clock : c.boot.clock = c.clock := clock_of_tk rfl

theorem Chip.coldBoot_clock : c.coldBoot.clock = c.clock := clock_of_tk rfl

theorem Chip.imgVerdict_clock (src : Option Bool) (readOk : Bool) : (c.imgVerdict src readOk).2.clock = c.clock := by
  unfold Chip.imgVerdict
  split
  · rfl
  · split <;> rfl

theorem Chip.bankStatus_clock (b : Bool) (rsn : Option Nat) : (c.bankStatus b rsn).clock = c.clock := by
  unfold Chip.bankStatus
  simp only [Chip.clock_mk, Chip.clock_tk, apply_ite Chip.clock, ite_self]

theorem Chip.imgBad_clock (rsn : Nat) : (c.imgBad rsn).clock = c.clock := by
  unfold Chip.imgBad
  simp only [Chip.report_clock]

theorem Chip.ctlStart_clock (src : Option Bool) : (c.ctlStart src).clock = c.clock := clock_of_tk rfl

theorem Chip.revert_clock (rsn : Nat) : (c.revert rsn).clock = c.clock := by
  unfold Chip.revert
  simp only [Chip.report_clock, Chip.ctlReset_clock, Chip.boot_clock, Chip.clock_mk, Chip.clock_tk]

theorem Chip.noImage_clock : c.noImage.clock = c.clock := by
  unfold Chip.noImage
  simp only [Chip.report_clock, Chip.clock_mk, Chip.clock_tk]

theorem Chip.imgFailed_clock (rsn : Nat) : (c.imgFailed rsn).clock = c.clock := by
  unfold Chip.imgFailed
  simp only [Chip.imgBad_clock, Chip.revert_clock, Chip.noImage_clock, Chip.clock_mk, Chip.clock_tk, apply_ite Chip.clock, ite_self]

theorem Chip.stgAddr_clock (m : Master) (w : Word) : (c.stgAddr m w).clock = c.clock := by
  unfold Chip.stgAddr
  simp only [Chip.setRegOf_clock, Chip.clock_mk, Chip.clock_tk, apply_ite Chip.clock, ite_self]

theorem Chip.stgErr_clock : c.stgErr.clock = c.clock := by
  unfold Chip.stgErr
  simp only [Chip.report_clock]

theorem Chip.stgNext_clock (m : Master) : (c.stgNext m).clock = c.clock := by
  unfold Chip.stgNext
  simp only [Chip.setRegOf_clock, apply_ite Chip.clock, ite_self]

theorem Chip.stgData_clock (m : Master) (w : Word) : (c.stgData m w).clock = c.clock := by
  unfold Chip.stgData
  simp only [Chip.stgErr_clock, Chip.stgNext_clock, Chip.clock_mk, Chip.clock_tk, apply_ite Chip.clock, ite_self]

theorem Chip.fwVerify_clock : c.fwVerify.clock = c.clock := by
  unfold Chip.fwVerify
  refine clock_ite rfl ?_
  extract_lets b f v banked fw ended
  have hbanked : banked.clock = c.clock := (Chip.bankStatus_clock _ _ _).trans ((Chip.imgVerdict_clock _ _ _).trans rfl)
  have hended : ended.clock = c.clock := hbanked
  clear_value ended
  split
  · exact hended
  · exact (ended.imgBad_clock _).trans hended

theorem Chip.fwHold_clock : c.fwHold.clock = c.clock := clock_of_tk rfl

theorem Chip.fwRelease_clock : c.fwRelease.clock = c.clock := by
  unfold Chip.fwRelease
  simp only [Chip.boot_clock, Chip.clock_mk, Chip.clock_tk, apply_ite Chip.clock, ite_self]

theorem Chip.fwSwitch_clock : c.fwSwitch.clock = c.clock := by
  unfold Chip.fwSwitch
  simp only [Chip.note_clock, Chip.clock_mk, Chip.clock_tk, apply_ite Chip.clock, ite_self]

theorem Chip.fwHandover_clock : c.fwHandover.clock = c.clock := by
  unfold Chip.fwHandover
  simp only [Chip.report_clock, Chip.ctlReset_clock, Chip.boot_clock, Chip.clock_mk, Chip.clock_tk, apply_ite Chip.clock, ite_self]

theorem Chip.fwCommit_clock : c.fwCommit.clock = c.clock := by
  unfold Chip.fwCommit
  simp only [Chip.clock_mk, Chip.clock_tk, apply_ite Chip.clock, ite_self]

theorem Chip.fwCmd_clock (m : Master) (w : Word) : (c.fwCmd m w).clock = c.clock := by
  unfold Chip.fwCmd
  simp only [Chip.accRights_clock, Chip.fwVerify_clock, Chip.fwHold_clock, Chip.fwRelease_clock, Chip.fwSwitch_clock,
    Chip.fwHandover_clock, Chip.fwCommit_clock, apply_ite Chip.clock, ite_self]

theorem Chip.wdKick_clock : c.wdKick.clock = c.clock := clock_of_tk rfl

theorem Chip.ctlRestart_clock : c.ctlRestart.clock = c.clock := by
  unfold Chip.ctlRestart
  simp only [Chip.ctlReset_clock, Chip.boot_clock, Chip.revert_clock, apply_ite Chip.clock, ite_self]

/-! ### The servo and the references -/

theorem Chip.modCh_clock (k : Nat) (f : SvChan → SvChan) : (c.modCh k f).clock = c.clock := by
  unfold Chip.modCh
  simp only [Chip.clock_mk, Chip.clock_tk, apply_ite Chip.clock, ite_self]

theorem Chip.modRef_clock (r : Nat) (f : RefState → RefState) : (c.modRef r f).clock = c.clock := clock_of_tk rfl

theorem Chip.flockEnd_clock : c.flockEnd.clock = c.clock := clock_of_steady (Chip.flockEnd_steady ..)

theorem Chip.setSvMode_clock (m : SvMode) (reason : Nat) : (c.setSvMode m reason).clock = c.clock :=
  clock_of_steady (Chip.setSvMode_steady ..)

theorem Chip.svSwitchTo_clock (k : Nat) : (c.svSwitchTo k).clock = c.clock := clock_of_steady (Chip.svSwitchTo_steady ..)

theorem Chip.boTick_clock : c.boTick.clock = c.clock := by
  unfold Chip.boTick
  simp only [Chip.clock_mk, Chip.clock_tk, apply_ite Chip.clock, ite_self]

theorem Chip.servoEval_clock : c.servoEval.clock = c.clock := clock_of_steady (Chip.servoEval_steady ..)

theorem Chip.rawSample_clock (k : Nat) (x : Int) : (c.rawSample k x).clock = c.clock := by
  unfold Chip.rawSample
  simp only [Chip.sample_clock, Chip.modCh_clock]

theorem Chip.svSample_clock (k : Nat) (x : Int) : (c.svSample k x).clock = c.clock := by
  unfold Chip.svSample
  simp only [Chip.modCh_clock, Chip.rawSample_clock, Chip.clock_mk, Chip.clock_tk, apply_ite Chip.clock, ite_self, clock_foldl,
    implies_true]

theorem Chip.windowClose_clock (k : Nat) : (c.windowClose k).clock = c.clock := by
  unfold Chip.windowClose
  refine clock_ite ?_ (c.modCh_clock k _)
  split
  · extract_lets taken
    have htaken : taken.clock = c.clock := c.modCh_clock k _
    clear_value taken
    split
    · exact clock_ite htaken ((taken.rawSample_clock k _).trans htaken)
    · exact htaken
  · exact c.modCh_clock k _

theorem Chip.peerWindow_clock : c.peerWindow.clock = c.clock := by
  unfold Chip.peerWindow
  simp only [Chip.takeFree_clock, Chip.modRef_clock, Chip.clock_mk, Chip.clock_tk, clock_foldl, implies_true]

theorem Chip.windowEnd_clock : c.windowEnd.clock = c.clock := by
  unfold Chip.windowEnd
  extract_lets peer closed sampled
  have hpeer : peer.clock = c.clock := clock_ite c.peerWindow_clock rfl
  have hclosed : closed.clock = c.clock := (Chip.windowClose_clock _ _).trans ((peer.windowClose_clock 0).trans hpeer)
  have hsampled : sampled.clock = c.clock := by
    simp only [sampled]
    split
    · exact (closed.sample_clock _ _ _).trans hclosed
    · exact hclosed
  exact clock_ite hsampled (clock_ite hsampled hsampled)

theorem Chip.modQual_clock (p : Nat) (f : PortQual → PortQual) : (c.modQual p f).clock = c.clock := clock_of_tk rfl

theorem Chip.tqualEval_clock (p : Nat) : (c.tqualEval p).clock = c.clock := clock_of_tk rfl

theorem Chip.qualRestart_clock (p : Nat) : (c.qualRestart p).clock = c.clock := clock_of_tk rfl

theorem Chip.mpdForget_clock (p : Nat) : (c.mpdForget p).clock = c.clock := clock_of_tk rfl

theorem Chip.probeLearn_clock (p : Nat) (mpd : Int) : (c.probeLearn p mpd).clock = c.clock := by
  unfold Chip.probeLearn
  simp only [Chip.report_clock, Chip.modQual_clock, apply_ite Chip.clock, ite_self]

theorem Chip.probeJudge_clock (p : Nat) (mpd : Int) : (c.probeJudge p mpd).clock = c.clock := by
  unfold Chip.probeJudge
  simp only [Chip.report_clock, Chip.modQual_clock, Chip.tqualEval_clock, Chip.qualRestart_clock, Chip.probeLearn_clock,
    apply_ite Chip.clock, ite_self]

theorem Chip.refDisq_clock (r : Nat) : (c.refDisq r).clock = c.clock := clock_of_steady (Chip.refDisq_steady ..)

theorem Chip.refLoss_clock (r : Nat) : (c.refLoss r).clock = c.clock := by
  unfold Chip.refLoss
  simp only [Chip.modRef_clock, Chip.refDisq_clock]

theorem Chip.refQualify_clock (r : Nat) : (c.refQualify r).clock = c.clock := by
  unfold Chip.refQualify
  simp only [Chip.report_clock, Chip.modRef_clock]

theorem Chip.refConfig_clock (r : Nat) (w : Word) : (c.refConfig r w).clock = c.clock := by
  unfold Chip.refConfig
  simp only [Chip.setReg_clock, Chip.report_clock, Chip.modRef_clock, Chip.refDisq_clock, Chip.clock_mk, Chip.clock_tk,
    apply_ite Chip.clock, ite_self]

theorem Chip.rfSoftReset_clock : c.rfSoftReset.clock = c.clock := clock_of_tk rfl

/-! ### Time bases -/

theorem Chip.modTb_clock (k : Nat) (f : TbChan → TbChan) : (c.modTb k f).clock = c.clock := clock_of_tk rfl

theorem Chip.clock_withTb (x : TbState) : ({ c with tb := x } : Chip).clock = c.clock := rfl

theorem Chip.tbCapture_clock : c.tbCapture.clock = c.clock := by
  unfold Chip.tbCapture
  refine (Chip.clock_withTb _ _).trans (clock_foldl _ _ c ?_)
  exact fun x k => x.modTb_clock k _

theorem Chip.tbLoad_clock (m : Master) (k : Nat) (w : Word) : (c.tbLoad m k w).clock = c.clock := clock_of_tk rfl

theorem Chip.tbAdjust_clock (m : Master) (k : Nat) (w : Word) : (c.tbAdjust m k w).clock = c.clock := clock_of_tk rfl

theorem Chip.traceSet_clock (b : Bool) : (c.traceSet b).clock = c.clock := clock_of_steady (Chip.traceSet_steady ..)

/-! ### The tree engine -/

theorem Chip.identAll_clock : c.identAll.clock = c.clock := clock_of_steady (Chip.identAll_steady ..)

theorem Chip.modKid_clock (p : Nat) (f : Kid → Kid) : (c.modKid p f).clock = c.clock := clock_of_tk rfl

theorem Chip.learnAddr_clock (a : Nat) (from_ : Option Nat) : (c.learnAddr a from_).clock = c.clock := by
  unfold Chip.learnAddr
  refine clock_ite rfl ?_
  extract_lets old tr moved told
  clear_value old
  have htold : told.clock = c.clock := by
    simp only [told]
    split
    · exact (moved.report_clock _ _).trans rfl
    · rfl
  exact told.identAll_clock.trans htold

theorem Chip.crownTake_clock (crown : Option Nat) (prio level epoch hops : Nat) :
    (c.crownTake crown prio level epoch hops).clock = c.clock := by
  unfold Chip.crownTake
  simp only [Chip.report_clock, Chip.clock_mk, Chip.clock_tk, apply_ite Chip.clock, ite_self]

theorem Chip.reflJoin_clock (p : Nat) (l : List Word) : (c.reflJoin p l).clock = c.clock :=
  clock_of_outline (Chip.reflJoin_outline ..)

theorem Chip.reflKept_clock : c.reflKept.clock = c.clock := clock_of_outline (Chip.reflKept_outline ..)

theorem Chip.mlqPut_clock (level reason addr members t : Nat) : (c.mlqPut level reason addr members t).clock = c.clock :=
  clock_of_steady (Chip.mlqPut_steady ..)

theorem Chip.lossReport_clock (p reason : Nat) (hub : Bool) (members : Nat) : (c.lossReport p reason hub members).clock = c.clock :=
  clock_of_steady (Chip.lossReport_steady ..)

theorem Chip.treePortDown_clock (p : Nat) : (c.treePortDown p).clock = c.clock := by
  unfold Chip.treePortDown
  simp only [Chip.portLost_clock, Chip.clock_mk, Chip.clock_tk, apply_ite Chip.clock, ite_self]

theorem Chip.takeUp_clock (p : Nat) : (c.takeUp p).clock = c.clock := clock_of_outline (Chip.takeUp_outline ..)

theorem Chip.upSwitch_clock (p : Nat) : (c.upSwitch p).clock = c.clock := clock_of_outline (Chip.upSwitch_outline ..)

theorem Chip.becomeCrown_clock : c.becomeCrown.clock = c.clock := by
  unfold Chip.becomeCrown
  simp only [Chip.learnAddr_clock, Chip.crownTake_clock, Chip.clock_mk, Chip.clock_tk]

theorem Chip.becomeRoot_clock : c.becomeRoot.clock = c.clock := by
  unfold Chip.becomeRoot
  simp only [Chip.report_clock, Chip.learnAddr_clock, Chip.crownTake_clock, Chip.becomeCrown_clock, Chip.clock_mk, Chip.clock_tk,
    apply_ite Chip.clock, ite_self]

theorem Chip.crownMeets_clock (p : Nat) (l : List Word) : (c.crownMeets p l).clock = c.clock := by
  unfold Chip.crownMeets
  simp only [Chip.report_clock, Chip.reflJoin_clock, Chip.takeUp_clock, Chip.clock_mk, Chip.clock_tk, apply_ite Chip.clock, ite_self]

/-! ### Lane ports -/

theorem Chip.keepReleases_clock (p : Nat) (l : List Cell) : (c.keepReleases p l).clock = c.clock :=
  clock_of_steady (Chip.keepReleases_steady ..)

theorem Chip.flushTo_clock (p : Nat) (m : PortMode) : (c.flushTo p m).clock = c.clock := by
  unfold Chip.flushTo
  simp only [Chip.bump_clock, Chip.modPort_clock, Chip.keepReleases_clock]

theorem Chip.lossOf_clock (p reason : Nat) (k : Option (Bool × Nat)) : (c.lossOf p reason k).clock = c.clock :=
  clock_of_steady (Chip.lossOf_steady ..)

theorem Chip.laneDown_clock (p rsn : Nat) : (c.laneDown p rsn).clock = c.clock := by
  unfold Chip.laneDown
  simp only [Chip.modPort_clock, Chip.report_clock, Chip.treePortDown_clock, Chip.flushTo_clock, Chip.lossOf_clock,
    apply_ite Chip.clock, ite_self]

theorem Chip.treeEval_clock : c.treeEval.clock = c.clock := clock_of_outline (Chip.treeEval_outline ..)

theorem Chip.laneUp_clock (p : Nat) : (c.laneUp p).clock = c.clock := by
  unfold Chip.laneUp
  extract_lets x open_ w7 credit link risen told learnt named uncal tr up tr' noted kept lost tr'' fresh grouped treed
  have hrisen : risen.clock = c.clock := c.modPort_clock p _
  have htold : told.clock = c.clock := clock_ite ((risen.report_clock _ _).trans hrisen) hrisen
  have hlearnt : learnt.clock = c.clock := clock_ite ((told.mpdForget_clock p).trans htold) htold
  have hnamed : named.clock = c.clock := (learnt.modQual_clock p _).trans hlearnt
  have huncal : uncal.clock = c.clock := by
    simp only [uncal]
    split
    · exact (named.modCh_clock _ _).trans hnamed
    · exact hnamed
  have hup : up.clock = c.clock := huncal
  have hnoted : noted.clock = c.clock := clock_ite ((Chip.inoteOn_clock _ p).trans hup) hup
  have hkept : kept.clock = c.clock := (noted.keptSend_clock p).trans hnoted
  have hlost : lost.clock = c.clock := clock_ite ((kept.lossReport_clock p _ _ _).trans hkept) hkept
  have hfresh : fresh.clock = c.clock := clock_ite hlost hlost
  have hgrouped : grouped.clock = c.clock := clock_ite ((fresh.groupsUp_clock p).trans hfresh) hfresh
  have htreed : treed.clock = c.clock := grouped.treeEval_clock.trans hgrouped
  exact clock_ite ((treed.sendCells_clock p _ _).trans htreed) htreed

theorem Chip.refuse_clock (p rsn : Nat) (e : Ev) : (c.refuse p rsn e).clock = c.clock := by
  unfold Chip.refuse
  simp only [Chip.modPort_clock, Chip.report_clock, Chip.treePortDown_clock, Chip.flushTo_clock, Chip.lossOf_clock,
    apply_ite Chip.clock, ite_self]

theorem Chip.negotiate_clock (p : Nat) : (c.negotiate p).clock = c.clock := clock_of_tk rfl

theorem Chip.accept_clock (p : Nat) : (c.accept p).clock = c.clock := by
  unfold Chip.accept
  simp only [Chip.sendL_clock, Chip.laneUp_clock, Chip.negotiate_clock, apply_ite Chip.clock, ite_self]

theorem Chip.refuseTwins_clock (p : Nat) : (c.refuseTwins p).clock = c.clock := by
  unfold Chip.refuseTwins
  simp only [Chip.refuse_clock, clock_foldl, implies_true]

theorem Chip.identTake_clock (p : Nat) (words : List Word) : (c.identTake p words).clock = c.clock := by
  have hheard : ∀ d : Chip, d.clock = c.clock →
      (match d.wiring p with
        | some (rsn, e) => if (c.port p).mode == PortMode.refused && (c.port p).refRsn == rsn then d else d.refuse p rsn e
        | none => if (c.port p).mode == PortMode.refused && (c.port p).refRsn == 3 then d else (d.refuseTwins p).accept p).clock =
          c.clock := by
    intro d hd
    split
    · exact clock_ite hd ((d.refuse_clock _ _ _).trans hd)
    · exact clock_ite hd ((Chip.accept_clock _ _).trans ((d.refuseTwins_clock p).trans hd))
  unfold Chip.identTake
  extract_lets x new
  split
  · exact clock_ite ((Chip.mpdForget_clock _ _).trans (c.laneDown_clock p 4)) ((Chip.sendL_clock _ _ _).trans (c.modPort_clock p _))
  · exact hheard _ (c.modPort_clock p _)
  · exact hheard _ (c.modPort_clock p _)
  · rfl

theorem Chip.identAcked_clock (p : Nat) (w : Word) : (c.identAcked p w).clock = c.clock := by
  unfold Chip.identAcked
  simp only [Chip.modPort_clock, Chip.laneUp_clock, apply_ite Chip.clock, ite_self]

theorem Chip.drive_clock (p : Nat) (x : Cell) (seq : Nat) : (c.drive p x seq).clock = c.clock := clock_of_tk rfl

theorem Chip.sendFirst_clock (p cls : Nat) : (c.sendFirst p cls).clock = c.clock := by
  unfold Chip.sendFirst
  extract_lets x
  split
  · rfl
  · exact (Chip.count_clock _ _ _ _).trans ((Chip.drive_clock _ _ _ _).trans (c.modPort_clock p _))

theorem Chip.sendTiming_clock (p : Nat) (t : TxCell) (phase : Nat) : (c.sendTiming p t phase).clock = c.clock := by
  unfold Chip.sendTiming
  simp only [Chip.modQ_clock, Chip.modTime_clock, Chip.count_clock, Chip.drive_clock]

theorem Chip.sendLink_clock (p : Nat) : (c.sendLink p).clock = c.clock := by
  unfold Chip.sendLink
  simp only [Chip.modQ_clock, Chip.count_clock, Chip.drive_clock]

theorem Chip.slotUp_clock (p phase : Nat) : (c.slotUp p phase).clock = c.clock := by
  unfold Chip.slotUp
  extract_lets x
  split
  · exact c.sendTiming_clock p _ phase
  · split
    · exact (Chip.drive_clock _ _ _ _).trans (c.modLink_clock p _)
    · split
      · exact (Chip.note_clock _ _ _).trans ((Chip.bump_clock _ _ _ _ _).trans (c.sendFirst_clock p _))
      · split
        · exact (Chip.sendFirst_clock _ _ _).trans (c.modLink_clock p _)
        · exact (Chip.sendLink_clock _ _).trans (c.modLink_clock p _)

theorem Chip.slotCheck_clock (p phase : Nat) : (c.slotCheck p phase).clock = c.clock := by
  unfold Chip.slotCheck
  simp only [Chip.modPort_clock, Chip.count_clock, Chip.drive_clock, apply_ite Chip.clock, ite_self]

theorem Chip.slot_clock (p phase : Nat) : (c.slot p phase).clock = c.clock := by
  unfold Chip.slot
  split <;> simp only [Chip.count_clock, Chip.drive_clock, Chip.sendLink_clock, Chip.slotUp_clock, Chip.slotCheck_clock]

theorem Chip.ackTake_clock (p a : Nat) : (c.ackTake p a).clock = c.clock := by
  unfold Chip.ackTake
  simp only [Chip.modLink_clock, apply_ite Chip.clock, ite_self]

theorem Chip.creditTake_clock (p cls cum : Nat) : (c.creditTake p cls cum).clock = c.clock := clock_of_tk rfl

theorem Chip.replay_clock (p : Nat) : (c.replay p).clock = c.clock := by
  unfold Chip.replay
  simp only [Chip.bump_clock, Chip.modLink_clock, Chip.report_clock, Chip.laneDown_clock, apply_ite Chip.clock, ite_self]

theorem Chip.lnDup_clock (p : Nat) : (c.lnDup p).clock = c.clock := by
  unfold Chip.lnDup
  simp only [Chip.bump_clock, Chip.report_clock]

theorem Chip.nakTake_clock (p e : Nat) : (c.nakTake p e).clock = c.clock := by
  unfold Chip.nakTake
  simp only [Chip.modLink_clock, Chip.replay_clock, Chip.lnDup_clock, apply_ite Chip.clock, ite_self]

theorem Chip.sendNak_clock (p : Nat) : (c.sendNak p).clock = c.clock := by
  unfold Chip.sendNak
  simp only [Chip.modLink_clock, Chip.sendL_clock, apply_ite Chip.clock, ite_self]

theorem Chip.cellErr_clock (p : Nat) : (c.cellErr p).clock = c.clock := by
  unfold Chip.cellErr
  simp only [Chip.bump_clock, Chip.report_clock]

theorem Chip.tdrop_clock (p : Nat) (x : Cell) : (c.tdrop p x).clock = c.clock := by
  unfold Chip.tdrop
  simp only [Chip.bump_clock, Chip.report_clock, apply_ite Chip.clock, ite_self]

theorem Chip.unknownCell_clock (p : Nat) : (c.unknownCell p).clock = c.clock := by
  unfold Chip.unknownCell
  simp only [Chip.bump_clock, Chip.report_clock]

theorem Chip.rxPut_clock (p : Nat) (x : Cell) : (c.rxPut p x).clock = c.clock := clock_of_tk rfl

theorem Chip.excludedDiscard_clock (p : Nat) (x : Cell) : (c.excludedDiscard p x).clock = c.clock := by
  unfold Chip.excludedDiscard
  simp only [Chip.modPort_clock, Chip.stale_clock]

theorem Chip.rxSequenced_clock (p : Nat) (x : Cell) : (c.rxSequenced p x).clock = c.clock := by
  unfold Chip.rxSequenced
  simp only [Chip.bump_clock, Chip.modPort_clock, Chip.modLink_clock, Chip.count_clock, Chip.report_clock, Chip.fenceDiscard_clock,
    Chip.lnDup_clock, Chip.sendNak_clock, Chip.unknownCell_clock, Chip.rxPut_clock, Chip.excludedDiscard_clock, apply_ite Chip.clock,
    ite_self]

theorem Chip.rxTiming_clock (p : Nat) (x : Cell) (phase : Nat) : (c.rxTiming p x phase).clock = c.clock := by
  unfold Chip.rxTiming
  simp only [Chip.modQ_clock, Chip.count_clock, Chip.tdrop_clock, Chip.unknownCell_clock, apply_ite Chip.clock, ite_self]

theorem Chip.rxLink_clock (p : Nat) (x : Cell) : (c.rxLink p x).clock = c.clock := by
  unfold Chip.rxLink
  simp only [Chip.modQ_clock, Chip.count_clock, apply_ite Chip.clock, ite_self]

theorem Chip.rxCell_clock (p : Nat) (cw : Codeword) (x : Cell) : (c.rxCell p cw x).clock = c.clock := by
  unfold Chip.rxCell
  simp only [Chip.ackTake_clock, Chip.creditTake_clock, Chip.sendNak_clock, Chip.cellErr_clock, Chip.tdrop_clock,
    Chip.unknownCell_clock, Chip.rxSequenced_clock, Chip.rxTiming_clock, Chip.rxLink_clock, apply_ite Chip.clock, ite_self]

theorem Chip.rxTrack_clock (p : Nat) (cw : Codeword) : (c.rxTrack p cw).clock = c.clock := by
  unfold Chip.rxTrack
  simp only [Chip.bump_clock, Chip.modCode_clock, Chip.report_clock, apply_ite Chip.clock, ite_self]

theorem Chip.calibBack_clock (p : Nat) (cw : Codeword) (slot : Nat) (x : Cell) : (c.calibBack p cw slot x).clock = c.clock := by
  unfold Chip.calibBack
  simp only [Chip.modPort_clock, Chip.count_clock, apply_ite Chip.clock, ite_self]

theorem Chip.rxCheck_clock (p : Nat) (cw : Codeword) : (c.rxCheck p cw).clock = c.clock := by
  unfold Chip.rxCheck
  simp only [Chip.modPort_clock, Chip.rxCell_clock, Chip.rxTrack_clock, Chip.calibBack_clock, apply_ite Chip.clock, ite_self,
    clock_foldl, implies_true]

theorem Chip.rxCodeword_clock (p : Nat) (cw : Codeword) : (c.rxCodeword p cw).clock = c.clock := by
  unfold Chip.rxCodeword
  extract_lets x counted corrected word tracked
  split
  · rfl
  · rfl
  · have hcounted : counted.clock = c.clock := c.count_clock _ _ _
    have hcorrected : corrected.clock = c.clock :=
      clock_ite ((Chip.count_clock _ _ _ _).trans ((counted.bump_clock _ _ _ _).trans hcounted)) hcounted
    refine clock_ite ((corrected.rxCheck_clock p _).trans hcorrected) (clock_ite ((corrected.modCode_clock p _).trans hcorrected) ?_)
    exact (clock_foldl _ _ tracked fun x y => x.rxCell_clock p _ y).trans ((corrected.rxTrack_clock p _).trans hcorrected)

theorem Chip.queueT_clock (p : Nat) (x : Cell) : (c.queueT p x).clock = c.clock := by
  unfold Chip.queueT
  simp only [Chip.bump_clock, Chip.modQ_clock, Chip.report_clock, apply_ite Chip.clock, ite_self]

theorem Chip.tickQueue_clock (p : Nat) : (c.tickQueue p).clock = c.clock := by
  unfold Chip.tickQueue
  simp only [Chip.modTime_clock, Chip.queueT_clock]

theorem Chip.preqQueue_clock (p : Nat) : (c.preqQueue p).clock = c.clock := by
  unfold Chip.preqQueue
  simp only [Chip.modTime_clock, Chip.queueT_clock]

theorem Chip.popT_clock (p : Nat) : (c.popT p).clock = c.clock := clock_of_tk rfl

theorem Chip.probeDone_clock (p : Nat) (t1 t2 t3 t4 : Nat) : (c.probeDone p t1 t2 t3 t4).clock = c.clock := by
  unfold Chip.probeDone
  simp only [Chip.modTime_clock, Chip.sample_clock, Chip.dieCensus_clock, Chip.probeJudge_clock]

theorem Chip.t3Take_clock (p : Nat) (x : Cell) : (c.t3Take p x).clock = c.clock := by
  unfold Chip.t3Take
  refine clock_ite rfl ?_
  split
  · exact (Chip.probeDone_clock _ _ _ _ _ _).trans (c.modTime_clock p _)
  · rfl

theorem Chip.offsetSample_clock (p : Nat) (x : Cell) (rx : Nat) : (c.offsetSample p x rx).clock = c.clock := by
  unfold Chip.offsetSample
  split <;> simp only [Chip.svSample_clock]

theorem Chip.tickFlags_clock (p : Nat) (x : Cell) : (c.tickFlags p x).clock = c.clock := by
  unfold Chip.tickFlags
  extract_lets w5 told
  have htold : told.clock = c.clock := c.modTime_clock p _
  clear_value told
  split
  · exact htold
  · extract_lets known crown take tk mirrored
    have hknown : known.clock = c.clock := (told.modCh_clock _ _).trans htold
    have hmirrored : mirrored.clock = c.clock := clock_ite hknown ((rfl : _ = known.clock).trans hknown)
    exact clock_ite ((mirrored.traceSet_clock _).trans hmirrored) hknown

theorem Chip.tickTake_clock (p : Nat) (r : RxT) : (c.tickTake p r).clock = c.clock := by
  unfold Chip.tickTake
  extract_lets x n prev pair marked measured
  have hmarked : marked.clock = c.clock := c.modTime_clock p _
  clear_value prev pair
  have hmeasured : measured.clock = c.clock := by
    simp only [measured]
    split
    · exact (marked.offsetSample_clock p _ _).trans hmarked
    · exact (marked.bump_clock _ _ _ _).trans hmarked
    · exact hmarked
  exact (Chip.t3Take_clock _ p x).trans ((measured.tickFlags_clock p x).trans hmeasured)

/-! ### What settling follows -/

theorem Chip.svSwitchCmd_clock : c.svSwitchCmd.clock = c.clock := by
  unfold Chip.svSwitchCmd
  simp only [Chip.report_clock, Chip.svSwitchTo_clock, Chip.settle_clock, apply_ite Chip.clock, ite_self]

theorem Chip.svForceAcq_clock : c.svForceAcq.clock = c.clock := by
  unfold Chip.svForceAcq
  split <;> simp only [Chip.setSvMode_clock, Chip.settle_clock]

theorem Chip.refEdge_clock (stamp r : Nat) : (c.refEdge stamp r).clock = c.clock := clock_of_tk rfl

theorem Chip.todLabel_clock (ok : Bool) (utc r : Nat) : (c.todLabel ok utc r).clock = c.clock := by
  unfold Chip.todLabel
  split <;> simp only [Chip.report_clock, Chip.modRef_clock, apply_ite Chip.clock, ite_self]

theorem Chip.ptpDiscard_clock (r : Nat) : (c.ptpDiscard r).clock = c.clock := by
  unfold Chip.ptpDiscard
  simp only [Chip.report_clock]

theorem Chip.ptpTake_clock (r : Nat) (msg : PtpMsg) : (c.ptpTake r msg).clock = c.clock := by
  unfold Chip.ptpTake
  split
  · exact clock_ite (c.ptpDiscard_clock r) ((Chip.modRef_clock _ _ _).trans (clock_ite (c.refDisq_clock r) rfl))
  · split
    · exact clock_ite ((Chip.modRef_clock _ _ _).trans rfl) (c.ptpDiscard_clock r)
    · exact c.ptpDiscard_clock r
  · exact clock_ite rfl (c.ptpDiscard_clock r)
  · rfl

/-! ### Commands of the tree engine -/

theorem Chip.treeAt_clock (p kind : Nat) {f : Chip → Cell → Chip} (hf : ∀ x y, (f x y).clock = x.clock) :
    (c.treeAt p kind f).clock = c.clock := by
  unfold Chip.treeAt
  split
  · exact clock_ite ((Chip.settle_clock _).trans ((hf _ _).trans (c.popRx_clock p _ _))) rfl
  · rfl

theorem Chip.reflStale_clock (why : Nat) : (c.reflStale why).clock = c.clock := by
  unfold Chip.reflStale
  simp only [Chip.report_clock]

theorem Chip.reflDie_clock (p : Nat) (l : List Word) : (c.reflDie p l).clock = c.clock := by
  unfold Chip.reflDie
  simp only [Chip.modPort_clock, Chip.report_clock, Chip.learnAddr_clock, Chip.laneDown_clock, Chip.clock_mk, Chip.clock_tk,
    apply_ite Chip.clock, ite_self]

theorem Chip.reflHub_clock (p : Nat) (l : List Word) : (c.reflHub p l).clock = c.clock := by
  unfold Chip.reflHub
  extract_lets tr kept
  have hkept : kept.clock = c.clock := rfl
  refine clock_ite hkept ?_
  split
  · exact (kept.crownMeets_clock p l).trans hkept
  · exact (kept.crownMeets_clock p l).trans hkept
  · exact (kept.reflJoin_clock p l).trans hkept

theorem Chip.trClaim_clock : c.trClaim.clock = c.clock := by
  unfold Chip.trClaim
  split <;> simp only [Chip.becomeCrown_clock, Chip.settle_clock]

theorem Chip.trYield_clock : c.trYield.clock = c.clock := by
  unfold Chip.trYield
  simp only [Chip.reflKept_clock, Chip.settle_clock, Chip.clock_mk, Chip.clock_tk, apply_ite Chip.clock, ite_self]

theorem Chip.trRevert_clock : c.trRevert.clock = c.clock := by
  unfold Chip.trRevert
  simp only [Chip.upSwitch_clock, Chip.settle_clock, apply_ite Chip.clock, ite_self]

theorem Chip.rrspPut_clock (tag rseq status kind target : Nat) (data : Word) :
    (c.rrspPut tag rseq status kind target data).clock = c.clock := by
  unfold Chip.rrspPut
  simp only [Chip.report_clock, Chip.clock_mk, Chip.clock_tk, apply_ite Chip.clock, ite_self]

theorem Chip.noRoute_clock : c.noRoute.clock = c.clock := by
  unfold Chip.noRoute
  simp only [Chip.report_clock]

theorem Chip.rrspHome_clock (tag rseq status kind : Nat) (data : Word) : (c.rrspHome tag rseq status kind data).clock = c.clock := by
  unfold Chip.rrspHome
  split <;> simp only [Chip.report_clock, Chip.rrspPut_clock, Chip.clock_mk, Chip.clock_tk, apply_ite Chip.clock, ite_self]

theorem Chip.rraIssue_clock (m : Master) (w : Word) : (c.rraIssue m w).clock = c.clock := by
  unfold Chip.rraIssue
  extract_lets op tag target n tr numbered tr' tagged counted cell
  have hnumbered : numbered.clock = c.clock := rfl
  have hcounted : counted.clock = c.clock := (Chip.count_clock _ _ _ _).trans rfl
  refine clock_ite rfl (clock_ite ((Chip.report_clock _ _ _).trans hnumbered) (clock_ite ((Chip.rrspPut_clock _ _ _ _ _ _ _).trans hnumbered)
    (clock_ite ((Chip.report_clock _ _ _).trans ((Chip.rrspPut_clock _ _ _ _ _ _ _).trans hnumbered)) ?_)))
  split
  · exact (Chip.sendCells_clock _ _ _ _).trans hcounted
  · exact (Chip.rrspHome_clock _ _ _ _ _ _).trans ((Chip.noRoute_clock _).trans hcounted)

theorem Chip.inqPut_clock (member : Nat) (s0 s1 : Word) : (c.inqPut member s0 s1).clock = c.clock := by
  unfold Chip.inqPut
  simp only [Chip.flag_clock, Chip.report_clock, Chip.clock_mk, Chip.clock_tk, apply_ite Chip.clock, ite_self]

/-! ### Commands of the lane ports -/

theorem Chip.train_clock (p : Nat) : (c.train p).clock = c.clock := clock_of_tk rfl

theorem Chip.calStart_clock (p : Nat) : (c.calStart p).clock = c.clock := by
  unfold Chip.calStart
  simp only [Chip.modPort_clock, Chip.mpdForget_clock, Chip.laneDown_clock, apply_ite Chip.clock, ite_self]

theorem Chip.pctrlApply_clock (p : Nat) (cal : Bool) : (c.pctrlApply p cal).clock = c.clock := by
  unfold Chip.pctrlApply
  simp only [Chip.laneDown_clock, Chip.settle_clock, Chip.calStart_clock, apply_ite Chip.clock, ite_self]

theorem Chip.latWritten_clock (p : Nat) : (c.latWritten p).clock = c.clock := by
  unfold Chip.latWritten
  simp only [Chip.modPort_clock, Chip.dieCensus_clock, Chip.settle_clock]

theorem Chip.popL_clock (p : Nat) : (c.popL p).clock = c.clock := clock_of_tk rfl

/-! ### Main reset and the supplies -/

theorem Chip.mainCleared_clock : c.mainCleared.clock = c.clock := clock_of_tk rfl

theorem Chip.mainReset_clock (cause : Nat) : (c.mainReset cause).clock = c.clock := by
  unfold Chip.mainReset
  simp only [Chip.servoEval_clock, Chip.laneDown_clock, Chip.mainCleared_clock, Chip.clock_mk, Chip.clock_tk, apply_ite Chip.clock,
    ite_self, clock_foldl, implies_true]

theorem Chip.releaseRecords_clock : c.releaseRecords.clock = c.clock :=
  (congrArg TkState.clock c.releaseRecords_leaves.2 :)

theorem Chip.hostStops_clock : c.hostStops.clock = c.clock := by
  unfold Chip.hostStops
  simp only [Chip.modTap_clock, Chip.regionStop_clock, clock_foldl, implies_true]

theorem Chip.coresWithdraw_clock : c.coresWithdraw.clock = c.clock := by
  unfold Chip.coresWithdraw
  simp only [Chip.withdraw_clock, Chip.clock_mk, Chip.clock_tk, clock_foldl, implies_true]

theorem Chip.laneGo_clock : c.laneGo.clock = c.clock := clock_of_tk rfl

end Clock

end Sys2Proof.Machine
end

section
/-!
What the accesses to the register space leave of the clock (R58, R64): all but a staged RATE and an armed step.
-/

namespace Sys2Proof.Machine

section Clock

variable (c : Chip)

/-! ### Reads and soft resets -/

theorem Chip.latch_clock (m : Master) (page off idx : Nat) : (c.latch m page off idx).clock = c.clock := by
  refine clock_foldl _ _ c fun x o => ?_
  split <;> rfl

theorem Chip.autoInc_clock (m : Master) (r : RegRow) (bits : Nat) : (c.autoInc m r bits).clock = c.clock := by
  unfold Chip.autoInc
  simp only [Chip.setRegOf_clock, apply_ite Chip.clock, ite_self]

theorem Chip.readEffect_clock (m : Master) (r : RegRow) (i idx : Nat) : (c.readEffect m r i idx).clock = c.clock := by
  unfold Chip.readEffect
  split <;> simp only [Chip.setReg_clock, Chip.modHs_clock, Chip.modXc_clock, Chip.modTs_clock, Chip.uploadPop_clock,
    Chip.autoInc_clock, Chip.clock_mk, Chip.clock_tk, apply_ite Chip.clock, ite_self]

theorem Chip.masterRead_clock (m : Master) (addr : Nat) : (c.masterRead m addr).2.clock = c.clock := by
  unfold Chip.masterRead
  extract_lets page off
  split
  · rfl
  · split
    · rfl
    · split
      · rfl
      · exact (Chip.readEffect_clock _ _ _ _ _).trans (clock_ite (c.latch_clock m page off _) rfl)

theorem Chip.softRegs_clock (page : Nat) : (c.softRegs page).clock = c.clock := clock_of_tk rfl

theorem Chip.portReset_clock (p : Nat) : (c.portReset p).clock = c.clock := by
  unfold Chip.portReset
  simp only [Chip.modPort_clock, Chip.laneDown_clock]

theorem Chip.softMachines_clock (page : Nat) : (c.softMachines page).clock = c.clock := by
  unfold Chip.softMachines
  split <;> simp only [Chip.sqSoftReset_clock, Chip.dlSoftReset_clock, Chip.tsSoftReset_clock, Chip.poSoftReset_clock,
    Chip.rfSoftReset_clock, Chip.portReset_clock, Chip.clock_mk, Chip.clock_tk, clock_foldl, implies_true]

theorem Chip.softReset_clock (page : Nat) : (c.softReset page).clock = c.clock := by
  unfold Chip.softReset
  split <;> simp only [Chip.irqEdges_clock, Chip.poAllEdges_clock, Chip.settle_clock, Chip.softRegs_clock, Chip.softMachines_clock,
    Chip.clock_mk, Chip.clock_tk]

/-! ### Register writes, page by page -/

theorem Chip.done_clock : c.done.1.clock = c.clock := clock_of_tk rfl

theorem Chip.store_clock (x : RegWrite) : (c.store x).clock = c.clock := by
  unfold Chip.store
  split <;> simp only [Chip.setRegOf_clock]

theorem Chip.onBit_clock (w : Word) (b : Nat) {f : Chip → Chip} (hf : ∀ x, (f x).clock = x.clock) : (c.onBit w b f).clock = c.clock :=
  clock_ite (hf c) rfl

theorem Chip.writeGlb_clock (x : RegWrite) : (c.writeGlb x).1.clock = c.clock := by
  unfold Chip.writeGlb
  simp only [Chip.irqEdges_clock, Chip.done_clock, Chip.store_clock]

theorem Chip.writeTb_clock (x : RegWrite) : (c.writeTb x).1.clock = c.clock := by
  unfold Chip.writeTb
  split <;> simp only [Chip.tbCapture_clock, Chip.tbLoad_clock, Chip.tbAdjust_clock, Chip.done_clock, Chip.store_clock,
    Chip.onBit_clock, apply_ite Chip.clock, ite_self, implies_true]

theorem Chip.hoRaise_clock (x : RegWrite) (cap bits : Nat) : (c.hoRaise x cap bits).1.clock = c.clock := by
  unfold Chip.hoRaise
  simp only [Chip.guardRefuse_clock, Chip.settle_clock, Chip.done_clock, Chip.store_clock, apply_ite Chip.clock, ite_self,
    apply_ite Prod.fst]

theorem Chip.writeSv_clock (x : RegWrite) : (c.writeSv x).1.clock = c.clock := by
  unfold Chip.writeSv
  split <;> simp only [Chip.modCh_clock, Chip.mpdForget_clock, Chip.settle_clock, Chip.svSwitchCmd_clock, Chip.svForceAcq_clock,
    Chip.done_clock, Chip.store_clock, Chip.onBit_clock, Chip.hoRaise_clock, implies_true]

theorem Chip.writeRf_clock (x : RegWrite) : (c.writeRf x).1.clock = c.clock := by
  unfold Chip.writeRf
  split <;> simp only [Chip.refConfig_clock, Chip.settle_clock, Chip.done_clock, Chip.store_clock]

theorem Chip.asymWritten_clock (p : Nat) : (c.asymWritten p).clock = c.clock := by
  unfold Chip.asymWritten
  split <;> simp only [Chip.modCh_clock]

theorem Chip.writeLn_clock (x : RegWrite) : (c.writeLn x).1.clock = c.clock := by
  unfold Chip.writeLn
  split <;> simp only [Chip.pctrlApply_clock, Chip.latWritten_clock, Chip.done_clock, Chip.store_clock, Chip.asymWritten_clock]

theorem Chip.writeTr_clock (x : RegWrite) : (c.writeTr x).1.clock = c.clock := by
  unfold Chip.writeTr
  split <;> simp only [Chip.identAll_clock, Chip.settle_clock, Chip.trClaim_clock, Chip.trYield_clock, Chip.trRevert_clock,
    Chip.rraIssue_clock, Chip.done_clock, Chip.store_clock, Chip.onBit_clock, apply_ite Chip.clock, ite_self, implies_true]

theorem Chip.writeRt_clock (x : RegWrite) : (c.writeRt x).1.clock = c.clock := by
  unfold Chip.writeRt
  split <;> simp only [Chip.chainCal_clock, Chip.reportConfig_clock, Chip.xcalSeek_clock, Chip.xcalWrite_clock, Chip.done_clock,
    Chip.store_clock, Chip.onBit_clock, implies_true]

theorem Chip.writeTs_clock (x : RegWrite) : (c.writeTs x).1.clock = c.clock := by
  unfold Chip.writeTs
  split <;> simp only [Chip.suspectEval_clock, Chip.done_clock, Chip.store_clock]

theorem Chip.writePo_clock (x : RegWrite) : (c.writePo x).1.clock = c.clock := by
  unfold Chip.writePo
  split <;> simp only [Chip.modPo_clock, Chip.poEdges_clock, Chip.poBusy_clock, Chip.poArm_clock, Chip.poDisarm_clock,
    Chip.poFell_clock, Chip.done_clock, Chip.store_clock, Chip.onBit_clock, apply_ite Chip.clock, ite_self, implies_true,
    apply_ite Prod.fst]

theorem Chip.writeSq_clock (x : RegWrite) : (c.writeSq x).1.clock = c.clock := by
  unfold Chip.writeSq
  split <;> simp only [Chip.setMbox_clock, Chip.tctrl_clock, Chip.done_clock, Chip.store_clock]

theorem Chip.sqmCommit_clock (m : Master) (w : Word) : (c.sqmCommit m w).clock = c.clock := by
  unfold Chip.sqmCommit
  simp only [Chip.report_clock, Chip.autoInc_clock, Chip.clock_mk, Chip.clock_tk, apply_ite Chip.clock, ite_self]

theorem Chip.writeSqm_clock (x : RegWrite) : (c.writeSqm x).1.clock = c.clock := by
  unfold Chip.writeSqm
  split <;> simp only [Chip.done_clock, Chip.store_clock, Chip.sqmCommit_clock]

theorem Chip.mtCfgBad_clock (g : Nat) : (c.mtCfgBad g).clock = c.clock := by
  unfold Chip.mtCfgBad
  simp only [Chip.report_clock]

theorem Chip.writeMortar_clock (x : RegWrite) : (c.writeMortar x).clock = c.clock := by
  unfold Chip.writeMortar
  simp only [Chip.report_clock, Chip.grQuarBusy_clock, Chip.store_clock, Chip.mtCfgBad_clock, apply_ite Chip.clock, ite_self]

theorem Chip.writeMt_clock (x : RegWrite) : (c.writeMt x).1.clock = c.clock := by
  unfold Chip.writeMt
  simp only [Chip.satEval_clock, Chip.done_clock, Chip.store_clock, Chip.mtCfgBad_clock, Chip.writeMortar_clock, apply_ite Chip.clock,
    ite_self, apply_ite Prod.fst]

theorem Chip.writeGr_clock (x : RegWrite) : (c.writeGr x).1.clock = c.clock := by
  unfold Chip.writeGr
  extract_lets g
  split
  · exact c.grKey_clock g x.m x.w
  · exact c.grField_clock g _
  · exact c.grField_clock g _
  · exact c.grField_clock g _
  · exact c.grField_clock g _
  · exact c.grCmd_clock g x.m x.w
  · refine clock_ite (c.store_clock x) ?_
    split
    · exact c.grCfgBad_clock g
    · exact c.grQuarBusy_clock g
    · exact c.store_clock x

theorem Chip.sgRange_clock (m : Master) (p1 p3 : Word) : (c.sgRange m p1 p3).clock = c.clock := by
  unfold Chip.sgRange
  simp only [Chip.report_clock]

theorem Chip.writeSg_clock (x : RegWrite) : (c.writeSg x).1.clock = c.clock := by
  unfold Chip.writeSg
  split <;> simp only [Chip.modSem_clock, Chip.semFault_clock, Chip.masterOps_clock, Chip.done_clock, Chip.store_clock,
    Chip.sgRange_clock, apply_ite Chip.clock, ite_self]

theorem Chip.writeGd_clock (x : RegWrite) : (c.writeGd x).1.clock = c.clock := by
  unfold Chip.writeGd
  split <;> simp only [Chip.poAllEdges_clock, Chip.limitWrite_clock, Chip.override_clock, Chip.wdKick_clock, Chip.done_clock,
    Chip.store_clock, Chip.onBit_clock, implies_true]

theorem Chip.hgCmd_clock (m : Master) (w : Word) : (c.hgCmd m w).1.clock = c.clock := by
  unfold Chip.hgCmd
  simp only [Chip.soloStart_clock, Chip.soloAbort_clock, Chip.unfence_clock, Chip.ereset_clock, Chip.accRights_clock,
    Chip.onBit_clock, apply_ite Chip.clock, ite_self, implies_true]

theorem Chip.writeHg_clock (x : RegWrite) : (c.writeHg x).1.clock = c.clock := by
  unfold Chip.writeHg
  split <;> simp only [Chip.done_clock, Chip.store_clock, Chip.hgCmd_clock]

theorem Chip.writeCp_clock (x : RegWrite) : (c.writeCp x).1.clock = c.clock := by
  unfold Chip.writeCp
  split <;> simp only [Chip.cpRelease_clock, Chip.cpTake_clock, Chip.done_clock, Chip.store_clock, Chip.onBit_clock, implies_true]

theorem Chip.writeEv_clock (x : RegWrite) : (c.writeEv x).1.clock = c.clock := by
  unfold Chip.writeEv
  split <;> simp only [Chip.evRestore_clock, Chip.rdseqWrite_clock, Chip.mirseqWrite_clock, Chip.done_clock, Chip.store_clock]

theorem Chip.snapCtl_clock (w : Word) : (c.snapCtl w).clock = c.clock := by
  unfold Chip.snapCtl
  simp only [Chip.snapArm_clock, Chip.snapCancel_clock, Chip.snapNow_clock, Chip.onBit_clock, implies_true]

theorem Chip.writeMn_clock (x : RegWrite) : (c.writeMn x).1.clock = c.clock := by
  unfold Chip.writeMn
  split <;> simp only [Chip.report_clock, Chip.counterZero_clock, Chip.countersZero_clock, Chip.pinZero_clock, Chip.done_clock,
    Chip.store_clock, Chip.onBit_clock, Chip.snapCtl_clock, apply_ite Chip.clock, ite_self, implies_true]

theorem Chip.writeHs_clock (x : RegWrite) : (c.writeHs x).1.clock = c.clock := by
  unfold Chip.writeHs
  split <;> simp only [Chip.hsEmpty_clock, Chip.hsRestart_clock, Chip.done_clock, Chip.store_clock, Chip.onBit_clock, implies_true]

theorem Chip.writePw_clock (x : RegWrite) : (c.writePw x).1.clock = c.clock := by
  unfold Chip.writePw
  split <;> simp only [Chip.mainReset_clock, Chip.laneGo_clock, Chip.done_clock, Chip.store_clock, Chip.onBit_clock,
    apply_ite Chip.clock, ite_self, implies_true]

theorem Chip.writeFw_clock (x : RegWrite) : (c.writeFw x).1.clock = c.clock := by
  unfold Chip.writeFw
  split <;> simp only [Chip.accRights_clock, Chip.stgAddr_clock, Chip.stgData_clock, Chip.fwCmd_clock, Chip.done_clock,
    Chip.store_clock, apply_ite Chip.clock, ite_self, apply_ite Prod.fst]

/-! ### Accesses to the register space -/

theorem Chip.histWrite_clock (page : Nat) (w : Word) : (c.histWrite page w).clock = c.clock := by
  unfold Chip.histWrite
  simp only [Chip.setReg_clock, Chip.irqEdges_clock]

theorem Chip.ienWrite_clock (page : Nat) (w : Word) : (c.ienWrite page w).clock = c.clock := by
  unfold Chip.ienWrite
  simp only [Chip.setReg_clock, Chip.irqEdges_clock, Chip.inoteRaise_clock]

theorem Chip.ctrlWrite_clock (m : Master) (page addr : Nat) (w : Word) : (c.ctrlWrite m page addr w).1.clock = c.clock := by
  unfold Chip.ctrlWrite
  extract_lets locked differs r
  have hr : r.1.clock = c.clock := by
    simp only [r]
    split
    · rfl
    · split
      · split
        · exact c.accLocked_clock m addr w
        · rfl
      · rfl
  split
  · exact hr
  · split
    · exact (Chip.softReset_clock _ _).trans hr
    · exact (Chip.accRefuse_clock _ _ _ _ _ _).trans hr

theorem Chip.chselWrite_clock (m : Master) (page addr : Nat) (w : Word) : (c.chselWrite m page addr w).1.clock = c.clock := by
  unfold Chip.chselWrite
  simp only [Chip.setRegOf_clock, Chip.accRefuse_clock, Chip.done_clock, apply_ite Chip.clock, ite_self, apply_ite Prod.fst]

theorem Chip.lockWrite_clock (m : Master) (page addr : Nat) (w : Word) : (c.lockWrite m page addr w).1.clock = c.clock := by
  unfold Chip.lockWrite
  simp only [Chip.setReg_clock, Chip.accLocked_clock, Chip.done_clock, apply_ite Chip.clock, ite_self, apply_ite Prod.fst]

theorem Chip.headerWrite_clock (m : Master) (page addr : Nat) (w : Word) : (c.headerWrite m page addr w).1.clock = c.clock := by
  unfold Chip.headerWrite
  split <;> simp only [Chip.accRights_clock, Chip.done_clock, Chip.histWrite_clock, Chip.ienWrite_clock, Chip.ctrlWrite_clock,
    Chip.chselWrite_clock, Chip.lockWrite_clock, apply_ite Chip.clock, ite_self, apply_ite Prod.fst]

end Clock

/-! ### A clock that keeps its pace -/

/-- The count, the anchor's tick and RATE are as they were, and a RATE that is staged anew is a 64-bit value (R64 to R66). -/
structure Paced (c d : Chip) : Prop where
  frc : d.tk.frc = c.tk.frc
  frcAnchor : d.tk.frcAnchor = c.tk.frcAnchor
  rate : d.tk.rate = c.tk.rate
  staged : ∀ r ∈ d.tk.rateStage, r ∈ c.tk.rateStage ∨ r < 2 ^ 64

theorem Paced.of_clock {c d : Chip} (h : d.clock = c.clock) : Paced c d :=
  have hstage : d.tk.rateStage = c.tk.rateStage := (congrArg TkState.rateStage h :)
  ⟨(congrArg TkState.frc h :), (congrArg TkState.frcAnchor h :), (congrArg TkState.rate h :), fun _ hr => .inl (hstage ▸ hr)⟩

theorem Paced.trans {a b c : Chip} (h : Paced a b) (h' : Paced b c) : Paced a c where
  frc := h'.frc.trans h.frc
  frcAnchor := h'.frcAnchor.trans h.frcAnchor
  rate := h'.rate.trans h.rate
  staged r hr := (h'.staged r hr).elim (h.staged r) .inr

theorem Paced.ite {c x y : Chip} {p : Prop} [Decidable p] (hx : Paced c x) (hy : Paced c y) : Paced c (if p then x else y) := by
  split
  · exact hx
  · exact hy

theorem Paced.foldl {β : Type} (f : Chip → β → Chip) (hf : ∀ x b, Paced x (f x b)) (l : List β) (c : Chip) :
    Paced c (l.foldl f c) := by
  induction l generalizing c with
  | nil => exact .of_clock rfl
  | cons b l ih => exact (hf c b).trans (ih _)

section Paced

variable (c : Chip)

/-- The staged RATE is made of two 32-bit words (R66). -/
theorem Chip.rateWrite_paced (m : Master) (w : Word) : Paced c (c.rateWrite m w).1 := by
  unfold Chip.rateWrite
  extract_lets rate win told tk
  have hrate : rate < 2 ^ 64 := by
    have hhigh := w.isLt
    have hlow := (c.regOf m Reg.TK_RATE_LO).isLt
    omega
  have htold : told.clock = c.clock := clock_ite (c.report_clock _ _) rfl
  split
  · exact .of_clock (c.guardRefuse_clock _ _ _ _ _)
  · split
    · exact .of_clock (c.guardRefuse_clock _ _ _ _ _)
    · have hpaced : Paced c told := .of_clock htold
      exact ⟨hpaced.frc, hpaced.frcAnchor, hpaced.rate, fun r hr => .inr (Option.mem_some.1 hr ▸ hrate)⟩

theorem Chip.stepWrite_paced (m : Master) (w : Word) : Paced c (c.stepWrite m w) :=
  .ite (.of_clock (c.report_clock _ _)) ⟨rfl, rfl, rfl, fun _ hr => .inl hr⟩

theorem Chip.writeTk_paced (x : RegWrite) : Paced c (c.writeTk x).1 := by
  unfold Chip.writeTk
  split
  · exact c.rateWrite_paced x.m x.w
  · exact c.stepWrite_paced x.m x.w
  · exact .of_clock ((Chip.settle_clock _).trans (c.store_clock x))
  · exact .of_clock ((Chip.settle_clock _).trans (c.store_clock x))
  · exact .of_clock (c.store_clock x)

/-- A write stages a RATE or arms a step on the page TK alone (R46). -/
theorem Chip.rowWrite_paced (x : RegWrite) : Paced c (c.rowWrite x).1 := by
  unfold Chip.rowWrite
  split
  · exact .of_clock (c.writeGlb_clock x)
  · exact c.writeTk_paced x
  · exact .of_clock (c.writeTb_clock x)
  · exact .of_clock (c.writeSv_clock x)
  · exact .of_clock (c.writeRf_clock x)
  · exact .of_clock (c.writeLn_clock x)
  · exact .of_clock (c.writeTr_clock x)
  · exact .of_clock (c.writeRt_clock x)
  · exact .of_clock (c.writeTs_clock x)
  · exact .of_clock (c.writePo_clock x)
  · exact .of_clock (c.writeSq_clock x)
  · exact .of_clock (c.writeSqm_clock x)
  · exact .of_clock (c.writeMt_clock x)
  · exact .of_clock (c.writeGr_clock x)
  · exact .of_clock (c.writeSg_clock x)
  · exact .of_clock (c.writeGd_clock x)
  · exact .of_clock (c.writeHg_clock x)
  · exact .of_clock (c.writeCp_clock x)
  · exact .of_clock (c.writeEv_clock x)
  · exact .of_clock (c.writeMn_clock x)
  · exact .of_clock (c.writeHs_clock x)
  · exact .of_clock (c.writePw_clock x)
  · exact .of_clock (c.writeFw_clock x)
  · exact .of_clock (c.store_clock x)

theorem Chip.lockedWrite_paced (x : RegWrite) (addr : Nat) (w : Word) : Paced c (c.lockedWrite x addr w).1 := by
  unfold Chip.lockedWrite
  extract_lets cur differs told kind d
  have htold : Paced c told := .of_clock (clock_ite (c.accLocked_clock _ _ _) rfl)
  split
  · exact htold
  · exact htold.trans (told.rowWrite_paced _)

theorem Chip.mappedWrite_paced (m : Master) (r : RegRow) (i addr : Nat) (w : Word) : Paced c (c.mappedWrite m r i addr w).1 := by
  unfold Chip.mappedWrite
  extract_lets idx x
  split
  · exact .of_clock rfl
  · exact .of_clock rfl
  · exact .of_clock rfl
  · split
    · exact .of_clock (c.accRights_clock _ _ _)
    · split
      · exact c.lockedWrite_paced _ _ _
      · exact c.rowWrite_paced _

theorem Chip.masterWrite_paced (m : Master) (addr : Nat) (w : Word) : Paced c (c.masterWrite m addr w).1 := by
  unfold Chip.masterWrite
  extract_lets page
  split
  · exact .of_clock (c.accRefuse_clock _ _ _ _ _)
  · split
    · exact .of_clock (c.headerWrite_clock _ _ _ _)
    · split
      · exact .of_clock (c.accRefuse_clock _ _ _ _ _)
      · exact c.mappedWrite_paced _ _ _ _ _

/-- An access that executes: a write as its register has it, or a read (R48, R128). -/
theorem Chip.accessNow_paced (a : HeldAccess) : Paced c (c.accessNow a) := by
  unfold Chip.accessNow
  extract_lets read r
  have hr : Paced c r.1 := by
    simp only [r]
    split
    · split
      · exact c.masterWrite_paced _ _ _
      · exact c.masterWrite_paced _ _ _
    · exact .of_clock (c.masterRead_clock _ _)
  clear_value r
  split
  · exact hr.trans (.of_clock ((Chip.sendCells_clock _ _ _ _).trans (Chip.count_clock _ _ _ _)))
  · exact hr

theorem Chip.access_paced (a : HeldAccess) : Paced c (c.access a) := by
  unfold Chip.access
  split
  · exact .of_clock rfl
  · exact c.accessNow_paced a

theorem Chip.holdEnd_paced (page : Nat) : Paced c (c.holdEnd page) :=
  Paced.trans (b := { c with held := SMap.erase c.held page }) (.of_clock rfl) (.foldl _ Chip.access_paced _ _)

theorem Chip.rreqTake_paced (p : Nat) : Paced c (c.rreqTake p) := by
  unfold Chip.rreqTake
  split
  · exact .of_clock rfl
  · extract_lets popped m addr
    have hpopped : Paced c popped := .of_clock (c.popRx_clock p _ _)
    clear_value popped
    split
    · exact hpopped.trans (popped.access_paced _)
    · exact hpopped.trans (popped.access_paced _)
    · exact hpopped

/-- TCLK stops or runs again with the count as it stands (R75). -/
theorem Chip.tclkStop_paced : Paced c c.tclkStop := by
  unfold Chip.tclkStop
  split
  · refine Paced.trans (b := { c with tk := { c.tk with tclk := false, valid := false, lostPending := true } }) ?_
      (.of_clock (Chip.setSvMode_clock _ _ _))
    exact ⟨rfl, rfl, rfl, fun _ hr => .inl hr⟩
  · exact .of_clock rfl

theorem Chip.tclkStart_paced : Paced c c.tclkStart := by
  unfold Chip.tclkStart
  extract_lets lost tk started
  have hstarted : Paced c started := ⟨rfl, rfl, rfl, fun _ hr => .inl hr⟩
  exact .ite (hstarted.trans (.of_clock (started.report_clock _ _))) hstarted

end Paced

end Sys2Proof.Machine
end

section
/-!
What the commands of the blocks leave of the clock (R58, R64).
-/

namespace Sys2Proof.Machine

/-! ### What an outcome leaves of the clock -/

/-- The next state of an outcome, where there is one, keeps the pace. -/
def Paces (c : Chip) (o : Host.Outcome State Fault Refusal) : Prop := ∀ t, o = .next t → Paced c t.chip

theorem Paces.fault {c : Chip} (e : Fault) : Paces c (.fault e) := fun _ h => nomatch h

theorem Paces.ite {c : Chip} {p : Prop} [Decidable p] {x y : Host.Outcome State Fault Refusal} (hx : Paces c x) (hy : Paces c y) :
    Paces c (if p then x else y) := by
  split
  · exact hx
  · exact hy

section Wrappers

variable (s : State) {f : Chip → Chip}

theorem State.apply_paces (h : ∀ c, Paced c (f c)) : Paces s.chip (s.apply f) := by
  intro t ht
  cases ht
  exact Paced.trans (b := s.chip.newCycle) (.of_clock rfl) (h _)

theorem State.run_paces (h : ∀ c, Paced c (f c)) : Paces s.chip (s.run f) :=
  s.apply_paces fun c => .ite (.of_clock rfl) (h c)

theorem State.runDie_paces (h : ∀ c, Paced c (f c)) : Paces s.chip (s.runDie f) := .ite (.fault _) (s.run_paces h)

theorem State.runHub_paces (h : ∀ c, Paced c (f c)) : Paces s.chip (s.runHub f) := .ite (s.run_paces h) (.fault _)

theorem State.runPort_paces (p : Port) (h : ∀ c, Paced c (f c)) : Paces s.chip (s.runPort p f) := .ite (s.run_paces h) (.fault _)

theorem State.runDiePort_paces (p : Port) (h : ∀ c, Paced c (f c)) : Paces s.chip (s.runDiePort p f) := .ite (s.run_paces h) (.fault _)

theorem State.runTap_paces (t : Nat) (h : ∀ c, Paced c (f c)) : Paces s.chip (s.runTap t f) := .ite (s.run_paces h) (.fault _)

theorem State.runEng_paces (e : Engine) (h : ∀ c, Paced c (f c)) : Paces s.chip (s.runEng e f) := s.runTap_paces _ h

theorem State.runMaster_paces (m : Master) (h : ∀ c, Paced c (f c)) : Paces s.chip (s.runMaster m f) :=
  .ite (.fault _) (s.run_paces fun c => .ite (.of_clock rfl) (h c))

end Wrappers

/-! ### Counters and snapshots -/

theorem execSnapshotDue_paces (s : State) : Paces s.chip (execSnapshotDue s) :=
  State.run_paces s fun _ => .of_clock (Chip.snapDue_clock ..)

/-! ### Region taps, lines, crossings and engines -/

theorem execDriftCheck_paces (t : Tap) (trip : BitVec 16) (s : State) : Paces s.chip (execDriftCheck t trip s) := by
  unfold execDriftCheck
  refine State.runTap_paces s _ fun c => .of_clock ?_
  simp only [Chip.modTap_clock, apply_ite Chip.clock, ite_self]

theorem execArmArrive_paces (l : Line) (s : State) : Paces s.chip (execArmArrive l s) := by
  unfold execArmArrive
  refine State.runDie_paces s fun c => .of_clock ?_
  split <;> simp only [Chip.placeArm_clock, Chip.clock_mk, Chip.clock_tk, apply_ite Chip.clock, ite_self]

theorem execTapMoment_paces (l : Line) (s : State) : Paces s.chip (execTapMoment l s) := by
  unfold execTapMoment
  refine State.runDie_paces s fun c => .of_clock ?_
  split <;> simp only [Chip.tapMoment_clock, apply_ite Chip.clock, ite_self]

theorem execStopreq_paces (t : Tap) (s : State) : Paces s.chip (execStopreq t s) := by
  unfold execStopreq
  refine State.runTap_paces s _ fun c => .of_clock ?_
  simp only [Chip.modTap_clock, Chip.regionStop_clock, apply_ite Chip.clock, ite_self]

theorem execOpcalDone_paces (t : Tap) (period : BitVec 24) (s : State) : Paces s.chip (execOpcalDone t period s) := by
  unfold execOpcalDone
  refine State.runTap_paces s _ fun c => .of_clock ?_
  simp only [Chip.modTap_clock, apply_ite Chip.clock, ite_self]

theorem execXcStrobe_paces (x : Crossing) (phase : Fin 64) (s : State) : Paces s.chip (execXcStrobe x phase s) := by
  unfold execXcStrobe
  refine State.runTap_paces s _ fun c => .of_clock ?_
  dsimp only
  (repeat' split) <;> simp only [Chip.modXc_clock]

theorem execXcRelease_paces (x : Crossing) (phase : Fin 64) (retaken : Bool) (s : State) :
    Paces s.chip (execXcRelease x phase retaken s) := by
  unfold execXcRelease
  refine State.runTap_paces s _ fun c => .of_clock ?_
  dsimp only
  (repeat' split) <;> simp only [Chip.bump_clock, Chip.report_clock, Chip.detClearClass_clock, Chip.modXc_clock]

theorem execXcalDone_paces (t : Tap) (lat0 lat1 lat2 lat3 : BitVec 8) (s : State) :
    Paces s.chip (execXcalDone t lat0 lat1 lat2 lat3 s) := by
  unfold execXcalDone
  refine State.runTap_paces s _ fun c => .of_clock ?_
  simp only [Chip.modTap_clock, Chip.xcalOne_clock, apply_ite Chip.clock, ite_self]

/-! ### Censuses -/

theorem Chip.calTaps_clock (c : Chip) (n t cum : Nat) (good : Bool) (l : List HopMeas) : (c.calTaps l n t cum good).clock = c.clock := by
  induction n generalizing c l t cum good with
  | zero => rfl
  | succ n ih =>
    refine (ih _ _ _ _ _).trans ?_
    split
    · exact c.calTap_clock _ _ _ _
    · rfl

theorem execChainCalDone_paces (hops : List HopMeas) (s : State) : Paces s.chip (execChainCalDone hops s) := by
  refine State.runDie_paces s fun c => .of_clock ?_
  exact clock_ite ((Chip.dieCensus_clock _).trans
    ((rfl : _ = (c.calTaps hops c.id.ntaps 0 0 true).clock).trans (c.calTaps_clock _ _ _ _ _))) rfl

/-! ### Barriers -/

theorem execHeldSend_paces (s : State) : Paces s.chip (execHeldSend s) := by
  unfold execHeldSend
  refine State.run_paces s fun c => .of_clock ?_
  (repeat' split) <;> simp only [Chip.heldStep_clock, Chip.probeUp_clock, Chip.keptTo_clock, clock_foldl, implies_true]

theorem execDieArrival_paces (i : DieGIdx) (s : State) : Paces s.chip (execDieArrival i s) := by
  unfold execDieArrival
  refine State.runDie_paces s fun c => .of_clock ?_
  dsimp only
  (repeat' split) <;> simp only [Chip.arrive_clock]

theorem execArriveReceive_paces (p : Port) (s : State) : Paces s.chip (execArriveReceive p s) := by
  unfold execArriveReceive
  refine State.runPort_paces s _ fun c => .of_clock ?_
  dsimp only
  (repeat' split) <;> simp only [Chip.popRx_clock, Chip.staleB_clock, Chip.acceptArrival_clock]

theorem execReleaseReceive_paces (p : Port) (s : State) : Paces s.chip (execReleaseReceive p s) := by
  refine .ite (State.runPort_paces s _ fun c => .of_clock (c.releaseAt_clock _ ?_)) (.fault _)
  exact fun x g r l => x.forwardRelease_clock _ _ _ _

theorem execReleaseDeliver_paces (p : Port) (s : State) : Paces s.chip (execReleaseDeliver p s) := by
  unfold execReleaseDeliver
  refine State.runDiePort_paces s _ fun c => .of_clock ?_
  simp only [Chip.deliver_clock, Chip.strayRelease_clock, Chip.releaseAt_clock, apply_ite Chip.clock, ite_self, implies_true]

theorem execLevelSat_paces (s : State) : Paces s.chip (execLevelSat s) := by
  unfold execLevelSat
  refine State.run_paces s fun c => .of_clock ?_
  simp only [Chip.takeFree_clock, Chip.report_clock, Chip.clock_mk, Chip.clock_tk, apply_ite Chip.clock, ite_self]

/-! ### Groups -/

theorem execQuarantineEnd_paces (i : GIdx) (s : State) : Paces s.chip (execQuarantineEnd i s) := by
  refine .ite (State.run_paces s fun c => .of_clock (clock_ite ?_ rfl)) (.fault _)
  exact (Chip.clearMortar_clock _ _).trans (c.modEnt_clock _ _)

theorem execSealReceive_paces (p : Port) (s : State) : Paces s.chip (execSealReceive p s) := by
  unfold execSealReceive
  refine State.runPort_paces s _ fun c => .of_clock ?_
  simp only [Chip.censusSend_clock, Chip.fanGcmd_clock, Chip.regroup_clock, Chip.sealOpen_clock, Chip.gcmdAt_clock,
    apply_ite Chip.clock, ite_self, implies_true]

theorem execDissolveReceive_paces (p : Port) (s : State) : Paces s.chip (execDissolveReceive p s) := by
  unfold execDissolveReceive
  refine State.runPort_paces s _ fun c => .of_clock ?_
  simp only [Chip.fanGcmd_clock, Chip.dissolve_clock, Chip.gcmdAt_clock, implies_true]

theorem execAdmitReceive_paces (p : Port) (s : State) : Paces s.chip (execAdmitReceive p s) := by
  unfold execAdmitReceive
  refine State.runPort_paces s _ fun c => .of_clock ?_
  simp only [Chip.applyChange_clock, Chip.gcmdAt_clock, implies_true]

theorem execExpelReceive_paces (p : Port) (s : State) : Paces s.chip (execExpelReceive p s) := by
  unfold execExpelReceive
  refine State.runPort_paces s _ fun c => .of_clock ?_
  simp only [Chip.applyChange_clock, Chip.gcmdAt_clock, implies_true]

theorem execHubCensusSend_paces (i : GIdx) (s : State) : Paces s.chip (execHubCensusSend i s) := by
  unfold execHubCensusSend
  refine State.runHub_paces s fun c => .of_clock ?_
  simp only [Chip.censusSend_clock, apply_ite Chip.clock, ite_self]

theorem execCensusReceive_paces (p : Port) (s : State) : Paces s.chip (execCensusReceive p s) := by
  unfold execCensusReceive
  refine State.runPort_paces s _ fun c => .of_clock ?_
  simp only [Chip.modEnt_clock, Chip.stale_clock, Chip.regroup_clock, Chip.censusAt_clock, apply_ite Chip.clock, ite_self,
    implies_true]

theorem execCensusDownReceive_paces (p : Port) (s : State) : Paces s.chip (execCensusDownReceive p s) := by
  unfold execCensusDownReceive
  refine State.runPort_paces s _ fun c => .of_clock ?_
  simp only [Chip.sendCells_clock, Chip.modEnt_clock, Chip.censusDone_clock, Chip.stale_clock, Chip.censusAt_clock,
    apply_ite Chip.clock, ite_self, clock_foldl, implies_true]

/-! ### Semaphores and remote signals -/

theorem execGrant_paces (n : SemIdx) (s : State) : Paces s.chip (execGrant n s) := by
  unfold execGrant
  refine State.runDie_paces s fun c => .of_clock ?_
  split <;> simp only [Chip.granted_clock, Chip.takeGrant_clock]

theorem execSignal_paces (t : Slot) (sem : Sem) (n : BitVec 16) (dir : Bool) (tag : BitVec 8) (s : State) :
    Paces s.chip (execSignal t sem n dir tag s) :=
  State.runDie_paces s fun _ => .of_clock (Chip.coreReq_clock ..)

theorem execSetevent_paces (t : Slot) (sem : Sem) (s : State) : Paces s.chip (execSetevent t sem s) :=
  State.runDie_paces s fun _ => .of_clock (Chip.coreReq_clock ..)

theorem execWait_paces (t : Slot) (sem : Sem) (n : BitVec 16) (dir ord : Bool) (rank tag : BitVec 8) (s : State) :
    Paces s.chip (execWait t sem n dir ord rank tag s) :=
  State.runDie_paces s fun _ => .of_clock (Chip.coreReq_clock ..)

theorem execCoreSigr_paces (t : Slot) (gte : GateIdx) (n : BitVec 16) (dir : Bool) (tag : BitVec 8) (s : State) :
    Paces s.chip (execCoreSigr t gte n dir tag s) :=
  State.runDie_paces s fun _ => .of_clock (Chip.coreReq_clock ..)

theorem execCancel_paces (t : Slot) (s : State) : Paces s.chip (execCancel t s) :=
  State.runDie_paces s fun _ => .of_clock (Chip.coreReq_clock ..)

theorem execStagingQuery_paces (s : State) : Paces s.chip (execStagingQuery s) := by
  unfold execStagingQuery
  refine State.runDie_paces s fun c => .of_clock ?_
  split <;> simp only [Chip.clock_mk, Chip.clock_tk, apply_ite Chip.clock, ite_self]

theorem execFcAnswer_paces (count : Word) (s : State) : Paces s.chip (execFcAnswer count s) := by
  unfold execFcAnswer
  refine State.runDie_paces s fun c => .of_clock ?_
  dsimp only
  (repeat' split) <;> simp only [Chip.fcSeen_clock, Chip.stageOut_clock, Chip.clock_mk, Chip.clock_tk]

theorem execFctrTmo_paces (s : State) : Paces s.chip (execFctrTmo s) := by
  unfold execFctrTmo
  refine State.runDie_paces s fun c => .of_clock ?_
  split <;> simp only [Chip.report_clock]

theorem execRsigForward_paces (p : Port) (s : State) : Paces s.chip (execRsigForward p s) := by
  refine .ite (State.runPort_paces s _ fun c => .of_clock ?_) (.fault _)
  have hstale : ∀ gid k n, ((c.popRx p.val clsS 1).stale gid p.val k n).clock = c.clock := fun gid k n =>
    (Chip.stale_clock _ _ _ _ _).trans (c.popRx_clock _ _ _)
  split
  · rfl
  · split
    · exact hstale _ _ _
    · split
      · exact hstale _ _ _
      · exact clock_ite ((Chip.sendCells_clock _ _ _ _).trans (c.popRx_clock _ _ _)) rfl

theorem execRsigReceive_paces (p : Port) (s : State) : Paces s.chip (execRsigReceive p s) := by
  unfold execRsigReceive
  refine State.runDiePort_paces s _ fun c => .of_clock ?_
  (repeat' split) <;> simp only [Chip.stale_clock, Chip.popRx_clock, Chip.rsigBad_clock]

theorem execPendingEntry_paces (p : Port) (s : State) : Paces s.chip (execPendingEntry p s) := by
  unfold execPendingEntry
  refine State.runDiePort_paces s _ fun c => .of_clock ?_
  dsimp only
  (repeat' split) <;> simp only [Chip.bump_clock, Chip.count_clock, Chip.modEnt_clock, Chip.activity_clock, Chip.popRx_clock,
    Chip.pendTake_clock]

theorem execFcUpdate_paces (src : BitVec 24) (chan : BitVec 12) (count : Word) (s : State) :
    Paces s.chip (execFcUpdate src chan count s) :=
  State.runDie_paces s fun _ => .of_clock (Chip.fcSeen_clock ..)

theorem execRemoteSignalExecute_paces (s : State) : Paces s.chip (execRemoteSignalExecute s) := by
  unfold execRemoteSignalExecute
  refine State.runDie_paces s fun c => .of_clock ?_
  simp only [Chip.releaseTurn_clock, apply_ite Chip.clock, ite_self]

theorem execGateStall_paces (i : PendIdx) (s : State) : Paces s.chip (execGateStall i s) := by
  unfold execGateStall
  refine State.runDie_paces s fun c => .of_clock ?_
  dsimp only
  (repeat' split) <;> simp only [Chip.takeFree_clock, Chip.report_clock, Chip.clock_mk, Chip.clock_tk]

/-! ### The sequencer -/

theorem execThreadAged_paces (t : Thread) (s : State) : Paces s.chip (execThreadAged t s) := by
  unfold execThreadAged
  refine State.runDie_paces s fun c => .of_clock ?_
  simp only [Chip.note_clock, Chip.modTh_clock, apply_ite Chip.clock, ite_self]

theorem execNop_paces (t : Thread) (s : State) : Paces s.chip (execNop t s) := by
  unfold execNop
  refine State.runDie_paces s fun c => .of_clock ?_
  simp only [Chip.issue_clock, Chip.nextPc_clock, implies_true]

theorem execHalt_paces (t : Thread) (s : State) : Paces s.chip (execHalt t s) := by
  unfold execHalt
  refine State.runDie_paces s fun c => .of_clock ?_
  simp only [Chip.modTh_clock, Chip.issue_clock, Chip.clock_mk, Chip.clock_tk, apply_ite Chip.clock, ite_self, implies_true]

theorem execJmp_paces (t : Thread) (s : State) : Paces s.chip (execJmp t s) := by
  unfold execJmp
  refine State.runDie_paces s fun c => .of_clock ?_
  simp only [Chip.modTh_clock, Chip.issue_clock, implies_true]

theorem execLoop_paces (t : Thread) (s : State) : Paces s.chip (execLoop t s) := by
  unfold execLoop
  refine State.runDie_paces s fun c => .of_clock ?_
  simp only [Chip.modTh_clock, Chip.setMbox_clock, Chip.issue_clock, Chip.nextPc_clock, apply_ite Chip.clock, ite_self, implies_true]

theorem execBrf_paces (t : Thread) (s : State) : Paces s.chip (execBrf t s) := by
  unfold execBrf
  refine State.runDie_paces s fun c => .of_clock ?_
  simp only [Chip.modTh_clock, Chip.issue_clock, Chip.nextPc_clock, Chip.badOpnd_clock, apply_ite Chip.clock, ite_self, implies_true]

theorem execBadOp_paces (t : Thread) (s : State) : Paces s.chip (execBadOp t s) := by
  unfold execBadOp
  refine State.runDie_paces s fun c => .of_clock ?_
  simp only [Chip.thFault_clock, Chip.issued_clock, apply_ite Chip.clock, ite_self]

theorem execWaitt_paces (t : Thread) (s : State) : Paces s.chip (execWaitt t s) := by
  unfold execWaitt
  refine State.runDie_paces s fun c => .of_clock ?_
  simp only [Chip.modTh_clock, Chip.issue_clock, Chip.nextPc_clock, apply_ite Chip.clock, ite_self, implies_true]

theorem execWaittWake_paces (t : Thread) (s : State) : Paces s.chip (execWaittWake t s) := by
  unfold execWaittWake
  refine State.runDie_paces s fun c => .of_clock ?_
  simp only [Chip.toRun_clock, apply_ite Chip.clock, ite_self]

theorem execSetb_paces (t : Thread) (s : State) : Paces s.chip (execSetb t s) := by
  refine State.runDie_paces s fun c => .of_clock (c.issue_clock _ _ fun c w => ?_)
  dsimp only
  split
  · exact (Chip.nextPc_clock _ _).trans (c.setBase_clock _ _)
  · exact (Chip.nextPc_clock _ _).trans (c.setBase_clock _ _)
  · refine clock_ite (c.badOpnd_clock _) ((Chip.nextPc_clock _ _).trans ((Chip.setBase_clock _ _ _).trans (clock_ite ?_ rfl)))
    exact (Chip.detClear_clock _ _ _).trans (c.report_clock _ _)
  · exact (Chip.nextPc_clock _ _).trans (c.setBase_clock _ _)

theorem execFire_paces (t : Thread) (s : State) : Paces s.chip (execFire t s) := by
  unfold execFire
  refine State.runDie_paces s fun c => .of_clock ?_
  simp only [Chip.issue_clock, Chip.fireSet_clock, implies_true]

theorem execFireat_paces (t : Thread) (s : State) : Paces s.chip (execFireat t s) := by
  unfold execFireat
  refine State.runDie_paces s fun c => .of_clock ?_
  simp only [Chip.issue_clock, Chip.fireSet_clock, implies_true]

theorem execFireRetire_paces (t : Thread) (s : State) : Paces s.chip (execFireRetire t s) := by
  unfold execFireRetire
  refine State.runDie_paces s fun c => .of_clock ?_
  simp only [Chip.toRun_clock, Chip.nextPc_clock, apply_ite Chip.clock, ite_self]

theorem execParity_paces (t : Thread) (word : BitVec 15) (s : State) : Paces s.chip (execParity t word s) := by
  unfold execParity
  refine State.runDie_paces s fun c => .of_clock ?_
  simp only [Chip.parityStop_clock, apply_ite Chip.clock, ite_self]

theorem execArm_paces (t : Thread) (s : State) : Paces s.chip (execArm t s) := by
  unfold execArm
  refine State.runDie_paces s fun c => .of_clock ?_
  simp only [Chip.modTh_clock, Chip.issue_clock, Chip.nextPc_clock, Chip.badOpnd_clock, Chip.noGroup_clock, apply_ite Chip.clock,
    ite_self, implies_true]

theorem execContrib_paces (t : Thread) (s : State) : Paces s.chip (execContrib t s) := by
  unfold execContrib
  refine State.runDie_paces s fun c => .of_clock ?_
  simp only [Chip.report_clock, Chip.modTh_clock, Chip.servoSweep_clock, Chip.contribute_clock, Chip.issue_clock, Chip.nextPc_clock,
    Chip.badOpnd_clock, Chip.noGroup_clock, Chip.contribBad_clock, apply_ite Chip.clock, ite_self, implies_true]

theorem execSync_paces (t : Thread) (s : State) : Paces s.chip (execSync t s) := by
  refine State.runDie_paces s fun c => .of_clock (c.issue_clock _ _ fun c w => ?_)
  extract_lets x e short swept waiting
  have hwaiting : waiting.clock = c.clock := (swept.modTh_clock _ _).trans c.servoSweep_clock
  refine clock_ite (c.noGroup_clock _) (clock_ite (c.thFault_clock _ _ _) ?_)
  split
  · exact clock_ite ((waiting.takeRelease_clock _ _).trans hwaiting) ((waiting.syncMark_clock _).trans hwaiting)
  · exact (waiting.syncMark_clock _).trans hwaiting

theorem execSig_paces (t : Thread) (s : State) : Paces s.chip (execSig t s) := by
  refine State.runDie_paces s fun c => .of_clock (clock_ite rfl (c.issue_clock _ _ fun c w => ?_))
  exact clock_ite (c.badOpnd_clock _) ((threadOp_clock _ _ fun _ => rfl).trans (c.semSignal_clock _ _ _ _ _))

theorem execSigEvt_paces (t : Thread) (s : State) : Paces s.chip (execSigEvt t s) := by
  refine State.runDie_paces s fun c => .of_clock (clock_ite rfl (c.issue_clock _ _ fun c w => ?_))
  exact clock_ite (c.badOpnd_clock _) ((threadOp_clock _ _ fun _ => rfl).trans (c.semSetevent_clock _ _))

theorem execSigr_paces (t : Thread) (s : State) : Paces s.chip (execSigr t s) :=
  State.runDie_paces s fun c => .of_clock (c.issue_clock _ _ fun c _ =>
    (threadOp_clock _ _ fun _ => rfl).trans (c.semSigr_clock _ _ _ _ _))

theorem execWaits_paces (t : Thread) (s : State) : Paces s.chip (execWaits t s) := by
  refine State.runDie_paces s fun c => .of_clock (c.issue_clock _ _ fun c w => ?_)
  refine clock_ite (c.badOpnd_clock _) ((threadOp_clock _ _ ?_).trans (c.semWait_clock _ _ _ _ _ _ _))
  exact fun x => x.modTh_clock _ _

theorem execFence_paces (t : Thread) (s : State) : Paces s.chip (execFence t s) := by
  unfold execFence
  refine State.runDie_paces s fun c => .of_clock ?_
  simp only [Chip.modTh_clock, Chip.issue_clock, Chip.nextPc_clock, Chip.fenceAsk_clock, implies_true]

theorem execFenceDone_paces (tag : Fin 16) (s : State) : Paces s.chip (execFenceDone tag s) := by
  unfold execFenceDone
  refine State.runDie_paces s fun c => .of_clock ?_
  dsimp only
  (repeat' split) <;> simp only [Chip.toRun_clock, Chip.clock_mk, Chip.clock_tk]

theorem execFenceStall_paces (t : Thread) (s : State) : Paces s.chip (execFenceStall t s) := by
  unfold execFenceStall
  refine State.runDie_paces s fun c => .of_clock ?_
  simp only [Chip.report_clock, Chip.modTh_clock, apply_ite Chip.clock, ite_self]

theorem execSnap_paces (t : Thread) (s : State) : Paces s.chip (execSnap t s) := by
  unfold execSnap
  refine State.runDie_paces s fun c => .of_clock ?_
  simp only [Chip.snapNow_clock, Chip.issue_clock, Chip.nextPc_clock, apply_ite Chip.clock, ite_self, implies_true]

theorem execSnapAt_paces (t : Thread) (s : State) : Paces s.chip (execSnapAt t s) := by
  unfold execSnapAt
  refine State.runDie_paces s fun c => .of_clock ?_
  simp only [Chip.snapArm_clock, Chip.issue_clock, Chip.nextPc_clock, apply_ite Chip.clock, ite_self, implies_true]

theorem execMark_paces (t : Thread) (s : State) : Paces s.chip (execMark t s) := by
  unfold execMark
  refine State.runDie_paces s fun c => .of_clock ?_
  simp only [Chip.enqueueRec_clock, Chip.note_clock, Chip.issue_clock, Chip.nextPc_clock, Chip.badOpnd_clock, apply_ite Chip.clock,
    ite_self, implies_true]

/-! ### Capsule, escalation, fence and solo replay -/

theorem execCapturePauseEnd_paces (s : State) : Paces s.chip (execCapturePauseEnd s) := by
  unfold execCapturePauseEnd
  refine State.runDie_paces s fun c => .of_clock ?_
  simp only [Chip.clock_mk, Chip.clock_tk, apply_ite Chip.clock, ite_self]

theorem execEngStatus_paces (e : Engine) (words : List Word) (s : State) : Paces s.chip (execEngStatus e words s) := by
  unfold execEngStatus
  refine State.runEng_paces s _ fun c => .of_clock ?_
  simp only [Chip.clock_mk, Chip.clock_tk, apply_ite Chip.clock, ite_self]

theorem execEstatTmo_paces (e : Engine) (s : State) : Paces s.chip (execEstatTmo e s) := by
  unfold execEstatTmo
  refine State.runEng_paces s _ fun c => .of_clock ?_
  simp only [Chip.report_clock, Chip.clock_mk, Chip.clock_tk, apply_ite Chip.clock, ite_self]

theorem execCapsuleMirrored_paces (s : State) : Paces s.chip (execCapsuleMirrored s) := by
  unfold execCapsuleMirrored
  refine State.runDie_paces s fun c => .of_clock ?_
  simp only [Chip.note_clock, Chip.clock_mk, Chip.clock_tk, apply_ite Chip.clock, ite_self]

theorem execSoloFire_paces (s : State) : Paces s.chip (execSoloFire s) := by
  unfold execSoloFire
  refine State.runDie_paces s fun c => .of_clock ?_
  dsimp only
  (repeat' split) <;> simp only [Chip.placeArm_clock, Chip.clock_mk, Chip.clock_tk]

theorem execCapsuleComplete_paces (s : State) : Paces s.chip (execCapsuleComplete s) := by
  unfold execCapsuleComplete
  refine State.runDie_paces s fun c => .of_clock ?_
  simp only [Chip.report_clock, Chip.mirrorStart_clock, Chip.escalateWaiting_clock, Chip.clock_mk, Chip.clock_tk,
    apply_ite Chip.clock, ite_self]

theorem execEngResetTimeout_paces (e : Engine) (s : State) : Paces s.chip (execEngResetTimeout e s) := by
  unfold execEngResetTimeout
  refine State.runEng_paces s _ fun c => .of_clock ?_
  simp only [Chip.report_clock, Chip.modTap_clock, Chip.modEng_clock, Chip.regionStop_clock, Chip.withdraw_clock, Chip.logStep_clock,
    Chip.clock_mk, Chip.clock_tk, apply_ite Chip.clock, ite_self, clock_foldl, implies_true]

theorem execRgnRack_paces (x : TapEdge) (s : State) : Paces s.chip (execRgnRack x s) := by
  unfold execRgnRack
  refine State.runTap_paces s _ fun c => .of_clock ?_
  simp only [Chip.modTap_clock, Chip.modEng_clock, Chip.logAck_clock, Chip.recovered_clock, apply_ite Chip.clock, ite_self,
    clock_foldl, implies_true]

theorem execRgnResetTimeout_paces (t : Tap) (s : State) : Paces s.chip (execRgnResetTimeout t s) := by
  unfold execRgnResetTimeout
  refine State.runTap_paces s _ fun c => .of_clock ?_
  simp only [Chip.report_clock, Chip.modEng_clock, Chip.logStep_clock, Chip.fence_clock, apply_ite Chip.clock, ite_self, clock_foldl,
    implies_true]

theorem execHeartbeat_paces (x : EngEdge) (s : State) : Paces s.chip (execHeartbeat x s) :=
  State.runEng_paces s _ fun _ => .of_clock (Chip.engSample_clock ..)

theorem execEngineDone_paces (x : EngEdge) (s : State) : Paces s.chip (execEngineDone x s) := by
  unfold execEngineDone
  refine State.runEng_paces s _ fun c => .of_clock ?_
  simp only [Chip.engSample_clock]

theorem execEngStart_paces (x : EngEdge) (ctx : Word) (s : State) : Paces s.chip (execEngStart x ctx s) :=
  State.runEng_paces s _ fun _ => .of_clock (Chip.engSample_clock ..)

theorem execEngRack_paces (x : EngEdge) (s : State) : Paces s.chip (execEngRack x s) :=
  State.runEng_paces s _ fun _ => .of_clock (Chip.engSample_clock ..)

theorem execRegionRun_paces (x : TapEdge) (op : Fin 4) (s : State) : Paces s.chip (execRegionRun x op s) := by
  unfold execRegionRun
  refine State.runTap_paces s _ fun c => .of_clock ?_
  simp only [Chip.modTap_clock, Chip.regionRestart_clock, apply_ite Chip.clock, ite_self]

theorem execFireEdge_paces (l : Line) (phase : Fin 64) (s : State) : Paces s.chip (execFireEdge l phase s) := by
  unfold execFireEdge
  refine State.runTap_paces s _ fun c => .of_clock ?_
  dsimp only
  (repeat' split) <;> simp only [Chip.fire_clock, Chip.regionEdge_clock]

theorem execRegionPeriodEnd_paces (x : TapEdge) (period : BitVec 24) (s : State) : Paces s.chip (execRegionPeriodEnd x period s) := by
  unfold execRegionPeriodEnd
  refine State.runTap_paces s _ fun c => .of_clock ?_
  simp only [Chip.linesFall_clock, Chip.wakesDue_clock, Chip.regionEdge_clock, Chip.regionPeriod_clock, apply_ite Chip.clock,
    ite_self]

theorem execHbTmo_paces (e : Engine) (s : State) : Paces s.chip (execHbTmo e s) := by
  unfold execHbTmo
  refine State.runEng_paces s _ fun c => .of_clock ?_
  simp only [Chip.report_clock, Chip.modEng_clock, Chip.buildSuspects_clock, Chip.detected_clock, apply_ite Chip.clock, ite_self]

theorem execOverrun_paces (t : Thread) (s : State) : Paces s.chip (execOverrun t s) := by
  unfold execOverrun
  refine State.runDie_paces s fun c => .of_clock ?_
  simp only [Chip.report_clock, Chip.modTh_clock, Chip.buildSuspects_clock, Chip.detected_clock, apply_ite Chip.clock, ite_self]

theorem execWaitTmo_paces (a : Agent) (s : State) : Paces s.chip (execWaitTmo a s) := by
  unfold execWaitTmo
  refine State.runDie_paces s fun c => .of_clock ?_
  split <;> simp only [Chip.report_clock, Chip.detected_clock, Chip.clock_mk, Chip.clock_tk, apply_ite Chip.clock, ite_self]

theorem execSqWdog_paces (t : Thread) (s : State) : Paces s.chip (execSqWdog t s) := by
  unfold execSqWdog
  refine State.runDie_paces s fun c => .of_clock ?_
  simp only [Chip.report_clock, Chip.thStop_clock, Chip.detected_clock, apply_ite Chip.clock, ite_self]

theorem execSoloTmo_paces (s : State) : Paces s.chip (execSoloTmo s) := by
  unfold execSoloTmo
  refine State.runDie_paces s fun c => .of_clock ?_
  split <;> simp only [Chip.report_clock, Chip.capture_clock, Chip.setRes_clock, Chip.soloNext_clock, Chip.escalate_clock,
    Chip.clock_mk, Chip.clock_tk, apply_ite Chip.clock, ite_self]

/-! ### The deadlock detector -/

theorem execDeadlockSample_paces (i : DieGIdx) (s : State) : Paces s.chip (execDeadlockSample i s) := by
  unfold execDeadlockSample
  refine State.runDie_paces s fun c => .of_clock ?_
  simp only [Chip.modDl_clock, Chip.declare_clock, Chip.nagentCheck_clock, apply_ite Chip.clock, ite_self]

theorem execQprobeSend_paces (i : DieGIdx) (s : State) : Paces s.chip (execQprobeSend i s) := by
  unfold execQprobeSend
  refine State.runDie_paces s fun c => .of_clock ?_
  simp only [Chip.sendCells_clock, Chip.modDl_clock, apply_ite Chip.clock, ite_self]

theorem execQprobeReceive_paces (p : Port) (s : State) : Paces s.chip (execQprobeReceive p s) := by
  unfold execQprobeReceive
  refine State.runPort_paces s _ fun c => .of_clock ?_
  simp only [Chip.staleB_clock, Chip.probeMeets_clock, Chip.probeAt_clock, apply_ite Chip.clock, ite_self, implies_true]

theorem execQprobeVerdict_paces (p : Port) (s : State) : Paces s.chip (execQprobeVerdict p s) := by
  unfold execQprobeVerdict
  refine State.runPort_paces s _ fun c => .of_clock ?_
  simp only [Chip.sendCells_clock, Chip.popRx_clock, Chip.staleB_clock, Chip.probeAt_clock, Chip.memberVerdict_clock,
    apply_ite Chip.clock, ite_self, clock_foldl, implies_true]

/-! ### The event recorder -/

theorem Chip.clock_withEv (c : Chip) (x : EvState) : ({ c with ev := x } : Chip).clock = c.clock := rfl

theorem execRecordWrite_paces (s : State) : Paces s.chip (execRecordWrite s) := by
  refine State.apply_paces s fun c => .of_clock ?_
  dsimp only
  split
  · rfl
  · exact (Chip.dropRecord_clock _).trans ((Chip.upload_clock _ _ _).trans ((Chip.hostMirror_clock _ _ _).trans
      ((Chip.count_clock _ _ _ _).trans ((Chip.clock_withEv _ _).trans ((Chip.overwrite_clock _ _).trans (c.clock_withEv _))))))

theorem execEvupReceive_paces (p : Port) (s : State) : Paces s.chip (execEvupReceive p s) := by
  unfold execEvupReceive
  refine State.runHub_paces s fun c => .of_clock ?_
  split <;> simp only [Chip.sendCells_clock, Chip.popRx_clock, Chip.uploadTake_clock, apply_ite Chip.clock, ite_self]

/-! ### MAC taps and the plumb check -/

theorem execTxSof_paces (tap : MacTap) (fid : BitVec 16) (cls : BitVec 2) (phase : Fin 64) (s : State) :
    Paces s.chip (execTxSof tap fid cls phase s) := by
  unfold execTxSof
  refine State.run_paces s fun c => .of_clock ?_
  simp only [Chip.modTs_clock, Chip.sofMiss_clock, Chip.txEnter_clock, Chip.plumbSent_clock, apply_ite Chip.clock, ite_self]

theorem execRxSof_paces (tap : MacTap) (cls : BitVec 2) (phase : Fin 64) (s : State) : Paces s.chip (execRxSof tap cls phase s) := by
  unfold execRxSof
  refine State.run_paces s fun c => .of_clock ?_
  simp only [Chip.modTs_clock, Chip.sofMiss_clock, apply_ite Chip.clock, ite_self]

theorem execSwevt_paces (input : Fin 4) (s : State) : Paces s.chip (execSwevt input s) := by
  unfold execSwevt
  refine State.run_paces s fun c => .of_clock ?_
  simp only [Chip.softStamp_clock, Chip.swLost_clock, Chip.swEnter_clock, Chip.swEdge_clock, Chip.clock_mk, Chip.clock_tk,
    apply_ite Chip.clock, ite_self]

theorem execPlumbSend_paces (tap : MacTap) (s : State) : Paces s.chip (execPlumbSend tap s) := by
  unfold execPlumbSend
  refine State.runDie_paces s fun c => .of_clock ?_
  simp only [Chip.modTs_clock, apply_ite Chip.clock, ite_self]

theorem execPlumbReceive_paces (tap : MacTap) (pay : List Word) (s : State) : Paces s.chip (execPlumbReceive tap pay s) := by
  unfold execPlumbReceive
  refine State.runDie_paces s fun c => .of_clock ?_
  simp only [Chip.plumbDiscard_clock, Chip.plumbFrame_clock, apply_ite Chip.clock, ite_self]

theorem execPlumbTimeout_paces (tap : MacTap) (s : State) : Paces s.chip (execPlumbTimeout tap s) := by
  unfold execPlumbTimeout
  refine State.runDie_paces s fun c => .of_clock ?_
  simp only [Chip.plumbDiscard_clock, apply_ite Chip.clock, ite_self]

/-! ### Pulse outputs -/

theorem execPulseEdge_paces (out : OutPin) (s : State) : Paces s.chip (execPulseEdge out s) := by
  unfold execPulseEdge
  refine State.run_paces s fun c => .of_clock ?_
  simp only [Chip.poEdges_clock, Chip.poRise_clock, Chip.poFall_clock, apply_ite Chip.clock, ite_self]

theorem execShort_paces (out : OutPin) (s : State) : Paces s.chip (execShort out s) := by
  unfold execShort
  refine State.run_paces s fun c => .of_clock ?_
  simp only [Chip.report_clock, Chip.modPo_clock, Chip.poEdges_clock, apply_ite Chip.clock, ite_self]

theorem execShortRetry_paces (out : OutPin) (still : Bool) (s : State) : Paces s.chip (execShortRetry out still s) := by
  unfold execShortRetry
  refine State.run_paces s fun c => .of_clock ?_
  simp only [Chip.modPo_clock, Chip.poEdges_clock, apply_ite Chip.clock, ite_self]

theorem execOpenLoad_paces (out : OutPin) (s : State) : Paces s.chip (execOpenLoad out s) := by
  unfold execOpenLoad
  refine State.run_paces s fun c => .of_clock ?_
  simp only [Chip.report_clock, Chip.modPo_clock, apply_ite Chip.clock, ite_self]

theorem execOpenIn_paces (pin : OutPin) (s : State) : Paces s.chip (execOpenIn pin s) := by
  unfold execOpenIn
  refine State.runHub_paces s fun c => .of_clock ?_
  simp only [Chip.report_clock, Chip.modPo_clock, apply_ite Chip.clock, ite_self]

theorem execUartInv_paces (uart : Fin 2) (s : State) : Paces s.chip (execUartInv uart s) := by
  unfold execUartInv
  refine State.run_paces s fun c => .of_clock ?_
  simp only [Chip.report_clock, Chip.clock_mk, Chip.clock_tk, apply_ite Chip.clock, ite_self]

end Sys2Proof.Machine
end

section
/-!
What the commands of the controller, the servo, the tree engine, the lanes and the supplies leave of the clock (R58,
R64).
-/

namespace Sys2Proof.Machine

/-! ### Limits and the controller's images -/

theorem execImageLoad_paces (s : State) : Paces s.chip (execImageLoad s) := by
  unfold execImageLoad
  refine State.run_paces s fun c => .of_clock ?_
  simp only [Chip.clock_mk, Chip.clock_tk, apply_ite Chip.clock, ite_self]

theorem execImageVerified_paces (ok : Bool) (s : State) : Paces s.chip (execImageVerified ok s) := by
  unfold execImageVerified
  refine State.run_paces s fun c => .of_clock ?_
  dsimp only
  (repeat' split) <;> simp only [Chip.imgVerdict_clock, Chip.bankStatus_clock, Chip.ctlStart_clock, Chip.imgFailed_clock]

theorem execStagingEraseDone_paces (s : State) : Paces s.chip (execStagingEraseDone s) := by
  unfold execStagingEraseDone
  refine State.run_paces s fun c => .of_clock ?_
  simp only [Chip.clock_mk, Chip.clock_tk, apply_ite Chip.clock, ite_self]

theorem execStagingProgram_paces (n : BitVec 11) (s : State) : Paces s.chip (execStagingProgram n s) := by
  unfold execStagingProgram
  refine State.run_paces s fun c => .of_clock ?_
  simp only [Chip.stgErr_clock, Chip.clock_mk, Chip.clock_tk, apply_ite Chip.clock, ite_self]

theorem execSwreqTmo_paces (s : State) : Paces s.chip (execSwreqTmo s) := by
  unfold execSwreqTmo
  refine State.run_paces s fun c => .of_clock ?_
  simp only [Chip.setReg_clock, Chip.report_clock, Chip.fwHandover_clock, Chip.clock_mk, Chip.clock_tk, apply_ite Chip.clock,
    ite_self]

theorem execTrialTimeout_paces (s : State) : Paces s.chip (execTrialTimeout s) := by
  unfold execTrialTimeout
  refine State.run_paces s fun c => .of_clock ?_
  simp only [Chip.revert_clock, apply_ite Chip.clock, ite_self]

theorem execWatchdogExpiry_paces (s : State) : Paces s.chip (execWatchdogExpiry s) := by
  unfold execWatchdogExpiry
  refine State.run_paces s fun c => .of_clock ?_
  simp only [Chip.report_clock, Chip.ctlReset_clock, Chip.ctlRestart_clock, Chip.clock_mk, Chip.clock_tk, apply_ite Chip.clock,
    ite_self]

theorem execExpiryClear_paces (s : State) : Paces s.chip (execExpiryClear s) :=
  State.apply_paces s fun _ => .of_clock rfl

theorem execSramPar_paces (s : State) : Paces s.chip (execSramPar s) := by
  unfold execSramPar
  refine State.run_paces s fun c => .of_clock ?_
  simp only [Chip.report_clock, Chip.ctlRestart_clock, apply_ite Chip.clock, ite_self]

theorem execDebugReset_paces (s : State) : Paces s.chip (execDebugReset s) := by
  unfold execDebugReset
  refine State.run_paces s fun c => .of_clock ?_
  simp only [Chip.ctlReset_clock, Chip.boot_clock, apply_ite Chip.clock, ite_self]

theorem execNvmProt_paces (addr : BitVec 24) (s : State) : Paces s.chip (execNvmProt addr s) := by
  unfold execNvmProt
  refine State.run_paces s fun c => .of_clock ?_
  simp only [Chip.takeFree_clock, Chip.guardRefuse_clock, apply_ite Chip.clock, ite_self]

/-! ### What settling follows -/

theorem execOffsetWindowEnd_paces (s : State) : Paces s.chip (execOffsetWindowEnd s) := by
  unfold execOffsetWindowEnd
  refine State.run_paces s fun c => .of_clock ?_
  simp only [Chip.windowEnd_clock, Chip.settle_clock]

theorem execHoldoverTimerExpiry_paces (s : State) : Paces s.chip (execHoldoverTimerExpiry s) := by
  refine State.apply_paces s fun c => .of_clock (clock_ite rfl ?_)
  have hexpired : (c.setSvMode .holdExpired 7).clock = c.clock := c.setSvMode_clock _ _
  exact clock_ite hexpired ((Chip.settle_clock _).trans hexpired)

theorem execHordy_paces (s : State) : Paces s.chip (execHordy s) := by
  unfold execHordy
  refine State.run_paces s fun c => .of_clock ?_
  simp only [Chip.note_clock, Chip.clock_mk, Chip.clock_tk, apply_ite Chip.clock, ite_self]

theorem execFreqLock_paces (s : State) : Paces s.chip (execFreqLock s) := by
  unfold execFreqLock
  refine State.run_paces s fun c => .of_clock ?_
  simp only [Chip.settle_clock, Chip.clock_mk, Chip.clock_tk, apply_ite Chip.clock, ite_self]

theorem execFlockLost_paces (s : State) : Paces s.chip (execFlockLost s) := by
  unfold execFlockLost
  refine State.run_paces s fun c => .of_clock ?_
  simp only [Chip.report_clock, Chip.flockEnd_clock, Chip.setSvMode_clock, Chip.settle_clock, apply_ite Chip.clock, ite_self]

theorem execBuildOutDecay_paces (s : State) : Paces s.chip (execBuildOutDecay s) :=
  State.run_paces s fun _ => .of_clock (Chip.boTick_clock ..)

theorem execPlaneRevert_paces (s : State) : Paces s.chip (execPlaneRevert s) := by
  unfold execPlaneRevert
  refine State.runDie_paces s fun c => .of_clock ?_
  simp only [Chip.svSwitchTo_clock, Chip.settle_clock, apply_ite Chip.clock, ite_self]

theorem execRefSignalLoss_paces (ref : RefIn) (s : State) : Paces s.chip (execRefSignalLoss ref s) := by
  unfold execRefSignalLoss
  refine State.runHub_paces s fun c => .of_clock ?_
  simp only [Chip.refLoss_clock, Chip.settle_clock, apply_ite Chip.clock, ite_self]

theorem execRefQual_paces (ref : RefIn) (s : State) : Paces s.chip (execRefQual ref s) := by
  unfold execRefQual
  refine State.runHub_paces s fun c => .of_clock ?_
  simp only [Chip.refQualify_clock, Chip.settle_clock, apply_ite Chip.clock, ite_self]

theorem execRefDisq_paces (ref : RefIn) (s : State) : Paces s.chip (execRefDisq ref s) := by
  unfold execRefDisq
  refine State.runHub_paces s fun c => .of_clock ?_
  simp only [Chip.refDisq_clock, Chip.settle_clock]

theorem execWtrExpiry_paces (ref : RefIn) (s : State) : Paces s.chip (execWtrExpiry ref s) := by
  unfold execWtrExpiry
  refine State.runHub_paces s fun c => .of_clock ?_
  simp only [Chip.modRef_clock, Chip.settle_clock, apply_ite Chip.clock, ite_self]

theorem execRefEdge_paces (pin : OutPin) (phase : Fin 64) (s : State) : Paces s.chip (execRefEdge pin phase s) := by
  unfold execRefEdge
  refine State.runHub_paces s fun c => .of_clock ?_
  simp only [Chip.pinEdges_clock, Chip.modPo_clock, Chip.settle_clock, Chip.refEdge_clock, apply_ite Chip.clock, ite_self,
    clock_foldl, implies_true]

theorem execPpsInv_paces (pin : OutPin) (s : State) : Paces s.chip (execPpsInv pin s) := by
  unfold execPpsInv
  refine State.runHub_paces s fun c => .of_clock ?_
  simp only [Chip.report_clock, Chip.modPo_clock, Chip.refLoss_clock, Chip.settle_clock, apply_ite Chip.clock, ite_self, clock_foldl,
    implies_true]

theorem execTodSentence_paces (uart : Fin 2) (ok : Bool) (utc : BitVec 40) (s : State) :
    Paces s.chip (execTodSentence uart ok utc s) := by
  unfold execTodSentence
  refine State.run_paces s fun c => .of_clock ?_
  simp only [Chip.pinEdges_clock, Chip.takeFree_clock, Chip.softStamp_clock, Chip.swEnter_clock, Chip.settle_clock,
    Chip.todLabel_clock, Chip.clock_mk, Chip.clock_tk, apply_ite Chip.clock, ite_self, clock_foldl, implies_true]

theorem execPtpMessage_paces (msg : PtpMsg) (s : State) : Paces s.chip (execPtpMessage msg s) := by
  unfold execPtpMessage
  refine State.runHub_paces s fun c => .of_clock ?_
  dsimp only
  (repeat' split) <;> simp only [Chip.settle_clock, Chip.ptpDiscard_clock, Chip.ptpTake_clock]

theorem execHoTrace_paces (s : State) : Paces s.chip (execHoTrace s) := by
  unfold execHoTrace
  refine State.runHub_paces s fun c => .of_clock ?_
  simp only [Chip.setReg_clock, Chip.report_clock, Chip.settle_clock, Chip.clock_mk, Chip.clock_tk, apply_ite Chip.clock, ite_self]

theorem execAgeingReady_paces (s : State) : Paces s.chip (execAgeingReady s) := by
  unfold execAgeingReady
  refine State.runHub_paces s fun c => .of_clock ?_
  simp only [Chip.clock_mk, Chip.clock_tk, apply_ite Chip.clock, ite_self]

/-! ### Commands of the tree engine -/

theorem execTraceReceive_paces (port : Port) (s : State) : Paces s.chip (execTraceReceive port s) := by
  refine State.runPort_paces s _ fun c => .of_clock (c.treeAt_clock _ _ fun c x => ?_)
  refine clock_ite rfl (clock_ite (clock_ite (c.refuse_clock _ _ _) rfl) ?_)
  dsimp only
  split
  · exact clock_ite rfl (c.sendCells_clock _ _ _)
  · rfl

theorem execRootTimerExpiry_paces (s : State) : Paces s.chip (execRootTimerExpiry s) := by
  unfold execRootTimerExpiry
  refine State.runHub_paces s fun c => .of_clock ?_
  simp only [Chip.becomeRoot_clock, Chip.settle_clock, apply_ite Chip.clock, ite_self]

theorem execReflectReceive_paces (port : Port) (s : State) : Paces s.chip (execReflectReceive port s) := by
  unfold execReflectReceive
  refine State.runPort_paces s _ fun c => .of_clock ?_
  simp only [Chip.treeAt_clock, Chip.reflStale_clock, Chip.reflDie_clock, Chip.reflHub_clock, apply_ite Chip.clock, ite_self,
    implies_true]

theorem execSummarySend_paces (s : State) : Paces s.chip (execSummarySend s) := by
  unfold execSummarySend
  refine State.runHub_paces s fun c => .of_clock ?_
  dsimp only
  (repeat' split) <;> simp only [Chip.sendCells_clock, Chip.clock_mk, Chip.clock_tk]

theorem execSummaryReceive_paces (port : Port) (s : State) : Paces s.chip (execSummaryReceive port s) := by
  unfold execSummaryReceive
  refine State.runPort_paces s _ fun c => .of_clock ?_
  simp only [Chip.modKid_clock, Chip.treeAt_clock, apply_ite Chip.clock, ite_self, implies_true]

theorem execMlossReceive_paces (port : Port) (s : State) : Paces s.chip (execMlossReceive port s) := by
  refine State.runPort_paces s _ fun c => .of_clock (c.treeAt_clock _ _ fun c x => ?_)
  extract_lets p n fenced tr known told lost queued
  have hknown : known.clock = c.clock := clock_ite (c.modKid_clock _ _) rfl
  have htold : told.clock = c.clock := clock_ite ((known.report_clock _ _).trans hknown) hknown
  have hqueued : queued.clock = c.clock := (lost.mlqPut_clock _ _ _ _ _).trans ((told.portLost_clock p).trans htold)
  refine clock_ite rfl ?_
  split
  · exact (queued.sendCells_clock _ _ _).trans hqueued
  · exact hqueued

theorem execStartSlow_paces (s : State) : Paces s.chip (execStartSlow s) := by
  unfold execStartSlow
  refine State.run_paces s fun c => .of_clock ?_
  simp only [Chip.report_clock, Chip.clock_mk, Chip.clock_tk, apply_ite Chip.clock, ite_self]

theorem execRreqReceive_paces (port : Port) (s : State) : Paces s.chip (execRreqReceive port s) := by
  unfold execRreqReceive
  refine State.runPort_paces s _ fun c => .of_clock ?_
  dsimp only
  (repeat' split) <;> simp only [Chip.sendCells_clock, Chip.popRx_clock, Chip.noRoute_clock]

theorem execRrspReceive_paces (port : Port) (s : State) : Paces s.chip (execRrspReceive port s) := by
  unfold execRrspReceive
  refine State.runPort_paces s _ fun c => .of_clock ?_
  dsimp only
  (repeat' split) <;> simp only [Chip.sendCells_clock, Chip.report_clock, Chip.popRx_clock, Chip.rrspHome_clock]

theorem execRraTmo_paces (tag : Tag) (s : State) : Paces s.chip (execRraTmo tag s) := by
  unfold execRraTmo
  refine State.runHub_paces s fun c => .of_clock ?_
  split <;> simp only [Chip.report_clock, Chip.rrspPut_clock, Chip.clock_mk, Chip.clock_tk]

theorem execInoteReceive_paces (port : Port) (s : State) : Paces s.chip (execInoteReceive port s) := by
  unfold execInoteReceive
  refine State.runPort_paces s _ fun c => .of_clock ?_
  dsimp only
  (repeat' split) <;> simp only [Chip.sendCells_clock, Chip.report_clock, Chip.popRx_clock, Chip.inqPut_clock]

/-! ### Commands of the lane ports -/

theorem execPortStart_paces (port : Port) (s : State) : Paces s.chip (execPortStart port s) := by
  unfold execPortStart
  refine State.runPort_paces s _ fun c => .of_clock ?_
  simp only [Chip.settle_clock, Chip.train_clock, Chip.calStart_clock, apply_ite Chip.clock, ite_self]

theorem execLoopbackCheckDone_paces (port : Port) (meas : BitVec 24) (s : State) : Paces s.chip (execLoopbackCheckDone port meas s) :=
    by
  unfold execLoopbackCheckDone
  refine State.runPort_paces s _ fun c => .of_clock ?_
  simp only [Chip.modPort_clock, Chip.report_clock, Chip.settle_clock, Chip.train_clock, apply_ite Chip.clock, ite_self]

theorem execPmaReady_paces (port : Port) (s : State) : Paces s.chip (execPmaReady port s) := by
  unfold execPmaReady
  refine State.runPort_paces s _ fun c => .of_clock ?_
  simp only [Chip.modPort_clock, Chip.settle_clock, Chip.train_clock, apply_ite Chip.clock, ite_self]

theorem execPmaReadyLoss_paces (port : Port) (s : State) : Paces s.chip (execPmaReadyLoss port s) := by
  unfold execPmaReadyLoss
  refine State.runPort_paces s _ fun c => .of_clock ?_
  dsimp only
  (repeat' split) <;> simp only [Chip.modPort_clock, Chip.laneDown_clock, Chip.settle_clock]

theorem execFreqOk_paces (port : Port) (ok : Bool) (s : State) : Paces s.chip (execFreqOk port ok s) := by
  unfold execFreqOk
  refine State.runPort_paces s _ fun c => .of_clock ?_
  simp only [Chip.modPort_clock, Chip.settle_clock]

theorem execLaneReset_paces (port : Port) (s : State) : Paces s.chip (execLaneReset port s) := by
  unfold execLaneReset
  refine State.runPort_paces s _ fun c => .of_clock ?_
  simp only [Chip.modPort_clock, Chip.laneDown_clock, Chip.settle_clock]

theorem execCodewordReceive_paces (port : Port) (cw : Codeword) (s : State) : Paces s.chip (execCodewordReceive port cw s) :=
  State.runPort_paces s _ fun _ => .of_clock (Chip.rxCodeword_clock ..)

theorem execCodewordLock_paces (port : Port) (s : State) : Paces s.chip (execCodewordLock port s) := by
  unfold execCodewordLock
  refine State.runPort_paces s _ fun c => .of_clock ?_
  simp only [Chip.modPort_clock, Chip.settle_clock, apply_ite Chip.clock, ite_self]

theorem execLockLoss_paces (port : Port) (s : State) : Paces s.chip (execLockLoss port s) := by
  unfold execLockLoss
  refine State.runPort_paces s _ fun c => .of_clock ?_
  simp only [Chip.laneDown_clock, Chip.settle_clock, apply_ite Chip.clock, ite_self]

theorem execCellSlot_paces (port : Port) (phase : Fin 64) (s : State) : Paces s.chip (execCellSlot port phase s) :=
  State.runPort_paces s _ fun _ => .of_clock (Chip.slot_clock ..)

theorem execNakReceive_paces (port : Port) (s : State) : Paces s.chip (execNakReceive port s) := by
  unfold execNakReceive
  refine State.runPort_paces s _ fun c => .of_clock ?_
  split <;> simp only [Chip.nakTake_clock, Chip.settle_clock, Chip.popL_clock, apply_ite Chip.clock, ite_self]

theorem execReplayTimeout_paces (port : Port) (s : State) : Paces s.chip (execReplayTimeout port s) := by
  unfold execReplayTimeout
  refine State.runPort_paces s _ fun c => .of_clock ?_
  simp only [Chip.replay_clock, Chip.settle_clock, apply_ite Chip.clock, ite_self]

theorem execIdentSend_paces (port : Port) (s : State) : Paces s.chip (execIdentSend port s) := by
  unfold execIdentSend
  refine State.runPort_paces s _ fun c => .of_clock ?_
  split <;> simp only [Chip.sendL_clock]

theorem execIdentReceive_paces (port : Port) (s : State) : Paces s.chip (execIdentReceive port s) := by
  unfold execIdentReceive
  refine State.runPort_paces s _ fun c => .of_clock ?_
  split <;> simp only [Chip.identTake_clock, Chip.settle_clock, Chip.popL_clock]

theorem execIdentAckReceive_paces (port : Port) (s : State) : Paces s.chip (execIdentAckReceive port s) := by
  unfold execIdentAckReceive
  refine State.runPort_paces s _ fun c => .of_clock ?_
  split <;> simp only [Chip.identAcked_clock, Chip.settle_clock, Chip.popL_clock]

theorem execTickSend_paces (port : Port) (s : State) : Paces s.chip (execTickSend port s) := by
  unfold execTickSend
  refine State.runPort_paces s _ fun c => .of_clock ?_
  simp only [Chip.tickQueue_clock, apply_ite Chip.clock, ite_self]

theorem execTickReceive_paces (port : Port) (s : State) : Paces s.chip (execTickReceive port s) := by
  unfold execTickReceive
  refine State.runPort_paces s _ fun c => .of_clock ?_
  split <;> simp only [Chip.popT_clock, Chip.tickTake_clock, Chip.settle_clock]

theorem execPreqSend_paces (port : Port) (s : State) : Paces s.chip (execPreqSend port s) := by
  unfold execPreqSend
  refine State.runPort_paces s _ fun c => .of_clock ?_
  simp only [Chip.preqQueue_clock, apply_ite Chip.clock, ite_self]

theorem execPreqReceive_paces (port : Port) (s : State) : Paces s.chip (execPreqReceive port s) := by
  unfold execPreqReceive
  refine State.runPort_paces s _ fun c => .of_clock ?_
  dsimp only
  (repeat' split) <;> simp only [Chip.modTime_clock, Chip.queueT_clock, Chip.popT_clock]

theorem execPrspReceive_paces (port : Port) (s : State) : Paces s.chip (execPrspReceive port s) := by
  unfold execPrspReceive
  refine State.runPort_paces s _ fun c => .of_clock ?_
  dsimp only
  (repeat' split) <;> simp only [Chip.modTime_clock, Chip.popT_clock]

theorem execProbeAbandon_paces (port : Port) (s : State) : Paces s.chip (execProbeAbandon port s) := by
  unfold execProbeAbandon
  refine State.runPort_paces s _ fun c => .of_clock ?_
  simp only [Chip.bump_clock, Chip.modTime_clock, apply_ite Chip.clock, ite_self]

theorem execMkrTimeout_paces (port : Port) (s : State) : Paces s.chip (execMkrTimeout port s) := by
  unfold execMkrTimeout
  refine State.runPort_paces s _ fun c => .of_clock ?_
  simp only [Chip.modTime_clock, Chip.report_clock, Chip.qualRestart_clock, Chip.settle_clock, apply_ite Chip.clock, ite_self]

/-! ### Main reset and the supplies -/

theorem execMainReset_paces (s : State) : Paces s.chip (execMainReset s) :=
  State.apply_paces s fun c => .of_clock ((rfl : _ = (c.mainReset 2).clock).trans (c.mainReset_clock 2))

theorem execMainResetRelease_paces (s : State) : Paces s.chip (execMainResetRelease s) := by
  refine State.apply_paces s fun c => .of_clock (clock_ite rfl ?_)
  exact (Chip.coldBoot_clock _).trans ((Chip.chainCal_clock _).trans ((Chip.releaseRecords_clock _).trans rfl))

/-- A rail that rises, VDD_AON apart, leaves the count (R75, R360). -/
theorem execRailGood_paces {rail : Rail} (hrail : rail ≠ .vddAon) (slow : Bool) (s : State) :
    Paces s.chip (execRailGood rail slow s) := by
  have hlog : ∀ (c : Chip) (early : Bool) (bit : Nat), (c.riseLog slow early bit).clock = c.clock := fun c early bit =>
    congrArg TkState.clock (c.riseLog_supplied slow early bit).tk
  refine State.apply_paces s fun c => ?_
  cases rail with
  | vddAon => exact absurd rfl hrail
  | vddaTclk =>
    refine .ite (.of_clock rfl) ?_
    have hlogged : Paced c (({ c with pw := { c.pw with tclk := true } } : Chip).riseLog slow false 0) := .of_clock (hlog _ _ _)
    exact .ite (hlogged.trans (Chip.tclkStart_paced _)) hlogged
  | vddLys => exact .ite (.of_clock rfl) (.of_clock (hlog { c with pw := { c.pw with lys := true } } _ _))
  | vddioT =>
    refine .ite (.of_clock rfl) (.of_clock ((Chip.poAllEdges_clock _ _).trans ?_))
    exact hlog { c with pw := { c.pw with io := true } } _ _

/-- A rail that falls, VDD_AON apart, leaves the count (R75, R360). -/
theorem execRailFail_paces {rail : Rail} (hrail : rail ≠ .vddAon) (s : State) : Paces s.chip (execRailFail rail s) := by
  have hlog : ∀ (c : Chip) (early : Bool) (bit : Nat), (c.fallLog early bit).clock = c.clock := fun c early bit =>
    congrArg TkState.clock (c.fallLog_supplied early bit).tk
  refine State.apply_paces s fun c => ?_
  cases rail with
  | vddAon => exact absurd rfl hrail
  | vddaTclk =>
    refine .ite (.of_clock rfl) ?_
    have hlogged : Paced c (({ c with pw := { c.pw with tclk := false } } : Chip).fallLog c.pw.lys 4) := .of_clock (hlog _ _ _)
    exact .ite ((hlogged.trans (Chip.tclkStop_paced _)).trans (.of_clock (Chip.mainReset_clock _ _))) hlogged
  | vddLys =>
    refine .ite (.of_clock rfl) ?_
    have hlogged : (({ c with pw := { c.pw with lys := false } } : Chip).fallLog c.pw.io 5).clock = c.clock := hlog _ _ _
    exact .ite (.of_clock hlogged) (.of_clock ((Chip.mainReset_clock _ 4).trans hlogged))
  | vddioT =>
    refine .ite (.of_clock rfl) (.of_clock ?_)
    have hedges : (({ c with pw := { c.pw with io := false } } : Chip).poAllEdges c).clock = c.clock := Chip.poAllEdges_clock _ _
    exact clock_ite ((Chip.report_clock _ _ _).trans hedges) hedges

theorem execTclkRail_paces (s : State) : Paces s.chip (execTclkRail s) :=
  State.apply_paces s fun c => .of_clock (clock_ite (c.report_clock _ _) rfl)

theorem execTempSample_paces (temp : BitVec 16) (s : State) : Paces s.chip (execTempSample temp s) := by
  refine State.apply_paces s fun c => .of_clock (clock_ite rfl (clock_ite rfl (clock_ite ?_ ?_)))
  · exact (Chip.note_clock _ _ _).trans rfl
  · exact (Chip.report_clock _ _ _).trans rfl

theorem execHostReset_paces (s : State) : Paces s.chip (execHostReset s) := by
  refine State.apply_paces s fun c => .of_clock (clock_ite rfl ?_)
  extract_lets pw low told
  have hlow : low.clock = c.clock := rfl
  have htold : told.clock = c.clock :=
    (Chip.report_clock _ _ _).trans (clock_ite hlow ((low.bump_clock _ _ _ _).trans hlow))
  refine clock_ite hlow (clock_ite ((low.mainReset_clock 3).trans hlow) (clock_ite htold ?_))
  exact (Chip.coresWithdraw_clock _).trans ((told.hostStops_clock).trans htold)

theorem execHostResetRelease_paces (s : State) : Paces s.chip (execHostResetRelease s) := by
  refine State.apply_paces s fun c => .of_clock (clock_ite rfl ?_)
  extract_lets d pw resumed
  have hresumed : resumed.clock = c.clock := (Chip.mwResume_clock _).trans rfl
  exact clock_ite hresumed hresumed

theorem execMwErr_paces (addr : BitVec 64) (s : State) : Paces s.chip (execMwErr addr s) := by
  unfold execMwErr
  refine State.run_paces s fun c => .of_clock ?_
  simp only [Chip.bump_clock, Chip.note_clock, Chip.record_clock, Chip.clock_mk, Chip.clock_tk, apply_ite Chip.clock, ite_self]

/-! ### Ends of a hold, and remote accesses -/

theorem execSoftResetHoldEnd_paces (page : Page) (s : State) : Paces s.chip (execSoftResetHoldEnd page s) :=
  State.run_paces s fun c => c.holdEnd_paced page.val

theorem execRreqExecute_paces (port : Port) (s : State) : Paces s.chip (execRreqExecute port s) :=
  State.runDiePort_paces s _ fun c => c.rreqTake_paced port.val

end Sys2Proof.Machine
end

section
/-!
O2 and O25: FRC advances on every TCLK tick, no command moves it, and every step keeps the timekeeper in good order (R58,
R63 to R66).
-/

namespace Sys2Proof.Machine

/-- Every command keeps the pace but for a boundary, in which time passes, and the rise or fall of VDD_AON (R58, R364). -/
theorem exec_paces (i : Instr) (s : State) (hboundary : ∀ f, i ≠ .anchorBoundary f) (hrise : ∀ b, i ≠ .railGood .vddAon b)
    (hfall : i ≠ .railFail .vddAon) : Paces s.chip (exec i s) := by
  cases i
  case anchorBoundary f => exact absurd rfl (hboundary f)
  case railGood rail slow => exact execRailGood_paces (fun h => hrise slow (h ▸ rfl)) slow s
  case railFail rail => exact execRailFail_paces (fun h => hfall (h ▸ rfl)) s
  case registerWrite | pageSoftReset | chselWrite | lockSet | lockClear | rateStage | stepArm | timeRead | tbCapture | tbLoad |
    tbAdjust | cal | pmaLatWrite | forceDown | portDisable | claim | yield | revertNow | rraGo | rrspPop | inqPop | mlqPop | svSwitch
    | forceAcq | relearn | asymOk | asymWrite | rfRcfgWrite | rfForceWrite | chainCal | xcal | txqPop | swqPop | pulseArm |
    pulseDisarm | threadStart | threadHalt | threadResume | threadCancel | mailboxCommit | sqmCommit | sqmRead | ssig | scmdSetevent |
    rstnext | sgScfgWrite | sgSelWrite | grGkeyWrite | findGid | sealCmd | dissolve | admitCmd | expel | gdLimitWrite |
    barrierOverride | watchdogKick | stagingErase | stagingWrite | verify | hold | fwRelease | fwSwitch | handover | commit | cpTake |
    cpRelease | capsuleRead | ereset | unfence | solo | soloAbort | restore | uploadPop | severityQuery | counterBind | clr | clrall |
    freeze | snapNow | snapArm | snapCancel | pinBind | pinClr | hsConfig | hsClear | hsRestart | lanego =>
    exact s.runMaster_paces _ fun c => c.access_paced _
  case softResetHoldEnd page => exact execSoftResetHoldEnd_paces page s
  case loopbackCheckDone port meas => exact execLoopbackCheckDone_paces port meas s
  case portStart port => exact execPortStart_paces port s
  case pmaReady port => exact execPmaReady_paces port s
  case pmaReadyLoss port => exact execPmaReadyLoss_paces port s
  case codewordReceive port cw => exact execCodewordReceive_paces port cw s
  case codewordLock port => exact execCodewordLock_paces port s
  case lockLoss port => exact execLockLoss_paces port s
  case cellSlot port phase => exact execCellSlot_paces port phase s
  case nakReceive port => exact execNakReceive_paces port s
  case replayTimeout port => exact execReplayTimeout_paces port s
  case tickSend port => exact execTickSend_paces port s
  case tickReceive port => exact execTickReceive_paces port s
  case preqSend port => exact execPreqSend_paces port s
  case preqReceive port => exact execPreqReceive_paces port s
  case prspReceive port => exact execPrspReceive_paces port s
  case probeAbandon port => exact execProbeAbandon_paces port s
  case mkrTimeout port => exact execMkrTimeout_paces port s
  case identSend port => exact execIdentSend_paces port s
  case identReceive port => exact execIdentReceive_paces port s
  case identAckReceive port => exact execIdentAckReceive_paces port s
  case laneReset port => exact execLaneReset_paces port s
  case traceReceive port => exact execTraceReceive_paces port s
  case rootTimerExpiry => exact execRootTimerExpiry_paces s
  case reflectReceive port => exact execReflectReceive_paces port s
  case summarySend => exact execSummarySend_paces s
  case summaryReceive port => exact execSummaryReceive_paces port s
  case startSlow => exact execStartSlow_paces s
  case mlossReceive port => exact execMlossReceive_paces port s
  case rreqReceive port => exact execRreqReceive_paces port s
  case rreqExecute port => exact execRreqExecute_paces port s
  case rrspReceive port => exact execRrspReceive_paces port s
  case rraTmo tag => exact execRraTmo_paces tag s
  case inoteReceive port => exact execInoteReceive_paces port s
  case offsetWindowEnd => exact execOffsetWindowEnd_paces s
  case holdoverTimerExpiry => exact execHoldoverTimerExpiry_paces s
  case hordy => exact execHordy_paces s
  case freqLock => exact execFreqLock_paces s
  case flockLost => exact execFlockLost_paces s
  case buildOutDecay => exact execBuildOutDecay_paces s
  case planeRevert => exact execPlaneRevert_paces s
  case refSignalLoss ref => exact execRefSignalLoss_paces ref s
  case refQual ref => exact execRefQual_paces ref s
  case refDisq ref => exact execRefDisq_paces ref s
  case wtrExpiry ref => exact execWtrExpiry_paces ref s
  case refEdge pin phase => exact execRefEdge_paces pin phase s
  case todSentence uart ok utc => exact execTodSentence_paces uart ok utc s
  case ptpMessage msg => exact execPtpMessage_paces msg s
  case hoTrace => exact execHoTrace_paces s
  case chainCalDone hops => exact execChainCalDone_paces hops s
  case driftCheck tap trip => exact execDriftCheck_paces tap trip s
  case armArrive line => exact execArmArrive_paces line s
  case tapMoment line => exact execTapMoment_paces line s
  case fireEdge line phase => exact execFireEdge_paces line phase s
  case regionPeriodEnd edge period => exact execRegionPeriodEnd_paces edge period s
  case xcStrobe xc phase => exact execXcStrobe_paces xc phase s
  case xcRelease xc phase retaken => exact execXcRelease_paces xc phase retaken s
  case xcalDone tap lat0 lat1 lat2 lat3 => exact execXcalDone_paces tap lat0 lat1 lat2 lat3 s
  case stopreq tap => exact execStopreq_paces tap s
  case regionRun edge op => exact execRegionRun_paces edge op s
  case opcalDone tap period => exact execOpcalDone_paces tap period s
  case heartbeat edge => exact execHeartbeat_paces edge s
  case engineDone edge => exact execEngineDone_paces edge s
  case engStart edge ctx => exact execEngStart_paces edge ctx s
  case engRack edge => exact execEngRack_paces edge s
  case rgnRack edge => exact execRgnRack_paces edge s
  case engStatus eng words => exact execEngStatus_paces eng words s
  case txSof tap fid cls phase => exact execTxSof_paces tap fid cls phase s
  case rxSof tap cls phase => exact execRxSof_paces tap cls phase s
  case plumbSend tap => exact execPlumbSend_paces tap s
  case plumbReceive tap pay => exact execPlumbReceive_paces tap pay s
  case plumbTimeout tap => exact execPlumbTimeout_paces tap s
  case swevt input => exact execSwevt_paces input s
  case pulseEdge out => exact execPulseEdge_paces out s
  case short out => exact execShort_paces out s
  case shortRetry out still => exact execShortRetry_paces out still s
  case openLoad out => exact execOpenLoad_paces out s
  case openIn pin => exact execOpenIn_paces pin s
  case ppsInv pin => exact execPpsInv_paces pin s
  case uartInv uart => exact execUartInv_paces uart s
  case threadAged t => exact execThreadAged_paces t s
  case nop t => exact execNop_paces t s
  case halt t => exact execHalt_paces t s
  case jmp t => exact execJmp_paces t s
  case loop t => exact execLoop_paces t s
  case brf t => exact execBrf_paces t s
  case waitt t => exact execWaitt_paces t s
  case waittWake t => exact execWaittWake_paces t s
  case setb t => exact execSetb_paces t s
  case fire t => exact execFire_paces t s
  case fireat t => exact execFireat_paces t s
  case fireRetire t => exact execFireRetire_paces t s
  case arm t => exact execArm_paces t s
  case contrib t => exact execContrib_paces t s
  case sync t => exact execSync_paces t s
  case sig t => exact execSig_paces t s
  case sigEvt t => exact execSigEvt_paces t s
  case sigr t => exact execSigr_paces t s
  case waits t => exact execWaits_paces t s
  case fence t => exact execFence_paces t s
  case fenceDone tag => exact execFenceDone_paces tag s
  case fenceStall t => exact execFenceStall_paces t s
  case snap t => exact execSnap_paces t s
  case snapAt t => exact execSnapAt_paces t s
  case mark t => exact execMark_paces t s
  case badOp t => exact execBadOp_paces t s
  case parity t word => exact execParity_paces t word s
  case dieArrival gidx => exact execDieArrival_paces gidx s
  case arriveReceive port => exact execArriveReceive_paces port s
  case releaseReceive port => exact execReleaseReceive_paces port s
  case releaseDeliver port => exact execReleaseDeliver_paces port s
  case heldSend => exact execHeldSend_paces s
  case levelSat => exact execLevelSat_paces s
  case signal slot sem n dir tag => exact execSignal_paces slot sem n dir tag s
  case setevent slot sem => exact execSetevent_paces slot sem s
  case wait slot sem n dir ord rank tag => exact execWait_paces slot sem n dir ord rank tag s
  case coreSigr slot gte n dir tag => exact execCoreSigr_paces slot gte n dir tag s
  case cancel slot => exact execCancel_paces slot s
  case grant sem => exact execGrant_paces sem s
  case stagingQuery => exact execStagingQuery_paces s
  case fcAnswer count => exact execFcAnswer_paces count s
  case fctrTmo => exact execFctrTmo_paces s
  case rsigForward port => exact execRsigForward_paces port s
  case rsigReceive port => exact execRsigReceive_paces port s
  case pendingEntry port => exact execPendingEntry_paces port s
  case fcUpdate src chan count => exact execFcUpdate_paces src chan count s
  case remoteSignalExecute => exact execRemoteSignalExecute_paces s
  case gateStall idx => exact execGateStall_paces idx s
  case deadlockSample gidx => exact execDeadlockSample_paces gidx s
  case qprobeSend gidx => exact execQprobeSend_paces gidx s
  case qprobeReceive port => exact execQprobeReceive_paces port s
  case qprobeVerdict port => exact execQprobeVerdict_paces port s
  case sealReceive port => exact execSealReceive_paces port s
  case dissolveReceive port => exact execDissolveReceive_paces port s
  case admitReceive port => exact execAdmitReceive_paces port s
  case expelReceive port => exact execExpelReceive_paces port s
  case hubCensusSend gidx => exact execHubCensusSend_paces gidx s
  case censusReceive port => exact execCensusReceive_paces port s
  case censusDownReceive port => exact execCensusDownReceive_paces port s
  case quarantineEnd gidx => exact execQuarantineEnd_paces gidx s
  case watchdogExpiry => exact execWatchdogExpiry_paces s
  case expiryClear => exact execExpiryClear_paces s
  case sramPar => exact execSramPar_paces s
  case nvmProt addr => exact execNvmProt_paces addr s
  case imageLoad => exact execImageLoad_paces s
  case imageVerified ok => exact execImageVerified_paces ok s
  case stagingEraseDone => exact execStagingEraseDone_paces s
  case swreqTmo => exact execSwreqTmo_paces s
  case trialTimeout => exact execTrialTimeout_paces s
  case mwErr addr => exact execMwErr_paces addr s
  case hbTmo eng => exact execHbTmo_paces eng s
  case overrun t => exact execOverrun_paces t s
  case waitTmo agent => exact execWaitTmo_paces agent s
  case sqWdog t => exact execSqWdog_paces t s
  case capturePauseEnd => exact execCapturePauseEnd_paces s
  case estatTmo eng => exact execEstatTmo_paces eng s
  case capsuleComplete => exact execCapsuleComplete_paces s
  case capsuleMirrored => exact execCapsuleMirrored_paces s
  case engResetTimeout eng => exact execEngResetTimeout_paces eng s
  case rgnResetTimeout tap => exact execRgnResetTimeout_paces tap s
  case soloFire => exact execSoloFire_paces s
  case soloTmo => exact execSoloTmo_paces s
  case recordWrite => exact execRecordWrite_paces s
  case evupReceive port => exact execEvupReceive_paces port s
  case snapshotDue => exact execSnapshotDue_paces s
  case tclkRail => exact execTclkRail_paces s
  case tempSample temp => exact execTempSample_paces temp s
  case mainReset => exact execMainReset_paces s
  case mainResetRelease => exact execMainResetRelease_paces s
  case hostReset => exact execHostReset_paces s
  case hostResetRelease => exact execHostResetRelease_paces s
  case freqOk port ok => exact execFreqOk_paces port ok s
  case ageingReady => exact execAgeingReady_paces s
  case stagingProgram n => exact execStagingProgram_paces n s
  case debugReset => exact execDebugReset_paces s

/-! ### Good order -/

theorem Paced.kept {c d : Chip} (h : Paced c d) (hkept : c.tk.kept) : d.tk.kept := by
  obtain ⟨hfrc, hanchor, hrate, hstage⟩ := hkept
  refine ⟨h.frc ▸ hfrc, ?_, h.rate ▸ hrate, fun r hr => (h.staged r hr).elim (hstage r) id⟩
  rw [h.frcAnchor, h.frc, hanchor]

theorem kept_of_clock {c : Chip} {t : TkState} (h : c.clock = t) (hkept : t.kept) : c.tk.kept := by
  subst h
  exact hkept

/-- An applied step leaves the count, the anchor's tick and RATE (R68). -/
theorem TkState.stepped_fields (t : TkState) :
    t.stepped.frc = t.frc ∧ t.stepped.frcAnchor = t.frcAnchor ∧ t.stepped.rate = t.rate ∧ t.stepped.rateStage = t.rateStage := by
  unfold TkState.stepped
  split
  · exact ⟨rfl, rfl, rfl, rfl⟩
  · split
    · exact ⟨rfl, rfl, rfl, rfl⟩
    · exact ⟨rfl, rfl, rfl, rfl⟩

/-- The anchor set at a tick is that tick; the count and RATE stand (R63, R64). -/
theorem TkState.anchor_fields (t : TkState) :
    t.anchor.frc = t.frc ∧ t.anchor.frcAnchor = t.frc ∧ t.anchor.rate = t.rate ∧ t.anchor.rateStage = t.rateStage := by
  unfold TkState.anchor
  generalize t.exact = x
  exact ⟨rfl, rfl, rfl, rfl⟩

/-- The count of a boundary's clock is that of its tick, and so is its anchor (R64). -/
theorem TkState.boundary_frc (t : TkState) :
    (t.anchor.stepped).rateTake.frc = t.frc ∧ (t.anchor.stepped).rateTake.frcAnchor = t.frc := by
  obtain ⟨-, -, hfrc, -, hanchor, -⟩ := t.anchor.stepped.rateTake_fields
  obtain ⟨hstepped, hsame, -⟩ := t.anchor.stepped_fields
  obtain ⟨hnow, hset, -⟩ := t.anchor_fields
  exact ⟨hfrc.trans (hstepped.trans hnow), hanchor.trans (hsame.trans hset)⟩

theorem TkState.later_fields {t u : TkState} {n : Nat} (h : t.later n = u) :
    u.frc = (t.frc + n) % 2 ^ 64 ∧ u.frcAnchor = t.frcAnchor ∧ u.rate = t.rate ∧ u.rateStage = t.rateStage := by
  subst h
  exact ⟨rfl, rfl, rfl, rfl⟩

/-- A boundary's clock is in good order: its anchor is its own tick, and a 64-bit RATE is taken (R64 to R66). -/
theorem TkState.kept_boundary {t : TkState} (hkept : t.kept) : (((t.later (1024 - t.frc % 1024)).anchor.stepped).rateTake).kept := by
  obtain ⟨hfrc, -, hrate, hstage⟩ := hkept
  obtain ⟨hnow, hanchor⟩ := (t.later (1024 - t.frc % 1024)).boundary_frc
  obtain ⟨hrates, hnone, -⟩ := (t.later (1024 - t.frc % 1024)).anchor.stepped.rateTake_fields
  obtain ⟨-, -, hsteppedRate, hsteppedStage⟩ := (t.later (1024 - t.frc % 1024)).anchor.stepped_fields
  obtain ⟨-, -, hanchorRate, hanchorStage⟩ := (t.later (1024 - t.frc % 1024)).anchor_fields
  generalize ht : t.later (1024 - t.frc % 1024) = u at *
  obtain ⟨hlater, -, hlaterRate, hlaterStage⟩ := TkState.later_fields ht
  refine ⟨?_, ?_, ?_, fun r hr => ?_⟩
  · rw [hnow, hlater]
    exact Nat.mod_lt _ (Nat.two_pow_pos 64)
  · rw [hanchor, hnow, hlater]
    omega
  · rw [hrates, hsteppedStage, hsteppedRate, hanchorStage, hanchorRate, hlaterStage, hlaterRate]
    cases h : t.rateStage with
    | none => exact hrate
    | some r => exact hstage r h
  · rw [hnone] at hr
    exact nomatch hr

/-- Between boundaries the anchor stays that of the last one (R63). -/
theorem TkState.kept_later {t : TkState} (hkept : t.kept) (hinside : t.frc % 1024 ≠ 1023) : (t.later 1).kept := by
  obtain ⟨hfrc, hanchor, hrate, hstage⟩ := hkept
  generalize ht : t.later 1 = u
  obtain ⟨hlater, hlaterAnchor, hlaterRate, hlaterStage⟩ := TkState.later_fields ht
  refine ⟨hlater ▸ Nat.mod_lt _ (Nat.two_pow_pos 64), ?_, hlaterRate ▸ hrate, hlaterStage ▸ hstage⟩
  rw [hlaterAnchor, hlater]
  omega

/-! ### A tick -/

section Tick

variable {c : Chip}

/-- A tick on a boundary: the boundary is done (R64). -/
theorem Chip.tick_boundary (hrun : c.tk.tclk = true) (hlast : c.tk.frc % 1024 = 1023) :
    c.tick.clock = ((c.clock.later (1024 - c.tk.frc % 1024)).anchor.stepped).rateTake := by
  have hnext : c.toBoundary = 1 := by
    unfold Chip.toBoundary
    omega
  have htick : c.tick = (c.elapse 1).boundaryDo [] := by
    unfold Chip.tick Chip.boundary
    rw [hnext, hrun]
    rfl
  rw [htick, Chip.boundaryDo_clock, Chip.elapse_clock, hlast]

/-- A tick between boundaries: the count is one higher (R58). -/
theorem Chip.tick_inside (hrun : c.tk.tclk = true) (hinside : c.tk.frc % 1024 ≠ 1023) : c.tick = c.elapse 1 := by
  have hnext : ¬ c.toBoundary = 1 := by
    unfold Chip.toBoundary
    omega
  unfold Chip.tick
  rw [hrun, if_neg hnext]
  rfl

/-- With TCLK absent no tick passes (R58). -/
theorem Chip.tick_stopped (hstopped : c.tk.tclk = false) : c.tick = c := by
  unfold Chip.tick
  rw [hstopped]
  rfl

/-- A tick moves the count on by one (R58). -/
theorem Chip.tick_frc (hrun : c.tk.tclk = true) : c.tick.tk.frc = (c.tk.frc + 1) % 2 ^ 64 := by
  by_cases hlast : c.tk.frc % 1024 = 1023
  · have hclock := Chip.tick_boundary hrun hlast
    rw [hlast] at hclock
    exact (congrArg TkState.frc hclock).trans (TkState.boundary_frc _).1
  · rw [Chip.tick_inside hrun hlast]
    exact congrArg TkState.frc (c.elapse_clock 0)

theorem Chip.tick_kept (hkept : c.tk.kept) : c.tick.tk.kept := by
  cases hrun : c.tk.tclk with
  | false =>
    rw [Chip.tick_stopped hrun]
    exact hkept
  | true =>
    by_cases hlast : c.tk.frc % 1024 = 1023
    · exact kept_of_clock (Chip.tick_boundary hrun hlast) (TkState.kept_boundary (t := c.clock) hkept)
    · rw [Chip.tick_inside hrun hlast]
      exact kept_of_clock (c.elapse_clock 0) (TkState.kept_later (t := c.clock) hkept hlast)

/-- Without a step beyond the bound a tick leaves the servo (R70, R291). -/
theorem Chip.elapse_sv (hquiet : c.sv.stepFrom = none) : (c.elapse 1).sv = c.sv := by
  have hwork : (c.passWork 1).beat = c.beat.later 1 := (c.passWork_beat 1).trans (if_neg Nat.one_ne_zero)
  have hgo : c.elapse 1 = if (c.passWork 1).inReset then c.passWork 1 else (c.passWork 1).servoSweep := by
    unfold Chip.elapse
    rw [hquiet]
    rfl
  have hbeat : (c.elapse 1).beat = c.beat.later 1 := by
    rw [hgo]
    exact beat_ite hwork ((Chip.servoSweep_beat _).trans hwork)
  exact (congrArg Beat.sv hbeat :)

end Tick

/-! ### The commands in which time passes, and the supply of the clock -/

section Commands

variable {s t : State}

theorem step_of_empty (hqueue : s.pending = []) : step s = .next { s with chip := s.chip.tick } := by
  unfold step
  split
  · rfl
  · next h => exact nomatch hqueue.symm.trans h

theorem State.apply_paces_at (s : State) {f : Chip → Chip} (h : Paced s.chip.newCycle (f s.chip.newCycle)) :
    Paces s.chip (s.apply f) := by
  intro t ht
  cases ht
  exact Paced.trans (b := s.chip.newCycle) (.of_clock rfl) h

/-- With VDD_AON up already its rise leaves the part but for the new cycle. -/
theorem exec_railGood_vddAon_on (slow : Bool) (haon : s.chip.pw.aon = true) :
    exec (.railGood .vddAon slow) s = .next { s with chip := s.chip.newCycle } := by
  refine congrArg (fun c : Chip => Host.Outcome.next { s with chip := c }) ?_
  exact if_pos haon

/-- With VDD_AON down already its fall leaves the part but for the new cycle. -/
theorem exec_railFail_vddAon_off (haon : s.chip.pw.aon = false) :
    exec (.railFail .vddAon) s = .next { s with chip := s.chip.newCycle } := by
  refine congrArg (fun c : Chip => Host.Outcome.next { s with chip := c }) ?_
  exact if_neg (Bool.eq_false_iff.1 haon)

theorem exec_anchorBoundary_kept (l : List Tap) (hkept : s.chip.tk.kept) (hexec : exec (.anchorBoundary l) s = .next t) :
    t.chip.tk.kept := by
  cases hrun : s.chip.tk.tclk with
  | true =>
    obtain ⟨u, hnext, -, hclock⟩ := exec_anchorBoundary_clock l hrun
    cases hnext.symm.trans hexec
    exact kept_of_clock hclock (TkState.kept_boundary (t := s.chip.clock) hkept)
  | false =>
    have hstands : ∀ faults, s.chip.newCycle.boundary faults = s.chip.newCycle := fun faults => if_neg (Bool.eq_false_iff.1 hrun)
    have hpaced : Paces s.chip (execAnchorBoundary l s) := by
      unfold execAnchorBoundary
      refine State.apply_paces_at s (.of_clock ?_)
      dsimp only
      rw [hstands]
      exact clock_ite rfl (Chip.settle_clock _)
    exact (hpaced t hexec).kept hkept

/-- The timekeeper at reset is in good order, whether TCLK runs or not (R74). -/
theorem TkState.kept_reset (run : Bool) : ({ TkState.reset with tclk := run } : TkState).kept := by
  refine ⟨Nat.two_pow_pos 64, rfl, ?_, fun r hr => nomatch hr⟩
  norm_num [TkState.reset]

/-- VDD_AON rises: the timekeeper is at reset (R74). -/
theorem exec_railGood_vddAon_kept (slow : Bool) (hkept : s.chip.tk.kept) (hexec : exec (.railGood .vddAon slow) s = .next t) :
    t.chip.tk.kept := by
  cases haon : s.chip.pw.aon with
  | true =>
    cases (exec_railGood_vddAon_on slow haon).symm.trans hexec
    exact hkept
  | false =>
    obtain ⟨-, -, htk, -⟩ := s.chip.newCycle.aonPowerOn_leaves
    cases (exec_railGood_vddAon slow haon).symm.trans hexec
    exact ((Chip.riseLog_supplied _ slow false 0).tk.trans htk) ▸ TkState.kept_reset _

/-- VDD_AON falls: the timekeeper is at reset, and TCLK is stopped (R361). -/
theorem exec_railFail_vddAon_kept (hkept : s.chip.tk.kept) (hexec : exec (.railFail .vddAon) s = .next t) : t.chip.tk.kept := by
  cases haon : s.chip.pw.aon with
  | true =>
    obtain ⟨-, -, htk, -⟩ := s.chip.newCycle.aonPowerOn_leaves
    have hfallen : s.chip.newCycle.aonFail.tk = { TkState.reset with tclk := false } :=
      congrArg (fun x : TkState => { x with tclk := false }) htk
    cases (exec_railFail_vddAon haon).symm.trans hexec
    exact hfallen ▸ TkState.kept_reset false
  | false =>
    cases (exec_railFail_vddAon_off haon).symm.trans hexec
    exact hkept

/-- Every step keeps the timekeeper in good order (R58, R63 to R66). -/
theorem step_kept (hkept : s.chip.tk.kept) (hstep : step s = .next t) : t.chip.tk.kept := by
  unfold step at hstep
  split at hstep
  · cases hstep
    exact Chip.tick_kept hkept
  next i rest hqueue =>
    by_cases hboundary : ∃ l, i = .anchorBoundary l
    · obtain ⟨l, rfl⟩ := hboundary
      exact exec_anchorBoundary_kept (s := { s with pending := rest }) l hkept hstep
    by_cases hrise : ∃ slow, i = .railGood .vddAon slow
    · obtain ⟨slow, rfl⟩ := hrise
      exact exec_railGood_vddAon_kept (s := { s with pending := rest }) slow hkept hstep
    by_cases hfall : i = .railFail .vddAon
    · subst hfall
      exact exec_railFail_vddAon_kept (s := { s with pending := rest }) hkept hstep
    · have hpaces := exec_paces i { s with pending := rest } (fun l h => hboundary ⟨l, h⟩) (fun b h => hrise ⟨b, h⟩) hfall
      exact (hpaces t hstep).kept hkept

end Commands

/-! ### The obligations -/

/-- Settles O2: an idle step is one tick, no command moves the count, and AON power-on sets it to 0. -/
theorem freeRunningCount : Obligations.FreeRunningCount := by
  refine ⟨fun s hqueue hrun => ?_, fun s hqueue hstopped => ?_, fun s t i hexec hboundary hrise hfall => ?_, fun s slow haon => ?_⟩
  · refine ⟨{ s with chip := s.chip.tick }, step_of_empty hqueue, hqueue, Chip.tick_frc hrun, fun hinside => ?_,
      fun hinside hquiet => ?_⟩
    · have hclock : s.chip.tick.clock = s.chip.clock.later 1 := by
        rw [Chip.tick_inside hrun hinside]
        exact s.chip.elapse_clock 0
      exact (congrArg TkState.tAnchor hclock :)
    · exact (congrArg Chip.sv (Chip.tick_inside hrun hinside)).trans (Chip.elapse_sv hquiet)
  · rw [step_of_empty hqueue, Chip.tick_stopped hstopped]
  · exact (exec_paces i s hboundary hrise hfall t hexec).frc
  · obtain ⟨-, -, htk, -⟩ := s.chip.newCycle.aonPowerOn_leaves
    exact ⟨_, exec_railGood_vddAon slow haon, rfl,
      congrArg TkState.frc ((Chip.riseLog_supplied _ slow false 0).tk.trans htk)⟩

/-- Settles O25: every step keeps the timekeeper in good order, and so the anchor within 1,023 ticks. -/
theorem timekeeperKept : Obligations.TimekeeperKept := by
  intro s t hkept hstep
  have hafter := step_kept hkept hstep
  have hanchor : t.chip.tk.frcAnchor = t.chip.tk.frc - t.chip.tk.frc % 1024 := hafter.2.1
  exact ⟨hafter, by omega, by omega⟩

end Sys2Proof.Machine
end
